-- ==== Sys2Proof/Word.lean ====
section
/-! DEFINITION. The word types of the model: bytes, the widths the spec's registers and fields use, digests, byte
strings and sparse tables. Nothing here computes; helpers over these types stand in Machine/Bits.lean. -/
namespace Sys2Proof

/-- One byte. -/
abbrev Byte := BitVec 8
/-- An 8-bit field. -/
abbrev W8 := BitVec 8
/-- A 16-bit field. -/
abbrev W16 := BitVec 16
/-- A 32-bit register or field. -/
abbrev W32 := BitVec 32
/-- A 64-bit field. -/
abbrev W64 := BitVec 64
/-- A SHA-384 or HMAC-SHA-384 value (R10, R175). -/
abbrev Digest := BitVec 384
/-- A byte string, first byte at the lowest offset (R10). -/
abbrev Bytes := List Byte
/-- A sparse table by number: rising keys, no entry equal to what an unlisted key reads as. -/
abbrev Sparse (α : Type) := List (Nat × α)

end Sys2Proof
end

