-- ==== Sys2Proof/Syntax.lean ====
section
/-! DEFINITION. The commands the block takes: one constructor of `Instr` for each row of spec/opcode_table.json, with
the operands the spec's rules give the command. Where a rule's outcome depends on the world outside the FAB domain
(what a pin shows, whether a signature component verifies, how deep a media read had to climb), the operand carries
that answer, so that a claim holds for every answer (log 1). -/
namespace Sys2Proof

/-- One of two: PF0/PF1, port 0/port 1, bank 0/bank 1. -/
inductive Pf where
  | p0 | p1
  deriving DecidableEq, Repr

/-- A function: `vf = 0` is the PF itself, 1 to 127 its VFs (R278). -/
structure Func where
  pf : Pf
  vf : Nat
  deriving DecidableEq, Repr

/-- Who issues a command: the management path or a function's queue (R341). -/
inductive Source where
  | mgt
  | fn (f : Func)
  deriving DecidableEq, Repr

/-- The handle of one command: its source, its submission queue and its CID; for the path the command slot and the
controller ID that the request names (R573, R574). -/
structure Tag where
  src  : Source
  sqid : Nat
  cid  : W16
  deriving DecidableEq, Repr

/-- Strap levels at a sampling point (R54, R86). -/
structure Straps where
  goldenN  : Bool
  bifurc   : Bool
  mgtAddr  : BitVec 3
  kscopeN  : Bool
  deriving DecidableEq, Repr

/-- Image slots (R142). -/
inductive SlotId where
  | g | a | b
  deriving DecidableEq, Repr

/-- What the world answers to a flush (R71, R84, R513, R514): its duration and which stores committed. -/
structure FlushResult where
  flushMs    : W32
  journalOk  : Bool
  manifestOk : Bool
  stopOk     : Bool
  deriving DecidableEq, Repr

/-- Cause of a Fundamental reset: levels of PERST0_N and PERST1_N (`true` = asserted), or internal (R57). -/
inductive FundCause where
  | perst (p0 p1 : Bool)
  | internal
  deriving DecidableEq, Repr

/-- Paths to the recovery mailbox (R128). -/
inductive RcvPath where
  | pcie | mgt
  deriving DecidableEq, Repr

/-- How the erases and programs of a slot write end (R161, R255). -/
inductive SlotWrite where
  | done | eraseFails | programFails
  deriving DecidableEq, Repr

/-- A read of a PF's BAR0 (R598): 1, 2, 4 or 8 bytes. -/
structure RegRead where
  pf     : Pf
  offset : Nat
  size   : Nat
  deriving DecidableEq, Repr

/-- The static fuse region (R90): four root-key digests, UDS, trims, lifecycle bits and the stored digest. -/
structure StaticFuses where
  roots     : List Digest
  uds       : BitVec 512
  trims     : BitVec 1536
  lifecycle : BitVec 128
  digest    : Digest
  deriving DecidableEq, Repr

/-- Whether the two components of a dual signature verify (R181). -/
structure DualVerdict where
  ec : Bool
  ml : Bool
  deriving DecidableEq, Repr

/-- The fields of a DUAL_SIG that its verifier compares (R181, R184), where the signature comes with an operand whose bytes
the model does not spell out. -/
structure SigHead where
  magic   : W32
  version : W16
  ctx     : W32
  keyId   : Digest
  deriving DecidableEq, Repr

/-- A DUAL_SIG of such an operand, and whether its components verify (R181). -/
structure SigAnswer where
  head : SigHead
  v    : DualVerdict
  deriving DecidableEq, Repr

/-- What the public-key engine and the array answer about one slot's image (R105, R108). -/
structure ImageEnv where
  endorse : DualVerdict
  header  : DualVerdict
  /-- units (offset / 32 within the slot) that read as uncorrectable -/
  badUnits : List Nat
  deriving DecidableEq, Repr

/-- What the world answers while Plinth runs (R98). -/
structure BootEnv where
  ddrOk       : Bool
  vaultMacOk  : Bool
  vaultSecs   : W64
  imageG      : ImageEnv
  imageA      : ImageEnv
  imageB      : ImageEnv
  /-- the P8 store of the boot control record commits -/
  recordOk    : Bool
  /-- the page programs of the P8 ledger records succeed -/
  ledgerOk    : Bool
  /-- the newest record of the boot partition, or of the general one, is found torn by an interrupted program (R238) -/
  tornBoot    : Bool
  tornGen     : Bool
  handoffUs   : W32
  deriving DecidableEq, Repr

/-- One IDE key (R211): stream 0 is the link stream, 1 to 4 selective. -/
inductive IdeSub where
  | pr | npr | cpl
  deriving DecidableEq, Repr

/-- A key position of a port: stream, key set, sub-stream, direction. -/
structure IdeKeyRef where
  stream : Nat
  keySet : Bool
  sub    : IdeSub
  tx     : Bool
  deriving DecidableEq, Repr

/-- SPDM responder instances (R213): the DOE mailbox of a port, or MCTP on the path. -/
inductive SpdmInst where
  | doe (port : Pf)
  | mctp
  deriving DecidableEq, Repr

/-- What NEGOTIATE_ALGORITHMS offers (R213). -/
structure SpdmOffer where
  ecdsaP384 : Bool
  sha384    : Bool
  secp384r1 : Bool
  aes256gcm : Bool
  deriving DecidableEq, Repr

/-- IDE_KM messages (R212). -/
inductive IdeKmMsg where
  | query
  | keyProg (k : IdeKeyRef) (value : BitVec 256)
  | kSetGo (k : IdeKeyRef)
  | kSetStop (k : IdeKeyRef)
  deriving DecidableEq, Repr

/-- Ledger partitions (R218). -/
inductive EvrPart where
  | boot | gen
  deriving DecidableEq, Repr

/-- What a link partner supports (R276): rate code 1 to 6, lanes, Flit mode. -/
structure LinkPartner where
  present : Bool
  rate    : Nat
  width   : Nat
  flit    : Bool
  deriving DecidableEq, Repr

/-- Configuration fields by name (R283, R284); `other` is a field the spec leaves to PCIe Base 6.0. -/
inductive CfgField where
  | vendorDevice | memorySpace | busMasterEnable | parityErrorResponse | serrEnable | interruptDisable
  | revisionClass | headerType | bar (n : Nat) | subsystemIds | romBar | capPointer | interruptPin
  | msiEnable | msiMultipleMessage | msiMask | msixEnable | msixFunctionMask | msixTableSize
  | powerState | ctoValue | initiateFlr | atsEnable
  | vfEnable | numVfs | vfMse | vfBar (n : Nat) | initialVfs | totalVfs | firstVfOffset | vfStride | vfDeviceId | pageSizes
  | msiVectors | msixTable | msixPba | flrCapable | ctoRanges | ctoDisableCapable | noSoftReset
  | atsQueueDepth | atsPageAligned | atsGlobalInvalidate
  | maxPayloadSupported | maxPayload | maxReadRequest | tags10 | l0sSupported | aspmL1Supported | aspmControl
  | l1SubstatesSupported | l1Substates | d1Supported | d2Supported | pmeD3cold | msi64 | msiPerVectorMask
  | tags14 | l0pSupported | aerPrefixLog | aerFlitLog | aerUncorrectable
  | ideLinkStreams | ideSelectiveStreams | interruptLine | cacheLineSize | statusErrors
  | serialNumber | capNext (offset : Nat) | other (offset : Nat)
  deriving DecidableEq, Repr

/-- A configuration request (R280). -/
inductive CfgReq where
  | read (f : CfgField)
  | write (f : CfgField) (v : W32)
  deriving DecidableEq, Repr

/-- Inputs of the interrupt mode (R293). -/
structure IntInputs where
  msix    : Bool
  msi     : Bool
  disable : Bool
  deriving DecidableEq, Repr

/-- DOE protocols (R287). -/
inductive DoeProtocol where
  | discovery | cmaSpdm | securedSpdm | unsupported
  deriving DecidableEq, Repr

/-- Error completions of a DMA request (R310). -/
inductive DmaError where
  | poisoned | unsupportedRequest | completerAbort
  deriving DecidableEq, Repr

/-- A fetched submission queue entry, as far as the fetch checks read it (R343). -/
structure Sqe where
  sqid   : Nat
  cid    : W16
  opcode : W8
  nsid   : W32
  /-- FUSE of Command Dword 0 -/
  fuse   : BitVec 2
  /-- Command Dwords 10 and 11, where a code of theirs chooses the command's row -/
  cdw10  : W32
  /-- the queue context was read without an uncorrectable error (R333) -/
  ctxOk  : Bool
  deriving DecidableEq, Repr

/-- Create I/O SQ operands (R313). `size` is 0-based. -/
structure NewSq where
  qid : Nat
  size : Nat
  base : W64
  cqid : Nat
  prio : BitVec 2
  contiguous : Bool
  deriving DecidableEq, Repr

/-- Create I/O CQ operands (R313). `size` is 0-based. -/
structure NewCq where
  qid : Nat
  size : Nat
  base : W64
  iv : Nat
  ien : Bool
  contiguous : Bool
  deriving DecidableEq, Repr

/-- Namespace Management create (R335, R336): the host data structure's fields. -/
structure NewNs where
  nsze : W64
  ncap : W64
  lbaf : BitVec 4
  iuCode : W8
  priv : Bool
  deriving DecidableEq, Repr

/-- Virtualization Management actions (R329, R330). -/
inductive VirtAct where
  | assignVq (f : Func) (n : Nat)
  | assignVi (f : Func) (n : Nat)
  | online (f : Func)
  | offline (f : Func)
  | primaryFlexible (rt : Bool) (n : Nat)
  deriving DecidableEq, Repr

/-- An LBA range of an I/O command; `nlb` is 0-based (R18). -/
structure Io where
  nsid : W32
  slba : W64
  nlb  : W16
  /-- numbers of the 4 KiB host pages that the transfer touches (R299) -/
  pages : List Nat
  deriving DecidableEq, Repr

/-- SGL descriptor types (R345). -/
inductive SglKind where
  | dataBlock | segment | lastSegment | bitBucket | keyed
  deriving DecidableEq, Repr

/-- An SGL descriptor (R345, R346). An empty list stands for PRPs. -/
structure SglDesc where
  kind   : SglKind
  addr   : W64
  length : Nat
  deriving DecidableEq, Repr

/-- A Dataset Management range (R406). -/
structure DsmRange where
  slba : W64
  len  : W32
  deriving DecidableEq, Repr

/-- How media reads of one command end (R376, R440): units of `lostDies` fail levels 0 to 9 for this command;
`answering` are Failed dies that still answer (R452); the codewords in `badCws` (IU key, codeword within the unit) fail
every level, 10 included; the cache lines in `cacheBad` report a DRAM error (R426). -/
structure MediaEnv where
  lostDies  : List Nat
  badCws    : List (Nat × Nat)
  answering : List Nat
  level     : Nat
  corrected : Nat
  cacheBad  : List Nat
  deriving DecidableEq, Repr

/-- A row that resynchronisation does not find whole (R444): its group, band index and page address, the channels whose
units fail levels 0 to 9, and whether P and Q mismatch in a way that reconstruction does not remove. -/
structure ResyncRow where
  group    : Nat
  band     : Nat
  row      : Nat
  lost     : List Nat
  mismatch : Bool
  deriving DecidableEq, Repr

/-- Reservation Register (R314). -/
structure RsvRegister where
  action : BitVec 3
  ignoreKey : Bool
  ptpl : BitVec 2
  curKey : W64
  newKey : W64
  deriving DecidableEq, Repr

/-- Reservation Acquire (R314). -/
structure RsvAcquire where
  action : BitVec 3
  ignoreKey : Bool
  rtype : W8
  curKey : W64
  preKey : W64
  deriving DecidableEq, Repr

/-- Reservation Release (R314). -/
structure RsvRelease where
  action : BitVec 3
  ignoreKey : Bool
  rtype : W8
  curKey : W64
  deriving DecidableEq, Repr

/-- How one die position answers at identification (R356). -/
structure DieProbe where
  die      : Nat
  answers  : Bool
  crcOk    : Bool
  profiled : Bool
  planes   : Nat
  blocks   : Nat
  pages    : Nat
  pageData : Nat
  spare    : Nat
  topMode  : Nat
  /-- (plane, block) pairs that carry the factory mark (R379) -/
  marks    : List (Nat × Nat)
  /-- the position holds a different die than before (R384) -/
  replaced : Bool
  deriving DecidableEq, Repr

/-- Why a retrain is requested by the channel (R363). -/
inductive RetrainWhy where
  | temperature (tjNow : Int)
  | dllDrift
  | transferErrors (codewords dies : Nat)
  | maxMode
  deriving DecidableEq, Repr

/-- The eye of one DQ as training measures it: its width in thousandths of a unit interval, its height in mV (R361). -/
structure Eye where
  milliUi : Nat
  mV : Nat
  deriving DecidableEq, Repr

/-- How a die operation ends (R376, R381). -/
inductive DieResult where
  | readDone (level corrected : Nat) (codewords : Nat)
  | readFailed (plane : Nat) (refreshedRecently : Bool)
  | passed
  | failed (plane block : Nat)
  deriving DecidableEq, Repr

/-- Newest measurement values (R465), in m°C, mW, mV and mA, and which sources are faulted (R466). -/
structure Meas where
  tj : Int
  pkgPwr : Int
  vhold : Int
  chgI : Int
  faulted : List Nat
  deriving DecidableEq, Repr

/-- Registers whose write changes a policy field (R502). -/
inductive PolicyReg where
  | slc | wl | hold
  deriving DecidableEq, Repr

/-- What the world answers during a restart (R525 to R528). -/
structure RestartEnv where
  /-- the newest anchor and its manifest verify -/
  newestOk   : Bool
  /-- the older retained checkpoint verifies -/
  olderOk    : Bool
  /-- IU keys of map shards that fail their digest in the newest checkpoint only -/
  shardBad   : List Nat
  /-- IU keys of map shards that fail in both retained checkpoints -/
  shardLost  : List Nat
  /-- the segment chain breaks, so that frontier scanning is needed -/
  chainBreak : Bool
  /-- IU keys in dump shards that fail their digest after reconstruction -/
  dumpBad    : List Nat
  restartMs  : W16
  deriving DecidableEq, Repr

/-- Why a full checkpoint starts (R518). -/
inductive CkptWhy where
  | interval | journalSize | shutdown | restart
  deriving DecidableEq, Repr

/-- Why a segment is written (R521). -/
inductive SegWhy where
  | full | age | keyTable | shutdown
  deriving DecidableEq, Repr

/-- The certificates EXPORT_START carries (R546), as far as the checks read them. -/
structure TargetCerts where
  /-- the Transport certificate (R187) -/
  xport     : Bytes
  rootDigest : Digest
  /-- key digests of the DeviceID and Alias DUAL_PUBs -/
  devidId   : Digest
  aliasId   : Digest
  devidSig  : SigAnswer
  aliasSig  : SigAnswer
  xportSig  : SigAnswer
  wellFormed : Bool
  deriving DecidableEq, Repr

/-- The session header BEGIN carries (R549), as far as the checks read it. -/
structure SessionHeader where
  delta     : Bool
  chainId   : BitVec 128
  chainSeq  : W32
  devidCertLen : Nat
  targetXportId : Digest
  rootDigest : Digest
  devidSig  : SigAnswer
  aliasSig  : SigAnswer
  aliasId   : Digest
  devidId   : Digest
  svn       : W32
  bytes     : Bytes
  deriving DecidableEq, Repr

/-- One record of a Maquette shard (R551). -/
inductive ShardRec where
  | ns (nsid : W32) (nsze ncap : W64) (lbaf iu : Nat) (bound : Bool)
  | data (iu : Nat) (kind : Nat) (shadow : Bool) (poison : List Nat) (body : List Bytes) (keyGen : Option (Nat × W32))
  | key (nsid : W32) (erased : Bool) (key : BitVec 512)
  | control (tag : Nat) (value : Bytes)
  | context (sqid : Nat) (cid : W16) (opcode : W8) (nsid : W32) (phase : Nat) (bytesDone : Nat) (order : Nat)
      (cqeStatus : W16) (cqeDw0 : W32)
  deriving DecidableEq, Repr

/-- A shard (R550): header fields, whether DIGEST and the GCM tag verify, and its plaintext records. -/
structure Shard where
  kind    : Nat
  round   : Nat
  index   : Nat
  nsid    : W32
  digest  : Digest
  intact  : Bool
  recs    : List ShardRec
  deriving DecidableEq, Repr

/-- A manifest (R553). -/
structure Manifest where
  delta      : Bool
  rounds     : Nat
  chainId    : BitVec 128
  chainSeq   : W32
  sourceSvn  : W32
  shardCount : Nat
  contexts   : Nat
  keys       : Nat
  namespaces : Nat
  devidId    : Digest
  aliasId    : Digest
  xportId    : Digest
  prevDigest : Digest
  chain      : Digest
  sig        : SigAnswer
  bytes      : Bytes
  deriving DecidableEq, Repr

/-- MCTP message types of R572. -/
inductive MctpType where
  | control | nvmeMi | spdm | securedSpdm | vendorPci | other
  deriving DecidableEq, Repr

/-- A received MCTP packet (R570). -/
structure MctpPkt where
  integrityOk : Bool
  som  : Bool
  eom  : Bool
  seq  : BitVec 2
  eid  : W8
  mtype : MctpType
  length : Nat
  /-- first bytes of the message after its type byte, in its first packet -/
  head  : Bytes
  deriving DecidableEq, Repr

/-- The commands, one constructor per row of spec/opcode_table.json, in the table's order. -/
inductive Instr where
  /-- COLD_RESET (R19). -/
  | coldReset
  /-- POWER_ON_RESET (R19). -/
  | powerOnReset
  /-- INTERNAL_RESET_RELEASE (R48). -/
  | internalResetRelease (pwrfailHigh : Bool)
  /-- STRAP_SAMPLE (R54). -/
  | strapSample (levels : Straps)
  /-- PWRFAIL_RELEASE_WAIT (R48). -/
  | pwrfailReleaseWait
  /-- FUNDAMENTAL_RESET (R57). -/
  | fundamentalReset (cause : FundCause) (r : FlushResult)
  /-- LINK_RESET (R308). -/
  | linkReset (port : Pf)
  /-- SUBSYSTEM_RESET (R308). -/
  | subsystemReset (value : W32)
  /-- FLR (R308). -/
  | flr (f : Func)
  /-- VF_ENABLE_CLEAR (R304). -/
  | vfEnableClear (pf : Pf)
  /-- CONTROLLER_RESET (R308). -/
  | controllerReset (f : Func)
  /-- SHUTDOWN_NOTIFICATION (R518). -/
  | shutdownNotification (f : Func)
  /-- BROWN_OUT (R49). -/
  | brownOut
  /-- PWRFAIL_N_FALL (R72). -/
  | pwrfailFall (r : FlushResult)
  /-- FLUSH_COMPLETE (R71). -/
  | flushComplete (pwrfailHigh : Bool)
  /-- THERMAL_TRIP (R78). -/
  | thermalTrip (r : FlushResult)
  /-- SYSREF_LOSS (R81). -/
  | sysrefLoss (r : FlushResult)
  /-- ARMREF_LOSS (R81). -/
  | armrefLoss
  /-- XT32_LOSS (R81). -/
  | xt32Loss
  /-- OPTION_LOAD_ATTEMPT (R90). -/
  | optionLoadAttempt (fuses : StaticFuses)
  /-- PLINTH_BOOT (R98). -/
  | plinthBoot (env : BootEnv)
  /-- CONFIG_SPACE_BUILD (R280). -/
  | configSpaceBuild
  /-- TRIAL_WATCHDOG_EXPIRY (R118). -/
  | trialWatchdogExpiry (r : FlushResult)
  /-- TRIAL_CONFIRM (R116). -/
  | trialConfirm (prev : ImageEnv) (stored : Bool)
  /-- DEEP_SLEEP_ARM (R121). -/
  | deepSleepArm (entryTime : W64)
  /-- STATUS (R127). -/
  | rcvStatus (path : RcvPath)
  /-- OPEN (R127). -/
  | rcvOpen (path : RcvPath)
  /-- ERASE_SLOT (R127). -/
  | rcvEraseSlot (path : RcvPath) (arg0 : W32) (ok : Bool)
  /-- WRITE_CHUNK (R129). -/
  | rcvWriteChunk (path : RcvPath) (arg0 : W32) (arg1 : W32) (arg2 : W32) (data : Bytes) (ok : Bool)
  /-- VERIFY (R127). -/
  | rcvVerify (path : RcvPath) (arg0 : W32) (env : ImageEnv)
  /-- COMMIT (R131). -/
  | rcvCommit (path : RcvPath) (arg0 : W32) (auth : Bytes) (sig : DualVerdict) (stored : Bool)
  /-- REBOOT (R127). -/
  | rcvReboot (path : RcvPath) (r : FlushResult)
  /-- CLOSE (R127). -/
  | rcvClose (path : RcvPath)
  /-- RECOVERY_WINDOW_READ (R170). -/
  | recoveryWindowRead (offset : Nat) (uncorrectable : Bool)
  /-- PROGRAM (R149). -/
  | iaProgram (page : Nat) (len : W32) (first : Nat) (words : List W32) (sent : Nat)
  /-- SECTOR_ERASE (R148). -/
  | iaSectorErase (sector : Nat) (sent : Nat)
  /-- REMAP (R161). -/
  | iaRemap (sector : Nat) (sent : Nat)
  /-- LOCK_CLEAR (R166). -/
  | iaLockClear (sector : Nat) (sent : Nat)
  /-- LOCK_SET (R166). -/
  | iaLockSet (sector : Nat) (sent : Nat)
  /-- INFO (R152). -/
  | iaInfo (bank : Pf) (sent : Nat)
  /-- SUSPEND (R156). -/
  | iaSuspend (bank : Pf) (early : Bool)
  /-- SUSPEND_TAKES_EFFECT (R157). -/
  | iaSuspendTakesEffect (bank : Pf)
  /-- RESUME (R158). -/
  | iaResume (bank : Pf)
  /-- CLEAR_STATUS (R153). -/
  | iaClearStatus (bank : Pf)
  /-- READ_ARRAY (R152). -/
  | iaReadArray (bank : Pf)
  /-- IA_BANK_READ (R153). -/
  | iaBankRead (offset : Nat) (uncorrectable : Bool)
  /-- IA_OPERATION_COMPLETE (R154). -/
  | iaOperationComplete (bank : Pf) (ok : Bool)
  /-- GET_NONCE (R192). -/
  | getNonce (tag : Tag) (length : W16) (part : BitVec 2)
  /-- INSTALL (R193). -/
  | ownerInstall (tag : Tag) (length : W16) (part : BitVec 2) (data : Bytes) (sig : DualVerdict) (stored : Bool)
  /-- LOCK (R193). -/
  | ownerLock (tag : Tag) (length : W16) (part : BitVec 2) (data : Bytes) (sig : DualVerdict) (stored : Bool)
  /-- UNLOCK (R193). -/
  | ownerUnlock (tag : Tag) (length : W16) (part : BitVec 2) (data : Bytes) (sig : DualVerdict) (stored : Bool)
  /-- REPLACE (R193). -/
  | ownerReplace (tag : Tag) (length : W16) (part : BitVec 2) (data : Bytes) (sig : DualVerdict) (stored : Bool)
  /-- RELEASE (R193). -/
  | ownerRelease (tag : Tag) (length : W16) (part : BitVec 2) (data : Bytes) (sig : DualVerdict) (stored : Bool)
  /-- KSC_DISABLE (R193). -/
  | ownerKscDisable (tag : Tag) (length : W16) (part : BitVec 2) (data : Bytes) (sig : DualVerdict) (stored : Bool)
  /-- KSC_ENABLE (R193). -/
  | ownerKscEnable (tag : Tag) (length : W16) (part : BitVec 2) (data : Bytes) (sig : DualVerdict) (stored : Bool)
  /-- SPLIT_PART_TIMEOUT (R198). -/
  | splitPartTimeout
  /-- TRNG_HEALTH_FAIL (R200). -/
  | trngHealthFail (samples : List Nat := [])
  /-- TRNG_RESEED_ATTEMPT (R201). -/
  | trngReseedAttempt (samples : List Nat)
  /-- TRNG_PERIODIC_RESTART (R203). -/
  | trngPeriodicRestart (samples : List Nat)
  /-- DRBG_RESEED (R200). -/
  | drbgReseed
  /-- KEY_SLOT_GENERATE (R206). -/
  | keySlotGenerate (pf : Pf) (slot : BitVec 11)
  /-- KEY_SLOT_ERASE (R208). -/
  | keySlotErase (pf : Pf) (slot : BitVec 11)
  /-- OLD_KEY_ZEROISE (R206). -/
  | oldKeyZeroise (slot : Nat)
  /-- KEY_TABLE_STORE_COMMIT (R209). -/
  | keyTableStoreCommit (ok : Bool)
  /-- KSPLIT_WRITE (R353). -/
  | ksplitWrite (pf : Pf) (value : W32)
  /-- IDE_KM_QUERY (R212). -/
  | ideKmQuery (port : Pf) (session : Nat)
  /-- IDE_KM_KEY_PROG (R212). -/
  | ideKmKeyProg (port : Pf) (session : Nat) (key : IdeKeyRef) (value : BitVec 256 := 0)
  /-- IDE_KM_K_SET_GO (R212). -/
  | ideKmKSetGo (port : Pf) (session : Nat) (key : IdeKeyRef)
  /-- IDE_KM_K_SET_STOP (R212). -/
  | ideKmKSetStop (port : Pf) (session : Nat) (key : IdeKeyRef)
  /-- GET_VERSION (R213). -/
  | spdmGetVersion (inst : SpdmInst)
  /-- GET_CAPABILITIES (R213). -/
  | spdmGetCapabilities (inst : SpdmInst) (body : Bytes := [])
  /-- NEGOTIATE_ALGORITHMS (R213). -/
  | spdmNegotiateAlgorithms (inst : SpdmInst) (offers : SpdmOffer) (body : Bytes := [])
  /-- GET_DIGESTS (R213). -/
  | spdmGetDigests (inst : SpdmInst)
  /-- GET_CERTIFICATE (R213). -/
  | spdmGetCertificate (inst : SpdmInst) (slot : Nat) (offset : Nat) (length : Nat)
  /-- CHALLENGE (R213). -/
  | spdmChallenge (inst : SpdmInst) (slot : Nat) (summary : W8 := 0) (body : Bytes := [])
  /-- GET_MEASUREMENTS (R214). -/
  | spdmGetMeasurements (inst : SpdmInst) (index : Nat) (signed : Bool) (body : Bytes := [])
  /-- KEY_EXCHANGE (R213). -/
  | spdmKeyExchange (inst : SpdmInst) (slot : Nat) (summary : W8 := 0) (body : Bytes := [])
  /-- SPDM_FINISH (R213). -/
  | spdmFinish (inst : SpdmInst) (session : Nat) (mac : Digest)
  /-- KEY_UPDATE (R213). -/
  | spdmKeyUpdate (inst : SpdmInst) (session : Nat) (op : W8 := 1) (mark : W8 := 0)
  /-- HEARTBEAT (R213). -/
  | spdmHeartbeat (inst : SpdmInst) (session : Nat)
  /-- END_SESSION (R213). -/
  | spdmEndSession (inst : SpdmInst) (session : Nat)
  /-- CHUNK_GET (R213). -/
  | spdmChunkGet (inst : SpdmInst) (handle : Nat) (seq : Nat)
  /-- VENDOR_DEFINED_REQUEST (R213). -/
  | spdmVendorDefined (inst : SpdmInst) (session : Option Nat) (msg : IdeKmMsg)
  /-- LEDGER_SIGN (R226). -/
  | ledgerSign (signs : Bool)
  /-- EVR_PAGE_PROGRAM (R235). -/
  | evrPageProgram (part : EvrPart) (ok : Bool)
  /-- DROPPED_EVENT_REPORT (R236). -/
  | droppedEventReport
  /-- EVR_READ (R241). -/
  | evrRead (tag : Tag) (part : BitVec 2) (startSeq : W32) (count : BitVec 14)
  /-- EVR_ACK (R242). -/
  | evrAck (tag : Tag) (part : BitVec 2) (seq : W32) (hash : BitVec 128) (ok : Bool)
  /-- EVR_CLEAR (R246). -/
  | evrClear (tag : Tag) (part : BitVec 1) (uptoSeq : W32) (length : W16) (data : Bytes) (sig : DualVerdict) (ok : Bool)
  /-- FIRMWARE_IMAGE_DOWNLOAD (R255). -/
  | firmwareImageDownload (tag : Tag) (offset : Nat) (data : Bytes) (out : SlotWrite) (stored : Bool)
  /-- COMMIT_ACTION_STAGE (R263). -/
  | commitActionStage (tag : Tag) (slot : BitVec 3) (env : ImageEnv) (stored : Bool)
  /-- COMMIT_ACTION_PENDING (R263). -/
  | commitActionPending (tag : Tag) (slot : BitVec 3) (env : ImageEnv) (stored : Bool)
  /-- COMMIT_ACTION_ACTIVATE_STAGED (R264). -/
  | commitActionActivateStaged (tag : Tag) (slot : BitVec 3) (env : ImageEnv) (stored : Bool)
  /-- UPDATE_GATE_QUERY (R261). -/
  | updateGateQuery (tag : Tag) (length : W16)
  /-- LINK_TRAINING (R276). -/
  | linkTraining (port : Pf) (partner : LinkPartner)
  /-- LANE_FAILURE (R276). -/
  | laneFailure (port : Pf)
  /-- CONFIG_REQUEST (R280). -/
  | configRequest (f : Func) (req : CfgReq)
  /-- BUS_MASTER_ENABLE_CLEAR (R302). -/
  | busMasterEnableClear (f : Func)
  /-- INTERRUPT_MODE_CHANGE (R294). -/
  | interruptModeChange (f : Func) (inputs : IntInputs)
  /-- ATS_ENABLE_CHANGE (R298). -/
  | atsEnableChange (f : Func) (enable : Bool)
  /-- ATS_TRANSLATION_COMPLETION (R300). -/
  | atsTranslationCompletion (f : Func) (page : Nat) (readOk : Bool) (writeOk : Bool) (needWrite : Bool) (tag : Tag)
  /-- INVALIDATE_REQUEST (R301). -/
  | invalidateRequest (f : Func) (itag : Nat) (lo : Nat) (hi : Nat)
  /-- INVALIDATE_COMPLETION (R301). -/
  | invalidateCompletion (f : Func) (itag : Nat)
  /-- COMPLETION_TIMEOUT (R306). -/
  | completionTimeout (tag : Tag)
  /-- UNEXPECTED_COMPLETION (R306). -/
  | unexpectedCompletion (f : Func)
  /-- LINK_DOWN (R307). -/
  | linkDown (port : Pf)
  /-- DOE_OBJECT (R287). -/
  | doeObject (port : Pf) (protocol : DoeProtocol) (dwords : Nat) (head : Bytes := [])
  /-- IDE_CHECK_FAILURE (R310). -/
  | ideCheckFailure (port : Pf) (stream : Nat) (sub : IdeSub)
  /-- DMA_ERROR_COMPLETION (R310). -/
  | dmaErrorCompletion (tag : Tag) (kind : DmaError)
  /-- MMIO_DOORBELL_WRITE (R324). -/
  | mmioDoorbellWrite (f : Func) (qid : Nat) (isCq : Bool) (value : W32)
  /-- SHADOW_SWEEP (R322). -/
  | shadowSweep (f : Func) (qid : Nat) (shadowTail : Nat)
  /-- PARK_TIMEOUT (R321). -/
  | parkTimeout (f : Func) (qid : Nat)
  /-- CQ_HEAD_REREAD (R323). -/
  | cqHeadReread (f : Func) (qid : Nat) (head : Nat)
  /-- COMMAND_FETCH (R343). -/
  | commandFetch (f : Func) (sqe : Sqe)
  /-- FETCH_RESUME (R326). -/
  | fetchResume (f : Func)
  /-- DELETE_IO_SQ (R313). -/
  | deleteIoSq (tag : Tag) (qid : Nat)
  /-- DELETE_IO_CQ (R313). -/
  | deleteIoCq (tag : Tag) (qid : Nat)
  /-- CREATE_IO_SQ (R313). -/
  | createIoSq (tag : Tag) (q : NewSq)
  /-- CREATE_IO_CQ (R313). -/
  | createIoCq (tag : Tag) (q : NewCq)
  /-- GET_LOG_PAGE (R315). -/
  | getLogPage (tag : Tag) (lid : W8) (length : Nat) (offset : Nat) (rae : Bool)
  /-- BOOT_LEDGER_LOG (R243). -/
  | bootLedgerLog (tag : Tag) (length : Nat) (offset : Nat)
  /-- DIE_HEALTH_LOG (R386). -/
  | dieHealthLog (tag : Tag) (length : Nat) (offset : Nat)
  /-- ARMATURE_TRACE_LOG (R494). -/
  | armatureTraceLog (tag : Tag) (lsp : BitVec 7) (length : Nat) (offset : Nat)
  /-- UNIT_STATE_TABLE_LOG (R581). -/
  | unitStateTableLog (tag : Tag) (rae : Bool) (length : Nat) (offset : Nat)
  /-- PARITY_STATUS_LOG (R456). -/
  | parityStatusLog (tag : Tag) (length : Nat) (offset : Nat)
  /-- IDENTIFY (R319). -/
  | identify (tag : Tag) (cns : W8) (nsid : W32)
  /-- ABORT (R313). -/
  | abort (tag : Tag) (sqid : Nat) (cid : W16)
  /-- SET_FEATURES (R316). -/
  | setFeatures (tag : Tag) (fid : W8) (sv : Bool) (nsid : W32) (cdw11 : W32) (data : BitVec 128)
  /-- GET_FEATURES (R316). -/
  | getFeatures (tag : Tag) (fid : W8) (nsid : W32) (cdw11 : W32)
  /-- NAMESPACE_KEY_BINDING (R338). -/
  | namespaceKeyBinding (tag : Tag) (sv : Bool) (nsid : W32) (cdw11 : W32)
  /-- PACKAGE_POWER_LIMIT (R318). -/
  | packagePowerLimit (tag : Tag) (sv : Bool) (cdw11 : W32)
  /-- ASYNCHRONOUS_EVENT_REQUEST (R612). -/
  | asynchronousEventRequest (tag : Tag)
  /-- NAMESPACE_CREATE (R335). -/
  | namespaceCreate (tag : Tag) (ns : NewNs)
  /-- NAMESPACE_DELETE (R344). -/
  | namespaceDelete (tag : Tag) (nsid : W32)
  /-- NAMESPACE_DELETE_COMPLETE (R344). -/
  | namespaceDeleteComplete (nsid : W32)
  /-- NAMESPACE_ATTACHMENT (R313). -/
  | namespaceAttachment (tag : Tag) (nsid : W32) (attach : Bool) (ctrls : List Nat)
  /-- VIRTUALIZATION_MANAGEMENT (R330). -/
  | virtualizationManagement (tag : Tag) (act : VirtAct)
  /-- DOORBELL_BUFFER_CONFIG (R321). -/
  | doorbellBufferConfig (tag : Tag) (shadow : W64) (eventIdx : W64)
  /-- DEVICE_SELF_TEST (R313). -/
  | deviceSelfTest (tag : Tag) (code : BitVec 4)
  /-- FORMAT_NVM (R340). -/
  | formatNvm (tag : Tag) (nsid : W32) (lbaf : BitVec 4) (ses : BitVec 3)
  /-- SANITIZE (R340). -/
  | sanitize (tag : Tag) (action : BitVec 3) (noDealloc : Bool)
  /-- SANITIZE_COMPLETE (R446). -/
  | sanitizeComplete (ok : Bool)
  /-- FLUSH (R314). -/
  | ioFlush (tag : Tag) (nsid : W32)
  /-- WRITE (R509). -/
  | ioWrite (tag : Tag) (io : Io) (fua : Bool) (sgl : List SglDesc) (data : Bytes) (host : Bytes) (badLines : List Nat)
  /-- READ (R404). -/
  | ioRead (tag : Tag) (io : Io) (limited : Bool) (sgl : List SglDesc) (media : MediaEnv)
  /-- WRITE_UNCORRECTABLE (R430). -/
  | writeUncorrectable (tag : Tag) (io : Io)
  /-- COMPARE (R314). -/
  | ioCompare (tag : Tag) (io : Io) (data : Bytes) (media : MediaEnv)
  /-- WRITE_ZEROES (R314). -/
  | writeZeroes (tag : Tag) (io : Io) (deac : Bool)
  /-- DATASET_MANAGEMENT (R406). -/
  | datasetManagement (tag : Tag) (nsid : W32) (ad : Bool) (ranges : List DsmRange)
  /-- VERIFY_IO (R314). -/
  | ioVerify (tag : Tag) (io : Io) (media : MediaEnv)
  /-- RESERVATION_REGISTER (R314). -/
  | reservationRegister (tag : Tag) (nsid : W32) (r : RsvRegister)
  /-- RESERVATION_REPORT (R314). -/
  | reservationReport (tag : Tag) (nsid : W32)
  /-- RESERVATION_ACQUIRE (R314). -/
  | reservationAcquire (tag : Tag) (nsid : W32) (r : RsvAcquire)
  /-- RESERVATION_RELEASE (R314). -/
  | reservationRelease (tag : Tag) (nsid : W32) (r : RsvRelease)
  /-- SALVAGE_READ (R453). -/
  | salvageRead (tag : Tag) (nsid : W32) (slba : W64) (count : W16) (cont : Bool) (failedDies : Bool) (media : MediaEnv)
  /-- CHANNEL_TRAINING (R361). -/
  | channelTraining (ch : Nat) (dies : List DieProbe) (eyes : List (List Eye)) (failTries : Nat)
  /-- RETRAIN_TRIGGER (R363). -/
  | retrainTrigger (ch : Nat) (why : RetrainWhy)
  /-- RETRAIN_REQ (R363). -/
  | retrainReq (ch : Nat) (value : W32)
  /-- RETRAIN_IDLE_WINDOW (R364). -/
  | retrainIdleWindow (ch : Nat) (eyes : List (List Eye)) (us : W16)
  /-- RETRAIN_FORCE_TIMEOUT (R364): `us` is how long the forced retrain takes. -/
  | retrainForceTimeout (ch : Nat) (us : W16)
  /-- DLL_LOCK_LOSS (R387). -/
  | dllLockLoss (ch : Nat) (eyes : List (List Eye)) (us : W16)
  /-- DIE_OP_ISSUE (R367). -/
  | dieOpIssue (die : Nat)
  /-- DIE_OP_COMPLETE (R381). -/
  | dieOpComplete (die : Nat) (res : DieResult)
  /-- DIE_SUSPEND (R371). -/
  | dieSuspend (die : Nat) (minRun : Bool)
  /-- DIE_RESUME (R373). -/
  | dieResume (die : Nat) (timeUp : Bool)
  /-- DIE_BUSY_TIMEOUT (R383). -/
  | dieBusyTimeout (die : Nat)
  /-- DIE_RESET_COMPLETE (R383). -/
  | dieResetComplete (die : Nat) (ok : Bool)
  /-- STRIPE_ROW_PACK (R401). -/
  | stripeRowPack (group : Nat) (ius : List Nat)
  /-- STRIPE_ROW_COMMIT (R403). -/
  | stripeRowCommit (group : Nat) (band : Nat) (row : Nat)
  /-- STRIPE_ROW_PROGRAM_FAIL (R401). -/
  | stripeRowProgramFail (group : Nat) (band : Nat) (row : Nat) (die : Nat)
  /-- MERGE_READ_DONE (R427). -/
  | mergeReadDone (key : Nat) (media : MediaEnv)
  /-- FOLD (R408). -/
  | fold (group : Nat)
  /-- FOLD_IDLE_TIMEOUT (R408). -/
  | foldIdleTimeout (group : Nat)
  /-- GARBAGE_COLLECTION (R412). -/
  | garbageCollection (group : Nat)
  /-- STATIC_WEAR_MOVE (R416). -/
  | staticWearMove (die : Nat)
  /-- PATROL_SCAN (R418). -/
  | patrolScan (die : Nat) (band : Nat) (corrected : Nat) (level : Nat)
  /-- REFRESH (R419). -/
  | refresh (media : MediaEnv)
  /-- REBUILD_BAND (R447). -/
  | rebuildBand (media : MediaEnv)
  /-- RESYNC_COMPLETE (R444). -/
  | resyncComplete (rows : List ResyncRow)
  /-- SLOT_FRAME (R467). -/
  | slotFrame (slot : Nat) (meas : Meas)
  /-- ARM_SYNC_EDGE (R482). -/
  | armSyncEdge (meas : Meas)
  /-- INDEX_PULSE_MISSING (R480). -/
  | indexPulseMissing (slot : Nat) (meas : Meas)
  /-- TOKEN_REFILL (R474). -/
  | tokenRefill
  /-- INJECT_DONE (R488). -/
  | injectDone (slot : Nat)
  /-- TUNING_WINDOW_EXPIRY (R490). -/
  | tuningWindowExpiry
  /-- READ_CONFIG (R491). -/
  | armReadConfig (tag : Tag) (slot : BitVec 3) (length : W16)
  /-- WRITE_CONFIG (R493). -/
  | armWriteConfig (tag : Tag) (slot : BitVec 3) (length : W16) (block : Bytes)
  /-- SET_MODE_NORMAL (R488). -/
  | armSetModeNormal (tag : Tag) (slot : BitVec 3) (traceDiv : BitVec 9)
  /-- SET_MODE_TRACE (R488). -/
  | armSetModeTrace (tag : Tag) (slot : BitVec 3) (traceStop : Bool) (traceDiv : BitVec 9)
  /-- SET_MODE_INJECT (R485). -/
  | armSetModeInject (tag : Tag) (slot : BitVec 3) (traceDiv : BitVec 9) (cdw13 : W32) (cdw14 : W32) (cdw15 : W32)
  /-- SET_WINDOW (R490). -/
  | armSetWindow (tag : Tag) (mask : W8) (seconds : W16)
  /-- SET_POLICY (R477). -/
  | armSetPolicy (tag : Tag) (throttle : BitVec 11)
  /-- CFG_STAGE_COMMIT (R500). -/
  | cfgStageCommit (stored : Bool)
  /-- POLICY_REGISTER_WRITE (R502). -/
  | policyRegisterWrite (reg : PolicyReg) (value : W32)
  /-- CONFIG_RECORD_UPDATE (R502). -/
  | configRecordUpdate (stored : Bool)
  /-- CHARGER_BANK_CHECK (R504). -/
  | chargerBankCheck (vholdMv : Nat)
  /-- CHARGER_CHARGED (R504). -/
  | chargerCharged (vholdMv : Nat)
  /-- CHARGER_STALL_TIMEOUT (R504). -/
  | chargerStallTimeout (riseMv : Nat)
  /-- CHARGER_MEASURE_START (R504). -/
  | chargerMeasureStart
  /-- CHARGER_MEASURE_DONE (R470). -/
  | chargerMeasureDone (vholdMv : Nat) (riseMv : Nat) (capUf : Nat)
  /-- CHARGER_MEASURE_TIMEOUT (R504). -/
  | chargerMeasureTimeout
  /-- VHOLD_UNDERVOLT (R504). -/
  | vholdUndervolt (vholdMv : Nat)
  /-- VHOLD_OVERVOLT (R505). -/
  | vholdOvervolt (vholdMv : Nat)
  /-- RESTART (R525). -/
  | restart (env : RestartEnv)
  /-- CHECKPOINT_START (R518). -/
  | checkpointStart (why : CkptWhy)
  /-- CHECKPOINT_COMMIT (R523). -/
  | checkpointCommit (ok : Bool)
  /-- SEGMENT_WRITE (R521). -/
  | segmentWrite (why : SegWhy)
  /-- SEGMENT_COMMIT (R520). -/
  | segmentCommit (ok : Bool)
  /-- EXPORT_START (R535). -/
  | exportStart (tag : Tag) (vf : BitVec 7) (delta : Bool) (length : W32) (certs : TargetCerts)
  /-- EXPORT_ROUND (R535). -/
  | exportRound (tag : Tag) (session : BitVec 3)
  /-- EXPORT_STOP (R543). -/
  | exportStop (tag : Tag) (session : BitVec 3)
  /-- EXPORT_READ (R538). -/
  | exportRead (tag : Tag) (session : BitVec 3) (length : W32) (index : W32) (media : MediaEnv)
  /-- CLOSE_RESUME (R535). -/
  | closeResume (tag : Tag) (session : BitVec 3) (keepTracking : Bool)
  /-- CLOSE_RETIRE (R536). -/
  | closeRetire (tag : Tag) (session : BitVec 3)
  /-- BEGIN (R555). -/
  | importBegin (tag : Tag) (vf : BitVec 7) (length : W32) (hdr : SessionHeader)
  /-- IMPORT_WRITE (R556). -/
  | importWrite (tag : Tag) (session : BitVec 3) (length : W32) (shard : Shard)
  /-- IMPORT_FINISH (R557). -/
  | importFinish (tag : Tag) (session : BitVec 3) (length : W32) (manifest : Manifest)
  /-- ACTIVATE (R559). -/
  | importActivate (tag : Tag) (session : BitVec 3)
  /-- ABORT_IMPORT (R558). -/
  | importAbort (tag : Tag) (session : BitVec 3)
  /-- MCTP_PACKET (R570). -/
  | mctpPacket (pkt : MctpPkt)
  /-- SET_ENDPOINT_ID (R571). -/
  | mctpSetEndpointId (op : BitVec 2) (eid : W8)
  /-- GET_ENDPOINT_ID (R571). -/
  | mctpGetEndpointId
  /-- GET_ENDPOINT_UUID (R571). -/
  | mctpGetEndpointUuid
  /-- GET_MCTP_VERSION_SUPPORT (R571). -/
  | mctpGetVersionSupport (type : W8)
  /-- GET_MESSAGE_TYPE_SUPPORT (R571). -/
  | mctpGetMessageTypeSupport
  /-- ENTDAA (R566). -/
  | i3cEntdaa (addr : BitVec 7)
  /-- SETDASA (R566). -/
  | i3cSetdasa (addr : BitVec 7)
  /-- RSTDAA (R566). -/
  | i3cRstdaa
  /-- ENEC (R568). -/
  | i3cEnec (events : W8)
  /-- DISEC (R568). -/
  | i3cDisec (events : W8)
  /-- GETPID (R569). -/
  | i3cGetpid
  /-- GETBCR (R568). -/
  | i3cGetbcr
  /-- GETDCR (R568). -/
  | i3cGetdcr
  /-- GETMRL (R568). -/
  | i3cGetmrl
  /-- GETMWL (R568). -/
  | i3cGetmwl
  /-- SETMRL (R568). -/
  | i3cSetmrl (value : W16)
  /-- SETMWL (R568). -/
  | i3cSetmwl (value : W16)
  /-- GETSTATUS (R568). -/
  | i3cGetstatus
  /-- READ_NVME_MI_DATA_STRUCTURE (R573). -/
  | miReadDataStructure (slot : Nat) (dtyp : W8) (portId : W8) (ctrl : W16)
  /-- NVM_SUBSYSTEM_HEALTH_STATUS_POLL (R573). -/
  | miSubsystemHealthPoll (slot : Nat) (clear : Bool)
  /-- CONTROLLER_HEALTH_STATUS_POLL (R573). -/
  | miControllerHealthPoll (slot : Nat) (start : W16) (maxEntries : Nat)
  /-- CONFIGURATION_SET (R573). -/
  | miConfigurationSet (slot : Nat) (cfgId : W8) (value : W32)
  /-- CONFIGURATION_GET (R573). -/
  | miConfigurationGet (slot : Nat) (cfgId : W8)
  /-- VPD_READ (R579). -/
  | vpdRead (slot : Nat) (dofst : W16) (dlen : W16)
  /-- VPD_WRITE (R579). -/
  | vpdWrite (slot : Nat) (dofst : W16) (dlen : W16) (data : Bytes) (stored : Bool)
  /-- MI_RESET (R573). -/
  | miReset (slot : Nat)
  /-- SNAPSHOT_COPY (R580). -/
  | snapshotCopy
  /-- KSC_ENABLE_CHANGE (R590). -/
  | kscEnableChange (enable : Bool)
  /-- SNAP_NOW (R595). -/
  | snapNow
  /-- KSC_PERIODIC_SNAPSHOT (R595). -/
  | kscPeriodicSnapshot
  /-- KSC_SYNC (R592). -/
  | kscSync
  /-- EVS_SUMMARY_SIGNAL (R611). -/
  | evsSummarySignal (pf : Pf)
  /-- EVS_PENDING_WRITE (R610). -/
  | evsPendingWrite (pf : Pf) (k : BitVec 7) (value : W32)
  /-- EVS_ENABLE_WRITE (R610). -/
  | evsEnableWrite (pf : Pf) (k : BitVec 7) (value : W32)
  /-- REARM (R611). -/
  | evsRearm (pf : Pf) (value : W32)
  /-- UPPER_WORD_LATCH_READ (R604). -/
  | upperWordLatchRead (pf : Pf) (offset : Nat) (size : Nat)
  /-- REGISTER_WRITE (R601). -/
  | registerWrite (pf : Pf) (offset : Nat) (size : Nat) (value : W32) (reads : List RegRead := [])
  /-- ARMREF_RETURN (R472). -/
  | armrefReturn
  /-- XT32_RETURN (R87). -/
  | xt32Return
  /-- VAUX_LOSS (R87). -/
  | vauxLoss
  /-- CONTROLLER_ENABLE (R325). -/
  | controllerEnable (f : Func) (cc : W32) (aqa : W32)
  /-- MSIX_VECTOR_UNMASK (R294). -/
  | msixVectorUnmask (f : Func) (vector : Option Nat)
  /-- INTERRUPT_MASK_WRITE (R296). -/
  | interruptMaskWrite (f : Func) (set : Bool) (value : W32)
  /-- INTERRUPT_COALESCING_TIMEOUT (R316). -/
  | interruptCoalescingTimeout (f : Func)
  /-- DEVICE_SELF_TEST_COMPLETE (R313). -/
  | deviceSelfTestComplete (result : BitVec 4)
  /-- FORMAT_NVM_COMPLETE (R343). -/
  | formatNvmComplete (nsid : W32) (ok : Bool)
  /-- UPDATE_GATE_REFRESH (R273). -/
  | updateGateRefresh
  /-- ASPM_L1_ENTRY (R277). -/
  | aspmL1Entry (port : Pf)
  /-- L1_EXIT (R277). -/
  | l1Exit (port : Pf)
  /-- L0P_WIDTH_CHANGE (R274). -/
  | l0pWidthChange (port : Pf) (width : Nat)
  deriving DecidableEq, Repr

end Sys2Proof
end

