-- ==== Sys2Proof/Decode.lean ====
section
/-! DEFINITION. Command words: spec/opcode_table.json gives no row any bits, so no word spells a command (log 15). -/
namespace Sys2Proof

/-- The command a word of `nbits` bits spells: none of the table's rows gives bits. -/
def decodeTableWord (_nbits _w : Nat) : Option Instr := none

end Sys2Proof
end

