-- ==== Sys2Proof/Config.lean ====
section
/-! DEFINITION. What the spec leaves open: values that result but that the spec does not state, and the functions that
outside standards define and the spec only names. None has a body that a proof could look into. -/
namespace Sys2Proof.Config

/-- A value the spec leaves open, of any width: drawn by the state's counter of free values (log 2). -/
opaque freeBits : (w : Nat) → Nat → BitVec w
/-- SHA-384 of FIPS 180-4 over a byte string (R20, R219): named by the spec, defined outside it. -/
opaque sha384 : Bytes → Digest
/-- HMAC-SHA-384 of FIPS 198-1 (R20, R175). -/
opaque hmac384 : Bytes → Bytes → Digest
/-- Affine coordinates X and Y of the P-384 point of a private scalar, 48 bytes each (FIPS 186-5; ECDSA and ECDH). -/
opaque ecPoint : Nat → Bytes
/-- ML-DSA-65 public key of ML-DSA.KeyGen_internal (FIPS 204). -/
opaque mldsaPub : Bytes → Bytes
/-- ML-KEM-1024 encapsulation key of ML-KEM.KeyGen_internal (FIPS 203). -/
opaque mlkemEk : Bytes → Bytes
/-- ECDSA r and s, 48 bytes each, over a digest under a private scalar: with hedged randomness, or deterministic (R189). -/
opaque ecSig : Nat → Digest → Option Nat → Bytes
/-- ML-DSA-65 signature over a digest under the key of a seed ξ (R181), hedged or deterministic (R189). -/
opaque mldsaSig : Bytes → Digest → Option Nat → Bytes
/-- ISSUE_TIME of the DeviceID dual certificate, given at manufacture (R188). -/
opaque issueTime : W64
/-- ROOT_SLOT of the DeviceID dual certificate (R188). -/
opaque devidRootSlot : BitVec 2
/-- MLDSA_PUB and EC point of the vendor root key that signed the DeviceID dual certificate (R188). -/
opaque devidRoot : Bytes × Bytes
/-- ECDSA and ML-DSA components of the DeviceID dual certificate's signature (R188). -/
opaque devidSig : Bytes × Bytes
/-- The X.509 certificate over the DeviceID ECDSA component, issued at manufacture (R180): contents not given. -/
opaque devidX509 : Bytes
/-- Subject names, DER: of the X.509 DeviceID certificate, and of the Alias certificate (R179), which the spec leaves
open. -/
opaque devidSubject : Bytes
/-- See `devidSubject`. -/
opaque aliasSubject : Bytes
/-- Whether an extension of the X.509 Alias certificate is marked critical, by its place (R179 is silent). -/
opaque x509Critical : Nat → Bool
/-- Bytes of a store's body, or of a part of it, whose layout the spec does not give (R513, R519, R520): by a tag for the part
and the state's counter. -/
opaque storeBody : Nat → Nat → Bytes
/-- AES-256 key wrap with padding under K_KEK (R209): by the key and the plaintext. -/
opaque aesWrap : Digest → Bytes → Bytes
/-- The key table as bytes before it is wrapped (R209): the spec gives no layout; by the stored keys' digest. -/
opaque keyTableBytes : List (Nat × W32 × Option (BitVec 512)) → Bytes
/-- X coordinate of the P-384 point of a private scalar and a peer's public point (ECDH, SP 800-56A). -/
opaque ecdh : Nat → Bytes → Bytes
/-- Digest of the root certificate of the X.509 chain of slot 0 (R213, SPDM 1.3), which the spec does not give. -/
opaque x509RootHash : Digest
/-- CTExponent, DataTransferSize, MaxSPDMmsgSize and HeartbeatPeriod of the SPDM responder (R213 gives none). -/
opaque spdmLimits : W8 × W32 × W32 × W8
/-- Opaque data of KEY_EXCHANGE_RSP, by the state's free value (R213 gives none). -/
opaque spdmOpaque : Nat → Bytes
/-- Measurement blocks that the TCB summary of SPDM 1.3 covers (R214 does not say). -/
opaque tcbBlock : Nat → Bool
/-- M1, the SHA-384 of Plinth's ROM, fixed at tape-out and not given (R100). -/
opaque romDigest : Digest
/-- The value of a configuration field the spec leaves to PCIe Base 6.0 (R283), by unit and offset. -/
opaque pcieDefault : Nat → Nat → W32
/-- The bits that software may write in a configuration field left to PCIe Base 6.0 (R283), by unit and offset. -/
opaque pcieWritable : Nat → Nat → W32
/-- Contents of an Image Array byte that the spec calls undefined (R161, R172), by seed and offset. -/
opaque undefinedByte : Nat → Nat → Byte
/-- The read-disturb limit in the profile of a die, by die index (R356, R418): carried by the running image and not given. -/
opaque readDisturbLimit : Nat → Nat
/-- The EFI Byte Code driver in the expansion ROM's image, after its headers (R290): carried by the running image and not
given. -/
opaque romImage : Bytes
/-- Bytes of a standard's own structure that the spec references and does not reproduce (R5, R315, R319):
by a tag for the structure and the state's counter. -/
opaque standardBytes : Nat → Nat → Bytes
/-- Bytes returned for a block stored under a key that is no longer the slot's key (R206, R208): undefined. -/
opaque foreignBlock : Nat → Bytes → Bytes
/-- The DNR bit of a completion whose status code the spec gives no DNR for, by SCT and SC (log 8). -/
opaque dnrBit : BitVec 3 → W8 → Bool
/-- One sample of the sine sweep (R485), in the unit of the injection point, before the bound of R485 is applied. -/
opaque sineSample : Int → Nat → Int

/-- ML-KEM.Encaps of FIPS 203 to an encapsulation key with 32 random bytes: the shared secret and the ciphertext (R547). -/
opaque mlkemEncaps : Bytes → Bytes → Bytes × Bytes
/-- ML-KEM.Decaps of FIPS 203 under the key pair of d and z (R555). -/
opaque mlkemDecaps : Bytes → Bytes → Bytes
/-- AES-256-GCM (R548): by key, nonce, additional data and plaintext; ciphertext and tag. -/
opaque gcmSeal : Bytes → Bytes → Bytes → Bytes → Bytes
/-- A logical block as the XTS engine stores it (R33, R210): by the key, the logical block address and the plaintext. -/
opaque xtsBlock : BitVec 512 → Nat → Bytes → Bytes

end Sys2Proof.Config
end

