-- ==== Sys2Proof/Machine/Types.lean ====
section
/-! DEFINITION. The parts of the state as plain data: every register, queue, counter, mode and pin the spec gives the
block, one home each; State.lean joins them. Parts that survive a power loss through the checkpoint (R519) are gathered
in `Tables`; what the Image Array die holds is in `Nor`, `CfgStore` and `EvrStore`; what the dies hold is in `Media`.
Values marked DESIGN CHOICE have no reset value in the spec (log 3). -/
namespace Sys2Proof.Machine

/-! ## Package, power and boot (chapters 02 and 03) -/

/-- Where the device stands between the rails rising and a stop (R48, R49, R71, R78). -/
inductive PwrPhase where
  /-- rails down or not yet risen -/
  | off
  /-- rails rising or settling: held in reset (R48) -/
  | inReset
  /-- PWRFAIL_N was low at release time: held until it has been high 10 ms -/
  | heldByPwrfail
  /-- internal reset released: Plinth or firmware runs -/
  | released
  /-- stopped after a flush or a brown-out, until a wider reset -/
  | stopped
  deriving DecidableEq, Repr

/-- The reset that started this boot, as BOOT_START records it (chapter 06, record types). -/
inductive BootKind where
  | cold | powerOn | fundamental | internalFundamental
  deriving DecidableEq, Repr

/-- A flush in progress between steps 1 and 8 of R71. -/
structure Flush where
  cause   : BitVec 8
  flushMs : W32
  /-- dirty data written in step 6, in MiB -/
  dumped  : W32
  /-- the PROGRAM of the stop record will succeed -/
  stopOk  : Bool
  /-- a thermal trip was recognised meanwhile (chapter 02, edges) -/
  tripped : Bool
  deriving DecidableEq, Repr

/-- Package state: TZ_PKG_ registers, pins and latches (R54, R63, R86 to R88). -/
structure Pwr where
  phase        : PwrPhase
  kind         : BootKind
  pwrfailLvl   : Bool
  vauxOk       : Bool
  xt32Ok       : Bool
  armrefOk     : Bool
  armrefLost   : Bool
  xt32Lost     : Bool
  holdShort    : Bool
  pwrfailCount : W16
  lastStop     : BitVec 4
  flushMs      : W16
  chgGateHeld  : Bool
  holdEn       : Bool
  straps       : Straps
  /-- a sampling point of R54 is due -/
  strapDue     : Bool
  flush        : Option Flush
  /-- the reset-cause latch of R85: the restart followed a flush in which PWRFAIL_N rose again -/
  restartLatch : Bool
  /-- clock of the FAB domain in MHz (R25); a flush may lower it (R516) -/
  fabMhz       : Nat
  deriving DecidableEq, Repr

/-- A field of the counter region: each logical bit in three fuses (R91). -/
structure Triple (w : Nat) where
  a : BitVec w
  b : BitVec w
  c : BitVec w
  deriving DecidableEq, Repr

/-- The counter region as its shadow registers hold it (R89, R91). -/
structure Counters where
  svnMin    : Triple 64
  keyRevoke : Triple 4
  kscOff    : Triple 1
  deriving DecidableEq, Repr

/-- Option fuses and their shadow registers (R89 to R94): the static region as it is burned, the counter region, and
what the load engine copied of both. -/
structure Fuses where
  grade     : Bool
  dsn       : W64
  array     : StaticFuses
  svnMin    : Triple 64
  keyRevoke : Triple 4
  kscOff    : Triple 1
  shadow    : Option StaticFuses
  counters  : Option Counters
  attempts  : Nat
  deriving DecidableEq, Repr

/-- What runs on the cores (R98, R125, R95). -/
inductive BootPhase where
  | optionLoad | plinth | firmware | recovery | optionFault
  deriving DecidableEq, Repr

/-- An event that is due and that firmware records once it runs: code, DETAIL0 and DETAIL1 (R247). -/
structure Owed where
  code : Nat
  d0   : Nat
  d1   : Nat
  deriving DecidableEq, Repr

/-- Boot state: TZ_BOOT_ registers, the running image and the measurements (R100, R138 to R140, R222). -/
structure Boot where
  phase         : BootPhase
  path          : BitVec 3
  slot          : BitVec 2
  trial         : Bool
  trialResult   : BitVec 2
  refused       : BitVec 3
  vaultInvalid  : Bool
  recordInvalid : Bool
  armed         : Bool
  confirmed     : Bool
  remainingS    : W16
  handoffUs     : W32
  bootIndex     : W32
  imageVersion  : W64
  svn           : W32
  rootDigest    : Digest
  meas          : List Digest
  /-- the previous boot's trial result, kept for TRIAL_RESULT of the next boot -/
  watchdogFired : Bool
  /-- a shutdown notification has completed since handoff (R121) -/
  shutdownDone  : Bool
  /-- configuration spaces are built (R280) -/
  cfgBuilt      : Bool
  /-- the Device Description Table as firmware filled it (R291, R292) -/
  ddt           : Bytes
  /-- events of this boot that fell due before firmware ran -/
  owed          : List Owed
  deriving DecidableEq, Repr

/-- The Vault record (R120). `mac` is absent while no record was written since VAUX rose (log 3). -/
structure VaultRec where
  mac        : Option Digest
  dsEntry    : Bool
  fpDisabled : Bool
  writeGen   : W64
  slot       : SlotId
  svn        : W32
  root       : Digest
  entryTime  : W64
  deriving DecidableEq, Repr

/-- Recovery mailbox and session (R128, R129, R141). -/
structure Rcv where
  arg0 : W32
  arg1 : W32
  arg2 : W32
  busy : Bool
  code : BitVec 3
  optFault : Bool
  dramFail : Bool
  session  : Option RcvPath
  buffer   : Sparse Byte
  erased   : List SlotId
  written  : List (SlotId × Nat)
  verified : List SlotId
  /-- Memory Space Enable and BAR0 of the recovery function (R282) -/
  memSpace : Bool
  bar      : W64
  /-- window reads that wait for a REMAP to complete (R170), with whether the die finds the unit uncorrectable -/
  windowHeld : List (Nat × Bool)
  deriving DecidableEq, Repr

/-! ## The Image Array (chapter 04) -/

/-- Commands whose sequence has three unlock cycles (R148). -/
inductive NorCmd where
  | program | erase | remap | lockClear | lockSet | info
  deriving DecidableEq, Repr

/-- Where a bank stands in a command sequence (R148, R149). -/
inductive SeqState where
  | idle
  | cycle1
  | cycle2
  | cycle3 (c : NorCmd)
  /-- LEN accepted at `page`; the first data word is awaited -/
  | lenAt (page len : Nat)
  /-- data phase: the next word is expected at `next`, `left` bytes are missing -/
  | data (page first next left : Nat) (bytes : Bytes)
  /-- all data words taken; 0x29 at `page` is awaited -/
  | confirm (page first : Nat) (bytes : Bytes)
  deriving DecidableEq, Repr

/-- An operation of a bank (R145). -/
inductive NorOp where
  | program (first : Nat) (bytes : Bytes) (refused : List Nat)
  | erase (sector : Nat)
  | remap (sector : Nat)
  deriving DecidableEq, Repr

/-- One bank: sequence, INFO mode, status byte, operations, counts (R145 to R153, R172). -/
structure Bank where
  seq       : SeqState
  info      : Bool
  held      : Bool
  progFail  : Bool
  eraseFail : Bool
  seqErr    : Bool
  lockedErr : Bool
  suspPend  : Bool
  run       : Option NorOp
  /-- the suspended erase: ERASE_SUSP while present -/
  suspErase : Option Nat
  /-- the suspended program: PROG_SUSP while present -/
  suspProg  : Option NorOp
  factory   : Nat
  grown     : Nat
  spare     : Nat
  intr      : Option Nat
  deriving DecidableEq, Repr

/-- A range of 32-byte units whose content is undefined (R161, R172), with the seed of its free bytes. -/
structure UndefRange where
  first : Nat
  count : Nat
  seed  : Nat
  deriving DecidableEq, Repr

/-- The die: contents of 256 MiB, units programmed since their erase, locks, WRITE_GEN (R142, R150, R164, R165). -/
structure Nor where
  mem        : Sparse Byte
  programmed : Sparse Bool
  undef      : List UndefRange
  unlocked   : List Nat
  retired    : List Nat
  bank0      : Bank
  bank1      : Bank
  writeGen   : W64
  deriving DecidableEq, Repr

/-- Slot states of R111. -/
inductive SlotState where
  | empty | pending | trial | active | previous | failed
  deriving DecidableEq, Repr

/-- The boot control record (R109). -/
structure BootRec where
  stateA : SlotState
  stateB : SlotState
  staged : BitVec 8
  rootA  : Digest
  rootB  : Digest
  deriving DecidableEq, Repr

/-- The owner record (R190). -/
structure OwnerRec where
  state  : BitVec 8
  kscOff : Bool
  epoch  : W32
  pub    : Bytes
  deriving DecidableEq, Repr

/-- The configuration record's board and policy fields (R498). -/
structure ConfRec where
  pfMw        : Nat
  etaPermille : Nat
  vChgMv      : Nat
  chgMaxMa    : Nat
  cEolUf      : Nat
  ssvid       : W16
  ssid        : W16
  throttle    : Nat
  pct         : Nat
  foldHi      : Nat
  foldLo      : Nat
  journalMax  : Nat
  spread      : Nat
  ckptInterval : Nat
  flushW      : Nat
  deriving DecidableEq, Repr

/-- Record kinds that share the pair logs (R143). -/
inductive RecKind where
  | boot | owner | vpd | conf
  deriving DecidableEq, Repr

/-- One stored copy (R144): its SEQUENCE, body, and whether COMMIT and MAC verify. -/
inductive RecBody where
  | boot (r : BootRec)
  | owner (r : OwnerRec)
  | vpd (bytes : Bytes)
  | conf (r : ConfRec)
  deriving DecidableEq, Repr

/-- A copy in a log. -/
structure RecCopy where
  seq   : W32
  body  : RecBody
  valid : Bool
  deriving DecidableEq, Repr

/-- One sector of a pair log: copies in order and pages used (R144). -/
structure LogSector where
  lost   : Bool
  copies : List RecCopy
  pages  : Nat
  deriving DecidableEq, Repr

/-- A pair log of one partition (R144): two sectors, the second active when `second`. -/
structure PairLog where
  secA   : LogSector
  secB   : LogSector
  second : Bool
  deriving DecidableEq, Repr

/-- A stop record (R84). -/
structure StopRec where
  bootIndex : W32
  cause     : BitVec 8
  flushMs   : W32
  dumpedMib : W32
  stopSeq   : W32
  valid     : Bool
  deriving DecidableEq, Repr

/-- The stop log of one partition (R84). -/
structure StopLog where
  lost : Bool
  recs : List StopRec
  deriving DecidableEq, Repr

/-- A configuration partition (R143). -/
structure CfgPart where
  boot  : PairLog
  owner : PairLog
  conf  : PairLog
  stop  : StopLog
  deriving DecidableEq, Repr

/-- Both partitions, and the copies held only in DRAM in R144's window. -/
structure CfgStore where
  cfg0 : CfgPart
  cfg1 : CfgPart
  deriving DecidableEq, Repr

/-! ## Trust (chapter 05) -/

/-- Requesters of an owner nonce or a download session (R192, R254). -/
inductive Requester where
  | mgt | pf0 | pf1
  deriving DecidableEq, Repr

/-- RNG_STATE (R217). -/
inductive RngState where
  | healthy | stalled | unavailable | starting
  deriving DecidableEq, Repr

/-- What completes when a key-table store commits (R209). -/
inductive KeyWhy where
  | generate (pf : Pf)
  | erase (pf : Pf)
  | maquette
  | ksplit (old : Nat)
  deriving DecidableEq, Repr

/-- One namespace key slot (R204 to R208). `key` is symbolic key material; `old` is a retiring generation's key. -/
structure KeySlot where
  gen : W32
  key : Option (BitVec 512)
  old : Option (W32 × BitVec 512)
  deriving DecidableEq, Repr

/-- A key change waiting for its store: what it restores when the store fails (R209, R215). -/
structure KeyStore where
  why  : KeyWhy
  slot : Nat
  prev : KeySlot
  deriving DecidableEq, Repr

/-- TZ_TRU_KS_ of one PF (R217). -/
structure KsRegs where
  slot    : BitVec 11
  op      : BitVec 3
  busy    : Bool
  result  : BitVec 3
  overrun : Bool
  /-- SLOT and OP as the running command took them at GO -/
  runSlot : BitVec 11
  runOp   : BitVec 3
  deriving DecidableEq, Repr

/-- A held first part of a split transfer (R198). -/
structure SplitPart where
  action : W16
  length : W16
  data   : Bytes
  deriving DecidableEq, Repr

/-- IDE stream state (R310). -/
inductive IdeState where
  | insecure | secure
  deriving DecidableEq, Repr

/-- IDE of one port (R211): AES-256-GCM keys held by position, positions active, stream states by number. -/
structure Ide where
  keys    : List (IdeKeyRef × BitVec 256)
  active  : List IdeKeyRef
  streams : Sparse IdeState
  deriving DecidableEq, Repr

/-- An SPDM session (R213): its transcript, handshake secret, and the secrets of the two directions, which its AEAD keys
follow from (SPDM 1.3). -/
structure SpdmSess where
  id   : Nat
  done : Bool
  transcript : Bytes
  handshake  : Digest
  reqSecret  : Digest
  rspSecret  : Digest
  deriving DecidableEq, Repr

/-- One SPDM responder instance (R213). -/
structure Spdm where
  version  : Bool
  caps     : Bool
  algs     : Bool
  /-- secp384r1 and AES-256-GCM are negotiated, so that sessions can open -/
  kex      : Bool
  /-- transcripts of SPDM 1.3: of version, capabilities and algorithms; of digests and certificates; of measurements -/
  vca      : Bytes
  certs    : Bytes
  meas     : Bytes
  sessions : List SpdmSess
  nextId   : Nat
  /-- a large response waiting for CHUNK_GET: handle, next chunk, bytes left, bytes of the whole -/
  chunk    : Option (Nat × Nat × Bytes × Nat)
  deriving DecidableEq, Repr

/-- The hardware key registers (R176, R177): the four keys of the device, CDI_0 and CDI_1, and the seeds from which the
private keys of the DeviceID, Alias and Transport pairs follow. A register that was never filled, or was zeroised, is
`none`. -/
structure KeyRegs where
  cfg   : Option Digest
  vault : Option Digest
  map   : Option Digest
  kek   : Option Digest
  cdi0  : Option Digest
  devidK : Option Digest
  cdi1  : Option Digest
  aliasK : Option Digest
  xportK : Option Digest
  deriving DecidableEq, Repr

/-- The running health tests of R199: the newest sample and the length of its run, and the base sample, hits and samples
of the proportion test's window. -/
structure Health where
  last : Option Nat
  run  : Nat
  base : Option Nat
  hits : Nat
  seen : Nat
  deriving DecidableEq, Repr

/-- The trust block (R176, R177, R217). -/
structure Trust where
  keys         : KeyRegs
  /-- the X.509 Alias certificate (R179) -/
  aliasX509    : Bytes
  /-- the health tests' counts (R199) -/
  health       : Health
  ladderLocked : Bool
  configKeys   : Bool
  identity     : Bool
  devidKeyId   : Digest
  aliasKeyId   : Digest
  xportId      : Digest
  aliasCert    : Bytes
  xportCert    : Bytes
  nonceMgt     : Option (BitVec 256)
  noncePf0     : Option (BitVec 256)
  noncePf1     : Option (BitVec 256)
  split        : Option SplitPart
  rng          : RngState
  reseedTries  : Nat
  drbgCount    : Nat
  healthFail   : Bool
  unavailSeen  : Bool
  reseedFails  : W8
  healthEvents : W16
  /-- commands that wait for entropy, in order (R201) -/
  waiting      : List Instr
  ks0          : KsRegs
  ks1          : KsRegs
  stores       : List KeyStore
  ide0         : Ide
  ide1         : Ide
  spdmDoe0     : Spdm
  spdmDoe1     : Spdm
  spdmMctp     : Spdm
  deriving DecidableEq, Repr

/-! ## The event recorder (chapter 06) -/

/-- A 128-byte ledger record (R218). -/
structure EvrRec where
  type      : W16
  aux       : W16
  seq       : W32
  bootIndex : W32
  timestamp : W64
  prevHash  : Digest
  payload   : Bytes
  deriving DecidableEq, Repr

/-- A sector of a partition: written records, and whether its rest stays unused (R230, R238). -/
structure EvrSector where
  /-- its place in the partition (R230) -/
  place : Nat
  recs  : List EvrRec
  torn  : Bool
  deriving DecidableEq, Repr

/-- One ledger partition (R219 to R242). The last sector is being filled; `queue` holds formed records. -/
structure EvrLedger where
  sectors  : List EvrSector
  usable   : Nat
  queue    : List EvrRec
  lastSeq  : W32
  lastHash : Digest
  acked    : Option W32
  cleared  : Option W32
  /-- oldest sectors whose SUMMARY is formed and which the next opening drops (R232) -/
  summarised : Nat
  /-- place of the sector being filled within the partition (R230) -/
  pos      : Nat
  deriving DecidableEq, Repr

/-- The event recorder (R249). -/
structure Evr where
  boot         : EvrLedger
  gen          : EvrLedger
  overflowWarn : Bool
  signed       : Bool
  tornSeen     : Bool
  dropped      : W16
  dropPending  : W32
  /-- the records that this start-up restored stand in their places, so that the later ones have their SEQ (R237) -/
  placed       : Bool
  /-- a signing that fell due before that, with whether it succeeds -/
  signWaiting  : Option Bool
  /-- chain hash of the newest written SIG_HEAD of this boot (R214) -/
  signHash     : Option Digest
  deriving DecidableEq, Repr

/-! ## Firmware update (chapter 07) -/

/-- The download session and TZ_UPD_ (R254, R273). `written` numbers 4 KiB units. -/
structure Upd where
  holder   : Option Requester
  slot     : Option SlotId
  touched  : List Nat
  written  : List Nat
  blockers : W8
  deriving DecidableEq, Repr

/-! ## The endpoint (chapter 08) -/

/-- One port (R312). -/
structure Port where
  up       : Bool
  rate     : BitVec 3
  width    : Nat
  flit     : Bool
  l0p      : Bool
  l0pWidth : Nat
  l1       : Bool
  /-- L1 substate: 0 none, 1 L1.1, 2 L1.2 -/
  l1sub    : BitVec 2
  trained  : Bool
  retrains : W8
  doeError : Bool
  doeReady : Bool
  deriving DecidableEq, Repr

/-- Configuration space of a function (R283, R284). -/
structure CfgSpace where
  memSpace : Bool
  bme      : Bool
  parity   : Bool
  serr     : Bool
  intDis   : Bool
  msiEn    : Bool
  msiMme   : Nat
  msiMask  : W32
  msixEn   : Bool
  msixMask : Bool
  atsEn    : Bool
  ctoValue : BitVec 4
  pstate   : BitVec 2
  vfEn     : Bool
  vfMse    : Bool
  numVfs   : Nat
  bars     : Sparse W32
  vfBars   : Sparse W32
  romBar   : W32
  /-- Max Payload Size and Max Read Request Size, coded as 128 bytes times a power of 2 -/
  maxPayload : BitVec 3
  maxReadReq : BitVec 3
  /-- ASPM Control, and the enables of ASPM L1.1, ASPM L1.2, PCI-PM L1.1 and PCI-PM L1.2 -/
  aspm     : BitVec 2
  l1ss     : BitVec 4
  intLine  : W8
  cacheLine : W8
  /-- error bits of the Status register -/
  errBits  : BitVec 16
  /-- writable bits of the fields left to PCIe Base 6.0 that a write has changed, by offset -/
  raw      : Sparse W32
  deriving DecidableEq, Repr

/-- Errors logged by AER (R306, R310). -/
inductive AerErr where
  | completionTimeout | unexpectedCompletion | poisonedTlp | unsupportedRequest | completerAbort | ideCheckFailed
  deriving DecidableEq, Repr

/-- One entry of the translation cache (R298, R299); `user` is the command whose request uses it. -/
structure AtsEntry where
  page  : Nat
  read  : Bool
  write : Bool
  user  : Option Tag
  deriving DecidableEq, Repr

/-- Translation cache of a function, least recently used first; Invalidate Requests not yet completed, each with the
commands whose requests used a removed entry (R301). -/
structure Ats where
  entries : List AtsEntry
  pending : List (Nat × List Tag)
  deriving DecidableEq, Repr

/-! ## NVMe (chapter 09) -/

/-- How a submission queue is watched (R320, R321). -/
inductive SqWatch where
  | plain | polled | parking | parked
  deriving DecidableEq, Repr

/-- A submission queue. -/
structure Sq where
  qid   : Nat
  size  : Nat
  base  : W64
  cqid  : Nat
  prio  : BitVec 2
  head  : Nat
  tail  : Nat
  watch : SqWatch
  eventIdx : Nat
  deriving DecidableEq, Repr

/-- Completion statuses by the names the spec gives them: generic and command specific ones of NVMe Base 2.1, then the
vendor codes 0x80 to 0x8A of R351 (SCT 7h). Their numbers stand in Machine/Flags.lean. -/
inductive Status where
  | success
  | invalidCommandOpcode
  | invalidField
  | dataTransferError
  | internalError
  | abortRequested
  | abortedSqDeletion
  | invalidNamespaceOrFormat
  | commandSequenceError
  | dataSglLengthInvalid
  | sglDescriptorTypeInvalid
  | sanitizeFailed
  | sanitizeInProgress
  | namespaceWriteProtected
  | lbaOutOfRange
  | namespaceNotReady
  | reservationConflict
  | formatInProgress
  | completionQueueInvalid
  | invalidQueueIdentifier
  | invalidQueueSize
  | abortLimitExceeded
  | asyncEventLimitExceeded
  | invalidFirmwareSlot
  | invalidFirmwareImage
  | invalidInterruptVector
  | invalidLogPage
  | invalidFormat
  | invalidQueueDeletion
  | featureNotSaveable
  | featureNotChangeable
  | overlappingRange
  | namespaceInsufficientCapacity
  | namespaceIdUnavailable
  | namespaceAlreadyAttached
  | namespaceIsPrivate
  | namespaceNotAttached
  | controllerListInvalid
  | selfTestInProgress
  | invalidControllerId
  | invalidSecondaryState
  | invalidNumberOfResources
  | invalidResourceId
  | unrecoveredReadError
  | compareFailure
  | ownerLocked
  | holdupLow
  | dataMoving
  | thermal
  | keySlotErased
  | entropyUnavailable
  | arrayOffline
  | stateConflict
  | digestMismatch
  | authorizationFailed
  deriving DecidableEq, Repr

/-- A completion queue entry, as far as the spec speaks of it. -/
structure Cqe where
  sqid : Nat
  cid  : W16
  st   : Status
  dw0  : W32
  deriving DecidableEq, Repr

/-- A completion queue: entries not yet consumed are `tail - head`; `waiting` are completions that found it full. -/
structure Cq where
  qid   : Nat
  size  : Nat
  base  : W64
  iv    : Nat
  ien   : Bool
  head  : Nat
  tail  : Nat
  eventIdx : Nat
  waiting : List Cqe
  /-- completions whose interrupt is held back by coalescing (R316) -/
  coalesced : Nat
  deriving DecidableEq, Repr

/-- Where a command in flight stands (R302, R334, R544). -/
inductive CmdPhase where
  | fetched
  /-- all data of a write is in the device; it waits for media -/
  | dataIn
  /-- a Flush that waits for the commands ahead of it in its queue (R314) -/
  | held
  deriving DecidableEq, Repr

/-- A command in flight (R205, R328): `key` is the slot and generation it captured. -/
structure Inflight where
  sqid   : Nat
  cid    : W16
  opcode : W8
  nsid   : W32
  key    : Option (Nat × W32)
  phase  : CmdPhase
  deriving DecidableEq, Repr

/-- Controller-scope features (R316). -/
structure Feats where
  arbitration : W32
  numQueues   : W32
  coalesce    : W32
  vecConfig   : Sparse Bool
  atomicity   : W32
  asyncConfig : W32
  hostId      : BitVec 128
  powerMgmt   : W32
  deriving DecidableEq, Repr

/-- An asynchronous event (R612, R324): type, information, log page. -/
structure AsyncEvt where
  etype : Nat
  info  : Nat
  lid   : W8
  deriving DecidableEq, Repr

/-- Arbitration among a controller's submission queues (R327): the queue served last, how many commands it gave in a row,
and the commands that the high, medium and low priority classes may still give in this round. -/
structure Arb where
  queue : Nat
  run   : Nat
  high  : Nat
  med   : Nat
  low   : Nat
  deriving DecidableEq, Repr

/-- One NVMe controller. -/
structure Ctrl where
  cc       : W32
  en       : Bool
  rdy      : Bool
  cfs      : Bool
  shst     : BitVec 2
  intms    : W32
  sqs      : List Sq
  cqs      : List Cq
  shadow   : Option (W64 × W64)
  inflight : List Inflight
  feats    : Feats
  aers     : List Tag
  events   : List AsyncEvt
  masked   : List Nat
  changedNs : List Nat
  errors   : Nat
  stalled  : Bool
  arb      : Arb
  deriving DecidableEq, Repr

/-- A function: configuration, tables, controller, tenant resources and unit state (R330, R343, R581). -/
structure Fn where
  cfg       : CfgSpace
  unmasked  : List Nat
  pba       : List Nat
  ats       : Ats
  aer       : List AerErr
  intx      : Bool
  ctrl      : Ctrl
  vq        : Nat
  vi        : Nat
  online    : Bool
  resetting : Bool
  fatal     : Bool
  frozen    : Bool
  retired   : Bool
  deriving DecidableEq, Repr

/-- Registrants and holder of a namespace's reservation (R314). -/
structure Rsv where
  rtype : W8
  holder : Option Source
  regs  : List (Source × W64)
  ptpl  : Bool
  gen   : W32
  deriving DecidableEq, Repr

/-- Namespace states of R581. -/
inductive NsState where
  | active | deleting | formatting | sanitizing | staged
  deriving DecidableEq, Repr

/-- What a namespace waits for (R344, R340). -/
inductive NsJob where
  | delete (t : Tag)
  | format (t : Tag) (lbaf : Nat) (ses : Nat)
  deriving DecidableEq, Repr

/-- A namespace (R335 to R344). -/
structure Ns where
  index    : Nat
  nsze     : W64
  ncap     : W64
  lbaf     : Nat
  iu       : Nat
  priv     : Bool
  attached : List Nat
  state    : NsState
  slot     : Option Nat
  rsv      : Rsv
  tler     : W32
  rsvMask  : W32
  job      : Option NsJob
  deriving DecidableEq, Repr

/-- A sanitize operation (R340, R343) and the command that started it. -/
structure Sanitize where
  crypto : Bool
  tag    : Tag
  deriving DecidableEq, Repr

/-- Device-wide NVMe state: TZ_NVM_ and device-scope features (R316, R353). -/
structure Nvm where
  tempThreshold : W32
  timestamp     : W64
  watts         : Nat
  sanitize      : Option Sanitize
  sanitized     : Bool
  sanitizeFailed : Bool
  selfTest      : Option (Tag × BitVec 4)
  selfTestLog   : List (BitVec 4 × BitVec 4)
  stalls        : W32
  ksplitBad     : Bool
  ustGen        : W32
  changed       : Sparse W32
  conflicts     : W16
  wakes         : W16
  /-- the UNIT whose turn it is, and the commands fetched for it in this turn (R327) -/
  turn          : Nat × Nat
  deriving DecidableEq, Repr

/-! ## Flash (chapters 10 to 12) -/

/-- Die states of R386. -/
inductive DieState where
  | absent | online | suspect | failed | excluded
  deriving DecidableEq, Repr

/-- Priority classes of R367. -/
inductive DieClass where
  | dump | hostRead | rebuildRead | program | maintRead | erase
  deriving DecidableEq, Repr

/-- What a program writes, as the shares of tokens tell programs apart (R413, R416, R419, R449): `host` are fold and
direct-mode programs, `other` what no share names. -/
inductive ProgSrc where
  | other | host | collect | refresh | rebuild | move
  deriving DecidableEq, Repr

/-- One queued die operation (R367, R370): its block set, page and admission cost (R474). -/
structure DieOp where
  cls   : DieClass
  band  : Nat
  page  : Nat
  cost  : Nat
  src   : ProgSrc := .other
  /-- the blocks that an erase names, by plane -/
  blocks : List Nat := []
  deriving DecidableEq, Repr

/-- A running or suspended program or erase, or a running read (R371 to R373). -/
structure RunOp where
  op       : DieOp
  suspends : Nat
  served   : Nat
  deriving DecidableEq, Repr

/-- Persistent tables of one die (R379, R381, R417). -/
structure DieTab where
  scanned : Bool
  planes  : Nat
  blocks  : Nat
  pages   : Nat
  topMode : Nat
  factory : List (Nat × Nat)
  grown   : List (Nat × Nat)
  erases  : Sparse Nat
  failed  : Bool
  reason  : W32
  progFails  : W32
  eraseFails : W32
  /-- bands whose erase on the die a power fail took back, with their blocks, which are erased afresh (R385) -/
  reErase    : List (Nat × List Nat)
  deriving DecidableEq, Repr

/-- Volatile state of one die (R383, R386). -/
structure Die where
  state     : DieState
  queue     : List DieOp
  overflow  : List DieOp
  run       : Option RunOp
  susp      : Option RunOp
  consec    : Nat
  lastFails : List (Nat × Nat)
  probation : Nat
  codewords : W64
  lvl0      : W32
  lvl1      : W32
  lvl5      : W32
  lvl8      : W32
  lvl10     : W32
  maxSusp   : W16
  worstCb   : W16
  /-- reads of each band's block set on the die since it was last programmed (R418) -/
  reads     : Sparse Nat
  deriving DecidableEq, Repr

/-- Channel states of R389. -/
inductive ChanState where
  | unpopulated | training | online | retraining | failed
  deriving DecidableEq, Repr

/-- One channel (R389). -/
structure Chan where
  /-- the channel's training of this boot has run (R356) -/
  tried    : Bool
  mode     : Nat
  dllLock  : Bool
  state    : ChanState
  accepted : List Nat
  retrains : W8
  trainFails : W8
  degraded : W16
  pending  : Bool
  forced   : Bool
  lastUs   : W16
  tjAtTraining : Int
  /-- highest mode of the retrain that runs -/
  trainTop : Nat
  deriving DecidableEq, Repr

/-- Flash controllers: channels, dies, policy (R389). -/
structure Flash where
  chans     : Sparse Chan
  dies      : Sparse Die
  maxMode   : Nat
  retrainDt : Nat
  badWrite  : Bool
  suspends  : W16
  capHits   : W16
  /-- the channel whose program or erase was issued last (R474) -/
  turn      : Nat
  deriving DecidableEq, Repr

/-- A logical block as it is stored (R33, R394): the key slot and generation that encrypted it stand for the
ciphertext; `poison` is its poison bit; `host` its host metadata, which on media stand in a shadow unit: there each block
of the unit is the host metadata of one logical block (R396). -/
structure Blk where
  enc    : Option (Nat × W32)
  data   : Bytes
  host   : Bytes
  poison : Bool
  deriving DecidableEq, Repr

/-- One version of an indirection unit: its WRITE_SEQ and its logical blocks by offset within the unit (R394, R395).
A version with `uncorrectable` is KIND 1 (R430). -/
structure IuVer where
  seq    : Nat
  blocks : Sparse Blk
  deriving DecidableEq, Repr

/-- Cache states of R401 (Absent is having no line). -/
inductive LineState where
  | dirty | merging | packing
  deriving DecidableEq, Repr

/-- A cache line (R401). -/
structure Line where
  state : LineState
  ver   : IuVer
  deriving DecidableEq, Repr

/-- A write-through write that waits for media (R34, R509). -/
structure WtItem where
  /-- the command to complete; none once it ended without a completion (R302, R334) -/
  tag    : Option Tag
  key    : Nat
  ver    : IuVer
  forced : Bool
  /-- untouched blocks are not read yet (R401, R427) -/
  merging : Bool
  deriving DecidableEq, Repr

/-- A band (R398, R399, R435): its group, generation, positions (channels) and the block of each plane on each of them,
rows written, and the order in which bands closed. `drain` marks the source of a fold, collection, refresh or rebuild,
which stays readable until nothing names it (R410, R447). -/
structure Band where
  group  : Nat
  gen    : Nat
  chans  : List Nat
  sets   : Sparse (List Nat)
  rows   : Nat
  closed : Bool
  order  : Nat
  drain  : Bool
  deriving DecidableEq, Repr

/-- A row being programmed (R401, R442): its items (IU key, location, version), the band its items were copied from
when it relocates data, and the parity journal entry's fields. A row with every flag set stays listed while an open row
names it as PAIRED_ROW (R442). -/
structure Row where
  group : Nat
  band  : Nat
  row   : Nat
  items : List (Nat × BitVec 40 × IuVer)
  src   : Option Nat
  programmed : BitVec 32
  committed  : BitVec 32
  paired : Option Nat
  /-- what is programmed at each position of the row, by channel: data, P and Q (R438, R439) -/
  pages  : Sparse (Sparse Byte)
  done   : Bool
  deriving DecidableEq, Repr

/-- Group states of R456. -/
inductive GrpState where
  | unused | normal | rebuilding | offline
  deriving DecidableEq, Repr

/-- A die group (R434, R435, R446, R456). -/
structure Grp where
  state   : GrpState
  n       : Nat
  failed  : BitVec 24
  total   : Nat
  left    : Nat
  queue   : List Nat
  moved   : W64
  native  : Nat
  need    : Nat
  spare0  : Int
  deriving DecidableEq, Repr

/-- What the checkpoint holds (R519): the maps, the namespace table, bands, die tables, groups, counters, key table. -/
structure Tables where
  map      : Sparse (BitVec 40)
  /-- WRITE_SEQ of the version that each map entry names (R395, R403) -/
  seqs     : Sparse Nat
  nss      : Sparse Ns
  bands    : Sparse Band
  dies     : Sparse DieTab
  groups   : Sparse Grp
  writeSeq : Nat
  closeNo  : Nat
  tnvmcap  : Nat
  caps     : List Nat
  /-- T_J at the newest capacitance measurement (R469) -/
  capTj    : Int
  keys     : Sparse KeySlot
  ksplit   : Nat
  readOnly : Bool
  offline  : Bool
  failureEvents : W16
  lastFailed : Option Nat
  offlineSeen : Bool
  initialised : Bool
  deriving DecidableEq, Repr

/-- A store of the NAND other than a stripe row (R511): KIND, EPOCH, INDEX and body, and whether its commit record was
programmed. -/
structure Store where
  kind      : Nat
  epoch     : W32
  index     : Nat
  body      : Bytes
  committed : Bool
  deriving DecidableEq, Repr

/-- What the dies hold (R391, R394): versions by location, and the stored key table with its SPLIT (R209, R353). -/
structure Media where
  ius      : Sparse (Nat × IuVer)
  /-- the positions of each committed row by channel, P and Q among them, by band and row (R438) -/
  stripes  : Sparse (Sparse (Sparse Byte))
  keyTab   : Sparse KeySlot
  keySplit : Nat
  /-- shards, segments, manifests, anchors, the wrapped key table and what a flush dumped, oldest first (R209, R511) -/
  stores   : List Store
  deriving DecidableEq, Repr

/-- Balance of a die group's shares of tokens (R413, R419, R449): the tokens of each kind beyond its ratio to those of
host-originated native programs; and the tokens that static moves may still take (R416). -/
structure Share where
  collect : Int
  refresh : Int
  rebuild : Int
  moves   : Nat
  deriving DecidableEq, Repr

/-- FTL and parity state that a reset clears (R433, R458). -/
structure Ftl where
  cache    : Sparse Line
  wt       : List WtItem
  rows     : List Row
  pct      : Nat
  foldHi   : Nat
  foldLo   : Nat
  slcBad   : Bool
  direct   : W16
  spread   : Nat
  wlBad    : Bool
  moves    : W16
  refresh  : List Nat
  refreshDropped : W16
  staleCopies : W16
  folding  : List Nat
  /-- groups whose host-originated native programs stopped and wait for 4 free bands (R414) -/
  nativeStop : List Nat
  /-- more than 2,048 refreshes were queued, and not yet 1,024 or fewer again (R419) -/
  refreshHigh : Bool
  shares   : Sparse Share
  rebuildShare : Nat
  parBad   : Bool
  degraded : W32
  degradedTotal : W64
  reconstructed : W64
  salvageLost : W64
  journalWaits : W16
  resync   : Bool
  replayDone : Bool
  resyncDone : Bool
  deriving DecidableEq, Repr

/-! ## The Armature (chapter 13) -/

/-- Modes of a slot (R488). -/
inductive SlotMode where
  | disabled | normal | trace | inject
  deriving DecidableEq, Repr

/-- A configuration block's fields (R492). -/
structure ArmCfg where
  points   : Nat
  role     : Nat
  partner  : Nat
  indexSrc : Nat
  period   : Nat
  div      : Nat
  measSrc  : Nat
  outDst   : Nat
  step     : Int
  kp       : Int
  ki       : Int
  imin     : Int
  imax     : Int
  umin     : Int
  umax     : Int
  offset   : Int
  setpoint : Int
  table    : List Int
  deriving DecidableEq, Repr

/-- A trace entry (R483). -/
structure TraceEntry where
  sample   : W32
  flags    : W16
  gain     : Int
  meas     : Int
  setpoint : Int
  error    : Int
  integ    : Int
  output   : Int
  inject   : Int
  deriving DecidableEq, Repr

/-- A capture and, in Inject, the test signal (R484, R485). -/
structure Capture where
  mode    : Nat
  stop    : Bool
  div     : Nat
  entries : List TraceEntry
  wrapped : Bool
  running : Bool
  skip    : Nat
  kind    : BitVec 2
  point   : Bool
  ampl    : Int
  samples : Nat
  half    : Nat
  fStart  : Nat
  fStop   : Nat
  frame   : Nat
  prbs    : BitVec 15
  phi     : W32
  deriving DecidableEq, Repr

/-- One loop slot. -/
structure ArmSlot where
  cfg      : ArmCfg
  next     : Option ArmCfg
  mode     : SlotMode
  integ    : Int
  /-- output of the newest frame, and the one in effect (R462) -/
  output   : Int
  applied  : Int
  counter  : Nat
  consec   : Nat
  frames   : W32
  faulted  : Bool
  ran      : Bool
  cap      : Capture
  deriving DecidableEq, Repr

/-- The Armature (R470, R474, R476, R490, R496). -/
structure Arm where
  slots     : Sparse ArmSlot
  meas      : Meas
  throttled : Bool
  below     : Nat
  within    : Nat
  throttle  : Nat
  fallback  : W8
  slips     : W16
  windows   : W8
  remaining : Nat
  bucket    : Nat
  milli     : Nat
  rate      : Nat
  eAvail    : Int
  eLimit    : Nat
  heldLimit : Option Nat
  sensorFault : W8
  injDone   : W8
  injAborted : W8
  deriving DecidableEq, Repr

/-! ## Holding up (chapter 14) -/

/-- Charger states of R532. -/
inductive ChgState where
  | off | charging | holding | measuring | flush | noBank | fault
  deriving DecidableEq, Repr

/-- What a flush left in the dump area (R513, R514). -/
structure Dump where
  journalOk  : Bool
  manifestOk : Bool
  bootIndex  : W32
  lines      : Sparse Line
  rows       : List Row
  delta      : Tables
  bootRecs   : List EvrRec
  genRecs    : List EvrRec
  deriving DecidableEq, Repr

/-- A checkpoint (R517, R523): its epoch, what it and the segments after it replay to, and its stores. -/
structure Ckpt where
  epoch : W32
  tab   : Tables
  stores : List Store
  deriving DecidableEq, Repr

/-- A band that resynchronisation covers: its rows from the checkpoint's frontier to the last one it had (R444). -/
structure SyncBand where
  band  : Nat
  first : Nat
  stop  : Nat
  deriving DecidableEq, Repr

/-- What resynchronisation works on: its bands, and the map and WRITE_SEQ values that the restart restored (R444). -/
structure Sync where
  bands : List SyncBand
  map   : Sparse (BitVec 40)
  seqs  : Sparse Nat
  deriving DecidableEq, Repr

/-- Hold-up and checkpoints: TZ_HOLD_ (R532). -/
structure Hold where
  chg         : ChgState
  restartDone : Bool
  restarted   : Bool
  cfgValid    : Bool
  bankFault   : Bool
  critBackup  : Bool
  measSkipped : W16
  confInForce : Option ConfRec
  stage       : Bytes
  cfgBusy     : Bool
  cfgResult   : BitVec 3
  policyDue   : Bool
  ckptInterval : Nat
  journalMax  : Nat
  polBad      : Bool
  wtWrites    : W32
  dump        : Option Dump
  dumpCapMib  : Nat
  ckpts       : List Ckpt
  ckptRun     : Option Ckpt
  ckptNext    : Bool
  ckptFails   : W16
  /-- what the committed segments replay to, and their number since the current snapshot (R520) -/
  segTab      : Option Tables
  segments    : W16
  /-- segments committed since the running checkpoint's snapshot -/
  segNew      : W16
  segRun      : Option Tables
  dirtyDelta  : Bool
  epochMax    : W32
  dumpUsed    : Bool
  dumpLost    : Bool
  shardFallback : Bool
  mapLost     : Bool
  lostKeys    : List Nat
  frontierScan : Bool
  prevManifest : Bool
  restartMs   : W16
  sync        : Sync
  deriving DecidableEq, Repr

/-! ## Maquette (chapter 15) -/

/-- Session states of R535 and R554. -/
inductive MqState where
  | openRound | final | sealed | receiving | staged
  deriving DecidableEq, Repr

/-- A captured command (R544). -/
structure MqCtx where
  cmd       : Inflight
  phase     : Nat
  bytesDone : Nat
  cqe       : Option Cqe
  deriving DecidableEq, Repr

/-- One Maquette session. -/
structure MqSess where
  id       : Nat
  imp      : Bool
  pf       : Pf
  vf       : Nat
  state    : MqState
  delta    : Bool
  chainId  : BitVec 128
  chainSeq : W32
  round    : Nat
  /-- K_S, the session key (R547) -/
  ks       : Bytes
  /-- IUs dirtied since the last snapshot, and those of the running round not yet read (R539, R540) -/
  dirty    : List Nat
  todo     : List Nat
  stage    : Nat
  nextIdx  : Nat
  lastLen  : Nat
  lastObj  : Option (Nat × Bytes)
  exhausted : Bool
  chain    : Digest
  ctxs     : List MqCtx
  xportId  : Digest
  aliasId  : Digest
  devidId  : Digest
  svn      : W32
  shards   : Nat
  nss      : List Nat
  slots    : List Nat
  control  : List (Nat × Bytes)
  manifest : Digest
  deriving DecidableEq, Repr

/-- A chain whose tracking goes on after CLOSE RESUME (R541). -/
structure MqChain where
  unit     : Nat
  chainId  : BitVec 128
  chainSeq : W32
  dirty    : List Nat
  manifest : Digest
  deriving DecidableEq, Repr

/-- Maquette engine (R565). -/
structure Mqt where
  sess   : List MqSess
  chains : List MqChain
  digestFails  : W16
  frozenWrites : W16
  tails  : List (Nat × Nat × Nat)
  deriving DecidableEq, Repr

/-! ## The management path (chapter 16) -/

/-- An entry of log page 0xC6 (R581). -/
structure UnitEntry where
  unit    : Nat
  state   : Nat
  flags   : Nat
  changed : W32
  detail  : W32
  deriving DecidableEq, Repr

/-- A message being assembled (R570). -/
structure MctpAsm where
  seq    : BitVec 2
  length : Nat
  mtype  : MctpType
  /-- first bytes of the message after its type byte -/
  head   : Bytes
  broken : Bool
  deriving DecidableEq, Repr

/-- A request that waits on the path (R585): an admin command, or a request of the NVMe-MI command set. -/
inductive Held where
  | admin (i : Instr)
  /-- an admin command with a code in Command Dword 10 that the spec does not list -/
  | unlisted (slot : Nat) (op : W8)
  | vpdRead (slot : Nat) (dofst dlen : W16)
  | vpdWrite (slot : Nat) (dofst dlen : W16) (data : Bytes) (stored : Bool)
  | reset (slot : Nat)
  deriving DecidableEq, Repr

/-- The management path (R568, R573, R580, R584, R587). -/
structure Mgt where
  i3c       : Bool
  addr      : BitVec 7
  da        : BitVec 7
  eid       : W8
  freqKhz   : Nat
  mtu       : Nat
  mrl       : W16
  mwl       : W16
  events    : W8
  hscSet    : W32
  hscEnable : W32
  asm       : Option MctpAsm
  /-- requests that wait for DEVICE_MODE Running, oldest first (R585, R586) -/
  held      : List Held
  snapGen   : W32
  snap      : List UnitEntry
  snapTaken : Bool
  /-- the critical warning at the snapshot (R580, R585) -/
  snapWarn  : W8
  mismatches : W16
  pecErrors : W16
  droppedMsgs : W16
  deriving DecidableEq, Repr

/-! ## Kaleidoscope and event sources (chapters 17 and 18) -/

/-- A packet in the trace FIFO (R592): its TYPE and payload. -/
structure KscPkt where
  type    : Byte
  payload : Bytes
  deriving DecidableEq, Repr

/-- Kaleidoscope (R597). -/
structure Ksc where
  enable  : Bool
  cls     : BitVec 5
  armSlot : BitVec 3
  armDiv  : Nat
  snapMs  : Nat
  badWrite : Bool
  active  : Bool
  fifo    : List KscPkt
  lost    : W32
  lostRun : W32
  snapIndex : W32
  snap    : List W32
  armCount : Nat
  deriving DecidableEq, Repr

/-- TZ_EVS_ of one PF (R609 to R612, R618): pending and enable bits by source number. -/
structure Evs where
  pend    : BitVec 4096
  en      : BitVec 4096
  sum     : BitVec 128
  vector  : BitVec 11
  vecEn   : Bool
  aenEn   : Bool
  messages : W16
  aens    : W16
  deriving DecidableEq, Repr

/-- Upper-word latches of R604, per PF. -/
structure Latch where
  gen0 : Option W32
  gen1 : Option W32
  up0  : Option W32
  up1  : Option W32
  deriving DecidableEq, Repr

/-! ## Outputs -/

/-- What a configuration, memory or mailbox access answers. -/
inductive Answer where
  | value (v : W32)
  | retry
  | unsupported
  | poisoned
  | bytes (b : Bytes)
  deriving DecidableEq, Repr

/-- What the block puts on its pins, buses and queues, in order (the model's own record of its outputs, log 4). -/
inductive Output where
  /-- a completion posted to a function's queue, or a response on the management path -/
  | completion (t : Tag) (st : Status) (dw0 : W32)
  /-- data moved to the requester for a command -/
  | data (t : Tag) (b : Bytes)
  /-- a request of a function to a host page, to the host or from it, Translated or Untranslated (R299) -/
  | dma (unit page : Nat) (toHost translated : Bool)
  | msix (unit vector : Nat)
  | msi (unit vector : Nat)
  | intxAssert (unit : Nat)
  | intxDeassert (unit : Nat)
  | access (a : Answer)
  | eventIdx (unit qid value : Nat)
  | recovery (path : RcvPath) (status : W8)
  | recoveryPresented
  | spdm (inst : SpdmInst) (ok : Bool) (body : Bytes)
  | ideKm (port : Pf) (status : Nat)
  | doe (port : Pf) (accepted : Bool)
  /-- the data object that answers DOE Discovery (R287) -/
  | doeDiscovery (port : Pf) (object : Bytes)
  | invalidateDone (unit itag : Nat)
  | mctp (b : Bytes)
  | mi (slot : Nat) (status : W8) (b : Bytes)
  | ccc (v : BitVec 64)
  | alert (low : Bool)
  /-- what KSC_D carries in running clocks of KSC_CLK: around the rising edge, then around the falling edge (R591) -/
  | ksc (d : List (BitVec 4 × BitVec 4))
  /-- HOLD_EN, and CHG_GATE held low -/
  | pins (holdEn gateHeld : Bool)
  | asyncEvent (t : Tag) (e : AsyncEvt)
  | commandAborted (t : Tag)
  deriving DecidableEq, Repr

end Sys2Proof.Machine
end

