-- ==== Sys2Proof/Machine/ResetValues.lean ====
section
/-! DEFINITION. The value of each part of the state after a reset: the Reset columns of the register tables, the tables
"From reset" of the chapters, and, where the spec gives none, the values named in log 3. -/
namespace Sys2Proof.Machine

/-- Straps as the internal pulls leave open balls (R56); DESIGN CHOICE until they are sampled (log 3). -/
def Straps.openLevels : Straps := { goldenN := true, bifurc := false, mgtAddr := 0, kscopeN := true }

/-- R87, R88; levels marked "Measured" are DESIGN CHOICE (log 3). -/
def Pwr.reset : Pwr where
  phase := .inReset
  kind := .cold
  pwrfailLvl := true
  vauxOk := true
  xt32Ok := true
  armrefOk := true
  armrefLost := false
  xt32Lost := false
  holdShort := false
  pwrfailCount := 0
  lastStop := 0
  flushMs := 0
  chgGateHeld := true
  holdEn := false
  straps := Straps.openLevels
  strapDue := false
  flush := none
  restartLatch := false
  fabMhz := 1600

/-- Nothing burned, nothing loaded: a device as the model names it (DESIGN CHOICE, log 3). -/
def Fuses.reset : Fuses where
  grade := false
  dsn := 0
  array := { roots := [0, 0, 0, 0], uds := 0, trims := 0, lifecycle := 0, digest := 0 }
  svnMin := { a := 0, b := 0, c := 0 }
  keyRevoke := { a := 0, b := 0, c := 0 }
  kscOff := { a := 0, b := 0, c := 0 }
  shadow := none
  counters := none
  attempts := 0

/-- R138 to R140: the fields Plinth sets read 0 until it sets them (R616). -/
def Boot.reset : Boot where
  phase := .optionLoad
  path := 0
  slot := 0
  trial := false
  trialResult := 0
  refused := 0
  vaultInvalid := false
  recordInvalid := false
  armed := false
  confirmed := false
  remainingS := 0
  handoffUs := 0
  bootIndex := 0
  imageVersion := 0
  svn := 0
  rootDigest := 0
  meas := []
  watchdogFired := false
  shutdownDone := false
  cfgBuilt := false
  ddt := []
  owed := []

/-- After a Cold reset the Vault holds no valid record (R37, R137). -/
def VaultRec.reset : VaultRec where
  mac := none
  dsEntry := false
  fpDisabled := false
  writeGen := 0
  slot := .g
  svn := 0
  root := 0
  entryTime := 0

/-- R141. The chunk buffer's contents after a reset are not stated: it reads 0 (DESIGN CHOICE, log 3). -/
def Rcv.reset : Rcv where
  arg0 := 0
  arg1 := 0
  arg2 := 0
  busy := false
  code := 0
  optFault := false
  dramFail := false
  session := none
  memSpace := false
  bar := 0
  buffer := []
  erased := []
  written := []
  verified := []
  windowHeld := []

/-- An idle bank with `spare` spares and nothing grown or factory-bad (R142, R152). -/
def Bank.fresh (spare : Nat) : Bank where
  seq := .idle
  info := false
  held := false
  progFail := false
  eraseFail := false
  seqErr := false
  lockedErr := false
  suspPend := false
  run := none
  suspErase := none
  suspProg := none
  factory := 0
  grown := 0
  spare := spare
  intr := none

/-- An erased die with every spare left (DESIGN CHOICE for "From die", log 3); unlisted bytes read 0xFF (log 5). -/
def Nor.reset : Nor where
  mem := []
  programmed := []
  undef := []
  unlocked := []
  retired := []
  bank0 := Bank.fresh 80
  bank1 := Bank.fresh 176
  writeGen := 0

/-- An erased sector. -/
def LogSector.empty : LogSector := { lost := false, copies := [], pages := 0 }

/-- An erased pair log. -/
def PairLog.empty : PairLog := { secA := LogSector.empty, secB := LogSector.empty, second := false }

/-- An erased configuration partition. -/
def CfgPart.empty : CfgPart where
  boot := PairLog.empty
  owner := PairLog.empty
  conf := PairLog.empty
  stop := { lost := false, recs := [] }

/-- No records written yet (DESIGN CHOICE for "From record", log 3). -/
def CfgStore.reset : CfgStore := { cfg0 := CfgPart.empty, cfg1 := CfgPart.empty }

/-- A key slot that was never generated (R204). -/
def KeySlot.empty : KeySlot := { gen := 0, key := none, old := none }

/-- R217. -/
def KsRegs.reset : KsRegs :=
  { slot := 0, op := 0, busy := false, result := 0, overrun := false, runSlot := 0, runOp := 0 }

/-- No keys, no streams (R216). -/
def Ide.reset : Ide := { keys := [], active := [], streams := [] }

/-- No connection state (R216). -/
def Spdm.reset : Spdm :=
  { version := false, caps := false, algs := false, kex := false, vca := [], certs := [], meas := [], sessions := [],
    nextId := 1, chunk := none }

/-- No key is derived (R177). -/
def KeyRegs.reset : KeyRegs where
  cfg := none
  vault := none
  map := none
  kek := none
  cdi0 := none
  devidK := none
  cdi1 := none
  aliasK := none
  xportK := none

/-- No sample yet (R199). -/
def Health.reset : Health where
  last := none
  run := 0
  base := none
  hits := 0
  seen := 0

/-- R216, R217. -/
def Trust.reset : Trust where
  keys := KeyRegs.reset
  aliasX509 := []
  health := Health.reset
  ladderLocked := false
  configKeys := false
  identity := false
  devidKeyId := 0
  aliasKeyId := 0
  xportId := 0
  aliasCert := []
  xportCert := []
  nonceMgt := none
  noncePf0 := none
  noncePf1 := none
  split := none
  rng := .starting
  reseedTries := 0
  drbgCount := 0
  healthFail := false
  unavailSeen := false
  reseedFails := 0
  healthEvents := 0
  waiting := []
  ks0 := KsRegs.reset
  ks1 := KsRegs.reset
  stores := []
  ide0 := Ide.reset
  ide1 := Ide.reset
  spdmDoe0 := Spdm.reset
  spdmDoe1 := Spdm.reset
  spdmMctp := Spdm.reset

/-- A partition in which no record was ever written: the first record will take SEQ 1 (R220). -/
def EvrLedger.fresh (usable : Nat) : EvrLedger where
  sectors := []
  usable := usable
  queue := []
  lastSeq := 0
  lastHash := 0
  acked := none
  cleared := none
  summarised := 0
  pos := 0

/-- R249; the partitions are empty (DESIGN CHOICE for "From partition", log 3). -/
def Evr.reset : Evr where
  boot := EvrLedger.fresh 40
  gen := EvrLedger.fresh 136
  overflowWarn := false
  signed := false
  tornSeen := false
  dropped := 0
  dropPending := 0
  placed := false
  signWaiting := none
  signHash := none

/-- R273. -/
def Upd.reset : Upd := { holder := none, slot := none, touched := [], written := [], blockers := 0 }

/-- R312. -/
def Port.reset : Port where
  up := false
  rate := 0
  width := 0
  flit := false
  l0p := false
  l0pWidth := 0
  l1 := false
  l1sub := 0
  trained := false
  retrains := 0
  doeError := false
  doeReady := false

/-- Configuration defaults (R283, R284, R311). -/
def CfgSpace.reset : CfgSpace where
  memSpace := false
  bme := false
  parity := false
  serr := false
  intDis := false
  msiEn := false
  msiMme := 0
  msiMask := 0
  msixEn := false
  msixMask := false
  atsEn := false
  ctoValue := 0
  pstate := 0
  vfEn := false
  vfMse := false
  numVfs := 0
  bars := []
  vfBars := []
  romBar := 0
  maxPayload := 0
  maxReadReq := 2
  aspm := 0
  l1ss := 0
  intLine := 0
  cacheLine := 0
  errBits := 0
  raw := []

/-- An empty translation cache (R311). -/
def Ats.reset : Ats := { entries := [], pending := [] }

/-- Controller-scope feature defaults (R316, R352): Arbitration Burst 7, no limit (DESIGN CHOICE, log 6). -/
def Feats.reset : Feats where
  arbitration := 7
  numQueues := 0
  coalesce := 0
  vecConfig := []
  atomicity := 0
  asyncConfig := 0
  hostId := 0
  powerMgmt := 0

/-- A disabled controller. -/
def Ctrl.reset : Ctrl where
  cc := 0
  en := false
  rdy := false
  cfs := false
  shst := 0
  intms := 0
  sqs := []
  cqs := []
  shadow := none
  inflight := []
  feats := Feats.reset
  aers := []
  events := []
  masked := []
  changedNs := []
  errors := 0
  stalled := false
  arb := { queue := 0, run := 0, high := 0, med := 0, low := 0 }

/-- A function after reset: configuration defaults, controller disabled, a VF offline without flexible resources
(R311, R352). -/
def Fn.reset : Fn where
  cfg := CfgSpace.reset
  unmasked := []
  pba := []
  ats := Ats.reset
  aer := []
  intx := false
  ctrl := Ctrl.reset
  vq := 0
  vi := 0
  online := false
  resetting := false
  fatal := false
  frozen := false
  retired := false

/-- No reservation. -/
def Rsv.none : Rsv := { rtype := 0, holder := Option.none, regs := [], ptpl := false, gen := 0 }

/-- R353 and the defaults of R316 and R318; the over-temperature threshold's default is not given (log 6). -/
def Nvm.reset : Nvm where
  tempThreshold := 0
  timestamp := 0
  watts := 42
  sanitize := none
  sanitized := false
  sanitizeFailed := false
  selfTest := none
  selfTestLog := []
  stalls := 0
  ksplitBad := false
  ustGen := 0
  changed := []
  conflicts := 0
  wakes := 0
  turn := (0, 0)

/-- Tables of a device that was never initialised; SPLIT is 1,024 when no key table exists (R353). -/
def Tables.reset : Tables where
  map := []
  seqs := []
  nss := []
  bands := []
  dies := []
  groups := []
  writeSeq := 0
  closeNo := 0
  tnvmcap := 0
  caps := []
  capTj := 0
  keys := []
  ksplit := 1024
  readOnly := false
  offline := false
  failureEvents := 0
  lastFailed := none
  offlineSeen := false
  initialised := false

/-- Nothing stored. -/
def Media.reset : Media :=
  { ius := [], stripes := [], keyTab := [], keySplit := 1024, stores := [] }

/-- A balance with nothing issued. -/
def Share.reset : Share := { collect := 0, refresh := 0, rebuild := 0, moves := 0 }

/-- R433, R458. -/
def Ftl.reset : Ftl where
  cache := []
  wt := []
  rows := []
  pct := 6
  foldHi := 70
  foldLo := 40
  slcBad := false
  direct := 0
  spread := 250
  wlBad := false
  moves := 0
  refresh := []
  refreshDropped := 0
  staleCopies := 0
  folding := []
  nativeStop := []
  refreshHigh := false
  shares := []
  rebuildShare := 1
  parBad := false
  degraded := 0
  degradedTotal := 0
  reconstructed := 0
  salvageLost := 0
  journalWaits := 0
  resync := false
  replayDone := false
  resyncDone := false

/-- R389. -/
def Flash.reset : Flash where
  chans := []
  dies := []
  maxMode := 7
  retrainDt := 15
  badWrite := false
  suspends := 0
  capHits := 0
  turn := 0

/-- An unidentified channel. -/
def Chan.reset : Chan where
  tried := false
  mode := 0
  dllLock := false
  state := .unpopulated
  accepted := []
  retrains := 0
  trainFails := 0
  degraded := 0
  pending := false
  forced := false
  lastUs := 0
  tjAtTraining := 0
  trainTop := 0

/-- An absent position. -/
def Die.reset : Die where
  state := .absent
  queue := []
  overflow := []
  run := none
  susp := none
  consec := 0
  lastFails := []
  probation := 0
  codewords := 0
  lvl0 := 0
  lvl1 := 0
  lvl5 := 0
  lvl8 := 0
  lvl10 := 0
  maxSusp := 0
  worstCb := 0
  reads := []

/-- Tables of a position never accepted. -/
def DieTab.reset : DieTab where
  scanned := false
  planes := 0
  blocks := 0
  pages := 0
  topMode := 0
  factory := []
  grown := []
  erases := []
  failed := false
  reason := 0
  progFails := 0
  eraseFails := 0
  reErase := []

/-- A group not in use (R434). -/
def Grp.reset : Grp where
  state := .unused
  n := 0
  failed := 0
  total := 0
  left := 0
  queue := []
  moved := 0
  native := 0
  need := 0
  spare0 := 0

/-- No capture (R484). -/
def Capture.empty : Capture where
  mode := 0
  stop := false
  div := 1
  entries := []
  wrapped := false
  running := false
  skip := 0
  kind := 0
  point := false
  ampl := 0
  samples := 0
  half := 0
  fStart := 0
  fStop := 0
  frame := 0
  prbs := 0x7FFF
  phi := 0

/-- A Disabled configuration (R459). -/
def ArmCfg.disabled : ArmCfg where
  points := 0
  role := 0
  partner := 0
  indexSrc := 0
  period := 0
  div := 0
  measSrc := 0
  outDst := 0
  step := 1
  kp := 0
  ki := 0
  imin := 0
  imax := 0
  umin := 0
  umax := 0
  offset := 0
  setpoint := 0
  table := List.replicate 33 0

/-- Slot 0's gain table (R471): 4,096 within 1 °C, rising by 1,024 per °C to 8,192 from 5 °C on. -/
def ArmCfg.thermalTable : List Int :=
  (List.range 33).map fun k =>
    let d : Nat := if k < 16 then 16 - k else k - 16
    if d ≤ 1 then 4096 else if 5 ≤ d then 8192 else 4096 + 1024 * ((d : Int) - 1)

/-- The configurations of R471, by slot, for a charge voltage, charger maximum, THROTTLE and WATTS. Q16.16 gains are
rounded to nearest (DEDUCED from the worked example's KI 3,277, log 7). -/
def ArmCfg.default (vChgMv chgMaxMa throttle watts : Nat) (slot : Nat) : ArmCfg :=
  match slot with
  | 0 => { points := 33, role := 2, partner := 1, indexSrc := 0, period := 0, div := 10, measSrc := 1, outDst := 1,
           step := 1000, kp := 131072, ki := 3277, imin := -30000, imax := 0, umin := 12000,
           umax := (watts : Int) * 1000, offset := 42000, setpoint := (throttle : Int) * 100,
           table := ArmCfg.thermalTable }
  | 1 => { points := 33, role := 1, partner := 0, indexSrc := 0, period := 5000, div := 0, measSrc := 2, outDst := 2,
           step := 500, kp := 32768, ki := 1311, imin := -40000, imax := 40000, umin := 1000, umax := 60000,
           offset := 30000, setpoint := 0, table := List.replicate 33 4096 }
  | 2 => { points := 33, role := 2, partner := 3, indexSrc := 0, period := 0, div := 20, measSrc := 3, outDst := 1,
           step := 250, kp := 65536, ki := 655, imin := 0, imax := 2000, umin := 0, umax := chgMaxMa, offset := 0,
           setpoint := vChgMv, table := List.replicate 33 4096 }
  | 3 => { points := 33, role := 1, partner := 2, indexSrc := 0, period := 500, div := 0, measSrc := 4, outDst := 3,
           step := 50, kp := 262144, ki := 32768, imin := 0, imax := 62259, umin := 0, umax := 62259, offset := 0,
           setpoint := 0, table := List.replicate 33 4096 }
  | 4 => { points := 33, role := 3, partner := 0, indexSrc := 0, period := 12500, div := 0, measSrc := 3, outDst := 4,
           step := 1000, kp := 0, ki := 0, imin := 0, imax := 0, umin := 0, umax := 0, offset := 0, setpoint := 0,
           table := List.replicate 33 4096 }
  | _ => ArmCfg.disabled

/-- The fallback output of a slot (R472); slots 5 to 7 have none stated, and 0 stands for it (log 48). -/
def ArmCfg.fallback (c : ArmCfg) (slot : Nat) : Int := if slot = 0 then 12000 else if slot = 1 then c.umin else 0

/-- A slot just restarted with a configuration, its fallback in effect (R471, R472, R493). -/
def ArmSlot.start (c : ArmCfg) (slot : Nat) : ArmSlot where
  cfg := c
  next := none
  mode := if c.points = 0 then .disabled else .normal
  integ := 0
  output := c.fallback slot
  applied := c.fallback slot
  counter := 0
  consec := 0
  frames := 0
  faulted := false
  ran := false
  cap := Capture.empty

/-- Measurements before the first sample; "Measured" is DESIGN CHOICE 0 (log 3). -/
def Meas.zero : Meas := { tj := 0, pkgPwr := 0, vhold := 0, chgI := 0, faulted := [] }

/-- R471, R496: default slots, THROTTLE 1,100, the token rate at slot 1's UMIN. -/
def Arm.reset : Arm where
  slots := (List.range 8).map fun i => (i, ArmSlot.start (ArmCfg.default 0 0 1100 42 i) i)
  meas := Meas.zero
  throttled := false
  below := 0
  within := 0
  throttle := 1100
  fallback := 0
  slips := 0
  windows := 0
  remaining := 0
  bucket := 0
  milli := 0
  rate := 1000
  eAvail := 0
  eLimit := 0
  heldLimit := none
  sensorFault := 0
  injDone := 0
  injAborted := 0

/-- R444: no resynchronisation runs. -/
def Sync.reset : Sync where
  bands := []
  map := []
  seqs := []

/-- R532. -/
def Hold.reset : Hold where
  chg := .off
  restartDone := false
  restarted := false
  cfgValid := false
  bankFault := false
  critBackup := false
  measSkipped := 0
  confInForce := none
  stage := List.replicate 128 0
  cfgBusy := false
  cfgResult := 0
  policyDue := false
  ckptInterval := 600
  journalMax := 8
  polBad := false
  wtWrites := 0
  dump := none
  dumpCapMib := 0
  ckpts := []
  ckptRun := none
  ckptNext := false
  ckptFails := 0
  segTab := none
  segments := 0
  segNew := 0
  segRun := none
  dirtyDelta := false
  epochMax := 0
  dumpUsed := false
  dumpLost := false
  shardFallback := false
  mapLost := false
  lostKeys := []
  frontierScan := false
  prevManifest := false
  restartMs := 0
  sync := Sync.reset

/-- R565. -/
def Mqt.reset : Mqt := { sess := [], chains := [], digestFails := 0, frozenWrites := 0, tails := [] }

/-- R566, R568, R586, R587: SMBus/I2C at 100 kHz, no EID. -/
def Mgt.reset : Mgt where
  i3c := false
  addr := 0x58
  da := 0
  eid := 0
  freqKhz := 100
  mtu := 64
  mrl := 64
  mwl := 64
  events := 0
  hscSet := 0
  hscEnable := 0
  asm := none
  held := []
  snapGen := 0
  snap := []
  snapTaken := false
  snapWarn := 0
  mismatches := 0
  pecErrors := 0
  droppedMsgs := 0

/-- R597. -/
def Ksc.reset : Ksc where
  enable := false
  cls := 0
  armSlot := 0
  armDiv := 1
  snapMs := 100
  badWrite := false
  active := false
  fifo := []
  lost := 0
  lostRun := 0
  snapIndex := 0
  snap := List.replicate 12 0
  armCount := 0

/-- R618. -/
def Evs.reset : Evs :=
  { pend := 0, en := 0, sum := 0, vector := 0, vecEn := false, aenEn := false, messages := 0, aens := 0 }

/-- No latch pending (R604). -/
def Latch.reset : Latch := { gen0 := none, gen1 := none, up0 := none, up1 := none }

end Sys2Proof.Machine
end

