-- ==== Sys2Proof/Machine/State.lean ====
section
/-! DEFINITION. The state of the block, the reasons a step can stop, and the state right after a Cold reset (R19). -/
namespace Sys2Proof.Machine

/-- The whole state. -/
structure State where
  pwr   : Pwr
  fuses : Fuses
  boot  : Boot
  vault : VaultRec
  rcv   : Rcv
  nor   : Nor
  cfg   : CfgStore
  trust : Trust
  evr   : Evr
  upd   : Upd
  port0 : Port
  port1 : Port
  ctoMs : BitVec 12
  ctoBad : Bool
  ctoOverride : Bool
  bmlRid  : W8
  bmlPort : Bool
  bmlCount : W16
  timeouts : W16
  unexpected : W16
  fns   : Sparse Fn
  nvm   : Nvm
  tab   : Tables
  media : Media
  ftl   : Ftl
  flash : Flash
  arm   : Arm
  hold  : Hold
  mqt   : Mqt
  mgt   : Mgt
  ksc   : Ksc
  evs0  : Evs
  evs1  : Evs
  latch : Latch
  /-- draws of free values so far (the model's own, log 2) -/
  free  : Nat
  /-- outputs so far (the model's own, log 4) -/
  out   : List Output
  /-- commands waiting, first in, first out -/
  pending : List Instr
  deriving DecidableEq, Repr

/-- The machine stops with a fault. -/
inductive Fault where
  /-- An Image Array access at or beyond 0x1000_0000, which the die does not have (R142). Raised by the Image Array and
  recovery-window commands. Safe: the hardware has no such address to go on at. -/
  | noSuchOffset (offset : Nat)
  deriving DecidableEq, Repr

/-- A command without a meaning. -/
inductive Refusal where
  /-- Raised by Dispatch for a row whose meaning is not written. Safe: nothing can be proved about it. -/
  | notModelled (mnemonic : String)
  deriving DecidableEq, Repr

/-- The block right after a Cold reset: rails rising, every register at its Reset column, nothing waiting. Values for
which the spec gives no reset value are named in log 3. -/
def State.reset : State where
  pwr := Pwr.reset
  fuses := Fuses.reset
  boot := Boot.reset
  vault := VaultRec.reset
  rcv := Rcv.reset
  nor := Nor.reset
  cfg := CfgStore.reset
  trust := Trust.reset
  evr := Evr.reset
  upd := Upd.reset
  port0 := Port.reset
  port1 := Port.reset
  ctoMs := 50
  ctoBad := false
  ctoOverride := false
  bmlRid := 0
  bmlPort := false
  bmlCount := 0
  timeouts := 0
  unexpected := 0
  fns := []
  nvm := Nvm.reset
  tab := Tables.reset
  media := Media.reset
  ftl := Ftl.reset
  flash := Flash.reset
  arm := Arm.reset
  hold := Hold.reset
  mqt := Mqt.reset
  mgt := Mgt.reset
  ksc := Ksc.reset
  evs0 := Evs.reset
  evs1 := Evs.reset
  latch := Latch.reset
  free := 0
  out := []
  pending := []

end Sys2Proof.Machine
end

