-- ==== Sys2Proof/Machine/Bits.lean ====
section
/-! DEFINITION. Byte orders, slices, saturating counters, sparse tables, CRC-32C and CRC-8: the plain helpers the
meanings share. -/
namespace Sys2Proof.Machine

/-! ## Byte strings -/

/-- `n` bytes of `v`, least significant first (R10). -/
def leBytes : Nat → Nat → Bytes
  | 0, _ => []
  | n + 1, v => BitVec.ofNat 8 v :: leBytes n (v / 256)

/-- The number a little-endian byte string holds (R10). -/
def leVal : Bytes → Nat
  | [] => 0
  | b :: r => b.toNat + 256 * leVal r

/-- `n` bytes of `v`, most significant first: digests and other opaque byte strings. -/
def beBytes (n v : Nat) : Bytes := (leBytes n v).reverse

/-- A digest as the byte string it is. -/
def digestBytes (d : Digest) : Bytes := beBytes 48 d.toNat

/-- `len` bytes from `off`; positions past the end are absent. -/
def slice (b : Bytes) (off len : Nat) : Bytes := (b.drop off).take len

/-- `b` cut or padded with zero bytes to `n` bytes. -/
def padTo (n : Nat) (b : Bytes) : Bytes := (b ++ List.replicate (n - b.length) 0).take n

/-- The bytes of a log page or structure that a transfer of `len` bytes from `off` moves: bytes past its end are 0. -/
def window (b : Bytes) (off len : Nat) : Bytes := padTo len (b.drop off)

/-! ## Fields and counters -/

/-- Bits `[lo + w - 1 : lo]` of a register value. -/
def fieldOf (lo w : Nat) (v : W32) : BitVec w := (v >>> lo).setWidth w

/-- A field placed at `lo` of a 32-bit register. -/
def at32 {w : Nat} (lo : Nat) (f : BitVec w) : W32 := (f.setWidth 32) <<< lo

/-- A one-bit field placed at `lo`. -/
def bit32 (lo : Nat) (b : Bool) : W32 := if b then (1 : W32) <<< lo else 0

/-- A CNT field after `k` increments, saturating at its maximum (R13). -/
def satAdd {w : Nat} (c : BitVec w) (k : Nat) : BitVec w :=
  if 2 ^ w ≤ c.toNat + k then BitVec.allOnes w else BitVec.ofNat w (c.toNat + k)

/-- A value as a field of `w` bits that saturates at its maximum. -/
def satOf (w n : Nat) : BitVec w := if 2 ^ w ≤ n then BitVec.allOnes w else BitVec.ofNat w n

/-- An exact value clamped to `[lo, hi]`. -/
def clampInt (lo hi v : Int) : Int := if v < lo then lo else if hi < v then hi else v

/-- A 16-bit field of a serialised table. -/
def le16 (n : Nat) : Bytes := leBytes 2 n
/-- A 32-bit field of a serialised table. -/
def le32 (n : Nat) : Bytes := leBytes 4 n
/-- A 64-bit field of a serialised table. -/
def le64 (n : Nat) : Bytes := leBytes 8 n

/-! ## Sparse tables -/

variable {α : Type}

/-- The entry listed at `k`. -/
def Sparse.look : Sparse α → Nat → Option α
  | [], _ => none
  | (j, v) :: r, k => if j = k then some v else Sparse.look r k

/-- The table without an entry at `k`. -/
def Sparse.erase : Sparse α → Nat → Sparse α
  | [], _ => []
  | (j, v) :: r, k => if j = k then Sparse.erase r k else (j, v) :: Sparse.erase r k

/-- The table with `v` at `k`, keys kept rising. -/
def Sparse.set : Sparse α → Nat → α → Sparse α
  | [], k, v => [(k, v)]
  | (j, w) :: r, k, v =>
    if k < j then (k, v) :: (j, w) :: r else if j = k then (k, v) :: r else (j, w) :: Sparse.set r k v

/-- What `k` reads as in a table whose unlisted keys read as `d`. -/
def Sparse.read (d : α) (t : Sparse α) (k : Nat) : α := (Sparse.look t k).getD d

/-- Writes `v` at `k` in a table whose unlisted keys read as `d`: writing `d` removes the entry. -/
def Sparse.put [DecidableEq α] (d : α) (t : Sparse α) (k : Nat) (v : α) : Sparse α :=
  if v = d then Sparse.erase t k else Sparse.set t k v

/-- Keys strictly rise. -/
def Sparse.rising : Sparse α → Bool
  | [] => true
  | [_] => true
  | (j, _) :: (k, v) :: r => decide (j < k) && Sparse.rising ((k, v) :: r)

/-- The canonical form: keys strictly rise and no entry equals the default `d`. -/
def Sparse.wf [DecidableEq α] (d : α) (t : Sparse α) : Bool :=
  Sparse.rising t && t.all fun e => decide (e.2 ≠ d)

/-- Writes `bs` from address `a` on. -/
def Sparse.putBytes (d : Byte) : Sparse Byte → Nat → Bytes → Sparse Byte
  | t, _, [] => t
  | t, a, b :: r => Sparse.putBytes d (Sparse.put d t a b) (a + 1) r

/-- Reads `n` bytes from address `a` on. -/
def Sparse.readBytes (d : Byte) (t : Sparse Byte) (a n : Nat) : Bytes :=
  (List.range n).map fun i => Sparse.read d t (a + i)

/-- Removes every entry with `lo ≤ key < hi`. -/
def Sparse.clear (t : Sparse α) (lo hi : Nat) : Sparse α := t.filter fun e => decide (e.1 < lo ∨ hi ≤ e.1)

/-! ## Checksums -/

/-- One byte into a reflected CRC-32C register (R10). -/
def crc32cByte (c : W32) (b : Byte) : W32 :=
  (List.range 8).foldl
    (fun c _ => if c.getLsbD 0 then (c >>> 1) ^^^ 0x82F63B78#32 else c >>> 1) (c ^^^ b.setWidth 32)

/-- CRC-32C of a byte string. -/
def crc32c (b : Bytes) : W32 := ~~~ (b.foldl crc32cByte 0xFFFFFFFF#32)

/-- One byte into the CRC-8 register of R592. -/
def crc8Byte (c : Byte) (b : Byte) : Byte :=
  (List.range 8).foldl
    (fun c _ => if c.getLsbD 7 then (c <<< 1) ^^^ 0x07#8 else c <<< 1) (c ^^^ b)

/-- CRC-8 of R592: polynomial 0x07, initial value 0, not reflected. -/
def crc8 (b : Bytes) : Byte := b.foldl crc8Byte 0

/-! ## Lists -/

/-- The first element with its place in the list. -/
def firstIdx {β : Type} (p : β → Bool) : List β → Option Nat
  | [] => none
  | x :: r => if p x then some 0 else (firstIdx p r).map (· + 1)

/-- `f` applied to the elements `p` selects. -/
def mapWhere {β : Type} (p : β → Bool) (f : β → β) (l : List β) : List β := l.map fun x => if p x then f x else x

/-- `x` added to a list without repeats. -/
def insertNew {β : Type} [DecidableEq β] (x : β) (l : List β) : List β := if x ∈ l then l else l ++ [x]

/-- `x` placed in a list sorted by `key`, after equal ones. -/
def insertBy {β : Type} (key : β → Nat) (x : β) : List β → List β
  | [] => [x]
  | y :: r => if key x < key y then x :: y :: r else y :: insertBy key x r

/-- A list sorted by `key`; equal ones keep their order. -/
def sortBy {β : Type} (key : β → Nat) (l : List β) : List β := l.foldl (fun a x => insertBy key x a) []

/-- Largest element, 0 for none. -/
def listMax (l : List Nat) : Nat := l.foldl max 0

/-- Sum. -/
def listSum (l : List Nat) : Nat := l.foldl (· + ·) 0

end Sys2Proof.Machine
end

