-- ==== Sys2Proof/Machine/Flags.lean ====
section
/-! DEFINITION. Status codes: the SCT, SC and DNR that a completion carries for each named status (R315, R351, R615). -/
namespace Sys2Proof.Machine

/-- Status code type of R351 and, for the standard statuses, of NVMe Base 2.1 (PRESUMED, log 8). -/
def Status.sct : Status → BitVec 3
  | .success | .invalidCommandOpcode | .invalidField | .dataTransferError | .internalError | .abortRequested
  | .abortedSqDeletion | .invalidNamespaceOrFormat | .commandSequenceError | .dataSglLengthInvalid
  | .sglDescriptorTypeInvalid | .sanitizeFailed | .sanitizeInProgress | .namespaceWriteProtected | .lbaOutOfRange
  | .namespaceNotReady | .reservationConflict | .formatInProgress => 0
  | .completionQueueInvalid | .invalidQueueIdentifier | .invalidQueueSize | .abortLimitExceeded
  | .asyncEventLimitExceeded | .invalidFirmwareSlot | .invalidFirmwareImage | .invalidInterruptVector
  | .invalidLogPage | .invalidFormat | .invalidQueueDeletion | .featureNotSaveable | .featureNotChangeable
  | .overlappingRange | .namespaceInsufficientCapacity | .namespaceIdUnavailable | .namespaceAlreadyAttached
  | .namespaceIsPrivate | .namespaceNotAttached | .controllerListInvalid | .selfTestInProgress
  | .invalidControllerId | .invalidSecondaryState | .invalidNumberOfResources | .invalidResourceId => 1
  | .unrecoveredReadError | .compareFailure => 2
  | .ownerLocked | .holdupLow | .dataMoving | .thermal | .keySlotErased | .entropyUnavailable | .arrayOffline
  | .stateConflict | .digestMismatch | .authorizationFailed => 7

/-- Status code of R351 and, for the standard statuses, of NVMe Base 2.1 (PRESUMED, log 8). -/
def Status.sc : Status → W8
  | .success => 0x00
  | .invalidCommandOpcode => 0x01
  | .invalidField => 0x02
  | .dataTransferError => 0x04
  | .internalError => 0x06
  | .abortRequested => 0x07
  | .abortedSqDeletion => 0x08
  | .invalidNamespaceOrFormat => 0x0B
  | .commandSequenceError => 0x0C
  | .dataSglLengthInvalid => 0x0F
  | .sglDescriptorTypeInvalid => 0x11
  | .sanitizeFailed => 0x1C
  | .sanitizeInProgress => 0x1D
  | .namespaceWriteProtected => 0x20
  | .lbaOutOfRange => 0x80
  | .namespaceNotReady => 0x82
  | .reservationConflict => 0x83
  | .formatInProgress => 0x84
  | .completionQueueInvalid => 0x00
  | .invalidQueueIdentifier => 0x01
  | .invalidQueueSize => 0x02
  | .abortLimitExceeded => 0x03
  | .asyncEventLimitExceeded => 0x05
  | .invalidFirmwareSlot => 0x06
  | .invalidFirmwareImage => 0x07
  | .invalidInterruptVector => 0x08
  | .invalidLogPage => 0x09
  | .invalidFormat => 0x0A
  | .invalidQueueDeletion => 0x0C
  | .featureNotSaveable => 0x0D
  | .featureNotChangeable => 0x0E
  | .overlappingRange => 0x14
  | .namespaceInsufficientCapacity => 0x15
  | .namespaceIdUnavailable => 0x16
  | .namespaceAlreadyAttached => 0x18
  | .namespaceIsPrivate => 0x19
  | .namespaceNotAttached => 0x1A
  | .controllerListInvalid => 0x1C
  | .selfTestInProgress => 0x1D
  | .invalidControllerId => 0x1F
  | .invalidSecondaryState => 0x20
  | .invalidNumberOfResources => 0x21
  | .invalidResourceId => 0x22
  | .unrecoveredReadError => 0x81
  | .compareFailure => 0x85
  | .ownerLocked => 0x80
  | .holdupLow => 0x81
  | .dataMoving => 0x82
  | .thermal => 0x83
  | .keySlotErased => 0x84
  | .entropyUnavailable => 0x85
  | .arrayOffline => 0x86
  | .stateConflict => 0x88
  | .digestMismatch => 0x89
  | .authorizationFailed => 0x8A

/-- DNR of a completion: R351 for the vendor codes, 0 for success and Namespace Not Ready (R343); the spec states none
for the other standard statuses, and there the bit is a free value (log 8). -/
def Status.dnr (st : Status) : Bool :=
  match st with
  | .success | .namespaceNotReady => false
  | .ownerLocked | .holdupLow | .dataMoving | .thermal | .entropyUnavailable | .stateConflict => false
  | .keySlotErased | .arrayOffline | .digestMismatch | .authorizationFailed => true
  | _ => Config.dnrBit st.sct st.sc

end Sys2Proof.Machine
end

