-- ==== Sys2Proof/Machine/Operands.lean ====
section
/-! DEFINITION. How operands name things: functions by routing ID and unit number, requesters, indirection units, map
entries, record bytes. -/
namespace Sys2Proof.Machine

/-- Index of a PF, port or bank. -/
def pfNum : Pf → Nat
  | .p0 => 0
  | .p1 => 1

/-- UNIT of R581: 1 PF0, 2 PF1, 2 + n VF n of PF0, 129 + n VF n of PF1. -/
def unitOf (f : Func) : Nat :=
  match f.pf, f.vf with
  | .p0, 0 => 1
  | .p1, 0 => 2
  | .p0, n => 2 + n
  | .p1, n => 129 + n

/-- The function with a given UNIT. -/
def funcOfUnit (u : Nat) : Func :=
  if u ≤ 1 then ⟨.p0, 0⟩ else if u = 2 then ⟨.p1, 0⟩ else if u ≤ 129 then ⟨.p0, u - 2⟩ else ⟨.p1, u - 129⟩

/-- UNIT of a namespace (R581). -/
def nsUnit (nsid : Nat) : Nat := 256 + nsid

/-- Routing ID on its port (R278). -/
def routingId (bifurc : Bool) (f : Func) : Nat :=
  if bifurc then f.vf
  else match f.pf, f.vf with
    | .p0, 0 => 0
    | .p1, 0 => 1
    | .p0, n => n + 1
    | .p1, n => n + 128

/-- The port a function sits behind (R278): every function on port 0 in x16 mode. -/
def portOf (bifurc : Bool) (f : Func) : Pf := if bifurc then f.pf else .p0

/-- The functions a reset of `f` covers: a PF with its VFs, or one VF (R308). -/
def coveredBy (f g : Func) : Bool := decide (g.pf = f.pf) && (decide (f.vf = 0) || decide (g.vf = f.vf))

/-- The requester of R192 and R254 that a source is, when it is one. -/
def requesterOf : Source → Option Requester
  | .mgt => some .mgt
  | .fn ⟨.p0, 0⟩ => some .pf0
  | .fn ⟨.p1, 0⟩ => some .pf1
  | .fn _ => none

/-- Requester code of events (R247): 1 PF0, 2 PF1, 3 the management path. -/
def requesterCode : Requester → Nat
  | .pf0 => 1
  | .pf1 => 2
  | .mgt => 3

/-- A source that is a VF. -/
def isVf : Source → Bool
  | .fn ⟨_, 0⟩ => false
  | .fn _ => true
  | .mgt => false

/-- The function behind a source. -/
def funcOf? : Source → Option Func
  | .fn f => some f
  | .mgt => none

/-- Key of an indirection unit across namespaces (R390): namespace number, then IU number. Shadow units (R396)
stand `2^39` higher. -/
def iuKey (nsid iu : Nat) : Nat := nsid * 2 ^ 40 + iu

/-- The shadow copy of an indirection unit. -/
def shadowKey (k : Nat) : Nat := k + 2 ^ 39

/-- Namespace of an IU key. -/
def iuNs (k : Nat) : Nat := k / 2 ^ 40

/-- Indirection unit number of an IU key, without the shadow mark. -/
def iuNum (k : Nat) : Nat := k % 2 ^ 39

/-- An IU key is a shadow copy's. -/
def iuShadow (k : Nat) : Bool := decide (2 ^ 39 ≤ k % 2 ^ 40)

/-- Key of a band: its group and its index in the group. -/
def bandKey (g i : Nat) : Nat := g * 65536 + i

/-- Slot code in registers and tables: 0 G, 1 A, 2 B (R138, R250). -/
def slotCode : SlotId → Nat
  | .g => 0
  | .a => 1
  | .b => 2

/-- Slot by code. -/
def slotOfCode : Nat → Option SlotId
  | 0 => some .g
  | 1 => some .a
  | 2 => some .b
  | _ => none

/-- Logical block size of an LBA format, without metadata (R336). -/
def lbaBytes (lbaf : Nat) : Nat := if lbaf = 0 then 512 else 4096

/-- Metadata bytes per logical block of an LBA format (R336). -/
def metaBytes (lbaf : Nat) : Nat := if lbaf = 2 then 8 else if lbaf = 3 then 64 else 0

/-- Indirection unit size in bytes by code (R335): 0 is 16 KiB, 1 is 4 KiB, 2 is 64 KiB. -/
def iuBytes (code : Nat) : Nat := if code = 1 then 4096 else if code = 2 then 65536 else 16384

/-- Logical blocks in one indirection unit. -/
def iuBlocks (lbaf iu : Nat) : Nat := iuBytes iu / lbaBytes lbaf

end Sys2Proof.Machine
end

