-- ==== Sys2Proof/Machine/Records.lean ====
section
/-! DEFINITION. The record logs of the configuration partitions (R109, R110, R143, R144, R190, R498, R578) and the stop
logs (R84). Records are kept as the fields they hold; the bytes that the array holds of them are formed from these
fields (Machine/ImageArray.lean, log 9). -/
namespace Sys2Proof.Machine

/-- Kind of a record body. -/
def RecBody.kind : RecBody → RecKind
  | .boot _ => .boot
  | .owner _ => .owner
  | .vpd _ => .vpd
  | .conf _ => .conf

/-- 512-byte pages a copy takes: boot 256 bytes, owner 4,096, VPD 1,280, configuration 256 (R109, R190, R498, R578). -/
def recPages : RecKind → Nat
  | .boot => 1
  | .owner => 8
  | .vpd => 3
  | .conf => 1

/-- Pages in a 256 KiB sector. -/
def sectorPages : Nat := 512

/-- The pair log that holds a kind (R143). -/
def CfgPart.log (p : CfgPart) : RecKind → PairLog
  | .boot => p.boot
  | .owner => p.owner
  | .vpd => p.owner
  | .conf => p.conf

/-- The partition with one pair log replaced. -/
def CfgPart.withLog (p : CfgPart) (k : RecKind) (l : PairLog) : CfgPart :=
  match k with
  | .boot => { p with boot := l }
  | .owner => { p with owner := l }
  | .vpd => { p with owner := l }
  | .conf => { p with conf := l }

/-- A copy that R110 may choose: COMMIT and MAC verify, and an owner STATE is 0, 1 or 2 (R190). -/
def RecCopy.good (c : RecCopy) : Bool :=
  c.valid && (match c.body with
    | .owner o => decide (o.state.toNat ≤ 2)
    | _ => true)

/-- The later of two copies by SEQUENCE; the first at equal ones. -/
def laterCopy (a b : Option RecCopy) : Option RecCopy :=
  match a, b with
  | some x, some y => if x.seq.toNat < y.seq.toNat then some y else some x
  | some x, none => some x
  | none, y => y

/-- Copies a sector holds. -/
def LogSector.held (l : LogSector) : List RecCopy := if l.lost then [] else l.copies

/-- The partition's copy of a kind: the highest SEQUENCE among the good ones (R144). -/
def PairLog.copyOf (l : PairLog) (k : RecKind) : Option RecCopy :=
  ((l.secA.held ++ l.secB.held).filter fun c => c.good && decide (c.body.kind = k)).foldl
    (fun a c => laterCopy a (some c)) none

/-- The copy in force across both partitions (R110, R144). -/
def CfgStore.inForce (c : CfgStore) (k : RecKind) : Option RecCopy :=
  laterCopy ((c.cfg0.log k).copyOf k) ((c.cfg1.log k).copyOf k)

/-- The boot control record in force. -/
def bootRec? (s : State) : Option BootRec :=
  match s.cfg.inForce .boot with
  | some ⟨_, .boot r, _⟩ => some r
  | _ => none

/-- The owner record in force; with none the device is treated as Unowned with the lock clear (R215). -/
def ownerRec? (s : State) : Option OwnerRec :=
  match s.cfg.inForce .owner with
  | some ⟨_, .owner r, _⟩ => some r
  | _ => none

/-- The VPD region in force: unused bytes read 0xFF (R578). -/
def vpdBytes (s : State) : Bytes :=
  match s.cfg.inForce .vpd with
  | some ⟨_, .vpd b, _⟩ => b
  | _ => List.replicate 1024 0xFF

/-- The configuration record in force in the logs (R498). -/
def confRec? (s : State) : Option ConfRec :=
  match s.cfg.inForce .conf with
  | some ⟨_, .conf r, _⟩ => some r
  | _ => none

/-- The pair lost both sectors (R162). -/
def PairLog.gone (l : PairLog) : Bool := l.secA.lost && l.secB.lost

/-- Only one sector is left (R144). -/
def PairLog.single (l : PairLog) : Bool := l.secA.lost != l.secB.lost

/-- The active sector is the second one. -/
def PairLog.onB (l : PairLog) : Bool := if l.secA.lost then true else if l.secB.lost then false else l.second

/-- The active sector. -/
def PairLog.active (l : PairLog) : LogSector := if l.onB then l.secB else l.secA

/-- The log with its active sector replaced. -/
def PairLog.setActive (l : PairLog) (x : LogSector) : PairLog :=
  if l.onB then { l with secB := x } else { l with secA := x }

/-- A copy of `n` pages fits in the active sector. -/
def PairLog.fits (l : PairLog) (n : Nat) : Bool := !l.gone && decide (l.active.pages + n ≤ sectorPages)

/-- A sector with copies programmed after those it holds (R144, Placement). -/
def LogSector.append (x : LogSector) (cs : List RecCopy) : LogSector :=
  { x with copies := x.copies ++ cs, pages := x.pages + listSum (cs.map fun c => recPages c.body.kind) }

/-- The other record kinds of the log that holds `k` (R143). -/
def otherKinds : RecKind → List RecKind
  | .owner => [.vpd]
  | .vpd => [.owner]
  | _ => []

/-- A new copy placed in one partition's log: in place, or after the switch to the pair's other sector (R144). The
second component counts the programs and erases done. -/
def PairLog.place (l : PairLog) (c : RecCopy) : PairLog × Nat :=
  let n := recPages c.body.kind
  if l.fits n then (l.setActive (l.active.append [c]), n)
  else
    let keep := (otherKinds c.body.kind).filterMap l.copyOf
    let fresh := ({ lost := false, copies := [], pages := 0 } : LogSector).append (keep ++ [c])
    (if l.onB then { l with secA := fresh, second := false } else { l with secB := fresh, second := true },
      1 + fresh.pages)

/-- Single-sector log that is full: the sector is erased and takes, from DRAM, the copies in force of the other kinds
and then the new copy (R144). -/
def PairLog.rewrite (l : PairLog) (others : List RecCopy) (c : RecCopy) : PairLog × Nat :=
  let fresh := ({ lost := false, copies := [], pages := 0 } : LogSector).append (others ++ [c])
  (l.setActive fresh, 1 + fresh.pages)

/-- One partition by number. -/
def CfgStore.part (c : CfgStore) (one : Bool) : CfgPart := if one then c.cfg1 else c.cfg0

/-- One partition replaced. -/
def CfgStore.setPart (c : CfgStore) (one : Bool) (p : CfgPart) : CfgStore :=
  if one then { c with cfg1 := p } else { c with cfg0 := p }

/-- The partition that a new copy of a kind goes to: the one not holding the copy in force, CFG0 when both or neither
hold it, the other one when the choice has lost its pair (R144). -/
def CfgStore.target (c : CfgStore) (k : RecKind) : Bool :=
  let first := match c.inForce k with
    | none => false
    | some f =>
      let in0 := (match (c.cfg0.log k).copyOf k with | some x => decide (x.seq = f.seq) | none => false)
      let in1 := (match (c.cfg1.log k).copyOf k with | some x => decide (x.seq = f.seq) | none => false)
      in0 && !in1
  if ((c.part first).log k).gone then !first else first

/-- Writes a new copy of a record with the next SEQUENCE (R144). `ok` is whether its COMMIT word is programmed with no
failure; without it the copy never verifies. Answers the store and the programs and erases done. -/
def CfgStore.write (c : CfgStore) (b : RecBody) (ok : Bool) : CfgStore × Nat :=
  let k := b.kind
  let one := c.target k
  let l := (c.part one).log k
  if l.gone then (c, 0)
  else
    let copy : RecCopy := { seq := (match c.inForce k with | some f => f.seq + 1 | none => 1), body := b, valid := ok }
    if l.single && !l.fits (recPages k) then
      let others := (otherKinds k).filterMap c.inForce
      -- the other partition first takes the other kinds where it can without an erase
      let lo := (c.part (!one)).log k
      let (lo', n1) := others.foldl
        (fun a x => if decide (lo.copyOf x.body.kind = some x) then a
          else if a.1.fits (recPages x.body.kind) then
            (a.1.setActive (a.1.active.append [x]), a.2 + recPages x.body.kind)
          else a) (lo, 0)
      let (l', n2) := l.rewrite others copy
      ((c.setPart (!one) ((c.part (!one)).withLog k lo')).setPart one ((c.part one).withLog k l'), n1 + n2)
    else
      let (l', n) := l.place copy
      (c.setPart one ((c.part one).withLog k l'), n)

/-- WRITE_GEN after `n` accepted programs and erases (R164). -/
def bumpGen (n : Nat) (s : State) : State := { s with nor.writeGen := s.nor.writeGen + BitVec.ofNat 64 n }

/-- A new copy of a record is programmed by Plinth or firmware: one PROGRAM per page and one erase per switch advance
WRITE_GEN (log 10). -/
def putRecord (b : RecBody) (ok : Bool) (s : State) : State :=
  bumpGen (s.cfg.write b ok).2 { s with cfg := (s.cfg.write b ok).1 }

/-- First sector of a CFG partition (R142). -/
def cfgFirst (one : Bool) : Nat := if one then 840 else 424

/-- Place of a kind's pair log within its partition (R143). -/
def recPlace : RecKind → Nat
  | .boot => 0
  | .owner => 2
  | .vpd => 2
  | .conf => 4

/-- Array sector that the active sector of a kind's log is (R142, R143). -/
def CfgStore.activeSector (c : CfgStore) (one : Bool) (k : RecKind) : Nat :=
  cfgFirst one + recPlace k + (if ((c.part one).log k).onB then 1 else 0)

/-- A sector of a pair log with nothing in it; a lost one stays lost. -/
def LogSector.wiped (x : LogSector) : LogSector := { x with copies := [], pages := 0 }

/-- The log with one of its two sectors changed. -/
def PairLog.onSector (l : PairLog) (second : Bool) (f : LogSector → LogSector) : PairLog :=
  if second then { l with secB := f l.secB } else { l with secA := f l.secA }

/-- A CFG partition with the log in sector `i` of it changed (R143). -/
def CfgPart.onSector (p : CfgPart) (i : Nat) (f : LogSector → LogSector) (g : StopLog → StopLog) : CfgPart :=
  match i with
  | 0 => { p with boot := p.boot.onSector false f }
  | 1 => { p with boot := p.boot.onSector true f }
  | 2 => { p with owner := p.owner.onSector false f }
  | 3 => { p with owner := p.owner.onSector true f }
  | 4 => { p with conf := p.conf.onSector false f }
  | 5 => { p with conf := p.conf.onSector true f }
  | 7 => { p with stop := g p.stop }
  | _ => p

/-- A record write can take place somewhere: some partition keeps a sector of the pair. -/
def canStore (k : RecKind) (s : State) : Bool := !((s.cfg.part (s.cfg.target k)).log k).gone

/-! ## Stop logs -/

/-- Valid stop records of a partition. -/
def StopLog.good (l : StopLog) : List StopRec := if l.lost then [] else l.recs.filter (·.valid)

/-- Highest STOP_SEQ among records (R84). -/
def maxStopSeq (l : List StopRec) : Nat := listMax (l.map fun r => r.stopSeq.toNat)

/-- Newest of a list of stop records: the highest STOP_SEQ (R84). -/
def newestStop (l : List StopRec) : Option StopRec :=
  l.foldl (fun a r => match a with
    | some x => if x.stopSeq.toNat < r.stopSeq.toNat then some r else some x
    | none => some r) none

/-- A stop log sector has room for one more 32-byte record (R84). -/
def StopLog.room (l : StopLog) : Bool := !l.lost && decide (l.recs.length < 8192)

/-- The valid stop records of both partitions. -/
def allStops (c : CfgStore) : List StopRec := c.cfg0.stop.good ++ c.cfg1.stop.good

/-- The newest valid stop record lies in CFG1; with none, or in CFG0, it does not (R84). -/
def newestStopIn1 (c : CfgStore) : Bool := decide (maxStopSeq c.cfg0.stop.good < maxStopSeq c.cfg1.stop.good)

/-- The 32 bytes of a stop record (R84). -/
def stopBytes (r : StopRec) : Bytes :=
  let b := le32 0x50545A54 ++ le32 r.bootIndex.toNat ++ leBytes 1 r.cause.toNat ++ leBytes 3 0 ++ le32 r.flushMs.toNat
    ++ le32 r.dumpedMib.toNat ++ le32 r.stopSeq.toNat ++ le32 0
  b ++ le32 (crc32c b).toNat

end Sys2Proof.Machine
end

