-- ==== Sys2Proof/Machine/Ops.lean ====
section
/-! DEFINITION. The operations the meanings share: outputs, free values, event sources, Kaleidoscope packets, ledger
events, unit states, functions and their interrupts, completions, and how a command is fetched (R219, R236, R293 to
R297, R325 to R328, R341 to R343, R592, R594, R609). -/
namespace Sys2Proof.Machine

/-! ## Outputs and free values -/

/-- Adds an output. -/
def emit (o : Output) (s : State) : State := { s with out := s.out ++ [o] }

/-- The next free value of width `w` (log 2). -/
def draw (w : Nat) (s : State) : BitVec w := Config.freeBits w s.free

/-- The state after `n` draws. -/
def drawn (n : Nat) (s : State) : State := { s with free := s.free + n }

/-! ## Where the device stands -/

/-- Majority of the three fuses of each logical bit (R91). -/
def Triple.maj {w : Nat} (t : Triple w) : BitVec w := (t.a &&& t.b) ||| (t.a &&& t.c) ||| (t.b &&& t.c)

/-- The thermometer code's value: set bits from bit 0 up to the first gap (log 11). -/
def thermometer (v : BitVec 64) : Nat :=
  (List.range 64).foldl (fun n i => if n = i ∧ v.getLsbD i then n + 1 else n) 0

/-- The counter region as it is read: its shadow registers once a load filled them (R89), the fuses before. -/
def counters (s : State) : Counters :=
  s.fuses.counters.getD { svnMin := s.fuses.svnMin, keyRevoke := s.fuses.keyRevoke, kscOff := s.fuses.kscOff }

/-- SVN_MIN, the current floor, 0 to 64. -/
def svnMin (s : State) : Nat := thermometer (counters s).svnMin.maj

/-- KSC_FUSE_OFF (R91). -/
def kscFuseOff (s : State) : Bool := (counters s).kscOff.maj.getLsbD 0

/-- Internal reset is released and no stop has come: cores and engines run (R49, R71 step 8). -/
def powered (s : State) : Bool := decide (s.pwr.phase = .released)

/-- What an engine does while the device runs; a stopped device does nothing (R49, R71 step 8). -/
def whilePowered (k : State → State) (s : State) : State := if powered s then k s else s

/-- Internal reset is released and firmware has control. -/
def firmwareUp (s : State) : Bool := decide (s.pwr.phase = .released) && decide (s.boot.phase = .firmware)

/-- Firmware has control and no flush runs: commands are fetched and executed (R71). -/
def running (s : State) : Bool := firmwareUp s && s.pwr.flush.isNone

/-- Firmware runs and the restart of R525 is done: DEVICE_MODE Running (R585). -/
def fullyUp (s : State) : Bool := running s && s.hold.restartDone

/-- The recovery function and mailbox are presented: Recovery or Option Fault (R125). -/
def rcvPresented (s : State) : Bool :=
  decide (s.pwr.phase = .released ∧ (s.boot.phase = .recovery ∨ s.boot.phase = .optionFault)) && s.pwr.flush.isNone

/-- DEVICE_MODE is Restarting: from release until firmware is fully up (R585). -/
def restarting (s : State) : Bool :=
  decide (s.pwr.phase = .released) && s.pwr.flush.isNone && !rcvPresented s && !fullyUp s

/-- DEVICE_MODE of R581: 0 Running, 1 Restarting, 2 Recovery, 3 Option Fault. -/
def deviceMode (s : State) : Nat :=
  match s.boot.phase with
  | .optionFault => 3
  | .recovery => 2
  | .firmware => if s.hold.restartDone then 0 else 1
  | _ => 1

/-- The two ports are separate (R275). -/
def bifurc (s : State) : Bool := s.pwr.straps.bifurc

/-- STATE of the owner record; Unowned with none (R190, R215). -/
def ownerState (s : State) : Nat :=
  match ownerRec? s with
  | some r => r.state.toNat
  | none => 0

/-- OWNER_EPOCH; 0 with no record (R190). -/
def ownerEpoch (s : State) : W32 :=
  match ownerRec? s with
  | some r => r.epoch
  | none => 0

/-- The owner lock: STATE Locked (R195). -/
def ownerLocked (s : State) : Bool := decide (ownerState s = 2)

/-! ## Event sources -/

/-- The source numbers R608 lists. -/
def evsListed (n : Nat) : Bool :=
  decide (n ≤ 5) || decide (32 ≤ n ∧ n ≤ 35) || decide (64 ≤ n ∧ n ≤ 68) || decide (96 ≤ n ∧ n ≤ 99)
    || decide (128 ≤ n ∧ n ≤ 132) || decide (160 ≤ n ∧ n ≤ 162) || decide (192 ≤ n ∧ n ≤ 227)
    || decide (256 ≤ n ∧ n ≤ 264) || decide (n = 288) || decide (512 ≤ n ∧ n ≤ 1225)

/-- The pending bit of source `n` is set in both PFs (R609). -/
def evsSet (n : Nat) (s : State) : State :=
  { s with evs0.pend := s.evs0.pend ||| ((1 : BitVec 4096) <<< n),
           evs1.pend := s.evs1.pend ||| ((1 : BitVec 4096) <<< n) }

/-- `evsSet` when a condition holds. -/
def evsSetIf (b : Bool) (n : Nat) (s : State) : State := if b then evsSet n s else s

/-- Event registers of a PF. -/
def evsOf (s : State) : Pf → Evs
  | .p0 => s.evs0
  | .p1 => s.evs1

/-- Event registers of a PF replaced. -/
def setEvs (pf : Pf) (e : Evs) (s : State) : State :=
  match pf with
  | .p0 => { s with evs0 := e }
  | .p1 => { s with evs1 := e }

/-- Word `k` of a 4,096-bit array (R609). -/
def evsWord (v : BitVec 4096) (k : Nat) : W32 := (v >>> (32 * k)).setWidth 32

/-- Summary bits from the arrays (R610). -/
def evsSummary (e : Evs) : BitVec 128 :=
  (List.range 128).foldl
    (fun acc k => if evsWord (e.pend &&& e.en) k = 0 then acc else acc ||| ((1 : BitVec 128) <<< k)) 0

/-! ## Kaleidoscope packets -/

/-- KSC_DISABLED of the owner record. -/
def ownerKscOff (s : State) : Bool :=
  match ownerRec? s with
  | some r => r.kscOff
  | none => false

/-- The port may drive (R589). -/
def kscAllowed (s : State) : Bool :=
  !s.pwr.straps.kscopeN && !kscFuseOff s && !ownerKscOff s && firmwareUp s && s.ksc.enable

/-- Bytes a packet takes: header, payload and CRC (R592). -/
def kscSize (p : KscPkt) : Nat := 5 + p.payload.length

/-- Packets that use reserved space: SYNC, SNAPSHOT and LOSS (R594). -/
def kscReserved (p : KscPkt) : Bool := decide (p.type = 0x01 ∨ p.type = 0x06 ∨ p.type = 0x07)

/-- Bytes of the 16 KiB FIFO in use by packets that compete for it (R594). -/
def kscFifoBytes (s : State) : Nat := listSum ((s.ksc.fifo.filter fun p => !kscReserved p).map kscSize)

/-- A packet enters the FIFO, preceded by a LOSS packet when drops went before it; one that does not fit is dropped
and LOST rises (R594, source 288). Nothing enters while the port is not active. -/
def kscPut (p : KscPkt) (s : State) : State :=
  if !s.ksc.active then s
  else if !kscReserved p && decide (16384 < kscFifoBytes s + kscSize p) then
    evsSet 288 { s with ksc.lost := satAdd s.ksc.lost 1, ksc.lostRun := satAdd s.ksc.lostRun 1 }
  else if s.ksc.lostRun = 0 then { s with ksc.fifo := s.ksc.fifo ++ [p] }
  else { s with ksc.fifo := s.ksc.fifo ++ [⟨0x07, leBytes 4 s.ksc.lostRun.toNat⟩, p], ksc.lostRun := 0 }

/-- A packet of a class that CLASS must enable: bit `c` of CLASS, from 0 for EVENT (R597). -/
def kscPutClass (c : Nat) (p : KscPkt) (s : State) : State :=
  if s.ksc.cls.getLsbD c then kscPut p s else s

/-- A SYNC packet: the full time, which is a free value, and BOOT_INDEX (R592). -/
def kscSyncPacket (s : State) : State :=
  drawn 1 (kscPut ⟨0x01, leBytes 8 (draw 64 s).toNat ++ leBytes 4 s.boot.bootIndex.toNat⟩ s)

/-- The port follows its five conditions; an activation starts with a SYNC packet and nothing is left to emit once it
stops (R589, R590). -/
def kscFollow (s : State) : State :=
  if kscAllowed s then
    if s.ksc.active then s else kscSyncPacket { s with ksc.active := true }
  else { s with ksc.active := false, ksc.fifo := [], ksc.lostRun := 0 }

/-! ## Ledger records -/

/-- The 124 bytes of a record before its CRC (R218). -/
def recBody (r : EvrRec) : Bytes :=
  le16 r.type.toNat ++ le16 r.aux.toNat ++ le32 r.seq.toNat ++ le32 r.bootIndex.toNat ++ le64 r.timestamp.toNat
    ++ digestBytes r.prevHash ++ padTo 56 r.payload

/-- The 128 bytes of a record (R218). -/
def recBytes (r : EvrRec) : Bytes := recBody r ++ le32 (crc32c (recBody r)).toNat

/-- The chain hash H of a record (R219). -/
def chainHash (r : EvrRec) : Digest := Config.sha384 (recBytes r)

/-- PREV_HASH of the first record ever written in a partition (R220). -/
def firstPrevHash (s : State) (part : EvrPart) : Digest :=
  Config.sha384 (digestBytes s.trust.devidKeyId ++ [match part with | .boot => (0 : Byte) | .gen => 1])

/-- A partition's ledger. -/
def ledger (s : State) : EvrPart → EvrLedger
  | .boot => s.evr.boot
  | .gen => s.evr.gen

/-- A partition's ledger replaced. -/
def setLedger (part : EvrPart) (l : EvrLedger) (s : State) : State :=
  match part with
  | .boot => { s with evr.boot := l }
  | .gen => { s with evr.gen := l }

/-- No record was ever formed in the partition. -/
def EvrLedger.virgin (l : EvrLedger) : Bool :=
  (l.sectors.all fun x => x.recs.isEmpty) && l.queue.isEmpty

/-- PREV_HASH of the next record (R219, R220). -/
def nextPrevHash (s : State) (part : EvrPart) : Digest :=
  if (ledger s part).virgin then firstPrevHash s part else (ledger s part).lastHash

/-- The record that would be formed now: SEQ one above the last, TIMESTAMP a free value (R218 to R220, R234). -/
def formed (part : EvrPart) (type aux : W16) (payload : Bytes) (s : State) : EvrRec :=
  { type, aux, seq := (ledger s part).lastSeq + 1, bootIndex := s.boot.bootIndex, timestamp := draw 64 s,
    prevHash := nextPrevHash s part, payload := padTo 56 payload }

/-- Queues a formed record as the newest of its partition. -/
def pushRec (part : EvrPart) (r : EvrRec) (s : State) : State :=
  setLedger part { ledger s part with
    queue := (ledger s part).queue ++ [r], lastSeq := r.seq, lastHash := chainHash r } s

/-- `a` follows `b` in the order of SEQ values, modulo 2^32 (R221). -/
def seqFollows (a b : W32) : Bool := decide (1 ≤ (a - b).toNat ∧ (a - b).toNat < 2 ^ 31)

/-- Records a partition holds, oldest first: written and not cleared (R241, R246). -/
def EvrLedger.held (l : EvrLedger) : List EvrRec :=
  (l.sectors.flatMap (·.recs)).filter fun r => match l.cleared with
    | some c => seqFollows r.seq c
    | none => true

/-- Newest written record. -/
def EvrLedger.newest? (l : EvrLedger) : Option EvrRec := (l.sectors.flatMap (·.recs)).getLast?

/-- NEWEST_SEQ: 0 when no record was ever written (R225, R243). -/
def EvrLedger.newestSeq (l : EvrLedger) : W32 := match l.newest? with | some r => r.seq | none => 0

/-- OLDEST_SEQ; with nothing readable the SEQ after NEWEST_SEQ (log 19). -/
def EvrLedger.oldestSeq (l : EvrLedger) : W32 := match l.held with | r :: _ => r.seq | [] => l.newestSeq + 1

/-- ACKED_SEQ: before any acknowledgement the SEQ that precedes OLDEST_SEQ (R221). -/
def EvrLedger.ackedSeq (l : EvrLedger) : W32 := l.acked.getD (l.oldestSeq - 1)

/-- A record is acknowledged (R242). -/
def EvrLedger.isAcked (l : EvrLedger) (r : EvrRec) : Bool := !seqFollows r.seq l.ackedSeq

/-- Most full sectors beyond the one being filled: 32 or 128, and at most U - 2 (R231). -/
def maxFull (part : EvrPart) (l : EvrLedger) : Nat :=
  min (match part with | .boot => 32 | .gen => 128) (l.usable - 2)

/-- Records used of the sector being filled; a torn one, or none, leaves no room (R230, R238). -/
def EvrLedger.used (l : EvrLedger) : Nat :=
  match l.sectors.getLast? with
  | some x => if x.torn then 2048 else x.recs.length
  | none => 2048

/-- Sectors that opening one more drops (R231). -/
def toDrop (part : EvrPart) (l : EvrLedger) : Nat := l.sectors.length - maxFull part l

/-- Queues a record of the given kind. -/
def formPlain (part : EvrPart) (type aux : W16) (payload : Bytes) (s : State) : State :=
  pushRec part (formed part type aux payload s) (drawn 1 s)

/-- SUMMARY of a sector (R232): its first and last SEQ, H of the last, ACKED when all of it was acknowledged. -/
def formSummary (part : EvrPart) (x : EvrSector) (s : State) : State :=
  match x.recs.head?, x.recs.getLast? with
  | some a, some z =>
    formPlain part 0x0008 (if x.recs.all (ledger s part).isAcked then 1 else 0)
      (le32 a.seq.toNat ++ le32 z.seq.toNat ++ digestBytes (chainHash z)) s
  | _, _ => s

/-- SUMMARY records for the sectors that the next opening drops and that have none yet, oldest first (R232). -/
def formSummaries (part : EvrPart) (s : State) : State :=
  let l := ledger s part
  let k := toDrop part l
  let s := ((l.sectors.take k).drop l.summarised).foldl (fun s x => formSummary part x s) s
  setLedger part { ledger s part with summarised := max k l.summarised } s

/-- The next record formed opens a sector. -/
def opensNext (l : EvrLedger) : Bool := decide ((l.used + l.queue.length) % 2048 = 0)

/-- Forms and queues a record, after the SUMMARY records of an opening it makes due; the queue limit is the caller's
matter (R232, R234, log 20). -/
def formRec (part : EvrPart) (type aux : W16) (payload : Bytes) (s : State) : State :=
  formPlain part type aux payload (if opensNext (ledger s part) then formSummaries part s else s)

/-- DETAIL0, DETAIL1 and DETAIL2 of an event (R247). -/
def eventPayload (d0 d1 : Nat) (d2 : Bytes) : Bytes := le32 d0 ++ le32 d1 ++ padTo 48 d2

/-- Records that forming one more puts into a queue: itself, and the SUMMARY records of an opening it makes due. -/
def recsDue (part : EvrPart) (l : EvrLedger) : Nat :=
  1 + (if opensNext l then (l.sectors.take (toDrop part l)).length - l.summarised else 0)

/-- The EVENT packet of a record (R592). -/
def kscEvent (r : EvrRec) (s : State) : State :=
  kscPutClass 0 ⟨0x02, le32 r.seq.toNat ++ le16 r.aux.toNat ++ slice r.payload 0 8⟩ s

/-- An event with a DETAIL2 is formed in the general partition and traced; a full queue drops it (R234, R236, R592). Its
packet, which carries SEQ, follows once the restored records stand in their places (R237, log 142). -/
def eventWith (code d0 d1 : Nat) (d2 : Bytes) (s : State) : State :=
  if 256 < s.evr.gen.queue.length + recsDue .gen s.evr.gen then
    evsSet 99 { s with evr.dropped := satAdd s.evr.dropped 1, evr.dropPending := satAdd s.evr.dropPending 1 }
  else
    let s := formRec .gen 0x0100 (BitVec.ofNat 16 code) (eventPayload d0 d1 d2) s
    match s.evr.placed, s.evr.gen.queue.getLast? with
    | true, some r => kscEvent r s
    | _, _ => s

/-- An event whose DETAIL2 is unused. -/
def event (code d0 d1 : Nat) (s : State) : State := eventWith code d0 d1 [] s

/-- An event that falls due whatever runs: firmware records it, and one that is due before it runs is owed to it (R36,
R81, R202, R203, R215). -/
def eventDue (code d0 d1 : Nat) (s : State) : State :=
  if firmwareUp s then event code d0 d1 s else { s with boot.owed := s.boot.owed ++ [⟨code, d0, d1⟩] }

/-! ## Unit states -/

/-- The Unit State Table generation rises at a change of a unit's state (R342, R581). -/
def ustChange (unit : Nat) (s : State) : State :=
  { s with nvm.ustGen := s.nvm.ustGen + 1, nvm.changed := Sparse.set s.nvm.changed unit (s.nvm.ustGen + 1) }

/-! ## Functions -/

/-- A function's state. -/
def fnOf (s : State) (f : Func) : Fn := Sparse.read Fn.reset s.fns (unitOf f)

/-- A function's state replaced. -/
def setFn (f : Func) (x : Fn) (s : State) : State := { s with fns := Sparse.put Fn.reset s.fns (unitOf f) x }

/-- A function's state changed. -/
def modFn (f : Func) (g : Fn → Fn) (s : State) : State := setFn f (g (fnOf s f)) s

/-- A function's controller changed. -/
def modCtrl (f : Func) (g : Ctrl → Ctrl) (s : State) : State :=
  modFn f (fun x => { x with ctrl := g x.ctrl }) s

/-- Every function the tables speak of, by UNIT. -/
def listedFns (s : State) : List (Func × Fn) := s.fns.map fun e => (funcOfUnit e.1, e.2)

/-- Enabled controllers, E of R325. -/
def enabledCount (s : State) : Nat := (s.fns.filter fun e => e.2.ctrl.en).length

/-- Commands of all controllers in flight (R328). -/
def inflightTotal (s : State) : Nat := listSum (s.fns.map fun e => e.2.ctrl.inflight.length)

/-- Commands drawn from the common pool (R325). -/
def poolUsed (s : State) : Nat := listSum (s.fns.map fun e => e.2.ctrl.inflight.length - 64)

/-- POOL_FREE (R325, R353). -/
def poolFree (s : State) : Nat := 65536 - 64 * enabledCount s - poolUsed s

/-- The function exists for its host: a PF, or a VF that SR-IOV enables (R304, R330). -/
def fnPresent (s : State) (f : Func) : Bool :=
  decide (f.vf = 0) || (decide (f.vf ≤ (fnOf s ⟨f.pf, 0⟩).cfg.numVfs) && (fnOf s ⟨f.pf, 0⟩).cfg.vfEn)

/-- Queue pairs of a function, admin queue included (R329): a PF's 256 private ones and those moved to it, or a VF's. -/
def vqCount (s : State) (f : Func) : Nat := if f.vf = 0 then 256 + (fnOf s f).vq else (fnOf s f).vq

/-- Interrupt vectors of a function (R297, R329). -/
def viCount (s : State) (f : Func) : Nat := if f.vf = 0 then 2048 + (fnOf s f).vi else (fnOf s f).vi

/-! ## Interrupts -/

/-- The mode is decided from the three inputs; INTx is for PFs only (R293). -/
inductive IntMode where
  | msix | msi | intx | polled
  deriving DecidableEq, Repr

/-- R293. -/
def intModeOf (isPf msix msi dis : Bool) : IntMode :=
  if msix then .msix else if msi then .msi else if isPf && !dis then .intx else .polled

/-- Interrupt mode of a function (R293). A VF has no MSI and no INTx (R286). -/
def intMode (s : State) (f : Func) : IntMode :=
  let c := (fnOf s f).cfg
  intModeOf (decide (f.vf = 0)) c.msixEn (c.msiEn && decide (f.vf = 0)) c.intDis

/-- Whether the queue holds an entry not yet consumed. -/
def Cq.unconsumed (q : Cq) : Bool := decide (q.head ≠ q.tail)

/-- Entries a completion queue holds. -/
def Cq.count (q : Cq) : Nat := (q.tail + q.size - q.head) % q.size

/-- A completion queue is full when one slot is left. -/
def Cq.full (q : Cq) : Bool := decide (q.size ≤ q.count + 1)

/-- A message on a vector in the function's present mode (R294 to R297): an MSI-X entry at or above the assigned count
issues nothing, a masked one sets its PBA bit; MSI uses the last allocated vector for higher ones. -/
def signalVector (f : Func) (v : Nat) (s : State) : State :=
  let x := fnOf s f
  if !x.cfg.bme then s
  else match intMode s f with
    | .msix =>
      if viCount s f ≤ v then s
      else if x.cfg.msixMask || !(x.unmasked.contains v) then setFn f { x with pba := insertNew v x.pba } s
      else emit (.msix (unitOf f) v) s
    | .msi =>
      let m := min v (2 ^ x.cfg.msiMme - 1)
      if x.cfg.msiMask.getLsbD m then setFn f { x with pba := insertNew m x.pba } s
      else emit (.msi (unitOf f) m) s
    | _ => s

/-- Assert_INTA is due: an interrupt-enabled queue holds an entry neither consumed nor masked by INTMS, or the event
summary is 1 while VEC_EN is 1 (R296, R611). -/
def intxDue (s : State) (f : Func) : Bool :=
  let x := fnOf s f
  decide (intMode s f = .intx) && x.cfg.bme
    && ((x.ctrl.cqs.any fun q => q.ien && q.unconsumed && !(x.ctrl.intms.getLsbD (min q.iv 31)))
      || (decide (f.vf = 0) && (evsOf s f.pf).vecEn && decide ((evsOf s f.pf).sum ≠ 0)))

/-- INTA follows its condition; the two messages alternate (R296). -/
def intxFollow (f : Func) (s : State) : State :=
  let x := fnOf s f
  if intxDue s f = x.intx then s
  else if x.intx then emit (.intxDeassert (unitOf f)) (setFn f { x with intx := false } s)
  else emit (.intxAssert (unitOf f)) (setFn f { x with intx := true } s)

/-- A completion queue signals in the present mode (R293 to R296). In MSI mode INTMS masks by the queue's vector. -/
def signalCq (f : Func) (q : Cq) (s : State) : State :=
  if !q.ien then s
  else match intMode s f with
    | .msi => if (fnOf s f).ctrl.intms.getLsbD (min q.iv 31) then s else signalVector f q.iv s
    | _ => intxFollow f (signalVector f q.iv s)

/-! ## The management path's answers -/

/-- A Health Status Change bit that Configuration Set has enabled holds MGT_ALERT_N low; in I3C mode it is never driven
(R584). -/
def hscAlert (s : State) : Bool := !s.mgt.i3c && decide (s.mgt.hscSet &&& s.mgt.hscEnable ≠ 0)

/-- MGT_ALERT_N follows the Health Status Change bits, which held it low before when `was` (R584). -/
def alertFollow (was : Bool) (s : State) : State := if hscAlert s = was then s else emit (.alert (hscAlert s)) s

/-- A response on the path: in SMBus/I2C mode MGT_ALERT_N is low from its becoming pending until it is read, which the
model takes as done in the same step (R568, R584, log 62). -/
def mgtRespond (o : Output) (s : State) : State :=
  if s.mgt.i3c || hscAlert s then emit o s else emit (.alert false) (emit o (emit (.alert true) s))

/-- A message being assembled is discarded (R570, source 162). -/
def mctpDrop (s : State) : State :=
  evsSet 162 { s with mgt.asm := none, mgt.droppedMsgs := satAdd s.mgt.droppedMsgs 1 }

/-- The bus mode of the path; a change discards a message half received, and SMBus/I2C has transmission units of 64
bytes (R566, R568, R570). -/
def busMode (i3c : Bool) (s : State) : State :=
  if s.mgt.i3c = i3c then s
  else
    let s' := if s.mgt.asm.isSome then mctpDrop s else s
    alertFollow (hscAlert s) (if i3c then { s' with mgt.i3c := true }
      else { s' with mgt.i3c := false, mgt.mtu := 64, mgt.mrl := 64, mgt.mwl := 64 })

/-! ## Completions -/

/-- The command's entry among those in flight. -/
def inflightOf (s : State) (t : Tag) : Option Inflight :=
  match t.src with
  | .mgt => none
  | .fn f => (fnOf s f).ctrl.inflight.find? fun e => decide (e.sqid = t.sqid ∧ e.cid = t.cid)

/-- The command leaves the commands in flight (R328). -/
def retire (t : Tag) (s : State) : State :=
  match t.src with
  | .mgt => s
  | .fn f =>
    modCtrl f (fun c => { c with inflight := c.inflight.filter (fun e => !decide (e.sqid = t.sqid ∧ e.cid = t.cid)) }) s

/-- COMMAND packet of a command: PHASE 0 fetch, 1 completion (R592). -/
def kscCommand (f : Func) (e : Inflight) (phase : Nat) (st : Status) (s : State) : State :=
  let sf := if phase = 0 then 0 else st.sct.toNat * 256 + st.sc.toNat
  kscPutClass 1 ⟨0x03, le16 (unitOf f) ++ le16 e.sqid ++ le16 e.cid.toNat ++ leBytes 1 e.opcode.toNat
    ++ leBytes 1 phase ++ le16 sf ++ le32 e.nsid.toNat⟩ s

/-- Coalescing holds this queue's interrupt back: an I/O queue, an aggregation time, and the vector not exempt (R316). -/
def coalesces (c : Ctrl) (q : Cq) : Bool :=
  decide (q.qid ≠ 0) && decide (fieldOf 8 8 c.feats.coalesce ≠ 0) && !(Sparse.read false c.feats.vecConfig q.iv)

/-- An entry is written to a completion queue that has room, and the queue signals, at once or once the aggregation
threshold is reached (R30, R316). -/
def postCqe (f : Func) (q : Cq) (e : Cqe) (s : State) : State :=
  let c := (fnOf s f).ctrl
  let tail := (q.tail + 1) % q.size
  let n := q.coalesced + 1
  let hold := coalesces c q && decide (n < (fieldOf 0 8 c.feats.coalesce).toNat + 1)
  let q' := { q with tail := tail, coalesced := if hold then n else 0 }
  let s := modCtrl f (fun c => { c with cqs := mapWhere (fun x => decide (x.qid = q.qid)) (fun _ => q') c.cqs }) s
  let s := emit (.completion ⟨.fn f, e.sqid, e.cid⟩ e.st e.dw0) s
  if hold then s else signalCq f q' s

/-- A completion waits for room in its queue. -/
def Ctrl.addWaiting (qid : Nat) (e : Cqe) (c : Ctrl) : Ctrl :=
  { c with cqs := mapWhere (fun q => decide (q.qid = qid)) (fun q => { q with waiting := q.waiting ++ [e] }) c.cqs }

/-- A completion is due on a function's queue. A command that is in flight no more posts nothing. Without Bus Master
Enable, in a fatal, resetting or disabled controller, or with no such queue, the entry is not written (R302, R334); a
full queue makes it wait (R323). -/
def deliverOne (f : Func) (t : Tag) (st : Status) (dw0 : W32) (s : State) : State :=
  match inflightOf s t with
  | none => s
  | some e =>
    let x := fnOf s f
    let s1 := kscCommand f e 1 st s
    if !x.cfg.bme || x.fatal || x.resetting || !x.ctrl.en then retire t s1
    else match x.ctrl.sqs.find? fun q => decide (q.qid = t.sqid) with
      | none => retire t s1
      | some sq =>
        match x.ctrl.cqs.find? fun q => decide (q.qid = sq.cqid) with
        | none => retire t s1
        | some cq =>
          let e : Cqe := { sqid := t.sqid, cid := t.cid, st := st, dw0 := dw0 }
          if cq.waiting.any fun w => decide (w.sqid = t.sqid ∧ w.cid = t.cid) then s
          else if cq.full then modCtrl f (Ctrl.addWaiting cq.qid e) s1
          else postCqe f cq e (retire t s1)

/-- The first Flush held in a submission queue that no command is ahead of any more (R314). -/
def dueFlush (sqid : Nat) : List Inflight → Option Inflight
  | [] => none
  | e :: r =>
    if e.sqid ≠ sqid then dueFlush sqid r
    else if e.phase = .held then some e else none

/-- Held Flushes at the front of their queue complete with success (R314). -/
def releaseFlushes (f : Func) (sqid : Nat) : Nat → State → State
  | 0, s => s
  | n + 1, s =>
    match dueFlush sqid (fnOf s f).ctrl.inflight with
    | some e => releaseFlushes f sqid n (deliverOne f ⟨.fn f, e.sqid, e.cid⟩ .success 0 s)
    | none => s

/-- `deliverOne`, and then the Flushes of its queue that waited for it. -/
def deliver (f : Func) (t : Tag) (st : Status) (dw0 : W32) (s : State) : State :=
  let s := deliverOne f t st dw0 s
  releaseFlushes f t.sqid (fnOf s f).ctrl.inflight.length s

/-- A command ends with a status: on the path as a response, else on its queue. State Conflict raises CONFLICTS
(R342, R353, source 160). -/
def complete (t : Tag) (st : Status) (dw0 : W32) (s : State) : State :=
  let s := if st = .stateConflict then evsSet 160 { s with nvm.conflicts := satAdd s.nvm.conflicts 1 } else s
  match t.src with
  | .mgt => mgtRespond (.completion t st dw0) s
  | .fn f => deliver f t st dw0 s

/-- A command ends with a status and no Dword 0 (R350). -/
def finish (t : Tag) (st : Status) (s : State) : State := complete t st 0 s

/-- A command succeeds and moves data to its requester first (R30). -/
def finishData (t : Tag) (b : Bytes) (s : State) : State := complete t .success 0 (emit (.data t b) s)

/-- A Health Status Change bit is set; MGT_ALERT_N follows (R573, R584). -/
def hscMark (n : Nat) (s : State) : State :=
  alertFollow (hscAlert s) { s with mgt.hscSet := s.mgt.hscSet ||| ((1 : W32) <<< n) }

/-- No command in flight, no completion waiting. -/
def Ctrl.dropCommands (c : Ctrl) : Ctrl :=
  { c with inflight := [], aers := [], stalled := false, cqs := c.cqs.map (fun q => { q with waiting := [] }) }

/-- The writes of a function that wait for media complete no command any more. -/
def untagWt (f : Func) (s : State) : State :=
  let own (t : Option Tag) : Bool := match t with
    | some t => decide (t.src = .fn f)
    | none => false
  { s with ftl.wt := mapWhere (fun w => own w.tag) (fun w => { w with tag := none }) s.ftl.wt }

/-- Commands of a function end without a completion; a write whose data is all in the device goes on to media (R302,
R334). Completions not yet posted are discarded with them. -/
def endCommands (f : Func) (s : State) : State := modCtrl f Ctrl.dropCommands (untagWt f s)

/-- The controller's fatal state (R333): CSTS.CFS, event 0x0060 with a status code, the function's source. -/
def enterFatal (f : Func) (code : Nat) (s : State) : State :=
  let s := modFn f (fun x => { x with fatal := true, ctrl.cfs := true }) (endCommands f s)
  event 0x0060 (unitOf f) code (hscMark 1 (evsSet (511 + unitOf f) (ustChange (unitOf f) s)))

/-! ## Fetching -/

/-- The namespace of a command. -/
def nsOf (s : State) (nsid : Nat) : Option Ns := Sparse.look s.tab.nss nsid

/-- A key slot. -/
def keySlot (s : State) (i : Nat) : KeySlot := Sparse.read KeySlot.empty s.tab.keys i

/-- The slot and generation a command to a namespace captures (R205). -/
def capturedKey (s : State) (nsid : Nat) : Option (Nat × W32) :=
  match nsOf s nsid with
  | some n => n.slot.map fun i => (i, (keySlot s i).gen)
  | none => none

/-- The bound key slot of a namespace is erased (R208, R343). -/
def keyErased (s : State) (n : Ns) : Bool :=
  match n.slot with
  | some i => decide ((keySlot s i).key = none)
  | none => false

/-- Opcodes that R343's Read-only row stops. -/
def writeOpcode (op : W8) : Bool := decide (op = 0x01 ∨ op = 0x04 ∨ op = 0x08 ∨ op = 0x09)

/-- The data path's check of an I/O command at fetch, first row first (R343). A namespace that does not exist or is
not attached to the controller is Invalid Namespace or Format (NVMe Base 2.1); Flush may name every namespace. -/
def ioCheck (s : State) (f : Func) (op : W8) (nsid : W32) : Option Status :=
  if s.nvm.sanitize.isSome then some .sanitizeInProgress
  else if s.tab.offline && decide (op ≠ 0x84) then some .arrayOffline
  else if op = 0x00 ∧ nsid = 0xFFFFFFFF then none
  else match nsOf s nsid.toNat with
    | none => some .invalidNamespaceOrFormat
    | some n =>
      if n.state = .deleting ∨ n.state = .staged ∨ !(n.attached.contains (unitOf f)) then
        some .invalidNamespaceOrFormat
      else if n.state = .formatting then some .namespaceNotReady
      else if n.state = .sanitizing then some .sanitizeInProgress
      else if keyErased s n then some .keySlotErased
      else if s.tab.readOnly && writeOpcode op then some .namespaceWriteProtected
      else none

/-- Nothing is fetched for this function: firmware does not run, the controller is not enabled or not ready, its shutdown
is complete, Bus Master Enable is 0, it is in D3hot, or it is Fatal, Resetting, Frozen or Retired (R274, R302, R343, R536,
R545). -/
def fetchBlocked (s : State) (f : Func) : Bool :=
  let x := fnOf s f
  !(running s) || !(fnPresent s f) || (decide (f.vf ≠ 0) && !x.online) || !x.cfg.bme || !x.ctrl.en || !x.ctrl.rdy
    || decide (x.ctrl.shst ≠ 0) || x.fatal || x.resetting || x.frozen || x.retired || decide (x.cfg.pstate ≠ 0)

/-- The command budget lets this controller fetch one more (R325). -/
def budgetAllows (s : State) (f : Func) : Bool :=
  let n := (fnOf s f).ctrl.inflight.length
  decide (n < 16384) && decide (inflightTotal s < 65536) && (decide (n < 64) || decide (0 < poolFree s))

/-- Fetching stops for the controller and STALLS rises (R326). -/
def stall (f : Func) (s : State) : State :=
  if (fnOf s f).ctrl.stalled then s
  else modCtrl f (fun c => { c with stalled := true }) { s with nvm.stalls := satAdd s.nvm.stalls 1 }

/-! ### Arbitration (R327) -/

/-- The least number of a list that is above `last`, else its least: the next one in round robin. -/
def nextRound (last : Nat) (l : List Nat) : Option Nat :=
  match (l.filter fun x => decide (last < x)).min? with
  | some x => some x
  | none => l.min?

/-- The queue shows an entry. -/
def Sq.shows (q : Sq) : Bool := decide (q.head ≠ q.tail)

/-- Commands that may be taken from one queue in a row: 2 to the Arbitration Burst, or no limit at 7 (NVMe Base 2.1's
Arbitration feature, PRESUMED, log 135). -/
def Ctrl.burst (c : Ctrl) : Nat :=
  let n := (fieldOf 0 3 c.feats.arbitration).toNat
  if n = 7 then 0x10000 else 2 ^ n

/-- A controller's share of a turn: at most 8 commands, and fewer with a lower Arbitration Burst (R327). -/
def Ctrl.turnLimit (c : Ctrl) : Nat := min 8 c.burst

/-- Weighted round robin with urgent priority class is selected in CC.AMS (R319). -/
def Ctrl.weighted (c : Ctrl) : Bool := decide (fieldOf 11 3 c.cc = 1)

/-- Queues of a priority that show an entry, the admin queue apart. -/
def Ctrl.ofPrio (c : Ctrl) (p : BitVec 2) : List Nat :=
  (c.sqs.filter fun q => decide (q.qid ≠ 0 ∧ q.prio = p) && q.shows).map (·.qid)

/-- Every class with an entry has given its weight: a new round begins with the weights of the Arbitration feature. -/
def Ctrl.recharged (c : Ctrl) : Arb :=
  let a := c.arb
  let spent (p : BitVec 2) (left : Nat) : Bool := (c.ofPrio p).isEmpty || decide (left = 0)
  if spent 1 a.high && spent 2 a.med && spent 3 a.low then
    { a with high := (fieldOf 24 8 c.feats.arbitration).toNat + 1, med := (fieldOf 16 8 c.feats.arbitration).toNat + 1,
             low := (fieldOf 8 8 c.feats.arbitration).toNat + 1 }
  else a

/-- The queues among which the next command is chosen: all that show an entry under plain round robin; else the admin
queue, the urgent class, and the high, medium and low classes by what is left of their weights (R327). -/
def Ctrl.choice (c : Ctrl) : List Nat :=
  if !c.weighted then (c.sqs.filter Sq.shows).map (·.qid)
  else if c.sqs.any fun q => decide (q.qid = 0) && q.shows then [0]
  else if !(c.ofPrio 0).isEmpty then c.ofPrio 0
  else
    let a := c.recharged
    if 0 < a.high ∧ c.ofPrio 1 ≠ [] then c.ofPrio 1
    else if 0 < a.med ∧ c.ofPrio 2 ≠ [] then c.ofPrio 2
    else c.ofPrio 3

/-- The controller's next command may come from the queue: it is the next one in round robin, or it has not given its
Arbitration Burst yet. -/
def Ctrl.mayTake (c : Ctrl) (qid : Nat) : Bool :=
  c.choice.contains qid
    && ((decide (c.arb.queue = qid) && decide (c.arb.run < c.burst)) || decide (nextRound c.arb.queue c.choice = some qid))

/-- The arbitration state after a command from the queue. -/
def Ctrl.taken (c : Ctrl) (qid : Nat) : Arb :=
  let a := { (if c.weighted && decide (qid ≠ 0) && (c.ofPrio 0).isEmpty then c.recharged else c.arb) with
    queue := qid, run := if c.arb.queue = qid ∧ c.arb.run < c.burst then c.arb.run + 1 else 1 }
  if !c.weighted || decide (qid = 0) then a
  else if (c.ofPrio 0).contains qid then a
  else if (c.ofPrio 1).contains qid then { a with high := a.high - 1 }
  else if (c.ofPrio 2).contains qid then { a with med := a.med - 1 }
  else { a with low := a.low - 1 }

/-- A controller with an entry that it may fetch. -/
def fetchable (s : State) (f : Func) : Bool :=
  let c := (fnOf s f).ctrl
  !fetchBlocked s f && !c.stalled && budgetAllows s f && c.sqs.any Sq.shows

/-- It may be this controller's turn: its turn goes on, or it is the next controller in round robin, by UNIT (R327). A turn
may end early: the rule gives it a greatest length only. -/
def turnOf (s : State) (f : Func) : Bool :=
  let u := unitOf f
  (decide (s.nvm.turn.1 = u) && decide (s.nvm.turn.2 < (fnOf s f).ctrl.turnLimit))
    || decide (nextRound s.nvm.turn.1 (((listedFns s).filter fun e => fetchable s e.1).map fun e => unitOf e.1) = some u)

/-- The turn after a command of the controller was fetched. -/
def turnAfter (s : State) (f : Func) : Nat × Nat :=
  let u := unitOf f
  if s.nvm.turn.1 = u ∧ s.nvm.turn.2 < (fnOf s f).ctrl.turnLimit then (u, s.nvm.turn.2 + 1) else (u, 1)

/-- An entry joins the commands in flight, its key captured, and its queue's head moves on (R205, R327, R328). -/
def takeEntry (f : Func) (e : Inflight) (s : State) : State :=
  kscCommand f e 0 .success
    (modCtrl f (fun c => { c with
      inflight := c.inflight ++ [e], arb := c.taken e.sqid,
      sqs := mapWhere (fun q => decide (q.qid = e.sqid)) (fun q => { q with head := (q.head + 1) % q.size }) c.sqs })
      { s with nvm.turn := turnAfter s f })

/-- The entry that a fetch of a command makes. -/
def newEntry (s : State) (t : Tag) (op : W8) (nsid : W32) : Inflight :=
  { sqid := t.sqid, cid := t.cid, opcode := op, nsid := nsid,
    key := if t.sqid = 0 then none else capturedKey s nsid.toNat, phase := .fetched }

/-- Fetches a command of a function: `none` where it is not fetched, its queue showing no entry or another controller or
queue being next; else the state with the command in flight, or
already completed by the checks of R343 (`true` when it is to be executed). -/
def fetchCmd (f : Func) (t : Tag) (op : W8) (nsid : W32) (s : State) : Option (State × Bool) :=
  if fetchBlocked s f || !((fnOf s f).ctrl.sqs.any fun q => decide (q.qid = t.sqid) && q.shows) then none
  else if (fnOf s f).ctrl.stalled || !budgetAllows s f then some (stall f s, false)
  else if !(turnOf s f && (fnOf s f).ctrl.mayTake t.sqid) then none
  else
    let s1 := takeEntry f (newEntry s t op nsid) s
    if t.sqid = 0 then some (s1, true)
    else match ioCheck s f op nsid with
      | none => some (s1, true)
      | some st => some (finish t st s1, false)

/-- A request on the management path that needs firmware (R585): executed while it is fully up; refused with Invalid
Command Opcode in Recovery and Option Fault; while Restarting, and while older requests still wait, answered More
Processing Required (response status 1, PRESUMED, log 63) and held in order of arrival (R583). -/
def mgtRequest (i : Held) (slot : Nat) (refused k : State → State) (s : State) : State :=
  if fullyUp s && s.mgt.held.isEmpty then k s
  else if rcvPresented s then refused s
  else if restarting s || fullyUp s then mgtRespond (.mi slot 0x01 []) { s with mgt.held := s.mgt.held ++ [i] }
  else s

/-- Runs a function's command: on the entry in flight, or after fetching it. Where the command is not fetched the state
is unchanged (log 12). -/
def runFn (f : Func) (t : Tag) (op : W8) (nsid : W32) (k : State → State) (s : State) : State :=
  match inflightOf s t with
  | some _ => k s
  | none =>
    match fetchCmd f t op nsid s with
    | some (s', true) => k s'
    | some (s', false) => s'
    | none => s

/-- R313's columns: a source that may not issue the command gets Invalid Command Opcode. -/
def allowFrom (pf vf mgt : Bool) (t : Tag) (k : State → State) (s : State) : State :=
  match t.src with
  | .mgt => if mgt then k s else finish t .invalidCommandOpcode s
  | .fn f => if (if f.vf = 0 then pf else vf) then k s else finish t .invalidCommandOpcode s

/-- The admin command `i`, with R313's columns. -/
def runAdmin (i : Instr) (t : Tag) (op : W8) (nsid : W32) (pf vf mgt : Bool) (k : State → State) (s : State) : State :=
  match t.src with
  | .mgt => mgtRequest (.admin i) t.sqid (finish t .invalidCommandOpcode) (allowFrom pf vf mgt t k) s
  | .fn f => runFn f t op nsid (allowFrom pf vf mgt t k) s

/-- Standard admin commands that NVMe Base 2.1 stops while a sanitize is in progress (R260, R343). -/
def notInSanitize (t : Tag) (k : State → State) (s : State) : State :=
  if s.nvm.sanitize.isSome then finish t .sanitizeInProgress s else k s

/-- AENS counts the requests that vendor-specific events complete (R612, R618). -/
def noteAen (f : Func) (e : AsyncEvt) (s : State) : State :=
  if e.etype = 7 then setEvs f.pf { evsOf s f.pf with aens := satAdd (evsOf s f.pf).aens 1 } s else s

/-- An event of a controller for Asynchronous Event Requests: completes one at once, or is held (R324, R612). At most
eight wait (log 13). -/
def asyncEvent (f : Func) (e : AsyncEvt) (s : State) : State :=
  let c := (fnOf s f).ctrl
  if c.masked.contains e.etype then s
  else match c.aers with
    | t :: r =>
      let s := modCtrl f (fun c => { c with aers := r, masked := insertNew e.etype c.masked }) s
      complete t .success (at32 0 (BitVec.ofNat 3 e.etype) ||| at32 8 (BitVec.ofNat 8 e.info) ||| at32 16 e.lid)
        (noteAen f e (emit (.asyncEvent t e) s))
    | [] =>
      if 8 ≤ c.events.length then s
      else modCtrl f (fun c => { c with events := c.events ++ [e], masked := insertNew e.etype c.masked }) s

end Sys2Proof.Machine
end

