-- ==== Sys2Proof/Machine/Crypto.lean ====
section
/-! DEFINITION. Key derivation, dual keys, the key ladder, dual signatures and certificates (R175 to R178, R180 to R189) over the functions of
outside standards, which Config names. -/
namespace Sys2Proof.Machine

/-- ASCII bytes of a label, without terminator. -/
def ascii (l : String) : Bytes := l.toList.map fun c => BitVec.ofNat 8 c.toNat

/-- KDF(K, label, ctx) of chapter 05. -/
def kdf (k : Bytes) (label : String) (ctx : Bytes) : Digest := Config.hmac384 k (ascii label ++ 0 :: ctx)

/-- SHA-384 of FIPS 180-4. -/
def sha (b : Bytes) : Digest := Config.sha384 b

/-! ## The key ladder (R175 to R177) -/

/-- The device-unique secret as the key ladder reads it: from the fuse shadow (R89), and not while LADDER_LOCKED is 1
(R177). -/
def readUds (s : State) : Option Bytes :=
  if s.trust.ladderLocked then none else s.fuses.shadow.map fun f => beBytes 64 f.uds.toNat

/-- A measurement M1 to M8 (R100); 0 before Plinth records it. -/
def measurement (s : State) (i : Nat) : Digest := s.boot.meas.getD (i - 1) 0

/-- CDI_0 of a secret and M2 (R175). -/
def cdi0Of (uds : Bytes) (m2 : Digest) : Digest :=
  kdf uds "TZ-CDI0" (digestBytes Config.romDigest ++ digestBytes m2)

/-- Seed of the DeviceID key pair (R175). -/
def devidOf (cdi0 : Digest) : Digest := kdf (digestBytes cdi0) "TZ-DEVID" []

/-- CDI_1, over M5, M6, M7, SVN and SLOT (R175). -/
def cdi1Of (s : State) (cdi0 : Digest) : Digest :=
  kdf (digestBytes cdi0) "TZ-CDI1"
    (digestBytes (measurement s 5) ++ digestBytes (measurement s 6) ++ digestBytes (measurement s 7)
      ++ le32 s.boot.svn.toNat ++ [BitVec.ofNat 8 s.boot.slot.toNat])

/-- K_CFG, K_VAULT, K_MAP and K_KEK are derived (R175, R177). -/
def deriveDeviceKeys (s : State) : State :=
  match readUds s with
  | some u => { s with
      trust.keys.cfg := some (kdf u "TZ-CFG" []), trust.keys.vault := some (kdf u "TZ-VAULT" []),
      trust.keys.map := some (kdf u "TZ-MAP" []), trust.keys.kek := some (kdf u "TZ-KEK" []), trust.configKeys := true }
  | none => s

/-- CDI_0 and the DeviceID key pair are derived (R175, R177). -/
def deriveDevid (s : State) : State :=
  match readUds s with
  | some u =>
    let c := cdi0Of u ((s.fuses.shadow.map (·.digest)).getD 0)
    { s with trust.keys.cdi0 := some c, trust.keys.devidK := some (devidOf c) }
  | none => s

/-- CDI_1 and the Alias and Transport key pairs are derived from CDI_0, which the ladder reads only before it is locked
(R175, R177). -/
def deriveAlias (s : State) : State :=
  match s.trust.ladderLocked, s.trust.keys.cdi0 with
  | false, some c =>
    let c1 := cdi1Of s c
    { s with trust.keys.cdi1 := some c1, trust.keys.aliasK := some (kdf (digestBytes c1) "TZ-ALIAS" []),
             trust.keys.xportK := some (kdf (digestBytes c1) "TZ-XPORT" []) }
  | _, _ => s

/-- CDI_0 and the DeviceID private key are zeroised and the ladder is locked (R177). -/
def lockLadder (s : State) : State :=
  { s with trust.keys.cdi0 := none, trust.keys.devidK := none, trust.ladderLocked := true }

/-- A key register through its handle (R176); 0 stands for one that holds no key. -/
def keyReg (k : Option Digest) : Digest := k.getD 0

/-- Seed of the DeviceID key pair, while its register holds it. -/
def devidSeed (s : State) : Digest := keyReg s.trust.keys.devidK

/-- Seed of the Alias key pair. -/
def aliasSeed (s : State) : Digest := keyReg s.trust.keys.aliasK

/-- Seed of the Transport key pair. -/
def xportSeed (s : State) : Digest := keyReg s.trust.keys.xportK

/-- HMAC-SHA-384 under K_CFG over the body of a record of the configuration partitions (R109, R190, R498, R578). The key
never changes (R175): it is formed from the fuses. -/
def recordMac (s : State) (body : Bytes) : Digest :=
  Config.hmac384 (digestBytes (kdf (beBytes 64 s.fuses.array.uds.toNat) "TZ-CFG" [])) body

/-! ## Key pairs from a seed (chapter 05) -/

/-- The order of the P-384 group (FIPS 186-5). -/
def ecOrder : Nat :=
  0xFFFFFFFFFFFFFFFFFFFFFFFFFFFFFFFFFFFFFFFFFFFFFFFFC7634D81F4372DDF581A0DB248B0A77AECEC196ACCC52973

/-- A big-endian integer. -/
def beVal (b : Bytes) : Nat := leVal b.reverse

/-- The ECDSA and ECDH private scalar of a seed. -/
def ecScalar (seed : Digest) : Nat :=
  let k := digestBytes seed
  beVal ((digestBytes (kdf k "TZ-EC" []) ++ digestBytes (kdf k "TZ-EC2" [])).take 56) % (ecOrder - 1) + 1

/-- ξ of a seed's ML-DSA-65 key pair. -/
def mldsaXi (seed : Digest) : Bytes := (digestBytes (kdf (digestBytes seed) "TZ-MLDSA" [])).take 32

/-- d and z of a seed's ML-KEM-1024 key pair. -/
def mlkemDz (seed : Digest) : Bytes :=
  let k := digestBytes seed
  (digestBytes (kdf k "TZ-MLKEM" []) ++ digestBytes (kdf k "TZ-MLKEM2" [])).take 64

/-- An uncompressed P-384 point: 0x04, X and Y (R183, R187). -/
def ecPub (seed : Digest) : Bytes := 0x04 :: padTo 96 (Config.ecPoint (ecScalar seed))

/-! ## Dual keys and signatures (R181 to R189) -/

/-- A DUAL_PUB from its two components (R183). -/
def dualPubOf (ec ml : Bytes) : Bytes :=
  le32 0x4B505A54 ++ le16 1 ++ le16 0 ++ padTo 97 ec ++ padTo 7 [] ++ padTo 1952 ml

/-- The DUAL_PUB of a seed (R183). -/
def dualPub (seed : Digest) : Bytes := dualPubOf (ecPub seed) (Config.mldsaPub (mldsaXi seed))

/-- Key digest of a DUAL_PUB (R183). -/
def keyDigest (pub : Bytes) : Digest := sha pub

/-- D of R181. -/
def dualDigest (ctx : Nat) (x : Bytes) : Digest := sha (le32 ctx ++ x)

/-- A DUAL_SIG from its fields (R184). -/
def dualSigOf (ctx : Nat) (keyId : Digest) (ec ml : Bytes) : Bytes :=
  le32 0x53445A54 ++ le16 1 ++ le16 0 ++ le32 ctx ++ digestBytes keyId ++ padTo 96 ec ++ padTo 3309 ml ++ padTo 7 []

/-- One request to the DRBG; the 1,024th reseeds it (R200). -/
def drbgUse (s : State) : State :=
  { s with trust.drbgCount := if 1024 ≤ s.trust.drbgCount + 1 then 0 else s.trust.drbgCount + 1 }

/-- The randomness that a signature is hedged with: drawn while the TRNG is healthy; without it signing is deterministic
and never waits (R189). -/
def hedge (s : State) : Option Nat := if s.trust.rng = .healthy then some s.free else none

/-- The state after a signature: hedging took one DRBG request (R189, R200). -/
def signedOnce (s : State) : State := if s.trust.rng = .healthy then drbgUse (drawn 1 s) else s

/-- An ECDSA signature over a message by a seed's key (R213, R179). -/
def ecSign (seed : Digest) (x : Bytes) (h : Option Nat) : Bytes := padTo 96 (Config.ecSig (ecScalar seed) (sha x) h)

/-- A DUAL_SIG under a seed's key (R181, R184). -/
def dualSig (seed : Digest) (ctx : Nat) (x : Bytes) (h : Option Nat) : Bytes :=
  dualSigOf ctx (keyDigest (dualPub seed)) (Config.ecSig (ecScalar seed) (dualDigest ctx x) h)
    (Config.mldsaSig (mldsaXi seed) (dualDigest ctx x) h)

/-- The fields of a DUAL_SIG that a verifier compares (R181, R184). -/
def sigHead (b : Bytes) : SigHead where
  magic := BitVec.ofNat 32 (leVal (slice b 0 4))
  version := BitVec.ofNat 16 (leVal (slice b 4 2))
  ctx := BitVec.ofNat 32 (leVal (slice b 8 4))
  keyId := BitVec.ofNat 384 (beVal (slice b 0x0C 48))

/-- A DUAL_SIG is accepted (R181): MAGIC and VERSION of R184, the expected context, the expected key, and both components,
which `v` answers for. -/
def sigOk (h : SigHead) (v : DualVerdict) (ctx : Nat) (key : Digest) : Bool :=
  decide (h.magic = 0x53445A54 ∧ h.version = 1 ∧ h.ctx.toNat = ctx ∧ h.keyId = key) && v.ec && v.ml

/-! ## Certificates (R180, R186 to R188) -/

/-- DUAL_PUB of the vendor root key that signed the DeviceID dual certificate (R188). -/
def devidRootPub : Bytes := dualPubOf (0x04 :: padTo 96 Config.devidRoot.2) Config.devidRoot.1

/-- The DeviceID dual certificate, issued at manufacture over the DeviceID DUAL_PUB (R180, R188): 7,664 bytes. -/
def devidCert (s : State) : Bytes :=
  let a := s.fuses.array
  let pub := dualPub (devidOf (cdi0Of (beBytes 64 a.uds.toNat) a.digest))
  padTo 0x40 (le32 0x49445A54 ++ le16 1 ++ le16 7664 ++ le64 s.fuses.dsn.toNat ++ le64 Config.issueTime.toNat
      ++ leBytes 1 Config.devidRootSlot.toNat)
    ++ pub ++ devidRootPub ++ dualSigOf 8 (keyDigest devidRootPub) Config.devidSig.1 Config.devidSig.2

/-- MEAS_DIGEST (R186). -/
def measDigest (s : State) : Digest := sha (s.boot.meas.flatMap digestBytes)

/-- Bytes 0x000 to 0x87F of the Alias certificate (R186). -/
def aliasCertBody (s : State) : Bytes :=
  le32 0x43415A54 ++ le16 1 ++ [BitVec.ofNat 8 s.boot.slot.toNat, BitVec.ofNat 8 s.boot.path.toNat]
    ++ le32 s.boot.svn.toNat ++ le32 0 ++ digestBytes s.trust.devidKeyId
    ++ digestBytes (measDigest s) ++ dualPub (aliasSeed s)

/-- The Alias certificate: 5,648 bytes (R178, R186). -/
def aliasCertBytes (s : State) (h : Option Nat) : Bytes :=
  aliasCertBody s ++ dualSig (devidSeed s) 4 (aliasCertBody s) h

/-- Bytes 0x000 to 0x6BF of the Transport certificate (R187). -/
def xportCertBody (s : State) : Bytes :=
  le32 0x54585A54 ++ le16 1 ++ le16 0 ++ digestBytes (keyDigest (dualPub (aliasSeed s)))
    ++ ecPub (xportSeed s) ++ padTo 7 [] ++ padTo 1568 (Config.mlkemEk (mlkemDz (xportSeed s)))

/-- The Transport certificate: 5,200 bytes (R178, R187). -/
def xportCertBytes (s : State) (h : Option Nat) : Bytes :=
  xportCertBody s ++ dualSig (aliasSeed s) 7 (xportCertBody s) h

end Sys2Proof.Machine
end

