-- ==== Sys2Proof/Machine/Store.lean ====
section
/-! DEFINITION. Stores of the NAND other than stripe rows (R511, R512, R524): the commit record that ends each one, and the
stores that media hold. -/
namespace Sys2Proof.Machine

/-- The commit record (R511). -/
def Store.record (x : Store) : Bytes :=
  le32 0x4B435A54 ++ le16 x.kind ++ le16 0 ++ le32 x.epoch.toNat ++ le32 x.index ++ le64 x.body.length
    ++ digestBytes (Config.sha384 x.body) ++ leBytes 20 0 ++ le32 0x54494D43

/-- A store is valid when its commit record was programmed and its body is not empty (R511, R512). -/
def Store.valid (x : Store) : Bool := x.committed && !x.body.isEmpty

/-- What the last codeword of a valid store starts with. -/
def Store.tail (x : Store) : Option Bytes := if x.valid then some x.record else none

/-- A body followed by its HMAC under K_MAP (R514, R522, R523). -/
def sealMap (s : State) (b : Bytes) : Bytes :=
  b ++ digestBytes (Config.hmac384 (digestBytes (keyReg s.trust.keys.map)) b)

/-- Stores of some kinds are erased, and others written. -/
def replaceStores (gone : Store → Bool) (l : List Store) (s : State) : State :=
  { s with media.stores := (s.media.stores.filter fun x => !gone x) ++ l }

/-- A location in a system band (R522): group, band and row, which the spec leaves to the device (log 151). -/
def systemLoc (ctr : Nat) : Bytes :=
  let v := (Config.freeBits 40 ctr).toNat
  leBytes 1 (v % 16) ++ leBytes 1 0 ++ le16 (v / 16 % 4096) ++ le16 (v / 65536 % 8192) ++ le16 0

end Sys2Proof.Machine
end

