-- ==== Sys2Proof/Machine/ImageArray.lean ====
section
/-! DEFINITION. The Image Array die (chapter 04): command sequences, operations, suspend and resume, reads, bad sectors,
write generation and locks (R142 to R174), with one meaning for each of its commands. -/
namespace Sys2Proof.Machine

/-- Bytes of a sector: 256 KiB. -/
def sectorBytes : Nat := 0x40000

/-- Offsets end at 256 MiB (R142). -/
def dieBytes : Nat := 0x10000000

/-- Bank of an offset (R142). -/
def bankOfOffset (a : Nat) : Pf := if a < 0x08000000 then .p0 else .p1

/-- BASE of R148. -/
def bankBase : Pf → Nat
  | .p0 => 0
  | .p1 => 0x08000000

/-- Sector of an offset. -/
def sectorOf (a : Nat) : Nat := a / sectorBytes

/-- Sectors of the SPARE ranges, which no command addresses (R142, R145). -/
def spareSector (n : Nat) : Bool := decide (432 ≤ n ∧ n ≤ 511) || decide (848 ≤ n)

/-- Sectors with a permanent lock bit (R165). -/
def permLocked (n : Nat) : Bool := decide (n < 192) || decide (n = 430) || decide (n = 846)

/-- A bank. -/
def bankOf (s : State) : Pf → Bank
  | .p0 => s.nor.bank0
  | .p1 => s.nor.bank1

/-- A bank replaced. -/
def setBank (b : Pf) (x : Bank) (s : State) : State :=
  match b with
  | .p0 => { s with nor.bank0 := x }
  | .p1 => { s with nor.bank1 := x }

/-- A bank changed. -/
def modBank (b : Pf) (g : Bank → Bank) (s : State) : State := setBank b (g (bankOf s b)) s

/-! ## What the record stores and the ledger put into the array (R84, R109, R143, R180, R190, R230, R498, R578) -/

/-- STATE code of a slot (R111). -/
def slotStateCode : SlotState → Nat
  | .empty => 0
  | .pending => 1
  | .trial => 2
  | .active => 3
  | .previous => 4
  | .failed => 5

/-- A record of `n` bytes: body, MAC under K_CFG, zeros, and COMMIT as its last word (R109, R190, R498, R578). -/
def macRecord (s : State) (n : Nat) (body : Bytes) : Bytes :=
  padTo (n - 4) (body ++ digestBytes (recordMac s body)) ++ le32 0x54494D43

/-- The 256 bytes of a boot control record (R109). -/
def bootRecBytes (s : State) (seq : W32) (r : BootRec) : Bytes :=
  macRecord s 256 (le32 0x43425A54 ++ le32 seq.toNat ++ leBytes 1 (slotStateCode r.stateA)
    ++ leBytes 1 (slotStateCode r.stateB) ++ leBytes 1 r.staged.toNat ++ leBytes 1 0 ++ digestBytes r.rootA
    ++ digestBytes r.rootB)

/-- The 4,096 bytes of an owner record (R190). -/
def ownerRecBytes (s : State) (seq : W32) (r : OwnerRec) : Bytes :=
  macRecord s 4096 (le32 0x574F5A54 ++ le32 seq.toNat ++ leBytes 1 r.state.toNat
    ++ leBytes 1 (if r.kscOff then 1 else 0) ++ le16 0 ++ le32 r.epoch.toNat ++ padTo 2064 r.pub)

/-- The 1,280 bytes of a VPD record (R578). -/
def vpdRecBytes (s : State) (seq : W32) (b : Bytes) : Bytes :=
  macRecord s 1280 (le32 0x50565A54 ++ le32 seq.toNat ++ le64 0 ++ padTo 1024 b)

/-- Bytes 0x00 to 0x7F of a configuration record (R498). -/
def confBytes (seq : Nat) (r : ConfRec) : Bytes :=
  padTo 128
    (le32 0x46435A54 ++ le32 seq ++ le32 r.pfMw ++ le16 r.etaPermille ++ le16 r.vChgMv ++ le32 r.chgMaxMa ++ le32 r.cEolUf
      ++ le16 r.ssvid.toNat ++ le16 r.ssid.toNat ++ le16 r.throttle ++ leBytes 1 r.pct ++ leBytes 1 r.foldHi
      ++ leBytes 1 r.foldLo ++ leBytes 1 r.journalMax ++ le16 r.spread ++ le16 r.ckptInterval ++ le16 r.flushW)

/-- The bytes of a stored copy. -/
def copyBytes (s : State) (c : RecCopy) : Bytes :=
  match c.body with
  | .boot r => bootRecBytes s c.seq r
  | .owner r => ownerRecBytes s c.seq r
  | .vpd b => vpdRecBytes s c.seq b
  | .conf r => macRecord s 256 (confBytes c.seq.toNat r)

/-- The copy that covers an offset of a log's sector, and the offset within it: each starts at the first 512-byte page
boundary after the one before (R144). -/
def copyAt : List RecCopy → Nat → Option (RecCopy × Nat)
  | [], _ => none
  | c :: r, o => if o < 512 * recPages c.body.kind then some (c, o) else copyAt r (o - 512 * recPages c.body.kind)

/-- A byte of a pair log's sector. -/
def logByte (s : State) (x : LogSector) (o : Nat) : Option Byte :=
  match copyAt x.copies o with
  | some (c, i) => (copyBytes s c)[i]?
  | none => none

/-- A byte of the factory sector: the DeviceID dual certificate at 0, the X.509 one at 0x4000 (R180). -/
def factoryByte (s : State) (o : Nat) : Option Byte :=
  if o < 0x4000 then (devidCert s)[o]? else (Config.devidX509.take 4096)[o - 0x4000]?

/-- A byte of sector `i` of a CFG partition (R143). -/
def cfgByte (s : State) (p : CfgPart) (i o : Nat) : Option Byte :=
  match i with
  | 0 => logByte s p.boot.secA o
  | 1 => logByte s p.boot.secB o
  | 2 => logByte s p.owner.secA o
  | 3 => logByte s p.owner.secB o
  | 4 => logByte s p.conf.secA o
  | 5 => logByte s p.conf.secB o
  | 6 => factoryByte s o
  | _ => (p.stop.recs[o / 32]?).bind fun r => (stopBytes r)[o % 32]?

/-- A byte of the sector at a place of an EVR partition (R230). -/
def evrByte (l : EvrLedger) (place o : Nat) : Option Byte :=
  (l.sectors.find? fun x => decide (x.place = place)).bind fun x =>
    (x.recs[o / 128]?).bind fun r => (recBytes r)[o % 128]?

/-- The byte at an array offset that a record or the ledger put there; none elsewhere. -/
def storedByte (s : State) (a : Nat) : Option Byte :=
  let n := sectorOf a
  let o := a % sectorBytes
  if n < 384 ∨ (512 ≤ n ∧ n < 704) then none
  else if n < 424 then evrByte s.evr.boot (n - 384) o
  else if n < 432 then cfgByte s s.cfg.cfg0 (n - 424) o
  else if 704 ≤ n ∧ n < 840 then evrByte s.evr.gen (n - 704) o
  else if 840 ≤ n ∧ n < 848 then cfgByte s s.cfg.cfg1 (n - 840) o
  else none

/-- An array byte: free where the content is undefined, what a record or the ledger put there, what a PROGRAM of the slots
or of the raw commands put there, else 0xFF (log 5). -/
def norByte (s : State) (a : Nat) : Byte :=
  match s.nor.undef.find? fun r => decide (r.first ≤ a / 32 ∧ a / 32 < r.first + r.count) with
  | some r => Config.undefinedByte r.seed a
  | none => (storedByte s a).getD (Sparse.read 0xFF s.nor.mem a)

/-- A unit was programmed since its sector was erased (R150). -/
def unitDone (s : State) (u : Nat) : Bool := Sparse.read false s.nor.programmed u || (storedByte s (32 * u)).isSome

/-- `n` array bytes from `a`. -/
def norBytes (s : State) (a n : Nat) : Bytes := (List.range n).map fun i => norByte s (a + i)

/-- A unit holds undefined content. -/
def unitUndef (s : State) (u : Nat) : Bool := s.nor.undef.any fun r => decide (r.first ≤ u ∧ u < r.first + r.count)

/-- The part of an undefined range outside units `[lo, hi)`. -/
def UndefRange.without (r : UndefRange) (lo hi : Nat) : List UndefRange :=
  (if r.first < lo then [{ r with count := min (lo - r.first) r.count }] else [])
    ++ (if hi < r.first + r.count then
      [{ r with first := max hi r.first, count := r.first + r.count - max hi r.first }] else [])

/-- Units `[lo, hi)` are no longer undefined. -/
def defineUnits (lo hi : Nat) (s : State) : State :=
  { s with nor.undef := s.nor.undef.flatMap fun r => if hi ≤ r.first ∨ r.first + r.count ≤ lo then [r] else r.without lo hi }

/-- Units `[lo, hi)` become undefined (R161, R172). -/
def undefineUnits (lo hi : Nat) (s : State) : State :=
  let s := defineUnits lo hi s
  drawn 1 { s with nor.undef := s.nor.undef ++ [{ first := lo, count := hi - lo, seed := s.free }] }

/-- Either lock bit of a sector is set (R165, R166). -/
def sectorLocked (s : State) (n : Nat) : Bool := permLocked n || !(s.nor.unlocked.contains n)

/-- A refused or broken command: SEQ_ERR, and the bank then answers reads with its status (R145, R151, R153). -/
def seqError (b : Pf) (s : State) : State :=
  modBank b (fun x => { x with seq := .idle, seqErr := true, held := true }) s

/-- None of the sector's units is programmed, and its bank's interrupted-operation word names it no more (R172). -/
def eraseUnits (n : Nat) (s : State) : State :=
  let lo := n * sectorBytes
  let s := defineUnits (lo / 32) ((lo + sectorBytes) / 32) s
  modBank (bankOfOffset lo) (fun x => { x with intr := if x.intr = some n then none else x.intr })
    { s with nor.mem := Sparse.clear s.nor.mem lo (lo + sectorBytes),
             nor.programmed := Sparse.clear s.nor.programmed (lo / 32) ((lo + sectorBytes) / 32) }

/-- What the record logs, the stop log or the ledger had in a sector is gone: the sector was erased, or its content is
undefined (R161, R172). -/
def loseStores (n : Nat) (s : State) : State :=
  let stop (l : StopLog) : StopLog := { l with recs := [] }
  if 384 ≤ n ∧ n < 424 then
    { s with evr.boot.sectors := s.evr.boot.sectors.filter fun x => decide (x.place ≠ n - 384) }
  else if 704 ≤ n ∧ n < 840 then
    { s with evr.gen.sectors := s.evr.gen.sectors.filter fun x => decide (x.place ≠ n - 704) }
  else if 424 ≤ n ∧ n < 432 then { s with cfg.cfg0 := s.cfg.cfg0.onSector (n - 424) LogSector.wiped stop }
  else if 840 ≤ n ∧ n < 848 then { s with cfg.cfg1 := s.cfg.cfg1.onSector (n - 840) LogSector.wiped stop }
  else s

/-- The sector is erased. -/
def eraseContents (n : Nat) (s : State) : State := loseStores n (eraseUnits n s)

/-- Sector of the erase that a bank runs or holds suspended. -/
def Bank.erasing (x : Bank) : Option Nat :=
  match x.run with
  | some (.erase n) => some n
  | _ => x.suspErase

/-- First byte of the program that a bank runs or holds suspended. -/
def Bank.progging (x : Bank) : Option Nat :=
  match x.run with
  | some (.program f _ _) => some f
  | _ => match x.suspProg with
    | some (.program f _ _) => some f
    | _ => none

/-! ## Bad sectors -/

/-- A slot's state in a boot control record. -/
def BootRec.state (r : BootRec) : SlotId → Option SlotState
  | .g => none
  | .a => some r.stateA
  | .b => some r.stateB

/-- A slot's state changed; slot G has none (R111). -/
def BootRec.setState (r : BootRec) (i : SlotId) (st : SlotState) : BootRec :=
  match i with
  | .g => r
  | .a => { r with stateA := st }
  | .b => { r with stateB := st }

/-- The record a writer starts from: the one in force; with none the running slot is Active and the other Empty
(log 17). -/
def bootRecBase (s : State) : BootRec :=
  let st (code : Nat) : SlotState := if s.boot.phase = .firmware ∧ s.boot.slot.toNat = code then .active else .empty
  (bootRec? s).getD { stateA := st 1, stateB := st 2, staged := 0, rootA := 0, rootB := 0 }

/-- A sector of a pair log is lost (R162). -/
def LogSector.gone (x : LogSector) : LogSector := { x with lost := true }

/-- Sector `i` of a CFG partition is lost (R143, R162). -/
def CfgPart.lose (p : CfgPart) (i : Nat) : CfgPart := p.onSector i LogSector.gone fun l => { l with lost := true }

/-- The sector that the next copy of a kind goes to is made ready: an interrupted one is erased before its use, and the
copies in it, taken from DRAM, are programmed again (R172, log 137). -/
def readySector (n : Nat) (pages : Nat) (s : State) : State :=
  if (bankOf s (bankOfOffset (n * sectorBytes))).intr = some n then bumpGen (1 + pages) (eraseUnits n s) else s

/-- A new copy is programmed (R144); the sector that a switch, or a full single-sector log, erases first is erased. -/
def storeCopy (b : RecBody) (ok : Bool) (s : State) : State :=
  let k := b.kind
  let one := s.cfg.target k
  let l := (s.cfg.part one).log k
  let n := s.cfg.activeSector one k
  let s := putRecord b ok (readySector n l.active.pages s)
  let l' := (s.cfg.part one).log k
  if s.cfg.activeSector one k ≠ n ∨ l'.active.pages ≤ l.active.pages then eraseUnits (s.cfg.activeSector one k) s else s

/-- A sector is retired: its slot becomes Failed, its EVR partition shrinks, or its log goes on without it; an event is
recorded (R162, R247, source 33). A sector retired before stays as it is. -/
def retireSector (n : Nat) (s : State) : State :=
  if s.nor.retired.contains n then s
  else
    let s := { s with nor.retired := insertNew n s.nor.retired }
    let s :=
      if 192 ≤ n ∧ n ≤ 383 then storeCopy (.boot ((bootRecBase s).setState .a .failed)) true s
      else if 512 ≤ n ∧ n ≤ 703 then storeCopy (.boot ((bootRecBase s).setState .b .failed)) true s
      else if 384 ≤ n ∧ n ≤ 423 then { s with evr.boot.usable := s.evr.boot.usable - 1 }
      else if 704 ≤ n ∧ n ≤ 839 then { s with evr.gen.usable := s.evr.gen.usable - 1 }
      else if 424 ≤ n ∧ n ≤ 431 then { s with cfg.cfg0 := s.cfg.cfg0.lose (n - 424) }
      else if 840 ≤ n ∧ n ≤ 847 then { s with cfg.cfg1 := s.cfg.cfg1.lose (n - 840) }
      else s
    eventDue 0x0020 n 2 (evsSet 33 s)

/-- A REMAP completes: the sector is an erased spare, one spare fewer, one grown-bad sector more (R161, R172). -/
def remapDone (b : Pf) (n : Nat) (s : State) : State :=
  let s := modBank b (fun x => { x with spare := x.spare - 1, grown := x.grown + 1 }) (eraseContents n s)
  eventDue 0x0020 n 1 (evsSet 33 s)

/-- A sector of which an erase or a PROGRAM failed is grown bad: firmware issues REMAP and programs its valid contents
again, `pages` PROGRAM commands; with no spare left in its bank it is retired (R161, R162, R164). -/
def replaceBad (n pages : Nat) (s : State) : State :=
  let b := bankOfOffset (n * sectorBytes)
  if (bankOf s b).spare = 0 then retireSector n s
  else eventDue 0x0020 n 1 (evsSet 33 (bumpGen (1 + pages)
    (modBank b (fun x => { x with spare := x.spare - 1, grown := x.grown + 1,
                                  intr := if x.intr = some n then none else x.intr }) s)))

/-- The copies of a log that a rewritten sector takes over: the valid ones, each in as many pages as its kind takes. -/
def LogSector.rewritten (x : LogSector) : LogSector :=
  let cs := x.copies.filter (·.valid)
  { x with copies := cs, pages := listSum (cs.map fun c => recPages c.body.kind) }

/-- A record stored by Plinth or firmware (R144). `ok` is whether every PROGRAM of the copy returns with no failure: one
that fails leaves no copy, and makes its sector grown bad (R161, R162; log 138). -/
def storeRecord (b : RecBody) (ok : Bool) (s : State) : State :=
  let k := b.kind
  let one := s.cfg.target k
  let s := storeCopy b ok s
  if ok then s
  else
    let n := s.cfg.activeSector one k
    let l := (s.cfg.part one).log k
    if l.gone then s
    else
      let x := l.active.rewritten
      let s := if (bankOf s (bankOfOffset (n * sectorBytes))).spare = 0 then
          let hi := min l.active.pages 512
          undefineUnits (n * (sectorBytes / 32) + 16 * (hi - recPages k)) (n * (sectorBytes / 32) + 16 * hi) s
        else s
      replaceBad n x.pages { s with cfg := s.cfg.setPart one ((s.cfg.part one).withLog k (l.setActive x)) }

/-! ## The stop log (R84) -/

/-- A partition's stop log takes one more record: it has room and its sector is not being erased (R84). -/
def stopRoom (s : State) (one : Bool) : Bool :=
  let n := cfgFirst one + 7
  (s.cfg.part one).stop.room && decide ((bankOf s (if one then .p1 else .p0)).erasing ≠ some n)

/-- The partition the next stop record goes to (R84): the one with the newest valid record while it takes one, else the
other; CFG0 when there is none. -/
def stopTarget (s : State) : Bool :=
  if stopRoom s (newestStopIn1 s.cfg) then newestStopIn1 s.cfg else !newestStopIn1 s.cfg

/-- Programs a stop record (R84). `ok` is whether its PROGRAM returns with no failure; the unit of one that fails is
undefined (R161). -/
def writeStop (bootIndex flushMs dumped : W32) (cause : W8) (ok : Bool) (s : State) : State :=
  let c := s.cfg
  let one := stopTarget s
  let p := c.part one
  if p.stop.room then
    let r : StopRec := { bootIndex, cause, flushMs, dumpedMib := dumped,
                         stopSeq := BitVec.ofNat 32 (maxStopSeq (allStops c) + 1), valid := ok }
    let u := (cfgFirst one + 7) * (sectorBytes / 32) + p.stop.recs.length
    let s := bumpGen 1 { s with cfg := c.setPart one { p with stop := { p.stop with recs := p.stop.recs ++ [r] } } }
    if ok then s else undefineUnits u (u + 1) s
  else s

/-- Firmware erases a stop-log sector that holds more than 4,096 records while the newest one lies in the other partition
(R84), once it runs (log 139). -/
def trimStops (s : State) : State :=
  let one := !newestStopIn1 s.cfg
  if (s.cfg.part one).stop.recs.length ≤ 4096 ∨ allStops s.cfg = [] ∨ (s.cfg.part one).stop.lost then s
  else bumpGen 1 (eraseContents (cfgFirst one + 7) s)

/-! ## Accepting operations -/

/-- The bank takes no new operation: one is running, or a program is suspended (R145, R158). -/
def bankBusy (x : Bank) : Bool := x.run.isSome || x.suspProg.isSome

/-- An operation is accepted: WRITE_GEN advances before the array changes (R164). -/
def acceptOp (b : Pf) (op : NorOp) (s : State) : State :=
  bumpGen 1 (modBank b (fun x => { x with seq := .idle, run := some op, held := true }) s)

/-- The final cycle of PROGRAM (R145, R150, R158, R167). -/
def startProgram (b : Pf) (first : Nat) (bytes : Bytes) (s : State) : State :=
  let x := bankOf s b
  let n := sectorOf first
  if bankBusy x || spareSector n || decide (x.suspErase = some n) then seqError b s
  else if sectorLocked s n then modBank b (fun x => { x with seq := .idle, lockedErr := true, held := true }) s
  else acceptOp b (.program first bytes ((List.range (bytes.length / 32)).filterMap fun i =>
    if unitDone s (first / 32 + i) then some (first / 32 + i) else none)) s

/-- The final cycle of SECTOR ERASE and REMAP (R145, R158, R162, R167). -/
def startErase (b : Pf) (n : Nat) (remap : Bool) (s : State) : State :=
  let x := bankOf s b
  if bankBusy x || spareSector n || x.suspErase.isSome then seqError b s
  else if sectorLocked s n then modBank b (fun x => { x with seq := .idle, lockedErr := true, held := true }) s
  else if remap && decide (x.spare = 0) then
    retireSector n (modBank b (fun x => { x with seq := .idle, eraseFail := true, held := true }) s)
  else acceptOp b (if remap then .remap n else .erase n) s

/-- The final cycle of LOCK CLEAR and LOCK SET: one sector's volatile bit (R145, R158, R166). -/
def changeLock (b : Pf) (n : Nat) (set : Bool) (s : State) : State :=
  if bankBusy (bankOf s b) || spareSector n then seqError b s
  else modBank b (fun x => { x with seq := .idle })
    { s with nor.unlocked := if set then s.nor.unlocked.erase n else insertNew n s.nor.unlocked }

/-- A due suspend takes effect on the running program or erase (R157). A REMAP is neither and runs on (log 18). -/
def suspendNow (b : Pf) (s : State) : State :=
  modBank b (fun x => match x.run with
    | some (.erase n) => { x with run := none, suspErase := some n, suspPend := false }
    | some (.program f d r) => { x with run := none, suspProg := some (.program f d r), suspPend := false }
    | _ => { x with suspPend := false }) s

/-- The bank holds a suspended operation: only what R158 lists is accepted. -/
def Bank.suspended (x : Bank) : Bool := x.suspErase.isSome || x.suspProg.isSome

/-- SUSPEND: before the minimum run time it sets SUSP_PEND (R156); with nothing running it is discarded. A bank that holds
a suspended operation refuses it, for R158 does not list it. -/
def suspendCmd (b : Pf) (early : Bool) (s : State) : State :=
  if (bankOf s b).suspended then seqError b s
  else match (bankOf s b).run with
  | some (.erase _) | some (.program ..) =>
    if early then modBank b (fun x => { x with suspPend := true }) s else suspendNow b s
  | _ => s

/-- RESUME: a suspended program resumes first; ignored while a PROGRAM runs (R158). -/
def resumeCmd (b : Pf) (s : State) : State :=
  modBank b (fun x =>
    if x.run.isSome then x
    else match x.suspProg, x.suspErase with
      | some p, _ => { x with run := some p, suspProg := none, held := true }
      | none, some n => { x with run := some (.erase n), suspErase := none, held := true }
      | none, none => x) s

/-- CLEAR STATUS clears the four error bits (R153). -/
def clearStatus (b : Pf) (s : State) : State :=
  modBank b (fun x => { x with progFail := false, eraseFail := false, seqErr := false, lockedErr := false }) s

/-- READ ARRAY leaves INFO mode and, once the bank is idle, status reads (R152, R153). -/
def readArray (b : Pf) (s : State) : State :=
  modBank b (fun x => { x with info := false, held := if x.run.isSome then x.held else false }) s

/-! ## Cycles -/

/-- Third cycles of R148. -/
def norCmdOf (v : Byte) : Option NorCmd :=
  if v = 0x10 then some .program else if v = 0x20 then some .erase else if v = 0xC5 then some .remap
  else if v = 0x4C then some .lockClear else if v = 0x4D then some .lockSet else if v = 0x98 then some .info else none

/-- A LEN that R149 accepts. -/
def lenOk (n : Nat) : Bool := decide (32 ≤ n ∧ n ≤ 512 ∧ n % 32 = 0)

/-- One write cycle at offset `a` (R148, R149, R151). `early` says whether a SUSPEND would come before the minimum run
time. -/
def norWrite (early : Bool) (a : Nat) (v : W32) (s : State) : State :=
  let b := bankOfOffset a
  let off := a - bankBase b
  let c : Byte := v.setWidth 8
  let x := bankOf s b
  let goto (q : SeqState) : State := modBank b (fun x => { x with seq := q }) s
  match x.seq with
  | .idle =>
    if off = 0xAAA8 ∧ c = 0x5C then goto .cycle1
    else if off = 0 ∧ c = 0xB0 then suspendCmd b early s
    else if off = 0 ∧ c = 0xD2 then resumeCmd b s
    else if off = 0 ∧ c = 0x50 then clearStatus b s
    else if off = 0 ∧ c = 0xF0 then readArray b s
    else seqError b s
  | .cycle1 => if off = 0x5554 ∧ c = 0xA3 then goto .cycle2 else seqError b s
  | .cycle2 =>
    if off = 0xAAA8 then
      match norCmdOf c with
      | some .info => if x.suspended then seqError b s else modBank b (fun x => { x with seq := .idle, info := true }) s
      | some k => goto (.cycle3 k)
      | none => seqError b s
    else seqError b s
  | .cycle3 .program =>
    if a % 512 = 0 ∧ lenOk v.toNat then goto (.lenAt a v.toNat) else seqError b s
  | .cycle3 k =>
    if a % sectorBytes = 0 ∧ c = 0xD0 then
      match k with
      | .erase => startErase b (sectorOf a) false s
      | .remap => startErase b (sectorOf a) true s
      | .lockClear => changeLock b (sectorOf a) false s
      | _ => changeLock b (sectorOf a) true s
    else seqError b s
  | .lenAt page len =>
    if a % 32 = 0 ∧ page ≤ a ∧ a + len ≤ page + 512 then
      goto (.data page a (a + 4) (len - 4) (leBytes 4 v.toNat))
    else seqError b s
  | .data page first next left bytes =>
    if a = next then
      if left ≤ 4 then goto (.confirm page first (bytes ++ leBytes 4 v.toNat))
      else goto (.data page first (next + 4) (left - 4) (bytes ++ leBytes 4 v.toNat))
    else seqError b s
  | .confirm page first bytes =>
    if a = page ∧ c = 0x29 then startProgram b first bytes s else seqError b s

/-- Firmware or Plinth can send cycles: not in reset or after a stop, and not in Option Fault, which writes nothing and
reads the array only through the recovery window (R96). -/
def norReachable (s : State) : Bool := decide (s.pwr.phase = .released ∧ s.boot.phase ≠ .optionFault)

/-- The first `sent` of a list of cycles arrive. -/
def norCycles (l : List (Nat × W32)) (sent : Nat) (s : State) : State :=
  if norReachable s then (l.take sent).foldl (fun s c => norWrite false c.1 c.2 s) s else s

/-- Cycles 1 to 3 of R148. -/
def unlockCycles (b : Pf) (c : W32) : List (Nat × W32) :=
  [(bankBase b + 0xAAA8, 0x5C), (bankBase b + 0x5554, 0xA3), (bankBase b + 0xAAA8, c)]

/-- Cycles of a sector command (R148). -/
def sectorCycles (n : Nat) (c : W32) : List (Nat × W32) :=
  unlockCycles (bankOfOffset (n * sectorBytes)) c ++ [(n * sectorBytes, 0xD0)]

/-- Data words at ascending addresses (R148). -/
def dataCycles : Nat → List W32 → List (Nat × W32)
  | _, [] => []
  | a, w :: r => (a, w) :: dataCycles (a + 4) r

/-- SECTOR ERASE (R148, R154, R158, R167). -/
def execIaSectorErase (sector sent : Nat) (s : State) : Host.Outcome State Fault Refusal :=
  .next (norCycles (sectorCycles sector 0x20) sent s)

/-- REMAP (R161, R162). -/
def execIaRemap (sector sent : Nat) (s : State) : Host.Outcome State Fault Refusal :=
  .next (norCycles (sectorCycles sector 0xC5) sent s)

/-- LOCK CLEAR (R166). -/
def execIaLockClear (sector sent : Nat) (s : State) : Host.Outcome State Fault Refusal :=
  .next (norCycles (sectorCycles sector 0x4C) sent s)

/-- LOCK SET (R166). -/
def execIaLockSet (sector sent : Nat) (s : State) : Host.Outcome State Fault Refusal :=
  .next (norCycles (sectorCycles sector 0x4D) sent s)

/-- INFO (R152). -/
def execIaInfo (bank : Pf) (sent : Nat) (s : State) : Host.Outcome State Fault Refusal :=
  .next (norCycles (unlockCycles bank 0x98) sent s)

/-- SUSPEND (R156). -/
def execIaSuspend (bank : Pf) (early : Bool) (s : State) : Host.Outcome State Fault Refusal :=
  .next (if norReachable s then norWrite early (bankBase bank) 0xB0 s else s)

/-- A pending suspend reaches its minimum run time and takes effect (R156, R157). -/
def execIaSuspendTakesEffect (bank : Pf) (s : State) : Host.Outcome State Fault Refusal :=
  .next (whilePowered (fun s => if (bankOf s bank).suspPend then suspendNow bank s else s) s)

/-- CLEAR STATUS (R153). -/
def execIaClearStatus (bank : Pf) (s : State) : Host.Outcome State Fault Refusal :=
  .next (norCycles [(bankBase bank, 0x50)] 1 s)

/-- READ ARRAY (R152, R153). -/
def execIaReadArray (bank : Pf) (s : State) : Host.Outcome State Fault Refusal :=
  .next (norCycles [(bankBase bank, 0xF0)] 1 s)

/-! ## Reads -/

/-- The status byte of R153. -/
def statusByte (x : Bank) : Byte :=
  let b (i : Nat) (v : Bool) : Byte := if v then (1 : Byte) <<< i else 0
  b 0 x.run.isNone ||| b 1 x.suspErase.isSome ||| b 2 x.suspProg.isSome ||| b 3 x.progFail ||| b 4 x.eraseFail
    ||| b 5 x.seqErr ||| b 6 x.lockedErr ||| b 7 x.suspPend

/-- Reads give the status byte: an operation runs, or status is held or an error bit is not cleared (R153). -/
def statusReads (x : Bank) : Bool :=
  x.run.isSome || x.held || x.progFail || x.eraseFail || x.seqErr || x.lockedErr

/-- The INFO word at an offset from BASE (R152). -/
def infoWord (s : State) (x : Bank) (off : Nat) : W32 :=
  match off with
  | 0x00 => 0x49415A01
  | 0x08 => s.nor.writeGen.setWidth 32
  | 0x0C => (s.nor.writeGen >>> 32).setWidth 32
  | 0x10 => BitVec.ofNat 32 x.factory
  | 0x14 => BitVec.ofNat 32 x.grown
  | 0x18 => BitVec.ofNat 32 x.spare
  | 0x1C => (match x.intr with
    | some n => (0x80000000 : W32) ||| BitVec.ofNat 32 n
    | none => 0)
  | _ => 0

/-- The offset lies in the sector under suspended erase or the page under suspended program (R159). -/
def underSuspend (x : Bank) (a : Nat) : Bool :=
  decide (x.suspErase = some (sectorOf a)) ||
    (match x.suspProg with
      | some (.program f _ _) => decide (f / 512 = a / 512)
      | _ => false)

/-- Some byte of a range lies under a suspended operation: its read is uncorrectable (R159). -/
def suspendedIn (s : State) (a n : Nat) : Bool :=
  [Pf.p0, Pf.p1].any fun b =>
    let x := bankOf s b
    (match x.suspErase with
      | some k => decide (a < (k + 1) * sectorBytes ∧ k * sectorBytes < a + n)
      | none => false) ||
    (match x.suspProg with
      | some (.program f _ _) => decide (a < (f / 512 + 1) * 512 ∧ f / 512 * 512 < a + n)
      | _ => false)

/-- A read of a bank (R147, R151 to R153, R159). An offset beyond the die does not exist (R142). -/
def execIaBankRead (offset : Nat) (uncorrectable : Bool) (s : State) : Host.Outcome State Fault Refusal :=
  if dieBytes ≤ offset then .fault (.noSuchOffset offset)
  else if !powered s then .next s
  else
    let a := offset / 4 * 4
    let b := bankOfOffset a
    let x := bankOf s b
    let s := if x.seq = .idle then s else seqError b s
    let x := bankOf s b
    .next (if statusReads x then
        emit (.access (.value (BitVec.ofNat 32 (leVal (List.replicate 4 (statusByte x)))))) s
      else if x.info then emit (.access (.value (infoWord s x (a - bankBase b)))) s
      else if underSuspend x a || uncorrectable then emit (.access .poisoned) s
      else emit (.access (.value (BitVec.ofNat 32 (leVal (norBytes s a 4))))) s)

/-! ## Reads through the recovery window (R126, R169, R170) -/

/-- The bank with its running program or erase suspended for a read, as Plinth does (R170). -/
def Bank.paused (x : Bank) : Bank :=
  match x.run with
  | some (.erase n) => { x with suspErase := some n }
  | some (.program f d r) => { x with suspProg := some (.program f d r) }
  | _ => x

/-- What a window read of a bank answers: array data, or poison for an uncorrectable unit and for one under the operation
that the read suspends (R159, R169, R170). -/
def windowAnswer (s : State) (a : Nat) (uncorrectable : Bool) : Answer :=
  if uncorrectable || underSuspend (bankOf s (bankOfOffset a)).paused a then .poisoned
  else .value (BitVec.ofNat 32 (leVal (norBytes s a 4)))

/-- The window reads of a bank that a REMAP held back are served, oldest first (R170, log 140). -/
def serveWindow (b : Pf) (s : State) : State :=
  let mine (e : Nat × Bool) : Bool := decide (bankOfOffset e.1 = b)
  (s.rcv.windowHeld.filter mine).foldl (fun s e => emit (.access (windowAnswer s e.1 e.2)) s)
    { s with rcv.windowHeld := s.rcv.windowHeld.filter fun e => !mine e }

/-! ## Completions -/

/-- A unit is programmed with its 32 bytes, once between erases (R150). -/
def programUnit (u : Nat) (d : Bytes) (s : State) : State :=
  { s with nor.mem := Sparse.putBytes 0xFF s.nor.mem (32 * u) d, nor.programmed := Sparse.put false s.nor.programmed u true }

/-- The units of a PROGRAM that it may program. -/
def freshUnits (first : Nat) (d : Bytes) (refused : List Nat) : List (Nat × Bytes) :=
  (List.range (d.length / 32)).filterMap fun i =>
    if refused.contains (first / 32 + i) then none else some (first / 32 + i, slice d (32 * i) 32)

/-- An operation ends; `ok` is whether the die verified it. Firmware then sets the sector's lock again (R154, R161,
R168, R172). A completion discards a pending suspend. -/
def opComplete (b : Pf) (ok : Bool) (s : State) : State :=
  let idle := modBank b (fun x => { x with run := none, suspPend := false }) s
  let relock (n : Nat) (s : State) : State := { s with nor.unlocked := s.nor.unlocked.erase n }
  match (bankOf s b).run with
  | none => s
  | some (.program first d refused) =>
    let units := freshUnits first d refused
    let s := if ok then units.foldl (fun s u => programUnit u.1 u.2 s) idle
      else units.foldl (fun s u =>
        { undefineUnits u.1 (u.1 + 1) s with nor.programmed := Sparse.put false s.nor.programmed u.1 true }) idle
    relock (sectorOf first)
      (modBank b (fun x => { x with progFail := x.progFail || !ok || !refused.isEmpty }) s)
  | some (.erase n) =>
    let lo := n * sectorBytes / 32
    relock n (if ok then eraseContents n idle
      else modBank b (fun x => { x with eraseFail := true }) (undefineUnits lo (lo + sectorBytes / 32) (loseStores n idle)))
  | some (.remap n) => serveWindow b (relock n (remapDone b n idle))

/-- IA_OPERATION_COMPLETE (R154, R161, R168, R172, R174). -/
def execIaOperationComplete (bank : Pf) (ok : Bool) (s : State) : Host.Outcome State Fault Refusal :=
  .next (whilePowered (opComplete bank ok) s)

/-! ## Slot writes by Plinth and firmware (R129, R161, R168, R255) -/

/-- PROGRAM commands that `n` bytes from `a` take: one for each 512-byte page (R149). -/
def pagesTouched (a n : Nat) : Nat := if n = 0 then 0 else (a + n - 1) / 512 - a / 512 + 1

/-- Some unit of a range was programmed since its sector was erased: a PROGRAM of it sets PROG_FAIL (R150). -/
def rangeDone (s : State) (a n : Nat) : Bool := (List.range ((n + 31) / 32)).any fun i => unitDone s (a / 32 + i)

/-- Bytes programmed from offset `a` on, a multiple of 32, the die failing none of the PROGRAM commands; a unit that was
programmed before keeps its content (R150, R164). -/
def programRange (a : Nat) (d : Bytes) (s : State) : State :=
  bumpGen (pagesTouched a d.length)
    ((List.range ((d.length + 31) / 32)).foldl (fun s i =>
      if unitDone s (a / 32 + i) then s else programUnit (a / 32 + i) (slice d (32 * i) 32) s) s)

/-- The first PROGRAM of a range fails, and no other is issued: its units are undefined and take no second program (R150,
R161; DESIGN CHOICE, log 141: the spec does not say which PROGRAM of a failing WRITE_CHUNK or download fails). -/
def programFails (a n : Nat) (s : State) : State :=
  let hi := min (a + n) ((a / 512 + 1) * 512)
  let s := undefineUnits (a / 32) (hi / 32) (bumpGen 1 s)
  let marks := (List.range ((hi - a) / 32)).foldl (fun m i => Sparse.put false m (a / 32 + i) true) s.nor.programmed
  { s with nor.programmed := marks }

/-- Sectors erased, every SECTOR ERASE returning with no failure (R164). -/
def eraseSectors (l : List Nat) (s : State) : State := bumpGen l.length (l.foldl (fun s n => eraseContents n s) s)

/-- Sectors of a slot; slot G's are never written (R142, R266). -/
def slotSectors : SlotId → List Nat
  | .g => []
  | .a => (List.range 192).map (· + 192)
  | .b => (List.range 192).map (· + 512)

/-- Pages of a sector that hold something programmed. -/
def pagesHeld (s : State) (n : Nat) : Nat :=
  ((List.range 512).filter fun p => (List.range 16).any fun u => unitDone s (n * (sectorBytes / 32) + 16 * p + u)).length

/-- A PROGRAM of a slot write fails: the sector is replaced by a spare that takes over what else it holds, so that the
failed units are erased; with no spare they are undefined and the slot is retired (R161, R162). -/
def slotProgramFails (a n : Nat) (s : State) : State :=
  let k := sectorOf a
  if (bankOf s (bankOfOffset a)).spare = 0 then retireSector k (programFails a n s)
  else replaceBad k (pagesHeld s k) (bumpGen 1 s)

/-- The SECTOR ERASE of a slot sector fails: an erased spare takes its place; with none its content is undefined and the
slot is retired (R161, R162). -/
def slotEraseFails (n : Nat) (s : State) : State :=
  let s := bumpGen 1 s
  let lo := n * (sectorBytes / 32)
  replaceBad n 0 (if (bankOf s (bankOfOffset (n * sectorBytes))).spare = 0 then
      undefineUnits lo (lo + sectorBytes / 32) s
    else eraseContents n s)

/-- A slot retired under R162. -/
def slotRetired (s : State) (i : SlotId) : Bool := (slotSectors i).any fun n => s.nor.retired.contains n

/-- A die reset in one bank: a program or erase under way is aborted, its page or sector undefined, and the
interrupted-operation word names the erase's sector, else the program's (R166, R172). -/
def resetBank (b : Pf) (s : State) : State :=
  let x := bankOf s b
  let erasing := x.erasing
  let progging := x.progging
  let s := match erasing with
    | some n => undefineUnits (n * sectorBytes / 32) ((n + 1) * sectorBytes / 32) (loseStores n s)
    | none => s
  let s := match progging with
    | some f => undefineUnits (f / 512 * 16) (f / 512 * 16 + 16) s
    | none => s
  let word := match erasing, progging with
    | some n, _ => some n
    | none, some f => some (sectorOf f)
    | none, none => x.intr
  setBank b { Bank.fresh x.spare with factory := x.factory, grown := x.grown, intr := word } s

/-- A die reset: Cold, Power-on and Fundamental (R173). Every volatile lock bit is set (R166). -/
def dieReset (s : State) : State :=
  let s := resetBank .p1 (resetBank .p0 s)
  { s with nor.unlocked := [] }

end Sys2Proof.Machine
end

