-- ==== Sys2Proof/Machine/Ledger.lean ====
section
/-! DEFINITION. The event recorder (chapter 06): signature sets, pages and sectors, acknowledging, reading and the
ledger header (R224 to R249), with the meanings of LEDGER_SIGN, EVR_PAGE_PROGRAM, DROPPED_EVENT_REPORT, EVR_READ, EVR_ACK
and BOOT_LEDGER_LOG. -/
namespace Sys2Proof.Machine

/-! ## Sets of records -/

/-- One record of the scan for complete signature sets (R227, R228): the chunk awaited and the last SIG_BODY of the
newest complete set. -/
def sigScan (a : Option Nat × Option W32) (r : EvrRec) : Option Nat × Option W32 :=
  if r.type = 0x0006 then
    (if leVal (slice r.payload 4 4) = (r.seq - 1).toNat then some 0 else none, a.2)
  else if r.type = 0x0007 then
    (match a.1 with
      | some k => if r.aux.toNat = k then (if k = 61 then (none, some r.seq) else (some (k + 1), a.2)) else (none, a.2)
      | none => (none, a.2))
  else if r.type = 0x0008 then a
  else (none, a.2)

/-- SEQ of the last SIG_BODY of the newest complete signature set among records (R227). -/
def lastCompleteSig (l : List EvrRec) : Option W32 := (l.foldl sigScan (none, none)).2

/-- 56-byte chunks of a certificate. -/
def certChunks (b : Bytes) : Nat := (b.length + 55) / 56

/-- One record of the scan for a CERT_BODY set of certificate `c` with bytes `b` (R228). -/
def certScan (c : Nat) (b : Bytes) (a : Nat × Bool) (r : EvrRec) : Nat × Bool :=
  if r.type = 0x0004 ∧ r.aux.toNat = c * 4096 + a.1 ∧ r.payload = padTo 56 (slice b (56 * a.1) 56) then
    (if a.1 + 1 = certChunks b then (0, true) else (a.1 + 1, a.2))
  else if r.type = 0x0008 then a
  else (0, a.2)

/-- The partition holds a complete CERT_BODY set with these bytes (R224, R225). -/
def holdsCert (l : List EvrRec) (c : Nat) (b : Bytes) : Bool := (l.foldl (certScan c b) (0, false)).2

/-- Records held or queued, oldest first. -/
def EvrLedger.known (l : EvrLedger) : List EvrRec := l.held ++ l.queue

/-- Queues a CERT_BODY set (R225). -/
def formCert (c : Nat) (b : Bytes) (s : State) : State :=
  (List.range (certChunks b)).foldl
    (fun s k => formRec .boot 0x0004 (BitVec.ofNat 16 (c * 4096 + k)) (slice b (56 * k) 56) s) s

/-- A CERT_DIGEST of this boot has BODY_FOLLOWS set (R224, R225). -/
def bodyFollows (s : State) (c : Nat) : Bool :=
  s.evr.boot.known.any fun r =>
    decide (r.type = 0x0003 ∧ r.aux.toNat = c ∧ r.bootIndex = s.boot.bootIndex ∧ leVal (slice r.payload 52 4) % 2 = 1)

/-- A CERT_BODY set formed when one is due. -/
def formCertIf (due : Bool) (c : Nat) (b : Bytes) (s : State) : State := if due then formCert c b s else s

/-- The CERT_BODY sets of R225. -/
def formCerts (s : State) : State :=
  let s := formCertIf (bodyFollows s 1) 1 s.trust.aliasCert s
  let s := formCertIf (bodyFollows s 2) 2 s.trust.xportCert s
  formCertIf (!holdsCert s.evr.boot.known 0 (devidCert s)) 0 (devidCert s) s

/-- GEN_ANCHOR (R225): the newest written general record, or SEQ 0 with the initial PREV_HASH. -/
def formAnchor (s : State) : State :=
  formRec .boot 0x0005 0
    (match s.evr.gen.newest? with
      | some r => le32 r.seq.toNat ++ le32 0 ++ digestBytes (chainHash r)
      | none => le32 0 ++ le32 0 ++ digestBytes (firstPrevHash s .gen)) s

/-- A signature set: SIG_HEAD, then 62 SIG_BODY records carrying the DUAL_SIG over it (R226, R227). An opening that is
due puts its SUMMARY records before the SIG_HEAD. -/
def formSignature (s : State) : State :=
  let s := if opensNext s.evr.boot then formSummaries .boot s else s
  let l := s.evr.boot
  let first := match lastCompleteSig l.known with
    | some q => q + 1
    | none => l.oldestSeq
  let s := formPlain .boot 0x0006 0
    (le32 first.toNat ++ le32 l.lastSeq.toNat ++ digestBytes (keyDigest (dualPub (aliasSeed s)))) s
  let x := match s.evr.boot.queue.getLast? with
    | some r => recBytes r
    | none => []
  let sig := dualSig (aliasSeed s) 3 x (hedge s)
  (List.range 62).foldl (fun s k => formRec .boot 0x0007 (BitVec.ofNat 16 k) (slice sig (56 * k) 56) s) (signedOnce s)

/-- Signature records of this boot are queued or written. -/
def signStarted (s : State) : Bool :=
  s.evr.boot.known.any fun r => decide (r.type = 0x0005 ∧ r.bootIndex = s.boot.bootIndex)

/-- The CERT_BODY sets, one GEN_ANCHOR and, where signing succeeds, the signature set (R225 to R227). -/
def signLedger (signs : Bool) (s : State) : State :=
  let s := if signStarted s then s else formAnchor (formCerts s)
  if signs then formSignature s else s

/-- LEDGER_SIGN (R225, R226, R227, R189). Before the restored records stand in their places the set waits for them, so
that it follows them (R237, log 142). -/
def execLedgerSign (signs : Bool) (s : State) : Host.Outcome State Fault Refusal :=
  .next (
    if !running s then s
    else if s.evr.placed then signLedger signs s
    else { s with evr.signWaiting := some signs })

/-! ## Pages and sectors -/

/-- Bank of a partition (R142). -/
def evrBank : EvrPart → Pf
  | .boot => .p0
  | .gen => .p1

/-- First array sector of a partition (R142). -/
def evrFirst : EvrPart → Nat
  | .boot => 384
  | .gen => 704

/-- Sectors a partition was made with (R142). -/
def evrSectors : EvrPart → Nat
  | .boot => 40
  | .gen => 136

/-- Array sector at a place of a partition (R142); places wrap (R230). -/
def evrSectorAt (part : EvrPart) (place : Nat) : Nat := evrFirst part + place % evrSectors part

/-- Array sector of the sector being filled (R142). -/
def evrSectorNo (part : EvrPart) (l : EvrLedger) : Nat := evrSectorAt part l.pos

/-- Place after `pos` in the partition that is not retired; it wraps (R230). -/
def nextPos (s : State) (part : EvrPart) : Nat → Nat → Nat
  | 0, p => p
  | fuel + 1, p =>
    let q := (p + 1) % evrSectors part
    if s.nor.retired.contains (evrSectorAt part q) then nextPos s part fuel q else q

/-- A sector is dropped; dropping an unacknowledged boot record sets OVERFLOW_WARN and records event 0x0023 (R233). -/
def dropSector (part : EvrPart) (x : EvrSector) (s : State) : State :=
  let lost := x.recs.filter fun r => !((ledger s part).isAcked r)
  match part, lost.head?, lost.getLast? with
  | .boot, some a, some z =>
    event 0x0023 a.seq.toNat z.seq.toNat (evsSet 96 { s with evr.overflowWarn := true })
  | _, _, _ => s

/-- The next sector is opened: the oldest full ones over the limit are dropped and erased, their SUMMARY records formed
where none is yet (R230 to R232; log 142 for an opening after a failed page). -/
def openSector (part : EvrPart) (s : State) : State :=
  let s := formSummaries part s
  let l := ledger s part
  let old := l.sectors.take (toDrop part l)
  let s := old.foldl (fun s x => eraseUnits (evrSectorAt part x.place) (dropSector part x s)) s
  let l := ledger s part
  let pos := if l.sectors.isEmpty ∧ !s.nor.retired.contains (evrSectorNo part l) then l.pos
    else nextPos s part (evrSectors part) l.pos
  readySector (evrSectorAt part pos) 0 (bumpGen old.length (setLedger part { l with
    sectors := l.sectors.drop old.length ++ [{ place := pos, recs := [], torn := false }],
    summarised := l.summarised - old.length, pos := pos } s))

/-- SIGNED: the last SIG_BODY of this boot's signature set is written (R249, source 98). The chain hash at its SIG_HEAD,
the record that is signed (R182, R226), is kept for the measurements (R214). -/
def noteSigned (recs : List EvrRec) (s : State) : State :=
  let s := match (recs.filter fun r => decide (r.type = 0x0006 ∧ r.bootIndex = s.boot.bootIndex)).getLast? with
    | some r => { s with evr.signHash := some (chainHash r) }
    | none => s
  if !s.evr.signed && recs.any fun r => decide (r.type = 0x0007 ∧ r.aux = 61 ∧ r.bootIndex = s.boot.bootIndex) then
    evsSet 98 { s with evr.signed := true }
  else s

/-- Records for the next page: up to four that are queued and that the page has room for (R234, R235). -/
def pageCount (l : EvrLedger) : Nat := min (4 - l.used % 4) (min 4 l.queue.length)

/-- The last listed sector of a partition changed. -/
def EvrLedger.modLast (g : EvrSector → EvrSector) (l : EvrLedger) : EvrLedger :=
  { l with sectors := match l.sectors.getLast? with
      | some x => l.sectors.dropLast ++ [g x]
      | none => l.sectors }

/-- The rest of the sector being filled stays unused: TORN_SEEN (source 97) and event 0x0022 with the SEQ of the last
good record (R238). -/
def tearSector (part : EvrPart) (s : State) : State :=
  let l := ledger s part
  let s := setLedger part (l.modLast fun x => { x with torn := true }) s
  eventDue 0x0022 (match part with | .boot => 0 | .gen => 1) l.newestSeq.toNat
    (evsSetIf (!s.evr.tornSeen) 97 { s with evr.tornSeen := true })

/-- A page failed in the sector being filled: it is remapped, with its written records programmed again, or retired when
its bank has no spare; there the failed units are undefined (R161, R162, R238). A sector retired before has no PROGRAM. -/
def failPage (part : EvrPart) (s : State) : State :=
  let l := ledger s part
  let n := evrSectorNo part l
  let u := n * (sectorBytes / 32) + 4 * (l.used % 2048)
  let m := 4 * pageCount l
  let s := tearSector part s
  if s.nor.retired.contains n then s
  else
    let s := if (bankOf s (evrBank part)).spare = 0 then undefineUnits u (u + m) s else s
    replaceBad n ((l.used + 3) / 4) (bumpGen 1 s)

/-- One page of a partition's queue is programmed (R234, R235); a page that fails leaves the rest of its sector unused,
and its records stay queued, unchanged, for the next sector (R238). -/
def programPage (part : EvrPart) (ok : Bool) (s : State) : State :=
  if (ledger s part).queue.isEmpty then s
  else
    let s := if (ledger s part).used = 2048 then openSector part s else s
    let l := ledger s part
    let n := pageCount l
    if ok && !s.nor.retired.contains (evrSectorNo part l) then
      noteSigned (l.queue.take n) (bumpGen 1 (setLedger part
        { l.modLast fun x => { x with recs := x.recs ++ l.queue.take n } with queue := l.queue.drop n } s))
    else failPage part s

/-- EVR_PAGE_PROGRAM (R234, R235, R237, R238): records formed before the restart has restored the dump wait. -/
def execEvrPageProgram (part : EvrPart) (ok : Bool) (s : State) : Host.Outcome State Fault Refusal :=
  .next (if running s && s.evr.placed then programPage part ok s else s)

/-- DROPPED_EVENT_REPORT (R236): one event 0x0024 with the count, once there is space. -/
def execDroppedEventReport (s : State) : Host.Outcome State Fault Refusal :=
  .next (
    if running s && decide (s.evr.dropPending ≠ 0)
        && decide (s.evr.gen.queue.length + recsDue .gen s.evr.gen ≤ 256) then
      event 0x0024 s.evr.dropPending.toNat 0 { s with evr.dropPending := 0 }
    else s)

/-- Pages are programmed until a partition's queue is empty; each page takes at least one record. -/
def drainQueue (part : EvrPart) : Nat → State → State
  | 0, s => s
  | n + 1, s => drainQueue part n (programPage part true s)

/-- The queue is written out; a first page that fails is programmed again in the next sector (R238, R242). -/
def writeOut (part : EvrPart) (ok : Bool) (s : State) : State :=
  let s := if ok then s else programPage part false s
  drainQueue part ((ledger s part).queue.length + 4) s

/-! ## Reading and acknowledging -/

/-- PART of a command. -/
def partOf : Nat → Option EvrPart
  | 0 => some .boot
  | 1 => some .gen
  | _ => none

/-- The ledger header (R243). -/
def ledgerHeader (s : State) (part : EvrPart) (returned : Nat) : Bytes :=
  let l := ledger s part
  padTo 128
    (le32 0x4C455A54 ++ le16 1
      ++ [match part with | .boot => (0 : Byte) | .gen => 1,
          if s.evr.overflowWarn then 1 else 0]
      ++ le32 l.oldestSeq.toNat ++ le32 l.newestSeq.toNat ++ le32 l.ackedSeq.toNat ++ le32 returned
      ++ le32 s.boot.bootIndex.toNat ++ le32 0
      ++ (match l.newest? with | some r => digestBytes (chainHash r) | none => digestBytes 0))

/-- Records a read returns: from START_SEQ, or from the oldest held when it is no longer held, up to COUNT (R241). -/
def readRecs (l : EvrLedger) (start : W32) (count : Nat) : List EvrRec :=
  (l.held.filter fun r => !seqFollows start r.seq).take count

/-- EVR_READ (R239 to R241, R243, R575). -/
def evrRead (t : Tag) (part : BitVec 2) (start : W32) (count : BitVec 14) (s : State) : State :=
  match partOf part.toNat with
  | none => finish t .invalidField s
  | some p =>
    if isVf t.src && decide (p ≠ .boot) then finish t .invalidField s
    else if 8192 < count.toNat then finish t .invalidField s
    else if t.src = .mgt ∧ 4096 < 128 + 128 * count.toNat then finish t .invalidField s
    else
      let rs := readRecs (ledger s p) start count.toNat
      finishData t (ledgerHeader s p rs.length ++ rs.flatMap recBytes) s

/-- EVR_READ: Event Recorder Read with ACK 0 (R240). -/
def execEvrRead (tag : Tag) (part : BitVec 2) (startSeq : W32) (count : BitVec 14) (s : State) :
    Host.Outcome State Fault Refusal :=
  .next (runAdmin (.evrRead tag part startSeq count) tag 0xC1 0 true true true (evrRead tag part startSeq count) s)

/-- Event Recorder Read with ACK 1 (R240, R242): everything up to SEQ becomes acknowledged once the 16 bytes match, and
an ACK record is written before the command completes. -/
def evrAck (t : Tag) (part : BitVec 2) (seq : W32) (hash : BitVec 128) (ok : Bool) (s : State) : State :=
  match partOf part.toNat with
  | none => finish t .invalidField s
  | some p =>
    if isVf t.src then finish t .invalidField s
    else
      let l := ledger s p
      if !seqFollows seq l.ackedSeq then finish t .success s
      else match l.held.find? fun r => decide (r.seq = seq) with
        | none => finish t .authorizationFailed (event 0x0013 0xC1 ((requesterOf t.src).elim 0 requesterCode) s)
        | some r =>
          if (digestBytes (chainHash r)).take 16 = beBytes 16 hash.toNat then
            let s := setLedger p ({ l with acked := some seq }) s
            let full := decide (256 < l.queue.length + recsDue p l)
            let s := if full then writeOut p ok s else s
            let s := formRec p 0x000A 0 (le32 seq.toNat ++ le32 0 ++ digestBytes (chainHash r)) s
            finish t .success (writeOut p (ok || full) s)
          else finish t .authorizationFailed (event 0x0013 0xC1 ((requesterOf t.src).elim 0 requesterCode) s)

/-- EVR_ACK (R240, R242). -/
def execEvrAck (tag : Tag) (part : BitVec 2) (seq : W32) (hash : BitVec 128) (ok : Bool) (s : State) :
    Host.Outcome State Fault Refusal :=
  .next (runAdmin (.evrAck tag part seq hash ok) tag 0xC1 0 true true true (evrAck tag part seq hash ok) s)

/-- Answers a log page: over the path at most 4,096 bytes in a message (R575); an offset beyond the page is Invalid Field
(NVMe Base 2.1). -/
def logReply (t : Tag) (page : Bytes) (length offset : Nat) (s : State) : State :=
  if t.src = .mgt ∧ 4096 < length then finish t .invalidField s
  else if page.length < offset then finish t .invalidField s
  else finishData t (window page offset length) s

/-- Log page 0xC0 (R243): the header with PART 0, then every held boot record, oldest first. -/
def bootLedgerPage (s : State) : Bytes :=
  ledgerHeader s .boot s.evr.boot.held.length ++ s.evr.boot.held.flatMap recBytes

/-- BOOT_LEDGER_LOG (R243, R315). -/
def execBootLedgerLog (tag : Tag) (length offset : Nat) (s : State) : Host.Outcome State Fault Refusal :=
  .next (runAdmin (.bootLedgerLog tag length offset)
    tag 0x02 0 true true true (fun s => logReply tag (bootLedgerPage s) length offset s) s)

/-! ## Start-up -/

/-- A record takes the next place of its partition, with SEQ and PREV_HASH of that place, after the SUMMARY records of an
opening (R232, R237). -/
def appendRec (part : EvrPart) (r : EvrRec) (s : State) : State :=
  let s := if opensNext (ledger s part) then formSummaries part s else s
  pushRec part { r with seq := (ledger s part).lastSeq + 1, prevHash := nextPrevHash s part } s

/-- A partition's queue replaced by records in this order, chained after the newest written one (R237). SUMMARY records
that waited among them are formed again where the openings now fall. -/
def requeue (part : EvrPart) (rs : List EvrRec) (s : State) : State :=
  let l := ledger s part
  let s := setLedger part { l with
    queue := [], summarised := 0, lastSeq := l.newestSeq,
    lastHash := match l.newest? with | some r => chainHash r | none => firstPrevHash s part } s
  (rs.filter fun r => decide (r.type ≠ 0x0008)).foldl (fun s r => appendRec part r s) s

/-- Restored records carry bit 15 of TYPE and go first (R237). -/
def restoreRecs (part : EvrPart) (old : List EvrRec) (s : State) : State :=
  if old.isEmpty then s
  else requeue part (old.map (fun r => { r with type := r.type ||| 0x8000 }) ++ (ledger s part).queue) s

/-- Pages of the general partition are programmed until its queue holds no more than 256 records (R236). -/
def drainExcess : Nat → State → State
  | 0, s => s
  | n + 1, s => if 256 < s.evr.gen.queue.length then drainExcess n (programPage .gen true s) else s

/-- The records of the dump take their places before those that waited (R237); the packets of the events that waited
follow, then a signing that waited, and what is over 256 is written out (log 142). -/
def placeRecords (boot gen : List EvrRec) (s : State) : State :=
  let s := restoreRecs .gen gen (restoreRecs .boot boot s)
  let waited := s.evr.gen.queue.filter fun r => decide (r.type = 0x0100)
  let s := waited.foldl (fun s r => kscEvent r s) { s with evr.placed := true }
  let s := match s.evr.signWaiting with
    | some signs => signLedger signs { s with evr.signWaiting := none }
    | none => s
  drainExcess s.evr.gen.queue.length s

/-- ACKED_SEQ at start-up: the later of the newest held ACK record's value and the SEQ before OLDEST_SEQ (R242). -/
def rebuiltAck (l : EvrLedger) : Option W32 :=
  match (l.held.filter fun r => decide (r.type = 0x000A)).getLast? with
  | some r =>
    let a : W32 := BitVec.ofNat 32 (leVal (slice r.payload 0 4))
    if seqFollows a (l.oldestSeq - 1) then some a else none
  | none => none

/-- A partition's ledger rebuilt from what is written; the queue is lost to the SRAM (R242, R248). -/
def rebuildLedger (l : EvrLedger) : EvrLedger :=
  let l := { l with queue := [], summarised := 0,
                    lastSeq := l.newestSeq,
                    lastHash := (match l.newest? with | some r => chainHash r | none => l.lastHash) }
  { l with acked := rebuiltAck l }

/-- One sector of `tornHeld`: whether one was found, and the newest SEQ so far. -/
def tornStep (l : EvrLedger) (a : Bool × W32) (x : EvrSector) : Bool × W32 :=
  let q := match x.recs.getLast? with | some r => r.seq | none => a.2
  (a.1 || (x.torn && seqFollows q l.ackedSeq), q)

/-- A held sector ends in a torn remainder whose last good record is not acknowledged (R248). A torn sector is no longer
the one being filled. -/
def tornHeld (l : EvrLedger) : Bool := (l.sectors.foldl (tornStep l) (false, 0)).1

/-- Cold, Power-on and Fundamental resets rebuild the recorder from the partitions (R248). -/
def evrReset (s : State) : State :=
  let b := rebuildLedger s.evr.boot
  let g := rebuildLedger s.evr.gen
  { s with evr := {
      boot := b, gen := g,
      overflowWarn := b.held.any (fun r =>
        decide (r.type = 0x0008) && !r.aux.getLsbD 0 && seqFollows r.seq b.ackedSeq),
      signed := false,
      tornSeen := tornHeld b || tornHeld g,
      dropped := 0, dropPending := 0, placed := false, signWaiting := none, signHash := none } }

/-- A record that an interrupted program left torn is found at start-up (R238): TORN_SEEN is set and the rest of its
sector stays unused. -/
def foundTear (part : EvrPart) (torn : Bool) (s : State) : State :=
  if torn && decide ((ledger s part).used < 2048) then tearSector part s else s

/-! ## Raw commands of firmware beside the ledger (R235) -/

/-- Queued ledger records of a bank go to the die before another PROGRAM, and a suspended erase stays suspended until
they have (R235, log 142). -/
def ledgerFirst (b : Pf) (s : State) : State :=
  let part : EvrPart := match b with | .p0 => .boot | .p1 => .gen
  if running s && s.evr.placed && (bankOf s b).run.isNone then drainQueue part ((ledger s part).queue.length + 4) s else s

/-- PROGRAM (R148, R149, R235). -/
def execIaProgram (page : Nat) (len : W32) (first : Nat) (words : List W32) (sent : Nat) (s : State) :
    Host.Outcome State Fault Refusal :=
  .next (norCycles (unlockCycles (bankOfOffset page) 0x10 ++ [(page, len)] ++ dataCycles first words ++ [(page, 0x29)])
    sent (ledgerFirst (bankOfOffset page) s))

/-- RESUME (R158, R235). -/
def execIaResume (bank : Pf) (s : State) : Host.Outcome State Fault Refusal :=
  .next (norCycles [(bankBase bank, 0xD2)] 1 (ledgerFirst bank s))

end Sys2Proof.Machine
end

