-- ==== Sys2Proof/Machine/Trust.lean ====
section
/-! DEFINITION. Owner authorisations, nonces and entropy (R190 to R203, R215): GET_NONCE, the seven owner actions, split
transfers, Event Recorder Clear (R244 to R246) and DRBG_RESEED. -/
namespace Sys2Proof.Machine

/-! ## Entropy -/

/-- A request for entropy: served while healthy, waiting while output is blocked or starting, refused while unavailable
(R201, R202). `i` is the command that waits. -/
def withEntropy (i : Instr) (served unavailable : State → State) (s : State) : State :=
  match s.trust.rng with
  | .healthy => served (drbgUse s)
  | .unavailable => unavailable s
  | _ => { s with trust.waiting := s.trust.waiting ++ [i] }

/-- RNG_STATE changes (source 65). -/
def setRng (r : RngState) (s : State) : State :=
  if s.trust.rng = r then s else evsSet 65 { s with trust.rng := r }

/-- DRBG_RESEED: the second since the last reseed has passed (R200). It does nothing while output is blocked. -/
def execDrbgReseed (s : State) : Host.Outcome State Fault Refusal :=
  .next (if powered s ∧ s.trust.rng = .healthy then { s with trust.drbgCount := 0 } else s)

/-! ## Nonces -/

/-- A requester's outstanding nonce (R192). -/
def nonceOf (s : State) : Requester → Option (BitVec 256)
  | .mgt => s.trust.nonceMgt
  | .pf0 => s.trust.noncePf0
  | .pf1 => s.trust.noncePf1

/-- A requester's outstanding nonce replaced. -/
def setNonce (r : Requester) (v : Option (BitVec 256)) (s : State) : State :=
  match r with
  | .mgt => { s with trust.nonceMgt := v }
  | .pf0 => { s with trust.noncePf0 := v }
  | .pf1 => { s with trust.noncePf1 := v }

/-- A held first part is discarded when another Owner Command arrives from the path (R198). -/
def dropSplit (t : Tag) (s : State) : State := if t.src = .mgt then { s with trust.split := none } else s

/-- GET_NONCE answers a fresh nonce, which becomes the requester's outstanding one (R192, R197). -/
def giveNonce (t : Tag) (r : Requester) (s : State) : State :=
  let n := draw 256 s
  finishData t (beBytes 32 n.toNat ++ le32 (ownerEpoch s).toNat ++ [BitVec.ofNat 8 (ownerState s), 0, 0, 0])
    (setNonce r (some n) (drawn 1 s))

/-- GET_NONCE (R192, R197): the outstanding nonce is discarded at once. -/
def getNonce (t : Tag) (length : W16) (part : BitVec 2) (s : State) : State :=
  match requesterOf t.src with
  | none => s
  | some r =>
    let s := setNonce r none (dropSplit t s)
    if length.toNat < 40 ∨ part ≠ 0 then finish t .invalidField s
    else withEntropy (.getNonce t length part) (giveNonce t r) (finish t .entropyUnavailable) s

/-- GET_NONCE. -/
def execGetNonce (tag : Tag) (length : W16) (part : BitVec 2) (s : State) : Host.Outcome State Fault Refusal :=
  .next (runAdmin (.getNonce tag length part) tag 0xC4 0 true false true (getNonce tag length part) s)

/-! ## Authorisations -/

/-- MAGIC, VERSION and ACTION of an authorisation (R191, R194 step 1). -/
def authHead (a : Bytes) (action : Nat) : Bool :=
  decide (leVal (slice a 0 4) = 0x414F5A54 ∧ leVal (slice a 4 2) = 1 ∧ leVal (slice a 6 2) = action)

/-- OWNER_EPOCH, DEVID_KEY_ID, NONCE, TARGET and NEW_KEY_ID (R194 step 3). -/
def authBinds (s : State) (a : Bytes) (nonce : Option (BitVec 256)) (target newKey : Bytes) : Bool :=
  decide (leVal (slice a 0x08 4) = (ownerEpoch s).toNat)
    && decide (slice a 0x10 48 = digestBytes s.trust.devidKeyId)
    && (match nonce with
      | some n => decide (slice a 0x40 32 = beBytes 32 n.toNat)
      | none => false)
    && decide (slice a 0x60 48 = target) && decide (slice a 0x90 48 = newKey)

/-- The DUAL_SIG of an authorisation is accepted: CTX 5, by the key with this digest (R191, R194 step 4). -/
def authSigned (a : Bytes) (v : DualVerdict) (signer : Digest) : Bool := sigOk (sigHead (slice a 0xC0 0xD90)) v 5 signer

/-- Key digest of the current owner key (R193). -/
def ownerKey (s : State) : Digest := match ownerRec? s with | some r => keyDigest r.pub | none => 0

/-- 48 zero bytes: an unused digest field. -/
def noDigest : Bytes := List.replicate 48 0

/-- Owner actions carried by Owner Command (R193). -/
inductive OwnerAct where
  | install | lock | unlock | replace | release | kscDisable | kscEnable
  deriving DecidableEq, Repr

/-- ACTION code (R193). -/
def OwnerAct.code : OwnerAct → Nat
  | .install => 1
  | .lock => 2
  | .unlock => 3
  | .replace => 4
  | .release => 5
  | .kscDisable => 6
  | .kscEnable => 7

/-- Actions whose transfer appends a DUAL_PUB (R191). -/
def OwnerAct.appends (a : OwnerAct) : Bool := decide (a = .install ∨ a = .replace)

/-- Bytes of the transfer (R197). -/
def OwnerAct.length (a : OwnerAct) : Nat := if a.appends then 5728 else 3664

/-- States an action is valid in (R193): 0 Unowned, 1 Owned, 2 Locked. -/
def OwnerAct.validIn (a : OwnerAct) (st : Nat) : Bool :=
  match a with
  | .install => decide (st = 0)
  | .lock => decide (st = 1)
  | .unlock => decide (st = 2)
  | .release => decide (st = 1)
  | .replace | .kscDisable | .kscEnable => decide (st = 1 ∨ st = 2)

/-- The record an action writes (R190, R193). -/
def OwnerAct.apply (a : OwnerAct) (r : OwnerRec) (pub : Bytes) : OwnerRec :=
  match a with
  | .install => { r with state := 1, pub := pub, epoch := r.epoch + 1 }
  | .replace => { r with pub := pub, epoch := r.epoch + 1 }
  | .lock => { r with state := 2 }
  | .unlock => { r with state := 1 }
  | .release => { state := 0, kscOff := false, pub := List.replicate 2064 0, epoch := r.epoch + 1 }
  | .kscDisable => { r with kscOff := true }
  | .kscEnable => { r with kscOff := false }

/-- The owner record a writer starts from: with none, Unowned (R215). -/
def ownerRecBase (s : State) : OwnerRec :=
  (ownerRec? s).getD { state := 0, kscOff := false, epoch := 0, pub := List.replicate 2064 0 }

/-- Every check passed: the new owner record copy is written; a copy that does not commit leaves the record as it was
(R193, R194). A change of STATE is an event and source 68. -/
def ownerCommit (t : Tag) (a : OwnerAct) (pub : Bytes) (stored : Bool) (s : State) : State :=
  let old := ownerState s
  let s := storeRecord (.owner (a.apply (ownerRecBase s) pub)) (stored && canStore .owner s) s
  if stored && canStore .owner s then
    let s := if ownerState s = old then s else event 0x0014 (ownerState s) (ownerEpoch s).toNat (evsSet 68 s)
    finish t .success (kscFollow s)
  else finish t .internalError s

/-- The whole authorisation of a PF's or a single-message command, or of a final part, is checked (R192 to R194). -/
def ownerCheck (t : Tag) (r : Requester) (a : OwnerAct) (data : Bytes) (sig : DualVerdict) (stored : Bool) (s : State) :
    State :=
  let pub := slice data 3664 2064
  if !authHead data a.code then finish t .invalidField s
  else
    let nonce := nonceOf s r
    let s := setNonce r none s
    if !a.validIn (ownerState s) then finish t .stateConflict s
    else if !authBinds s data nonce noDigest (if a.appends then digestBytes (keyDigest pub) else noDigest)
        || !authSigned data sig (if a = .install then keyDigest pub else ownerKey s) then
      finish t .authorizationFailed (event 0x0013 a.code (requesterCode r) s)
    else ownerCommit t a pub stored s

/-- An Owner Command with an action (R194, R197, R198). -/
def ownerCommand (t : Tag) (a : OwnerAct) (length : W16) (part : BitVec 2) (data : Bytes) (sig : DualVerdict)
    (stored : Bool) (s : State) : State :=
  match requesterOf t.src with
  | none => s
  | some r =>
    let held := s.trust.split
    let s := dropSplit t s
    if length.toNat ≠ a.length then finish t .invalidField s
    else if part = 0 then
      if t.src = .mgt ∧ 4096 < a.length then finish t .invalidField s
      else ownerCheck t r a (padTo a.length data) sig stored s
    else if t.src = .mgt ∧ a.appends ∧ part = 1 then
      finish t .success { s with
        trust.split := some { action := BitVec.ofNat 16 a.code, length := length, data := padTo 4096 data } }
    else if t.src = .mgt ∧ a.appends ∧ part = 2 then
      match held with
      | some h =>
        if h.action.toNat = a.code ∧ h.length = length then
          ownerCheck t r a (h.data ++ padTo 1632 data) sig stored s
        else finish t .invalidField s
      | none => finish t .invalidField s
    else finish t .invalidField s

/-- INSTALL (R193). -/
def execOwnerInstall (tag : Tag) (length : W16) (part : BitVec 2) (data : Bytes) (sig : DualVerdict) (stored : Bool)
    (s : State) : Host.Outcome State Fault Refusal :=
  .next (runAdmin (.ownerInstall tag length part data sig stored)
    tag 0xC4 0 true false true (ownerCommand tag .install length part data sig stored) s)

/-- LOCK (R193). -/
def execOwnerLock (tag : Tag) (length : W16) (part : BitVec 2) (data : Bytes) (sig : DualVerdict) (stored : Bool)
    (s : State) : Host.Outcome State Fault Refusal :=
  .next (runAdmin (.ownerLock tag length part data sig stored)
    tag 0xC4 0 true false true (ownerCommand tag .lock length part data sig stored) s)

/-- UNLOCK (R193). -/
def execOwnerUnlock (tag : Tag) (length : W16) (part : BitVec 2) (data : Bytes) (sig : DualVerdict) (stored : Bool)
    (s : State) : Host.Outcome State Fault Refusal :=
  .next (runAdmin (.ownerUnlock tag length part data sig stored)
    tag 0xC4 0 true false true (ownerCommand tag .unlock length part data sig stored) s)

/-- REPLACE (R193). -/
def execOwnerReplace (tag : Tag) (length : W16) (part : BitVec 2) (data : Bytes) (sig : DualVerdict) (stored : Bool)
    (s : State) : Host.Outcome State Fault Refusal :=
  .next (runAdmin (.ownerReplace tag length part data sig stored)
    tag 0xC4 0 true false true (ownerCommand tag .replace length part data sig stored) s)

/-- RELEASE (R193, R195). -/
def execOwnerRelease (tag : Tag) (length : W16) (part : BitVec 2) (data : Bytes) (sig : DualVerdict) (stored : Bool)
    (s : State) : Host.Outcome State Fault Refusal :=
  .next (runAdmin (.ownerRelease tag length part data sig stored)
    tag 0xC4 0 true false true (ownerCommand tag .release length part data sig stored) s)

/-- KSC_DISABLE (R193, R590). -/
def execOwnerKscDisable (tag : Tag) (length : W16) (part : BitVec 2) (data : Bytes) (sig : DualVerdict) (stored : Bool)
    (s : State) : Host.Outcome State Fault Refusal :=
  .next (runAdmin (.ownerKscDisable tag length part data sig stored)
    tag 0xC4 0 true false true (ownerCommand tag .kscDisable length part data sig stored) s)

/-- KSC_ENABLE (R193, R590). -/
def execOwnerKscEnable (tag : Tag) (length : W16) (part : BitVec 2) (data : Bytes) (sig : DualVerdict) (stored : Bool)
    (s : State) : Host.Outcome State Fault Refusal :=
  .next (runAdmin (.ownerKscEnable tag length part data sig stored)
    tag 0xC4 0 true false true (ownerCommand tag .kscEnable length part data sig stored) s)

/-- SPLIT_PART_TIMEOUT: 10 s passed without the final part (R198). -/
def execSplitPartTimeout (s : State) : Host.Outcome State Fault Refusal :=
  .next (whilePowered (fun s => { s with trust.split := none }) s)

/-! ## Event Recorder Clear -/

/-- TARGET of an EVR_CLEAR authorisation (R244). -/
def clearTarget (p : EvrPart) (r : EvrRec) : Bytes :=
  digestBytes (sha ([match p with | .boot => (0 : Byte) | .gen => 1] ++ le32 r.seq.toNat ++ digestBytes (chainHash r)))

/-- A boot-partition clear beyond the last SIG_BODY of the newest complete signature set (R245). -/
def clearBeyond (p : EvrPart) (l : EvrLedger) (upto : W32) : Bool :=
  match p with
  | .gen => false
  | .boot => (match lastCompleteSig (l.sectors.flatMap (·.recs)) with
    | some q => seqFollows upto q
    | none => true)

/-- A successful clear (R246): the CLEAR record, then records up to UPTO_SEQ are read no more and sectors holding only
such records are erased. -/
def applyClear (t : Tag) (p : EvrPart) (r : EvrRec) (ok : Bool) (s : State) : State :=
  let s := writeOut p ok
    (formRec p 0x0009 0 (le32 r.seq.toNat ++ le32 (ownerEpoch s).toNat ++ digestBytes (chainHash r)) s)
  let l := ledger s p
  let old (x : EvrSector) : Bool := x.recs.all fun q => !seqFollows q.seq r.seq
  let gone := l.sectors.filter old
  let s := gone.foldl (fun s x => eraseUnits (evrSectorAt p x.place) s) s
  finish t .success (bumpGen gone.length
    (setLedger p { ledger s p with cleared := some r.seq, sectors := l.sectors.filter fun x => !old x } s))

/-- Event Recorder Clear (R194, R244, R245): the command's own fields at step 1, EVR_CLEAR's state and R245 at step 2,
then the authorisation. -/
def evrClear (t : Tag) (p : EvrPart) (upto : W32) (length : W16) (data : Bytes) (sig : DualVerdict) (ok : Bool)
    (s : State) : State :=
  match requesterOf t.src with
  | none => s
  | some q =>
    match (ledger s p).held.find? fun r => decide (r.seq = upto) with
    | none => finish t .invalidField s
    | some r =>
      let a := padTo 3664 data
      if length.toNat ≠ 3664 || !authHead a 0x0011 then finish t .invalidField s
      else
        let nonce := nonceOf s q
        let s := setNonce q none s
        if ownerState s = 0 ∨ clearBeyond p (ledger s p) upto then finish t .stateConflict s
        else if !authBinds s a nonce (clearTarget p r) noDigest || !authSigned a sig (ownerKey s) then
          finish t .authorizationFailed (event 0x0013 0x0011 (requesterCode q) s)
        else applyClear t p r ok s

/-- EVR_CLEAR (R244 to R246). -/
def execEvrClear (tag : Tag) (part : BitVec 1) (uptoSeq : W32) (length : W16) (data : Bytes) (sig : DualVerdict)
    (ok : Bool) (s : State) : Host.Outcome State Fault Refusal :=
  .next (runAdmin (.evrClear tag part uptoSeq length data sig ok) tag 0xC2 0 true false true
    (evrClear tag (if part = 0 then .boot else .gen) uptoSeq length data sig ok) s)

end Sys2Proof.Machine
end

