-- ==== Sys2Proof/Machine/Keys.lean ====
section
/-! DEFINITION. Namespace key slots, the key table and KSPLIT (R204 to R210, R217, R331, R353, R561, R619): GENERATE, ERASE,
OLD_KEY_ZEROISE, KEY_TABLE_STORE_COMMIT and KSPLIT_WRITE. -/
namespace Sys2Proof.Machine

/-- A key slot replaced. -/
def setKey (i : Nat) (k : KeySlot) (s : State) : State := { s with tab.keys := Sparse.put KeySlot.empty s.tab.keys i k }

/-- The generation after `g`: 1 follows 0xFFFF_FFFF (R204). -/
def nextGen (g : W32) : W32 := if g = 0xFFFFFFFF then 1 else g + 1

/-- Command registers of a PF (R217). -/
def ksOf (s : State) : Pf → KsRegs
  | .p0 => s.trust.ks0
  | .p1 => s.trust.ks1

/-- Command registers of a PF replaced. -/
def setKs (pf : Pf) (k : KsRegs) (s : State) : State :=
  match pf with
  | .p0 => { s with trust.ks0 := k }
  | .p1 => { s with trust.ks1 := k }

/-- Sets RESULT; BUSY falls (source 66 or 67). -/
def ksResult (pf : Pf) (r : BitVec 3) (s : State) : State :=
  evsSet (66 + pfNum pf) (setKs pf { ksOf s pf with busy := false, result := r } s)

/-- The PF that a slot belongs to (R331). -/
def slotOwner (s : State) (i : Nat) : Pf := if i < s.tab.ksplit then .p0 else .p1

/-- The namespace bound to a slot. -/
def boundNs (s : State) (i : Nat) : Option Nat :=
  (s.tab.nss.find? fun e => decide (e.2.slot = some i)).map (·.1)

/-- The namespace belongs to a tenant in an export session (R561). -/
def nsInExport (s : State) (nsid : Nat) : Bool := s.mqt.sess.any fun x => !x.imp && x.nss.contains nsid

/-- A bound namespace's unit state follows its slot (R581). -/
def ustSlot (i : Nat) (s : State) : State :=
  match boundNs s i with
  | some n => ustChange (nsUnit n) s
  | none => s

/-- A slot takes a new TRNG key under the next generation; the old key is held for the commands that captured it
(R206). -/
def loadKey (i : Nat) (s : State) : State :=
  let k := keySlot s i
  let k' : KeySlot := { gen := nextGen k.gen, key := some (draw 512 s),
                        old := match k.key with | some x => some (k.gen, x) | none => k.old }
  let s := setKey i k' (drawn 1 s)
  if k.key = none then ustSlot i s else s

/-- A key change is stored with the key table; it is undone should the store fail (R209, R215). -/
def storeKeys (why : KeyWhy) (i : Nat) (prev : KeySlot) (s : State) : State :=
  { s with trust.stores := s.trust.stores ++ [{ why := why, slot := i, prev := prev }] }

/-- GENERATE runs, or waits while an older key of the slot drains (R206, R207). -/
def runGenerate (pf : Pf) (i : Nat) (s : State) : State :=
  if (keySlot s i).old.isSome then s
  else storeKeys (.generate pf) i (keySlot s i) (loadKey i s)

/-- A captured context of a Frozen tenant whose command captured the slot is finished with Key Slot Erased (R208, R543). -/
def endCtx (hit : Inflight → Bool) (c : MqCtx) : MqCtx :=
  if hit c.cmd && decide (c.phase ≤ 1) then
    { c with phase := 2, bytesDone := 0,
             cqe := some { sqid := c.cmd.sqid, cid := c.cmd.cid, st := .keySlotErased, dw0 := 0 } }
  else c

/-- The write of a handle is dropped before it reaches media, from the rows that already carry it too (R208). -/
def dropWrite (t : Tag) (s : State) : State :=
  let l := s.ftl.wt.filter fun w => decide (w.tag = some t)
  let hit (i : Nat × BitVec 40 × IuVer) : Bool := l.any fun w => decide (w.key = i.1 ∧ w.ver.seq = i.2.2.seq)
  { s with ftl.wt := s.ftl.wt.filter (fun w => !decide (w.tag = some t)),
           ftl.rows := s.ftl.rows.map fun r =>
             if r.src.isSome then r else { r with items := r.items.filter fun i => !hit i } }

/-- Every command in flight that captured the slot ends with Key Slot Erased; writes waiting for media are dropped
(R208). -/
def abortBySlot (i : Nat) (s : State) : State :=
  let hit (e : Inflight) : Bool := match e.key with | some (j, _) => decide (j = i) | none => false
  let sess := s.mqt.sess.map fun x => { x with ctxs := x.ctxs.map (endCtx hit) }
  s.fns.foldl (fun s e =>
    (e.2.ctrl.inflight.filter hit).foldl (fun s c =>
      let t : Tag := ⟨.fn (funcOfUnit e.1), c.sqid, c.cid⟩
      finish t .keySlotErased (dropWrite t s)) s) { s with mqt.sess := sess }

/-- ERASE of a loaded slot (R204, R208). -/
def runErase (pf : Pf) (i : Nat) (s : State) : State :=
  let k := keySlot s i
  let s := abortBySlot i s
  storeKeys (.erase pf) i k (ustSlot i (setKey i { gen := nextGen k.gen, key := none, old := none } s))

/-- GO with an operation: OVERRUN while BUSY; else BUSY is set and the command is checked (R217). -/
def ksGo (pf : Pf) (i : BitVec 11) (op : BitVec 3) (s : State) : State :=
  if (ksOf s pf).busy then setKs pf { ksOf s pf with slot := i, op := op, overrun := true } s
  else
    let s := setKs pf { ksOf s pf with slot := i, op := op, runSlot := i, runOp := op, busy := true } s
    let other := ksOf s (match pf with | .p0 => .p1 | .p1 => .p0)
    if op ≠ 1 ∧ op ≠ 2 then ksResult pf 5 s
    else if slotOwner s i.toNat ≠ pf then ksResult pf 1 s
    else if other.busy && decide (other.runSlot = i) then ksResult pf 4 s
    else if op = 1 then
      if ((boundNs s i.toNat).map (nsInExport s)).getD false then ksResult pf 4 s
      else withEntropy (.keySlotGenerate pf i) (runGenerate pf i.toNat) (ksResult pf 2) s
    else if (keySlot s i.toNat).key = none then ksResult pf 0 s
    else runErase pf i.toNat s

/-- KEY_SLOT_GENERATE (R206, R207, R217). -/
def execKeySlotGenerate (pf : Pf) (slot : BitVec 11) (s : State) : Host.Outcome State Fault Refusal :=
  .next (if running s then ksGo pf slot 1 s else s)

/-- KEY_SLOT_ERASE (R208, R217). -/
def execKeySlotErase (pf : Pf) (slot : BitVec 11) (s : State) : Host.Outcome State Fault Refusal :=
  .next (if running s then ksGo pf slot 2 s else s)

/-- A command in flight still uses a generation of a slot (R205, R206). -/
def genInUse (s : State) (i : Nat) (g : W32) : Bool :=
  (s.fns.any fun e => e.2.ctrl.inflight.any fun c => decide (c.key = some (i, g)))
    || (s.mqt.sess.any fun x => x.ctxs.any fun c => decide (c.cmd.key = some (i, g)))

/-- A GENERATE of this slot that waited for the older key to drain goes on; its new key needs entropy (R201, R207). -/
def resumeGenerate (i : Nat) (s : State) : State :=
  let go (pf : Pf) (s : State) : State :=
    let k := ksOf s pf
    if k.busy && decide (k.runOp = 1 ∧ k.runSlot.toNat = i) && !(s.trust.stores.any fun x => decide (x.slot = i))
        && !(s.trust.waiting.contains (.keySlotGenerate pf k.runSlot)) then
      withEntropy (.keySlotGenerate pf k.runSlot) (runGenerate pf i) (ksResult pf 2) s
    else s
  go .p1 (go .p0 s)

/-- OLD_KEY_ZEROISE (R206, R207): once no command holds it, a retiring key is gone. -/
def execOldKeyZeroise (slot : Nat) (s : State) : Host.Outcome State Fault Refusal :=
  .next (match (keySlot s slot).old with
    | some (g, _) =>
      if !powered s || genInUse s slot g then s
      else resumeGenerate slot (setKey slot { keySlot s slot with old := none } s)
    | none => s)

/-- The table as it is stored: current keys only (R209). -/
def storedKeys (s : State) : Sparse KeySlot := s.tab.keys.map fun e => (e.1, { e.2 with old := none })

/-- The key table as media hold it: wrapped under K_KEK (R209). -/
def wrapKeys (s : State) (keys : Sparse KeySlot) : Bytes :=
  Config.aesWrap (keyReg s.trust.keys.kek) (Config.keyTableBytes (keys.map fun e => (e.1, e.2.gen, e.2.key)))

/-- The key table's store (R209, R511). -/
def keyTableStore (s : State) : Store :=
  { kind := 5, epoch := s.hold.epochMax, index := 0, body := wrapKeys s (storedKeys s), committed := true }

/-- One change of a store that committed. -/
def keyStoreDone (k : KeyStore) (s : State) : State :=
  match k.why with
  | .generate pf | .erase pf => ksResult pf 0 s
  | _ => s

/-- One change of a store that failed is undone, and event 0x0011 is recorded (R215, R247, R353). -/
def keyStoreFailed (k : KeyStore) (s : State) : State :=
  match k.why with
  | .generate pf => ksResult pf 3 (event 0x0011 k.slot 1 (ustSlot k.slot (setKey k.slot k.prev s)))
  | .erase pf => ksResult pf 3 (event 0x0011 k.slot 2 (ustSlot k.slot (setKey k.slot k.prev s)))
  | .maquette => event 0x0011 0xFFFF 3 (setKey k.slot k.prev s)
  | .ksplit old => event 0x0011 0xFFFF 4 { s with tab.ksplit := old }

/-- KEY_TABLE_STORE_COMMIT (R209, R215, R353): the store in progress commits with every change waiting for it, the block
of the previous wrapped copy being erased, or fails and undoes them, newest first. -/
def execKeyTableStoreCommit (ok : Bool) (s : State) : Host.Outcome State Fault Refusal :=
  .next (
    let l := s.trust.stores
    if l.isEmpty || !powered s then s
    else if ok then
      l.foldl (fun s k => keyStoreDone k s)
        (replaceStores (fun x => decide (x.kind = 5)) [keyTableStore s]
          { s with trust.stores := [], media.keyTab := storedKeys s, media.keySplit := s.tab.ksplit })
    else l.reverse.foldl (fun s k => keyStoreFailed k s) { s with trust.stores := [] })

/-- LOCKED of TZ_NVM_KSPLIT: some slot has a loaded key (R353). -/
def ksplitLocked (s : State) : Bool := s.tab.keys.any fun e => e.2.key.isSome

/-- A write of TZ_NVM_KSPLIT (R353, R605). -/
def writeKsplit (pf : Pf) (v : W32) (s : State) : State :=
  let n := (fieldOf 0 12 v).toNat
  if pf = .p1 then s
  else if 2048 < n then { s with nvm.ksplitBad := true }
  else if n ≠ s.tab.ksplit ∧ ksplitLocked s then { s with nvm.ksplitBad := true }
  else
    let s1 := { s with nvm.ksplitBad := s.nvm.ksplitBad && !v.getLsbD 12 }
    if n = s.tab.ksplit then s1
    else storeKeys (.ksplit s.tab.ksplit) 0 KeySlot.empty { s1 with tab.ksplit := n }

/-- KSPLIT_WRITE (R331, R353). -/
def execKsplitWrite (pf : Pf) (value : W32) (s : State) : Host.Outcome State Fault Refusal :=
  .next (if running s then writeKsplit pf value s else s)

end Sys2Proof.Machine
end

