-- ==== Sys2Proof/Machine/Stripe.lean ====
section
/-! DEFINITION. Stripe parity (R436, R438 to R440): the Galois field GF(2^8), P and Q of a stripe row, and the recovery of
one or two lost units. A page is listed by its bytes other than 0. -/
namespace Sys2Proof.Machine

/-! ## GF(2^8) with the polynomial 0x11D and g = 0x02 (R438) -/

/-- g · a. -/
def gfDouble (a : Byte) : Byte := if a.getLsbD 7 then (a <<< 1) ^^^ 0x1D else a <<< 1

/-- a · b: the multiples of `a` by the powers of 2 that `b` holds. -/
def gfMul (a b : Byte) : Byte :=
  ((List.range 8).foldl (fun (p : Byte × Byte) i => (if b.getLsbD i then p.1 ^^^ p.2 else p.1, gfDouble p.2)) (0, a)).1

/-- g^n. -/
def gfPow : Nat → Byte
  | 0 => 1
  | n + 1 => gfDouble (gfPow n)

/-- The inverse of an element other than 0: its power 254. -/
def gfInv (a : Byte) : Byte :=
  ((List.range 7).foldl (fun (p : Byte × Byte) _ => (gfMul p.1 (gfMul p.2 p.2), gfMul p.2 p.2)) (1, a)).1

/-! ## Pages -/

/-- Byte-wise XOR of two pages. -/
def xorPage (t u : Sparse Byte) : Sparse Byte :=
  u.foldl (fun t e => Sparse.put 0 t e.1 (Sparse.read 0 t e.1 ^^^ e.2)) t

/-- A page with each byte multiplied by `c`. -/
def scalePage (c : Byte) (t : Sparse Byte) : Sparse Byte :=
  t.filterMap fun e => if gfMul c e.2 = 0 then none else some (e.1, gfMul c e.2)

/-- XOR of pages, each multiplied by the factor of its data index. -/
def sumPages (f : Nat → Byte) (l : List (Nat × Sparse Byte)) : Sparse Byte :=
  l.foldl (fun t e => xorPage t (scalePage (f e.1) e.2)) []

/-- P of the data pages by data index. -/
def pPage (l : List (Nat × Sparse Byte)) : Sparse Byte := sumPages (fun _ => 1) l

/-- Q of the data pages by data index. -/
def qPage (l : List (Nat × Sparse Byte)) : Sparse Byte := sumPages gfPow l

/-- Two lost data pages x < y from P and Q without the survivors' parts (R438). -/
def solveTwo (x y : Nat) (pxy qxy : Sparse Byte) : Sparse Byte × Sparse Byte :=
  let k := gfInv (gfPow (y - x) ^^^ 1)
  let dx := xorPage (scalePage (gfMul (gfPow (y - x)) k) pxy) (scalePage (gfMul (gfInv (gfPow x)) k) qxy)
  (dx, xorPage pxy dx)

/-- The data page of index `x` from the surviving ones and what survives of P and Q; `lost` are the lost data indices
(R440): one from P, or from Q where P is lost too; two from both. -/
def recoverPage (x : Nat) (lost : List Nat) (live : List (Nat × Sparse Byte)) (p q : Option (Sparse Byte)) :
    Option (Sparse Byte) :=
  match lost, p, q with
  | [_], some p, _ => some (xorPage p (pPage live))
  | [_], none, some q => some (scalePage (gfInv (gfPow x)) (xorPage q (qPage live)))
  | [a, b], some p, some q =>
    let d := solveTwo (min a b) (max a b) (xorPage p (pPage live)) (xorPage q (qPage live))
    some (if x = min a b then d.1 else d.2)
  | _, _, _ => none

end Sys2Proof.Machine
end

