-- ==== Sys2Proof/Machine/Map.lean ====
section
/-! DEFINITION. Indirection units, the map, bands and rows, and the DRAM cache (R390 to R404, R429, R434 to R436, R440,
R508, R509): where a version of a unit is, how its blocks are read, and how dirty data is counted. -/
namespace Sys2Proof.Machine

/-! ## Map entries (R392) -/

/-- SPECIAL with KIND 0: deallocated; what an entry not listed holds. -/
def mapNone : BitVec 40 := 0x8000000000#40
/-- SPECIAL with KIND 1: write-uncorrectable for the whole IU. -/
def mapUnc : BitVec 40 := 0x9000000000#40
/-- POISON. -/
def mapPoison : BitVec 40 := 0x4000000000#40

/-- A map entry. -/
def mapOf (s : State) (k : Nat) : BitVec 40 := Sparse.read mapNone s.tab.map k

/-- WRITE_SEQ of the version the map names. -/
def seqOf (s : State) (k : Nat) : Nat := Sparse.read 0 s.tab.seqs k

/-- A map entry replaced, with the WRITE_SEQ of its version. -/
def setMap (k : Nat) (e : BitVec 40) (seq : Nat) (s : State) : State :=
  { s with tab.map := Sparse.put mapNone s.tab.map k e, tab.seqs := Sparse.put 0 s.tab.seqs k seq }

/-- A media location (R392). -/
def locOf (die plane block page cw : Nat) : BitVec 40 :=
  BitVec.ofNat 40 (die * 2 ^ 29 + plane * 2 ^ 27 + block * 2 ^ 15 + page * 4 + cw)

/-- SPECIAL. -/
def isSpecial (e : BitVec 40) : Bool := e.getLsbD 39
/-- DIE. -/
def locDie (e : BitVec 40) : Nat := e.toNat / 2 ^ 29 % 512
/-- PLANE. -/
def locPlane (e : BitVec 40) : Nat := e.toNat / 2 ^ 27 % 4
/-- BLOCK. -/
def locBlock (e : BitVec 40) : Nat := e.toNat / 2 ^ 15 % 4096
/-- PAGE. -/
def locPage (e : BitVec 40) : Nat := e.toNat / 4 % 8192
/-- A location without its POISON bit, as the key of what the dies hold. -/
def locKey (e : BitVec 40) : Nat := e.toNat % 2 ^ 38

/-- Channel of a die index (R355). -/
def dieChan (d : Nat) : Nat := d / 16
/-- Die group of a die index (R398). -/
def dieGroup (d : Nat) : Nat := d % 16
/-- The die of a group on a channel. -/
def dieAt (g ch : Nat) : Nat := 16 * ch + g

/-! ## Versions -/

/-- A block that was never written, was deallocated or written with zeroes. -/
def Blk.zero : Blk := { enc := none, data := [], host := [], poison := false }

/-- A logical block of a version. -/
def IuVer.blk (v : IuVer) (i : Nat) : Blk := Sparse.read Blk.zero v.blocks i

/-- Some block of the version is poisoned. -/
def IuVer.poisoned (v : IuVer) : Bool := v.blocks.any fun e => e.2.poison

/-- Poison bit of a block set (R427, R430): its data is stored as zeroes. -/
def Blk.poisoned : Blk := { enc := none, data := [], host := [], poison := true }

/-- The version that the map names on media. -/
def mediaVer (s : State) (k : Nat) : Option IuVer :=
  if isSpecial (mapOf s k) then none
  else match Sparse.look s.media.ius (locKey (mapOf s k)) with
    | some (j, v) => if j = k then some v else none
    | none => none

/-- The cache line of an IU. -/
def lineOf (s : State) (k : Nat) : Option Line := Sparse.look s.ftl.cache k

/-- A cache line set. -/
def setLine (k : Nat) (l : Line) (s : State) : State := { s with ftl.cache := Sparse.set s.ftl.cache k l }

/-- The newest version of an IU in DRAM, cached or waiting for media in write-through and not overtaken; `true` while
blocks of it are not read yet. -/
def dramVer (s : State) (k : Nat) : Option (IuVer × Bool) :=
  let c := (lineOf s k).map fun l => (l.ver, decide (l.state = .merging))
  (s.ftl.wt.filter fun w => decide (w.key = k ∧ seqOf s k < w.ver.seq)).foldl
    (fun a w => match a with
      | some (v, m) => if v.seq < w.ver.seq then some (w.ver, w.merging) else some (v, m)
      | none => some (w.ver, w.merging)) c

/-- Bytes a block moves: data is `lb` bytes and metadata `mb`. Under a key that is no longer the one the command
captured, the bytes are undefined (R206, R208). -/
def blkData (cap : Option (Nat × W32)) (lb : Nat) (b : Blk) : Bytes :=
  padTo lb (match b.enc with
    | none => b.data
    | some g => if cap = some g then b.data else Config.foreignBlock g.2.toNat b.data)

/-! ## Namespaces and IUs -/

/-- Logical blocks in an IU of a namespace. -/
def Ns.perIu (n : Ns) : Nat := iuBlocks n.lbaf n.iu

/-- Bytes of a shadow IU (R396). -/
def shadowBytes : Nat := 16384

/-- Logical blocks whose host metadata one shadow IU holds (R396). -/
def perShadow (n : Ns) : Nat := shadowBytes / max 1 (metaBytes n.lbaf)

/-- Shadow IUs that hold the host metadata of an IU's blocks. -/
def shadowsOf (s : State) (k : Nat) : List Nat :=
  match nsOf s (iuNs k) with
  | none => []
  | some n =>
    if metaBytes n.lbaf = 0 ∨ iuShadow k then []
    else
      let a := iuNum k * n.perIu / perShadow n
      let b := (iuNum k * n.perIu + n.perIu - 1) / perShadow n
      (List.range (b - a + 1)).map fun i => shadowKey (iuKey (iuNs k) (a + i))

/-- Shadow unit and block within it that hold the host metadata of block `i` of an IU (R396). -/
def shadowSlot (n : Ns) (k i : Nat) : Nat × Nat :=
  let lba := iuNum k * n.perIu + i
  (shadowKey (iuKey (iuNs k) (lba / perShadow n)), lba % perShadow n)

/-- Blocks of a unit and bytes of each: logical blocks, or in a shadow unit their host metadata (R391, R396). -/
def unitShape (n : Ns) (k : Nat) : Nat × Nat :=
  if iuShadow k then (perShadow n, metaBytes n.lbaf) else (n.perIu, lbaBytes n.lbaf)

/-- IU bytes of the namespace an IU key belongs to; 16 KiB for a shadow unit and for one that is gone. -/
def keyBytes (s : State) (k : Nat) : Nat :=
  if iuShadow k then shadowBytes
  else match nsOf s (iuNs k) with
    | some n => iuBytes n.iu
    | none => 16384

/-- IU numbers that a range of logical blocks touches. -/
def iusOf (n : Ns) (slba count : Nat) : List Nat :=
  if count = 0 then []
  else (List.range ((slba + count - 1) / n.perIu - slba / n.perIu + 1)).map (· + slba / n.perIu)

/-- Block offsets within IU `u` that a range covers. -/
def coveredBlocks (n : Ns) (slba count u : Nat) : List Nat :=
  (List.range n.perIu).filter fun i => decide (slba ≤ u * n.perIu + i ∧ u * n.perIu + i < slba + count)

/-- A namespace holds a written logical block (R338). -/
def nsHoldsData (s : State) (nsid : Nat) : Bool :=
  (s.tab.map.any fun e => decide (iuNs e.1 = nsid) && !iuShadow e.1) || (s.ftl.cache.any fun e => decide (iuNs e.1 = nsid))
    || (s.ftl.wt.any fun w => decide (iuNs w.key = nsid))

/-- Everything the device holds of a namespace's IUs is released (R344, R390). -/
def dropNsData (nsid : Nat) (s : State) : State :=
  let keep (k : Nat) : Bool := !decide (iuNs k = nsid)
  { s with
    tab.map := s.tab.map.filter fun e => keep e.1,
    tab.seqs := s.tab.seqs.filter fun e => keep e.1,
    ftl.cache := s.ftl.cache.filter fun e => keep e.1,
    ftl.wt := s.ftl.wt.filter fun w => keep w.key,
    ftl.rows := s.ftl.rows.map fun r => { r with items := r.items.filter fun i => keep i.1 } }

/-! ## Dies, groups and bands -/

/-- Volatile state of a die. -/
def dieOf (s : State) (d : Nat) : Die := Sparse.read Die.reset s.flash.dies d
/-- Persistent tables of a die. -/
def dieTab (s : State) (d : Nat) : DieTab := Sparse.read DieTab.reset s.tab.dies d
/-- A die replaced. -/
def setDie (d : Nat) (x : Die) (s : State) : State := { s with flash.dies := Sparse.put Die.reset s.flash.dies d x }
/-- A die's tables replaced. -/
def setDieTab (d : Nat) (x : DieTab) (s : State) : State := { s with tab.dies := Sparse.put DieTab.reset s.tab.dies d x }
/-- A channel. -/
def chanOf (s : State) (c : Nat) : Chan := Sparse.read Chan.reset s.flash.chans c
/-- A channel replaced; a change of STATE is a source (R608). -/
def setChan (c : Nat) (x : Chan) (s : State) : State :=
  evsSetIf (decide ((chanOf s c).state ≠ x.state)) (1152 + c)
    { s with flash.chans := Sparse.put Chan.reset s.flash.chans c x }
/-- A die group. -/
def grpOf (s : State) (g : Nat) : Grp := Sparse.read Grp.reset s.tab.groups g
/-- A die group replaced; a change of state is a source (R608). -/
def setGrp (g : Nat) (x : Grp) (s : State) : State :=
  evsSetIf (decide ((grpOf s g).state ≠ x.state)) (1176 + g)
    { s with tab.groups := Sparse.put Grp.reset s.tab.groups g x }
/-- The groups in use (R434). -/
def groupsInUse (s : State) : List Nat := (List.range 16).filter fun g => decide ((grpOf s g).state ≠ .unused)
/-- The dump groups (R68). -/
def dumpGroups (s : State) : List Nat := (groupsInUse s).take 4
/-- A group is Rebuilding. -/
def anyRebuilding (s : State) : Bool := (List.range 16).any fun g => decide ((grpOf s g).state = .rebuilding)

/-- Channels whose position in a group is not Failed (R435). -/
def goodChans (s : State) (g : Nat) : List Nat :=
  (List.range 24).filter fun c => !((grpOf s g).failed.getLsbD c)

/-- A band. -/
def bandOf (s : State) (b : Nat) : Option Band := Sparse.look s.tab.bands b
/-- A band replaced. -/
def setBand (b : Nat) (x : Band) (s : State) : State := { s with tab.bands := Sparse.set s.tab.bands b x }
/-- Bands of a group. -/
def groupBands (s : State) (g : Nat) : List (Nat × Band) := s.tab.bands.filter fun e => decide (e.2.group = g)
/-- The open band of a group in a generation (R400). -/
def openBand (s : State) (g gen : Nat) : Option (Nat × Band) :=
  (groupBands s g).find? fun e => decide (e.2.gen = gen) && !e.2.closed

/-- The band a location lies in. -/
def bandAt (s : State) (e : BitVec 40) : Option (Nat × Band) :=
  (groupBands s (dieGroup (locDie e))).find? fun x =>
    match Sparse.look x.2.sets (dieChan (locDie e)) with
    | some bs => decide (bs[locPlane e]? = some (locBlock e))
    | none => false

/-- A block is factory-marked or grown bad (R379, R381). -/
def blockBad (t : DieTab) (p b : Nat) : Bool := t.factory.contains (p, b) || t.grown.contains (p, b)

/-- Good blocks of a plane. -/
def goodBlocks (t : DieTab) (p : Nat) : Nat :=
  t.blocks - ((t.factory.filter fun e => decide (e.1 = p)).length
    + (t.grown.filter fun e => decide (e.1 = p) && !t.factory.contains e).length)

/-- Smallest element; `d` for none. -/
def listMin (d : Nat) (l : List Nat) : Nat := l.foldl min d

/-- Block sets of a die: its plane with the fewest good blocks decides (R398). -/
def dieSets (t : DieTab) : Nat := listMin 4096 ((List.range t.planes).map (goodBlocks t))

/-- Block sets per die that every good position of a group has. -/
def groupSets (s : State) (g : Nat) : Nat :=
  listMin 4096 ((goodChans s g).map fun c => dieSets (dieTab s (dieAt g c)))

/-- Block sets the dump area takes on each die of a group (R507). -/
def dumpSets (s : State) (g : Nat) : Nat := if (dumpGroups s).contains g then 2 else 0

/-- Free bands of a group: block sets that neither a band nor the dump area uses (log 27). -/
def freeBands (s : State) (g : Nat) : Nat := groupSets s g - (groupBands s g).length - dumpSets s g

/-- SLC block sets in use on each die of a group: its G0 bands and the dump area (R407, R507). -/
def slcUsed (s : State) (g : Nat) : Nat :=
  ((groupBands s g).filter fun e => decide (e.2.gen = 0)).length + dumpSets s g

/-- SLC allowance of a die (R407). -/
def slcAllowance (pct sets : Nat) : Nat := (pct * sets + 199) / 200

/-- SLC occupancy in percent of the allowance: the highest over all dies (R408); rounded down (log 28). -/
def slcOccupancy (s : State) : Nat :=
  listMax ((groupsInUse s).map fun g =>
    min 100 (slcUsed s g * 100 / max 1 (slcAllowance s.ftl.pct (groupSets s g))))

/-- Planes that every position of a band has. -/
def bandPlanes (s : State) (b : Band) : Nat := max 1 (listMin 4 (b.chans.map fun c => (dieTab s (dieAt b.group c)).planes))

/-- Pages per block of a band's mode: in SLC a third of the native pages, as the worked examples' 96 MiB and 32 MiB
block sets have it (PRESUMED, log 29). -/
def bandPages (s : State) (b : Band) : Nat :=
  let n := listMin 8192 (b.chans.map fun c => (dieTab s (dieAt b.group c)).pages)
  if b.gen = 0 then n / 3 else n

/-- Position of P in row `r` of a band of `n` positions (R436). -/
def pIndex (n r : Nat) : Nat := (n - 1) - r % n

/-- Data positions of a row: channels in ascending order without P and Q (R436). -/
def dataChans (b : Band) (r : Nat) : List Nat :=
  let p := pIndex b.chans.length r
  let q := (p + 1) % b.chans.length
  (List.range b.chans.length).filterMap fun i => if i = p ∨ i = q then none else b.chans[i]?

/-! ## Stored bytes and stripes (R33, R391, R438, R440) -/

/-- A block's data bytes as stored, a tail of zeroes left out: ciphertext under the key that encrypted it (R33, R542). -/
def storedBytes (s : State) (lb lba : Nat) (b : Blk) : Bytes :=
  (match b.enc with
    | none => b.data
    | some (i, g) =>
      match (keySlot s i).key with
      | some k => if (keySlot s i).gen = g then Config.xtsBlock k lba (padTo lb b.data) else Config.foreignBlock g.toNat b.data
      | none => Config.foreignBlock g.toNat b.data).take lb

/-- A block's data as stored. -/
def storedBlock (s : State) (lb lba : Nat) (b : Blk) : Bytes := padTo lb (storedBytes s lb lba b)

/-- POISON of codeword `cw` of a unit: the sectors of 512 bytes in which a poisoned block starts (R394). -/
def cwPoison (n : Ns) (k cw : Nat) (v : IuVer) : Nat :=
  let b := (unitShape n k).2
  listSum ((List.range 8).map fun j =>
    if (List.range (4096 / b)).any fun i => decide (i * b / 512 = j) && (v.blk (cw * (4096 / b) + i)).poison then 2 ^ j else 0)

/-- The 4,096 data bytes of codeword `cw` of a unit. -/
def cwData (s : State) (n : Ns) (k cw : Nat) (v : IuVer) : Bytes :=
  let (per, b) := unitShape n k
  (List.range (4096 / b)).flatMap fun i =>
    let j := cw * (4096 / b) + i
    storedBlock s b (iuNum k * per + j) (v.blk j)

/-- Metadata bytes 0x00 to 0x1B of codeword `cw` of a unit in a band of generation `gen` (R394, R396, R399). NS_INDEX is the
namespace identifier less 1 (log 154). -/
def cwMetaBody (n : Ns) (k gen cw : Nat) (v : IuVer) : Bytes :=
  let (per, b) := unitShape n k
  le16 (iuNs k - 1) ++ leBytes 1 (2 * gen + if iuShadow k then 1 else 0) ++ leBytes 1 (cwPoison n k cw v)
    ++ le64 (iuNum k * per + cw * (4096 / b)) ++ le64 v.seq ++ leBytes 1 cw ++ padTo 7 []

/-- The 32 metadata bytes of a codeword, the CRC over its data bytes and the 28 before it (R394). -/
def cwMeta (s : State) (n : Ns) (k gen cw : Nat) (v : IuVer) : Bytes :=
  let b := cwMetaBody n k gen cw v
  b ++ le32 (crc32c (cwData s n k cw v ++ b)).toNat

/-- The codewords of a unit placed in a position from codeword slot `j` on: 4,096 data bytes and 32 of metadata each (R375,
R391, R394). -/
def placeUnit (s : State) (gen k j : Nat) (v : IuVer) (t : Sparse Byte) : Sparse Byte :=
  match nsOf s (iuNs k) with
  | none => t
  | some n =>
    let (per, b) := unitShape n k
    let t := v.blocks.foldl (fun t e =>
      Sparse.putBytes 0 t (4128 * (j + e.1 * b / 4096) + e.1 * b % 4096) (storedBytes s b (iuNum k * per + e.1) e.2)) t
    (List.range (keyBytes s k / 4096)).foldl (fun t cw =>
      Sparse.putBytes 0 t (4128 * (j + cw) + 4096) (cwMeta s n k gen cw v)) t

/-- What a row's items put on a channel's position: four codewords in each plane (R375, R391). -/
def dataPage (s : State) (gen : Nat) (items : List (Nat × BitVec 40 × IuVer)) (ch : Nat) : Sparse Byte :=
  (items.filter fun i => decide (dieChan (locDie i.2.1) = ch)).foldl
    (fun t i => placeUnit s gen i.1 (4 * locPlane i.2.1 + i.2.1.toNat % 4) i.2.2 t) []

/-- The channels of P and Q in a row (R436). -/
def parityChans (b : Band) (r : Nat) : Nat × Nat :=
  let p := pIndex b.chans.length r
  (b.chans.getD p 0, b.chans.getD ((p + 1) % b.chans.length) 0)

/-- Pages with their data indices. -/
def indexed (l : List (Sparse Byte)) : List (Nat × Sparse Byte) := (List.range l.length).zip l

/-- Every position of a row, by channel: the data, and P and Q over it (R438, R439). -/
def rowPages (s : State) (b : Band) (r : Nat) (items : List (Nat × BitVec 40 × IuVer)) : Sparse (Sparse Byte) :=
  let chs := dataChans b r
  let data := chs.map (dataPage s b.gen items)
  let t := (chs.zip data).foldl (fun t e => Sparse.set t e.1 e.2) []
  Sparse.set (Sparse.set t (parityChans b r).1 (pPage (indexed data))) (parityChans b r).2 (qPage (indexed data))

/-- Key of a row among the committed ones. -/
def stripeKey (b r : Nat) : Nat := b * 8192 + r

/-- The recovery of a channel's position of a committed row gives what was programmed there (R438, R440). `lost` are the
channels that are lost; an unlisted row has nothing to recover from. -/
def stripeRecovers (s : State) (b : Nat) (x : Band) (r ch : Nat) (lost : List Nat) : Bool :=
  match Sparse.look s.media.stripes (stripeKey b r) with
  | none => false
  | some t =>
    let chs := dataChans x r
    let page (c : Nat) : Sparse Byte := (Sparse.look t c).getD []
    let alive (c : Nat) : Option (Sparse Byte) := if lost.contains c then none else some (page c)
    let idx := (List.range chs.length).zip chs
    let gone := (idx.filter fun e => lost.contains e.2).map (·.1)
    let live := (idx.filter fun e => !lost.contains e.2).map fun e => (e.1, page e.2)
    match firstIdx (fun c => decide (c = ch)) chs with
    | none => false
    | some i => decide (recoverPage i gone live (alive (parityChans x r).1) (alive (parityChans x r).2) = some (page ch))

/-! ## Reading media (R376, R440) -/

/-- A media answer in which nothing fails. -/
def MediaEnv.clean : MediaEnv := { lostDies := [], badCws := [], answering := [], level := 0, corrected := 0, cacheBad := [] }

/-- The unit of a die is lost for a command: the die is not Online or Suspect, its channel is in a forced retrain or
failed, or it fails levels 0 to 9 (R440). -/
def unitLost (s : State) (env : MediaEnv) (d : Nat) : Bool :=
  env.lostDies.contains d
    || !(decide ((dieOf s d).state = .online) || decide ((dieOf s d).state = .suspect))
    || decide ((chanOf s (dieChan d)).state = .retraining)
    || decide ((chanOf s (dieChan d)).state = .failed)

/-- How the read of a location ends: 0 decoded on its die, 1 reconstructed from the other units of its row, 2 failed at
level 10. Salvage Read may also use Failed dies that answer (R452). -/
def readUnit (s : State) (env : MediaEnv) (e : BitVec 40) : Nat :=
  let lost (d : Nat) : Bool := unitLost s env d && !env.answering.contains d
  if !lost (locDie e) then 0
  else match bandAt s e with
    | none => 2
    | some (i, b) =>
      let gone := b.chans.filter fun c => lost (dieAt b.group c)
      if decide (gone.length ≤ 2) && stripeRecovers s i b (locPage e) (dieChan (locDie e)) gone then 1 else 2

/-- Block offsets of an IU that cannot be read at any level: all of them where its unit is lost, else those in codewords
that fail. -/
def badBlocks (s : State) (env : MediaEnv) (k : Nat) (e : BitVec 40) : List Nat :=
  match nsOf s (iuNs k) with
  | none => []
  | some n =>
    (List.range (unitShape n k).1).filter fun i =>
      decide (readUnit s env e = 2) || env.badCws.contains (k, i * (unitShape n k).2 / 4096)

/-- The host metadata of a block on media: in its shadow unit (R396). -/
def mediaHost (s : State) (n : Ns) (k i : Nat) : Bytes :=
  match mediaVer s (shadowSlot n k i).1 with
  | some v => (v.blk (shadowSlot n k i).2).data
  | none => []

/-- The version that the map names on media, its blocks with their host metadata (R396). -/
def mediaFull (s : State) (k : Nat) : Option IuVer :=
  (mediaVer s k).map fun v => match nsOf s (iuNs k) with
    | none => v
    | some n =>
      if (shadowsOf s k).isEmpty then v
      else { v with blocks := v.blocks.map fun e => (e.1, { e.2 with host := mediaHost s n k e.1 }) }

/-- The host metadata of a block cannot be read: its shadow unit is lost, in codewords that fail, or poisoned there. -/
def badHost (s : State) (env : MediaEnv) (n : Ns) (k i : Nat) : Bool :=
  let sk := (shadowSlot n k i).1
  !(shadowsOf s k).isEmpty && (s.hold.lostKeys.contains sk || (!isSpecial (mapOf s sk)
    && ((badBlocks s env sk (mapOf s sk)).contains (shadowSlot n k i).2 || (match mediaVer s sk with
      | some v => (v.blk (shadowSlot n k i).2).poison
      | none => false))))

/-- Block offsets of a unit whose data or host metadata cannot be read at any level. -/
def unreadable (s : State) (env : MediaEnv) (k : Nat) (e : BitVec 40) : List Nat :=
  badBlocks s env k e ++ (match nsOf s (iuNs k) with
    | some n => (List.range n.perIu).filter (badHost s env n k)
    | none => [])

/-- The DEGRADED_READS counters rise for a read served under R440, and the channel's own for a forced retrain (R365,
R456, R458). -/
def countDegraded (e : BitVec 40) (s : State) : State :=
  let c := dieChan (locDie e)
  let s := { s with ftl.degraded := satAdd s.ftl.degraded 1, ftl.degradedTotal := satAdd s.ftl.degradedTotal 1,
                    ftl.reconstructed := satAdd s.ftl.reconstructed 1 }
  if (chanOf s c).state = .retraining then
    setChan c { chanOf s c with degraded := satAdd (chanOf s c).degraded 1 } s
  else s

/-! ## The cache and dirty data (R401, R508, R509) -/

/-- A packed copy whose line has taken a newer version since: it still counts in D until its row commits. -/
def loosePacked (s : State) : List Nat :=
  s.ftl.rows.flatMap fun r =>
    if r.done ∨ r.src.isSome then []
    else r.items.filterMap fun i =>
      if s.ftl.wt.any fun w => decide (w.key = i.1 ∧ w.ver.seq = i.2.2.seq) then none
      else match lineOf s i.1 with
        | some l => if l.ver.seq = i.2.2.seq then none else some i.1
        | none => none

/-- D in bytes: every cache IU in Dirty, Merging or Packing, in whole IUs (R509). -/
def dirtyBytes (s : State) : Nat :=
  listSum (s.ftl.cache.map fun e => keyBytes s e.1) + listSum ((loosePacked s).map (keyBytes s))

/-- DIRTY_MIB: D rounded up (R532). -/
def dirtyMib (s : State) : Nat := (dirtyBytes s + 2 ^ 20 - 1) / 2 ^ 20

/-- The published dirty-data limit L in MiB (R487, R508); none while the charger is Off, NoBank, Fault or Flush, ARMREF is
lost, or the dump area holds a dump. -/
def limitMib (s : State) : Nat :=
  if s.hold.chg = .off ∨ s.hold.chg = .noBank ∨ s.hold.chg = .fault ∨ s.hold.chg = .flush then 0
  else if !s.pwr.armrefOk || s.hold.dump.isSome then 0
  else min (s.arm.heldLimit.getD s.arm.eLimit) (min s.arm.eLimit (s.hold.dumpCapMib - 256))

/-- WT_FORCED changes (source 5): raised by operations that move L between 0 and above, given L before. -/
def noteLimit (old : Nat) (s : State) : State :=
  evsSetIf (decide ((old = 0) ≠ (limitMib s = 0))) 5 s

/-- IUs whose newest version is poisoned: POISONED_IUS (R433, log 30). -/
def poisonedIus (s : State) : Nat :=
  (s.ftl.cache.filter fun e => e.2.ver.poisoned).length
    + (s.tab.map.filter fun e => !isSpecial e.2 && e.2.getLsbD 38 && (lineOf s e.1).isNone).length

/-- An IU dirtied for the export sessions and chains that track it (R539 to R541). -/
def dirtyIu (k : Nat) (s : State) : State :=
  { s with
    mqt.sess := mapWhere (fun x => !x.imp && x.nss.contains (iuNs k)) (fun x => { x with dirty := insertNew k x.dirty })
      s.mqt.sess,
    mqt.chains := mapWhere (fun x => match nsOf s (iuNs k) with
      | some n => n.attached.contains x.unit
      | none => false) (fun x => { x with dirty := insertNew k x.dirty }) s.mqt.chains }

/-- WRITE_SEQ advances (R395). -/
def nextSeq (s : State) : State := { s with tab.writeSeq := s.tab.writeSeq + 1 }

/-- The map delta buffer holds a record that no committed segment has (R520). -/
def markDelta (s : State) : State := { s with hold.dirtyDelta := true }

/-- A whole IU becomes a special value at once: deallocated or write-uncorrectable (R406, R430, R395). -/
def specialIu (k : Nat) (e : BitVec 40) (s : State) : State :=
  let s := nextSeq s
  markDelta (dirtyIu k (setMap k e s.tab.writeSeq { s with
    ftl.cache := Sparse.erase s.ftl.cache k,
    hold.lostKeys := s.hold.lostKeys.filter fun j => !decide (j = k) }))

end Sys2Proof.Machine
end

