-- ==== Sys2Proof/Machine/Sessions.lean ====
section
/-! DEFINITION. How Maquette sessions end outside their own commands (R534 to R536, R541, R558, R562, R564): at resets of
their functions, and when an import is discarded. -/
namespace Sys2Proof.Machine

/-- Session number of a staged tenant whose session a reset ended: no command names it (log 31). -/
def mqDetached : Nat := 255

/-- Event 0x0050 with a step code, the tenant's UNIT and, where one exists, the manifest digest (R247, log 32). -/
def mqEvent (step unit : Nat) (digest : Digest) (s : State) : State :=
  eventWith 0x0050 step unit (digestBytes digest) s

/-- Session `id` changes state (source 256 + id). -/
def mqChanged (id : Nat) (s : State) : State := evsSetIf (decide (id < 8)) (256 + id) s

/-- The tenant of a session. -/
def MqSess.tenant (x : MqSess) : Func := ⟨x.pf, x.vf⟩

/-- A session replaced. -/
def setSess (x : MqSess) (s : State) : State :=
  { s with mqt.sess := mapWhere (fun y => decide (y.id = x.id ∧ y.pf = x.pf ∧ y.vf = x.vf)) (fun _ => x) s.mqt.sess }

/-- A session removed. -/
def dropSess (x : MqSess) (s : State) : State :=
  mqChanged x.id { s with mqt.sess := s.mqt.sess.filter fun y => !decide (y.id = x.id ∧ y.pf = x.pf ∧ y.vf = x.vf) }

/-- A namespace goes, with its key binding and everything held of it (R339, R344). -/
def removeNs (nsid : Nat) (s : State) : State :=
  ustChange (nsUnit nsid) (markDelta (dropNsData nsid { s with tab.nss := Sparse.erase s.tab.nss nsid }))

/-- A slot that an import loaded is erased (R208, R558). -/
def eraseSlotOf (i : Nat) (s : State) : State :=
  let k := keySlot s i
  storeKeys .maquette i k (setKey i { gen := nextGen k.gen, key := none, old := none } s)

/-- A staged or receiving tenant is discarded whole (R558): hidden namespaces deleted, loaded slots erased, chain
ended. -/
def discardImport (x : MqSess) (s : State) : State :=
  let s := x.nss.foldl (fun s n => removeNs n s) s
  dropSess x (x.slots.foldl (fun s i => eraseSlotOf i s) s)

/-- A tenant is Frozen no more; its recorded doorbells are forgotten. -/
def unfreeze (f : Func) (s : State) : State :=
  ustChange (unitOf f) (modFn f (fun x => { x with frozen := false })
    { s with mqt.tails := s.mqt.tails.filter fun e => !decide (e.1 = unitOf f) })

/-- A reset of the tenant or its PF ends one session (R535, R558, R564). -/
def resetSession (x : MqSess) (s : State) : State :=
  if !x.imp then
    let s := if (fnOf s x.tenant).frozen then unfreeze x.tenant s else s
    mqEvent 9 (unitOf x.tenant) 0 (dropSess x s)
  else if x.state = .staged then
    if x.id = mqDetached then s
    else
      let l := mapWhere (fun y => decide (y = x)) (fun y => { y with id := mqDetached }) s.mqt.sess
      mqEvent 9 (unitOf x.tenant) 0 (mqChanged x.id { s with mqt.sess := l })
  else mqEvent 9 (unitOf x.tenant) 0 (discardImport x s)

/-- Every session and every tracked chain of the functions that a reset covers ends (R535, R541, R564). -/
def resetSessions (p : Func → Bool) (s : State) : State :=
  let s := (s.mqt.sess.filter fun x => p x.tenant).foldl (fun s x => resetSession x s) s
  { s with mqt.chains := s.mqt.chains.filter fun c => !p (funcOfUnit c.unit) }

/-- Imports that are Receiving when the array goes Offline end (R562). -/
def offlineImports (s : State) : State :=
  (s.mqt.sess.filter fun x => x.imp && decide (x.state = .receiving)).foldl
    (fun s x => mqEvent 8 (unitOf x.tenant) 0 (discardImport x s)) s

end Sys2Proof.Machine
end

