-- ==== Sys2Proof/Machine/Bands.lean ====
section
/-! DEFINITION. Bands and stripe rows (R398 to R416, R421, R422, R434 to R442): opening and freeing bands, packing rows,
relocating a band, committing a row, refresh candidates, and the Read-only state. -/
namespace Sys2Proof.Machine

/-! ## Die queues (R367 to R370) -/

/-- An operation joins a die's queue of 32, or waits in DRAM behind it. -/
def Die.push (x : Die) (o : DieOp) : Die :=
  if x.queue.length < 32 then { x with queue := x.queue ++ [o] } else { x with overflow := x.overflow ++ [o] }

/-- An operation is queued on a die that can take operations. -/
def queueOp (d : Nat) (o : DieOp) (s : State) : State :=
  if (dieOf s d).state = .online ∨ (dieOf s d).state = .suspect then setDie d ((dieOf s d).push o) s else s

/-- Tokens of a program on one die (R474). -/
def programCost (gen planes : Nat) : Nat := if gen = 0 then planes else 3 * planes

/-! ## Spares and Read-only (R421 to R424, R448) -/

/-- ARRAY_STATE (R446, R456): 0 Normal, 1 Rebuilding, 2 Read-only, 3 Offline. -/
def arrayState (s : State) : Nat :=
  if s.tab.offline then 3 else if s.tab.readOnly then 2 else if anyRebuilding s then 1 else 0

/-- SPARE_g: the lowest, over the good positions, of good block sets not in SLC mode, minus NEED_g. -/
def spareOf (s : State) (g : Nat) : Int := (groupSets s g : Int) - slcUsed s g - (grpOf s g).need

/-- ceil(NATIVE_g × permille / 1,000). -/
def reserveOf (s : State) (g permille : Nat) : Int := (((grpOf s g).native * permille + 999) / 1000 : Nat)

/-- UNIT of the array in the Unit State Table (R581). -/
def arrayUnit : Nat := 0

/-- The device enters Read-only (R422): critical warning bit 3, event code 17, source 1224. -/
def enterReadOnly (g : Nat) (s : State) : State :=
  if s.tab.readOnly then s
  else event 0x0040 17 g (hscMark 12 (evsSet 1224 (ustChange arrayUnit (markDelta { s with tab.readOnly := true }))))

/-- Read-only is entered once some group's spares fall below the reserve; the lower group is named. -/
def spareCheck (s : State) : State :=
  match (groupsInUse s).find? fun g => decide (spareOf s g < reserveOf s g 5) with
  | some g => enterReadOnly g s
  | none => s

/-! ## Opening, closing and freeing bands -/

/-- Erase operations of a die that are not done: queued, running or suspended. -/
def Die.eraseOps (x : Die) : List DieOp :=
  ((x.run.toList ++ x.susp.toList).map (·.op) ++ x.queue ++ x.overflow).filter fun o => decide (o.cls = .erase)

/-- Block sets of a die that wait for their erase, those marked by a power fail among them (R385). -/
def eraseWaits (s : State) (d : Nat) : List (List Nat) :=
  (dieOf s d).eraseOps.map (·.blocks) ++ (dieTab s d).reErase.map (·.2)

/-- Blocks of a plane of a die that bands of its group use, or that are not erased yet. -/
def usedBlocks (s : State) (g ch p : Nat) : List Nat :=
  ((groupBands s g).filterMap fun e => match Sparse.look e.2.sets ch with
    | some bs => bs[p]?
    | none => none) ++ (eraseWaits s (dieAt g ch)).filterMap fun bs => bs[p]?

/-- Erase count of a block (R417). -/
def eraseCount (t : DieTab) (p b : Nat) : Nat := Sparse.read 0 t.erases (p * 4096 + b)

/-- The free good block of a plane with the lowest erase count, then the lowest index (R415). -/
def pickBlock (s : State) (g ch p : Nat) : Option Nat :=
  let t := dieTab s (dieAt g ch)
  let used := usedBlocks s g ch p
  (List.range t.blocks).foldl (fun a b =>
    if blockBad t p b || used.contains b then a
    else match a with
      | none => some b
      | some c => if eraseCount t p b < eraseCount t p c then some b else some c) none

/-- One block from each plane of a die. -/
def pickSet (s : State) (g ch : Nat) : Option (List Nat) :=
  (List.range (dieTab s (dieAt g ch)).planes).mapM fun p => pickBlock s g ch p

/-- The block sets of a new band, by channel. -/
def pickSets (s : State) (g : Nat) : Option (Sparse (List Nat)) :=
  (goodChans s g).mapM fun c => (pickSet s g c).map fun bs => (c, bs)

/-- Lowest band number not in use in a group. -/
def freeIndex (s : State) (g : Nat) : Nat :=
  ((List.range 4096).find? fun i => (bandOf s (bandKey g i)).isNone).getD 4096

/-- A group reaches 2 free bands: event code 20, its source, and host-originated native programs stop (R414). -/
def noteFree (g : Nat) (s : State) : State :=
  if freeBands s g ≤ 2 then
    if s.ftl.nativeStop.contains g then s
    else event 0x0040 20 g (evsSet (1192 + g) { s with ftl.nativeStop := s.ftl.nativeStop ++ [g] })
  else if 4 ≤ freeBands s g then { s with ftl.nativeStop := s.ftl.nativeStop.filter fun h => !decide (h = g) }
  else s

/-- Opens a band at the group's present N (R400, R415, R435). -/
def newBand (g gen : Nat) (s : State) : Option (Nat × State) :=
  if freeBands s g = 0 then none
  else match pickSets s g with
    | none => none
    | some sets =>
      let i := bandKey g (freeIndex s g)
      let b : Band := { group := g, gen := gen, chans := goodChans s g, sets := sets, rows := 0, closed := false,
                        order := 0, drain := false }
      some (i, spareCheck (noteFree g (markDelta (setBand i b s))))

/-- The open band of a generation, opened where there is none. -/
def bandFor (g gen : Nat) (s : State) : Option (Nat × State) :=
  match openBand s g gen with
  | some e => some (e.1, s)
  | none => newBand g gen s

/-- A band closes; bands keep the order in which they closed. -/
def closeBand (b : Nat) (s : State) : State :=
  match bandOf s b with
  | none => s
  | some x =>
    if x.closed then s
    else markDelta { setBand b { x with closed := true, order := s.tab.closeNo } s with tab.closeNo := s.tab.closeNo + 1 }

/-- An erase of a block set of a band. -/
def eraseOp (b : Nat) (blocks : List Nat) : DieOp := { cls := .erase, band := b, page := 0, cost := 8, blocks := blocks }

/-- The rows of a band are gone from the dies. -/
def dropStripes (b : Nat) (s : State) : State :=
  { s with media.stripes := Sparse.clear s.media.stripes (stripeKey b 0) (stripeKey (b + 1) 0) }

/-- A freed band's blocks are queued for erase and each counts one more erase (R407, R417). -/
def eraseBand (b : Nat) (x : Band) (s : State) : State :=
  x.sets.foldl (fun s e =>
    let d := dieAt x.group e.1
    let t := dieTab s d
    let keys := (List.range e.2.length).map fun p => p * 4096 + e.2.getD p 0
    let er := keys.foldl (fun m k => Sparse.put 0 m k (Sparse.read 0 m k + 1)) t.erases
    queueOp d (eraseOp b e.2) (setDieTab d { t with erases := er } s)) (dropStripes b s)

/-- A band is freed (R410, R412, R447). -/
def freeBand (b : Nat) (s : State) : State :=
  match bandOf s b with
  | none => s
  | some x =>
    let s := eraseBand b x { s with tab.bands := Sparse.erase s.tab.bands b,
                                    hold.sync.bands := s.hold.sync.bands.filter fun y => !decide (y.band = b),
                                    ftl.refresh := s.ftl.refresh.filter fun k => !decide (k % 2 ^ 32 = b) }
    noteFree x.group (markDelta s)

/-- IUs whose map entry names a location in a band. -/
def validIus (s : State) (b : Nat) : List (Nat × BitVec 40) :=
  s.tab.map.filter fun e => !isSpecial e.2 && (match bandAt s e.2 with
    | some x => decide (x.1 = b)
    | none => false)

/-- A row that a running resynchronisation covers (R444). -/
def syncCovers (s : State) (b r : Nat) : Bool :=
  s.ftl.resync && s.hold.sync.bands.any fun y => decide (y.band = b ∧ y.first ≤ r ∧ r < y.stop)

/-- A location in a row that is not yet resynchronised. -/
def unsynced (s : State) (e : BitVec 40) : Bool :=
  !isSpecial e && (match bandAt s e with
    | some x => syncCovers s x.1 (locPage e)
    | none => false)

/-! ## Packing rows (R401, R435, R436, R439, R442) -/

/-- Codewords of an IU of a namespace (R391). -/
def iuCodewords (s : State) (k : Nat) : Nat := keyBytes s k / 4096

/-- Location of codeword slot `i` of a row: data position, plane, codeword. -/
def slotLoc (s : State) (x : Band) (r i : Nat) : BitVec 40 :=
  let pl := bandPlanes s x
  let ch := (dataChans x r).getD (i / (pl * 4)) 0
  let p := i / 4 % pl
  locOf (dieAt x.group ch) p (((Sparse.look x.sets ch).getD []).getD p 0) r (i % 4)

/-- Codeword slots of data in a row. -/
def rowSlots (s : State) (x : Band) : Nat := (x.chans.length - 2) * bandPlanes s x * 4

/-- Items placed in a row from slot `i` on, and those that do not fit. A unit wider than one position's page set takes
the whole position (log 36). -/
def placeItems (s : State) (x : Band) (r : Nat) : Nat → List (Nat × IuVer) →
    List (Nat × BitVec 40 × IuVer) × List (Nat × IuVer)
  | _, [] => ([], [])
  | i, (k, v) :: rest =>
    let n := min (iuCodewords s k) (bandPlanes s x * 4)
    let j := (i + n - 1) / n * n
    if rowSlots s x < j + n then ([], (k, v) :: rest)
    else
      let (a, b) := placeItems s x r (j + n) rest
      ((k, slotLoc s x r j, v) :: a, b)

/-! ### Host metadata (R396) -/

/-- What a shadow unit on media holds; what is lost or cannot be read stays poisoned. -/
def shadowBase (s : State) (n : Ns) (k : Nat) : Sparse Blk :=
  let poison (l : List Nat) (m : Sparse Blk) : Sparse Blk := l.foldl (fun m i => Sparse.set m i Blk.poisoned) m
  if s.hold.lostKeys.contains k then poison (List.range (perShadow n)) []
  else match mediaVer s k with
    | some v => poison (badBlocks s MediaEnv.clean k (mapOf s k)) v.blocks
    | none => []

/-- The host metadata of a unit's blocks placed in one of its shadow units. -/
def putHosts (n : Ns) (sk : Nat) (i : Nat × IuVer) (m : Sparse Blk) : Sparse Blk :=
  (List.range n.perIu).foldl (fun m j =>
    let p := shadowSlot n i.1 j
    if p.1 = sk then Sparse.put Blk.zero m p.2 { Blk.zero with data := (i.2.blk j).host } else m) m

/-- The shadow units that a row of host items carries with them (R396): what media holds, with the host metadata of the
items that are newer than the map. Each takes a WRITE_SEQ of its own (log 94). -/
def shadowItems (s : State) (items : List (Nat × IuVer)) : List (Nat × IuVer) :=
  let fresh := items.filter fun i => decide (seqOf s i.1 < i.2.seq)
  let keys := (items.flatMap fun i => shadowsOf s i.1).eraseDups
  (List.range keys.length).filterMap fun j =>
    let sk := keys.getD j 0
    let mine := fresh.filter fun i => decide (iuNs i.1 = iuNs sk)
    (nsOf s (iuNs sk)).map fun n =>
      (sk, { seq := s.tab.writeSeq + 1 + j, blocks := mine.foldl (fun m i => putHosts n sk i m) (shadowBase s n sk) })

/-- A version as it is stored: its host metadata stand in the shadow unit. -/
def withoutHosts (s : State) (i : Nat × IuVer) : Nat × IuVer :=
  if (shadowsOf s i.1).isEmpty then i
  else (i.1, { i.2 with blocks := i.2.blocks.map fun e => (e.1, { e.2 with host := [] }) })

/-- Host items placed in a row, as many as fit with the shadow units of their host metadata, and those left. -/
def placeHost (s : State) (x : Band) (r : Nat) (items : List (Nat × IuVer)) :
    List (Nat × BitVec 40 × IuVer) × List (Nat × IuVer) :=
  let row (n : Nat) := placeItems s x r 0 ((items.take n).map (withoutHosts s) ++ shadowItems s (items.take n))
  match (List.range (items.length + 1)).reverse.find? fun n => (row n).2.isEmpty with
  | some n => ((row n).1, items.drop n)
  | none => ([], items)

/-- Items placed in a row: copies of a band's as they are, host data with their host metadata. -/
def placeRow (src : Option Nat) (s : State) (x : Band) (r : Nat) (items : List (Nat × IuVer)) :
    List (Nat × BitVec 40 × IuVer) × List (Nat × IuVer) :=
  if src.isNone then placeHost s x r items else placeItems s x r 0 items

/-- Shadow units that a row of host data writes anew. -/
def newShadows (src : Option Nat) (placed : List (Nat × BitVec 40 × IuVer)) : Nat :=
  if src.isNone then (placed.filter fun i => iuShadow i.1).length else 0

/-- Open entries of the parity journal (R442). -/
def journalEntries (s : State) : Nat := s.ftl.rows.length

/-- A row of a band is packed with items: P and Q are computed, its journal entry is committed and its programs queued on
every position (R438, R439, R442). Answers the items that did not fit; `none` where no band or no journal entry is free. -/
def packRow (g gen : Nat) (src : Option Nat) (kind : ProgSrc) (items : List (Nat × IuVer)) (s : State) :
    Option (State × List (Nat × IuVer)) :=
  if 1024 ≤ journalEntries s then none
  else match bandFor g gen s with
    | none => none
    | some (b, s) =>
      match bandOf s b with
      | none => none
      | some x =>
        let r := x.rows
        let (placed, rest) := placeRow src s x r items
        let pair := if gen = 0 ∨ r = 0 then none else some ((draw 16 s).toNat % r)
        let row : Row := { group := g, band := b, row := r, items := placed, src := src, programmed := 0,
                           committed := 0, paired := pair, pages := rowPages s x r placed, done := false }
        let s := if pair.isSome then drawn 1 s else s
        let s := setBand b { x with rows := r + 1 } { s with
          ftl.rows := s.ftl.rows ++ [row], tab.writeSeq := s.tab.writeSeq + newShadows src placed }
        let s := if bandPages s x ≤ r + 1 then closeBand b s else s
        let o : DieOp := { cls := .program, band := b, page := r, cost := programCost gen (bandPlanes s x), src := kind }
        some (x.chans.foldl (fun s c => queueOp (dieAt g c) o s) s, rest)

/-- Items packed in as many rows as they need. -/
def packAll (g gen : Nat) (src : Option Nat) (kind : ProgSrc) : Nat → List (Nat × IuVer) → State → State
  | 0, _, s => s
  | _, [], s => s
  | n + 1, items, s =>
    match packRow g gen src kind items s with
    | some (s', rest) => if rest.length < items.length then packAll g gen src kind n rest s' else s'
    | none => { s with ftl.journalWaits := if 1024 ≤ journalEntries s then satAdd s.ftl.journalWaits 1
                                           else s.ftl.journalWaits }

/-- The copy of a version that a relocation writes: what cannot be read at any level travels poisoned (log 35). -/
def relocCopy (s : State) (env : MediaEnv) (k : Nat) (e : BitVec 40) (v : IuVer) : IuVer :=
  let bad := badBlocks s env k e
  { v with blocks := bad.foldl (fun m i => Sparse.set m i Blk.poisoned) v.blocks }

/-- Programs of a band's own rows are still running. -/
def bandBusy (s : State) (b : Nat) : Bool := s.ftl.rows.any fun r => decide (r.band = b) && !r.done

/-- Valid IUs of a band that no running copy row carries yet. -/
def movesLeft (s : State) (b : Nat) : List (Nat × BitVec 40) :=
  let moving := s.ftl.rows.flatMap fun r => if r.src = some b ∧ !r.done then r.items.map (·.1) else []
  (validIus s b).filter fun e => !moving.contains e.1

/-- Copies IUs of a band into rows of a generation of its own group (R409, R412, R416, R419, R447). -/
def moveItems (b g gen : Nat) (kind : ProgSrc) (env : MediaEnv) (l : List (Nat × BitVec 40)) (s : State) : State :=
  let items := l.filterMap fun e => (mediaVer s e.1).map fun v => (e.1, relocCopy s env e.1 e.2 v)
  packAll g gen (some b) kind items.length items s

/-- Relocates the valid IUs of a band, which closes and drains; a band without valid IUs is freed at once. -/
def relocate (b gen : Nat) (kind : ProgSrc) (env : MediaEnv) (s : State) : State :=
  match bandOf s b with
  | none => s
  | some x =>
    let s := closeBand b s
    let s := match bandOf s b with | some y => setBand b { y with drain := true } s | none => s
    if (validIus s b).isEmpty && !bandBusy s b then freeBand b s
    else moveItems b x.group gen kind env (movesLeft s b) s

/-! ## Committing rows (R403, R410, R442) -/

/-- One item of a committed row: the map takes it when its version is not overtaken. A copy keeps the WRITE_SEQ of the
version it copies, so for a copy the map must still name that version (log 37). -/
def commitItem (src : Option Nat) (i : Nat × BitVec 40 × IuVer) (s : State) : State :=
  let (k, e, v) := i
  let ok := match src with
    | some b => decide (seqOf s k = v.seq) && !isSpecial (mapOf s k) && (match bandAt s (mapOf s k) with
      | some x => decide (x.1 = b)
      | none => false)
    | none => decide (seqOf s k < v.seq)
  if ok then
    markDelta (setMap k (if v.poisoned then e ||| mapPoison else e) v.seq { s with
      media.ius := Sparse.set s.media.ius (locKey e) (k, v),
      hold.lostKeys := s.hold.lostKeys.filter fun j => !decide (j = k) })
  else { s with ftl.staleCopies := satAdd s.ftl.staleCopies 1 }

/-- Cache lines that a committed version releases: the packed line, and an older one that a write-through overtook. -/
def releaseLine (k seq : Nat) (s : State) : State :=
  match lineOf s k with
  | some l => if l.ver.seq ≤ seq then { s with ftl.cache := Sparse.erase s.ftl.cache k } else s
  | none => s

/-- A write whose last unit reached media completes: forced write-through carries 0x8B in Dword 0 (R34, R350). -/
def wtDone (w : WtItem) (s : State) : State :=
  match w.tag with
  | none => s
  | some t =>
    if s.ftl.wt.any fun y => decide (y.tag = some t) then s
    else complete t .success (if w.forced then 0x8000008B else 0) s

/-- Write-through units that a committed item carried. -/
def releaseWt (k seq : Nat) (s : State) : State :=
  let hit (w : WtItem) : Bool := decide (w.key = k ∧ w.ver.seq = seq)
  (s.ftl.wt.filter hit).foldl (fun s w => wtDone w s) { s with ftl.wt := s.ftl.wt.filter fun w => !hit w }

/-- Rows with every flag set that no open row names as its paired row are retired (R442). -/
def retireRows (s : State) : State :=
  { s with ftl.rows := s.ftl.rows.filter fun r =>
      !r.done || s.ftl.rows.any fun q => !q.done && decide (q.band = r.band ∧ q.paired = some r.row) }

/-- A drained source band is freed once nothing names it and no row copied from it is open (R410). -/
def drainCheck (b : Nat) (s : State) : State :=
  match bandOf s b with
  | none => s
  | some x =>
    if x.drain && (validIus s b).isEmpty && !(s.ftl.rows.any fun r => decide (r.src = some b ∨ r.band = b) && !r.done)
    then freeBand b s
    else s

/-- Program operations of a row leave the die queues: their flags are written. -/
def clearOps (b r : Nat) (x : Band) (s : State) : State :=
  let mine (o : DieOp) : Bool := decide (o.cls = .program ∧ o.band = b ∧ o.page = r)
  x.chans.foldl (fun s c =>
    let d := dieAt x.group c
    let y := dieOf s d
    let drop (o : Option RunOp) : Option RunOp := match o with
      | some q => if mine q.op then none else some q
      | none => none
    setDie d { y with queue := y.queue.filter (fun o => !mine o), overflow := y.overflow.filter (fun o => !mine o),
                      run := drop y.run, susp := drop y.susp } s) s

/-- The row of a band at a page address that is not yet done. -/
def rowAt (s : State) (b r : Nat) : Option Row := s.ftl.rows.find? fun q => decide (q.band = b ∧ q.row = r) && !q.done

/-- One bit for each channel. -/
def chanMask (l : List Nat) : BitVec 32 := l.foldl (fun m c => m ||| ((1 : BitVec 32) <<< c)) 0

/-- Every commit flag of a row is written (R403, R442): the map names its items, lines are released, write-through
writes complete, and a drained source may be freed. -/
def commitRow (b r : Nat) (s : State) : State :=
  match rowAt s b r, bandOf s b with
  | some q, some x =>
    let q' := { q with programmed := q.programmed ||| chanMask x.chans, committed := chanMask x.chans, done := true }
    let s := { s with ftl.rows := mapWhere (fun y => decide (y = q)) (fun _ => q') s.ftl.rows,
                      media.stripes := Sparse.set s.media.stripes (stripeKey b r) q.pages }
    let s := clearOps b r x s
    let s := q.items.foldl (fun s i => commitItem q.src i s) s
    let s := if q.src.isSome then s
      else q.items.foldl (fun s i => releaseWt i.1 i.2.2.seq (releaseLine i.1 i.2.2.seq s)) s
    let s := retireRows s
    match q.src with
    | some a => drainCheck a s
    | none => s
  | _, _ => s

/-- A row is abandoned (R381, R443): cached IUs are Dirty again, copies stay with their source, the band closes. -/
def abandonRow (b r : Nat) (s : State) : State :=
  match rowAt s b r, bandOf s b with
  | some q, some x =>
    let s := { s with ftl.rows := s.ftl.rows.filter fun y => !decide (y = q) }
    let s := clearOps b r x s
    let s := if q.src.isSome then s
      else q.items.foldl (fun s i => match lineOf s i.1 with
        | some l => if l.state = .packing ∧ l.ver.seq = i.2.2.seq then setLine i.1 { l with state := .dirty } s else s
        | none => s) s
    retireRows (closeBand b s)
  | _, _ => s

/-! ## Refresh candidates (R418 to R420) -/

/-- A block set in the refresh queue: die and band. -/
def refreshKey (d b : Nat) : Nat := d * 2 ^ 32 + b

/-- Refresh programs share tokens with host-originated ones from more than 2,048 queued block sets on until 1,024 or fewer
remain (R419). -/
def refreshMark (s : State) : State :=
  { s with ftl.refreshHigh := decide (2048 < s.ftl.refresh.length)
      || (s.ftl.refreshHigh && decide (1024 < s.ftl.refresh.length)) }

/-- A block set becomes a refresh candidate: queued once, dropped when 4,096 are queued. -/
def refreshCandidate (d b : Nat) (s : State) : State :=
  if s.ftl.refresh.contains (refreshKey d b) then s
  else if 4096 ≤ s.ftl.refresh.length then
    event 0x0040 19 d (evsSet (1208 + dieGroup d) { s with ftl.refreshDropped := satAdd s.ftl.refreshDropped 1 })
  else refreshMark { s with ftl.refresh := s.ftl.refresh ++ [refreshKey d b] }

end Sys2Proof.Machine
end

