-- ==== Sys2Proof/Machine/Parity.lean ====
section
/-! DEFINITION. Die parity and rebuild (chapter 12): failure events, groups, rebuild, the Offline state, resynchronisation
and log page 0xC7. -/
namespace Sys2Proof.Machine

/-- FAILURE_EVENTS rises and the latest failure is noted (R445, R456). -/
def countFailure (d : Nat) (s : State) : State :=
  markDelta { s with tab.failureEvents := satAdd s.tab.failureEvents 1, tab.lastFailed := some d }

/-- The array goes Offline (R446, R450): every group in use, maintenance stops, imports end, event code 34. -/
def goOffline (d : Nat) (s : State) : State :=
  if s.tab.offline then s
  else
    let s := (groupsInUse s).foldl (fun s g => setGrp g { grpOf s g with state := .offline, queue := [], left := 0 } s) s
    let s := ustChange arrayUnit (markDelta { s with
      tab.offline := true, tab.offlineSeen := true, ftl.folding := [], ftl.refresh := [] })
    offlineImports (event 0x0040 34 d s)

/-- Whether a group's rebuild has nothing left: no band waits, no source is still read, and no resynchronisation runs, since
the rebuild of a failure during one starts when it ends ("A failure during resynchronisation"). -/
def rebuildOver (s : State) (g : Nat) : Bool :=
  decide ((grpOf s g).state = .rebuilding) && !s.ftl.resync && (grpOf s g).queue.isEmpty && !((groupBands s g).any fun e => e.2.drain)

/-- NEED_g for a share of TNVMCAP at data width `w` (R421, R437): bands of `w` data positions, and 8. -/
def needBands (share w setBytes : Nat) : Nat := (share + w * setBytes - 1) / max 1 (w * setBytes) + 8

/-- Native data bytes of one block set of a group. -/
def setBytes (s : State) (g : Nat) : Nat :=
  let l := goodChans s g
  listMin 4 (l.map fun c => (dieTab s (dieAt g c)).planes) * listMin 8192 (l.map fun c => (dieTab s (dieAt g c)).pages) * 16384

/-- The group's share of TNVMCAP, by NATIVE_g and capacity. -/
def groupShare (s : State) (g : Nat) : Nat :=
  let w (h : Nat) : Nat := (grpOf s h).native * setBytes s h
  s.tab.tnvmcap * w g / max 1 (listSum ((groupsInUse s).map w))

/-- A rebuild ends (R437, R446, R448): Normal, event code 33, NEED_g at the new width; with N below 20 Read-only and
event code 37. -/
def rebuildEnd (g : Nat) (s : State) : State :=
  if !rebuildOver s g then s
  else
    let x := grpOf s g
    let s := setGrp g { x with state := .normal, left := 0,
                               need := needBands (groupShare s g) (x.n - 2) (setBytes s g) } s
    let s := event 0x0040 33 g (ustChange arrayUnit (markDelta s))
    let s := if x.n < 20 then event 0x0040 37 g (enterReadOnly g s) else s
    spareCheck s

/-- Bands in rebuild order (R447): G0 bands, then native ones, each earliest closed first. -/
def rebuildOrder (l : List (Nat × Band)) : List Nat :=
  let byOrder (l : List (Nat × Band)) : List Nat := (sortBy (fun e => e.2.order) l).map (·.1)
  byOrder (l.filter fun e => decide (e.2.gen = 0)) ++ byOrder (l.filter fun e => decide (e.2.gen ≠ 0))

/-- A group starts to rebuild after losing a position (R446). -/
def startRebuild (g d : Nat) (s : State) : State :=
  let s := ((groupBands s g).filter fun e => !e.2.closed).foldl (fun s e => closeBand e.1 s) s
  let hurt := (groupBands s g).filter fun e => e.2.chans.contains (dieChan d)
  let s := setGrp g { grpOf s g with
    state := .rebuilding, total := hurt.length, left := hurt.length, queue := rebuildOrder hurt, moved := 0 } s
  rebuildEnd g (event 0x0040 32 d (ustChange arrayUnit (markDelta s)))

/-- A position of a group in use is lost: its bit is set and N falls for new bands (R435). -/
def losePosition (d : Nat) (s : State) : State :=
  let g := dieGroup d
  let x := grpOf s g
  if x.state = .unused ∨ x.failed.getLsbD (dieChan d) then s
  else setGrp g { x with failed := x.failed ||| ((1 : BitVec 24) <<< dieChan d), n := x.n - 1 } s

/-- One failure event that takes the positions of `ds` (R445, R446, R450). -/
def failureEvent (ds : List Nat) (s : State) : State :=
  match ds with
  | [] => s
  | d :: _ =>
    let was : Bool := anyRebuilding s
    let hit := ds.filter fun e => decide ((grpOf s (dieGroup e)).state ≠ .unused)
      && !(grpOf s (dieGroup e)).failed.getLsbD (dieChan e)
    let s := ds.foldl (fun s e => losePosition e s) (countFailure (ds.getLast?.getD d) s)
    if s.tab.offline then s
    else if was ∨ (groupsInUse s).any fun g => decide ((grpOf s g).n < 12) then goOffline d s
    else hit.foldl (fun s e => startRebuild (dieGroup e) e s) s

/-- REBUILD_BAND (R440, R446, R447): the next band in order has its valid IUs relocated into bands of the same
generation at the new N; G0 bands are folded to G1 (R409). -/
def rebuildBand (env : MediaEnv) (s : State) : State :=
  match (List.range 16).find? fun g => decide ((grpOf s g).state = .rebuilding) with
  | none => s
  | some g =>
    match (grpOf s g).queue with
    | [] => rebuildEnd g s
    | b :: rest =>
      if bandBusy s b then s
      else
        let bytes := listSum ((validIus s b).map fun e => keyBytes s e.1)
        let gen := match bandOf s b with
          | some x => if x.gen = 0 then 1 else x.gen
          | none => 1
        let s := relocate b gen .rebuild env s
        if !(movesLeft s b).isEmpty then s
        else
          let x := grpOf s g
          rebuildEnd g (markDelta (setGrp g { x with queue := rest, left := x.left - 1, moved := satAdd x.moved bytes } s))

/-- REBUILD_BAND: not while a resynchronisation runs. -/
def execRebuildBand (media : MediaEnv) (s : State) : Host.Outcome State Fault Refusal :=
  .next (if running s && !s.tab.offline && !s.ftl.resync then rebuildBand media s else s)

/-- RESTART_DONE (R529): step 5 has ended and any resynchronisation has finished; source 225. -/
def noteRestartDone (s : State) : State :=
  if s.hold.restarted && !s.ftl.resync && !s.hold.restartDone then evsSet 225 { s with hold.restartDone := true } else s

/-- Controllers with CC.EN 1 become ready (R529). -/
def controllersReady (s : State) : State :=
  (s.fns.map fun e => funcOfUnit e.1).foldl (fun s f =>
    let x := fnOf s f
    if x.ctrl.en && !x.ctrl.rdy && !x.ctrl.cfs && (decide (f.vf = 0) || x.online) then
      ustChange (unitOf f) (hscMark 0 (modCtrl f (fun c => { c with rdy := true }) s))
    else s) s

/-- IUs that the map has in a row of a band. -/
def rowIus (r : Nat) (l : List (Nat × BitVec 40)) : List (Nat × BitVec 40) := l.filter fun e => decide (locPage e.2 = r)

/-- A row is discarded (R403, R444): the map names again what the restored map named, and nothing on the dies answers for
the row any more. -/
def discardRow (s : State) (q : ResyncRow) : State :=
  let b := bandKey q.group q.band
  match bandOf s b with
  | none => s
  | some x =>
    let here (l : Nat) : Bool :=
      let e := BitVec.ofNat 40 l
      decide (locPage e = q.row ∧ dieGroup (locDie e) = x.group) && (match Sparse.look x.sets (dieChan (locDie e)) with
        | some bs => decide (bs[locPlane e]? = some (locBlock e))
        | none => false)
    let s := (rowIus q.row (validIus s b)).foldl (fun s e =>
      setMap e.1 (Sparse.read mapNone s.hold.sync.map e.1) (Sparse.read 0 s.hold.sync.seqs e.1) s) s
    markDelta { s with media.ius := s.media.ius.filter (fun e => !here e.1),
                       media.stripes := Sparse.erase s.media.stripes (stripeKey b q.row) }

/-- How the units of a row that resynchronisation reads answer. -/
def resyncEnv (q : ResyncRow) : MediaEnv := { MediaEnv.clean with lostDies := q.lost.map (dieAt q.group) }

/-- The IUs of a row that R440 recovers are relocated (R444). -/
def mendRow (s : State) (q : ResyncRow) : State :=
  let b := bandKey q.group q.band
  match bandOf s b with
  | none => s
  | some x => moveItems b x.group x.gen .other (resyncEnv q) (rowIus q.row (movesLeft s b)) s

/-- A row that resynchronisation covers was not found whole. -/
def rowBroken (s : State) (q : ResyncRow) : Bool :=
  syncCovers s (bandKey q.group q.band) q.row && (!q.lost.isEmpty || q.mismatch)

/-- R440 recovers every lost unit of a row, and P and Q then match (R444). -/
def rowMends (s : State) (q : ResyncRow) : Bool :=
  let b := bandKey q.group q.band
  match bandOf s b with
  | none => false
  | some x =>
    let gone := x.chans.filter fun c => unitLost s (resyncEnv q) (dieAt q.group c)
    !q.mismatch && decide (gone.length ≤ 2)
      && ((dataChans x q.row).filter gone.contains).all fun c => stripeRecovers s b x q.row c gone

/-- RESYNC_COMPLETE (R403, R440, R444, R529): the rows not found whole are recovered or discarded, every resynchronised
band is closed; event code 36 with the rows discarded; the rebuild of a failure during it may go on now. -/
def execResyncComplete (rows : List ResyncRow) (s : State) : Host.Outcome State Fault Refusal :=
  .next (
    if !s.ftl.resync || !running s then s
    else
      let broken := rows.eraseDups.filter (rowBroken s)
      let bad := broken.filter fun q => !rowMends s q
      let s1 := s.hold.sync.bands.foldl (fun s y => closeBand y.band s) s
      let s1 := (broken.filter (rowMends s)).foldl mendRow (bad.foldl discardRow s1)
      noteRestartDone (event 0x0040 36 bad.length (evsSet 1225 { s1 with
        ftl.resync := false, ftl.resyncDone := true, hold.sync := Sync.reset })))

/-! ## Log page 0xC7 -/

/-- STATE code of a group. -/
def grpCode : GrpState → Nat
  | .unused => 0
  | .normal => 1
  | .rebuilding => 2
  | .offline => 3

/-- PROGRESS of a group's rebuild in percent. -/
def grpProgress (x : Grp) : Nat := if x.total = 0 then 0 else (x.total - x.left) * 100 / x.total

/-- The entry of a group (R456). REBUILD_START is a time, which the model does not keep: a free value (log 38). -/
def grpEntry (s : State) (g : Nat) : Bytes :=
  let x := grpOf s g
  padTo 64
    (leBytes 1 (grpCode x.state) ++ leBytes 1 x.n ++ leBytes 1 (x.n - 2)
      ++ leBytes 1 (if x.state = .rebuilding then grpProgress x else 0) ++ le32 x.failed.toNat
      ++ le16 x.total ++ le16 x.left ++ le32 0
      ++ (if x.state = .rebuilding then le64 (Config.freeBits 64 (s.free + g)).toNat else le64 0)
      ++ le64 x.moved.toNat)

/-- Log page 0xC7 (R456). -/
def parityPage (s : State) : Bytes :=
  padTo 64
    (le32 0x50535A54 ++ le16 1 ++ leBytes 1 (arrayState s)
      ++ leBytes 1 ((if s.ftl.resync then 1 else 0) + (if s.ftl.replayDone then 2 else 0)
        + (if s.ftl.resyncDone then 4 else 0))
      ++ le32 s.nvm.ustGen.toNat ++ le16 s.tab.failureEvents.toNat
      ++ le16 (match s.tab.lastFailed with | some d => d | none => 0xFFFF)
      ++ le64 s.ftl.degradedTotal.toNat ++ le64 s.ftl.reconstructed.toNat ++ le64 s.ftl.salvageLost.toNat
      ++ le16 (journalEntries s))
    ++ (List.range 16).flatMap (grpEntry s)

/-- PARITY_STATUS_LOG (R315, R456). -/
def execParityStatusLog (tag : Tag) (length offset : Nat) (s : State) : Host.Outcome State Fault Refusal :=
  .next (runAdmin (.parityStatusLog tag length offset) tag 0x02 0 true true true (fun s =>
    if isVf tag.src then finish tag .invalidLogPage s
    else logReply tag (parityPage s) length offset (drawn 16 s)) s)

end Sys2Proof.Machine
end

