-- ==== Sys2Proof/Machine/Flash.lean ====
section
/-! DEFINITION. Flash channels and dies (chapter 10): identification, training and retraining, the die queues, suspend and
resume, bad blocks, die failures, and log page 0xC3. -/
namespace Sys2Proof.Machine

/-! ## Die states (R381 to R384) -/

/-- A die's state changes (source 768 + d). -/
def setDieState (d : Nat) (st : DieState) (s : State) : State :=
  evsSetIf (decide ((dieOf s d).state ≠ st)) (768 + d) (setDie d { dieOf s d with state := st } s)

/-- The dies that operations of a die are no longer issued to: its queues are empty. -/
def Die.cleared (x : Die) : Die := { x with queue := [], overflow := [], run := none, susp := none }

/-- A die becomes Failed (R383, R384): event code 2, its reason, and one failure event. -/
def failDie (d : Nat) (reason : W32) (s : State) : State :=
  if (dieOf s d).state = .failed then s
  else
    let s := setDieState d .failed s
    let s := setDie d (dieOf s d).cleared s
    let s := setDieTab d { dieTab s d with failed := true, reason := reason } s
    failureEvent [d] (event 0x0040 2 d (markDelta s))

/-- A die becomes Suspect and gets a RESET (R383); one that is Suspect already fails. -/
def suspectDie (d : Nat) (reason : W32) (s : State) : State :=
  match (dieOf s d).state with
  | .online =>
    let s := setDieTab d { dieTab s d with reason := reason } (setDieState d .suspect s)
    event 0x0040 1 d (setDie d { dieOf s d with probation := 0, consec := 0, lastFails := [] } s)
  | .suspect => failDie d reason s
  | _ => s

/-- A block becomes grown bad (R381); the 1,025th of a die is a die failure (R382). -/
def growBad (d p b : Nat) (s : State) : State :=
  let t := dieTab s d
  if t.grown.contains (p, b) then s
  else if 1024 ≤ t.grown.length then failDie d 7 s
  else spareCheck (markDelta (setDieTab d { t with grown := t.grown ++ [(p, b)] } s))

/-- A program or erase of a block fails (R381, R383): four in a row on different blocks make the die Suspect. -/
def opFailed (d p b : Nat) (erase : Bool) (s : State) : State :=
  let t := dieTab s d
  let s := setDieTab d (if erase then { t with eraseFails := satAdd t.eraseFails 1 }
    else { t with progFails := satAdd t.progFails 1 }) s
  let s := growBad d p b s
  let x := dieOf s d
  match x.state with
  | .suspect => failDie d 6 s
  | .online =>
    let fails := insertNew (p, b) x.lastFails
    if 4 ≤ fails.length then suspectDie d 6 s
    else setDie d { x with consec := fails.length, lastFails := fails } s
  | _ => s

/-- An operation of a die succeeds: the run of failures ends, and a Suspect die that has done 100 operations since its
RESET is Online again (R383). -/
def opPassed (d : Nat) (s : State) : State :=
  let x := dieOf s d
  if x.state = .suspect ∧ x.probation ≠ 0 then
    if x.probation = 1 then setDieState d .online (setDie d { x with probation := 0, consec := 0, lastFails := [] } s)
    else setDie d { x with probation := x.probation - 1 } s
  else setDie d { x with consec := 0, lastFails := [] } s

/-! ## Identification (R356, R357, R379, R383, R393) -/

/-- REASON of a die that answers: 0 accepted, else the first check of R356 and R393 it fails. -/
def probeReason (p : DieProbe) : Nat :=
  if !p.crcOk then 1 else if !p.profiled then 2
  else if 4 < p.planes ∨ 4096 < p.blocks ∨ 8192 < p.pages then 3
  else if p.pageData ≠ 16384 ∨ p.spare < 2048 then 4 else 0

/-- The positions of a group in use that a reset finds Absent or Excluded are failure events (chapter 12). -/
def positionLost (d : Nat) (s : State) : State :=
  if (grpOf s (dieGroup d)).state ≠ .unused ∧ !(grpOf s (dieGroup d)).failed.getLsbD (dieChan d) then
    failureEvent [d] s
  else s

/-- One die answers identification. -/
def identifyDie (ch : Nat) (p : DieProbe) (s : State) : State :=
  let d := 16 * ch + p.die
  let s := if p.replaced then setDieTab d DieTab.reset s else s
  if !p.answers then positionLost d (setDieState d .absent s)
  else if probeReason p ≠ 0 then
    positionLost d (event 0x0040 4 d (setDieTab d { dieTab s d with reason := BitVec.ofNat 32 (probeReason p) }
      (setDieState d .excluded s)))
  else
    let t := dieTab s d
    let t := { t with planes := p.planes, blocks := p.blocks, pages := p.pages, topMode := p.topMode,
                      scanned := true, factory := if t.scanned then t.factory else p.marks }
    let s := setDieTab d t (if t = dieTab s d then s else markDelta s)
    setDieState d (if t.failed then .failed else .online) s

/-- The probes of a channel: positions not probed do not answer. -/
def allProbes (l : List DieProbe) : List DieProbe :=
  (List.range 16).map fun i => (l.find? fun p => decide (p.die = i)).getD
    { die := i, answers := false, crcOk := false, profiled := false, planes := 0, blocks := 0, pages := 0,
      pageData := 0, spare := 0, topMode := 0, marks := [], replaced := false }

/-! ## Training (R359, R361 to R366, R387) -/

/-- Highest mode a channel may train at: what every accepted die supports, and MAX_MODE (R359). -/
def topMode (s : State) (ch : Nat) : Nat :=
  listMin s.flash.maxMode ((chanOf s ch).accepted.map fun d => (dieTab s (16 * ch + d)).topMode)

/-- The DQ eyes of each mode code pass: at least 0.35 UI and at least 60 mV (R361). A mode with none measured fails. -/
def modesPass (eyes : List (List Eye)) : List Bool :=
  eyes.map fun l => !l.isEmpty && l.all fun e => decide (350 ≤ e.milliUi ∧ 60 ≤ e.mV)

/-- Tries modes from `m` down: the mode reached and the failed attempts; mode 1 has three tries, of which `tries`
fail. -/
def trainModes (ok : List Bool) (tries : Nat) : Nat → Option Nat × Nat
  | 0 => (none, 0)
  | 1 => if tries < 3 then (some 1, tries) else (none, 3)
  | m + 1 => if ok.getD (m + 1) false then (some (m + 1), 0)
    else ((trainModes ok tries m).1, (trainModes ok tries m).2 + 1)

/-- A channel becomes Failed (R361, R383): event code 3 once, every die Failed, one failure event. -/
def failChannel (ch : Nat) (s : State) : State :=
  let ds := (chanOf s ch).accepted.map fun d => 16 * ch + d
  let live := ds.filter fun d => decide ((dieOf s d).state = .online ∨ (dieOf s d).state = .suspect)
  let s := setChan ch { chanOf s ch with state := .failed, mode := 0, dllLock := false, pending := false } s
  let s := event 0x0040 3 (16 * ch) s
  let s := live.foldl (fun s d =>
    setDieTab d { dieTab s d with failed := true, reason := 8 }
      (setDie d (dieOf (setDieState d .failed s) d).cleared (setDieState d .failed s))) s
  failureEvent live (markDelta s)

/-- Training of a channel from mode `top` down. `ok` says by mode code which modes pass. -/
def trainChannel (ch top : Nat) (ok : List Bool) (tries : Nat) (s : State) : State :=
  let (m, fails) := trainModes ok tries top
  let c := chanOf s ch
  let c := { c with trainFails := satAdd c.trainFails fails }
  match m with
  | some m => setChan ch { c with mode := m, dllLock := true, state := .online, tjAtTraining := s.arm.meas.tj } s
  | none => failChannel ch (setChan ch c s)

/-- CHANNEL_TRAINING (R356 to R364, R379, R383): at a reset the channel identifies its dies and trains; on a channel whose
forced retrain runs, that training ends, at the mode it began with even where MAX_MODE has changed since. In Option Fault
the flash channels are not enabled (R96). -/
def execChannelTraining (ch : Nat) (dies : List DieProbe) (eyes : List (List Eye)) (failTries : Nat) (s : State) :
    Host.Outcome State Fault Refusal :=
  .next (
    if !powered s ∨ s.boot.phase = .optionFault then s
    else if (chanOf s ch).state = .retraining then
      trainChannel ch (chanOf s ch).trainTop (modesPass eyes) failTries s
    else if ((chanOf s ch).state ≠ .unpopulated ∧ (chanOf s ch).state ≠ .training) then s
    else
      let ps := allProbes dies
      let s := ps.foldl (fun s p => identifyDie ch p s) s
      let acc := (ps.filter fun p => p.answers && decide (probeReason p = 0)).map (·.die)
      let s := setChan ch { chanOf s ch with accepted := acc, tried := true } s
      if acc.isEmpty then s else trainChannel ch (topMode s ch) (modesPass eyes) failTries s)

/-- The channel takes a request for a retrain: it is Online, or a retrain runs, which the new request then follows
(R363; "MAX_MODE written during a retrain"). -/
def retrainable (c : Chan) : Bool := decide (c.state = .online ∨ c.state = .retraining)

/-- RETRAIN_TRIGGER (R363). -/
def execRetrainTrigger (ch : Nat) (why : RetrainWhy) (s : State) : Host.Outcome State Fault Refusal :=
  .next (
    let c := chanOf s ch
    let due := match why with
      | .temperature tj => decide ((s.flash.retrainDt : Int) * 1000 < (tj - c.tjAtTraining).natAbs)
      | .dllDrift => true
      | .transferErrors n k => decide (8 ≤ n ∧ 2 ≤ k)
      | .maxMode => decide (s.flash.maxMode < c.mode)
    if powered s && retrainable c && due then setChan ch { c with pending := true } s else s)

/-- A write of TZ_FCH_CHn_RETRAIN: REQ requests a retrain, FORCED is write-1-to-clear (R363, R389). -/
def writeRetrain (ch : Nat) (v : W32) (s : State) : State :=
  let c := chanOf s ch
  setChan ch { c with pending := c.pending || (v.getLsbD 0 && retrainable c),
                      forced := c.forced && !v.getLsbD 2 } s

/-- RETRAIN_REQ (R363, R389). -/
def execRetrainReq (ch : Nat) (value : W32) (s : State) : Host.Outcome State Fault Refusal :=
  .next (if running s then writeRetrain ch value s else s)

/-- A class that reads. -/
def isRead (c : DieClass) : Bool := decide (c = .hostRead ∨ c = .rebuildRead ∨ c = .maintRead)

/-- No read waits in a channel's queues (R364). -/
def noReads (s : State) (ch : Nat) : Bool :=
  (List.range 16).all fun i => !((dieOf s (16 * ch + i)).queue.any fun o => isRead o.cls)

/-- A retrain of a channel starts: RETRAINS rises, its duration is kept, at most 2,000 µs, and the request is served
(R362, R364, R389). -/
def startRetrain (ch : Nat) (forced : Bool) (us : W16) (s : State) : State :=
  let c := chanOf s ch
  setChan ch { c with retrains := satAdd c.retrains 1, forced := c.forced || forced, pending := false,
                      state := .retraining, trainTop := topMode s ch,
                      lastUs := if 2000 < us.toNat then 2000 else us } s

/-- A retrain that no command falls inside (log 95). -/
def retrain (ch : Nat) (ok : List Bool) (us : W16) (s : State) : State :=
  trainChannel ch (topMode s ch) ok (if ok.getD 1 false then 0 else 3) (startRetrain ch false us s)

/-- RETRAIN_IDLE_WINDOW (R364): the pending retrain runs unforced. -/
def execRetrainIdleWindow (ch : Nat) (eyes : List (List Eye)) (us : W16) (s : State) :
    Host.Outcome State Fault Refusal :=
  .next (
    if powered s && (chanOf s ch).pending && decide ((chanOf s ch).state = .online) && noReads s ch then retrain ch (modesPass eyes) us s else s)

/-- RETRAIN_FORCE_TIMEOUT (R364 to R366): 50 ms without a window; never while the array is Rebuilding. The retrain runs
until CHANNEL_TRAINING of its channel, and reads of its dies are degraded meanwhile. -/
def execRetrainForceTimeout (ch : Nat) (us : W16) (s : State) : Host.Outcome State Fault Refusal :=
  .next (
    if powered s && (chanOf s ch).pending && decide ((chanOf s ch).state = .online) && !anyRebuilding s then startRetrain ch true us s
    else s)

/-- DLL_LOCK_LOSS (R387): the channel stops and retrains at once. -/
def execDllLockLoss (ch : Nat) (eyes : List (List Eye)) (us : W16) (s : State) : Host.Outcome State Fault Refusal :=
  .next (
    if powered s ∧ (chanOf s ch).state = .online then
      retrain ch (modesPass eyes) us (setChan ch { chanOf s ch with dllLock := false } s)
    else s)

/-! ## Queues (R367 to R374) -/

/-- Priority of a class (R367). -/
def classRank : DieClass → Nat
  | .dump => 1
  | .hostRead => 2
  | .rebuildRead => 3
  | .program => 4
  | .maintRead => 5
  | .erase => 6

/-- An operation may be issued now: while the die is suspended only reads, at most 8 of them, else a read at once and a
program or erase with its tokens (R369, R373, R474). -/
def canIssue (s : State) (x : Die) (o : DieOp) : Bool :=
  match x.susp with
  | some r => isRead o.cls && decide (r.served < 8)
  | none => isRead o.cls || decide (o.cost ≤ s.arm.bucket)

/-! ### Shares of the admission tokens (R413, R416, R419, R449) -/

/-- A program of a kind waits in the queue of a die of a group that takes operations. -/
def progWaits (s : State) (g : Nat) (k : ProgSrc) : Bool :=
  (List.range 24).any fun c =>
    let x := dieOf s (dieAt g c)
    decide (x.state = .online ∨ x.state = .suspect) && x.queue.any fun o => decide (o.cls = .program ∧ o.src = k)

/-- The kinds that share tokens with host-originated native programs now, each with its ratio to them: collection at urgent
rate, refresh, rebuild. -/
def sharing (s : State) (g : Nat) : List (ProgSrc × Nat) :=
  (if freeBands s g < 4 then [(.collect, 1)] else []) ++ (if s.ftl.refreshHigh then [(.refresh, 1)] else [])
    ++ (if (grpOf s g).state = .rebuilding then [(.rebuild, s.ftl.rebuildShare)] else [])

/-- A group's balance. -/
def shareOf (s : State) (g : Nat) : Share := Sparse.read Share.reset s.ftl.shares g

/-- Tokens of a kind beyond its ratio. -/
def Share.of (x : Share) : ProgSrc → Int
  | .collect => x.collect
  | .refresh => x.refresh
  | .rebuild => x.rebuild
  | _ => 0

/-- A kind's balance changed. -/
def Share.add (x : Share) (k : ProgSrc) (n : Int) : Share :=
  match k with
  | .collect => { x with collect := x.collect + n }
  | .refresh => { x with refresh := x.refresh + n }
  | .rebuild => { x with rebuild := x.rebuild + n }
  | _ => x

/-- A program may have its tokens (R413, R419, R449): while both wait, a kind within its ratio goes before the host's programs
and one beyond it after them; a static move takes at most one token in twenty (R416). -/
def shareAllows (s : State) (g : Nat) (o : DieOp) : Bool :=
  let x := shareOf s g
  match o.src with
  | .other => true
  | .host => (sharing s g).all fun k => !progWaits s g k.1 || decide (0 < x.of k.1)
  | .move => decide (19 * o.cost ≤ x.moves)
  | k => !(sharing s g).any (fun e => decide (e.1 = k)) || !progWaits s g .host || decide (x.of k ≤ 0)

/-- The balance after a program of a group is issued. -/
def shareAfter (s : State) (g : Nat) (o : DieOp) : Share :=
  let x := shareOf s g
  let y : Share := match o.src with
    | .host => (sharing s g).foldl (fun (x : Share) (k : ProgSrc × Nat) =>
        if progWaits s g k.1 then x.add k.1 (-((k.2 * o.cost : Nat) : Int)) else x) x
    | .other | .move => x
    | k => if progWaits s g .host then x.add k o.cost else x
  { y with moves := if o.src = ProgSrc.move then y.moves - 19 * o.cost else y.moves + o.cost }

/-- The operation of a die that leaves its queue next: the first in arrival order of the highest class that may be issued
(R367). -/
def nextOp (s : State) (d : Nat) : Option DieOp :=
  let x := dieOf s d
  (x.queue.filter fun o => canIssue s x o && (decide (o.cls ≠ .program) || shareAllows s (dieGroup d) o)).foldl
    (fun a o => match a with
      | some b => if classRank o.cls < classRank b.cls then some o else some b
      | none => some o) none

/-- A die takes operations: it and its channel are in service, and nothing runs on it (R384). -/
def dieFree (s : State) (d : Nat) : Bool :=
  let x := dieOf s d
  decide (x.state = .online ∨ x.state = .suspect) && x.run.isNone && decide ((chanOf s (dieChan d)).state = .online)

/-- Channels with a program or erase that could be issued now. -/
def tokenChans (s : State) : List Nat :=
  (List.range 24).filter fun c => (List.range 16).any fun i =>
    dieFree s (16 * c + i) && (match nextOp s (16 * c + i) with
      | some o => !isRead o.cls
      | none => false)

/-- The operation that DIE_OP_ISSUE issues on a die: a read at once, a program or erase when its channel is the next one in
round robin (R474). -/
def issueOp (s : State) (d : Nat) : Option DieOp :=
  if !dieFree s d then none
  else match nextOp s d with
    | some o => if isRead o.cls || decide (nextRound s.flash.turn (tokenChans s) = some (dieChan d)) then some o else none
    | none => none

/-- A program or erase takes its tokens (R369, R413, R474). -/
def spend (d : Nat) (o : DieOp) (s : State) : State :=
  let g := dieGroup d
  let sh := if o.cls = .program then Sparse.put Share.reset s.ftl.shares g (shareAfter s g o) else s.ftl.shares
  { s with arm.bucket := s.arm.bucket - o.cost, flash.turn := dieChan d, ftl.shares := sh }

/-- The queue without the first entry equal to `o`, filled up from DRAM (R368). -/
def Die.pop (x : Die) (o : DieOp) : Die :=
  let q := x.queue.erase o
  match x.overflow with
  | [] => { x with queue := q }
  | w :: r => if q.length < 32 then { x with queue := q ++ [w], overflow := r } else { x with queue := q }

/-- PROGRAMMED of a row: a program was issued on the channel (R442). -/
def programIssued (b r ch : Nat) (s : State) : State :=
  let l := mapWhere (fun q => decide (q.band = b ∧ q.row = r) && !q.done)
    (fun q => { q with programmed := q.programmed ||| ((1 : BitVec 32) <<< ch) }) s.ftl.rows
  { s with ftl.rows := l }

/-- DIE_OP_ISSUE (R367 to R369, R373, R384, R413, R416, R419, R442, R449, R474). -/
def execDieOpIssue (die : Nat) (s : State) : Host.Outcome State Fault Refusal :=
  .next (
    if !powered s then s
    else match issueOp s die with
      | none => s
      | some o =>
        let x := (dieOf s die).pop o
        let x := { x with run := some { op := o, suspends := 0, served := 0 },
                          susp := match x.susp with
                            | some r => some { r with served := r.served + 1 }
                            | none => none }
        if isRead o.cls then setDie die x s
        else setDie die x (if o.cls = .program then programIssued o.band o.page (dieChan die) (spend die o s)
          else spend die o s))

/-- Counters of a read that ended at a level (R386), saturating. -/
def Die.countRead (x : Die) (level corrected n : Nat) : Die :=
  let x := { x with codewords := satAdd x.codewords n,
                    worstCb := if level = 0 then satOf 16 (max x.worstCb.toNat corrected) else x.worstCb }
  if level = 0 then { x with lvl0 := satAdd x.lvl0 1 }
  else if level ≤ 4 then { x with lvl1 := satAdd x.lvl1 1 }
  else if level ≤ 7 then { x with lvl5 := satAdd x.lvl5 1 }
  else if level ≤ 9 then { x with lvl8 := satAdd x.lvl8 1 }
  else { x with lvl10 := satAdd x.lvl10 1 }

/-- A read makes its block a refresh candidate (R377): more than 112 corrected bits at level 0, or level 5 and deeper. -/
def readReports (level corrected : Nat) : Bool := (decide (level = 0) && decide (112 < corrected)) || decide (5 ≤ level)

/-- The commit flag of a channel's position in a row is written (R442). -/
def flagPosition (b r ch : Nat) (s : State) : State :=
  let l := mapWhere (fun q => decide (q.band = b ∧ q.row = r) && !q.done)
    (fun q => { q with committed := q.committed ||| ((1 : BitVec 32) <<< ch) }) s.ftl.rows
  { s with ftl.rows := l }

/-- The block of a plane that an operation touches. -/
def opBlock (s : State) (d : Nat) (o : DieOp) (p : Nat) : Nat :=
  match bandOf s o.band with
  | some x => ((Sparse.look x.sets (dieChan d)).getD []).getD p 0
  | none => 0

/-- CHANNEL packet of an operation that ended (R592); its duration is a time, so a free value. -/
def kscChannel (die : Nat) (r : RunOp) (level : Nat) (s : State) : State :=
  drawn 1 (kscPutClass 2 ⟨0x04, leBytes 1 (dieChan die) ++ leBytes 1 (die % 16) ++ leBytes 1 (classRank r.op.cls)
    ++ leBytes 1 level ++ leBytes 1 r.suspends ++ leBytes 1 0 ++ le32 (draw 32 s).toNat⟩ s)

/-- One more read of a band's block set since its last program: beyond the profile's read-disturb limit it is a refresh
candidate (R418). -/
def noteRead (die b : Nat) (s : State) : State :=
  let n := Sparse.read 0 (dieOf s die).reads b + 1
  let s := setDie die { dieOf s die with reads := Sparse.put 0 (dieOf s die).reads b n } s
  if Config.readDisturbLimit die < n then refreshCandidate die b s else s

/-- A program of a band's block set starts its count of reads anew (R418). -/
def forgetReads (die b : Nat) (s : State) : State :=
  setDie die { dieOf s die with reads := Sparse.put 0 (dieOf s die).reads b 0 } s

/-- How an operation of a die ended. -/
def opEnded (die : Nat) (r : RunOp) (res : DieResult) (s : State) : State :=
  match res with
  | .readDone level corrected codewords =>
    if !isRead r.op.cls then s
    else
      let s := opPassed die (setDie die ((dieOf s die).countRead level corrected codewords) (kscChannel die r level s))
      let s := noteRead die r.op.band s
      if readReports level corrected then refreshCandidate die r.op.band s else s
  | .readFailed plane recent =>
    if !isRead r.op.cls then s
    else
      let s := kscChannel die r 10 s
      let s := setDie die { dieOf s die with lvl10 := satAdd (dieOf s die).lvl10 1 } s
      let s := noteRead die r.op.band s
      if recent then growBad die plane (opBlock s die r.op plane) s else refreshCandidate die r.op.band s
  | .passed =>
    if isRead r.op.cls then s
    else
      let s := opPassed die (kscChannel die r 0xFF s)
      if r.op.cls = .program then
        flagPosition r.op.band r.op.page (dieChan die) (forgetReads die r.op.band s)
      else s
  | .failed p b =>
    if isRead r.op.cls then s
    else opFailed die p b (decide (r.op.cls = .erase)) (kscChannel die r 0xFF s)

/-- DIE_OP_COMPLETE (R376, R377, R381 to R383, R386, R418, R441, R592). -/
def execDieOpComplete (die : Nat) (res : DieResult) (s : State) : Host.Outcome State Fault Refusal :=
  .next (if !powered s then s else match (dieOf s die).run with
    | none => s
    | some r => opEnded die r res (setDie die { dieOf s die with run := none } s))

/-- DIE_SUSPEND (R371, R372): for a queued read, after the minimum run time, at most 12 times for one operation. -/
def execDieSuspend (die : Nat) (minRun : Bool) (s : State) : Host.Outcome State Fault Refusal :=
  .next (
    let x := dieOf s die
    match x.run with
    | none => s
    | some r =>
      if !powered s || isRead r.op.cls || !minRun || x.susp.isSome || decide (12 ≤ r.suspends)
          || !(x.queue.any fun o => isRead o.cls) then s
      else
        let n := r.suspends + 1
        let s := setDie die { x with run := none, susp := some { r with suspends := n, served := 0 },
                                     maxSusp := satOf 16 (max x.maxSusp.toNat n) } s
        { s with flash.suspends := satAdd s.flash.suspends 1,
                 flash.capHits := if n = 12 then satAdd s.flash.capHits 1 else s.flash.capHits })

/-- DIE_RESUME (R373): no read queued, 8 reads served, or 200 µs passed. -/
def execDieResume (die : Nat) (timeUp : Bool) (s : State) : Host.Outcome State Fault Refusal :=
  .next (
    let x := dieOf s die
    match x.susp, x.run with
    | some r, none =>
      if powered s && (timeUp || decide (8 ≤ r.served) || !(x.queue.any fun o => isRead o.cls)) then
        setDie die { x with run := some r, susp := none } s
      else s
    | _, _ => s)

/-- DIE_BUSY_TIMEOUT (R383): busy beyond twice the profile's maximum time; RESET ends what ran. -/
def execDieBusyTimeout (die : Nat) (s : State) : Host.Outcome State Fault Refusal :=
  .next (
    if powered s && (dieOf s die).run.isSome then suspectDie die 5 (setDie die { dieOf s die with run := none, susp := none } s)
    else s)

/-- DIE_RESET_COMPLETE (R383): the RESET of a Suspect die succeeds and 100 operations of probation start, or it
fails. -/
def execDieResetComplete (die : Nat) (ok : Bool) (s : State) : Host.Outcome State Fault Refusal :=
  .next (
    let x := dieOf s die
    if !powered s ∨ x.state ≠ .suspect then s
    else if ok then setDie die { x with probation := 100 } s
    else failDie die (dieTab s die).reason s)

/-! ## Log page 0xC3 (R386) -/

/-- STATE code of a die. -/
def dieCode : DieState → Nat
  | .absent => 0
  | .online => 1
  | .suspect => 2
  | .failed => 3
  | .excluded => 4

/-- Entry of a die; an Absent position has only CHANNEL and DIE. -/
def dieEntry (s : State) (d : Nat) : Bytes :=
  let x := dieOf s d
  let t := dieTab s d
  if x.state = .absent then padTo 64 (leBytes 1 (dieChan d) ++ leBytes 1 (d % 16))
  else
    let n := t.planes * t.blocks
    let total := listSum (t.erases.map (·.2))
    padTo 64
      (leBytes 1 (dieChan d) ++ leBytes 1 (d % 16) ++ leBytes 1 (dieCode x.state)
        ++ leBytes 1 (chanOf s (dieChan d)).mode ++ le16 (min 65535 t.factory.length) ++ le16 t.grown.length
        ++ le32 (if n = 0 then 0 else total / n) ++ le32 (listMax (t.erases.map (·.2)))
        ++ le32 t.progFails.toNat ++ le32 t.eraseFails.toNat ++ le64 x.codewords.toNat
        ++ le32 x.lvl0.toNat ++ le32 x.lvl1.toNat ++ le32 x.lvl5.toNat ++ le32 x.lvl8.toNat ++ le32 x.lvl10.toNat
        ++ le16 x.maxSusp.toNat ++ le16 x.worstCb.toNat ++ le32 t.reason.toNat)

/-- Log page 0xC3; TIMESTAMP is a free value (log 38). -/
def diePage (s : State) : Bytes :=
  let pop := (List.range 24).filter fun c => !(chanOf s c).accepted.isEmpty
  padTo 64
    (le32 0x48445A54 ++ le16 1 ++ le16 384 ++ le32 s.nvm.ustGen.toNat ++ leBytes 1 pop.length
      ++ leBytes 1 (listMax ((List.range 24).map fun c => (chanOf s c).accepted.length)) ++ le16 0
      ++ le64 (draw 64 s).toNat)
    ++ (List.range 384).flatMap (dieEntry s)

/-- DIE_HEALTH_LOG (R315, R386). -/
def execDieHealthLog (tag : Tag) (length offset : Nat) (s : State) : Host.Outcome State Fault Refusal :=
  .next (runAdmin (.dieHealthLog tag length offset) tag 0x02 0 true true true (fun s =>
    if isVf tag.src then finish tag .invalidLogPage s
    else logReply tag (diePage s) length offset (drawn 1 s)) s)

end Sys2Proof.Machine
end

