-- ==== Sys2Proof/Machine/Ftl.lean ====
section
/-! DEFINITION. The flash translation layer's own work (R399 to R420, R426 to R429, R435 to R442): packing, committing and
failing rows, merges, folding, collection, static wear moves, patrol and refresh. -/
namespace Sys2Proof.Machine

/-! ## Packing (R401, R405, R407, R414, R510) -/

/-- A version is in a row that is being programmed. -/
def inRow (s : State) (k seq : Nat) : Bool :=
  s.ftl.rows.any fun r => !r.done && r.src.isNone && r.items.any fun i => decide (i.1 = k ∧ i.2.2.seq = seq)

/-- A shadow unit of an IU is in a row that is being programmed with host data. -/
def shadowBusy (s : State) (k : Nat) : Bool :=
  (shadowsOf s k).any fun j => s.ftl.rows.any fun r => !r.done && r.src.isNone && r.items.any fun i => decide (i.1 = j)

/-- What can be packed of an IU: its oldest write-through version that is complete and in no row, else its Dirty line; not
while a row carries its shadow unit (log 94). -/
def packable (s : State) (k : Nat) : Option IuVer :=
  if shadowBusy s k then none
  else match s.ftl.wt.find? fun w => decide (w.key = k) && !w.merging && !inRow s k w.ver.seq with
  | some w => some w.ver
  | none => match lineOf s k with
    | some l => if l.state = .dirty then some l.ver else none
    | none => none

/-- G0 takes host data: its band is open, or a block set may be opened in SLC mode (R405, R407, R411). -/
def slcOpen (s : State) (g : Nat) : Bool :=
  (openBand s g 0).isSome || decide (slcUsed s g < slcAllowance s.ftl.pct (groupSets s g))

/-- The lines of packed units are in Packing. -/
def markPacking (l : List (Nat × IuVer)) (s : State) : State :=
  l.foldl (fun s i => match lineOf s i.1 with
    | some x => if x.ver.seq = i.2.seq then setLine i.1 { x with state := .packing } s else s
    | none => s) s

/-- A row of host data in a generation. -/
def packHost (g gen : Nat) (items : List (Nat × IuVer)) (s : State) : State :=
  match packRow g gen none (if gen = 0 then .other else .host) items s with
  | none => if 1024 ≤ journalEntries s then { s with ftl.journalWaits := satAdd s.ftl.journalWaits 1 } else s
  | some (s', rest) =>
    let s' := markPacking (items.take (items.length - rest.length)) s'
    if gen = 0 then s' else { s' with ftl.direct := satAdd s'.ftl.direct 1 }

/-- One stripe row of a group takes the chosen IUs (R401, R405): G0 while the SLC buffer is below its allowance, else
directly G1, unless native programs of the group have stopped (R414). -/
def stripeRowPack (g : Nat) (ius : List Nat) (s : State) : State :=
  let items := ius.eraseDups.filterMap fun k => (packable s k).map fun v => (k, v)
  if items.isEmpty ∨ (grpOf s g).state = .unused then s
  else if slcOpen s g then packHost g 0 items s
  else if s.ftl.nativeStop.contains g then s
  else packHost g 1 items s

/-- STRIPE_ROW_PACK (R400, R401, R405, R414, R415, R435, R436, R442). Packing goes on in every array state, since admitted
writes drain to media (R423, R450). -/
def execStripeRowPack (group : Nat) (ius : List Nat) (s : State) : Host.Outcome State Fault Refusal :=
  .next (if running s then stripeRowPack group ius s else s)

/-- STRIPE_ROW_COMMIT (R30, R34, R403, R410, R442): every position's commit flag is written; a rebuild may end. -/
def execStripeRowCommit (group : Nat) (band : Nat) (row : Nat) (s : State) : Host.Outcome State Fault Refusal :=
  .next (if running s then rebuildEnd group (commitRow (bandKey group band) row s) else s)

/-- STRIPE_ROW_PROGRAM_FAIL (R381, R401): the row is abandoned, its IUs wait for a new row, and the block of the failing
die on a plane the rules do not name (a free value) is grown bad. -/
def execStripeRowProgramFail (group : Nat) (band : Nat) (row : Nat) (die : Nat) (s : State) :
    Host.Outcome State Fault Refusal :=
  .next (
    let b := bandKey group band
    match rowAt s b row, bandOf s b with
    | some _, some x =>
      if !powered s ∨ !x.chans.contains (dieChan die) ∨ dieGroup die ≠ group then s
      else
        let p := (draw 8 s).toNat % bandPlanes s x
        let blk := ((Sparse.look x.sets (dieChan die)).getD []).getD p 0
        opFailed die p blk false (abandonRow b row (drawn 1 s))
    | _, _ => s)

/-! ## Merges (R401, R402, R426 to R428) -/

/-- A block set that a read at `env` reports is queued for refresh (R377, R441). -/
def reportRead (s0 : State) (env : MediaEnv) (lost : Bool) (e : BitVec 40) (s : State) : State :=
  match bandAt s0 e with
  | none => s
  | some (b, _) =>
    if (lost && decide ((dieOf s0 (locDie e)).state ≠ .failed)) || readReports env.level env.corrected then
      refreshCandidate (locDie e) b s
    else s

/-- The blocks a merge reads into a version, given the offsets it lacks: from media, zero where the unit is deallocated,
poisoned where it is write-uncorrectable or cannot be read (R427). -/
def mergeFill (s : State) (env : MediaEnv) (k : Nat) (v : IuVer) (missing : List Nat) : IuVer :=
  let e := mapOf s k
  if e = mapUnc then { v with blocks := missing.foldl (fun m i => Sparse.set m i Blk.poisoned) v.blocks }
  else match mediaFull s k with
    | none => v
    | some b =>
      let bad := unreadable s env k e
      let l := missing.foldl (fun m i => Sparse.set m i (if bad.contains i then Blk.poisoned else b.blk i)) v.blocks
      { v with blocks := l }

/-- Block offsets a version does not hold. -/
def lacking (s : State) (k : Nat) (v : IuVer) : List Nat :=
  match nsOf s (iuNs k) with
  | some n => (List.range n.perIu).filter fun i => (Sparse.look v.blocks i).isNone
  | none => []

/-- What a DRAM error leaves of a version: the blocks it held are poisoned (R426). -/
def spoil (v : IuVer) : IuVer := { v with blocks := v.blocks.map fun e => (e.1, Blk.poisoned) }

/-- A version after its merge: a line with a DRAM error keeps what the merge writes, and its own bytes stay poisoned. -/
def merged (s : State) (env : MediaEnv) (k : Nat) (v : IuVer) : IuVer :=
  mergeFill s env k (if env.cacheBad.contains k then spoil v else v) (lacking s k v)

/-- MERGE_READ_DONE (R401, R426 to R428): the untouched blocks are read, the unit is Dirty, and poison that the read set
is recorded with event code 16. -/
def mergeReadDone (k : Nat) (env : MediaEnv) (s : State) : State :=
  let e := mapOf s k
  let waiting := s.ftl.wt.filter fun w => decide (w.key = k) && w.merging
  let line := match lineOf s k with
    | some l => if l.state = LineState.merging then some l else none
    | none => none
  if waiting.isEmpty && line.isNone then s
  else
    let lack := (match line with | some l => lacking s k l.ver | none => []) ++ waiting.flatMap fun w => lacking s k w.ver
    let bad := !isSpecial e && lack.any fun i => (unreadable s env k e).contains i
    let wt := mapWhere (fun w => decide (w.key = k) && w.merging)
      (fun w => { w with merging := false, ver := merged s env k w.ver }) s.ftl.wt
    let s1 := { s with ftl.wt := wt }
    let s1 := match line with
      | some l => setLine k { state := .dirty, ver := merged s env k l.ver } s1
      | none => s1
    let s1 := if isSpecial e ∨ lack.isEmpty then s1 else reportRead s env bad e s1
    let s1 := if bad then event 0x0040 16 (locDie e) s1 else s1
    if env.cacheBad.contains k then event 0x0040 16 0xFFFF s1 else s1

/-- MERGE_READ_DONE. -/
def execMergeReadDone (key : Nat) (media : MediaEnv) (s : State) : Host.Outcome State Fault Refusal :=
  .next (if running s then mergeReadDone key media s else s)

/-! ## Folding and collection (R408 to R414) -/

/-- Maintenance runs: firmware is up and the array is not Offline (R450). -/
def maintains (s : State) : Bool := fullyUp s && !s.tab.offline

/-- A closed band that still has something to move, or nothing valid at all. -/
def movable (s : State) (b : Nat) : Bool :=
  !bandBusy s b && ((validIus s b).isEmpty || !(movesLeft s b).isEmpty)

/-- The element with the least key; the first among equals. -/
def leastBy {β : Type} (key : β → Nat) (l : List β) : Option β :=
  l.foldl (fun a x => match a with
    | none => some x
    | some y => if key x < key y then some x else some y) none

/-- The oldest closed G0 band of a group that can be folded. -/
def foldSource (s : State) (g : Nat) : Option Nat :=
  (leastBy (fun e => e.2.order)
    ((groupBands s g).filter fun e => decide (e.2.gen = 0) && e.2.closed && movable s e.1)).map (·.1)

/-- One G0 band is folded into G1 (R409); with none closed, the open one closes. -/
def foldOne (g : Nat) (s : State) : State :=
  match foldSource s g with
  | some b => relocate b 1 .host MediaEnv.clean s
  | none => match openBand s g 0 with
    | some (b, x) => if x.rows = 0 then s else closeBand b s
    | none => s

/-- SLC block sets in use exceed the allowance of a group (R411). -/
def overAllowance (s : State) (g : Nat) : Bool :=
  decide (slcAllowance s.ftl.pct (groupSets s g) < slcUsed s g)

/-- Folding of a group goes on: it starts at FOLD_HI, stops at FOLD_LO, and has no stop above the allowance (R408,
R411). -/
def foldRuns (s : State) (g : Nat) : Bool :=
  decide (s.ftl.foldHi ≤ slcOccupancy s) || overAllowance s g
    || (s.ftl.folding.contains g && decide (s.ftl.foldLo < slcOccupancy s))

/-- FOLD (R408, R409, R411, R414). -/
def execFold (group : Nat) (s : State) : Host.Outcome State Fault Refusal :=
  .next (
    if !maintains s ∨ s.ftl.nativeStop.contains group then s
    else if foldRuns s group then foldOne group { s with ftl.folding := insertNew group s.ftl.folding }
    else { s with ftl.folding := s.ftl.folding.filter fun h => !decide (h = group) })

/-- FOLD_IDLE_TIMEOUT (R408): no host command was fetched for 5 s. -/
def execFoldIdleTimeout (group : Nat) (s : State) : Host.Outcome State Fault Refusal :=
  .next (
    if !maintains s ∨ s.ftl.nativeStop.contains group then s
    else if s.ftl.foldLo < slcOccupancy s then foldOne group s
    else s)

/-- The victim of collection: the closed native band with the fewest valid IUs, then the one closed earliest (R412). -/
def gcVictim (s : State) (g : Nat) : Option (Nat × Band) :=
  leastBy (fun e => (validIus s e.1).length)
    (sortBy (fun e => e.2.order) ((groupBands s g).filter fun e => decide (e.2.gen ≠ 0) && e.2.closed && movable s e.1))

/-- GARBAGE_COLLECTION (R399, R412). -/
def execGarbageCollection (group : Nat) (s : State) : Host.Outcome State Fault Refusal :=
  .next (
    if !maintains s ∨ 8 ≤ freeBands s group then s
    else match gcVictim s group with
      | some (b, x) => relocate b (if x.gen = 1 then 2 else 3) .collect MediaEnv.clean s
      | none => s)

/-! ## Static wear levelling (R416) -/

/-- Erase counts of a die's good blocks. -/
def goodCounts (t : DieTab) : List Nat :=
  (List.range t.planes).flatMap fun p =>
    ((List.range t.blocks).filter fun b => !blockBad t p b).map (eraseCount t p)

/-- Erase-count spread of a die. -/
def spreadOf (t : DieTab) : Nat :=
  let l := goodCounts t
  listMax l - listMin (listMax l) l

/-- Blocks of a die that hold valid data: their erase count and band. -/
def validBlocks (s : State) (d : Nat) : List (Nat × Nat) :=
  s.tab.map.filterMap fun e =>
    if isSpecial e.2 ∨ locDie e.2 ≠ d then none
    else (bandAt s e.2).map fun x => (eraseCount (dieTab s d) (locPlane e.2) (locBlock e.2), x.1)

/-- A static move of the group is running. -/
def moveRuns (s : State) (g : Nat) : Bool :=
  s.ftl.rows.any fun r => decide (r.group = g) && r.src.isSome && !r.done
    && (match bandOf s r.band with | some x => decide (x.gen = 3) | none => false)

/-- STATIC_WEAR_MOVE (R416): a band queued for refresh is left to the refresh. -/
def execStaticWearMove (die : Nat) (s : State) : Host.Outcome State Fault Refusal :=
  .next (
    if !maintains s ∨ moveRuns s (dieGroup die) ∨ spreadOf (dieTab s die) ≤ s.ftl.spread then s
    else match leastBy (fun e : Nat × Nat => e.1) (validBlocks s die) with
      | none => s
      | some (_, b) =>
        if s.ftl.refresh.contains (refreshKey die b) ∨ bandBusy s b then s
        else relocate b 3 .move MediaEnv.clean { s with ftl.moves := satAdd s.ftl.moves 1 })

/-! ## Patrol and refresh (R418 to R420) -/

/-- PATROL_SCAN (R377, R418, R420): a closed band's block set on a die is read and reported where R377 says. -/
def execPatrolScan (die : Nat) (band : Nat) (corrected : Nat) (level : Nat) (s : State) :
    Host.Outcome State Fault Refusal :=
  .next (
    let b := bandKey (dieGroup die) band
    match bandOf s b with
    | some x =>
      if maintains s && x.closed && x.chans.contains (dieChan die) && readReports level corrected then
        refreshCandidate die b s
      else s
    | none => s)

/-- The refresh queue without its head. -/
def popRefresh (s : State) : State := refreshMark { s with ftl.refresh := s.ftl.refresh.drop 1 }

/-- The head of the refresh queue is relocated within its generation (R400, R419); it stays queued while some of its IUs
have found no row. -/
def refreshHead (env : MediaEnv) (s : State) : State :=
  match s.ftl.refresh with
  | [] => s
  | k :: _ =>
    let d := k / 2 ^ 32
    let b := k % 2 ^ 32
    match bandOf s b with
    | none => popRefresh s
    | some x =>
      let mine (s : State) : List (Nat × BitVec 40) := (movesLeft s b).filter fun e => decide (locDie e.2 = d)
      if x.gen = 0 ∧ !slcOpen s x.group then s
      else
        let s := moveItems b x.group x.gen .refresh env (mine s) s
        if (mine s).isEmpty then popRefresh s else s

/-- REFRESH (R419). -/
def execRefresh (media : MediaEnv) (s : State) : Host.Outcome State Fault Refusal :=
  .next (if maintains s then refreshHead media s else s)

end Sys2Proof.Machine
end

