-- ==== Sys2Proof/Machine/Queues.lean ====
section
/-! DEFINITION. Rings, doorbells, queues and the interrupts of completion queues (R293 to R297, R313, R316, R319 to R328,
R333, R545): doorbell writes, shadow sweeps, fetching, queue creation and deletion, enabling a controller, unmasking,
Abort and Asynchronous Event Request. -/
namespace Sys2Proof.Machine

/-- A host's access to a function's BAR reaches its registers: the function exists, memory space is enabled (for a VF, VF
MSE), it is in D0 and no FLR is running (R274, R283, R309). -/
def mmioOk (s : State) (f : Func) : Bool :=
  running s && fnPresent s f && !(fnOf s f).resetting && decide ((fnOf s f).cfg.pstate = 0)
    && (if f.vf = 0 then (fnOf s f).cfg.memSpace else (fnOf s ⟨f.pf, 0⟩).cfg.vfMse)

/-- FROZEN_WRITES rises (R545). -/
def frozenWrite (s : State) : State := { s with mqt.frozenWrites := satAdd s.mqt.frozenWrites 1 }

/-- A register write of a function: ignored without access, counted and ignored while Frozen (R545). -/
def fnWrite (f : Func) (k : State → State) (s : State) : State :=
  if !mmioOk s f then s else if (fnOf s f).frozen then frozenWrite s else k s

/-- A submission queue of a function. -/
def sqOf (s : State) (f : Func) (qid : Nat) : Option Sq :=
  (fnOf s f).ctrl.sqs.find? fun q => decide (q.qid = qid)

/-- A completion queue of a function. -/
def cqOf (s : State) (f : Func) (qid : Nat) : Option Cq :=
  (fnOf s f).ctrl.cqs.find? fun q => decide (q.qid = qid)

/-- A submission queue replaced. -/
def setSq (f : Func) (q : Sq) (s : State) : State :=
  modCtrl f (fun c => { c with sqs := mapWhere (fun x => decide (x.qid = q.qid)) (fun _ => q) c.sqs }) s

/-- A completion queue replaced. -/
def setCq (f : Func) (q : Cq) (s : State) : State :=
  modCtrl f (fun c => { c with cqs := mapWhere (fun x => decide (x.qid = q.qid)) (fun _ => q) c.cqs }) s

/-- The entry before `v` in a ring. -/
def ringPrev (size v : Nat) : Nat := (v + size - 1) % size

/-- An invalid doorbell: an Error asynchronous event with information 0 for a register of no queue and 1 for an invalid
value (R324; the numbers are NVMe Base 2.1's, log 24). -/
def doorbellError (f : Func) (info : Nat) (s : State) : State :=
  asyncEvent f { etype := 0, info := info, lid := 0x01 } s

/-- EventIdx of a queue is written. -/
def emitEventIdx (f : Func) (qid v : Nat) (s : State) : State := emit (.eventIdx (unitOf f) qid v) s

/-- A submission queue takes a tail; under shadow doorbells it is Polled with EventIdx just behind (R321). -/
def takeTail (f : Func) (q : Sq) (v : Nat) (s : State) : State :=
  if q.watch = .plain then setSq f { q with tail := v } s
  else
    let i := ringPrev q.size v
    emitEventIdx f q.qid i (setSq f { q with tail := v, watch := .polled, eventIdx := i } s)

/-- Completions that waited for room are posted, oldest first (R323). -/
def postWaiting (f : Func) (qid : Nat) : Nat → State → State
  | 0, s => s
  | n + 1, s =>
    match cqOf s f qid with
    | none => s
    | some q =>
      match q.waiting with
      | [] => s
      | e :: r =>
        if q.full then s
        else
          let s := postCqe f { q with waiting := r } e (retire ⟨.fn f, e.sqid, e.cid⟩ s)
          postWaiting f qid n (releaseFlushes f e.sqid (fnOf s f).ctrl.inflight.length s)

/-- The device learns a completion queue's head: entries are consumed and waiting completions posted (R296, R323). -/
def takeHead (f : Func) (q : Cq) (h : Nat) (s : State) : State :=
  intxFollow f (postWaiting f q.qid q.waiting.length (setCq f { q with head := h } s))

/-- A head value that consumes no more entries than the queue holds. -/
def headOk (q : Cq) (h : Nat) : Bool := decide (h < q.size) && decide ((h + q.size - q.head) % q.size ≤ q.count)

/-- Doorbell of a submission queue (R320, R321, R324). -/
def sqDoorbell (f : Func) (qid v : Nat) (s : State) : State :=
  match sqOf s f qid with
  | none => doorbellError f 0 s
  | some q =>
    if q.size ≤ v then doorbellError f 1 s
    else
      let s := if q.watch = .parked then { s with nvm.wakes := satAdd s.nvm.wakes 1 } else s
      takeTail f q v s

/-- Doorbell of a completion queue (R323, R324). -/
def cqDoorbell (f : Func) (qid v : Nat) (s : State) : State :=
  match cqOf s f qid with
  | none => doorbellError f 0 s
  | some q => if headOk q v then takeHead f q v s else doorbellError f 1 s

/-- Key of a doorbell among the recorded ones: completion queues follow the submission queues. -/
def doorbellKey (qid : Nat) (isCq : Bool) : Nat := if isCq then 65536 + qid else qid

/-- A doorbell write to a Frozen function is recorded (R545). -/
def recordDoorbell (f : Func) (key v : Nat) (s : State) : State :=
  { s with mqt.tails :=
      (s.mqt.tails.filter fun e => !decide (e.1 = unitOf f ∧ e.2.1 = key)) ++ [(unitOf f, key, v)] }

/-- MMIO_DOORBELL_WRITE (R320, R321, R323, R324, R545). Before the controller is enabled no queue exists. -/
def execMmioDoorbellWrite (f : Func) (qid : Nat) (isCq : Bool) (value : W32) (s : State) :
    Host.Outcome State Fault Refusal :=
  .next (
    let v := (fieldOf 0 16 value).toNat
    if !mmioOk s f then s
    else if (fnOf s f).frozen then recordDoorbell f (doorbellKey qid isCq) v s
    else if !(fnOf s f).ctrl.en then s
    else if isCq then cqDoorbell f qid v s else sqDoorbell f qid v s)

/-- SHADOW_SWEEP (R321, R322): a sweep of a Polled queue, or the further read of a Parking one. -/
def execShadowSweep (f : Func) (qid : Nat) (shadowTail : Nat) (s : State) : Host.Outcome State Fault Refusal :=
  .next (
    if fetchBlocked s f then s
    else match sqOf s f qid with
      | none => s
      | some q =>
        match q.watch with
        | .plain | .parked => s
        | .polled =>
          if q.size ≤ shadowTail then doorbellError f 1 s
          else if shadowTail = q.tail then s else takeTail f q shadowTail s
        | .parking =>
          if q.size ≤ shadowTail then doorbellError f 1 s
          else if shadowTail = q.tail then setSq f { q with watch := .parked } s else takeTail f q shadowTail s)

/-- PARK_TIMEOUT: a Polled queue showed no new tail for 100 µs (R321). -/
def execParkTimeout (f : Func) (qid : Nat) (s : State) : Host.Outcome State Fault Refusal :=
  .next (
    if fetchBlocked s f then s
    else match sqOf s f qid with
      | none => s
      | some q =>
        if q.watch = .polled then
          emitEventIdx f qid q.tail (setSq f { q with watch := .parking, eventIdx := q.tail } s)
        else s)

/-- CQ_HEAD_REREAD (R323): the shadow head is read and the queue's EventIdx follows at seen head - 1. -/
def execCqHeadReread (f : Func) (qid : Nat) (head : Nat) (s : State) : Host.Outcome State Fault Refusal :=
  .next (
    let x := fnOf s f
    if !(running s) || !x.cfg.bme || !x.ctrl.en || x.fatal || x.resetting || x.frozen || x.ctrl.shadow.isNone then s
    else match cqOf s f qid with
      | none => s
      | some q =>
        if !headOk q head then doorbellError f 1 s
        else
          let i := ringPrev q.size head
          let s := emitEventIdx f (65536 + qid) i (takeHead f { q with eventIdx := i } head s)
          s)

/-- Opcodes of R313. -/
def adminOpcode (op : W8) : Bool :=
  decide (op ∈ ([0x00, 0x04, 0x01, 0x05, 0x02, 0x06, 0x08, 0x09, 0x0A, 0x0C, 0x0D, 0x10, 0x11, 0x14, 0x15, 0x1C, 0x7C,
    0x80, 0x84, 0xC1, 0xC2, 0xC4, 0xC8, 0xC9, 0xCA, 0xCB] : List W8))

/-- Opcodes of R314. -/
def ioOpcode (op : W8) : Bool :=
  decide (op ∈ ([0x00, 0x01, 0x02, 0x04, 0x05, 0x08, 0x09, 0x0C, 0x0D, 0x0E, 0x11, 0x15, 0x84] : List W8))

/-- A completion status as event 0x0030 carries it: SCT and SC. -/
def statusCode (st : Status) : Nat := st.sct.toNat * 256 + st.sc.toNat

/-- Event 0x0030. -/
def updEvent (step d1 : Nat) (root : Bytes) (s : State) : State := eventWith 0x0030 step d1 root s

/-- A refused commit (R271 step 4). -/
def refuseCommit (t : Tag) (st : Status) (root : Bytes) (s : State) : State :=
  finish t st (updEvent 4 (statusCode st) root s)

/-- A code in Command Dword 10 that chooses the command's row and that the spec does not list: the commit action (R262),
Owner Command's ACTION (R197), the OP of Armature Access and Maquette (R491, R565), and the operations of Namespace
Management and Attachment and Virtualization Management (R313, R330; NVMe Base 2.1). -/
def unlistedCode (op : W8) (d : W32) : Bool :=
  if op = 0x10 then decide (2 < fieldOf 3 3 d)
  else if op = 0xC4 then decide (7 < fieldOf 0 16 d)
  else if op = 0xCA ∨ op = 0xC8 ∨ op = 0xC9 then decide (4 < fieldOf 0 4 d)
  else if op = 0x0D ∨ op = 0x15 then decide (1 < fieldOf 0 4 d)
  else if op = 0x1C then !(([1, 7, 8, 9] : List (BitVec 4)).contains (fieldOf 0 4 d))
  else false

/-- A command with such a code is completed: with Invalid Command Opcode from a VF, whose column of R313 refuses it, else
with Invalid Field; a commit is recorded as refused, a sanitize stopping it first (R260, R262, R271). -/
def refuseCode (t : Tag) (f : Func) (op : W8) (s : State) : State :=
  if f.vf ≠ 0 then finish t .invalidCommandOpcode s
  else if op = 0x10 then refuseCommit t (if s.nvm.sanitize.isSome then .sanitizeInProgress else .invalidField) [] s
  else finish t .invalidField s

/-- What COMMAND_FETCH does with a command now in flight that no row of its own completes: an opcode of neither R313 nor
R314 is Invalid Command Opcode, a fused one (FUSES is 0) and an unlisted code Invalid Field (R5, R313, R314). -/
def refuseUnlisted (f : Func) (sqe : Sqe) (s : State) : State :=
  let t : Tag := ⟨.fn f, sqe.sqid, sqe.cid⟩
  if !(if sqe.sqid = 0 then adminOpcode sqe.opcode else ioOpcode sqe.opcode) then finish t .invalidCommandOpcode s
  else if sqe.fuse ≠ 0 then finish t .invalidField s
  else if sqe.sqid = 0 ∧ unlistedCode sqe.opcode sqe.cdw10 = true then refuseCode t f sqe.opcode s
  else s

/-- COMMAND_FETCH (R5, R205, R325 to R328, R333, R343): the next entry of a queue joins the commands in flight, unless the
checks at fetch complete it, or it is another controller's or queue's turn. An uncorrectable error in the queue's context
makes the controller fatal with Internal Error. -/
def execCommandFetch (f : Func) (sqe : Sqe) (s : State) : Host.Outcome State Fault Refusal :=
  .next (
    match sqOf s f sqe.sqid with
    | none => s
    | some q =>
      if q.head = q.tail then s
      else if !fetchBlocked s f && !sqe.ctxOk then enterFatal f 0x06 s
      else
        let t : Tag := ⟨.fn f, sqe.sqid, sqe.cid⟩
        match fetchCmd f t sqe.opcode sqe.nsid s with
        | none => s
        | some (s', false) => s'
        | some (s', true) => refuseUnlisted f sqe s')

/-- FETCH_RESUME (R326). -/
def execFetchResume (f : Func) (s : State) : Host.Outcome State Fault Refusal :=
  .next (if running s && (fnOf s f).ctrl.stalled && budgetAllows s f then modCtrl f (fun c => { c with stalled := false }) s else s)

/-! ## Queue management -/

/-- The function whose queue a command came from; queue commands come from functions only (R313). -/
def withFunc (t : Tag) (k : Func → State → State) (s : State) : State :=
  match t.src with
  | .mgt => s
  | .fn f => k f s

/-- DELETE_IO_SQ (R313; NVMe Base 2.1, log 24): commands in flight from it end as aborted; sweeping ends. -/
def deleteSq (t : Tag) (qid : Nat) (f : Func) (s : State) : State :=
  if qid = 0 ∨ (sqOf s f qid).isNone then finish t .invalidQueueIdentifier s
  else
    let es := (fnOf s f).ctrl.inflight.filter fun e => decide (e.sqid = qid)
    let s := es.foldl (fun s e =>
      let u : Tag := ⟨.fn f, e.sqid, e.cid⟩
      finish u .abortedSqDeletion
        { s with ftl.wt := mapWhere (fun w => decide (w.tag = some u)) (fun w => { w with tag := none }) s.ftl.wt }) s
    finish t .success (modCtrl f (fun c => { c with sqs := c.sqs.filter (fun q => !decide (q.qid = qid)) }) s)

/-- DELETE_IO_SQ. -/
def execDeleteIoSq (tag : Tag) (qid : Nat) (s : State) : Host.Outcome State Fault Refusal :=
  .next (runAdmin (.deleteIoSq tag qid) tag 0x00 0 true true false (withFunc tag (deleteSq tag qid)) s)

/-- DELETE_IO_CQ (R313): refused while a submission queue uses it. -/
def deleteCq (t : Tag) (qid : Nat) (f : Func) (s : State) : State :=
  if qid = 0 ∨ (cqOf s f qid).isNone then finish t .invalidQueueIdentifier s
  else if (fnOf s f).ctrl.sqs.any fun q => decide (q.cqid = qid) then finish t .invalidQueueDeletion s
  else finish t .success
    (intxFollow f (modCtrl f (fun c => { c with cqs := c.cqs.filter (fun q => !decide (q.qid = qid)) }) s))

/-- DELETE_IO_CQ. -/
def execDeleteIoCq (tag : Tag) (qid : Nat) (s : State) : Host.Outcome State Fault Refusal :=
  .next (runAdmin (.deleteIoCq tag qid) tag 0x04 0 true true false (withFunc tag (deleteCq tag qid)) s)

/-- A queue size a controller accepts: 2 to 65,536 entries (R319, MQES). -/
def queueSizeOk (size : Nat) : Bool := decide (1 ≤ size ∧ size ≤ 0xFFFF)

/-- CREATE_IO_SQ (R313, R319, R321): a queue created under shadow doorbells starts Polled (log 25). -/
def createSq (t : Tag) (n : NewSq) (f : Func) (s : State) : State :=
  let c := (fnOf s f).ctrl
  if n.qid = 0 ∨ vqCount s f ≤ n.qid ∨ (sqOf s f n.qid).isSome then finish t .invalidQueueIdentifier s
  else if !queueSizeOk n.size then finish t .invalidQueueSize s
  else if !n.contiguous || decide (fieldOf 16 4 c.cc ≠ 6) || decide (n.base.toNat % 4096 ≠ 0) then
    finish t .invalidField s
  else if n.cqid = 0 ∨ vqCount s f ≤ n.cqid then finish t .invalidQueueIdentifier s
  else if (cqOf s f n.cqid).isNone then finish t .completionQueueInvalid s
  else
    let q : Sq := { qid := n.qid, size := n.size + 1, base := n.base, cqid := n.cqid, prio := n.prio, head := 0,
                    tail := 0, watch := if c.shadow.isSome then .polled else .plain, eventIdx := n.size }
    finish t .success (modCtrl f (fun c => { c with sqs := c.sqs ++ [q] }) s)

/-- CREATE_IO_SQ. -/
def execCreateIoSq (tag : Tag) (q : NewSq) (s : State) : Host.Outcome State Fault Refusal :=
  .next (runAdmin (.createIoSq tag q) tag 0x01 0 true true false (withFunc tag (createSq tag q)) s)

/-- MSI-X table size of a function (R284, R286). -/
def msixSize (f : Func) : Nat := if f.vf = 0 then 2048 else 64

/-- CREATE_IO_CQ (R297, R313, R319). -/
def createCq (t : Tag) (n : NewCq) (f : Func) (s : State) : State :=
  let c := (fnOf s f).ctrl
  if n.qid = 0 ∨ vqCount s f ≤ n.qid ∨ (cqOf s f n.qid).isSome then finish t .invalidQueueIdentifier s
  else if !queueSizeOk n.size then finish t .invalidQueueSize s
  else if !n.contiguous || decide (fieldOf 20 4 c.cc ≠ 4) || decide (n.base.toNat % 4096 ≠ 0) then
    finish t .invalidField s
  else if min (viCount s f) (msixSize f) ≤ n.iv then finish t .invalidInterruptVector s
  else
    let q : Cq := { qid := n.qid, size := n.size + 1, base := n.base, iv := n.iv, ien := n.ien, head := 0, tail := 0,
                    eventIdx := n.size, waiting := [], coalesced := 0 }
    finish t .success (modCtrl f (fun c => { c with cqs := c.cqs ++ [q] }) s)

/-- CREATE_IO_CQ. -/
def execCreateIoCq (tag : Tag) (q : NewCq) (s : State) : Host.Outcome State Fault Refusal :=
  .next (runAdmin (.createIoCq tag q) tag 0x05 0 true true false (withFunc tag (createCq tag q)) s)

/-- The admin submission queue of `n` entries. -/
def adminSq (n : Nat) : Sq :=
  { qid := 0, size := n, base := 0, cqid := 0, prio := 0, head := 0, tail := 0, watch := .plain, eventIdx := n - 1 }

/-- The admin completion queue of `n` entries: vector 0, interrupts enabled (NVMe Base 2.1). -/
def adminCq (n : Nat) : Cq :=
  { qid := 0, size := n, base := 0, iv := 0, ien := true, head := 0, tail := 0, eventIdx := n - 1, waiting := [],
    coalesced := 0 }

/-- CC and AQA select what the device supports: CSS 0, MPS up to 4, AMS 0 or 1, at least two admin entries each way
(R319, log 26). -/
def enableOk (cc aqa : W32) : Bool :=
  decide (fieldOf 4 3 cc = 0) && decide ((fieldOf 7 4 cc).toNat ≤ 4) && decide ((fieldOf 11 3 cc).toNat ≤ 1)
    && decide (1 ≤ (fieldOf 0 12 aqa).toNat) && decide (1 ≤ (fieldOf 16 12 aqa).toNat)

/-- CC.EN goes to 1 (R325, R525): the admin queues exist; CSTS.RDY follows at once once the restart is done. -/
def enableController (f : Func) (cc aqa : W32) (s : State) : State :=
  if (fnOf s f).ctrl.en || !cc.getLsbD 0 then s
  else if !enableOk cc aqa then
    ustChange (unitOf f) (hscMark 1 (modCtrl f (fun c => { c with cc := cc, en := true, cfs := true }) s))
  else
    let up := s.hold.restartDone && (decide (f.vf = 0) || (fnOf s f).online)
    let sq := adminSq ((fieldOf 0 12 aqa).toNat + 1)
    let cq := adminCq ((fieldOf 16 12 aqa).toNat + 1)
    let s := modCtrl f (fun c => { c with cc := cc, en := true, rdy := up, sqs := [sq], cqs := [cq] }) s
    ustChange (unitOf f) (if up then hscMark 0 s else s)

/-- CONTROLLER_ENABLE (R319, R325, R545). -/
def execControllerEnable (f : Func) (cc : W32) (aqa : W32) (s : State) : Host.Outcome State Fault Refusal :=
  .next (fnWrite f (enableController f cc aqa) s)

/-- Doorbell Buffer Config (R320, R321): every queue is Polled and its EventIdx written. -/
def shadowConfig (t : Tag) (shadow eventIdx : W64) (f : Func) (s : State) : State :=
  if shadow.toNat % 4096 ≠ 0 ∨ eventIdx.toNat % 4096 ≠ 0 then finish t .invalidField s
  else
    let s := modCtrl f (fun c => { c with shadow := some (shadow, eventIdx) }) s
    let s := (fnOf s f).ctrl.sqs.foldl (fun s q =>
      let i := ringPrev q.size q.tail
      emitEventIdx f q.qid i (setSq f { q with watch := .polled, eventIdx := i } s)) s
    finish t .success s

/-- DOORBELL_BUFFER_CONFIG (R320, R321). -/
def execDoorbellBufferConfig (tag : Tag) (shadow eventIdx : W64) (s : State) : Host.Outcome State Fault Refusal :=
  .next (runAdmin (.doorbellBufferConfig tag shadow eventIdx)
    tag 0x7C 0 true true false (withFunc tag (shadowConfig tag shadow eventIdx)) s)

/-! ## Interrupts -/

/-- A function's interrupt inputs change: when the mode changes, the PBA bits of the old one are cleared and every
interrupt-enabled queue with an entry not consumed signals in the new one (R293, R294). -/
def modeChange (f : Func) (msix msi dis : Bool) (s : State) : State :=
  let old := intMode s f
  let s := modFn f (fun x => { x with cfg.msixEn := msix, cfg.msiEn := msi, cfg.intDis := dis }) s
  if intMode s f = old then s
  else
    let s := intxFollow f (modFn f (fun x => { x with pba := [] }) s)
    (fnOf s f).ctrl.cqs.foldl (fun s q => if q.ien && q.unconsumed then signalCq f q s else s) s

/-- INTERRUPT_MODE_CHANGE (R293, R294). -/
def execInterruptModeChange (f : Func) (inputs : IntInputs) (s : State) : Host.Outcome State Fault Refusal :=
  .next (if running s && fnPresent s f then modeChange f inputs.msix inputs.msi inputs.disable s else s)

/-- A vector is unmasked: a pending bit sends its message (R294; "unmask and new interrupt"). -/
def releaseVector (f : Func) (v : Nat) (s : State) : State :=
  let x := fnOf s f
  if x.pba.contains v && !x.cfg.msixMask && x.unmasked.contains v then
    signalVector f v (setFn f { x with pba := x.pba.filter fun u => !decide (u = v) } s)
  else s

/-- The Function Mask is cleared: every pending unmasked vector sends its message. -/
def unmaskFunction (f : Func) (s : State) : State :=
  (fnOf s f).pba.foldl (fun s v => releaseVector f v s) (modFn f (fun x => { x with cfg.msixMask := false }) s)

/-- MSIX_VECTOR_UNMASK (R294, R297): one vector, or the Function Mask. -/
def execMsixVectorUnmask (f : Func) (vector : Option Nat) (s : State) : Host.Outcome State Fault Refusal :=
  .next (
    if !(running s && fnPresent s f) then s
    else match vector with
      | some v =>
        if msixSize f ≤ v then s
        else releaseVector f v (modFn f (fun x => { x with unmasked := insertNew v x.unmasked }) s)
      | none => unmaskFunction f s)

/-- INTMS or INTMC is written (R296): in MSI mode a queue that the write unmasks signals what it holds. -/
def writeIntMask (f : Func) (set : Bool) (v : W32) (s : State) : State :=
  let old := (fnOf s f).ctrl.intms
  let s := modCtrl f (fun c => { c with intms := if set then old ||| v else old &&& ~~~ v }) s
  match intMode s f with
  | .msi =>
    (fnOf s f).ctrl.cqs.foldl (fun s q =>
      if q.ien && q.unconsumed && old.getLsbD (min q.iv 31) then signalCq f q s else s) s
  | _ => intxFollow f s

/-- INTERRUPT_MASK_WRITE (R296, R545). -/
def execInterruptMaskWrite (f : Func) (set : Bool) (value : W32) (s : State) : Host.Outcome State Fault Refusal :=
  .next (fnWrite f (writeIntMask f set value) s)

/-- INTERRUPT_COALESCING_TIMEOUT (R316): the aggregation time has passed, so held-back queues signal. -/
def execInterruptCoalescingTimeout (f : Func) (s : State) : Host.Outcome State Fault Refusal :=
  .next (if !running s then s else (fnOf s f).ctrl.cqs.foldl (fun s q =>
    if q.coalesced = 0 then s else signalCq f q (setCq f { q with coalesced := 0 } s)) s)

/-! ## Abort and asynchronous events -/

/-- A command that has begun work that an abort does not recall: its data is all in the device, or it runs as a job of a
namespace or the device. -/
def begun (s : State) (f : Func) (e : Inflight) : Bool :=
  let t : Tag := ⟨.fn f, e.sqid, e.cid⟩
  decide (e.phase = .dataIn)
    || (s.tab.nss.any fun n => match n.2.job with
      | some (.delete u) => decide (u = t)
      | some (.format u _ _) => decide (u = t)
      | none => false)

/-- ABORT (R313, "At the edges"): Dword 0 bit 0 is 1 when the command was not aborted. -/
def abortCmd (t : Tag) (sqid : Nat) (cid : W16) (f : Func) (s : State) : State :=
  let u : Tag := ⟨.fn f, sqid, cid⟩
  match (fnOf s f).ctrl.inflight.find? fun e => decide (e.sqid = sqid ∧ e.cid = cid ∧ u ≠ t) with
  | none => complete t .success 1 s
  | some e =>
    if begun s f e then complete t .success 1 s
    else complete t .success 0
      (finish u .abortRequested (modCtrl f (fun c => { c with aers := c.aers.filter (fun a => !decide (a = u)) }) s))

/-- ABORT. -/
def execAbort (tag : Tag) (sqid : Nat) (cid : W16) (s : State) : Host.Outcome State Fault Refusal :=
  .next (runAdmin (.abort tag sqid cid) tag 0x08 0 true true false (withFunc tag (abortCmd tag sqid cid)) s)

/-- Asynchronous Event Request (R313, R324, R612): at most 16 outstanding; a held event completes it at once. -/
def requestEvent (t : Tag) (f : Func) (s : State) : State :=
  let c := (fnOf s f).ctrl
  if c.aers.contains t then s
  else if 16 ≤ c.aers.length then finish t .asyncEventLimitExceeded s
  else match c.events with
    | e :: r =>
      complete t .success (at32 0 (BitVec.ofNat 3 e.etype) ||| at32 8 (BitVec.ofNat 8 e.info) ||| at32 16 e.lid)
        (noteAen f e (emit (.asyncEvent t e) (modCtrl f (fun c => { c with events := r }) s)))
    | [] => modCtrl f (fun c => { c with aers := c.aers ++ [t] }) s

/-- ASYNCHRONOUS_EVENT_REQUEST. -/
def execAsynchronousEventRequest (tag : Tag) (s : State) : Host.Outcome State Fault Refusal :=
  .next (runAdmin (.asynchronousEventRequest tag) tag 0x0C 0 true true false (withFunc tag (requestEvent tag)) s)

end Sys2Proof.Machine
end

