-- ==== Sys2Proof/Machine/Io.lean ====
section
/-! DEFINITION. I/O commands (R314, R343 to R350, R404 to R406, R426 to R430, R440, R441, R452 to R455, R508, R509): the
write path, reads, deallocation, Flush, Verify, Compare and Salvage Read. -/
namespace Sys2Proof.Machine

/-! ## Common checks -/

/-- A registrant of a namespace is known by its controller, or by an equal non-zero Host Identifier (NVMe Base 2.1,
log 39). -/
def sameHost (s : State) (a b : Source) : Bool :=
  decide (a = b) || (match a, b with
    | .fn f, .fn g =>
      decide ((fnOf s f).ctrl.feats.hostId ≠ 0 ∧ (fnOf s f).ctrl.feats.hostId = (fnOf s g).ctrl.feats.hostId)
    | _, _ => false)

/-- A source is registered. -/
def registered (s : State) (r : Rsv) (src : Source) : Bool := r.regs.any fun e => sameHost s e.1 src

/-- Whether the source holds the reservation; under the all-registrants types every registrant does. -/
def holds (s : State) (r : Rsv) (src : Source) : Bool :=
  match r.holder with
  | none => false
  | some h => sameHost s h src || (decide (5 ≤ r.rtype.toNat) && registered s r src)

/-- A reservation bars a command (R314; the types are NVMe Base 2.1's, log 39). -/
def rsvBars (s : State) (r : Rsv) (src : Source) (write : Bool) : Bool :=
  r.holder.isSome && !holds s r src
    && (write || decide (r.rtype = 2 ∨ r.rtype = 4 ∨ r.rtype = 6))
    && !(decide (3 ≤ r.rtype.toNat) && registered s r src)

/-- Runs an I/O command of a function's queue on its namespace; after the fetch checks the reservation decides (R314). A
row names an I/O queue (log 12). -/
def runIo (t : Tag) (op : W8) (nsid : W32) (write : Bool) (k : Func → Ns → Option (Nat × W32) → State → State) (s : State) :
    State :=
  match t.src with
  | .mgt => s
  | .fn f =>
    if t.sqid = 0 then s
    else runFn f t op nsid (fun s => match nsOf s nsid.toNat, inflightOf s t with
      | some n, some e =>
        if e.phase ≠ .fetched then s
        else if rsvBars s n.rsv t.src write then finish t .reservationConflict s else k f n e.key s
      | none, some _ => finish t .invalidNamespaceOrFormat s
      | _, none => s) s

/-- Logical blocks of a 0-based NLB (R18). -/
def ioBlocks (io : Io) : Nat := io.nlb.toNat + 1

/-- The range lies in the namespace. -/
def inRange (n : Ns) (slba count : Nat) : Bool := decide (slba + count ≤ n.nsze.toNat)

/-- A transfer of `count` blocks is within MDTS, 2 MiB (R319). -/
def inMdts (n : Ns) (count : Nat) : Bool := decide (count * lbaBytes n.lbaf ≤ 2 ^ 21)

/-- SGL checks (R345, R346): descriptor types, and a total no shorter than the transfer. No descriptor stands for
PRPs. -/
def sglCheck (l : List SglDesc) (bytes : Nat) : Option Status :=
  if l.isEmpty then none
  else if l.any fun d => decide (d.kind = .bitBucket ∨ d.kind = .keyed) then some .sglDescriptorTypeInvalid
  else if listSum ((l.filter fun d => decide (d.kind = .dataBlock)).map (·.length)) < bytes then
    some .dataSglLengthInvalid
  else none

/-- The entry of a function's translation cache that a request to a host page hits with the permission it needs (R299). -/
def atsHit (x : Fn) (page : Nat) (toHost : Bool) : Option AtsEntry :=
  if x.cfg.atsEn then x.ats.entries.find? fun e => decide (e.page = page) && (if toHost then e.write else e.read) else none

/-- A request to a host page: Translated where the page hits, its entry then the most recently used; else Untranslated
(R298, R299). -/
def request (f : Func) (toHost : Bool) (s : State) (page : Nat) : State :=
  match atsHit (fnOf s f) page toHost with
  | some e =>
    emit (.dma (unitOf f) page toHost true) (modFn f (fun x => { x with
      ats.entries := x.ats.entries.filter (fun y => !decide (y.page = page)) ++ [{ e with user := none }] }) s)
  | none => emit (.dma (unitOf f) page toHost false) s

/-- The requests of a transfer. -/
def moves (f : Func) (toHost : Bool) (io : Io) (s : State) : State := io.pages.foldl (request f toHost) s

/-- The checks of a transfer, first one first. -/
def xferCheck (n : Ns) (io : Io) (sgl : List SglDesc) : Option Status :=
  if !inMdts n (ioBlocks io) then some .invalidField
  else match sglCheck sgl (ioBlocks io * (lbaBytes n.lbaf + metaBytes n.lbaf)) with
    | some st => some st
    | none => if inRange n io.slba.toNat (ioBlocks io) then none else some .lbaOutOfRange

/-! ## The write path (R401, R402, R426, R427, R509) -/

/-- Block offsets of unit `u` that a namespace has and a range leaves untouched. -/
def untouched (n : Ns) (slba count u : Nat) : List Nat :=
  (List.range n.perIu).filter fun i =>
    decide (u * n.perIu + i < n.nsze.toNat) && !(coveredBlocks n slba count u).contains i

/-- The range covers the whole unit. -/
def coversIu (n : Ns) (slba count u : Nat) : Bool := (untouched n slba count u).isEmpty

/-- Blocks of a range placed over those a version holds; `mk` gives a block by its place in the range. -/
def overlay (n : Ns) (slba count u : Nat) (mk : Nat → Blk) (base : Sparse Blk) : Sparse Blk :=
  (coveredBlocks n slba count u).foldl (fun m i => Sparse.set m i (mk (u * n.perIu + i - slba))) base

/-- The new version of unit `u`, and whether untouched blocks wait for a media read (R401, R426, R427). Where a lost map
shard hides what the unit held, its untouched blocks are poisoned (log 40). -/
def newVersion (s : State) (nsid : Nat) (n : Ns) (slba count u : Nat) (mk : Nat → Blk) (badLines : List Nat) :
    Sparse Blk × Bool :=
  let k := iuKey nsid u
  let rest := untouched n slba count u
  let poisonRest : Sparse Blk := rest.map fun i => (i, Blk.poisoned)
  match dramVer s k with
  | some (v, m) =>
    let b := overlay n slba count u mk (if badLines.contains k then spoil v else v).blocks
    (b, m && rest.any fun i => (Sparse.look b i).isNone)
  | none =>
    if rest.isEmpty then (overlay n slba count u mk [], false)
    else if mapOf s k = mapUnc ∨ s.hold.lostKeys.contains k then (overlay n slba count u mk poisonRest, false)
    else (overlay n slba count u mk [], !isSpecial (mapOf s k))

/-- Bytes a write of unit `u` makes newly dirty: none where a Dirty or Merging line takes it. -/
def newlyDirty (s : State) (k : Nat) : Nat :=
  match lineOf s k with
  | some l => if l.state = .packing then keyBytes s k else 0
  | none => keyBytes s k

/-- A write of these units is admitted to the cache (R509). -/
def admitted (s : State) (ks : List Nat) : Bool :=
  decide (dirtyBytes s + listSum (ks.map (newlyDirty s)) ≤ limitMib s * 2 ^ 20)

/-- Phase of a command in flight. -/
def setPhase (t : Tag) (p : CmdPhase) (s : State) : State :=
  match t.src with
  | .mgt => s
  | .fn f =>
    modCtrl f (fun c =>
      let l := mapWhere (fun e => decide (e.sqid = t.sqid ∧ e.cid = t.cid)) (fun e => { e with phase := p }) c.inflight
      { c with inflight := l }) s

/-- One unit is written: into the cache, or as a write-through unit of the command (R401, R509). -/
def writeUnit (t : Tag) (nsid : Nat) (n : Ns) (slba count : Nat) (mk : Nat → Blk) (badLines : List Nat)
    (wt : Option Bool) (u : Nat) (s : State) : State :=
  let k := iuKey nsid u
  let r := newVersion s nsid n slba count u mk badLines
  let s0 := nextSeq s
  let v : IuVer := { seq := s0.tab.writeSeq, blocks := r.1 }
  let s1 := markDelta (dirtyIu k s0)
  let s1 := match wt with
    | none => setLine k { state := if r.2 then .merging else .dirty, ver := v } s1
    | some forced =>
      let w : WtItem := { tag := some t, key := k, ver := v, forced := forced, merging := r.2 }
      { s1 with ftl.wt := s1.ftl.wt ++ [w] }
  if badLines.contains k && (dramVer s k).isSome && !coversIu n slba count u then event 0x0040 16 0xFFFF s1 else s1

/-- Units written by a command: admitted to the cache, where the command completes at once; or all in write-through,
where it completes after media commit, forced unless it asked for that itself (R34, R402, R509). -/
def writeUnits (t : Tag) (nsid : Nat) (n : Ns) (slba count : Nat) (mk : Nat → Blk) (badLines : List Nat) (fua : Bool)
    (us : List Nat) (s : State) : State :=
  let fits := admitted s (us.map (iuKey nsid))
  let put (wt : Option Bool) (s : State) : State := us.foldl (fun s u => writeUnit t nsid n slba count mk badLines wt u s) s
  if us.isEmpty then s
  else if fits && !fua then put none s
  else
    let s := setPhase t .dataIn (put (some !fits) s)
    if fits then s else { s with hold.wtWrites := satAdd s.hold.wtWrites 1 }

/-- The command completes unless units of it wait for media. -/
def finishWrite (t : Tag) (s : State) : State :=
  if s.ftl.wt.any fun w => decide (w.tag = some t) then s else finish t .success s

/-- A block of host data under the key the command captured (R33). -/
def hostBlk (cap : Option (Nat × W32)) (lb mb : Nat) (data host : Bytes) (j : Nat) : Blk :=
  { enc := cap, data := padTo lb (slice data (j * lb) lb), host := padTo mb (slice host (j * mb) mb), poison := false }

/-- A block of zeroes. -/
def zeroBlk (cap : Option (Nat × W32)) : Blk := { enc := cap, data := [], host := [], poison := false }

/-- WRITE (R33, R34, R314, R345 to R350, R395, R401, R402, R426 to R428, R509). -/
def execIoWrite (tag : Tag) (io : Io) (fua : Bool) (sgl : List SglDesc) (data : Bytes) (host : Bytes)
    (badLines : List Nat) (s : State) : Host.Outcome State Fault Refusal :=
  .next (runIo tag 0x01 io.nsid true (fun f n cap s =>
    match xferCheck n io sgl with
    | some st => finish tag st s
    | none =>
      finishWrite tag (writeUnits tag io.nsid.toNat n io.slba.toNat (ioBlocks io)
        (hostBlk cap (lbaBytes n.lbaf) (metaBytes n.lbaf) data host) badLines fua
        (iusOf n io.slba.toNat (ioBlocks io)) (moves f false io s))) s)

/-- Whole units of a range take a special value at once, the others are written through the cache (R406, R430). -/
def specialOrWrite (t : Tag) (nsid : Nat) (n : Ns) (slba count : Nat) (special : BitVec 40) (part : Blk) (s : State) :
    State :=
  let us := iusOf n slba count
  let s := (us.filter (coversIu n slba count)).foldl (fun s u => specialIu (iuKey nsid u) special s) s
  writeUnits t nsid n slba count (fun _ => part) [] false (us.filter fun u => !coversIu n slba count u) s

/-- WRITE_UNCORRECTABLE (R314, R430). -/
def execWriteUncorrectable (tag : Tag) (io : Io) (s : State) : Host.Outcome State Fault Refusal :=
  .next (runIo tag 0x04 io.nsid true (fun _ n _ s =>
    if !inRange n io.slba.toNat (ioBlocks io) then finish tag .lbaOutOfRange s
    else finishWrite tag
      (specialOrWrite tag io.nsid.toNat n io.slba.toNat (ioBlocks io) mapUnc Blk.poisoned s)) s)

/-- WRITE_ZEROES (R314): DEAC deallocates whole units; the others are written with zeroes. -/
def execWriteZeroes (tag : Tag) (io : Io) (deac : Bool) (s : State) : Host.Outcome State Fault Refusal :=
  .next (runIo tag 0x08 io.nsid true (fun _ n cap s =>
    let slba := io.slba.toNat
    if !inRange n slba (ioBlocks io) then finish tag .lbaOutOfRange s
    else if deac then finishWrite tag (specialOrWrite tag io.nsid.toNat n slba (ioBlocks io) mapNone (zeroBlk cap) s)
    else finishWrite tag (writeUnits tag io.nsid.toNat n slba (ioBlocks io) (fun _ => zeroBlk cap) [] false
      (iusOf n slba (ioBlocks io)) s)) s)

/-- DATASET_MANAGEMENT (R314, R406): with AD, every range is deallocated; the hints are ignored. NR is 0-based, so that
1 to 256 ranges arrive. -/
def execDatasetManagement (tag : Tag) (nsid : W32) (ad : Bool) (ranges : List DsmRange) (s : State) :
    Host.Outcome State Fault Refusal :=
  .next (runIo tag 0x09 nsid true (fun _ n cap s =>
    if !ad then finish tag .success s
    else if ranges.any fun r => !inRange n r.slba.toNat r.len.toNat then finish tag .lbaOutOfRange s
    else finishWrite tag (ranges.foldl (fun s r =>
      specialOrWrite tag nsid.toNat n r.slba.toNat r.len.toNat mapNone (zeroBlk cap) s) s)) s)

/-! ## Reads (R404, R429, R430, R440, R441) -/

/-- Where a block of a read comes from. -/
inductive BlkSrc where
  | good (b : Blk)
  | unrecovered
  /-- its map shard is lost (R526) -/
  | lost
  deriving DecidableEq, Repr

/-- The media answer for a command that limits retries: a unit that needs levels 5 to 9 goes to level 10 instead
(R378). -/
def limitEnv (limited : Bool) (env : MediaEnv) (e : BitVec 40) : MediaEnv :=
  if limited && decide (5 ≤ env.level ∧ env.level ≤ 9) then { env with lostDies := insertNew (locDie e) env.lostDies }
  else env

/-- One block of a read (R404, R429): from the cache, from what waits in write-through, else from the map. -/
def readBlk (s : State) (env : MediaEnv) (limited : Bool) (k i : Nat) : BlkSrc :=
  let ofBlk (b : Blk) : BlkSrc := if b.poison then .unrecovered else .good b
  let e := mapOf s k
  let media : BlkSrc :=
    if s.hold.lostKeys.contains k then .lost
    else if e = mapUnc then .unrecovered
    else match mediaFull s k, nsOf s (iuNs k) with
      | some v, some n =>
        let sk := (shadowSlot n k i).1
        if (badBlocks s (limitEnv limited env e) k e).contains i then .unrecovered
        else if !(shadowsOf s k).isEmpty && s.hold.lostKeys.contains sk then .lost
        else if badHost s (limitEnv limited env (mapOf s sk)) n k i then .unrecovered
        else ofBlk (v.blk i)
      | _, _ => .good Blk.zero
  match dramVer s k with
  | some (v, m) =>
    if m && (Sparse.look v.blocks i).isNone then media
    else if env.cacheBad.contains k then .unrecovered
    else ofBlk (v.blk i)
  | none => media

/-- The IU keys and block offsets of a range, in order. -/
def rangeBlocks (nsid : Nat) (n : Ns) (slba count : Nat) : List (Nat × Nat) :=
  (List.range count).map fun j => (iuKey nsid ((slba + j) / n.perIu), (slba + j) % n.perIu)

/-- A unit is read from media: the read and, where it is degraded, the reads of the parity engine join the die queues;
the counters and reports follow (R367, R377, R440, R441, R456). -/
def mediaRead (env : MediaEnv) (limited quiet : Bool) (k : Nat) (s : State) : State :=
  let e := mapOf s k
  if isSpecial e ∨ s.hold.lostKeys.contains k then s
  else
    let env := limitEnv limited env e
    let b := bandAt s e
    let o (c : DieClass) : DieOp := { cls := c, band := (b.map (·.1)).getD 0, page := locPage e, cost := 0 }
    let s1 := queueOp (locDie e) (o .hostRead) s
    let s1 := if readUnit s env e = 1 then
        countDegraded e (match b with
          | some (_, x) => (x.chans.filter fun c => !decide (c = dieChan (locDie e))).foldl
              (fun s c => queueOp (dieAt x.group c) (o .rebuildRead) s) s1
          | none => s1)
      else s1
    if quiet then s1 else reportRead s env (env.lostDies.contains (locDie e)) e s1

/-- The units of a range that a read takes from media, at least in part, and the shadow units of their host metadata. -/
def mediaUnits (s : State) (nsid : Nat) (n : Ns) (slba count : Nat) : List Nat :=
  let l := ((iusOf n slba count).map (iuKey nsid)).filter fun k => match dramVer s k with
    | some (_, m) => m
    | none => true
  l ++ ((l.filter fun k => !isSpecial (mapOf s k)).flatMap (shadowsOf s)).eraseDups

/-- A read of a row that is not yet resynchronised waits until it is (R444): the command stays in flight, and its row
comes again then. -/
def readWaits (s : State) (nsid : Nat) (n : Ns) (slba count : Nat) : Bool :=
  (mediaUnits s nsid n slba count).any fun k => unsynced s (mapOf s k)

/-- Reads a range: the first block that fails decides the status. -/
def readStatus (l : List BlkSrc) : Option Status :=
  match l.find? fun b => match b with | .good _ => false | _ => true with
  | some .lost => some .digestMismatch
  | some _ => some .unrecoveredReadError
  | none => none

/-- Bytes of the blocks read, each followed by its host metadata (log 41). -/
def readBytes (cap : Option (Nat × W32)) (n : Ns) (l : List BlkSrc) : Bytes :=
  l.flatMap fun b => match b with
    | .good b => blkData cap (lbaBytes n.lbaf) b ++ padTo (metaBytes n.lbaf) b.host
    | _ => List.replicate (lbaBytes n.lbaf + metaBytes n.lbaf) 0

/-- The blocks of a range as a command reads them. -/
def readRange (s : State) (env : MediaEnv) (limited : Bool) (nsid : Nat) (n : Ns) (slba count : Nat) : List BlkSrc :=
  (rangeBlocks nsid n slba count).map fun b => readBlk s env limited b.1 b.2

/-- The side effects of reading a range. -/
def touchRange (env : MediaEnv) (limited quiet : Bool) (nsid : Nat) (n : Ns) (slba count : Nat) (s : State) : State :=
  (mediaUnits s nsid n slba count).foldl (fun s k => mediaRead env limited quiet k s) s

/-- READ (R205, R314, R345, R346, R376 to R378, R404, R429, R430, R440, R441, R444). -/
def execIoRead (tag : Tag) (io : Io) (limited : Bool) (sgl : List SglDesc) (media : MediaEnv) (s : State) :
    Host.Outcome State Fault Refusal :=
  .next (runIo tag 0x02 io.nsid false (fun f n cap s =>
    match xferCheck n io sgl with
    | some st => finish tag st s
    | none =>
      if readWaits s io.nsid.toNat n io.slba.toNat (ioBlocks io) then s
      else
        let l := readRange s media limited io.nsid.toNat n io.slba.toNat (ioBlocks io)
        let s := touchRange media limited false io.nsid.toNat n io.slba.toNat (ioBlocks io) s
        match readStatus l with
        | some st => finish tag st s
        | none => finishData tag (readBytes cap n l) (moves f true io s)) s)

/-- COMPARE (R314): the blocks on the device against the host's. -/
def execIoCompare (tag : Tag) (io : Io) (data : Bytes) (media : MediaEnv) (s : State) :
    Host.Outcome State Fault Refusal :=
  .next (runIo tag 0x05 io.nsid false (fun f n cap s =>
    match xferCheck n io [] with
    | some st => finish tag st s
    | none =>
      if readWaits s io.nsid.toNat n io.slba.toNat (ioBlocks io) then s
      else
        let l := readRange s media false io.nsid.toNat n io.slba.toNat (ioBlocks io)
        let s := touchRange media false false io.nsid.toNat n io.slba.toNat (ioBlocks io) (moves f false io s)
        match readStatus l with
        | some st => finish tag st s
        | none => finish tag (if readBytes cap n l = data then .success else .compareFailure) s) s)

/-- VERIFY_IO (R314): the blocks are read and no data moves. -/
def execIoVerify (tag : Tag) (io : Io) (media : MediaEnv) (s : State) : Host.Outcome State Fault Refusal :=
  .next (runIo tag 0x0C io.nsid false (fun _ n _ s =>
    if !inRange n io.slba.toNat (ioBlocks io) then finish tag .lbaOutOfRange s
    else if readWaits s io.nsid.toNat n io.slba.toNat (ioBlocks io) then s
    else
      let l := readRange s media false io.nsid.toNat n io.slba.toNat (ioBlocks io)
      finish tag ((readStatus l).getD .success)
        (touchRange media false false io.nsid.toNat n io.slba.toNat (ioBlocks io) s)) s)

/-! ## Flush (R314) -/

/-- A command of the same queue is in flight ahead of the tag's. -/
def hasAhead (s : State) (f : Func) (t : Tag) : Bool :=
  match (fnOf s f).ctrl.inflight.find? fun e => decide (e.sqid = t.sqid) with
  | some e => !decide (e.cid = t.cid)
  | none => false

/-- FLUSH (R314): success once the commands ahead of it in its queue have completed. -/
def execIoFlush (tag : Tag) (nsid : W32) (s : State) : Host.Outcome State Fault Refusal :=
  .next (match tag.src with
    | .mgt => s
    | .fn f =>
      if tag.sqid = 0 then s
      else runFn f tag 0x00 nsid (fun s =>
        match nsOf s nsid.toNat with
        | some n => if rsvBars s n.rsv tag.src true then finish tag .reservationConflict s
          else if hasAhead s f tag then setPhase tag .held s else finish tag .success s
        | none => if hasAhead s f tag then setPhase tag .held s else finish tag .success s) s)

/-! ## Salvage Read (R452 to R455) -/

/-- Offset of the first block that is not recovered. -/
def firstLost (l : List BlkSrc) : Option Nat := firstIdx (fun b => match b with | .good _ => false | _ => true) l

/-- Blocks that are not recovered. -/
def lostCount (l : List BlkSrc) : Nat := (l.filter fun b => match b with | .good _ => false | _ => true).length

/-- Dword 0 of a Salvage Read (R454). -/
def salvageDw0 (count : Nat) (first : Option Nat) : W32 :=
  at32 0 (BitVec.ofNat 16 count) ||| at32 16 (BitVec.ofNat 16 (first.getD 0xFFFF))

/-- SALVAGE_READ (R452 to R455): nothing is relocated, queued for refresh or poisoned. -/
def execSalvageRead (tag : Tag) (nsid : W32) (slba : W64) (count : W16) (cont : Bool) (failedDies : Bool)
    (media : MediaEnv) (s : State) : Host.Outcome State Fault Refusal :=
  .next (runIo tag 0x84 nsid false (fun _ n cap s =>
    let c := count.toNat
    if c = 0 ∨ !inMdts n c then finish tag .invalidField s
    else if !inRange n slba.toNat c then finish tag .lbaOutOfRange s
    else if readWaits s nsid.toNat n slba.toNat c then s
    else
      let env := { media with answering := if failedDies then media.answering else [] }
      let l := readRange s env false nsid.toNat n slba.toNat c
      let s := touchRange env false true nsid.toNat n slba.toNat c s
      match firstLost l with
      | none => complete tag .success (salvageDw0 0 none) (emit (.data tag (readBytes cap n l)) s)
      | some i =>
        let m := if cont then lostCount l else 1
        let s := { s with ftl.salvageLost := satAdd s.ftl.salvageLost m }
        if cont then complete tag .success (salvageDw0 m (some i)) (emit (.data tag (readBytes cap n l)) s)
        else complete tag .unrecoveredReadError (salvageDw0 1 (some i)) s) s)

end Sys2Proof.Machine
end

