-- ==== Sys2Proof/Machine/Armature.lean ====
section
/-! DEFINITION. The Armature (chapter 13): slots and frames, the control law, the energy estimator, index pulses, trace
and inject, the admission tokens, tuning windows, Armature Access and log page 0xC5. -/
namespace Sys2Proof.Machine

/-! ## Slots -/

/-- A slot. -/
def slotOf (s : State) (i : Nat) : ArmSlot := Sparse.read (ArmSlot.start ArmCfg.disabled 7) s.arm.slots i

/-- A slot replaced. -/
def setSlot (i : Nat) (x : ArmSlot) (s : State) : State := { s with arm.slots := Sparse.set s.arm.slots i x }

/-- Bit `i` set in a byte-wide register field; the source rises with it (R608). -/
def bitSet (v : W8) (i : Nat) : W8 := v ||| ((1 : W8) <<< i)

/-- V_chg of the configuration record in force; 0 with none. -/
def vChg (s : State) : Nat := (s.hold.confInForce.map (·.vChgMv)).getD 0

/-- Slot 2's set-point: V_chg, and 0.6 V less while Measuring (R504). -/
def chargePoint (s : State) : Int := (vChg s : Int) - (if s.hold.chg = .measuring then 600 else 0)

/-- The configuration a frame uses: WATTS and THROTTLE in slot 0, V_chg in slot 2 (R471). -/
def effCfg (s : State) (i : Nat) (c : ArmCfg) : ArmCfg :=
  if i = 0 then { c with umax := (s.nvm.watts : Int) * 1000, setpoint := (s.arm.throttle : Int) * 100 }
  else if i = 2 then { c with setpoint := chargePoint s }
  else c

/-- The outer slot whose set-point destination is this inner slot. -/
def outerOf (s : State) (i : Nat) : Option Nat :=
  (List.range 8).find? fun o =>
    let c := (slotOf s o).cfg
    decide (c.points ≠ 0 ∧ c.role = 2 ∧ c.partner = i ∧ o ≠ i)

/-- The set-point of a frame: an inner slot's is its outer slot's output (R462, R465). -/
def setPointOf (s : State) (i : Nat) (c : ArmCfg) : Int :=
  if c.role = 1 then
    match (List.range 8).find? fun o => decide (o ≠ i ∧ (slotOf s o).cfg.role = 2 ∧ (slotOf s o).cfg.partner = i) with
    | some o => (slotOf s o).applied
    | none => c.setpoint
  else c.setpoint

/-- The newest value of a measurement source (R465). -/
def measOf (s : State) (src : Nat) : Int :=
  match src with
  | 1 => s.arm.meas.tj
  | 2 => s.arm.meas.pkgPwr
  | 3 => s.arm.meas.vhold
  | 4 => s.arm.meas.chgI
  | 5 => s.arm.eAvail
  | _ => 0

/-! ## The control law (R467, R468) -/

/-- Saturation to signed 32 bits. -/
def sat32 (v : Int) : Int := clampInt (-(2 ^ 31)) (2 ^ 31 - 1) v

/-- Arithmetic right shift, toward minus infinity. -/
def sar (v : Int) (n : Nat) : Int := v.fdiv (2 ^ n)

/-- A point of the gain table. -/
def tablePoint (c : ArmCfg) (k : Nat) : Int := c.table.getD k 0

/-- The interpolated gain at `e`, Q3.12. -/
def gainAt (c : ArmCfg) (e : Int) : Int :=
  let x := e + 16 * c.step
  if x ≤ 0 then tablePoint c 0
  else if 32 * c.step ≤ x then tablePoint c 32
  else
    let k := (x / c.step).toNat
    let f := (x % c.step) * 65536 / c.step
    tablePoint c k + sar ((tablePoint c (k + 1) - tablePoint c k) * f) 16

/-- What one frame computes. -/
structure FrameOut where
  sp     : Int
  e      : Int
  g      : Int
  integ  : Int
  out    : Int
  atMin  : Bool
  atMax  : Bool
  outClamped : Bool
  deriving DecidableEq, Repr

/-- The law of R467; `point` says that an injection goes to the output. -/
def law (c : ArmCfg) (integ meas sp inj : Int) (point : Bool) : FrameOut :=
  let sp := if point then sp else sat32 (sp + inj)
  let e := sat32 (sp - meas)
  let g := gainAt c e
  let p := sar (sar (c.kp * e) 16 * g) 12
  let i0 := integ + sar (sar (c.ki * e) 16 * g) 12
  let i := clampInt c.imin c.imax i0
  let u := p + i + c.offset + (if point then inj else 0)
  { sp := sp, e := e, g := g, integ := i, out := clampInt c.umin c.umax u, atMin := decide (i0 < c.imin),
    atMax := decide (c.imax < i0), outClamped := decide (u < c.umin ∨ c.umax < u) }

/-! ## The energy estimator (R67 to R70, R469, R470) -/

/-- Data widths of the dump groups (R67). -/
def dumpWidth (s : State) : Nat := listSum ((dumpGroups s).map fun g => (grpOf s g).n - 2)

/-- The capacitance in use, in µF: the lowest of the last 16 measurements, before the first one C_EOL_UF (R470, R506). -/
def capInUse (s : State) : Nat :=
  match s.tab.caps with
  | [] => (s.hold.confInForce.map (·.cEolUf)).getD 0
  | c :: r => listMin c r

/-- E_avail in mJ before the temperature gain: η × ½ × C × (V² − 144 V²), to the nearest mJ (R69, log 47). Below 12 V,
where the formula is negative and the spec gives no E_avail, it is 0 (DESIGN CHOICE, log 47). -/
def energyOf (etaPermille capUf : Nat) (vMv : Int) : Int :=
  if vMv < 12000 then 0
  else ((etaPermille : Int) * capUf * (vMv * vMv - 144000000) + 1000000000000) / 2000000000000

/-- The largest D in MiB for which E_need(D) is at most E (R67, R469): E_need(D) = 1.2 × P_F × (0.012 s + D / B_dump). -/
def limitFor (pfMw width : Nat) (eMj : Int) : Nat :=
  if pfMw = 0 then 0 else ((96 * width : Nat) * (10000 * eMj - 144 * (pfMw : Int)) / (12000 * (pfMw : Int))).toNat

/-- E_need(D) in mJ for D in MiB, rounded up (R67). -/
def needFor (pfMw width dMib : Nat) : Nat :=
  if width = 0 then 0 else (12 * pfMw * (12 * 96 * width + 1000 * dMib) + 10000 * 96 * width - 1) / (10000 * 96 * width)

/-- E_need(0) in mJ, rounded up (R67, R68): 1.2 × P_F × 0.012 s. -/
def needZero (s : State) : Nat :=
  match s.hold.confInForce with
  | none => 0
  | some r => (144 * r.pfMw + 9999) / 10000

/-- The bank is to hold a charge: Holding or Measuring, or failed (R504). -/
def bankCharged (c : ChgState) : Bool := decide (c = .holding ∨ c = .measuring ∨ c = .noBank ∨ c = .fault)

/-- HOLD_SHORT is set when E_avail is below E_need(0) of a bank that is to hold a charge (R87, chapter 14's failure table,
log 55; source 2). -/
def noteShort (s : State) : State :=
  if bankCharged s.hold.chg && s.hold.confInForce.isSome && decide (s.arm.eAvail < (needZero s : Int)) && !s.pwr.holdShort then
    evsSet 2 { s with pwr.holdShort := true }
  else s

/-- E_avail of slot 4's frame (R469). -/
def estimate (s : State) (c : ArmCfg) (vMv : Int) : Int :=
  match s.hold.confInForce with
  | none => 0
  | some r => (energyOf r.etaPermille (capInUse s) vMv * gainAt c (s.arm.meas.tj - s.tab.capTj)) / 4096

/-- Slot 4's frame. -/
def estimatorFrame (s : State) (c : ArmCfg) (integ meas inj : Int) (point : Bool) : FrameOut × Int :=
  let e := s.arm.meas.tj - s.tab.capTj
  let ea := estimate s c meas
  let d : Nat := match s.hold.confInForce with
    | none => 0
    | some r => limitFor r.pfMw (dumpWidth s) ea
  let u : Int := (d : Int) + (if point then inj else 0)
  ({ sp := 0, e := e, g := gainAt c e, integ := integ, out := if u < 0 then 0 else u, atMin := false, atMax := false,
     outClamped := decide (u < 0) }, ea)

/-! ## Trace and inject (R483 to R488) -/

/-- The test signal at a frame of an injection (R485). The sweep's samples lie within its bound of AMPL (log 49). -/
def injValue (c : Capture) : Int :=
  if c.samples ≤ c.frame then 0
  else match c.kind.toNat with
    | 0 => c.ampl
    | 1 => if c.frame / max 1 c.half % 2 = 0 then c.ampl else -c.ampl
    | 2 => if c.prbs.getLsbD 14 then c.ampl else -c.ampl
    | _ =>
      let b : Nat := c.ampl.natAbs + c.ampl.natAbs / 2 ^ 14
      clampInt (-(b : Int)) (b : Int) (Config.sineSample c.ampl c.phi.toNat)

/-- The capture after one more frame of its injection. -/
def injAdvance (c : Capture) : Capture :=
  let f := c.fStart + (c.fStop - c.fStart) * c.frame / max 1 (c.samples - 1)
  { c with frame := c.frame + 1,
           prbs := (c.prbs <<< 1) ||| (if c.prbs.getLsbD 14 != c.prbs.getLsbD 13 then 1 else 0),
           phi := c.phi + BitVec.ofNat 32 (65536 * f) }

/-- An entry joins the buffer (R483, R484). -/
def Capture.push (c : Capture) (e : TraceEntry) : Capture :=
  if !c.running then c
  else if c.skip ≠ 0 then { c with skip := (c.skip + 1) % c.div }
  else if c.entries.length < 1024 then
    { c with entries := c.entries ++ [e], skip := 1 % c.div, running := !(c.stop && decide (c.entries.length = 1023)) }
  else { c with entries := c.entries.drop 1 ++ [e], wrapped := true, skip := 1 % c.div }

/-- A signed value as 32 bits. -/
def sle32 (v : Int) : Bytes := leBytes 4 (BitVec.ofInt 32 v).toNat

/-- The 32 bytes of a trace entry (R483). -/
def traceBytes (e : TraceEntry) : Bytes :=
  le32 e.sample.toNat ++ le16 e.flags.toNat ++ leBytes 2 (BitVec.ofInt 16 e.gain).toNat ++ sle32 e.meas
    ++ sle32 e.setpoint ++ sle32 e.error ++ sle32 e.integ ++ sle32 e.output ++ sle32 e.inject

/-- FLAGS of a trace entry. -/
def traceFlags (pulse slip : Bool) (o : FrameOut) (inj fault : Bool) : W16 :=
  (if pulse then 1 else 0) ||| (if slip then 2 else 0) ||| (if o.atMin then 4 else 0) ||| (if o.atMax then 8 else 0)
    ||| (if o.outClamped then 16 else 0) ||| (if inj then 32 else 0) ||| (if fault then 64 else 0)

/-- ARMATURE packet for every ARM_DIV-th frame of ARM_SLOT (R592, R597). -/
def kscFrame (i : Nat) (e : TraceEntry) (s : State) : State :=
  if s.ksc.armSlot.toNat ≠ i then s
  else if s.ksc.armCount + 1 < s.ksc.armDiv then { s with ksc.armCount := s.ksc.armCount + 1 }
  else kscPutClass 3 ⟨0x05, leBytes 1 i ++ traceBytes e⟩ { s with ksc.armCount := 0 }

/-! ## Frames -/

/-- SENSOR_FAULT of a slot is set (R466, source 192 + i). -/
def sensorFaultSet (i : Nat) (s : State) : State :=
  evsSetIf (!s.arm.sensorFault.getLsbD i) (192 + i) { s with arm.sensorFault := bitSet s.arm.sensorFault i }

/-- T_J in 0.1 °C, as events and registers carry it. -/
def tjTenths (s : State) : Int := s.arm.meas.tj / 100

/-- The throttle state follows slot 0's output (R476): event 0x0002 and source 3 at each change. -/
def throttleFollow (out umax : Int) (s : State) : State :=
  let low := decide (out < umax - 500)
  let s := { s with arm.below := if low then s.arm.below + 1 else 0, arm.within := if low then 0 else s.arm.within + 1 }
  let change (b : Bool) (s : State) : State :=
    event 0x0002 (if b then 1 else 0) (BitVec.ofInt 32 (tjTenths s)).toNat (evsSet 3 { s with arm.throttled := b })
  if !s.arm.throttled && decide (10 ≤ s.arm.below) then change true s
  else if s.arm.throttled && decide (1000 ≤ s.arm.within) then change false s
  else s

/-- The output in effect of a slot drives what it drives: slot 1's is the token rate (R465, R474). -/
def driveOut (i : Nat) (v : Int) (s : State) : State := if i = 1 then { s with arm.rate := v.toNat } else s

/-- Slot 4 publishes E_avail and the dirty-data limit (R469, R508). -/
def publish (ea d : Int) (s : State) : State :=
  let old := limitMib s
  noteShort (noteLimit old { s with arm.eAvail := ea, arm.eLimit := d.toNat })

/-- One frame of a slot (R461 to R469, R472, R476, R483 to R486). -/
def runFrame (i : Nat) (pulse slip : Bool) (s : State) : State :=
  let x := slotOf s i
  let c := effCfg s i x.cfg
  let fb := c.fallback i
  let fault := s.arm.meas.faulted.contains c.measSrc
  let injecting := decide (x.mode = .inject) && decide (x.cap.frame < x.cap.samples)
  let inj := if injecting then injValue x.cap else 0
  let point := x.cap.point && injecting
  let integ := if x.faulted then 0 else x.integ
  let meas := measOf s c.measSrc
  let (o, ea) := if c.role = 3 then estimatorFrame s c integ meas inj point
    else (law c integ meas (setPointOf s i c) inj point, 0)
  let o := if fault then { o with integ := x.integ, out := fb, atMin := false, atMax := false, outClamped := false } else o
  let applied := if fault ∨ c.role = 2 ∨ c.role = 3 then o.out else if x.ran then x.output else fb
  let e : TraceEntry := { sample := x.frames, flags := traceFlags pulse slip o injecting fault, gain := o.g, meas := meas,
                          setpoint := o.sp, error := o.e, integ := o.integ, output := o.out, inject := inj }
  let cap := if x.mode = .trace ∨ x.mode = .inject then x.cap.push e else x.cap
  let cap := if injecting then injAdvance cap else cap
  let s := setSlot i { x with integ := o.integ, output := o.out, applied := applied, frames := x.frames + 1,
                              faulted := fault, ran := true, cap := cap } s
  let s := if fault then sensorFaultSet i s else s
  let s := kscFrame i e (driveOut i applied s)
  let s := if i = 0 then throttleFollow o.out c.umax s else s
  if i = 4 then publish (if fault then s.arm.eAvail else ea) o.out s else s

/-- A configuration written to a slot takes effect (R493): the integrator is clamped to the new limits. -/
def applyNext (i : Nat) (s : State) : State :=
  let x := slotOf s i
  match x.next with
  | none => s
  | some c => setSlot i { x with cfg := c, next := none, integ := clampInt c.imin c.imax x.integ } s

/-- An outer slot's frame at an index pulse or in its stead (R479, R480, R493). -/
def outerFrame (o : Nat) (pulse slip : Bool) (s : State) : State :=
  let s := setSlot o { slotOf s o with counter := 0 } s
  runFrame o pulse slip s

/-- A slip of an outer slot (R479 to R481): eight in a row switch it to the internal index. -/
def countSlip (o : Nat) (s : State) : State :=
  let s := { s with arm.slips := satAdd s.arm.slips 1 }
  let x := slotOf s o
  if x.consec + 1 < 8 then setSlot o { x with consec := x.consec + 1 } s
  else
    let s := setSlot o { x with consec := 0, cfg.indexSrc := 0 } s
    let s := evsSetIf (!s.arm.fallback.getLsbD o) (216 + o) { s with arm.fallback := bitSet s.arm.fallback o }
    event 0x0062 o s.arm.slips.toNat s

/-- The charger regulates: slots 2 and 3 run (R504). -/
def charging (c : ChgState) : Bool := decide (c = .charging ∨ c = .holding ∨ c = .measuring)

/-- The Armature computes a slot: the device runs (R49), ARMREF runs, firmware is up, during a flush only slot 4 goes on, and the hold-up pair
runs while the charger does, before handoff too (R472, R475, R495, R504). -/
def armRuns (s : State) (i : Nat) : Bool :=
  s.pwr.armrefOk && (s.pwr.flush.isNone || decide (i = 4))
    && (if i = 2 ∨ i = 3 then powered s && charging s.hold.chg else firmwareUp s)

/-- FLUSH_W in watts: the record's, or 30 without one (R498, R499). -/
def flushWatts (s : State) : Nat := match s.hold.confInForce with | some r => r.flushW | none => 30

/-- During a flush, package power above FLUSH_W lowers the FAB clock, never below 800 MHz; by how much the spec leaves
open (R516, log 143). -/
def holdFlushPower (s : State) : State :=
  if s.pwr.flush.isSome ∧ 1000 * (flushWatts s : Int) < s.arm.meas.pkgPwr ∧ 800 < s.pwr.fabMhz then
    drawn 1 { s with pwr.fabMhz := 800 + (draw 16 s).toNat % (s.pwr.fabMhz - 800) }
  else s

/-- SLOT_FRAME (R42, R459 to R479): a frame of a slot that is not an outer slot; the internal index pulse of its outer
slot occurs with the frame that brings its counter to DIV. -/
def slotFrame (i : Nat) (m : Meas) (s : State) : State :=
  let x := slotOf s i
  if !armRuns s i ∨ x.mode = .disabled ∨ x.cfg.role = 2 then s
  else
    let s := holdFlushPower { s with arm.meas := m }
    match outerOf s i with
    | none => runFrame i false false (applyNext i s)
    | some o =>
      let n := (slotOf s o).counter + 1
      let s := setSlot o { slotOf s o with counter := n } s
      if (slotOf s o).cfg.indexSrc = 0 ∧ (slotOf s o).cfg.div ≤ n then
        let s := runFrame i false false (applyNext i (applyNext o s))
        outerFrame o true false (setSlot o { slotOf s o with consec := 0 } s)
      else runFrame i false false s

/-- SLOT_FRAME. -/
def execSlotFrame (slot : Nat) (meas : Meas) (s : State) : Host.Outcome State Fault Refusal :=
  .next (slotFrame slot meas s)

/-- A pulse on ARM_SYNC at one outer slot (R479 to R481). -/
def syncPulse (o : Nat) (s : State) : State :=
  let x := slotOf s o
  if !armRuns s o ∨ x.mode = .disabled ∨ x.cfg.role ≠ 2 ∨ x.cfg.indexSrc ≠ 1 then s
  else if x.counter = 0 then countSlip o s
  else
    let slip := decide (x.counter ≠ x.cfg.div)
    let s := if slip then countSlip o s else setSlot o { x with consec := 0 } s
    outerFrame o true slip (applyNext x.cfg.partner (applyNext o s))

/-- ARM_SYNC_EDGE (R478 to R482): every outer slot with INDEX_SRC 1 takes the pulse, in ascending order. -/
def execArmSyncEdge (meas : Meas) (s : State) : Host.Outcome State Fault Refusal :=
  .next (
    if armRuns s 0 then (List.range 8).foldl (fun s o => syncPulse o s) { s with arm.meas := meas } else s)

/-- INDEX_PULSE_MISSING (R480): the counter has reached 2 × DIV without a pulse. -/
def execIndexPulseMissing (slot : Nat) (meas : Meas) (s : State) : Host.Outcome State Fault Refusal :=
  .next (
    let x := slotOf s slot
    if !armRuns s slot ∨ x.mode = .disabled ∨ x.cfg.role ≠ 2 ∨ x.cfg.indexSrc ≠ 1 ∨ x.counter < 2 * x.cfg.div then s
    else
      let s := countSlip slot { s with arm.meas := meas }
      outerFrame slot false true (applyNext x.cfg.partner (applyNext slot s)))

/-- TOKEN_REFILL (R474): every 1 µs one thousandth of the rate; the bucket holds one millisecond's worth. -/
def execTokenRefill (s : State) : Host.Outcome State Fault Refusal :=
  .next (whilePowered (fun s =>
    let m := s.arm.milli + s.arm.rate
    { s with arm.bucket := min s.arm.rate (s.arm.bucket + m / 1000), arm.milli := m % 1000 }) s)

/-! ## Modes and windows (R486 to R490) -/

/-- An injection ends: done or aborted (R488, sources 200 + i and 208 + i). -/
def endInject (i : Nat) (done : Bool) (s : State) : State :=
  let x := slotOf s i
  let old := limitMib s
  let s := noteLimit old { setSlot i { x with mode := .normal, cap.running := false } s with arm.heldLimit := none }
  if done then
    evsSetIf (!s.arm.injDone.getLsbD i) (200 + i) { s with arm.injDone := bitSet s.arm.injDone i }
  else evsSetIf (!s.arm.injAborted.getLsbD i) (208 + i) { s with arm.injAborted := bitSet s.arm.injAborted i }

/-- INJECT_DONE (R488): INJ_SAMPLES frames are done. -/
def execInjectDone (slot : Nat) (s : State) : Host.Outcome State Fault Refusal :=
  .next (
    let x := slotOf s slot
    if powered s ∧ x.mode = .inject ∧ x.cap.samples ≤ x.cap.frame then endInject slot true s else s)

/-- Windows close (R488, R490): an Inject on a default slot whose window closes is aborted, unless its last frame is
done. -/
def closeWindows (mask : W8) (s : State) : State :=
  let s := { s with arm.windows := s.arm.windows &&& ~~~ mask,
                    arm.remaining := if s.arm.windows &&& ~~~ mask = 0 then 0 else s.arm.remaining }
  (List.range 5).foldl (fun s i =>
    let x := slotOf s i
    if mask.getLsbD i && decide (x.mode = .inject) then endInject i (decide (x.cap.samples ≤ x.cap.frame)) s else s) s

/-- TUNING_WINDOW_EXPIRY (R490). -/
def execTuningWindowExpiry (s : State) : Host.Outcome State Fault Refusal :=
  .next (whilePowered (closeWindows s.arm.windows) s)

/-- Every slot's injection is aborted, and every window closes: power fail (R488, R490). -/
def armPowerFail (s : State) : State :=
  let s := { s with arm.windows := 0, arm.remaining := 0 }
  (List.range 8).foldl (fun s i => if (slotOf s i).mode = .inject then endInject i false s else s) s

/-! ## Armature Access (R491 to R493) -/

/-- The 252 bytes of a configuration block before its CRC (R492). -/
def cfgBody (c : ArmCfg) : Bytes :=
  padTo 252
    (leBytes 1 c.points ++ leBytes 1 c.role ++ leBytes 1 c.partner ++ leBytes 1 c.indexSrc ++ le32 c.period ++ le16 c.div
      ++ leBytes 1 c.measSrc ++ leBytes 1 c.outDst ++ le32 0 ++ sle32 c.step ++ sle32 c.kp ++ sle32 c.ki ++ sle32 c.imin
      ++ sle32 c.imax ++ sle32 c.umin ++ sle32 c.umax ++ sle32 c.offset ++ sle32 c.setpoint ++ leBytes 12 0
      ++ c.table.flatMap fun v => leBytes 2 (BitVec.ofInt 16 v).toNat)

/-- The configuration block of a slot. -/
def cfgBlock (c : ArmCfg) : Bytes := cfgBody c ++ le32 (crc32c (cfgBody c)).toNat

/-- A signed 32-bit field of a block. -/
def sfield (b : Bytes) (off : Nat) : Int := (BitVec.ofNat 32 (leVal (slice b off 4))).toInt

/-- The fields of a configuration block. -/
def parseCfg (b : Bytes) : ArmCfg where
  points := leVal (slice b 0 1)
  role := leVal (slice b 1 1)
  partner := leVal (slice b 2 1)
  indexSrc := leVal (slice b 3 1)
  period := leVal (slice b 4 4)
  div := leVal (slice b 8 2)
  measSrc := leVal (slice b 0x0A 1)
  outDst := leVal (slice b 0x0B 1)
  step := sfield b 0x10
  kp := sfield b 0x14
  ki := sfield b 0x18
  imin := sfield b 0x1C
  imax := sfield b 0x20
  umin := sfield b 0x24
  umax := sfield b 0x28
  offset := sfield b 0x2C
  setpoint := sfield b 0x30
  table := (List.range 33).map fun k => (BitVec.ofNat 16 (leVal (slice b (0x40 + 2 * k) 2))).toInt

/-- Frame period of a configuration in ARM clocks: an outer slot's is its inner slot's PERIOD × DIV (R464). -/
def periodOf (s : State) (c : ArmCfg) : Nat := if c.role = 2 then (slotOf s c.partner).cfg.period * c.div else c.period

/-- The sum of 64 / PERIOD over Enabled slots, as a fraction, with `c` in slot `i` (R464). -/
def loadOf (s : State) (i : Nat) (c : ArmCfg) : Nat × Nat :=
  (List.range 8).foldl (fun a j =>
    let d := if j = i then c else (slotOf s j).cfg
    let p := if d.role = 2 ∧ d.partner = i then c.period * d.div else periodOf s d
    if d.points = 0 ∨ p = 0 then a else (a.1 * p + 64 * a.2, a.2 * p)) (0, 1)

/-- The fields of a configuration that a slot takes (R459, R460, R464, R473, R492). -/
def cfgOk (s : State) (i : Nat) (c : ArmCfg) : Bool :=
  let d := ArmCfg.default 0 0 0 0 i
  let fixed := decide (5 ≤ i) || decide (c.role = d.role ∧ c.partner = d.partner ∧ c.measSrc = d.measSrc ∧ c.outDst = d.outDst)
  let own := decide (i < 5) || decide (c.outDst = 0) || (decide (c.outDst = 1) && decide (5 ≤ c.partner ∧ c.partner ≤ 7))
  let role := decide (c.role ≤ 3) && (decide (c.role ≠ 3) || decide (i = 4)) && decide (c.partner < 8)
  let timing := if c.role = 2 then decide (1 ≤ c.div ∧ c.div ≤ 256) else decide (250 ≤ c.period ∧ c.period ≤ 65535)
  let limits := decide (c.imin ≤ c.imax) && decide (c.umin ≤ c.umax) && decide (1 ≤ c.step ∧ c.step ≤ 2 ^ 26)
  let codes := decide (c.measSrc ≤ 5 ∧ c.outDst ≤ 4 ∧ c.indexSrc ≤ 1)
  let l := loadOf s i c
  decide (c.points = 33) && fixed && own && role && timing && limits && codes && decide (4 * l.1 ≤ 3 * l.2)

/-- The window a slot needs is open: slots 5 to 7 need none (R489). -/
def windowOk (s : State) (i : Nat) : Bool := decide (5 ≤ i) || s.arm.windows.getLsbD i

/-- A slot is disabled: its fallback applies, and an injection ends aborted (R472, R488). -/
def disableSlot (i : Nat) (s : State) : State :=
  let s := if (slotOf s i).mode = .inject then endInject i false s else s
  let x := slotOf s i
  let c := { x.cfg with points := 0 }
  let fb := c.fallback i
  let s := driveOut i fb (setSlot i { x with cfg := c, next := none, mode := .disabled, output := fb, applied := fb,
                                             ran := false, frames := 0, cap.running := false } s)
  if i = 4 then publish s.arm.eAvail 0 s else s

/-- A configuration is taken (R488, R493): at once by a Disabled slot, else at the slot's next frame or its pair's next
index pulse. -/
def takeCfg (i : Nat) (c : ArmCfg) (s : State) : State :=
  let x := slotOf s i
  if x.mode = .disabled then
    setSlot i { ArmSlot.start c i with cap := x.cap } s
  else setSlot i { x with next := some c } s

/-- READ_CONFIG (R491, R492): the configuration in force. -/
def execArmReadConfig (tag : Tag) (slot : BitVec 3) (length : W16) (s : State) : Host.Outcome State Fault Refusal :=
  .next (runAdmin (.armReadConfig tag slot length) tag 0xCA 0 true false true (fun s =>
    if length ≠ 256 then finish tag .invalidField s
    else finishData tag (cfgBlock (slotOf s slot.toNat).cfg) s) s)

/-- WRITE_CONFIG (R459, R464, R473, R488, R489, R491 to R493). -/
def writeConfig (t : Tag) (i : Nat) (length : W16) (block : Bytes) (s : State) : State :=
  let b := padTo 256 block
  let c := parseCfg b
  if length ≠ 256 then finish t .invalidField s
  else if crc32c (b.take 252) ≠ BitVec.ofNat 32 (leVal (slice b 252 4)) then finish t .digestMismatch s
  else if c.points ≠ 0 ∧ !cfgOk s i c then finish t .invalidField s
  else if !windowOk s i then finish t .stateConflict s
  else finish t .success (if c.points = 0 then disableSlot i s else takeCfg i c s)

/-- WRITE_CONFIG. -/
def execArmWriteConfig (tag : Tag) (slot : BitVec 3) (length : W16) (block : Bytes) (s : State) :
    Host.Outcome State Fault Refusal :=
  .next (runAdmin (.armWriteConfig tag slot length block)
    tag 0xCA 0 true false true (writeConfig tag slot.toNat length block) s)

/-- TRACE_DIV is 1 to 256 (R491). -/
def divOk (d : BitVec 9) : Bool := decide (1 ≤ d.toNat ∧ d.toNat ≤ 256)

/-- SET_MODE Normal (R488). -/
def setModeNormal (t : Tag) (i : Nat) (d : BitVec 9) (s : State) : State :=
  let x := slotOf s i
  if !divOk d then finish t .invalidField s
  else match x.mode with
    | .disabled => finish t .stateConflict s
    | .normal => finish t .success s
    | .trace => finish t .success (setSlot i { x with mode := .normal, cap.running := false } s)
    | .inject => finish t .success (endInject i false s)

/-- SET_MODE_NORMAL. -/
def execArmSetModeNormal (tag : Tag) (slot : BitVec 3) (traceDiv : BitVec 9) (s : State) :
    Host.Outcome State Fault Refusal :=
  .next (runAdmin (.armSetModeNormal tag slot traceDiv)
    tag 0xCA 0 true false true (setModeNormal tag slot.toNat traceDiv) s)

/-- SET_MODE Trace (R483, R484, R488). -/
def setModeTrace (t : Tag) (i : Nat) (stop : Bool) (d : BitVec 9) (s : State) : State :=
  let x := slotOf s i
  if !divOk d then finish t .invalidField s
  else if x.mode = .disabled ∨ x.mode = .inject then finish t .stateConflict s
  else
    finish t .success (setSlot i { x with mode := .trace, cap := { Capture.empty with
      mode := 1, stop := stop, div := d.toNat, running := true } } s)

/-- SET_MODE_TRACE. -/
def execArmSetModeTrace (tag : Tag) (slot : BitVec 3) (traceStop : Bool) (traceDiv : BitVec 9) (s : State) :
    Host.Outcome State Fault Refusal :=
  .next (runAdmin (.armSetModeTrace tag slot traceStop traceDiv)
    tag 0xCA 0 true false true (setModeTrace tag slot.toNat traceStop traceDiv) s)

/-- The parameters of an Inject are in range (R485, R491). -/
def injectOk (d : BitVec 9) (c13 c15 : W32) : Bool :=
  let kind := (fieldOf 0 2 c13).toNat
  let lo := (fieldOf 0 16 c15).toNat
  let hi := (fieldOf 16 16 c15).toNat
  divOk d && decide (fieldOf 16 16 c13 ≠ 0)
    && (decide (kind ≠ 1) || decide (1 ≤ lo)) && (decide (kind ≠ 3) || decide (1 ≤ lo ∧ lo ≤ 32767 ∧ 1 ≤ hi ∧ hi ≤ 32767))

/-- Some slot is in Inject mode. -/
def anyInject (s : State) : Bool := (List.range 8).any fun i => decide ((slotOf s i).mode = .inject)

/-- SET_MODE Inject (R485 to R489). -/
def setModeInject (t : Tag) (i : Nat) (d : BitVec 9) (c13 c14 c15 : W32) (s : State) : State :=
  let x := slotOf s i
  if !injectOk d c13 c15 then finish t .invalidField s
  else if x.mode = .disabled ∨ anyInject s ∨ !windowOk s i then finish t .stateConflict s
  else
    let cap : Capture := { Capture.empty with
      mode := 2, stop := true, div := d.toNat, running := true, kind := fieldOf 0 2 c13, point := c13.getLsbD 2,
      ampl := c14.toInt, samples := (fieldOf 16 16 c13).toNat, half := (fieldOf 0 16 c15).toNat,
      fStart := (fieldOf 0 16 c15).toNat, fStop := (fieldOf 16 16 c15).toNat }
    let held := if 2 ≤ i ∧ i ≤ 4 then some s.arm.eLimit else none
    finish t .success { setSlot i { x with mode := .inject, cap := cap } s with arm.heldLimit := held }

/-- SET_MODE_INJECT. -/
def execArmSetModeInject (tag : Tag) (slot : BitVec 3) (traceDiv : BitVec 9) (cdw13 cdw14 cdw15 : W32) (s : State) :
    Host.Outcome State Fault Refusal :=
  .next (runAdmin (.armSetModeInject tag slot traceDiv cdw13 cdw14 cdw15)
    tag 0xCA 0 true false true (setModeInject tag slot.toNat traceDiv cdw13 cdw14 cdw15) s)

/-- SET_WINDOW (R490, R491): MASK 0 closes every window. -/
def setWindow (t : Tag) (mask : W8) (seconds : W16) (s : State) : State :=
  if seconds.toNat < 1 ∨ 3600 < seconds.toNat then finish t .invalidField s
  else if mask = 0 then finish t .success (closeWindows s.arm.windows s)
  else finish t .success { s with arm.windows := s.arm.windows ||| mask, arm.remaining := seconds.toNat }

/-- SET_WINDOW. -/
def execArmSetWindow (tag : Tag) (mask : W8) (seconds : W16) (s : State) : Host.Outcome State Fault Refusal :=
  .next (runAdmin (.armSetWindow tag mask seconds) tag 0xCA 0 true false true (setWindow tag mask seconds) s)

/-- SET_POLICY (R477, R491, R502): THROTTLE takes effect, and is owed to the configuration record. -/
def setPolicy (t : Tag) (v : BitVec 11) (s : State) : State :=
  if v.toNat < 850 ∨ 1200 < v.toNat then finish t .invalidField s
  else finish t .success { s with arm.throttle := v.toNat, hold.policyDue := true }

/-- SET_POLICY. -/
def execArmSetPolicy (tag : Tag) (throttle : BitVec 11) (s : State) : Host.Outcome State Fault Refusal :=
  .next (runAdmin (.armSetPolicy tag throttle) tag 0xCA 0 true false true (setPolicy tag throttle) s)

/-! ## Log page 0xC5 (R494) -/

/-- The trace page of a slot. Its TIMESTAMP is a free value (log 38). -/
def tracePage (s : State) (i : Nat) : Bytes :=
  let x := slotOf s i
  let c := x.cap
  let b (v : Bool) (n : Nat) : Nat := if v then n else 0
  padTo 64
    (le32 0x54415A54 ++ le16 1 ++ leBytes 1 i ++ leBytes 1 c.mode ++ le16 c.entries.length ++ le16 c.div
      ++ leBytes 1 (b c.wrapped 1 + b c.running 2 + b (s.arm.injDone.getLsbD i) 4 + b (s.arm.injAborted.getLsbD i) 8)
      ++ leBytes 1 c.kind.toNat ++ leBytes 1 (b c.point 1) ++ leBytes 1 0 ++ le32 (periodOf s x.cfg)
      ++ le32 (match c.entries with | e :: _ => e.sample.toNat | [] => 0) ++ le64 (draw 64 s).toNat
      ++ sle32 c.ampl ++ le16 c.samples)
    ++ c.entries.flatMap traceBytes

/-- ARMATURE_TRACE_LOG (R315, R494). -/
def execArmatureTraceLog (tag : Tag) (lsp : BitVec 7) (length offset : Nat) (s : State) :
    Host.Outcome State Fault Refusal :=
  .next (runAdmin (.armatureTraceLog tag lsp length offset) tag 0x02 0 true true true (fun s =>
    if isVf tag.src then finish tag .invalidLogPage s
    else logReply tag (tracePage s (lsp.toNat % 8)) length offset (drawn 1 s)) s)

end Sys2Proof.Machine
end

