-- ==== Sys2Proof/Machine/Image.lean ====
section
/-! DEFINITION. Firmware images in slots G, A and B: layout, header, and the checks of P4, P5 and P6 (R101 to R108, R185). -/
namespace Sys2Proof.Machine

/-- First array byte of a slot (R142). -/
def slotBase : SlotId → Nat
  | .g => 0
  | .a => 192 * sectorBytes
  | .b => 512 * sectorBytes

/-- Bytes of a slot: 48 MiB. -/
def slotBytes : Nat := 0x3000000

/-- `n` bytes at an offset of a slot. -/
def slotRead (s : State) (i : SlotId) (off n : Nat) : Bytes := norBytes s (slotBase i + off) n

/-- Some unit of a range of a slot reads as uncorrectable (R108): the answer says so, or it lies under a suspended
operation (R159). -/
def rangeBad (s : State) (i : SlotId) (env : ImageEnv) (off n : Nat) : Bool :=
  (env.badUnits.any fun u => decide (off / 32 ≤ u ∧ u * 32 < off + n)) || suspendedIn s (slotBase i + off) n

/-- The fields of an image header (R102). -/
structure Header where
  magic      : Nat
  hdrVersion : Nat
  hdrSize    : Nat
  version    : Nat
  svn        : Nat
  blocks     : Nat
  blockSize  : Nat
  lastBytes  : Nat
  window     : Nat
  entry      : Nat
  sigOffset  : Nat
  sigLength  : Nat
  root       : Bytes
  deriving DecidableEq, Repr

/-- A header from its bytes (R102). -/
def parseHeader (b : Bytes) : Header where
  magic := leVal (slice b 0x000 4)
  hdrVersion := leVal (slice b 0x004 2)
  hdrSize := leVal (slice b 0x006 2)
  version := leVal (slice b 0x008 8)
  svn := leVal (slice b 0x010 4)
  blocks := leVal (slice b 0x014 4)
  blockSize := leVal (slice b 0x018 4)
  lastBytes := leVal (slice b 0x01C 4)
  window := leVal (slice b 0x020 2)
  entry := leVal (slice b 0x024 4)
  sigOffset := leVal (slice b 0x028 4)
  sigLength := leVal (slice b 0x02C 4)
  root := slice b 0x030 48

/-- Every header field has its stated value (R102, R103). ENTRY lies within block 0. -/
def headerOk (h : Header) : Bool :=
  decide (h.magic = 0x4D495A54 ∧ h.hdrVersion = 1 ∧ h.hdrSize = 4096 ∧ h.svn ≤ 64)
    && decide (1 ≤ h.blocks ∧ h.blocks ≤ 766 ∧ h.blockSize = 65536 ∧ 1 ≤ h.lastBytes ∧ h.lastBytes ≤ 65536)
    && decide (30 ≤ h.window ∧ h.window ≤ 900 ∧ h.entry < 65536)
    && decide (h.sigOffset = 0x10000 + h.blocks * 0x10000 ∧ 1 ≤ h.sigLength ∧ h.sigLength ≤ 65536)

/-- Header of the image in a slot. -/
def slotHeader (s : State) (i : SlotId) : Header := parseHeader (slotRead s i 0 4096)

/-- The block digest table (R101, R104). -/
def digestTable (s : State) (i : SlotId) (h : Header) : Bytes := slotRead s i 0x1000 (48 * h.blocks)

/-- Block `n` of an image (R101). -/
def imageBlock (s : State) (i : SlotId) (n : Nat) : Bytes := slotRead s i (0x10000 + n * 0x10000) 0x10000

/-- The signature block (R185). -/
def signatureBlock (s : State) (i : SlotId) (h : Header) : Bytes := slotRead s i h.sigOffset 11072

/-- ROOT_PUB of the signature block (R185). -/
def imageRootPub (s : State) (i : SlotId) (h : Header) : Bytes := slice (signatureBlock s i h) 0 0x810

/-- SIGNER_PUB of the signature block (R185). -/
def imageSignerPub (s : State) (i : SlotId) (h : Header) : Bytes := slice (signatureBlock s i h) 0x810 0x810

/-- ENDORSE_SIG is accepted: by ROOT_PUB, CTX 1 (R181, R185). -/
def endorseOk (s : State) (i : SlotId) (h : Header) (v : DualVerdict) : Bool :=
  sigOk (sigHead (slice (signatureBlock s i h) 0x1020 0xD90)) v 1 (keyDigest (imageRootPub s i h))

/-- HEADER_SIG is accepted: by SIGNER_PUB, CTX 2 (R181, R185). -/
def headerSigOk (s : State) (i : SlotId) (h : Header) (v : DualVerdict) : Bool :=
  sigOk (sigHead (slice (signatureBlock s i h) 0x1DB0 0xD90)) v 2 (keyDigest (imageSignerPub s i h))

/-- The root key of an image is a vendor root key that is not revoked (R105). -/
def rootKeyOk (s : State) (root : Bytes) : Bool :=
  let d := sha root
  match s.fuses.shadow with
  | some f => (List.range 4).any fun k => decide (f.roots[k]? = some d) && !((counters s).keyRevoke.maj.getLsbD k)
  | none => false

/-- P4 (R98, R103, R108): refusal reason of M4, 0 for none. -/
def checkP4 (s : State) (i : SlotId) (env : ImageEnv) : Nat :=
  if rangeBad s i env 0 4096 then 6
  else if !headerOk (slotHeader s i) then 1
  else if rangeBad s i env 0x1000 (48 * (slotHeader s i).blocks) then 6
  else 0

/-- P5 (R105, R181, R185): refusal reason of M4, 0 for none. -/
def checkP5 (s : State) (i : SlotId) (env : ImageEnv) : Nat :=
  let h := slotHeader s i
  if h.sigLength ≠ 11072 then 2
  else if rangeBad s i env h.sigOffset 11072 then 6
  else if !rootKeyOk s (imageRootPub s i h) || !endorseOk s i h env.endorse || !headerSigOk s i h env.header then 2
  else if digestBytes (sha (digestTable s i h)) ≠ h.root then 4
  else if h.svn < svnMin s then 3
  else 0

/-- P6 (R104, R107, R108): refusal reason of M4, 0 for none. -/
def checkP6 (s : State) (i : SlotId) (env : ImageEnv) : Nat :=
  let h := slotHeader s i
  let table := digestTable s i h
  let bad (n : Nat) : Nat :=
    if rangeBad s i env (0x10000 + n * 0x10000) 0x10000 then 6
    else if digestBytes (sha (imageBlock s i n)) ≠ slice table (48 * n) 48 then 5
    else 0
  (((List.range h.blocks).map bad).find? fun r => decide (r ≠ 0)).getD 0

/-- The checks of a candidate (R98): P4, then P5 or, on the fast path, none of its signatures (R123), then P6. -/
def checkImage (s : State) (i : SlotId) (env : ImageEnv) (fast : Bool) : Nat :=
  if checkP4 s i env ≠ 0 then checkP4 s i env
  else if !fast ∧ checkP5 s i env ≠ 0 then checkP5 s i env
  else checkP6 s i env

/-- The checks of R105 and R104 over a slot pass. -/
def imageOk (s : State) (i : SlotId) (env : ImageEnv) : Bool := decide (checkImage s i env false = 0)

/-- ROOT_DIGEST of the image in a slot. -/
def slotRoot (s : State) (i : SlotId) : Digest :=
  BitVec.ofNat 384 (leVal (slotHeader s i).root.reverse)

end Sys2Proof.Machine
end

