-- ==== Sys2Proof/Machine/Spdm.lean ====
section
/-! DEFINITION. IDE keys and the SPDM responder (R211 to R214): IDE_KM messages and the SPDM messages of R213. -/
namespace Sys2Proof.Machine

/-! ## IDE -/

/-- IDE state of a port. -/
def ideOf (s : State) : Pf → Ide
  | .p0 => s.trust.ide0
  | .p1 => s.trust.ide1

/-- IDE state of a port replaced; a change of a stream's state is source 130 or 131 (R608). -/
def setIde (p : Pf) (x : Ide) (s : State) : State :=
  let old := (ideOf s p).streams
  let s := match p with
    | .p0 => { s with trust.ide0 := x }
    | .p1 => { s with trust.ide1 := x }
  evsSetIf (decide (x.streams ≠ old)) (130 + pfNum p) s

/-- Streams of a port: the link stream 0 and selective streams 1 to 4 (R211). -/
def ideStreamOk (n : Nat) : Bool := decide (n ≤ 4)

/-- The sub-streams (R211). -/
def ideSubs : List IdeSub := [.pr, .npr, .cpl]

/-- A stream is Secure while every sub-stream has an active key in both directions (PCIe Base 6.0; log 21). -/
def ideSecure (x : Ide) (n : Nat) : Bool :=
  ideSubs.all fun sb => [true, false].all fun tx =>
    x.active.any fun k => decide (k.stream = n ∧ k.sub = sb ∧ k.tx = tx)

/-- Stream states after a change of active keys. -/
def ideFollow (x : Ide) (n : Nat) : Ide :=
  { x with streams := Sparse.put IdeState.insecure x.streams n (if ideSecure x n then .secure else .insecure) }

/-- A key is held at a position. -/
def Ide.holds (x : Ide) (k : IdeKeyRef) : Bool := x.keys.any fun e => decide (e.1 = k)

/-- The keys without those at some positions. -/
def Ide.dropKeys (x : Ide) (hit : IdeKeyRef → Bool) : List (IdeKeyRef × BitVec 256) := x.keys.filter fun e => !hit e.1

/-- KEY_PROG: refused with a non-zero status while that key set is active for the sub-stream (R212). -/
def ideKeyProg (p : Pf) (k : IdeKeyRef) (v : BitVec 256) (s : State) : State :=
  let x := ideOf s p
  if !ideStreamOk k.stream || x.active.contains k then
    emit (.ideKm p ((draw 7 s).toNat + 1)) (drawn 1 s)
  else emit (.ideKm p 0) (setIde p { x with keys := x.dropKeys (fun a => decide (a = k)) ++ [(k, v)] } s)

/-- K_SET_GO: a programmed key becomes the active one of its sub-stream and direction. -/
def ideSetGo (p : Pf) (k : IdeKeyRef) (s : State) : State :=
  let x := ideOf s p
  if x.holds k then
    let act := (x.active.filter fun a => !decide (a.stream = k.stream ∧ a.sub = k.sub ∧ a.tx = k.tx)) ++ [k]
    emit (.ideKm p 0) (setIde p (ideFollow { x with active := act } k.stream) s)
  else emit (.ideKm p 0) s

/-- K_SET_STOP: the key is active no more and is zeroised. -/
def ideSetStop (p : Pf) (k : IdeKeyRef) (s : State) : State :=
  let x := ideOf s p
  let x' := ideFollow { x with active := x.active.filter fun a => !decide (a = k),
                               keys := x.dropKeys fun a => decide (a = k) } k.stream
  emit (.ideKm p 0) (setIde p x' s)

/-- Every key of a port is zeroised and its streams leave Secure (R216, R309). -/
def ideClear (p : Pf) (s : State) : State := setIde p Ide.reset s

/-- A stream fails: it goes to Insecure and its keys are zeroised (R310). -/
def ideFail (p : Pf) (n : Nat) (s : State) : State :=
  let x := ideOf s p
  setIde p { keys := x.dropKeys fun a => decide (a.stream = n),
             active := x.active.filter fun a => !decide (a.stream = n),
             streams := Sparse.put IdeState.insecure x.streams n .insecure } s

/-! ## Responder instances -/

/-- An instance. -/
def spdmOf (s : State) : SpdmInst → Spdm
  | .doe .p0 => s.trust.spdmDoe0
  | .doe .p1 => s.trust.spdmDoe1
  | .mctp => s.trust.spdmMctp

/-- An instance replaced. -/
def setSpdm (i : SpdmInst) (x : Spdm) (s : State) : State :=
  match i with
  | .doe .p0 => { s with trust.spdmDoe0 := x }
  | .doe .p1 => { s with trust.spdmDoe1 := x }
  | .mctp => { s with trust.spdmMctp := x }

/-- The instance answers: firmware runs; a DOE mailbox exists for port 1 only when the ports are separate (R213, R279,
R572). -/
def spdmUp (s : State) : SpdmInst → Bool
  | .doe .p0 => running s
  | .doe .p1 => running s && bifurc s
  | .mctp => fullyUp s

/-- Open sessions device-wide (R213, R217). -/
def spdmSessions (s : State) : Nat :=
  s.trust.spdmDoe0.sessions.length + s.trust.spdmDoe1.sessions.length + s.trust.spdmMctp.sessions.length

/-- A response leaves; over MCTP as one of the management path (R584). -/
def spdmEmit (i : SpdmInst) (ok : Bool) (b : Bytes) (s : State) : State :=
  if i = .mctp then mgtRespond (.spdm i ok b) s else emit (.spdm i ok b) s

/-- A message of SPDM 1.3: version, code, two parameters, and the rest. -/
def spdmMsg (code p1 p2 : Nat) (body : Bytes) : Bytes := [0x13, BitVec.ofNat 8 code, BitVec.ofNat 8 p1, BitVec.ofNat 8 p2] ++ body

/-- An ERROR response with its code and data (SPDM 1.3). -/
def spdmError (i : SpdmInst) (code data : Nat) (s : State) : State := spdmEmit i false (spdmMsg 0x7F code data []) s

/-- A positive response. Over MCTP one longer than 4,096 bytes is announced as a large response, which waits for CHUNK_GET
(log 22). -/
def spdmReply (i : SpdmInst) (b : Bytes) (s : State) : State :=
  if i = .mctp ∧ 4096 < b.length then
    let h := (spdmOf s i).nextId % 256
    spdmEmit i false (spdmMsg 0x7F 0x0F 0 [BitVec.ofNat 8 h])
      (setSpdm i { spdmOf s i with chunk := some (h, 0, b, b.length) } s)
  else spdmEmit i true b s

/-- Runs a request on an instance that answers; one out of its order is Unexpected Request (SPDM 1.3). -/
def spdmDo (i : SpdmInst) (ok : Spdm → Bool) (k : State → State) (s : State) : Host.Outcome State Fault Refusal :=
  .next (if !spdmUp s i then s else if ok (spdmOf s i) then k s else spdmError i 0x04 0 s)

/-- Request codes of the messages that R213 lists (SPDM 1.3). -/
def spdmListed (code : Nat) : Bool :=
  ([0x81, 0x82, 0x83, 0x84, 0x86, 0xE0, 0xE1, 0xE3, 0xE4, 0xE5, 0xE8, 0xE9, 0xEC, 0xFE] : List Nat).contains code

/-- A request of a code that the responder does not support (R213). -/
def spdmUnsupported (i : SpdmInst) (code : Nat) (s : State) : State := spdmError i 0x07 code s

/-! ## Connection (R213) -/

/-- GET_VERSION starts the connection anew: SPDM 1.3. Both messages carry version 1.0 (SPDM 1.3). -/
def execSpdmGetVersion (inst : SpdmInst) (s : State) : Host.Outcome State Fault Refusal :=
  spdmDo inst (fun _ => true)
    (fun s =>
      let rsp : Bytes := [0x10, 0x04, 0, 0, 0, 1, 0x00, 0x13]
      spdmReply inst rsp (setSpdm inst { Spdm.reset with
        version := true, nextId := (spdmOf s inst).nextId, vca := [0x10, 0x84, 0, 0] ++ rsp } s)) s

/-- Flags of CAPABILITIES (R213): certificates, challenge, signed measurements, encryption, MAC, key exchange, heartbeat,
key update, chunks, and an Alias certificate in the chain. -/
def spdmFlags : Nat :=
  2 ^ 1 + 2 ^ 2 + 2 ^ 4 + 2 ^ 6 + 2 ^ 7 + 2 ^ 9 + 2 ^ 13 + 2 ^ 14 + 2 ^ 17 + 2 ^ 18

/-- CAPABILITIES; the limits in it are not given (log 147). -/
def spdmCaps : Bytes :=
  let (ct, size, most, _) := Config.spdmLimits
  spdmMsg 0x61 0 0 ([0, ct, 0, 0] ++ le32 spdmFlags ++ le32 size.toNat ++ le32 most.toNat)

/-- GET_CAPABILITIES. -/
def execSpdmGetCapabilities (inst : SpdmInst) (s : State) (body : Bytes := []) : Host.Outcome State Fault Refusal :=
  spdmDo inst (fun x => x.version)
    (fun s =>
      let x := spdmOf s inst
      spdmReply inst spdmCaps (setSpdm inst { x with caps := true, vca := x.vca ++ spdmMsg 0xE1 0 0 body ++ spdmCaps } s)) s

/-- One selected algorithm structure: type, one algorithm of two bytes. -/
def spdmAlg (type sel : Nat) : Bytes := leBytes 1 type ++ [0x20] ++ le16 sel

/-- ALGORITHMS (R213): DMTF measurements over SHA-384, ECDSA P-384, SHA-384; secp384r1, AES-256-GCM and the SPDM key
schedule where both were offered. -/
def spdmAlgorithms (kex : Bool) : Bytes :=
  let extra := if kex then spdmAlg 2 0x10 ++ spdmAlg 3 0x02 ++ spdmAlg 5 0x01 else []
  spdmMsg 0x63 (if kex then 3 else 0) 0
    (le16 (36 + extra.length) ++ [1, 2] ++ le32 4 ++ le32 0x80 ++ le32 2 ++ padTo 12 [] ++ [0, 0, 0, 0] ++ extra)

/-- NEGOTIATE_ALGORITHMS: ECDSA P-384 and SHA-384 must be offered; secp384r1 and AES-256-GCM allow sessions (R213). -/
def execSpdmNegotiateAlgorithms (inst : SpdmInst) (offers : SpdmOffer) (s : State) (body : Bytes := []) :
    Host.Outcome State Fault Refusal :=
  spdmDo inst (fun x => x.caps)
    (fun s =>
      let x := spdmOf s inst
      let kex := offers.secp384r1 && offers.aes256gcm
      if !(offers.ecdsaP384 && offers.sha384) then spdmError inst 0x01 0 s
      else spdmReply inst (spdmAlgorithms kex) (setSpdm inst { x with
        algs := true, kex := kex, vca := x.vca ++ spdmMsg 0xE3 0 0 body ++ spdmAlgorithms kex } s)) s

/-! ## Certificates -/

/-- The certificate chain of slot 0 (R213, SPDM 1.3): its length, the root's digest, the X.509 DeviceID certificate, then
the X.509 Alias certificate of this boot. -/
def certChain (s : State) : Bytes :=
  let certs := Config.devidX509 ++ s.trust.aliasX509
  le16 (52 + certs.length) ++ le16 0 ++ digestBytes Config.x509RootHash ++ certs

/-- A request and its response join the transcript of certificates. -/
def noteCerts (inst : SpdmInst) (b : Bytes) (s : State) : State :=
  setSpdm inst { spdmOf s inst with certs := (spdmOf s inst).certs ++ b } s

/-- GET_DIGESTS: slot 0 (R213). -/
def execSpdmGetDigests (inst : SpdmInst) (s : State) : Host.Outcome State Fault Refusal :=
  spdmDo inst (fun x => x.algs)
    (fun s =>
      let rsp := spdmMsg 0x01 1 1 (digestBytes (sha (certChain s)))
      spdmReply inst rsp (noteCerts inst (spdmMsg 0x81 0 0 [] ++ rsp) s)) s

/-- GET_CERTIFICATE: slot 0 only (R213). -/
def execSpdmGetCertificate (inst : SpdmInst) (slot offset length : Nat) (s : State) :
    Host.Outcome State Fault Refusal :=
  spdmDo inst (fun x => x.algs)
    (fun s =>
      let c := certChain s
      if slot ≠ 0 ∨ c.length ≤ offset then spdmError inst 0x01 0 s
      else
        let b := slice c offset (min length (c.length - offset))
        let rsp := spdmMsg 0x02 0 0 (le16 b.length ++ le16 (c.length - offset - b.length) ++ b)
        spdmReply inst rsp (noteCerts inst (spdmMsg 0x82 0 0 (le16 offset ++ le16 length) ++ rsp) s)) s

/-! ## Measurements (R214) -/

/-- Chain hash at the latest ledger signature record of this boot; a free value before one is written (R214, log 23). -/
def signatureHash (s : State) : Digest := s.evr.signHash.getD (draw 384 s)

/-- The content of a measurement block (R214). -/
def measBlock (s : State) (i : Nat) : Option Bytes :=
  match i with
  | 1 => some (digestBytes (measurement s 1))
  | 2 => some (digestBytes (measurement s 2))
  | 3 => some (digestBytes (measurement s 3))
  | 4 => some (digestBytes (measurement s 5))
  | 5 => some (digestBytes (measurement s 6))
  | 6 => some (digestBytes (measurement s 7))
  | 7 => some (digestBytes (measurement s 8))
  | 8 => some (le32 s.boot.svn.toNat ++ [BitVec.ofNat 8 s.boot.slot.toNat])
  | 9 => some (digestBytes (signatureHash s))
  | _ => none

/-- Value type of a block (R214; the numbers of SPDM 1.3): 0 immutable ROM, 1 mutable firmware, 2 hardware configuration,
3 firmware configuration, 4 freeform manifest, 7 security version; bit 7 is set for a raw value. -/
def measType (i : Nat) : Nat := ([0, 2, 0x82, 1, 1, 3, 3, 0x87, 4] : List Nat).getD (i - 1) 0

/-- A measurement block as SPDM 1.3 lays it out: index, DMTF specification, size, value type, value. -/
def measBytes (s : State) (i : Nat) : Bytes :=
  match measBlock s i with
  | some b => leBytes 1 i ++ [1] ++ le16 (b.length + 3) ++ leBytes 1 (measType i) ++ le16 b.length ++ b
  | none => []

/-- The blocks that GET_MEASUREMENTS answers with: 0 asks for their number, 0xFF for all (SPDM 1.3). -/
def measIndices (i : Nat) : Option (List Nat) :=
  if i = 0 then some []
  else if i = 0xFF then some [1, 2, 3, 4, 5, 6, 7, 8, 9]
  else if i ≤ 9 then some [i]
  else none

/-- MeasurementSummaryHash of CHALLENGE_AUTH and KEY_EXCHANGE_RSP: none, of the TCB's blocks, or of all (SPDM 1.3). -/
def measSummary (s : State) (kind : W8) : Bytes :=
  let of (l : List Nat) : Bytes := digestBytes (sha (l.flatMap (measBytes s)))
  if kind = 0 then [] else if kind = 0xFF then of [1, 2, 3, 4, 5, 6, 7, 8, 9]
  else of (([1, 2, 3, 4, 5, 6, 7, 8, 9] : List Nat).filter Config.tcbBlock)

/-! ## Signed responses -/

/-- What a signature of SPDM 1.3 covers: the version and the context before the digest of the transcript. -/
def spdmSigned (context : String) (transcript : Bytes) : Bytes :=
  (List.replicate 4 (ascii "dmtf-spdm-v1.3.*")).flatten ++ List.replicate (36 - context.length) 0 ++ ascii context
    ++ digestBytes (sha transcript)

/-- A signature by the Alias ECDSA key (R189, R213). -/
def spdmSign (s : State) (context : String) (transcript : Bytes) : Bytes :=
  ecSign (aliasSeed s) (spdmSigned context transcript) (hedge s)

/-- CHALLENGE answered: nonce, and a signature over the transcript, which it ends. -/
def spdmChallengeServed (inst : SpdmInst) (summary : W8) (body : Bytes) (s : State) : State :=
  let x := spdmOf s inst
  let n := beBytes 32 (draw 256 s).toNat
  let s := drawn 1 s
  let rsp := spdmMsg 0x03 0 1 (digestBytes (sha (certChain s)) ++ n ++ measSummary s summary ++ le16 0 ++ slice body 32 8)
  let sig := spdmSign s "responder-challenge_auth signing" (x.vca ++ x.certs ++ spdmMsg 0x83 0 summary.toNat body ++ rsp)
  spdmReply inst (rsp ++ sig) (signedOnce (setSpdm inst { x with certs := [] } s))

/-- CHALLENGE (R189, R202, R213); `body` is what follows the header: nonce and context. -/
def execSpdmChallenge (inst : SpdmInst) (slot : Nat) (s : State) (summary : W8 := 0) (body : Bytes := []) :
    Host.Outcome State Fault Refusal :=
  spdmDo inst (fun x => x.algs)
    (fun s => if slot ≠ 0 then spdmError inst 0x01 0 s
      else withEntropy (.spdmChallenge inst slot summary body) (spdmChallengeServed inst summary body)
        (spdmError inst 0x05 0) s) s

/-- GET_MEASUREMENTS answered, signed by the Alias key when asked; a signature ends the transcript. -/
def spdmMeasServed (inst : SpdmInst) (index : Nat) (signed : Bool) (body : Bytes) (s : State) : State :=
  match measIndices index with
  | none => spdmError inst 0x01 0 s
  | some l =>
    let x := spdmOf s inst
    let rec' := l.flatMap (measBytes s)
    let n := beBytes 32 (draw 256 s).toNat
    let s := drawn 1 s
    let rsp := spdmMsg 0x60 (if index = 0 then 9 else 0) 0
      (leBytes 1 l.length ++ leBytes 3 rec'.length ++ rec' ++ n ++ le16 0 ++ slice body (if signed then 33 else 0) 8)
    let m := x.meas ++ spdmMsg 0xE0 (if signed then 1 else 0) index body ++ rsp
    if signed then
      let sig := spdmSign s "responder-measurements signing" (x.vca ++ m)
      spdmReply inst (rsp ++ sig) (signedOnce (setSpdm inst { x with meas := [] } s))
    else spdmReply inst rsp (setSpdm inst { x with meas := m } s)

/-- GET_MEASUREMENTS (R214); every response carries a nonce, which needs entropy (R202). -/
def execSpdmGetMeasurements (inst : SpdmInst) (index : Nat) (signed : Bool) (s : State) (body : Bytes := []) :
    Host.Outcome State Fault Refusal :=
  spdmDo inst (fun x => x.algs)
    (withEntropy (.spdmGetMeasurements inst index signed body) (spdmMeasServed inst index signed body)
      (spdmError inst 0x05 0)) s

/-! ## Sessions (R213; the key schedule of SPDM 1.3) -/

/-- HMAC of the key schedule. -/
def hkdfMac (k : Digest) (b : Bytes) : Digest := Config.hmac384 (digestBytes k) b

/-- HKDF-Expand to 48 bytes with a label and a context. -/
def hkdfExpand (k : Digest) (label : String) (ctx : Bytes) : Digest :=
  hkdfMac k (le16 48 ++ ascii "spdm1.3 " ++ ascii label ++ ctx ++ [1])

/-- The handshake secret of a DHE secret. -/
def handshakeSecret (dhe : Bytes) : Digest := Config.hmac384 (digestBytes 0) dhe

/-- The master secret. -/
def masterSecret (h : Digest) : Digest := hkdfMac (hkdfExpand h "derived" []) (digestBytes 0)

/-- Verify data of a direction's handshake secret over a transcript. -/
def verifyData (secret : Digest) (transcript : Bytes) : Digest :=
  hkdfMac (hkdfExpand secret "finished" []) (digestBytes (sha transcript))

/-- The two secrets of the handshake, or of application data. -/
def dirSecrets (k : Digest) (phase : String) (transcript : Bytes) : Digest × Digest :=
  let th := digestBytes (sha transcript)
  (hkdfExpand k ("req " ++ phase ++ " data") th, hkdfExpand k ("rsp " ++ phase ++ " data") th)

/-- KEY_EXCHANGE opens a session: at most 2 per instance and 4 device-wide (R213). The ephemeral scalar, the random data
and, where hedged, the signature draw on the DRBG. -/
def spdmKeyExchangeServed (inst : SpdmInst) (summary : W8) (body : Bytes) (s : State) : State :=
  let x := spdmOf s inst
  if 2 ≤ x.sessions.length ∨ 4 ≤ spdmSessions s then spdmError inst 0x0A 0 s
  else
    let k := (draw 384 s).toNat % (ecOrder - 1) + 1
    let n := beBytes 32 (draw 256 (drawn 1 s)).toNat
    let opaqueData := Config.spdmOpaque (s.free + 2)
    let s := drawn 3 s
    let id := leVal (slice body 0 2) + 65536 * (x.nextId % 65536)
    let rsp := spdmMsg 0x64 Config.spdmLimits.2.2.2.toNat 0
      (le16 x.nextId ++ [0, 0] ++ n ++ padTo 96 (Config.ecPoint k) ++ measSummary s summary ++ le16 opaqueData.length
        ++ opaqueData)
    let m := x.vca ++ digestBytes (sha (certChain s)) ++ spdmMsg 0xE4 summary.toNat 0 body ++ rsp
    let sig := spdmSign s "responder-key_exchange_rsp signing" m
    let h := handshakeSecret (Config.ecdh k (slice body 36 96))
    let (a, b) := dirSecrets h "hs" (m ++ sig)
    let v := digestBytes (verifyData b (m ++ sig))
    spdmReply inst (rsp ++ sig ++ v) (signedOnce (setSpdm inst { x with
      nextId := x.nextId + 1,
      sessions := x.sessions ++ [{ id := id, done := false, transcript := m ++ sig ++ v, handshake := h, reqSecret := a,
                                   rspSecret := b }] } s))

/-- KEY_EXCHANGE; `body` holds the requester's session ID, policy, random and exchange data. -/
def execSpdmKeyExchange (inst : SpdmInst) (slot : Nat) (s : State) (summary : W8 := 0) (body : Bytes := []) :
    Host.Outcome State Fault Refusal :=
  spdmDo inst (fun x => x.algs && x.kex)
    (fun s => if slot ≠ 0 then spdmError inst 0x01 0 s
      else withEntropy (.spdmKeyExchange inst slot summary body) (spdmKeyExchangeServed inst summary body)
        (spdmError inst 0x05 0) s) s

/-- An instance has an established session. -/
def sessionUp (x : Spdm) (id : Nat) : Bool := x.sessions.any fun e => decide (e.id = id) && e.done

/-- The sessions without one. -/
def dropSession (x : Spdm) (id : Nat) : Spdm := { x with sessions := x.sessions.filter fun e => !decide (e.id = id) }

/-- A session of an instance changed. -/
def modSession (inst : SpdmInst) (id : Nat) (g : SpdmSess → SpdmSess) (s : State) : State :=
  setSpdm inst { spdmOf s inst with sessions := mapWhere (fun e => decide (e.id = id)) g (spdmOf s inst).sessions } s

/-- A session that FINISH establishes: the secrets of application data over the whole transcript. -/
def SpdmSess.established (e : SpdmSess) (t : Bytes) : SpdmSess :=
  let d := dirSecrets (masterSecret e.handshake) "app" t
  { e with done := true, transcript := t, reqSecret := d.1, rspSecret := d.2 }

/-- FINISH establishes the session whose verify data match; otherwise the session ends. -/
def spdmFinish (inst : SpdmInst) (session : Nat) (mac : Digest) (s : State) : State :=
  match (spdmOf s inst).sessions.find? fun e => decide (e.id = session) with
  | none => s
  | some e =>
    let t := e.transcript ++ spdmMsg 0xE5 0 0 []
    let rsp := spdmMsg 0x65 0 0 []
    if mac = verifyData e.reqSecret t then
      spdmReply inst rsp (modSession inst session (fun e => e.established (t ++ digestBytes mac ++ rsp)) s)
    else spdmError inst 0x06 0 (setSpdm inst (dropSession (spdmOf s inst) session) s)

/-- FINISH. -/
def execSpdmFinish (inst : SpdmInst) (session : Nat) (mac : Digest) (s : State) : Host.Outcome State Fault Refusal :=
  spdmDo inst (fun x => x.sessions.any fun e => decide (e.id = session) && !e.done) (spdmFinish inst session mac) s

/-- The next secret of a direction. -/
def nextSecret (k : Digest) : Digest := hkdfExpand k "traffic upd" []

/-- A session after KEY_UPDATE: operation 1 renews the requester's keys, 2 both directions', 3 verifies the new ones. -/
def SpdmSess.updated (op : W8) (e : SpdmSess) : SpdmSess :=
  { e with reqSecret := if op = 1 ∨ op = 2 then nextSecret e.reqSecret else e.reqSecret,
           rspSecret := if op = 2 then nextSecret e.rspSecret else e.rspSecret }

/-- KEY_UPDATE. -/
def execSpdmKeyUpdate (inst : SpdmInst) (session : Nat) (s : State) (op : W8 := 1) (mark : W8 := 0) : Host.Outcome State Fault Refusal :=
  spdmDo inst (fun x => sessionUp x session)
    (fun s => if op = 1 ∨ op = 2 ∨ op = 3 then
        spdmReply inst (spdmMsg 0x69 op.toNat mark.toNat []) (modSession inst session (SpdmSess.updated op) s)
      else spdmError inst 0x01 0 s) s

/-- HEARTBEAT. -/
def execSpdmHeartbeat (inst : SpdmInst) (session : Nat) (s : State) : Host.Outcome State Fault Refusal :=
  spdmDo inst (fun x => sessionUp x session) (spdmReply inst (spdmMsg 0x68 0 0 [])) s

/-- END_SESSION. -/
def execSpdmEndSession (inst : SpdmInst) (session : Nat) (s : State) : Host.Outcome State Fault Refusal :=
  spdmDo inst (fun x => sessionUp x session)
    (fun s => spdmReply inst (spdmMsg 0x6C 0 0 []) (setSpdm inst (dropSession (spdmOf s inst) session) s)) s

/-- CHUNK_RESPONSE: handle, number, last mark, size, in the first chunk the size of the whole, and the bytes. -/
def chunkMsg (h n : Nat) (b : Bytes) (whole : Nat) : Bytes :=
  spdmMsg 0x06 (if b.length ≤ 4096 then 1 else 0) h
    (le16 n ++ [0, 0] ++ le32 (min 4096 b.length) ++ (if n = 0 then le32 whole else []) ++ b.take 4096)

/-- CHUNK_GET: the next chunk of a large response. -/
def execSpdmChunkGet (inst : SpdmInst) (handle seq : Nat) (s : State) : Host.Outcome State Fault Refusal :=
  spdmDo inst (fun x => match x.chunk with
      | some (h, n, _, _) => decide (h = handle ∧ n = seq)
      | none => false)
    (fun s => match (spdmOf s inst).chunk with
      | some (h, n, b, w) =>
        spdmEmit inst true (chunkMsg h n b w) (setSpdm inst { spdmOf s inst with
          chunk := if (b.drop 4096).isEmpty then none else some (h, n + 1, b.drop 4096, w) } s)
      | none => s) s

/-! ## IDE_KM -/

/-- One IDE_KM message inside a session of a port's mailbox. -/
def ideKmDo (p : Pf) (m : IdeKmMsg) (s : State) : State :=
  match m with
  | .query => emit (.ideKm p 0) s
  | .keyProg k v => ideKeyProg p k v s
  | .kSetGo k => ideSetGo p k s
  | .kSetStop k => ideSetStop p k s

/-- IDE_KM is accepted only inside a secured session on the port's own mailbox (R212). -/
def ideKmIn (p : Pf) (session : Nat) (m : IdeKmMsg) (s : State) : State :=
  if !spdmUp s (.doe p) then s
  else if sessionUp (spdmOf s (.doe p)) session then ideKmDo p m s
  else spdmError (.doe p) 0x02 0 s

/-- IDE_KM QUERY (R212). -/
def execIdeKmQuery (port : Pf) (session : Nat) (s : State) : Host.Outcome State Fault Refusal :=
  .next (ideKmIn port session .query s)

/-- IDE_KM KEY_PROG (R212). -/
def execIdeKmKeyProg (port : Pf) (session : Nat) (key : IdeKeyRef) (s : State) (value : BitVec 256 := 0) :
    Host.Outcome State Fault Refusal :=
  .next (ideKmIn port session (.keyProg key value) s)

/-- IDE_KM K_SET_GO (R212). -/
def execIdeKmKSetGo (port : Pf) (session : Nat) (key : IdeKeyRef) (s : State) : Host.Outcome State Fault Refusal :=
  .next (ideKmIn port session (.kSetGo key) s)

/-- IDE_KM K_SET_STOP (R212). -/
def execIdeKmKSetStop (port : Pf) (session : Nat) (key : IdeKeyRef) (s : State) : Host.Outcome State Fault Refusal :=
  .next (ideKmIn port session (.kSetStop key) s)

/-- VENDOR_DEFINED_REQUEST carrying IDE_KM: only inside a session, on a DOE mailbox (R212, R213). -/
def execSpdmVendorDefined (inst : SpdmInst) (session : Option Nat) (msg : IdeKmMsg) (s : State) :
    Host.Outcome State Fault Refusal :=
  .next (match inst, session with
    | .doe p, some id => ideKmIn p id msg s
    | _, _ => if spdmUp s inst then spdmError inst 0x04 0 s else s)

end Sys2Proof.Machine
end

