-- ==== Sys2Proof/Machine/FnReset.lean ====
section
/-! DEFINITION. The resets that reach functions and controllers (R19, R37, R216, R272, R302 to R304, R308, R309, R311, R334,
R352, R536, R564, R612, R616): Controller reset, FLR, Link reset and Subsystem reset. -/
namespace Sys2Proof.Machine

/-- A download session ends when its holder is the reset function (R271 step 6, R272, source 35). -/
def endDownloadOf (f : Func) (s : State) : State :=
  if s.upd.holder = requesterOf (.fn f) ∧ s.upd.holder.isSome then
    event 0x0030 6 0 (evsSet 35 { s with upd := { Upd.reset with blockers := s.upd.blockers } })
  else s

/-- A controller's volatile state is gone; its commands end without completions (R334, R352). A fatal state stays only
where Bus Master Enable is 0 (R303). -/
def resetCtrl (f : Func) (s : State) : State :=
  let x := fnOf s f
  let still := x.fatal && !x.cfg.bme
  let s := if x.ctrl.rdy then hscMark 0 s else s
  let s := modFn f (fun x => { x with ctrl := { Ctrl.reset with cfs := still }, fatal := still }) (endCommands f s)
  endDownloadOf f (ustChange (unitOf f) (intxFollow f s))

/-- CONTROLLER_RESET: CC.EN goes from 1 to 0 (R303, R308, R334, R545). -/
def execControllerReset (f : Func) (s : State) : Host.Outcome State Fault Refusal :=
  .next (fnWrite f (fun s => if (fnOf s f).ctrl.en then resetCtrl f s else s) s)

/-- One function restarts: configuration, tables, translations and controller at their defaults; its resources stay
assigned (R311, R352). -/
def resetFn (f : Func) (keepOnline : Bool) (s : State) : State :=
  let x := fnOf s f
  let s := if x.ctrl.rdy then hscMark 0 s else s
  let s := if x.intx then emit (.intxDeassert (unitOf f)) s else s
  let s := setFn f { Fn.reset with vq := x.vq, vi := x.vi, online := x.online && keepOnline } (endCommands f s)
  let s := if f.vf = 0 then setEvs f.pf Evs.reset s else s
  endDownloadOf f (ustChange (unitOf f) s)

/-- The functions with state that `p` selects. -/
def fnsWhere (s : State) (p : Func → Bool) : List Func := (s.fns.map fun e => funcOfUnit e.1).filter p

/-- The function that owns the DOE mailbox of its port (R279): its FLR ends that mailbox's sessions and zeroises the
port's IDE keys (R216). -/
def doeOwner (s : State) (f : Func) : Bool := decide (f.vf = 0) && (decide (f.pf = .p0) || bifurc s)

/-- FLR of a function; for a PF, of its VFs too, which go offline (R308, R311, R352). -/
def flrOf (f : Func) (s : State) : State :=
  let s := resetSessions (coveredBy f) s
  let s := (fnsWhere s fun g => coveredBy f g && decide (g ≠ f)).foldl (fun s g => resetFn g false s) s
  let s := resetFn f true s
  if doeOwner s f then setSpdm (.doe f.pf) Spdm.reset (ideClear f.pf s) else s

/-- FLR (R308, R309). -/
def execFlr (f : Func) (s : State) : Host.Outcome State Fault Refusal :=
  .next (if running s && fnPresent s f then flrOf f s else s)

/-- VF_ENABLE_CLEAR: an FLR of every VF of the PF (R304, R308). -/
def clearVfs (pf : Pf) (s : State) : State :=
  let vfs := (List.range 127).map fun n => (⟨pf, n + 1⟩ : Func)
  let s := resetSessions (fun g => decide (g.pf = pf ∧ g.vf ≠ 0)) s
  let s := (vfs.filter fun g => decide (fnOf s g ≠ Fn.reset)).foldl (fun s g => resetFn g true s) s
  modFn ⟨pf, 0⟩ (fun x => { x with cfg.vfEn := false }) s

/-- VF_ENABLE_CLEAR. -/
def execVfEnableClear (pf : Pf) (s : State) : Host.Outcome State Fault Refusal :=
  .next (if running s && (fnOf s ⟨pf, 0⟩).cfg.vfEn then clearVfs pf s else s)

/-- A port. -/
def portState (s : State) : Pf → Port
  | .p0 => s.port0
  | .p1 => s.port1

/-- A port replaced; a change of RATE, WIDTH or FLIT is source 128 or 129 (R608). -/
def setPort (p : Pf) (x : Port) (s : State) : State :=
  let old := portState s p
  let s := match p with
    | .p0 => { s with port0 := x }
    | .p1 => { s with port1 := x }
  evsSetIf (decide (old.rate ≠ x.rate ∨ old.width ≠ x.width ∨ old.flit ≠ x.flit)) (128 + pfNum p) s

/-- The link of a port is down (R312: RATE 0). -/
def portDown (p : Pf) (s : State) : State :=
  setPort p { portState s p with
    up := false, rate := 0, width := 0, flit := false, l0p := false, l0pWidth := 0, l1 := false, l1sub := 0 } s

/-- Link reset: the functions behind the port restart, VFs go offline, the port's IDE keys and SPDM sessions end (R216,
R309, R311, R352). -/
def linkResetOf (p : Pf) (s : State) : State :=
  let behind (f : Func) : Bool := decide (portOf (bifurc s) f = p)
  let s := resetSessions behind s
  let s := (fnsWhere s behind).foldl (fun s g => resetFn g false s) s
  let s := if behind ⟨.p0, 0⟩ then setEvs .p0 Evs.reset s else s
  let s := if behind ⟨.p1, 0⟩ then setEvs .p1 Evs.reset s else s
  portDown p (setSpdm (.doe p) Spdm.reset (ideClear p s))

/-- LINK_RESET: Hot Reset, Link Disable or DL_Down on a port (R57, R308); the link trains again as LINK_TRAINING says. -/
def execLinkReset (port : Pf) (s : State) : Host.Outcome State Fault Refusal :=
  .next (if decide (s.pwr.phase = .released) then linkResetOf port s else s)

/-- Subsystem reset: every controller and its queues; VFs go offline, frozen and retired functions restart (R352, R536,
R564). -/
def subsystemResetOf (s : State) : State :=
  let s := resetSessions (fun _ => true) s
  (fnsWhere s fun _ => true).foldl (fun s g =>
    modFn g (fun x => { x with online := false, retired := false, frozen := false, fatal := false, ctrl.cfs := false })
      (resetCtrl g s)) s

/-- SUBSYSTEM_RESET: a write of NSSR; only 0x4E564D65 resets (R308). -/
def execSubsystemReset (value : W32) (s : State) : Host.Outcome State Fault Refusal :=
  .next (if running s && decide (value = 0x4E564D65) then subsystemResetOf s else s)

end Sys2Proof.Machine
end

