-- ==== Sys2Proof/Machine/Reserve.lean ====
section
/-! DEFINITION. Reservations (R314: all types): Register, Report, Acquire and Release, as NVMe Base 2.1 defines them
(log 39). -/
namespace Sys2Proof.Machine

/-- A namespace's entry changed. -/
def modNs (nsid : Nat) (g : Ns → Ns) (s : State) : State :=
  match nsOf s nsid with
  | some n => markDelta { s with tab.nss := Sparse.set s.tab.nss nsid (g n) }
  | none => s

/-- A namespace's reservation replaced. -/
def setRsv (nsid : Nat) (r : Rsv) (s : State) : State := modNs nsid (fun n => { n with rsv := r }) s

/-- The key of a registrant. -/
def rsvKey (s : State) (r : Rsv) (src : Source) : Option W64 :=
  (r.regs.find? fun e => sameHost s e.1 src).map (·.2)

/-- The registrants without those `p` selects; a holder that goes releases the reservation, except that under the
all-registrants types it stays while a registrant is left. -/
def dropRsv (s : State) (r : Rsv) (p : Source × W64 → Bool) : Rsv :=
  let left := r.regs.filter fun e => !p e
  match r.holder with
  | none => { r with regs := left }
  | some h =>
    if left.any fun e => sameHost s e.1 h then { r with regs := left }
    else match left with
      | e :: _ => if 5 ≤ r.rtype.toNat then { r with regs := left, holder := some e.1 }
        else { r with regs := left, holder := none, rtype := 0 }
      | [] => { r with regs := [], holder := none, rtype := 0 }

/-- A reservation notification for a host, unless its mask bit is set (feature 0x82): 1 registration preempted, 2
reservation released, 3 reservation preempted. -/
def notifyRsv (n : Ns) (kind : Nat) (src : Source) (s : State) : State :=
  match src with
  | .mgt => s
  | .fn f => if n.rsvMask.getLsbD kind then s else asyncEvent f { etype := 6, info := 0, lid := 0x80 } s

/-- Notifies the registrants other than `src` that `p` selects. -/
def notifyAll (n : Ns) (kind : Nat) (src : Source) (p : Source × W64 → Bool) (s : State) : State :=
  (n.rsv.regs.filter fun e => !sameHost s e.1 src && p e).foldl (fun s e => notifyRsv n kind e.1 s) s

/-- Runs a reservation command of a function on its namespace. -/
def runRsv (t : Tag) (op : W8) (nsid : W32) (k : Func → Ns → State → State) (s : State) : State :=
  runIo t op nsid false (fun f n _ s => k f n s) s

/-- The `ptpl` field's change: 2 clears, 3 sets. -/
def ptplAfter (b : Bool) (v : BitVec 2) : Bool := if v = 2 then false else if v = 3 then true else b

/-- Register, unregister, replace. -/
def rsvRegister (t : Tag) (nsid : Nat) (c : RsvRegister) (n : Ns) (s : State) : State :=
  let r := n.rsv
  let p := ptplAfter r.ptpl c.ptpl
  let own (e : Source × W64) : Bool := sameHost s e.1 t.src
  match c.action.toNat, rsvKey s r t.src with
  | 0, none =>
    finish t .success (setRsv nsid { r with regs := r.regs ++ [(t.src, c.newKey)], ptpl := p, gen := r.gen + 1 } s)
  | 0, some k =>
    if k = c.newKey then finish t .success (setRsv nsid { r with ptpl := p, gen := r.gen + 1 } s)
    else finish t .reservationConflict s
  | 1, none => finish t .reservationConflict s
  | 1, some k =>
    if c.ignoreKey || decide (k = c.curKey) then
      let freed := decide ((dropRsv s r own).holder = none ∧ r.holder ≠ none ∧ 3 ≤ r.rtype.toNat)
      let s1 := setRsv nsid { dropRsv s r own with ptpl := p, gen := r.gen + 1 } s
      finish t .success (if freed then notifyAll n 2 t.src (fun _ => true) s1 else s1)
    else finish t .reservationConflict s
  | 2, none =>
    if c.ignoreKey then
      finish t .success (setRsv nsid { r with regs := r.regs ++ [(t.src, c.newKey)], ptpl := p, gen := r.gen + 1 } s)
    else finish t .reservationConflict s
  | 2, some k =>
    if c.ignoreKey || decide (k = c.curKey) then
      finish t .success (setRsv nsid { r with
        regs := r.regs.map (fun e => if own e then (e.1, c.newKey) else e), ptpl := p, gen := r.gen + 1 } s)
    else finish t .reservationConflict s
  | _, _ => finish t .invalidField s

/-- RESERVATION_REGISTER. -/
def execReservationRegister (tag : Tag) (nsid : W32) (r : RsvRegister) (s : State) :
    Host.Outcome State Fault Refusal :=
  .next (runRsv tag 0x0D nsid (fun _ n s => rsvRegister tag nsid.toNat r n s) s)

/-- The Reservation Status structure with 128-bit host identifiers. -/
def rsvReport (s : State) (r : Rsv) : Bytes :=
  padTo 64 (le32 r.gen.toNat ++ leBytes 1 r.rtype.toNat ++ le16 r.regs.length ++ le16 0
      ++ leBytes 1 (if r.ptpl then 1 else 0))
    ++ r.regs.flatMap fun e => match e.1 with
      | .mgt => []
      | .fn f => padTo 64 (le16 (unitOf f) ++ leBytes 1 (if holds s r e.1 then 1 else 0) ++ leBytes 5 0
          ++ le64 e.2.toNat ++ leBytes 16 (fnOf s f).ctrl.feats.hostId.toNat)

/-- RESERVATION_REPORT. -/
def execReservationReport (tag : Tag) (nsid : W32) (s : State) : Host.Outcome State Fault Refusal :=
  .next (runRsv tag 0x0E nsid (fun _ n s => finishData tag (rsvReport s n.rsv) s) s)

/-- Commands of a host on the namespace that are in flight end, for preempt and abort. -/
def abortHost (nsid : Nat) (src : Source) (s : State) : State :=
  match src with
  | .mgt => s
  | .fn f =>
    ((fnOf s f).ctrl.inflight.filter fun e => decide (e.sqid ≠ 0 ∧ e.nsid.toNat = nsid ∧ e.phase = .fetched)).foldl
      (fun s e => finish ⟨.fn f, e.sqid, e.cid⟩ .abortRequested s) s

/-- Preempt: registrants with the key go; when the holder is among them the issuer holds the reservation. -/
def rsvPreempt (t : Tag) (nsid : Nat) (c : RsvAcquire) (aborts : Bool) (n : Ns) (s : State) : State :=
  let r := n.rsv
  let self (e : Source × W64) : Bool := sameHost s e.1 t.src
  let every := decide (5 ≤ r.rtype.toNat) && r.holder.isSome && decide (c.preKey = 0)
  let goes (e : Source × W64) : Bool := if every then !self e else decide (e.2 = c.preKey) && !self e
  let takes := every || (match r.holder with
    | some h => decide (rsvKey s r h = some c.preKey) && decide (r.rtype.toNat < 5)
    | none => false)
  if !every && !(r.regs.any fun e => decide (e.2 = c.preKey)) then finish t .reservationConflict s
  else
    let d := dropRsv s r goes
    let d := if takes then { d with holder := some t.src, rtype := c.rtype } else d
    let s1 := setRsv nsid { d with gen := r.gen + 1 } s
    let s1 := if aborts then (r.regs.filter goes).foldl (fun s e => abortHost nsid e.1 s) s1 else s1
    finish t .success (notifyAll n (if takes then 3 else 1) t.src goes s1)

/-- RESERVATION_ACQUIRE: acquire, preempt, preempt and abort. -/
def rsvAcquire (t : Tag) (nsid : Nat) (c : RsvAcquire) (n : Ns) (s : State) : State :=
  let r := n.rsv
  if c.ignoreKey ∨ c.rtype.toNat = 0 ∨ 6 < c.rtype.toNat ∨ 2 < c.action.toNat then finish t .invalidField s
  else if rsvKey s r t.src ≠ some c.curKey then finish t .reservationConflict s
  else if c.action = 0 then
    match r.holder with
    | none => finish t .success (setRsv nsid { r with holder := some t.src, rtype := c.rtype } s)
    | some _ =>
      if holds s r t.src && decide (r.rtype = c.rtype) then finish t .success s
      else finish t .reservationConflict s
  else rsvPreempt t nsid c (decide (c.action = 2)) n s

/-- RESERVATION_ACQUIRE. -/
def execReservationAcquire (tag : Tag) (nsid : W32) (r : RsvAcquire) (s : State) : Host.Outcome State Fault Refusal :=
  .next (runRsv tag 0x11 nsid (fun _ n s => rsvAcquire tag nsid.toNat r n s) s)

/-- Release and clear. -/
def rsvRelease (t : Tag) (nsid : Nat) (c : RsvRelease) (n : Ns) (s : State) : State :=
  let r := n.rsv
  if c.ignoreKey ∨ 1 < c.action.toNat then finish t .invalidField s
  else if rsvKey s r t.src ≠ some c.curKey then finish t .reservationConflict s
  else if c.action = 0 then
    if !holds s r t.src then finish t .success s
    else if c.rtype ≠ r.rtype then finish t .invalidField s
    else
      let s1 := setRsv nsid { r with holder := none, rtype := 0 } s
      finish t .success (if 3 ≤ r.rtype.toNat then notifyAll n 2 t.src (fun _ => true) s1 else s1)
  else
    let s1 := setRsv nsid { r with holder := none, rtype := 0, regs := [], gen := r.gen + 1 } s
    finish t .success (notifyAll n 3 t.src (fun _ => true) s1)

/-- RESERVATION_RELEASE. -/
def execReservationRelease (tag : Tag) (nsid : W32) (r : RsvRelease) (s : State) : Host.Outcome State Fault Refusal :=
  .next (runRsv tag 0x15 nsid (fun _ n s => rsvRelease tag nsid.toNat r n s) s)

end Sys2Proof.Machine
end

