-- ==== Sys2Proof/Machine/Namespaces.lean ====
section
/-! DEFINITION. Namespaces, tenants' resources and the device's own operations (R313, R317, R329, R330, R335 to R344,
R397, R434, R446, R561): create, delete, attach, key binding, Virtualization Management, Device Self-test, Format NVM and
Sanitize. -/
namespace Sys2Proof.Machine

/-! ## Shared parts -/

/-- A namespace that commands name: one that an import still hides does not exist for them (R555). -/
def visibleNs (s : State) (nsid : Nat) : Option Ns :=
  match nsOf s nsid with
  | some n => if n.state = .staged then none else some n
  | none => none

/-- Controllers are told that a namespace changed (log page 0x04; NVMe Base 2.1, log 39): a Notice event where the
controller's Asynchronous Event Configuration asks for it. -/
def tellChanged (nsid : Nat) (units : List Nat) (s : State) : State :=
  units.foldl (fun s u =>
    let f := funcOfUnit u
    let s := modCtrl f (fun c => { c with changedNs := insertNew nsid c.changedNs }) s
    if (fnOf s f).ctrl.rdy && (fnOf s f).ctrl.feats.asyncConfig.getLsbD 8 then
      asyncEvent f { etype := 2, info := 0, lid := 0x04 } s
    else s) s

/-- Bytes a namespace takes of TNVMCAP: its size in whole indirection units. -/
def nsBytes (n : Ns) : Nat :=
  (n.nsze.toNat * lbaBytes n.lbaf + iuBytes n.iu - 1) / iuBytes n.iu * iuBytes n.iu

/-- Capacity allocated to namespaces. -/
def allocated (s : State) : Nat := listSum (s.tab.nss.map fun e => nsBytes e.2)

/-- Unallocated capacity (UNVMCAP). -/
def unallocated (s : State) : Nat := s.tab.tnvmcap - allocated s

/-- Capacity of 4 KiB-IU namespaces (R397). -/
def cap4k (s : State) : Nat :=
  listSum ((s.tab.nss.filter fun e => decide (e.2.iu = 1)).map fun e => e.2.nsze.toNat * lbaBytes e.2.lbaf)

/-- Lowest number in a range that `used` does not hold. -/
def lowestFree (lo count : Nat) (used : List Nat) : Option Nat :=
  ((List.range count).map (· + lo)).find? fun i => !used.contains i

/-- A command of this namespace is in flight on some controller (R340, R344). -/
def nsBusy (s : State) (nsid : Nat) : Bool :=
  s.fns.any fun e => e.2.ctrl.inflight.any fun c => decide (c.sqid ≠ 0 ∧ c.nsid.toNat = nsid)

/-- A state-changing command of a namespace: it must exist, not be deleting, and belong to no tenant in an export session
(R342, R561). -/
def withNs (t : Tag) (nsid : Nat) (k : Ns → State → State) (s : State) : State :=
  match visibleNs s nsid with
  | none => finish t .invalidNamespaceOrFormat s
  | some n =>
    if n.state = .deleting ∨ nsInExport s nsid then finish t .stateConflict s else k n s

/-! ## Namespace Management -/

/-- Create (R335 to R337, R390, R397, R434). The checks beyond the spec's own are NVMe Base 2.1's (log 45). -/
def createNs (t : Tag) (c : NewNs) (s : State) : State :=
  let lbaf := c.lbaf.toNat
  let n : Ns := { index := 0, nsze := c.nsze, ncap := c.ncap, lbaf := lbaf, iu := c.iuCode.toNat, priv := c.priv,
                  attached := [], state := .active, slot := none, rsv := Rsv.none, tler := 0, rsvMask := 0, job := none }
  let nsid := lowestFree 1 1024 (s.tab.nss.map (·.1))
  let index := lowestFree 0 1024 (s.tab.nss.map fun e => e.2.index)
  if 2 < c.iuCode.toNat then finish t .invalidField s
  else if 3 < lbaf then finish t .invalidFormat s
  else if iuBytes n.iu < lbaBytes lbaf then finish t .invalidFormat s
  else if c.nsze = 0 ∨ c.nsze.toNat < c.ncap.toNat then finish t .invalidField s
  else if n.iu = 1 ∧ 2 ^ 44 < cap4k s + c.nsze.toNat * lbaBytes lbaf then
    finish t .namespaceInsufficientCapacity s
  else if unallocated s < nsBytes n then finish t .namespaceInsufficientCapacity s
  else match nsid, index with
    | some i, some x =>
      complete t .success (BitVec.ofNat 32 i)
        (ustChange (nsUnit i) (markDelta { s with tab.nss := Sparse.set s.tab.nss i { n with index := x } }))
    | _, _ => finish t .namespaceIdUnavailable s

/-- NAMESPACE_CREATE. -/
def execNamespaceCreate (tag : Tag) (ns : NewNs) (s : State) : Host.Outcome State Fault Refusal :=
  .next (runAdmin (.namespaceCreate tag ns) tag 0x0D 0 true false true (notInSanitize tag (createNs tag ns)) s)

/-- One namespace becomes Deleting (R344). -/
def beginDelete (t : Tag) (nsid : Nat) (s : State) : State :=
  ustChange (nsUnit nsid) (modNs nsid (fun n => { n with state := .deleting, job := some (.delete t) }) s)

/-- Delete (R339, R342, R344, R561); the broadcast NSID deletes every namespace. -/
def deleteNs (t : Tag) (nsid : W32) (s : State) : State :=
  if nsid = 0xFFFFFFFF then
    let l := s.tab.nss.filter fun e => decide (e.2.state ≠ .staged)
    if l.any fun e => decide (e.2.state = .deleting) || nsInExport s e.1 then finish t .stateConflict s
    else if l.isEmpty then finish t .success s
    else l.foldl (fun s e => beginDelete t e.1 s) s
  else withNs t nsid.toNat (fun _ s => beginDelete t nsid.toNat s) s

/-- NAMESPACE_DELETE. -/
def execNamespaceDelete (tag : Tag) (nsid : W32) (s : State) : Host.Outcome State Fault Refusal :=
  .next (runAdmin (.namespaceDelete tag nsid) tag 0x0D nsid true false true (notInSanitize tag (deleteNs tag nsid)) s)

/-- A namespace waits for this command to end. -/
def jobOpen (s : State) (t : Tag) : Bool :=
  s.tab.nss.any fun e => match e.2.job with
    | some (.delete u) => decide (u = t)
    | some (.format u _ _) => decide (u = t)
    | none => false

/-- The command of a job completes once no namespace waits for it any more. -/
def finishJob (t : Tag) (st : Status) (s : State) : State := if jobOpen s t then s else finish t st s

/-- NAMESPACE_DELETE_COMPLETE (R344): no command on it is left; the namespace, its map entries and its binding go. -/
def execNamespaceDeleteComplete (nsid : W32) (s : State) : Host.Outcome State Fault Refusal :=
  .next (
    let i := nsid.toNat
    match nsOf s i with
    | none => s
    | some n => match n.job with
      | some (.delete t) =>
        if !running s || nsBusy s i then s else finishJob t .success (tellChanged i n.attached (removeNs i s))
      | _ => s)

/-! ## Namespace Attachment -/

/-- Controllers that exist: the two PFs and every VF. -/
def ctrlExists (u : Nat) : Bool := decide (1 ≤ u ∧ u ≤ 256)

/-- Attach (R313, R342; the errors are NVMe Base 2.1's). -/
def attachNs (t : Tag) (nsid : Nat) (cs : List Nat) (n : Ns) (s : State) : State :=
  if cs.any fun u => n.attached.contains u then finish t .namespaceAlreadyAttached s
  else if n.priv && decide (1 < cs.length + n.attached.length) then finish t .namespaceIsPrivate s
  else
    let s := modNs nsid (fun n => { n with attached := n.attached ++ cs.eraseDups }) s
    finish t .success (tellChanged nsid cs.eraseDups (ustChange (nsUnit nsid) s))

/-- Detach. -/
def detachNs (t : Tag) (nsid : Nat) (cs : List Nat) (n : Ns) (s : State) : State :=
  if cs.any fun u => !n.attached.contains u then finish t .namespaceNotAttached s
  else
    let s := modNs nsid (fun n => { n with attached := n.attached.filter fun u => !cs.contains u }) s
    finish t .success (tellChanged nsid cs (ustChange (nsUnit nsid) s))

/-- NAMESPACE_ATTACHMENT (R313, R342, R561). -/
def execNamespaceAttachment (tag : Tag) (nsid : W32) (attach : Bool) (ctrls : List Nat) (s : State) :
    Host.Outcome State Fault Refusal :=
  .next (runAdmin (.namespaceAttachment tag nsid attach ctrls)
    tag 0x15 nsid true false true (notInSanitize tag (withNs tag nsid.toNat (fun n s =>
    if ctrls.isEmpty || !(ctrls.all ctrlExists) then finish tag .controllerListInvalid s
    else if attach then attachNs tag nsid.toNat ctrls n s else detachNs tag nsid.toNat ctrls n s))) s)

/-! ## Key binding (R316, R317, R338) -/

/-- The PF that may bind a slot is the one that owns it; the path may bind every slot (R331, R338). -/
def mayBind (s : State) (src : Source) (slot : Nat) : Bool :=
  match src with
  | .mgt => true
  | .fn f => decide (f.vf = 0) && decide (slotOwner s slot = f.pf)

/-- Set Features 0xD0 on a namespace. -/
def bindKey (t : Tag) (nsid : Nat) (v : W32) (n : Ns) (s : State) : State :=
  let slot := (fieldOf 0 12 v).toNat
  let put (b : Option Nat) : State :=
    finish t .success (ustChange (nsUnit nsid) (modNs nsid (fun n => { n with slot := b }) s))
  if v.getLsbD 31 then
    if 2048 ≤ slot ∨ !mayBind s t.src slot ∨ (keySlot s slot).gen = 0 then finish t .invalidField s
    else if (s.tab.nss.any fun e => decide (e.1 ≠ nsid) && decide (e.2.slot = some slot)) ∨ nsHoldsData s nsid then
      finish t .stateConflict s
    else put (some slot)
  else if nsHoldsData s nsid ∧ n.slot.isSome then finish t .stateConflict s
  else put none

/-- Set Features 0xD0 (R316, R317, R338, R342, R561). -/
def setKeyBinding (t : Tag) (sv : Bool) (nsid cdw11 : W32) (s : State) : State :=
  if sv then finish t .featureNotSaveable s
  else if isVf t.src then finish t .featureNotChangeable s
  else withNs t nsid.toNat (bindKey t nsid.toNat cdw11) s

/-- NAMESPACE_KEY_BINDING. -/
def execNamespaceKeyBinding (tag : Tag) (sv : Bool) (nsid : W32) (cdw11 : W32) (s : State) :
    Host.Outcome State Fault Refusal :=
  .next (runAdmin (.namespaceKeyBinding tag sv nsid cdw11)
    tag 0x09 nsid true true true (setKeyBinding tag sv nsid cdw11) s)

/-- Set Features 0xD2 (R316, R318). -/
def setPowerLimit (t : Tag) (sv : Bool) (cdw11 : W32) (s : State) : State :=
  let w := (fieldOf 0 6 cdw11).toNat
  if sv then finish t .featureNotSaveable s
  else if isVf t.src then finish t .featureNotChangeable s
  else if w < 12 ∨ 42 < w then finish t .invalidField s
  else finish t .success { s with nvm.watts := w }

/-- PACKAGE_POWER_LIMIT. -/
def execPackagePowerLimit (tag : Tag) (sv : Bool) (cdw11 : W32) (s : State) : Host.Outcome State Fault Refusal :=
  .next (runAdmin (.packagePowerLimit tag sv cdw11) tag 0x09 0 true true true (setPowerLimit tag sv cdw11) s)

/-! ## Virtualization Management (R329, R330, R352) -/

/-- Queue pairs moved out of a PF's flexible pool, but for one function. -/
def vqTaken (s : State) (f : Func) : Nat :=
  listSum ((listedFns s).map fun e => if e.1.pf = f.pf ∧ e.1 ≠ f then e.2.vq else 0)

/-- Interrupt vectors moved out of a PF's flexible pool, but for one function. -/
def viTaken (s : State) (f : Func) : Nat :=
  listSum ((listedFns s).map fun e => if e.1.pf = f.pf ∧ e.1 ≠ f then e.2.vi else 0)

/-- The issuer may manage a function: a PF manages its own VFs, the path every VF (R330). -/
def manages (src : Source) (f : Func) : Bool :=
  match src with
  | .mgt => true
  | .fn g => decide (g.pf = f.pf)

/-- Assigns queue pairs or vectors to an offline VF (R330). -/
def assignTo (t : Tag) (f : Func) (vq : Bool) (n : Nat) (s : State) : State :=
  if f.vf = 0 ∨ 127 < f.vf ∨ !manages t.src f then finish t .invalidControllerId s
  else if (fnOf s f).online then finish t .invalidSecondaryState s
  else if n < (if vq then 2 else 1) ∨ 64 < n
      ∨ (if vq then 1792 < vqTaken s f + n else 2048 < viTaken s f + n) then finish t .invalidNumberOfResources s
  else
    let s := modFn f (fun x => if vq then { x with vq := n } else { x with vi := n }) s
    complete t .success (BitVec.ofNat 32 n) (ustChange (unitOf f) s)

/-- A VF goes online (R330): it exists and has at least 2 queue pairs and 1 vector. -/
def vfOnline (t : Tag) (f : Func) (s : State) : State :=
  let x := fnOf s f
  if f.vf = 0 ∨ 127 < f.vf ∨ !manages t.src f then finish t .invalidControllerId s
  else if x.online then finish t .success s
  else if !fnPresent s f ∨ x.vq < 2 ∨ x.vi < 1 ∨ x.retired then finish t .invalidSecondaryState s
  else finish t .success (ustChange (unitOf f) (modFn f (fun x => { x with online := true }) s))

/-- A VF goes offline: its controller is reset. -/
def vfOffline (t : Tag) (f : Func) (s : State) : State :=
  if f.vf = 0 ∨ 127 < f.vf ∨ !manages t.src f then finish t .invalidControllerId s
  else if !(fnOf s f).online then finish t .success s
  else finish t .success (ustChange (unitOf f) (modFn f (fun x => { x with online := false }) (resetCtrl f s)))

/-- Flexible resources moved to a PF itself, within its pool (R329, log 46). -/
def primaryFlex (t : Tag) (vi : Bool) (n : Nat) (f : Func) (s : State) : State :=
  if (if vi then 2048 < viTaken s f + n else 1792 < vqTaken s f + n) then finish t .invalidNumberOfResources s
  else
    let s := modFn f (fun x => if vi then { x with vi := n } else { x with vq := n }) s
    complete t .success (BitVec.ofNat 32 n) (ustChange (unitOf f) s)

/-- VIRTUALIZATION_MANAGEMENT (R313, R329, R330). A primary allocation names the issuing PF; from the path, PF0. -/
def execVirtualizationManagement (tag : Tag) (act : VirtAct) (s : State) : Host.Outcome State Fault Refusal :=
  .next (runAdmin (.virtualizationManagement tag act) tag 0x1C 0 true false true (fun s => match act with
    | .assignVq f n => assignTo tag f true n s
    | .assignVi f n => assignTo tag f false n s
    | .online f => vfOnline tag f s
    | .offline f => vfOffline tag f s
    | .primaryFlexible rt n => primaryFlex tag rt n ((funcOf? tag.src).getD ⟨.p0, 0⟩) s) s)

/-! ## Device Self-test (R313) -/

/-- A result joins the self-test log of 20 entries, newest first. -/
def logSelfTest (result code : BitVec 4) (s : State) : State :=
  { s with nvm.selfTest := none, nvm.selfTestLog := ((result, code) :: s.nvm.selfTestLog).take 20 }

/-- Device Self-test: starts a short (1) or extended (2) test, or aborts the running one (15). -/
def selfTest (t : Tag) (code : BitVec 4) (s : State) : State :=
  match code.toNat, s.nvm.selfTest with
  | 1, none => finish t .success { s with nvm.selfTest := some (t, code) }
  | 2, none => finish t .success { s with nvm.selfTest := some (t, code) }
  | 1, some _ => finish t .selfTestInProgress s
  | 2, some _ => finish t .selfTestInProgress s
  | 15, none => finish t .success s
  | 15, some (_, c) => finish t .success (logSelfTest 1 c s)
  | _, _ => finish t .invalidField s

/-- DEVICE_SELF_TEST. -/
def execDeviceSelfTest (tag : Tag) (code : BitVec 4) (s : State) : Host.Outcome State Fault Refusal :=
  .next (runAdmin (.deviceSelfTest tag code) tag 0x14 0 true false true (notInSanitize tag (selfTest tag code)) s)

/-- DEVICE_SELF_TEST_COMPLETE (R313). -/
def execDeviceSelfTestComplete (result : BitVec 4) (s : State) : Host.Outcome State Fault Refusal :=
  .next (match s.nvm.selfTest with
    | some (_, c) => if running s then logSelfTest result c s else s
    | none => s)

/-! ## Format NVM and Sanitize (R204 to R209, R215, R339, R340, R343, R446) -/

/-- Fresh keys in slots that no command uses any more, each one a request to the DRBG (R200). -/
def freshKeys (slots : List Nat) (s : State) : State :=
  slots.foldl (fun s i => drbgUse (setKey i { keySlot (loadKey i s) i with old := none } (loadKey i s))) s

/-- Output of the DRBG is blocked for now: a request waits (R201). -/
def entropyWaits (s : State) : Bool := decide (s.trust.rng = .stalled ∨ s.trust.rng = .starting)

/-- GENERATE of slots with the key table stored; a store that fails changes no key and records event 0x0011 (R209,
R215). -/
def regenerate (slots : List Nat) (ok : Bool) (s : State) : State :=
  if slots.isEmpty then s
  else if ok then
    let s := freshKeys slots s
    replaceStores (fun x => decide (x.kind = 5)) [keyTableStore s]
      { s with media.keyTab := storedKeys s, media.keySplit := s.tab.ksplit }
  else slots.foldl (fun s i => event 0x0011 i 1 s) (drawn slots.length s)

/-- A VF may format only a namespace attached to its controller and to no other (R313). -/
def formatAllowed (src : Source) (n : Ns) : Bool :=
  match src with
  | .mgt => true
  | .fn f => decide (f.vf = 0) || decide (n.attached = [unitOf f])

/-- The status that stops a format of one namespace, if any. -/
def formatCheck (s : State) (src : Source) (nsid lbaf ses : Nat) (n : Ns) : Option Status :=
  if !formatAllowed src n then some .invalidCommandOpcode
  else if n.state = .deleting ∨ n.state = .formatting ∨ (ses = 2 ∧ nsInExport s nsid) then some .stateConflict
  else if 3 < lbaf ∨ iuBytes n.iu < lbaBytes lbaf then some .invalidFormat
  else if ses = 2 ∧ n.slot = none then some .invalidFormat
  else none

/-- Namespaces a Format NVM covers. -/
def formatTargets (s : State) (nsid : W32) : List (Nat × Ns) :=
  if nsid = 0xFFFFFFFF then s.tab.nss.filter fun e => decide (e.2.state ≠ .staged)
  else match visibleNs s nsid.toNat with
    | some n => [(nsid.toNat, n)]
    | none => []

/-- Every covered namespace is Formatting. -/
def beginFormat (t : Tag) (lbaf ses : Nat) (l : List (Nat × Ns)) (s : State) : State :=
  l.foldl (fun s e => ustChange (nsUnit e.1)
    (modNs e.1 (fun n => { n with state := .formatting, job := some (.format t lbaf ses) }) s)) s

/-- FORMAT_NVM (R202, R313, R340, R342, R343, R561). -/
def execFormatNvm (tag : Tag) (nsid : W32) (lbaf : BitVec 4) (ses : BitVec 3) (s : State) :
    Host.Outcome State Fault Refusal :=
  .next (runAdmin (.formatNvm tag nsid lbaf ses) tag 0x80 nsid true true true (notInSanitize tag (fun s =>
    let l := formatTargets s nsid
    let lb := lbaf.toNat
    let es := ses.toNat
    if 2 < es then finish tag .invalidField s
    else if l.isEmpty then finish tag .invalidNamespaceOrFormat s
    else match l.findSome? fun e => formatCheck s tag.src e.1 lb es e.2 with
      | some st => finish tag st s
      | none =>
        if es = 2 then withEntropy (.formatNvm tag nsid lbaf ses) (beginFormat tag lb es l) (finish tag .entropyUnavailable) s
        else beginFormat tag lb es l s)) s)

/-- A namespace after its format: nothing written, the new format, the same capacity in bytes (log 44). -/
def formatted (lbaf : Nat) (n : Ns) : Ns :=
  let conv (v : W64) : W64 := BitVec.ofNat 64 (v.toNat * lbaBytes n.lbaf / lbaBytes lbaf)
  { n with state := .active, job := none, lbaf := lbaf, nsze := conv n.nsze, ncap := conv n.ncap }

/-- Every IU of a namespace is dirtied for the exports and chains that track it (R540). -/
def dirtyAll (nsid : Nat) (s : State) : State :=
  match nsOf s nsid with
  | some n => (List.range ((n.nsze.toNat + n.perIu - 1) / n.perIu)).foldl (fun s u => dirtyIu (iuKey nsid u) s) s
  | none => s

/-- A format that fails leaves the namespace as it was. -/
def formatFailed (t : Tag) (st : Status) (i : Nat) (s : State) : State :=
  finishJob t st (ustChange (nsUnit i) (modNs i (fun n => { n with state := .active, job := none }) s))

/-- A format of this kind draws a key. -/
def formatDraws (n : Ns) (ses : Nat) : Bool := decide (ses = 2) && n.slot.isSome

/-- FORMAT_NVM_COMPLETE (R201, R202, R215, R340, R343): once no command on the namespace is in flight, and output of the DRBG
is not blocked where a key is due. A key change that fails leaves it unformatted. -/
def execFormatNvmComplete (nsid : W32) (ok : Bool) (s : State) : Host.Outcome State Fault Refusal :=
  .next (
    let i := nsid.toNat
    match nsOf s i with
    | none => s
    | some n => match n.job with
      | some (.format t lbaf ses) =>
        if !running s || nsBusy s i || (formatDraws n ses && entropyWaits s) then s
        else if formatDraws n ses && decide (s.trust.rng = .unavailable) then formatFailed t .entropyUnavailable i s
        else
          let s := if ses = 2 then regenerate n.slot.toList ok s else s
          if ok then
            let s := modNs i (formatted lbaf) (dropNsData i { s with
              hold.lostKeys := s.hold.lostKeys.filter fun k => !decide (iuNs k = i) })
            finishJob t .success (tellChanged i n.attached (ustChange (nsUnit i) (if ses = 2 then s else dirtyAll i s)))
          else formatFailed t .internalError i s
      | _ => s)

/-- Sanitize starts: every namespace is Sanitizing and the command completes (R343; NVMe Base 2.1). -/
def beginSanitize (t : Tag) (crypto : Bool) (s : State) : State :=
  let s := (s.tab.nss.filter fun e => decide (e.2.state = .active)).foldl
    (fun s e => ustChange (nsUnit e.1) (modNs e.1 (fun n => { n with state := .sanitizing }) s)) s
  finish t .success { s with nvm.sanitize := some { crypto := crypto, tag := t }, nvm.sanitizeFailed := false }

/-- SANITIZE (R202, R313, R340, R343, R561): action 1 leaves the failed state, 2 is Block Erase, 4 Crypto Erase. -/
def execSanitize (tag : Tag) (action : BitVec 3) (noDealloc : Bool) (s : State) : Host.Outcome State Fault Refusal :=
  .next (runAdmin (.sanitize tag action noDealloc) tag 0x84 0 true false true (notInSanitize tag (fun s =>
    if action = 1 then finish tag .success { s with nvm.sanitizeFailed := false }
    else if noDealloc ∨ (action ≠ 2 ∧ action ≠ 4) then finish tag .invalidField s
    else if (s.mqt.sess.any fun x => !x.imp) ∨ s.tab.nss.any fun e => e.2.job.isSome then finish tag .stateConflict s
    else if action = 4 then
      withEntropy (.sanitize tag action noDealloc) (beginSanitize tag true) (finish tag .entropyUnavailable) s
    else beginSanitize tag false s)) s)

/-- The array leaves Offline when a Block Erase completes (R446): every group is Normal with N its positions that are
Online, event code 39. -/
def leaveOffline (s : State) : State :=
  if !s.tab.offline then s
  else
    let online (g c : Nat) : Bool := decide ((dieOf s (dieAt g c)).state = .online)
    let s1 := (groupsInUse s).foldl (fun s g =>
      let failed : BitVec 24 := (List.range 24).foldl (fun m c => if online g c then m else m ||| ((1 : BitVec 24) <<< c)) 0
      setGrp g { grpOf s g with state := .normal, n := ((List.range 24).filter (online g)).length, failed := failed,
                                total := 0, left := 0, queue := [] } s) s
    event 0x0040 39 0 (ustChange arrayUnit (markDelta { s1 with tab.offline := false }))

/-- Everything written is gone from every namespace, and no cache, row or band holds any of it; the bands are erased. -/
def eraseAll (s : State) : State :=
  let s := (s.tab.nss.map (·.1)).foldl (fun s i => dropNsData i s) s
  let s := markDelta { s with hold.lostKeys := [], ftl.rows := [], ftl.refresh := [], media.ius := [], media.stripes := [] }
  (s.tab.bands.map (·.1)).foldl (fun s b => freeBand b s) s

/-- Slots whose keys a sanitize operation generates. -/
def sanitizeDraws (s : State) (z : Sanitize) : List Nat := if z.crypto then s.tab.nss.filterMap (fun e => e.2.slot) else []

/-- SANITIZE_COMPLETE (R201, R202, R340, R446): data is erased, Crypto Erase has generated every bound slot's key — it waits
while output of the DRBG is blocked, and fails once entropy is unavailable — and the controller that ran the command is told. -/
def execSanitizeComplete (ok : Bool) (s : State) : Host.Outcome State Fault Refusal :=
  .next (match s.nvm.sanitize with
    | none => s
    | some z =>
      let bound := sanitizeDraws s z
      if !running s || (!bound.isEmpty && entropyWaits s) then s
      else
      let keyed := bound.isEmpty || decide (s.trust.rng = .healthy)
      let s := if keyed then regenerate bound ok s else s
      let ok := ok && keyed
      let s := if ok then eraseAll s else s
      let s := if ok && !z.crypto then leaveOffline s else s
      let s := { s with nvm.sanitize := none, nvm.sanitized := s.nvm.sanitized || ok, nvm.sanitizeFailed := !ok }
      let s := (s.tab.nss.filter fun e => decide (e.2.state = .sanitizing)).foldl
        (fun s e => ustChange (nsUnit e.1) (modNs e.1 (fun n => { n with state := .active }) s)) s
      match funcOf? z.tag.src with
      | some f => asyncEvent f { etype := 6, info := 1, lid := 0x81 } s
      | none => s)

end Sys2Proof.Machine
end

