-- ==== Sys2Proof/Machine/Hold.lean ====
section
/-! DEFINITION. Holding up through power loss (chapter 14): the configuration record and its staging, the charger, the
dump, checkpoints and segments, and the restart of R525. -/
namespace Sys2Proof.Machine

/-! ## The configuration record (R498 to R502) -/

/-- The fields of a record's bytes. -/
def parseConf (b : Bytes) : ConfRec where
  pfMw := leVal (slice b 0x08 4)
  etaPermille := leVal (slice b 0x0C 2)
  vChgMv := leVal (slice b 0x0E 2)
  chgMaxMa := leVal (slice b 0x10 4)
  cEolUf := leVal (slice b 0x14 4)
  ssvid := BitVec.ofNat 16 (leVal (slice b 0x18 2))
  ssid := BitVec.ofNat 16 (leVal (slice b 0x1A 2))
  throttle := leVal (slice b 0x1C 2)
  pct := leVal (slice b 0x1E 1)
  foldHi := leVal (slice b 0x1F 1)
  foldLo := leVal (slice b 0x20 1)
  journalMax := leVal (slice b 0x21 1)
  spread := leVal (slice b 0x22 2)
  ckptInterval := leVal (slice b 0x24 2)
  flushW := leVal (slice b 0x26 2)

/-- PCT, FOLD_HI and FOLD_LO in range (R433). -/
def slcOk (pct hi lo : Nat) : Bool := decide (1 ≤ pct ∧ pct ≤ 12 ∧ 1 ≤ hi ∧ hi ≤ 100 ∧ 1 ≤ lo ∧ lo < hi)

/-- SPREAD in range (R433). -/
def spreadOk (v : Nat) : Bool := decide (50 ≤ v ∧ v ≤ 2000)

/-- CKPT_INTERVAL_S and JOURNAL_MAX_GIB in range (R532). -/
def ckptPolicyOk (interval gib : Nat) : Bool := decide (60 ≤ interval ∧ interval ≤ 3600 ∧ 1 ≤ gib ∧ gib ≤ 64)

/-- Every range of R498. -/
def confOk (r : ConfRec) : Bool :=
  decide (1000 ≤ r.pfMw ∧ r.pfMw ≤ 200000) && decide (500 ≤ r.etaPermille ∧ r.etaPermille ≤ 1000)
    && decide (13000 ≤ r.vChgMv ∧ r.vChgMv ≤ 36000) && decide (100 ≤ r.chgMaxMa ∧ r.chgMaxMa ≤ 20000)
    && decide (100 ≤ r.cEolUf ∧ r.cEolUf ≤ 1000000) && decide (850 ≤ r.throttle ∧ r.throttle ≤ 1200)
    && slcOk r.pct r.foldHi r.foldLo && spreadOk r.spread && ckptPolicyOk r.ckptInterval r.journalMax
    && decide (20 ≤ r.flushW ∧ r.flushW ≤ 42)

/-- TZ_HOLD_CFG_CMD.COMMIT (R500, R501): the owner lock is checked before the ranges (log 56). -/
def cfgStageCommit (stored : Bool) (s : State) : State :=
  let r := parseConf s.hold.stage
  if s.hold.cfgBusy then { s with hold.cfgResult := 1 }
  else if ownerLocked s then evsSet 227 { s with hold.cfgResult := 3 }
  else if !confOk r then evsSet 227 { s with hold.cfgResult := 2 }
  else
    let ok := stored && canStore .conf s
    evsSet 227 { storeRecord (.conf r) ok s with hold.cfgResult := if ok then 0 else 4 }

/-- CFG_STAGE_COMMIT. -/
def execCfgStageCommit (stored : Bool) (s : State) : Host.Outcome State Fault Refusal :=
  .next (if running s then cfgStageCommit stored s else s)

/-- A write to one of the policy registers (R502, R605): refused whole when a field is out of range; BAD_WRITE is set by a
refusal and cleared by writing 1 to it. -/
def policyWrite (reg : PolicyReg) (v : W32) (s : State) : State :=
  match reg with
  | .slc =>
    let pct := (fieldOf 0 4 v).toNat
    let hi := (fieldOf 4 7 v).toNat
    let lo := (fieldOf 11 7 v).toNat
    if slcOk pct hi lo then
      { s with ftl.pct := pct, ftl.foldHi := hi, ftl.foldLo := lo, hold.policyDue := true,
               ftl.slcBad := s.ftl.slcBad && !v.getLsbD 18 }
    else { s with ftl.slcBad := true }
  | .wl =>
    let w := (fieldOf 0 11 v).toNat
    if spreadOk w then
      { s with ftl.spread := w, hold.policyDue := true, ftl.wlBad := s.ftl.wlBad && !v.getLsbD 11 }
    else { s with ftl.wlBad := true }
  | .hold =>
    let i := (fieldOf 0 12 v).toNat
    let g := (fieldOf 12 8 v).toNat
    if ckptPolicyOk i g then
      { s with hold.ckptInterval := i, hold.journalMax := g, hold.policyDue := true,
               hold.polBad := s.hold.polBad && !v.getLsbD 20 }
    else { s with hold.polBad := true }

/-- POLICY_REGISTER_WRITE. -/
def execPolicyRegisterWrite (reg : PolicyReg) (value : W32) (s : State) : Host.Outcome State Fault Refusal :=
  .next (if running s then policyWrite reg value s else s)

/-- A record with the policy fields that the registers and SET_POLICY hold. -/
def withPolicy (s : State) (r : ConfRec) : ConfRec :=
  { r with throttle := s.arm.throttle, pct := s.ftl.pct, foldHi := s.ftl.foldHi, foldLo := s.ftl.foldLo,
           spread := s.ftl.spread, ckptInterval := s.hold.ckptInterval, journalMax := s.hold.journalMax }

/-- CONFIG_RECORD_UPDATE (R502): the matching fields change, the others are carried over. With no valid record there are
none to carry over and nothing is written (log 57). -/
def execConfigRecordUpdate (stored : Bool) (s : State) : Host.Outcome State Fault Refusal :=
  .next (
    if !running s ∨ !s.hold.policyDue then s
    else match confRec? s with
      | none => s
      | some r =>
        let ok := stored && canStore .conf s
        { storeRecord (.conf (withPolicy s r)) ok s with hold.policyDue := !ok })

/-! ## The charger (R504 to R506) -/

/-- The charger changes state (source 4); L follows (source 5). -/
def setChg (c : ChgState) (s : State) : State :=
  let old := limitMib s
  noteLimit old (evsSetIf (decide (s.hold.chg ≠ c)) 4 { s with hold.chg := c })

/-- VHOLD as the command measured it. -/
def sawVhold (mv : Nat) (s : State) : State := { s with arm.meas.vhold := mv }

/-- Event 0x0004: E_avail and E_need(0) in mJ. -/
def shortEvent (s : State) : State := event 0x0004 s.arm.eAvail.toNat (needZero s) s

/-- Entry to Fault (R504): CHG_GATE low, BANK_FAULT (source 224), critical warning bit 4 in every controller. -/
def chgFault (s : State) : State :=
  if s.hold.chg = .fault then s
  else
    let s := setChg .fault s
    let s := evsSetIf (!s.hold.bankFault) 224
      { s with pwr.chgGateHeld := true, hold.bankFault := true, hold.critBackup := true }
    shortEvent (noteShort (hscMark 12 (emit (.pins s.pwr.holdEn true) s)))

/-- CHARGER_BANK_CHECK (R504): VHOLD below 1 V 100 ms after Charging began. -/
def execChargerBankCheck (vholdMv : Nat) (s : State) : Host.Outcome State Fault Refusal :=
  .next (whilePowered (fun s =>
    let s := sawVhold vholdMv s
    if s.hold.chg = .charging ∧ vholdMv < 1000 then
      let s := setChg .noBank { s with pwr.chgGateHeld := true }
      shortEvent (noteShort (emit (.pins s.pwr.holdEn true) s))
    else s) s)

/-- CHARGER_CHARGED (R504): Holding, and from there at once Measuring. -/
def execChargerCharged (vholdMv : Nat) (s : State) : Host.Outcome State Fault Refusal :=
  .next (whilePowered (fun s =>
    let s := sawVhold vholdMv s
    if s.hold.chg = .charging ∧ vChg s ≤ vholdMv + 250 then setChg .measuring (setChg .holding s) else s) s)

/-- Slot 3 is at its UMAX. -/
def chargerFull (s : State) : Bool := decide ((slotOf s 3).applied = (slotOf s 3).cfg.umax)

/-- CHARGER_STALL_TIMEOUT (R504). -/
def execChargerStallTimeout (riseMv : Nat) (s : State) : Host.Outcome State Fault Refusal :=
  .next (if powered s ∧ s.hold.chg = .charging ∧ riseMv < 500 ∧ chargerFull s then chgFault s else s)

/-- CHARGER_MEASURE_START (R504): 24 h in Holding. -/
def execChargerMeasureStart (s : State) : Host.Outcome State Fault Refusal :=
  .next (if powered s ∧ s.hold.chg = .holding then setChg .measuring s else s)

/-- A capacitance measurement joins the last 16 (R470, R506). -/
def addCap (uf : Nat) (s : State) : State :=
  markDelta { s with tab.caps := (uf :: s.tab.caps).take 16, tab.capTj := s.arm.meas.tj }

/-- CHARGER_MEASURE_DONE (R470, R504): VHOLD has fallen by 0.6 V; the recharge is a measurement when its rise is at least
0.5 V. -/
def execChargerMeasureDone (vholdMv riseMv capUf : Nat) (s : State) : Host.Outcome State Fault Refusal :=
  .next (whilePowered (fun s =>
    let s := sawVhold vholdMv s
    if s.hold.chg = .measuring ∧ vholdMv + 600 ≤ vChg s then
      let s := setChg .holding s
      if 500 ≤ riseMv then addCap capUf s else s
    else s) s)

/-- CHARGER_MEASURE_TIMEOUT (R504). -/
def execChargerMeasureTimeout (s : State) : Host.Outcome State Fault Refusal :=
  .next (
    if powered s ∧ s.hold.chg = .measuring then
      setChg .holding { s with hold.measSkipped := satAdd s.hold.measSkipped 1 }
    else s)

/-- VHOLD_UNDERVOLT (R504). -/
def execVholdUndervolt (vholdMv : Nat) (s : State) : Host.Outcome State Fault Refusal :=
  .next (whilePowered (fun s =>
    let s := sawVhold vholdMv s
    if (s.hold.chg = .holding ∨ s.hold.chg = .measuring) ∧ vholdMv < 12000 then chgFault s else s) s)

/-- VHOLD_OVERVOLT (R504, R505): CHG_GATE is forced low in any state; a running Flush stays one (log 54). -/
def execVholdOvervolt (vholdMv : Nat) (s : State) : Host.Outcome State Fault Refusal :=
  .next (whilePowered (fun s =>
    let s := sawVhold vholdMv s
    if vholdMv ≤ 37500 then s
    else if s.hold.chg = .flush ∨ s.hold.chg = .fault then { s with pwr.chgGateHeld := true }
    else chgFault s) s)

/-! ## The dump (R507, R513 to R515) -/

/-- Data bytes of an SLC block set of a group (log 29). -/
def slcSetBytes (s : State) (g : Nat) : Nat :=
  let l := goodChans s g
  listMin 4 (l.map fun c => (dieTab s (dieAt g c)).planes)
    * (listMin 8192 (l.map fun c => (dieTab s (dieAt g c)).pages) / 3) * 16384

/-- DUMP_CAP in MiB (R507): two SLC block sets on each die of the dump groups, data positions only. -/
def dumpCap (s : State) : Nat :=
  listSum ((dumpGroups s).map fun g => ((grpOf s g).n - 2) * 2 * slcSetBytes s g) / 2 ^ 20

/-- A power fail takes an operation back: an erase, or a queued maintenance read (R385). -/
def takenBack (o : DieOp) : Bool := decide (o.cls = .erase ∨ o.cls = .maintRead)

/-- A die's operations after a power fail: erases that run or are suspended are aborted, queued erases and maintenance reads
dropped; programs and other reads go on (R385). -/
def Die.flushed (x : Die) : Die :=
  let kept (r : Option RunOp) : Option RunOp := match r with
    | some y => if y.op.cls = .erase then none else some y
    | none => none
  { x with queue := x.queue.filter (fun o => !takenBack o), overflow := x.overflow.filter (fun o => !takenBack o),
           run := kept x.run, susp := kept x.susp }

/-- Bands whose erase on a die a power fail takes back, running or queued, with the blocks on the die. -/
def Die.unerased (x : Die) : List (Nat × List Nat) := x.eraseOps.map fun o => (o.band, o.blocks)

/-- Every channel at the recognition of a power fail (R385): a retrain that waits is cancelled, and the blocks of erases
taken back are marked for a fresh one. -/
def channelsFlush (s : State) : State :=
  let s := { s with flash.chans := s.flash.chans.map fun (e : Nat × Chan) => (e.1, { e.2 with pending := false }) }
  s.flash.dies.foldl (fun s e =>
    let t := dieTab s e.1
    setDie e.1 e.2.flushed (setDieTab e.1 { t with reErase := t.reErase ++ e.2.unerased } s)) s

/-- The fresh erases that power fails have left to do are queued (R385). -/
def eraseMarked (s : State) : State :=
  s.tab.dies.foldl (fun s e =>
    if (dieOf s e.1).state ≠ .online ∧ (dieOf s e.1).state ≠ .suspect then s
    else e.2.reErase.foldl (fun s b => queueOp e.1 (eraseOp b.1 b.2) s)
      (setDieTab e.1 { dieTab s e.1 with reErase := [] } s)) s

/-- An entry of the parity journal (R442): GROUP, STATE, BAND, ROW, N, GEN, PROGRAMMED, COMMITTED, PAIRED_ROW, FIRST_SEQ,
LAST_SEQ and CRC. -/
def journalEntry (s : State) (r : Row) : Bytes :=
  let seqs := r.items.map fun i => i.2.2.seq
  let (n, gen) : Nat × Nat := match bandOf s r.band with | some x => (x.chans.length, x.gen) | none => (0, 0)
  let b := padTo 0x3C (leBytes 1 r.group ++ leBytes 1 1 ++ le16 (r.band % 4096) ++ le16 r.row ++ leBytes 1 n ++ leBytes 1 gen
    ++ le32 r.programmed.toNat ++ le32 r.committed.toNat ++ le16 (r.paired.getD 0xFFFF) ++ le16 0
    ++ le64 (listMin (listMax seqs) seqs) ++ le64 (listMax seqs))
  b ++ le32 (crc32c b).toNat

/-- The dump journal (R513): the cache journal, the parity journal, the map delta buffer and the queued ledger records. The
spec gives the first and third no layout. -/
def dumpJournal (s : State) (ok : Bool) : Store :=
  { kind := 6, epoch := s.boot.bootIndex, index := 0, committed := ok,
    body := Config.storeBody 6 s.free ++ s.ftl.rows.flatMap (journalEntry s) ++ Config.storeBody 7 s.free
      ++ (s.evr.boot.queue ++ s.evr.gen.queue).flatMap recBytes }

/-- Dump shards of at most 64 MiB for D (R514). -/
def dumpShards (s : State) : List Digest :=
  (List.range ((dirtyBytes s + 2 ^ 26 - 1) / 2 ^ 26)).map fun i => Config.sha384 (Config.storeBody (64 + i) s.free)

/-- The dump manifest (R514): BOOT_INDEX, the count of dump shards, their digests and the dump journal's, and the HMAC
(fields in the rule's order, log 151). -/
def dumpManifest (s : State) (journal : Store) (ok : Bool) : Store :=
  { kind := 7, epoch := s.boot.bootIndex, index := 0, committed := ok,
    body := sealMap s (le32 s.boot.bootIndex.toNat ++ le32 (dumpShards s).length ++ (dumpShards s).flatMap digestBytes
      ++ digestBytes (Config.sha384 journal.body)) }

/-- A store of the dump area. -/
def Store.dumped (x : Store) : Bool := decide (x.kind = 6 ∨ x.kind = 7)

/-- What steps 5 to 7 of a flush store in the dump area (R513, R514), unless it holds a dump already (R515) or there is
no dump group (R68). -/
def dumpAll (r : FlushResult) (s : State) : State :=
  if s.hold.dump.isSome || (dumpGroups s).isEmpty then s
  else
    let journal := dumpJournal s r.journalOk
    let d : Dump := {
      journalOk := r.journalOk, manifestOk := r.journalOk && r.manifestOk, bootIndex := s.boot.bootIndex,
      lines := s.ftl.cache, rows := s.ftl.rows, delta := s.tab,
      bootRecs := s.evr.boot.queue, genRecs := s.evr.gen.queue }
    let l := if r.journalOk then [journal, dumpManifest s journal r.manifestOk] else [journal]
    drawn 1 (replaceStores Store.dumped l { s with hold.dump := some d })

/-! ## Checkpoints and segments (R517 to R524) -/

/-- Map shards of a checkpoint, each at most 64 MiB: five bytes for each entry (R392, R519; log 151). -/
def mapShards (s : State) : Nat := max 1 ((5 * s.tab.map.length + 2 ^ 26 - 1) / 2 ^ 26)

/-- The shards of a checkpoint: the maps, then the tables (R519). The spec gives their bodies no layout. -/
def ckptShards (s : State) (epoch : W32) : List Store :=
  (List.range (mapShards s + 1)).map fun i =>
    { kind := 1, epoch := epoch, index := i, body := Config.storeBody i s.free, committed := true }

/-- A shard's entry in the manifest (R522): KIND, INDEX, LENGTH, LOCATION and DIGEST. -/
def shardEntry (s : State) (x : Store) : Bytes :=
  leBytes 1 (if x.index < mapShards s then 0 else 1) ++ leBytes 1 0 ++ le16 x.index ++ le32 x.body.length
    ++ systemLoc (s.free + x.index) ++ digestBytes (Config.sha384 x.body)

/-- The checkpoint manifest (R522), as of the snapshot: MAGIC, VERSION, SHARD_COUNT, EPOCH, BOOT_INDEX, WRITE_SEQ, FIRST_SEG,
the shard entries, and the HMAC under K_MAP. -/
def ckptManifest (s : State) (epoch : W32) : Store :=
  let l := ckptShards s epoch
  { kind := 3, epoch := epoch, index := 0, committed := true,
    body := sealMap s (padTo 0x40 (le32 0x4D435A54 ++ le16 1 ++ le16 l.length ++ le32 epoch.toNat ++ le32 s.boot.bootIndex.toNat
      ++ le64 s.tab.writeSeq ++ systemLoc (s.free + l.length)) ++ l.flatMap (shardEntry s)) }

/-- The anchor record (R523): the manifest's location, EPOCH and digest, and the HMAC (in the rule's order, log 151). Its
copies on the four anchor dies are equal, and one stands for them. -/
def ckptAnchor (s : State) (epoch : W32) : Store :=
  { kind := 4, epoch := epoch, index := 0, committed := true,
    body := sealMap s (systemLoc (s.free + mapShards s + 2) ++ le32 epoch.toNat
      ++ digestBytes (Config.sha384 (ckptManifest s epoch).body)) }

/-- The stores of a checkpoint, in the order in which they are written: the anchor makes it current (R523). -/
def ckptStores (s : State) (epoch : W32) : List Store := ckptShards s epoch ++ [ckptManifest s epoch, ckptAnchor s epoch]

/-- A full checkpoint starts: its snapshot is the tables now, its epoch one above any before (R517, R525). -/
def startCkpt (s : State) : State :=
  let epoch := s.hold.epochMax + 1
  drawn (mapShards s + 3) { s with
    hold.ckptRun := some { epoch := epoch, tab := s.tab, stores := ckptStores s epoch }, hold.epochMax := epoch,
    hold.segNew := 0, hold.ckptNext := false }

/-- A trigger of R518: while a checkpoint runs it is kept for the next one. -/
def triggerCkpt (s : State) : State :=
  if s.hold.ckptRun.isSome then { s with hold.ckptNext := true } else startCkpt s

/-- CHECKPOINT_START (R518). -/
def execCheckpointStart (_why : CkptWhy) (s : State) : Host.Outcome State Fault Refusal :=
  .next (if running s && s.hold.restarted then triggerCkpt s else s)

/-- A store that only checkpoints older than epoch `e` refer to (R524). -/
def Store.before (e : W32) (x : Store) : Bool := decide (x.kind ≤ 4 ∧ x.epoch.toNat < e.toNat)

/-- The running checkpoint becomes current (R523, R524): the two newest are kept, with every store of the older one's epoch
and later. -/
def commitCkpt (c : Ckpt) (s : State) : State :=
  let older := match s.hold.ckpts with | p :: _ => p.epoch | [] => c.epoch
  let s := replaceStores (Store.before older) c.stores { s with
    hold.ckpts := (c :: s.hold.ckpts).take 2, hold.ckptRun := none, hold.segments := s.hold.segNew,
    hold.segTab := if s.hold.segNew = 0 then some c.tab else s.hold.segTab }
  if s.hold.ckptNext then startCkpt s else s

/-- CHECKPOINT_COMMIT (R518, R523): a write that fails is retried in new system bands (source 226). -/
def execCheckpointCommit (ok : Bool) (s : State) : Host.Outcome State Fault Refusal :=
  .next (
    match s.hold.ckptRun with
    | none => s
    | some c =>
      if !running s then s
      else if ok then commitCkpt c s
      else evsSet 226 { s with hold.ckptFails := satAdd s.hold.ckptFails 1 })

/-- A segment starts: only with records, and after the previous one has committed (R520, R521). -/
def startSegment (s : State) : State :=
  if s.hold.segRun.isSome || !s.hold.dirtyDelta then s
  else { s with hold.segRun := some s.tab, hold.dirtyDelta := false }

/-- SEGMENT_WRITE (R521). -/
def execSegmentWrite (_why : SegWhy) (s : State) : Host.Outcome State Fault Refusal :=
  .next (if running s && s.hold.restarted then startSegment s else s)

/-- Committed segments of the current epoch, and the newest segment (R520). -/
def segmentsOf (s : State) (epoch : W32) : List Store := s.media.stores.filter fun x => decide (x.kind = 2 ∧ x.epoch = epoch)

/-- The segment that commits (R511, R520): EPOCH, its number and the SHA-384 of the previous segment — 0 for the first one
(log 151) — then the records, whose layout the spec does not give. -/
def segmentStore (s : State) : Store :=
  let epoch := s.hold.epochMax
  let n := (segmentsOf s epoch).length
  let prev : Digest := match (s.media.stores.filter fun x => decide (x.kind = 2)).getLast? with
    | some x => Config.sha384 x.body
    | none => 0
  { kind := 2, epoch := epoch, index := n, committed := true,
    body := le32 epoch.toNat ++ le32 n ++ digestBytes prev ++ Config.storeBody 8 s.free }

/-- SEGMENT_COMMIT (R520): the delta buffer keeps the records until the segment that holds them commits. -/
def execSegmentCommit (ok : Bool) (s : State) : Host.Outcome State Fault Refusal :=
  .next (
    match s.hold.segRun with
    | none => s
    | some t =>
      if !running s then s
      else if ok then drawn 1 (replaceStores (fun _ => false) [segmentStore s] { s with
        hold.segTab := some t, hold.segRun := none, hold.segments := satAdd s.hold.segments 1,
        hold.segNew := satAdd s.hold.segNew 1 })
      else { s with hold.segRun := none, hold.dirtyDelta := true })

/-- What checkpoint, segments and delta buffer replay to (R525 steps 1 to 4). -/
def durable (s : State) : Tables :=
  match s.hold.dump with
  | some d => if d.journalOk then d.delta else s.hold.segTab.getD Tables.reset
  | none => s.hold.segTab.getD Tables.reset

/-! ## Restart (R525 to R530) -/

/-- The record in force and the control fields it gives (R495, R499, R500). THROTTLE and slots 2 and 3 are kept across a
Fundamental reset. -/
def loadConf (s : State) : State :=
  let seq := match s.cfg.inForce .conf with | some c => c.seq.toNat | none => 0
  match confRec? s with
  | none => { s with hold.confInForce := none, hold.cfgValid := false }
  | some r =>
    let s := { s with
      hold.confInForce := some r, hold.cfgValid := true, hold.stage := confBytes seq r,
      ftl.pct := r.pct, ftl.foldHi := r.foldHi, ftl.foldLo := r.foldLo, ftl.spread := r.spread,
      hold.ckptInterval := r.ckptInterval, hold.journalMax := r.journalMax }
    if s.pwr.kind = .cold ∨ s.pwr.kind = .powerOn then
      setSlot 2 { slotOf s 2 with cfg.umax := r.chgMaxMa } { s with arm.throttle := r.throttle }
    else s

/-- The charger leaves Off with a valid record (R504); CHG_GATE stays held low while ARMREF is missing (R81). -/
def startCharger (s : State) : State :=
  if s.hold.chg = .off ∧ s.hold.cfgValid then
    setChg .charging (emit (.pins s.pwr.holdEn (!s.pwr.armrefOk)) { s with pwr.chgGateHeld := !s.pwr.armrefOk })
  else s

/-- A version found on media is applied when its WRITE_SEQ is higher than that of the version the map names (R527). -/
def applyVersion (e : Nat × Nat × IuVer) (s : State) : State :=
  let (loc, k, v) := e
  if (nsOf s (iuNs k)).isSome && decide (seqOf s k < v.seq) then
    setMap k (if v.poisoned then BitVec.ofNat 40 loc ||| mapPoison else BitVec.ofNat 40 loc) v.seq s
  else s

/-- The bands known after a frontier scan: those the tables name and those that hold what the map names, as the rows on
the dies show them. -/
def scannedBands (phys named : Sparse Band) (s : State) : Sparse Band :=
  let t := { s with tab.bands := phys }
  phys.filter fun b => (Sparse.look named b.1).isSome || s.tab.map.any fun e =>
    !isSpecial e.2 && (match bandAt t e.2 with
      | some x => decide (x.1 = b.1)
      | none => false)

/-- Frontier scanning (R527). `phys` are the bands on the dies. -/
def frontierScan (phys : Sparse Band) (s : State) : State :=
  let s := s.media.ius.foldl (fun s e => applyVersion e s) s
  { s with hold.frontierScan := true, tab.bands := scannedBands phys s.tab.bands s,
           tab.writeSeq := max s.tab.writeSeq (listMax (s.tab.seqs.map (·.2))) }

/-- Bands on the dies that no committed state names are erased before their blocks are reused (R417, R530). -/
def eraseStrays (phys : Sparse Band) (s : State) : State :=
  (phys.filter fun e => (Sparse.look s.tab.bands e.1).isNone).foldl (fun s e => eraseBand e.1 e.2 s) s

/-- The journal of the dump is committed. -/
def journalOk (s : State) : Bool := match s.hold.dump with | some d => d.journalOk | none => false

/-- The manifest of the dump is committed. -/
def manifestOk (s : State) : Bool := match s.hold.dump with | some d => d.manifestOk | none => false

/-- Steps 1 to 3 (R525 to R527): the tables. Without any verifying manifest, or with a broken chain, nothing after the
checkpoint is replayed (log 51); the key table is read from where it is stored (R209). -/
def restoreTables (env : RestartEnv) (s : State) : State :=
  let phys := s.tab.bands
  let dies := s.tab.dies
  let gone := !env.newestOk && !env.olderOk
  let base : Tables :=
    if gone then Tables.reset
    else if env.chainBreak then
      (match s.hold.ckpts with | c :: _ => c.tab | [] => Tables.reset)
    else durable s
  let s := { s with
    tab := { base with dies := dies, keys := s.media.keyTab, ksplit := s.media.keySplit },
    hold.prevManifest := !env.newestOk, hold.mapLost := gone, hold.segTab := some base }
  eraseStrays phys (if s.tab.initialised && (env.chainBreak || !journalOk s) then frontierScan phys s else s)

/-- Shards that fail their digests (R526). -/
def loseShards (env : RestartEnv) (s : State) : State :=
  let lost := (env.shardLost.filter fun k => (nsOf s (iuNs k)).isSome).eraseDups
  { s with
    hold.shardFallback := !env.shardBad.isEmpty || !env.shardLost.isEmpty,
    hold.mapLost := s.hold.mapLost || !env.shardLost.isEmpty,
    hold.lostKeys := lost,
    tab.map := s.tab.map.filter (fun e => !lost.contains e.1),
    tab.seqs := s.tab.seqs.filter (fun e => !lost.contains e.1) }

/-- Every logical block of a version poisoned (R427, R528). -/
def poisonAll (s : State) (k : Nat) (v : IuVer) : IuVer :=
  match nsOf s (iuNs k) with
  | some n => { v with blocks := (List.range n.perIu).map fun i => (i, Blk.poisoned) }
  | none => v

/-- A line of the dump comes back as Dirty; the blocks of a merge that was waiting are read now, and over a lost shard
they are poisoned (R525, R526, R528, log 58). -/
def restoreLine (bad : Bool) (k : Nat) (l : Line) (s : State) : State :=
  if (nsOf s (iuNs k)).isNone then s
  else if bad then event 0x0040 16 0xFFFF (setLine k { state := .dirty, ver := poisonAll s k l.ver } s)
  else if l.state = LineState.merging then
    if s.hold.lostKeys.contains k then
      let full := (lacking s k l.ver).foldl (fun m i => Sparse.set m i Blk.poisoned) l.ver.blocks
      setLine k { state := .dirty, ver := { l.ver with blocks := full } } s
    else mergeReadDone k MediaEnv.clean (setLine k l s)
  else setLine k { l with state := .dirty } s

/-- The valid IUs of the row that an interrupted row of its band can have disturbed are relocated (R443). -/
def relocatePaired (r : Row) (s : State) : State :=
  match r.paired, bandOf s r.band with
  | some p, some x =>
    moveItems r.band x.group x.gen .other MediaEnv.clean ((movesLeft s r.band).filter fun e => decide (locPage e.2 = p)) s
  | _, _ => s

/-- The parity journal is replayed (R443): bands of open rows are closed at that row, paired rows relocated; event code
38. -/
def replayJournal (rows : List Row) (s : State) : State :=
  let l := rows.filter fun r => !r.done
  let s := l.foldl (fun s r => closeBand r.band s) s
  let s := l.foldl (fun s r => relocatePaired r s) s
  event 0x0040 38 0 { s with ftl.replayDone := true }

/-- Step 4 with a committed journal (R525, R528): the ledger records are appended, the lines come back — poisoned where
their shard fails or the manifest was not reached — and the parity journal is replayed. -/
def restoreDump (env : RestartEnv) (d : Dump) (s : State) : State :=
  let s := placeRecords d.bootRecs d.genRecs s
  let s := d.lines.foldl (fun s e => restoreLine (!d.manifestOk || env.dumpBad.contains e.1) e.1 e.2 s) s
  let seqs := d.lines.map fun e => e.2.ver.seq
  replayJournal d.rows { s with hold.dumpUsed := d.manifestOk, tab.writeSeq := max s.tab.writeSeq (listMax seqs) }

/-- The bands to resynchronise (R444): those that the newest usable checkpoint lists as open, and those that are open
(log 53), from the checkpoint's frontier on. -/
def syncBands (s : State) : List SyncBand :=
  let c := (if s.hold.prevManifest then s.hold.ckpts.drop 1 else s.hold.ckpts).head?
  let listed (b : Nat) : Option Band := c.bind fun c => Sparse.look c.tab.bands b
  (s.tab.bands.filter fun e => !e.2.closed || (match listed e.1 with
    | some x => !x.closed
    | none => false)).map fun e =>
      { band := e.1, first := (match listed e.1 with | some x => x.rows | none => 0), stop := e.2.rows }

/-- Resynchronisation starts (R444): event code 35; with no open band it ends at once. -/
def startResync (s : State) : State :=
  let t := s.hold.segTab.getD Tables.reset
  let s := event 0x0040 35 0 (evsSet 1225 { s with
    ftl.resync := true, hold.sync := { bands := syncBands s, map := t.map, seqs := t.seqs } })
  if !s.hold.sync.bands.isEmpty then s
  else event 0x0040 36 0 (evsSet 1225 { s with ftl.resync := false, ftl.resyncDone := true })

/-- Step 4 without a committed journal (R444, R528, log 53). -/
def loseDump (s : State) : State :=
  if !s.tab.initialised || (dumpGroups s).isEmpty then s
  else startResync (hscMark 12 { s with hold.dumpLost := true, hold.critBackup := true })

/-- Commits every row that is being programmed. -/
def commitOpen (s : State) : State :=
  (s.ftl.rows.filter fun r => !r.done).foldl (fun s r => commitRow r.band r.row s) s

/-- Dirty units, oldest first. -/
def dirtyKeys (s : State) : List Nat :=
  (sortBy (fun e => e.2.ver.seq) (s.ftl.cache.filter fun e => decide (e.2.state = LineState.dirty))).map (·.1)

/-- One pass of packing over the groups in use. -/
def packPass (s : State) : State :=
  commitOpen ((groupsInUse s).foldl (fun s g => stripeRowPack g (dirtyKeys s) s) s)

/-- Dirty units are packed until none is left or none fits (R525 step 5). -/
def packRestored : Nat → State → State
  | 0, s => s
  | n + 1, s =>
    if (dirtyKeys s).isEmpty then s
    else
      let s' := packPass s
      if (dirtyKeys s').length < (dirtyKeys s).length then packRestored n s' else s'

/-- A group in use when all 24 dies of its index are Online (R434), with NATIVE_g (R421). -/
def initGroup (g : Nat) (s : State) : State :=
  if (List.range 24).all fun c => decide ((dieOf s (dieAt g c)).state = .online) then
    let n := groupSets s g
    setGrp g { Grp.reset with state := .normal, n := 24, native := n - slcAllowance 6 n } s
  else s

/-- First initialisation (R421, R434). -/
def firstInit (s : State) : State :=
  let s := (List.range 16).foldl (fun s g => initGroup g s) s
  let cap := listSum ((groupsInUse s).map fun g => (grpOf s g).native * setBytes s g * 22)
  let s := markDelta { s with tab.initialised := true, tab.tnvmcap := cap * 93 / 100 / 2 ^ 30 * 2 ^ 30 }
  (groupsInUse s).foldl (fun s g =>
    let s := setGrp g { grpOf s g with need := needBands (groupShare s g) 22 (setBytes s g) } s
    setGrp g { grpOf s g with spare0 := spareOf s g } s) s

/-- Positions of groups in use on a channel that the reset found neither Online nor Suspect, and not yet counted. -/
def missingOn (s : State) (c : Nat) : List Nat :=
  ((groupsInUse s).map fun g => dieAt g c).filter fun d =>
    !(grpOf s (dieGroup d)).failed.getLsbD c
      && !(decide ((dieOf s d).state = .online) || decide ((dieOf s d).state = .suspect))

/-- Failure events of positions found missing at the reset (chapter 12): a Failed channel is one event. -/
def recheckPositions (s : State) : State :=
  (List.range 24).foldl (fun s c =>
    let l := missingOn s c
    if (chanOf s c).state = .failed then failureEvent l s
    else l.foldl (fun s d => failureEvent [d] s) s) s

/-- Read-only is left when every group's spares have recovered and every N is at least 20 (R424, R448). -/
def recheckReadOnly (s : State) : State :=
  if s.tab.readOnly && (groupsInUse s).all fun g => decide (reserveOf s g 10 ≤ spareOf s g ∧ 20 ≤ (grpOf s g).n) then
    event 0x0040 18 0 (evsSet 1224 (ustChange arrayUnit (markDelta { s with tab.readOnly := false })))
  else s

/-- The handle of a format whose command a reset ended: no queue has it. -/
def cutTag : Tag := ⟨.fn ⟨.p0, 0⟩, 0x10000, 0⟩

/-- A delete or format that the reset cut is finished; a format whose key has no entropy yet waits for it (log 52, R201). -/
def finishCut (nsid : Nat) (n : Ns) (s : State) : State :=
  match n.job with
  | some (.delete _) => removeNs nsid s
  | some (.format _ lbaf ses) =>
    if formatDraws n ses && decide (s.trust.rng ≠ .healthy) then
      modNs nsid (fun n => { n with job := some (.format cutTag lbaf ses) }) s
    else
    let s := if ses = 2 then regenerate n.slot.toList true s else s
    ustChange (nsUnit nsid) (modNs nsid (formatted lbaf) (dropNsData nsid s))
  | none => s

/-- Imports at a restart (R564): Receiving ones are discarded; a Staged tenant stays while its namespaces exist. -/
def restoreImports (s : State) : State :=
  let s := (s.mqt.sess.filter fun x => decide (x.state = .receiving)).foldl (fun s x => discardImport x s) s
  let l := s.mqt.sess.filter fun x => x.nss.all fun i => (nsOf s i).isSome
  { s with mqt.sess := l }

/-- Steps 5 and 6 (R525, R529): restored units are packed, the dump area is erased, L is published, controllers become
ready and a full checkpoint starts. -/
def finishRestart (env : RestartEnv) (s : State) : State :=
  let s := packRestored (s.ftl.cache.length + 1) (commitOpen (eraseMarked s))
  let old := limitMib s
  let s := noteLimit old (markDelta (replaceStores Store.dumped [] { s with hold.dump := none, hold.dumpCapMib := dumpCap s }))
  let s := controllersReady { s with hold.restarted := true, hold.restartMs := env.restartMs }
  noteRestartDone (startCkpt s)

/-- The restart procedure (R525). -/
def restart (env : RestartEnv) (s : State) : State :=
  let s := startCharger (loadConf s)
  let s := loseShards env (restoreTables env s)
  let s := match s.hold.dump with
    | some d => if d.journalOk then restoreDump env d s else loseDump (placeRecords [] [] s)
    | none => loseDump (placeRecords [] [] s)
  let s := s.tab.nss.foldl (fun s e => finishCut e.1 e.2 s) s
  let s := restoreImports s
  let s := if s.tab.initialised then s else firstInit s
  finishRestart env (recheckReadOnly (recheckPositions s))

/-- RESTART (R525 to R530): once after each handoff to firmware. -/
def execRestart (env : RestartEnv) (s : State) : Host.Outcome State Fault Refusal :=
  .next (if running s && !s.hold.restarted then restart env s else s)

end Sys2Proof.Machine
end

