-- ==== Sys2Proof/Machine/Pcie.lean ====
section
/-! DEFINITION. The PCI Express endpoint (chapter 08): configuration requests and headers, link training and power
states, ATS, Bus Master Enable, completion errors, the DOE mailbox and IDE failures. -/
namespace Sys2Proof.Machine

/-! ## Capability lists (R284 to R286) -/

/-- Next pointer of the entry at `off` in a list of offsets. -/
def capChain (off : Nat) : List Nat → Option Nat
  | [] => none
  | a :: r => if a = off then some (r.headD 0) else capChain off r

/-- Capabilities of a PF in its first 256 bytes. -/
def pfCaps : List Nat := [0x40, 0x50, 0x70, 0xB0]
/-- Extended capabilities of a PF that is function 0 of its port. -/
def pfExtCaps : List Nat :=
  [0x100, 0x148, 0x158, 0x188, 0x198, 0x1C8, 0x1F8, 0x218, 0x260, 0x280, 0x290, 0x298, 0x2D8, 0x2E0, 0x2E8, 0x2F8, 0x310]
/-- Extended capabilities of PF1 in x16 mode (R285). -/
def pf1ExtCaps : List Nat := [0x100, 0x148, 0x280, 0x290, 0x298, 0x2D8]
/-- Capabilities of a VF (R286). -/
def vfCaps : List Nat := [0x70, 0xB0]
/-- Extended capabilities of a VF (R286). -/
def vfExtCaps : List Nat := [0x100, 0x148, 0x150]

/-- Next pointer of the capability at an offset of a function (R284 to R286). -/
def capNextOf (two : Bool) (f : Func) (off : Nat) : Option Nat :=
  if f.vf ≠ 0 then (capChain off vfCaps).orElse fun _ => capChain off vfExtCaps
  else (capChain off pfCaps).orElse fun _ =>
    capChain off (if two ∨ f.pf = .p0 then pfExtCaps else pf1ExtCaps)

/-! ## Configuration space (R280 to R288) -/

/-- A flag as a field's value. -/
def flagVal (b : Bool) : W32 := if b then 1 else 0

/-- Subsystem identifiers: the record's, or 0x1E9C and 0 (R283). -/
def subsystemVal (s : State) : W32 :=
  match s.hold.confInForce with
  | some c => at32 16 c.ssid ||| at32 0 c.ssvid
  | none => 0x00001E9C

/-- Address bits of a BAR of a PF by register, with its type bits (R288): 64-bit, not prefetchable. -/
def barVal (n : Nat) (v : W32) : W32 :=
  if n = 0 then (v &&& 0xFE000000) ||| 0x4
  else if n = 2 then (v &&& 0xFFFF0000) ||| 0x4
  else if n = 1 ∨ n = 3 then v
  else 0

/-- Address bits of a VF BAR in the SR-IOV capability by register, with its type bits (R288). -/
def vfBarVal (n : Nat) (v : W32) : W32 :=
  if n = 0 then (v &&& 0xFFFF0000) ||| 0x4
  else if n = 2 then (v &&& 0xFFFFF000) ||| 0x4
  else if n = 1 ∨ n = 3 then v
  else 0

/-- The function with the port's own capabilities, "function 0 of the port" (R284). -/
def portHead (s : State) (f : Func) : Bool := decide (f.vf = 0) && (decide (f.pf = .p0) || bifurc s)

/-- Place of an error in AER's Uncorrectable Error Status (PCIe Base 6.0, log 92). -/
def aerBit : AerErr → Nat
  | .poisonedTlp => 12
  | .completionTimeout => 14
  | .completerAbort => 15
  | .unexpectedCompletion => 16
  | .unsupportedRequest => 20
  | .ideCheckFailed => 28

/-- AER's Uncorrectable Error Status. -/
def aerBits (l : List AerErr) : W32 := l.foldl (fun v e => v ||| ((1 : W32) <<< aerBit e)) 0

/-- A configuration field of a PF or VF reads (R274, R283 to R286, R288). A field that the spec leaves to PCIe Base 6.0 reads
its default there with what writes have changed (log 92). -/
def cfgRead (s : State) (f : Func) (fld : CfgField) : Answer :=
  let x := fnOf s f
  let c := x.cfg
  let pf := decide (f.vf = 0)
  match fld with
  | .vendorDevice => .value (if pf then 0x24001E9C else 0xFFFFFFFF)
  | .memorySpace => .value (flagVal (pf && c.memSpace))
  | .busMasterEnable => .value (flagVal c.bme)
  | .parityErrorResponse => .value (flagVal (pf && c.parity))
  | .serrEnable => .value (flagVal (pf && c.serr))
  | .interruptDisable => .value (flagVal (pf && c.intDis))
  | .revisionClass => .value 0x01080210
  | .headerType => .value (if pf && !bifurc s then 0x80 else 0)
  | .bar n => .value (if pf then barVal n (Sparse.read 0 c.bars n) else 0)
  | .subsystemIds => .value (subsystemVal s)
  | .romBar => .value (if pf then c.romBar else 0)
  | .capPointer => .value (if pf then 0x40 else 0x70)
  | .interruptPin => .value (if pf then 1 else 0)
  | .msiEnable => .value (flagVal (pf && c.msiEn))
  | .msiMultipleMessage => .value (if pf then BitVec.ofNat 32 c.msiMme else 0)
  | .msiMask => .value (if pf then c.msiMask else 0)
  | .msixEnable => .value (flagVal c.msixEn)
  | .msixFunctionMask => .value (flagVal c.msixMask)
  | .msixTableSize => .value (if pf then 2047 else 63)
  | .msiVectors => .value (if pf then 5 else 0)
  | .msixTable => .value 0x00000002
  | .msixPba => .value (if pf then 0x00008002 else 0x00000802)
  | .flrCapable => .value 1
  | .ctoRanges => .value (if pf then 6 else Config.pcieDefault (unitOf f) 0x94)
  | .ctoDisableCapable => .value (if pf then 0 else Config.pcieDefault (unitOf f) 0x94)
  | .noSoftReset => .value (flagVal pf)
  | .powerState => .value (if pf then c.pstate.setWidth 32 else 0)
  | .atsQueueDepth => .value 0
  | .atsPageAligned => .value 1
  | .atsGlobalInvalidate => .value 0
  | .ctoValue => .value (if pf then c.ctoValue.setWidth 32 else 0)
  | .initiateFlr => .value 0
  | .atsEnable => .value (flagVal c.atsEn)
  | .vfEnable => .value (flagVal (pf && c.vfEn))
  | .numVfs => .value (if pf then BitVec.ofNat 32 c.numVfs else 0)
  | .vfMse => .value (flagVal (pf && c.vfMse))
  | .vfBar n => .value (if pf then vfBarVal n (Sparse.read 0 c.vfBars n) else 0)
  | .initialVfs => .value (if pf then 127 else 0)
  | .totalVfs => .value (if pf then 127 else 0)
  | .firstVfOffset => .value (if !pf then 0 else if bifurc s then 1 else match f.pf with | .p0 => 2 | .p1 => 128)
  | .vfStride => .value (if pf then 1 else 0)
  | .vfDeviceId => .value (if pf then 0x2401 else 0)
  | .pageSizes => .value (if pf then 1 else 0)
  | .serialNumber => .bytes (le64 s.fuses.dsn.toNat)
  | .maxPayloadSupported => .value 2
  | .maxPayload => .value (if pf then c.maxPayload.setWidth 32 else 0)
  | .maxReadRequest => .value (if pf then c.maxReadReq.setWidth 32 else 0)
  | .tags10 => .value 1
  | .l0sSupported | .d1Supported | .d2Supported | .pmeD3cold => .value 0
  | .aspmL1Supported => .value 1
  | .aspmControl => .value (if pf then c.aspm.setWidth 32 else 0)
  | .l1SubstatesSupported => .value (if portHead s f then 0xF else 0)
  | .l1Substates => .value (if portHead s f then c.l1ss.setWidth 32 else 0)
  | .msi64 | .msiPerVectorMask | .tags14 | .l0pSupported => .value (flagVal pf)
  | .aerPrefixLog | .aerFlitLog => .value (flagVal pf)
  | .aerUncorrectable => .value (aerBits x.aer)
  | .ideLinkStreams => .value (flagVal (portHead s f))
  | .ideSelectiveStreams => .value (if portHead s f then 4 else 0)
  | .interruptLine => .value (if pf then c.intLine.setWidth 32 else 0)
  | .cacheLineSize => .value (if pf then c.cacheLine.setWidth 32 else 0)
  | .statusErrors => .value (c.errBits.setWidth 32)
  | .capNext off => .value (match capNextOf (bifurc s) f off with
    | some n => BitVec.ofNat 32 n
    | none => Config.pcieDefault (unitOf f) off)
  | .other off => .value (Config.pcieDefault (unitOf f) off ^^^ Sparse.read 0 c.raw off)

/-- The recovery function's header (R282): a 64-bit BAR0 of 512 MiB, no other BAR, and nothing in extended space. -/
def recoveryRead (s : State) (fld : CfgField) : Answer :=
  match fld with
  | .vendorDevice => .value 0x24FF1E9C
  | .revisionClass => .value (0xFF000000 ||| (Config.pcieDefault 0 0x08 &&& 0xFF))
  | .capPointer => .value 0x70
  | .memorySpace => .value (flagVal s.rcv.memSpace)
  | .bar 0 => .value ((s.rcv.bar.setWidth 32 &&& 0xE0000000) ||| 0x4)
  | .bar 1 => .value ((s.rcv.bar >>> 32).setWidth 32)
  | .maxPayloadSupported => .value 2
  | .serialNumber => .unsupported
  | .capNext off => .value (if off = 0x70 ∨ 0x100 ≤ off then 0 else Config.pcieDefault 0 off)
  | .other off => .value (if 0x100 ≤ off then 0 else Config.pcieDefault 0 off)
  | _ => .value 0

/-- A write to the recovery function's header: Memory Space Enable and the address bits of BAR0 (R282). -/
def recoveryCfgWrite (fld : CfgField) (v : W32) (s : State) : State :=
  match fld with
  | .memorySpace => { s with rcv.memSpace := v.getLsbD 0 }
  | .bar 0 => { s with rcv.bar := (s.rcv.bar &&& 0xFFFFFFFF00000000) ||| v.setWidth 64 }
  | .bar 1 => { s with rcv.bar := (s.rcv.bar &&& 0xFFFFFFFF) ||| (v.setWidth 64 <<< 32) }
  | _ => s

/-- Bus Master Enable goes from 1 to 0 (R302, R304, R312, R333): with CC.EN 1 the function becomes fatal, TZ_PCI_BML
names it and event 0x0060 carries 0x87. -/
def busMasterClear (f : Func) (s : State) : State :=
  let x := fnOf s f
  if !x.cfg.bme then s
  else
    let s := intxFollow f (modFn f (fun x => { x with cfg.bme := false }) s)
    if x.ctrl.en && !x.fatal then
      enterFatal f 0x87 { s with
        bmlRid := BitVec.ofNat 8 (routingId (bifurc s) f),
        bmlPort := decide (portOf (bifurc s) f = .p1),
        bmlCount := satAdd s.bmlCount 1 }
    else s

/-! ## ATS (R298 to R301) -/

/-- Functions with ATS Enable set: ENABLED of TZ_PCI_ATS. -/
def atsEnabled (s : State) : Nat := (s.fns.filter fun e => e.2.cfg.atsEn).length

/-- SHARE of TZ_PCI_ATS: floor(4,096 / E). -/
def atsShare (s : State) : Nat := if atsEnabled s = 0 then 0 else 4096 / atsEnabled s

/-- An issued request is using the entry. -/
def atsInUse (s : State) (e : AtsEntry) : Bool :=
  match e.user with
  | some t => (inflightOf s t).isSome
  | none => false

/-- The least recently used entries go until a share is met; one in use never does (R298). -/
def atsTrim (s : State) (share : Nat) : List AtsEntry → List AtsEntry
  | [] => []
  | e :: r => if share < (e :: r).length && !atsInUse s e then atsTrim s share r else e :: atsTrim s (share - 1) r

/-- Every function's entries fit its share. -/
def atsFollow (s : State) : State :=
  let share := atsShare s
  { s with fns := s.fns.map fun e =>
      (e.1, { e.2 with ats.entries := if e.2.cfg.atsEn then atsTrim s share e.2.ats.entries else [] }) }

/-- ATS Enable changes. -/
def atsEnableTo (f : Func) (b : Bool) (s : State) : State := atsFollow (modFn f (fun x => { x with cfg.atsEn := b }) s)

/-- ATS_ENABLE_CHANGE (R298). -/
def execAtsEnableChange (f : Func) (enable : Bool) (s : State) : Host.Outcome State Fault Refusal :=
  .next (if running s && fnPresent s f then atsEnableTo f enable s else s)

/-- An error bit of the Status register is set (PCIe Base 6.0, log 92). -/
def markErr (f : Func) (n : Nat) (s : State) : State :=
  modFn f (fun x => { x with cfg.errBits := x.cfg.errBits ||| ((1 : BitVec 16) <<< n) }) s

/-- An error is logged by AER. -/
def aerLog (f : Func) (e : AerErr) (s : State) : State := modFn f (fun x => { x with aer := insertNew e x.aer }) s

/-- A command whose data cannot be moved ends with Data Transfer Error; one whose data is all in the device goes on. -/
def transferFails (t : Tag) (s : State) : State :=
  match inflightOf s t with
  | some e => if e.phase = .fetched then finish t .dataTransferError s else s
  | none => s

/-- Entries of all functions, at most 4,096 (R31). -/
def atsTotal (s : State) : Nat := listSum (s.fns.map fun e => e.2.ats.entries.length)

/-- A translation joins a function's cache as the most recently used, the least recently used ones that no request is using
making room; it is not kept where that frees no room in the share or in the 4,096 entries (R31, R298). -/
def atsAdd (f : Func) (e : AtsEntry) (s : State) : State :=
  let share := atsShare s
  let s := atsFollow (modFn f (fun x => { x with ats.entries := x.ats.entries.filter fun y => !decide (y.page = e.page) }) s)
  let old := atsTrim s (share - 1) (fnOf s f).ats.entries
  let s := modFn f (fun x => { x with ats.entries := old }) s
  if old.length < share ∧ atsTotal s < 4096 then modFn f (fun x => { x with ats.entries := old ++ [e] }) s else s

/-- ATS_TRANSLATION_COMPLETION (R299, R300): an entry joins the cache; without the permission the access needs, the command
ends with Data Transfer Error and nothing is retried. -/
def execAtsTranslationCompletion (f : Func) (page : Nat) (readOk writeOk needWrite : Bool) (tag : Tag) (s : State) :
    Host.Outcome State Fault Refusal :=
  .next (
    let x := fnOf s f
    if !running s || !x.cfg.atsEn || !x.cfg.bme then s
    else
      let e : AtsEntry := { page := page, read := readOk, write := writeOk, user := some tag }
      let s := if readOk || writeOk then atsAdd f e s else s
      if (if needWrite then writeOk else readOk) then s else transferFails tag s)

/-- INVALIDATE_REQUEST (R301): every matching entry goes; at most 32 requests are outstanding per function. -/
def execInvalidateRequest (f : Func) (itag lo hi : Nat) (s : State) : Host.Outcome State Fault Refusal :=
  .next (
    let x := fnOf s f
    if !running s || !fnPresent s f || decide (32 ≤ x.ats.pending.length) then s
    else
      let hit (e : AtsEntry) : Bool := decide (lo ≤ e.page ∧ e.page ≤ hi)
      let used := ((x.ats.entries.filter hit).filter (atsInUse s)).filterMap (·.user)
      setFn f { x with
        ats.entries := x.ats.entries.filter (fun e => !hit e),
        ats.pending := x.ats.pending ++ [(itag, used)] } s)

/-- INVALIDATE_COMPLETION (R301): sent once every request that used a removed entry is done. -/
def execInvalidateCompletion (f : Func) (itag : Nat) (s : State) : Host.Outcome State Fault Refusal :=
  .next (
    let x := fnOf s f
    match x.ats.pending.find? fun e => decide (e.1 = itag) with
    | none => s
    | some e =>
      if !powered s || e.2.any fun t => (inflightOf s t).isSome then s
      else emit (.invalidateDone (unitOf f) itag)
        (setFn f { x with ats.pending := x.ats.pending.filter fun y => !decide (y.1 = itag) } s))

/-! ## L1 (R274, R277) -/

/-- Some IDE stream of a port is Secure. -/
def anySecure (s : State) (p : Pf) : Bool := (ideOf s p).streams.any fun e => decide (e.2 = .secure)

/-- L1 may not be entered or asked for while a stream is Secure in Flit mode (R277). -/
def l1Barred (s : State) (p : Pf) : Bool := !(portState s p).up || ((portState s p).flit && anySecure s p)

/-- The enables of the port's L1 substates: those of its function 0. -/
def l1Enables (s : State) (p : Pf) : BitVec 4 := (fnOf s ⟨if bifurc s then p else .p0, 0⟩).cfg.l1ss

/-- The port is in L1, and in the deepest substate that is enabled: L1.2 by bit `lo`, L1.1 by the bit above it (PCIe Base 6.0,
log 150). -/
def enterL1 (p : Pf) (lo : Nat) (s : State) : State :=
  let e := l1Enables s p
  setPort p { portState s p with
    l1 := true, l1sub := if e.getLsbD lo then 2 else if e.getLsbD (lo + 1) then 1 else 0 } s

/-- PCI-PM L1: the link is in L1 while every function of the port that is a PF is in D3hot, unless R277 keeps it out. -/
def pmFollow (p : Pf) (s : State) : State :=
  let pfs := ([⟨.p0, 0⟩, ⟨.p1, 0⟩] : List Func).filter fun f => decide (portOf (bifurc s) f = p)
  if pfs.all fun f => decide ((fnOf s f).cfg.pstate = 3) then if l1Barred s p then s else enterL1 p 0 s
  else if (portState s p).l1 then setPort p { portState s p with l1 := false, l1sub := 0 } s else s

/-! ## Configuration requests -/

/-- A PF's MSI mask is written: pending vectors that it unmasks send their messages. -/
def writeMsiMask (f : Func) (v : W32) (s : State) : State :=
  let s := modFn f (fun x => { x with cfg.msiMask := v }) s
  if intMode s f = .msi then
    ((fnOf s f).pba.filter fun n => !v.getLsbD n).foldl
      (fun s n => signalVector f n (modFn f (fun x => { x with pba := x.pba.filter fun u => !decide (u = n) }) s)) s
  else s

/-- A configuration field is written (R283, R284, R302, R304, R308). Fields that are read only, a VF's unsupported bits
and fields left to PCIe Base 6.0 keep their value. -/
def cfgWrite (f : Func) (fld : CfgField) (v : W32) (s : State) : State :=
  let c := (fnOf s f).cfg
  let b := v.getLsbD 0
  let pf := decide (f.vf = 0)
  let mod (g : CfgSpace → CfgSpace) : State := modFn f (fun x => { x with cfg := g x.cfg }) s
  let ifPf (t : State) : State := if pf then t else s
  match fld with
  | .memorySpace => ifPf (mod fun c => { c with memSpace := b })
  | .busMasterEnable =>
    if b then intxFollow f (mod fun c => { c with bme := true }) else busMasterClear f s
  | .parityErrorResponse => ifPf (mod fun c => { c with parity := b })
  | .serrEnable => ifPf (mod fun c => { c with serr := b })
  | .interruptDisable => ifPf (modeChange f c.msixEn c.msiEn b s)
  | .bar n => ifPf (if n < 4 then mod fun c => { c with bars := Sparse.put 0 c.bars n v } else s)
  | .romBar => ifPf (mod fun c => { c with romBar := v &&& 0xFFF00001 })
  | .msiEnable => ifPf (modeChange f c.msixEn b c.intDis s)
  | .msiMultipleMessage => ifPf (if v.toNat ≤ 5 then mod fun c => { c with msiMme := v.toNat } else s)
  | .msiMask => ifPf (writeMsiMask f v s)
  | .msixEnable => modeChange f b c.msiEn c.intDis s
  | .msixFunctionMask => if b then mod fun c => { c with msixMask := true } else unmaskFunction f s
  | .powerState =>
    ifPf (if v = 0 ∨ v = 3 then pmFollow (portOf (bifurc s) f) (mod fun c => { c with pstate := v.setWidth 2 }) else s)
  | .ctoValue => ifPf (mod fun c => { c with ctoValue := v.setWidth 4 })
  | .initiateFlr => if b then flrOf f s else s
  | .atsEnable => atsEnableTo f b s
  | .vfEnable =>
    ifPf (if b then mod fun c => { c with vfEn := true } else if c.vfEn then clearVfs f.pf s else s)
  | .numVfs => ifPf (if !c.vfEn && decide (v.toNat ≤ 127) then mod fun c => { c with numVfs := v.toNat } else s)
  | .vfMse => ifPf (mod fun c => { c with vfMse := b })
  | .vfBar n => ifPf (if n < 4 then mod fun c => { c with vfBars := Sparse.put 0 c.vfBars n v } else s)
  | .maxPayload => ifPf (if v.toNat ≤ 2 then mod fun c => { c with maxPayload := v.setWidth 3 } else s)
  | .maxReadRequest => ifPf (if v.toNat ≤ 5 then mod fun c => { c with maxReadReq := v.setWidth 3 } else s)
  | .aspmControl => ifPf (mod fun c => { c with aspm := v.setWidth 2 })
  | .l1Substates => if portHead s f then mod fun c => { c with l1ss := v.setWidth 4 } else s
  | .interruptLine => ifPf (mod fun c => { c with intLine := v.setWidth 8 })
  | .cacheLineSize => ifPf (mod fun c => { c with cacheLine := v.setWidth 8 })
  | .statusErrors => mod fun c => { c with errBits := c.errBits &&& ~~~(v.setWidth 16) }
  | .aerUncorrectable => modFn f (fun x => { x with aer := x.aer.filter fun e => !v.getLsbD (aerBit e) }) s
  | .other off =>
    let d := Config.pcieDefault (unitOf f) off
    mod fun c => { c with raw := Sparse.put 0 c.raw off ((v ^^^ d) &&& Config.pcieWritable (unitOf f) off) }
  | _ => s

/-- CONFIG_REQUEST (R280 to R286): Request Retry Status until the configuration spaces are built; in Recovery and Option
Fault only the recovery function of port 0 answers. -/
def execConfigRequest (f : Func) (req : CfgReq) (s : State) : Host.Outcome State Fault Refusal :=
  .next (
    if s.pwr.phase ≠ .released then s
    else if s.boot.phase = .recovery ∨ s.boot.phase = .optionFault then
      if f = ⟨.p0, 0⟩ then
        match req with
        | .read fld => emit (.access (recoveryRead s fld)) s
        | .write fld v => emit (.access (.value 0)) (recoveryCfgWrite fld v s)
      else emit (.access .unsupported) s
    else if !s.boot.cfgBuilt || (fnOf s f).resetting then emit (.access .retry) s
    else if !fnPresent s f then emit (.access .unsupported) s
    else match req with
      | .read fld => emit (.access (cfgRead s f fld)) s
      | .write fld v => emit (.access (.value 0)) (cfgWrite f fld v s))

/-- BUS_MASTER_ENABLE_CLEAR (R302 to R304). -/
def execBusMasterEnableClear (f : Func) (s : State) : Host.Outcome State Fault Refusal :=
  .next (if running s && fnPresent s f then busMasterClear f s else s)

/-! ## The Device Description Table and the expansion ROM (R290 to R292) -/

/-- Channels with at least one accepted die. -/
def populatedChans (s : State) : Nat := ((List.range 24).filter fun c => (chanOf s c).accepted ≠ []).length

/-- Largest count of accepted dies on a channel. -/
def diesPerChan (s : State) : Nat := listMax ((List.range 24).map fun c => (chanOf s c).accepted.length)

/-- Raw capacity of the accepted dies in bytes: 16 KiB a page. -/
def rawBytes (s : State) : Nat :=
  listSum ((List.range 24).map fun c => listSum ((chanOf s c).accepted.map fun d =>
    let t := dieTab s (16 * c + d)
    t.planes * t.blocks * t.pages * 16384))

/-- FEATURES of the table: IDE, SPDM and Maquette, and Kaleidoscope where fuse, strap and owner allow it (log 33). -/
def ddtFeatures (s : State) : Nat :=
  7 + (if !s.pwr.straps.kscopeN && !kscFuseOff s && !ownerKscOff s then 8 else 0)

/-- Length of the ROM's image in units of 512 bytes: its headers and the driver that the running image carries. The table
follows it within 1 MiB. -/
def romUnits : Nat := min 2047 ((56 + Config.romImage.length + 511) / 512)

/-- The headers of the ROM's image (R290): the EFI ROM header, and at 0x1C the PCI Data Structure. The places of the fields
are those of PCI Firmware 3.3 (log 159). -/
def romHeader : Bytes :=
  le16 0xAA55 ++ le16 romUnits ++ le32 0x0EF1 ++ le16 0x0B ++ le16 0x0EBC ++ le16 0 ++ padTo 8 [] ++ le16 56 ++ le16 0x1C
    ++ le16 0
    ++ [0x50, 0x43, 0x49, 0x52] ++ le16 0x1E9C ++ le16 0x2400 ++ le16 0 ++ le16 28 ++ [0x03] ++ leBytes 3 0x010802
    ++ le16 romUnits ++ le16 0 ++ [0x03, 0x80] ++ le16 romUnits ++ le16 0 ++ le16 0

/-- ROM bytes 0 to Image Length × 512 − 1 (R290). -/
def romFile : Bytes := padTo (512 * romUnits) (romHeader ++ Config.romImage)

/-- The 512-byte Device Description Table (R291). -/
def deviceTable (s : State) : Bytes :=
  let body := padTo 0x1FC
    (le32 0x54445A54 ++ le16 1 ++ le16 512 ++ le64 s.boot.imageVersion.toNat ++ le32 s.boot.svn.toNat
      ++ [s.boot.slot.setWidth 8, if bifurc s then 1 else 0] ++ le16 256 ++ le16 4096 ++ le16 1024 ++ le32 65536
      ++ le16 2048 ++ le16 4096 ++ le16 8192
      ++ leBytes 1 (populatedChans s) ++ leBytes 1 (diesPerChan s) ++ le64 (rawBytes s) ++ le16 0x3F
      ++ le16 (ddtFeatures s) ++ le32 0
      ++ digestBytes s.boot.rootDigest ++ digestBytes s.trust.devidKeyId ++ digestBytes (Config.sha384 romFile))
  body ++ le32 (crc32c body).toNat

/-- The 1 MiB expansion ROM (R290): the image, the table, then 0xFF. -/
def expansionRom (s : State) : Bytes :=
  let b := romFile ++ s.boot.ddt
  b ++ List.replicate (1048576 - b.length) 0xFF

/-- CONFIG_SPACE_BUILD (R280, R291, R292): firmware fills the table and builds the configuration spaces. -/
def execConfigSpaceBuild (s : State) : Host.Outcome State Fault Refusal :=
  .next (if running s && !s.boot.cfgBuilt then { s with boot.cfgBuilt := true, boot.ddt := deviceTable s } else s)

/-! ## The link (R274 to R277, R307) -/

/-- Widest supported width up to `n` lanes (R274). -/
def widthUpTo (n : Nat) : Nat :=
  if 16 ≤ n then 16 else if 8 ≤ n then 8 else if 4 ≤ n then 4 else if 2 ≤ n then 2 else if 1 ≤ n then 1 else 0

/-- Lanes of a port: 16, or 8 each in x8+x8 mode; port 1 has none in x16 mode (R275). -/
def portLanes (s : State) (p : Pf) : Nat :=
  if bifurc s then 8 else match p with | .p0 => 16 | .p1 => 0

/-- A port trains with its partner: the highest rate and width both support; 64 GT/s needs Flit mode (R274, R276). In
Option Fault the rate is 2.5 GT/s (R95). -/
def trainPort (p : Pf) (x : LinkPartner) (s : State) : State :=
  let w := widthUpTo (min x.width (portLanes s p))
  let old := portState s p
  let slow := decide (s.boot.phase = .optionFault)
  if !x.present || w = 0 || x.rate = 0 then portDown p s
  else
    let r := if slow then 1 else if x.flit then min x.rate 6 else min x.rate 5
    setPort p { old with
      up := true, rate := BitVec.ofNat 3 r, width := w, flit := x.flit, l0p := false, l0pWidth := w, l1 := false,
      l1sub := 0, trained := true, retrains := if old.trained then satAdd old.retrains 1 else old.retrains } s

/-- LINK_TRAINING (R95, R98, R274, R276, R312): the PHY is released in P1, or in Option Fault. -/
def execLinkTraining (port : Pf) (partner : LinkPartner) (s : State) : Host.Outcome State Fault Refusal :=
  .next (if s.pwr.phase = .released ∧ s.boot.phase ≠ .optionLoad ∧ portLanes s port ≠ 0 then trainPort port partner s else s)

/-- Commands of the functions behind a port with requests outstanding. -/
def outstandingBehind (s : State) (p : Pf) : Nat :=
  listSum ((s.fns.filter fun e => decide (portOf (bifurc s) (funcOfUnit e.1) = p)).map fun e =>
    (e.2.ctrl.inflight.filter fun c => decide (c.phase = .fetched)).length)

/-- TIMEOUTS rises by `n` (source 132). -/
def countTimeouts (n : Nat) (s : State) : State :=
  evsSetIf (decide (n ≠ 0)) 132 { s with timeouts := satAdd s.timeouts n }

/-- The link of a port goes down (R307, R308): each outstanding request counts as a completion timeout (one for each
command, log 34), then the Link reset. -/
def linkDownOf (p : Pf) (s : State) : State :=
  if (portState s p).up then linkResetOf p (countTimeouts (outstandingBehind s p) s) else s

/-- LINK_DOWN. -/
def execLinkDown (port : Pf) (s : State) : Host.Outcome State Fault Refusal :=
  .next (if s.pwr.phase = .released then linkDownOf port s else s)

/-- LANE_FAILURE (R276): the port retrains at the next narrower width; with none the link is lost. -/
def execLaneFailure (port : Pf) (s : State) : Host.Outcome State Fault Refusal :=
  .next (
    let x := portState s port
    if !x.up then s
    else if x.width ≤ 1 then linkDownOf port s
    else setPort port { x with width := x.width / 2, l0p := false, l0pWidth := x.width / 2,
                               retrains := satAdd x.retrains 1 } s)

/-- ASPM_L1_ENTRY (R277): never while a stream is Secure in Flit mode. -/
def execAspmL1Entry (port : Pf) (s : State) : Host.Outcome State Fault Refusal :=
  .next (if l1Barred s port then s else enterL1 port 2 s)

/-- L1_EXIT (R277). -/
def execL1Exit (port : Pf) (s : State) : Host.Outcome State Fault Refusal :=
  .next (setPort port { portState s port with l1 := false, l1sub := 0 } s)

/-- L0P_WIDTH_CHANGE (R274, R312): in Flit mode, any supported width down to x1. -/
def execL0pWidthChange (port : Pf) (width : Nat) (s : State) : Host.Outcome State Fault Refusal :=
  .next (
    let x := portState s port
    if x.up && x.flit && decide (1 ≤ width ∧ width ≤ x.width ∧ widthUpTo width = width) then
      setPort port { x with l0p := decide (width < x.width), l0pWidth := width } s
    else s)

/-! ## Errors (R305 to R307, R310) -/

/-- Completion timeout of a function in ms (R305); a VF's value is its PF's. -/
def ctoFor (s : State) (f : Func) : Nat :=
  if s.ctoOverride then s.ctoMs.toNat
  else match (fnOf s ⟨f.pf, 0⟩).cfg.ctoValue.toNat with
    | 0x6 => 200
    | 0x9 => 900
    | 0xA => 3500
    | _ => 50

/-- COMPLETION_TIMEOUT (R306). -/
def execCompletionTimeout (tag : Tag) (s : State) : Host.Outcome State Fault Refusal :=
  .next (match tag.src with
    | .mgt => s
    | .fn f => if running s then transferFails tag (aerLog f .completionTimeout (countTimeouts 1 s)) else s)

/-- UNEXPECTED_COMPLETION (R306): logged and discarded. -/
def execUnexpectedCompletion (f : Func) (s : State) : Host.Outcome State Fault Refusal :=
  .next (if running s then aerLog f .unexpectedCompletion { s with unexpected := satAdd s.unexpected 1 } else s)

/-- The AER error of an error completion (R310). -/
def dmaAer : DmaError → AerErr
  | .poisoned => .poisonedTlp
  | .unsupportedRequest => .unsupportedRequest
  | .completerAbort => .completerAbort

/-- The Status error bit of an error completion: Detected Parity Error, Received Master Abort, Received Target Abort. -/
def dmaErrBit : DmaError → Nat
  | .poisoned => 15
  | .unsupportedRequest => 13
  | .completerAbort => 12

/-- DMA_ERROR_COMPLETION (R310): the command ends with Data Transfer Error and writes nothing. -/
def execDmaErrorCompletion (tag : Tag) (kind : DmaError) (s : State) : Host.Outcome State Fault Refusal :=
  .next (match tag.src with
    | .mgt => s
    | .fn f => if running s then transferFails tag (aerLog f (dmaAer kind) (markErr f (dmaErrBit kind) s)) else s)

/-- The answer to DOE Discovery of an index: the header, then Vendor ID 0x0001, the protocol and the next index; protocols 0
to 2 are Discovery, CMA/SPDM and Secured CMA/SPDM (R287; layout of PCIe Base 6.0, log 159). -/
def discoveryObject (i : Nat) : Bytes :=
  le16 1 ++ le16 0 ++ le32 3
    ++ (if i < 3 then le16 1 ++ leBytes 1 i ++ leBytes 1 ((i + 1) % 3) else le16 0xFFFF ++ le16 0)

/-- DOE_OBJECT (R279, R287): an object longer than 8,192 DW is discarded and sets DOE Error; a length of 0 means 2^18 DW
(PCIe Base 6.0, R18). A protocol the mailbox lacks is discarded. Discovery is answered with the protocol of the index that `head` begins with.
An SPDM request of a code that the responder does not
support is answered at once (R213); the supported ones have rows of their own. -/
def execDoeObject (port : Pf) (protocol : DoeProtocol) (dwords : Nat) (s : State) (head : Bytes := []) :
    Host.Outcome State Fault Refusal :=
  .next (
    if !(running s) || !s.boot.cfgBuilt || (decide (port = .p1) && !bifurc s) then s
    else if dwords = 0 ∨ 8192 < dwords then
      emit (.doe port false) (setPort port { portState s port with doeError := true } s)
    else if protocol = .unsupported then emit (.doe port false) s
    else
      let s := emit (.doe port true) (setPort port { portState s port with doeReady := true } s)
      let s := if protocol = .discovery then emit (.doeDiscovery port (discoveryObject (head.getD 0 0).toNat)) s else s
      let code := (head.getD 1 0).toNat
      if protocol = .discovery ∨ head.length < 2 ∨ spdmListed code = true then s else spdmUnsupported (.doe port) code s)

/-- Code of a sub-stream (R247). -/
def subCode : IdeSub → Nat
  | .pr => 0
  | .npr => 1
  | .cpl => 2

/-- IDE_CHECK_FAILURE (R310): the stream goes to Insecure and its keys are zeroised; event 0x0063. -/
def execIdeCheckFailure (port : Pf) (stream : Nat) (sub : IdeSub) (s : State) : Host.Outcome State Fault Refusal :=
  .next (
    if running s && decide (Sparse.read IdeState.insecure (ideOf s port).streams stream = .secure) then
      let f : Func := ⟨if bifurc s then port else .p0, 0⟩
      event 0x0063 (pfNum port + 256 * stream) (subCode sub) (aerLog f .ideCheckFailed (ideFail port stream s))
    else s)

end Sys2Proof.Machine
end

