-- ==== Sys2Proof/Machine/Power.lean ====
section
/-! DEFINITION. Power, pins and the wide resets (chapter 02, R19, R36 to R38, and the tables "From reset"): release, straps,
power fail and flush, brown-out, trips, clock losses, and the Cold, Power-on and Fundamental resets. -/
namespace Sys2Proof.Machine

/-! ## Stops -/

/-- BOOT_INDEX of the newest BOOT_START record, whose TYPE is exactly 0x0001; 0 with none (R222). -/
def newestBootIndex (s : State) : W32 :=
  match ((s.evr.boot.sectors.flatMap (·.recs)).filter fun r => decide (r.type = 0x0001)).getLast? with
  | some r => r.bootIndex
  | none => 0

/-- BOOT_INDEX that a stop record carries: before P8 one above the newest BOOT_START record's (R84). -/
def stopIndex (s : State) : W32 := if s.boot.bootIndex = 0 then newestBootIndex s + 1 else s.boot.bootIndex

/-- The stop record of R84; a stop in Option Fault writes none (R85, R96). -/
def programStop (cause : W8) (flushMs dumped : W32) (ok : Bool) (s : State) : State :=
  if s.boot.phase = .optionFault then s else writeStop (stopIndex s) flushMs dumped cause ok s

/-- DUMPED_MIB: dirty data that a flush would write in step 6 (R84, R515). -/
def dumpedNow (s : State) : W32 :=
  if s.hold.dump.isSome || (dumpGroups s).isEmpty then 0 else BitVec.ofNat 32 (dirtyMib s)

/-- An open download session ends with its event while firmware can still record it (R271 step 6, R272). -/
def endSession (s : State) : State := if firmwareUp s && s.upd.holder.isSome then event 0x0030 6 0 s else s

/-- A power fail is recognised (R71 steps 2 to 7, R72, R272, R385, R504, R513 to R516): fetching stops, CHG_GATE is held
low, HOLD_EN rises, package power is capped, the charger enters Flush, injections end, the channels abort erases, and the
dump is written. A trip or a real power fail during a flush changes only what the stop record will say (chapter 02,
edges); that PWRFAIL_COUNT does not rise for it is the model's choice (DESIGN CHOICE, log 144). -/
def powerFail (cause : W8) (r : FlushResult) (s : State) : State :=
  if s.pwr.phase ≠ .released then s
  else match s.pwr.flush with
    | some f => { s with pwr.flush := some { f with tripped := f.tripped || decide (cause = 4) } }
    | none =>
      let s := endSession s
      let dumped := dumpedNow s
      let s := armPowerFail { s with
        pwr.pwrfailCount := satAdd s.pwr.pwrfailCount 1, pwr.chgGateHeld := true, pwr.holdEn := true,
        pwr.flush := some { cause := cause, flushMs := r.flushMs, dumped := dumped, stopOk := r.stopOk,
                            tripped := decide (cause = 4) } }
      let s := if s.hold.chg = .fault ∨ s.hold.chg = .noBank then s else setChg .flush s
      dumpAll r (channelsFlush (holdFlushPower (emit (.pins true true) { s with arm.rate := 60000 })))

/-- PWRFAIL_N_FALL (R72, R82, R87). -/
def execPwrfailFall (r : FlushResult) (s : State) : Host.Outcome State Fault Refusal :=
  .next (powerFail 1 r { s with pwr.pwrfailLvl := false })

/-- THERMAL_TRIP (R78): exactly as a power fail. -/
def execThermalTrip (r : FlushResult) (s : State) : Host.Outcome State Fault Refusal := .next (powerFail 4 r s)

/-- SYSREF_LOSS (R81): an internal power fail. -/
def execSysrefLoss (r : FlushResult) (s : State) : Host.Outcome State Fault Refusal := .next (powerFail 6 r s)

/-- Everything stops, the links go down and the pins take their reset state (R49, R71 step 8, R81; Machine/Pins.lean). -/
def stopAll (s : State) : State :=
  let s := portDown .p0 (portDown .p1 s)
  let s := if hscAlert s then emit (.alert false) s else s
  emit (.pins false true) (kscFollow { s with
    pwr.phase := .stopped, pwr.flush := none, pwr.holdEn := false, pwr.chgGateHeld := true })

/-- BROWN_OUT (R49): everything stops at once; the next boot finds no stop record. -/
def execBrownOut (s : State) : Host.Outcome State Fault Refusal :=
  .next (if s.pwr.phase = .released then stopAll s else s)

/-! ## The wide resets -/

/-- Part of Power state that a Power-on or Fundamental reset leaves (R82, R83, R616); measured levels stand, and VAUX is
present at a Cold and a Power-on reset (R19). -/
def pwrAfter (kind : BootKind) (p : Pwr) : Pwr :=
  let fund : Bool := decide (kind = .fundamental ∨ kind = .internalFundamental)
  { Pwr.reset with
    phase := if fund then .released else .inReset, kind := kind, strapDue := fund,
    pwrfailLvl := if fund then p.pwrfailLvl else true, vauxOk := if fund then p.vauxOk else true, xt32Ok := p.xt32Ok,
    armrefOk := p.armrefOk, pwrfailCount := if kind = .cold then 0 else p.pwrfailCount,
    straps := if fund then p.straps else Straps.openLevels, chgGateHeld := if fund then p.chgGateHeld else true }

/-- Armature state after a Cold or Power-on, or a Fundamental reset: slots 2 and 3 and THROTTLE are kept (R495). -/
def armAfter (fund : Bool) (a : Arm) : Arm :=
  if !fund then { Arm.reset with meas := a.meas }
  else
    let keep (i : Nat) : ArmSlot := Sparse.read (ArmSlot.start ArmCfg.disabled 7) a.slots i
    let slot (i : Nat) : ArmSlot :=
      if i = 2 ∨ i = 3 then { keep i with mode := if (keep i).mode = .inject then .normal else (keep i).mode }
      else ArmSlot.start (ArmCfg.default 0 0 a.throttle 42 i) i
    let slots := (List.range 8).map fun i => (i, slot i)
    { Arm.reset with slots := slots, meas := a.meas, throttle := a.throttle }

/-- Hold-up state after a reset: what the dies hold stays; at a Fundamental reset the charger too, but Fault, NoBank and
Flush return to Off (R531, R495). -/
def holdAfter (fund : Bool) (h : Hold) : Hold :=
  { Hold.reset with
    dump := h.dump, ckpts := h.ckpts, segTab := h.segTab, segments := h.segments, epochMax := h.epochMax,
    chg := if fund && charging h.chg then h.chg else .off,
    confInForce := if fund then h.confInForce else none,
    policyDue := fund && h.policyDue }

/-- Maquette sessions after a reset (R564): exports and tracked chains end; staged tenants stay, detached; receiving ones
are discarded at the restart. -/
def mqtAfter (m : Mqt) : Mqt :=
  let l := (m.sess.filter (·.imp)).map fun x => { x with id := mqDetached }
  { Mqt.reset with sess := l }

/-- The management path after a reset (R586): a Fundamental reset keeps it. -/
def mgtAfter (fund : Bool) (m : Mgt) : Mgt := if fund then m else Mgt.reset

/-- NVMe state after a reset (R352): a sanitize goes on after the restart, and the self-test log stays. -/
def nvmAfter (n : Nvm) : Nvm :=
  { Nvm.reset with sanitize := n.sanitize, sanitized := n.sanitized, sanitizeFailed := n.sanitizeFailed,
                   selfTestLog := n.selfTestLog }

/-- The flash channels after a Fundamental reset: MAX_SUSPENDS of each die counts from the last Power-on or Cold reset
(R386). -/
def keepSuspends (f : Flash) : Flash :=
  { Flash.reset with
    dies := f.dies.foldl (fun m e => Sparse.put Die.reset m e.1 { Die.reset with maxSusp := e.2.maxSusp }) [] }

/-- A Cold, Power-on or Fundamental reset, after any flush (R37, R82, R83, R137, R173, R216, R248, R272, R311, R352, R388,
R432, R457, R495, R531, R564, R586, R596, R616). Tables come back at the restart; the bands are as the dies hold them. -/
def wideReset (kind : BootKind) (s : State) : State :=
  let fund : Bool := decide (kind = .fundamental ∨ kind = .internalFundamental)
  let tab : Tables := { Tables.reset with dies := (durable s).dies, bands := s.tab.bands,
                                          caps := if fund then s.tab.caps else [], capTj := if fund then s.tab.capTj else 0 }
  let s := evrReset (dieReset { s with tab := tab })
  { s with
    pwr := pwrAfter kind s.pwr,
    fuses.shadow := none, fuses.counters := none, fuses.attempts := 0,
    boot := { Boot.reset with watchdogFired := s.boot.watchdogFired && fund },
    vault := if kind = .cold then VaultRec.reset else s.vault,
    rcv := Rcv.reset,
    trust := Trust.reset,
    upd := Upd.reset,
    port0 := Port.reset, port1 := Port.reset,
    ctoMs := 50, ctoBad := false, ctoOverride := false, bmlRid := 0, bmlPort := false, bmlCount := 0, timeouts := 0,
    unexpected := 0,
    fns := [],
    nvm := nvmAfter s.nvm,
    ftl := Ftl.reset,
    flash := if fund then keepSuspends s.flash else Flash.reset,
    arm := armAfter fund s.arm,
    hold := holdAfter fund s.hold,
    mqt := mqtAfter s.mqt,
    mgt := mgtAfter fund s.mgt,
    ksc := Ksc.reset,
    evs0 := Evs.reset, evs1 := Evs.reset,
    latch := Latch.reset }

/-- COLD_RESET (R19): VDD_CORE rises with VAUX absent. -/
def execColdReset (s : State) : Host.Outcome State Fault Refusal :=
  .next (emit (.pins false true) (wideReset .cold s))

/-- POWER_ON_RESET (R19): VDD_CORE rises while VAUX stays present. -/
def execPowerOnReset (s : State) : Host.Outcome State Fault Refusal :=
  .next (emit (.pins false true) (wideReset .powerOn s))

/-- FLUSH_COMPLETE (R71 steps 7 and 8, R78, R81, R84): the stop record is programmed, a trip recognised meanwhile being its
cause, and the device stops. When PWRFAIL_N has returned high after its own power fail, a Power-on reset follows. -/
def flushComplete (pwrfailHigh : Bool) (s : State) : State :=
  match s.pwr.flush with
  | none => s
  | some f =>
    let cause : W8 := if f.tripped then 4 else f.cause
    let s := stopAll (programStop cause f.flushMs f.dumped f.stopOk { s with pwr.pwrfailLvl := pwrfailHigh })
    if pwrfailHigh ∧ cause = 1 then
      let s := wideReset .powerOn s
      { s with pwr.restartLatch := true }
    else s

/-- FLUSH_COMPLETE. -/
def execFlushComplete (pwrfailHigh : Bool) (s : State) : Host.Outcome State Fault Refusal :=
  .next (flushComplete pwrfailHigh s)

/-- Export sessions end with their event before the flush of a Fundamental reset takes the queued records (R535). -/
def endExports (s : State) : State :=
  if !firmwareUp s then s
  else (s.mqt.sess.filter fun x => !x.imp).foldl (fun s x => mqEvent 9 (unitOf x.tenant) 0 s) s

/-- A Fundamental reset (R37, R38, R82, R385): the flush on main power, its stop record with CAUSE 2, then the restart.
With a flush of R71 under way, that one is the flush and nothing is repeated (chapter 02, edges). That HOLD_EN, of which
R63 speaks only for a power fail, is high during this flush too is the model's choice (DESIGN CHOICE, log 144). -/
def fundamental (internal : Bool) (r : FlushResult) (s : State) : State :=
  if s.pwr.phase ≠ .released ∨ s.pwr.flush.isSome then s
  else
    let s := endSession (endExports s)
    let dumped := dumpedNow s
    let s := dumpAll r (channelsFlush (emit (.pins true true) (armPowerFail s)))
    let s := wideReset (if internal then .internalFundamental else .fundamental) (programStop 2 r.flushMs dumped r.stopOk s)
    let held := !charging s.hold.chg || !s.pwr.armrefOk
    emit (.pins false held) { s with pwr.chgGateHeld := held }

/-- FUNDAMENTAL_RESET (R57): PERST0_N in x16 mode, both in x8+x8 mode; one port's PERST alone is its Link reset. -/
def execFundamentalReset (cause : FundCause) (r : FlushResult) (s : State) : Host.Outcome State Fault Refusal :=
  .next (match cause with
    | .internal => fundamental true r s
    | .perst p0 p1 =>
      if bifurc s then
        if p0 && p1 then fundamental false r s
        else if s.pwr.phase ≠ .released then s
        else if p0 then linkResetOf .p0 s
        else if p1 then linkResetOf .p1 s
        else s
      else if p0 then fundamental false r s
      else s)

/-! ## Release and straps -/

/-- Internal reset is released (R48): a load sequence starts, and straps are sampled 20 µs later. -/
def release (s : State) : State :=
  { s with pwr.phase := .released, pwr.pwrfailLvl := true, pwr.strapDue := true, boot.phase := .optionLoad }

/-- INTERNAL_RESET_RELEASE (R48; chapter 02, edges): with PWRFAIL_N low the device stays in reset. -/
def execInternalResetRelease (pwrfailHigh : Bool) (s : State) : Host.Outcome State Fault Refusal :=
  .next (
    if s.pwr.phase ≠ .inReset then s
    else if pwrfailHigh then release s
    else { s with pwr.phase := .heldByPwrfail, pwr.pwrfailLvl := false })

/-- PWRFAIL_RELEASE_WAIT: PWRFAIL_N has been high for 10 ms (chapter 02, edges). -/
def execPwrfailReleaseWait (s : State) : Host.Outcome State Fault Refusal :=
  .next (if s.pwr.phase = .heldByPwrfail then release s else s)

/-- Static address of the path (R567). -/
def mgtAddress (a : BitVec 3) : BitVec 7 := 0x58 + a.setWidth 7

/-- The path takes the sampled address; a changed one returns it to SMBus/I2C without EID (R586). -/
def relatchAddress (a : BitVec 3) (s : State) : State :=
  if s.mgt.addr = mgtAddress a then s
  else busMode false { s with mgt.addr := mgtAddress a, mgt.da := 0, mgt.eid := 0 }

/-- STRAP_SAMPLE (R54): at a sampling point only. -/
def execStrapSample (levels : Straps) (s : State) : Host.Outcome State Fault Refusal :=
  .next (
    if s.pwr.strapDue ∧ s.pwr.phase = .released then
      relatchAddress levels.mgtAddr { s with pwr.straps := levels, pwr.strapDue := false }
    else s)

/-! ## Clocks and VAUX (R81, R87, R472) -/

/-- Every slot applies its fallback (R472). -/
def applyFallbacks (s : State) : State :=
  (List.range 8).foldl (fun s i =>
    let x := slotOf s i
    let fb := x.cfg.fallback i
    let s := driveOut i fb (setSlot i { x with applied := fb, ran := false } s)
    if i = 4 then publish s.arm.eAvail 0 s else s) s

/-- ARMREF_LOSS (R81): L is 0, slot 0's fallback caps power at 12 W, the charger stops (source 0). -/
def execArmrefLoss (s : State) : Host.Outcome State Fault Refusal :=
  .next (
    if !s.pwr.armrefOk then s
    else
      let old := limitMib s
      let s := applyFallbacks { s with pwr.armrefOk := false, pwr.chgGateHeld := true }
      let s := evsSetIf (!s.pwr.armrefLost) 0 { s with pwr.armrefLost := true }
      eventDue 0x0003 1 0 (emit (.pins s.pwr.holdEn true) (noteLimit old s)))

/-- ARMREF_RETURN (R472): the slots leave their fallbacks at their next frames and L can rise again. -/
def execArmrefReturn (s : State) : Host.Outcome State Fault Refusal :=
  .next (
    if s.pwr.armrefOk then s
    else
      let old := limitMib s
      let held := s.pwr.flush.isSome || !charging s.hold.chg
      emit (.pins s.pwr.holdEn held) (noteLimit old { s with pwr.armrefOk := true, pwr.chgGateHeld := held }))

/-- XT32_LOSS (R81, R120): the fast path is disabled (source 1). -/
def execXt32Loss (s : State) : Host.Outcome State Fault Refusal :=
  .next (
    if !s.pwr.xt32Ok then s
    else
      let s := { s with pwr.xt32Ok := false, vault.fpDisabled := true }
      eventDue 0x0003 2 0 (evsSetIf (!s.pwr.xt32Lost) 1 { s with pwr.xt32Lost := true }))

/-- XT32_RETURN (R87): the fast path stays disabled until a restart with the crystal running. -/
def execXt32Return (s : State) : Host.Outcome State Fault Refusal := .next { s with pwr.xt32Ok := true }

/-- VAUX_LOSS (R87): what the Vault retained is lost. -/
def execVauxLoss (s : State) : Host.Outcome State Fault Refusal :=
  .next { s with pwr.vauxOk := false, vault := VaultRec.reset }

/-! ## Orderly shutdown (R121, R518, R521) -/

/-- A shutdown notification of a controller: a segment and a full checkpoint; the shutdown completes (log 59). -/
def shutdown (f : Func) (s : State) : State :=
  let s := triggerCkpt (startSegment s)
  modCtrl f (fun c => { c with shst := 2 }) { s with boot.shutdownDone := true }

/-- SHUTDOWN_NOTIFICATION. -/
def execShutdownNotification (f : Func) (s : State) : Host.Outcome State Fault Refusal :=
  .next (fnWrite f (fun s =>
    if s.hold.restarted && (fnOf s f).ctrl.en then shutdown f s else s) s)

end Sys2Proof.Machine
end

