-- ==== Sys2Proof/Machine/X509.lean ====
section
/-! DEFINITION. The X.509 Alias certificate (R179): the DER of its fields, by the encoding rules of ITU-T X.690 and the
structures of RFC 5280 and the TCG DICE Attestation Architecture, which R179 names. -/
namespace Sys2Proof.Machine

/-! ## DER -/

/-- Length octets. -/
def derLen (n : Nat) : Bytes :=
  if n < 128 then leBytes 1 n else if n < 256 then 0x81 :: leBytes 1 n else 0x82 :: beBytes 2 n

/-- One element: tag, length, contents. -/
def derTlv (tag : Byte) (b : Bytes) : Bytes := tag :: derLen b.length ++ b

/-- SEQUENCE. -/
def derSeq (l : List Bytes) : Bytes := derTlv 0x30 l.flatten

/-- A non-negative INTEGER from its big-endian bytes: no leading zero byte but the one that keeps it positive. -/
def derNat (b : Bytes) : Bytes :=
  let m := b.dropWhile fun x => decide (x = 0)
  derTlv 0x02 (match m with
    | [] => [0]
    | x :: _ => if x.getLsbD 7 then 0 :: m else m)

/-- OBJECT IDENTIFIER from its content octets. -/
def derOid (b : Bytes) : Bytes := derTlv 0x06 b

/-- BIT STRING of whole bytes. -/
def derBits (b : Bytes) : Bytes := derTlv 0x03 (0 :: b)

/-- A number as ASCII digits, `n` of them. -/
def digits : Nat → Nat → Bytes
  | 0, _ => []
  | n + 1, v => digits n (v / 10) ++ [BitVec.ofNat 8 (48 + v % 10)]

/-- Year, month and day of a day counted from 1970-01-01 in the Gregorian calendar; years are counted from 1 March. -/
def civil (days : Nat) : Nat × Nat × Nat :=
  let z := days + 719468
  let era := z / 146097
  let doe := z % 146097
  let yoe := (doe - doe / 1460 + doe / 36524 - doe / 146096) / 365
  let doy := doe - (365 * yoe + yoe / 4 - yoe / 100)
  let mp := (5 * doy + 2) / 153
  let m := if mp < 10 then mp + 3 else mp - 9
  (yoe + era * 400 + (if m ≤ 2 then 1 else 0), m, doy - (153 * mp + 2) / 5 + 1)

/-- A time in seconds since 1970 as RFC 5280 writes it: UTCTime through 2049, GeneralizedTime after. -/
def derTime (secs : Nat) : Bytes :=
  let (y, m, d) := civil (secs / 86400)
  let t := secs % 86400
  let rest := digits 2 m ++ digits 2 d ++ digits 2 (t / 3600) ++ digits 2 (t / 60 % 60) ++ digits 2 (t % 60) ++ ascii "Z"
  if y < 2050 then derTlv 0x17 (digits 2 (y % 100) ++ rest) else derTlv 0x18 (digits 4 y ++ rest)

/-! ## The certificate -/

/-- ecdsa-with-SHA384. -/
def ecdsaSha384 : Bytes := derSeq [derOid [0x2A, 0x86, 0x48, 0xCE, 0x3D, 0x04, 0x03, 0x03]]

/-- Subject public key info of an EC_PUB on secp384r1. -/
def ecKeyInfo (pub : Bytes) : Bytes :=
  derSeq [derSeq [derOid [0x2A, 0x86, 0x48, 0xCE, 0x3D, 0x02, 0x01], derOid [0x2B, 0x81, 0x04, 0x00, 0x22]], derBits pub]

/-- Extension number `i`; R179 does not say which are critical (log 136). -/
def extension (i : Nat) (oid value : Bytes) : Bytes :=
  derSeq [derOid oid, if Config.x509Critical i then derTlv 0x01 [0xFF] else [], derTlv 0x04 value]

/-- DiceTcbInfo: vendor, model, SVN and one fwid of type SHA-384 equal to MEAS_DIGEST (R179). -/
def tcbInfo (s : State) : Bytes :=
  derSeq [derTlv 0x80 (ascii "Isakeven"), derTlv 0x81 (ascii "TZ-2400"),
    derTlv 0x83 ((derNat (beBytes 4 s.boot.svn.toNat)).drop 2),
    derTlv 0xA6 (derSeq [derOid [0x60, 0x86, 0x48, 0x01, 0x65, 0x03, 0x04, 0x02, 0x02], derTlv 0x04 (digestBytes (measDigest s))])]

/-- The extensions of R179: key usage digitalSignature, basic constraints with cA false, DiceTcbInfo. -/
def extensions (s : State) : Bytes :=
  derTlv 0xA3 (derSeq [extension 0 [0x55, 0x1D, 0x0F] (derTlv 0x03 [0x07, 0x80]),
    extension 1 [0x55, 0x1D, 0x13] (derSeq []),
    extension 2 [0x67, 0x81, 0x05, 0x05, 0x04, 0x01] (tcbInfo s)])

/-- Serial number: the first 16 bytes of the SHA-384 over the Alias EC_PUB, top bit cleared (R179). -/
def aliasSerial (s : State) : Bytes :=
  match (digestBytes (sha (ecPub (aliasSeed s)))).take 16 with
  | x :: r => (x &&& 0x7F) :: r
  | [] => []

/-- The part of the certificate that is signed (R179). Its own subject name is not given (log 136). -/
def aliasTbs (s : State) : Bytes :=
  derSeq [derTlv 0xA0 (derNat [2]), derNat (aliasSerial s), ecdsaSha384, Config.devidSubject,
    derSeq [derTime Config.issueTime.toNat, derTlv 0x18 (ascii "99991231235959Z")], Config.aliasSubject,
    ecKeyInfo (ecPub (aliasSeed s)), extensions s]

/-- The X.509 Alias certificate, signed by the DeviceID ECDSA key (R178, R179). -/
def aliasX509Bytes (s : State) (h : Option Nat) : Bytes :=
  let sig := ecSign (devidSeed s) (aliasTbs s) h
  derSeq [aliasTbs s, ecdsaSha384, derBits (derSeq [derNat (sig.take 48), derNat (sig.drop 48)])]

end Sys2Proof.Machine
end

