-- ==== Sys2Proof/Machine/Boot.lean ====
section
/-! DEFINITION. From the release of internal reset to firmware (chapter 03, and R85, R177, R178, R222 to R224, R267, R268):
the option load, Plinth, trial boot, and the deep-sleep entry. -/
namespace Sys2Proof.Machine

/-! ## Option load (R89 to R97) -/

/-- The first 464 bytes of the static region (R90). -/
def staticBytes (f : StaticFuses) : Bytes :=
  padTo 192 (f.roots.flatMap digestBytes) ++ beBytes 64 f.uds.toNat ++ beBytes 192 f.trims.toNat
    ++ beBytes 16 f.lifecycle.toNat

/-- Option Fault (R94 to R96): the recovery function is presented; charger and keys are off. -/
def optionFault (s : State) : State :=
  emit .recoveryPresented (setChg .off { s with boot.phase := .optionFault, rcv.optFault := true, nvm.watts := 12,
                                                pwr.chgGateHeld := true })

/-- The static region as an attempt senses it: the burned bits, those that it senses differently inverted (R92). -/
def sensed (a flips : StaticFuses) : StaticFuses where
  roots := (List.range 4).map fun i => a.roots.getD i 0 ^^^ flips.roots.getD i 0
  uds := a.uds ^^^ flips.uds
  trims := a.trims ^^^ flips.trims
  lifecycle := a.lifecycle ^^^ flips.lifecycle
  digest := a.digest ^^^ flips.digest

/-- OPTION_LOAD_ATTEMPT (R89, R90, R92, R94): success fills the shadow registers, hands over to Plinth and lets the key
ladder derive the device keys (R177); the third mismatch is Option Fault. -/
def optionLoad (flips : StaticFuses) (s : State) : State :=
  let f := sensed s.fuses.array flips
  let s := { s with fuses.attempts := s.fuses.attempts + 1 }
  if sha (staticBytes f) = f.digest then
    deriveDeviceKeys { s with
      fuses.shadow := some f, boot.phase := .plinth,
      fuses.counters := some { svnMin := s.fuses.svnMin, keyRevoke := s.fuses.keyRevoke, kscOff := s.fuses.kscOff } }
  else if 3 ≤ s.fuses.attempts then optionFault s
  else s

/-- OPTION_LOAD_ATTEMPT; `fuses` holds the bits that this attempt senses otherwise than they are burned (log 145). -/
def execOptionLoadAttempt (fuses : StaticFuses) (s : State) : Host.Outcome State Fault Refusal :=
  .next (
    if s.pwr.phase = .released ∧ s.boot.phase = .optionLoad ∧ s.pwr.flush = none then optionLoad fuses s else s)

/-! ## Stop log (R85) -/

/-- Stop records that qualify for this boot. -/
def qualifyingStops (s : State) : List StopRec :=
  (allStops s.cfg).filter fun r => decide ((newestBootIndex s).toNat ≤ r.bootIndex.toNat)

/-- LAST_STOP and FLUSH_MS (R85, R88). -/
def stopReport (s : State) : BitVec 4 × W16 :=
  match newestStop (qualifyingStops s) with
  | some r =>
    (if r.cause = 1 ∧ s.pwr.restartLatch then 5 else r.cause.setWidth 4, satOf 16 r.flushMs.toNat)
  | none => if newestBootIndex s = 0 then (0, 0) else (3, 0)

/-! ## Candidates (R110 to R113, R122) -/

/-- How a candidate boots. -/
inductive BootAs where
  | golden | trial | active | fallback
  deriving DecidableEq, Repr

/-- Slots A and B in a state, A first. -/
def slotsIn (r : BootRec) (st : SlotState) : List SlotId :=
  (if r.stateA = st then [.a] else []) ++ (if r.stateB = st then [.b] else [])

/-- Candidates in the order of R112; without a record A, B and G as Active (R110). -/
def candidates (s : State) : List (SlotId × BootAs) :=
  if !s.pwr.straps.goldenN then [(.g, .golden)]
  else match bootRec? s with
    | none => [(.a, .active), (.b, .active), (.g, .fallback)]
    | some r =>
      (slotsIn r .pending).map (·, .trial) ++ (slotsIn r .active).map (·, .active)
        ++ (slotsIn r .previous).map (·, .active) ++ [(.g, .fallback)]

/-- The answers about a slot's image. -/
def bootImageEnv (e : BootEnv) : SlotId → ImageEnv
  | .g => e.imageG
  | .a => e.imageA
  | .b => e.imageB

/-- Bytes 0x00 to 0xCF of the Vault record (R120). -/
def vaultBody (v : VaultRec) : Bytes :=
  padTo 0xD0 (le32 0x52565A54 ++ le16 1 ++ le16 ((if v.dsEntry then 1 else 0) + (if v.fpDisabled then 2 else 0))
    ++ le64 v.writeGen.toNat ++ leBytes 4 (slotCode v.slot) ++ le32 v.svn.toNat ++ digestBytes v.root
    ++ le64 v.entryTime.toNat)

/-- MAC of the Vault record, under K_VAULT (R120, R175). -/
def vaultMac (s : State) (v : VaultRec) : Digest :=
  Config.hmac384 (digestBytes (keyReg s.trust.keys.vault)) (vaultBody v)

/-- The 256 bytes of the Vault record (R120). -/
def vaultBytes (v : VaultRec) : Bytes := vaultBody v ++ digestBytes (v.mac.getD 0)

/-- A Vault record with its MAC. -/
def VaultRec.signed (s : State) (v : VaultRec) : VaultRec := { v with mac := some (vaultMac s v) }

/-- The Vault MAC verifies; `kept` is whether the retained bytes still read as they were written. -/
def vaultOk (s : State) (kept : Bool) (v : VaultRec) : Bool := kept && decide (v.mac = some (vaultMac s v))

/-- The fast path applies to a candidate (R122). `v` is the Vault record as P3 read it. Without a valid boot control
record every verification is full (R110). -/
def fastPath (s : State) (e : BootEnv) (v : VaultRec) (c : SlotId × BootAs) : Bool :=
  let h := slotHeader s c.1
  let d := sha (digestTable s c.1 h)
  decide (s.pwr.kind = .powerOn) && (bootRec? s).isSome && vaultOk s e.vaultMacOk v && v.dsEntry && !v.fpDisabled
    && decide (v.writeGen = s.nor.writeGen) && decide (v.slot = c.1 ∧ c.2 ≠ .trial)
    && decide (h.svn = v.svn.toNat ∧ svnMin s ≤ h.svn) && decide (d = v.root ∧ digestBytes d = h.root)

/-- The first candidate that verifies, whether it took the fast path, and the reasons of those refused (R98, R99). -/
def chooseSlot (s : State) (e : BootEnv) (v : VaultRec) :
    List (SlotId × BootAs) → List (SlotId × Nat) → Option ((SlotId × BootAs) × Bool) × List (SlotId × Nat)
  | [], refused => (none, refused)
  | c :: rest, refused =>
    let fast := fastPath s e v c
    let r := checkImage s c.1 (bootImageEnv e c.1) fast
    if r = 0 then (some (c, fast), refused) else chooseSlot s e v rest (refused ++ [(c.1, r)])

/-- PATH of TZ_BOOT_STATUS (R138). -/
def bootPath (as : BootAs) (fast : Bool) : BitVec 3 :=
  match as, fast with
  | .golden, false => 2
  | .golden, true => 4
  | .fallback, false => 3
  | .fallback, true => 5
  | _, false => 0
  | _, true => 1

/-- Slot states that P8 writes (R111, R113, R119): a slot still in Trial fails, a refused Pending or Active one fails, a
chosen Pending one is Trial, a chosen Previous one is Active. -/
def nextSlotState (st : SlotState) (refused : Bool) (chosen : Bool) : SlotState :=
  match st with
  | .trial => .failed
  | .pending => if chosen then .trial else if refused then .failed else .pending
  | .active => if refused then .failed else .active
  | .previous => if chosen then .active else .previous
  | x => x

/-- The boot control record after P8. -/
def recAfterBoot (r : BootRec) (chosen : SlotId) (refused : List (SlotId × Nat)) : BootRec :=
  let was (i : SlotId) : Bool := refused.any fun e => decide (e.1 = i)
  { r with stateA := nextSlotState r.stateA (was .a) (decide (chosen = .a)),
           stateB := nextSlotState r.stateB (was .b) (decide (chosen = .b)) }

/-! ## Measurements and records (R100, R222 to R224) -/

/-- REFUSED bits (R138). -/
def refusedBits (l : List (SlotId × Nat)) : BitVec 3 :=
  l.foldl (fun m e => m ||| ((1 : BitVec 3) <<< slotCode e.1)) 0

/-- TZ_BOOT_STATUS (R138). -/
def bootStatus (s : State) : W32 :=
  at32 0 s.boot.path ||| at32 3 s.boot.slot ||| bit32 5 s.boot.trial ||| at32 6 s.boot.trialResult
    ||| at32 8 s.boot.refused ||| at32 11 (BitVec.ofNat 2 s.fuses.attempts) ||| bit32 13 s.boot.vaultInvalid
    ||| bit32 14 s.boot.recordInvalid

/-- TZ_PKG_STRAP (R86). -/
def strapWord (p : Straps) : W32 :=
  bit32 0 p.goldenN ||| bit32 1 p.bifurc ||| at32 2 p.mgtAddr ||| bit32 5 p.kscopeN

/-- 48 raw bytes as a measurement. -/
def rawMeas (b : Bytes) : Digest := BitVec.ofNat 384 (leVal (padTo 48 b).reverse)

/-- M8: SHA-384 over the boot control record in force, 0 with none (R100, log 60). -/
def bootRecMeas (s : State) : Digest :=
  match s.cfg.inForce .boot with
  | some ⟨q, .boot r, _⟩ => sha (bootRecBytes s q r)
  | _ => 0

/-- M1 to M8 (R100, R223). -/
def measurements (s : State) (i : SlotId) (refused : List (SlotId × Nat)) : List Digest :=
  let h := slotHeader s i
  let reason (j : SlotId) : Byte := BitVec.ofNat 8 (if i = j then 0 else
    match refused.find? fun e => decide (e.1 = j) with | some e => e.2 | none => 7)
  let flags : Byte := (if s.boot.vaultInvalid then 1 else 0) ||| (if s.boot.recordInvalid then 2 else 0)
  [ Config.romDigest,
    (s.fuses.shadow.map (·.digest)).getD 0,
    rawMeas [BitVec.ofNat 8 (svnMin s), (counters s).keyRevoke.maj.setWidth 8, (counters s).kscOff.maj.setWidth 8,
             (strapWord s.pwr.straps).setWidth 8],
    rawMeas [s.boot.path.setWidth 8, s.boot.slot.setWidth 8, reason .g, reason .a, reason .b, flags],
    sha (slotRead s i 0 4096),
    BitVec.ofNat 384 (leVal h.root.reverse),
    sha (slice (signatureBlock s i h) 0x810 0x15A0),
    bootRecMeas s ]

/-- RESET_TYPE of BOOT_START. -/
def resetType : BootKind → Nat
  | .cold => 1
  | .powerOn => 2
  | .fundamental => 3
  | .internalFundamental => 4

/-- Payload of BOOT_START. -/
def bootStartPayload (s : State) (e : BootEnv) : Bytes :=
  leBytes 1 (resetType s.pwr.kind) ++ leBytes 1 s.pwr.lastStop.toNat ++ le16 s.pwr.flushMs.toNat
    ++ le64 s.nor.writeGen.toNat ++ le64 s.boot.imageVersion.toNat
    ++ le64 (if s.pwr.kind = .cold then 0 else e.vaultSecs.toNat) ++ le32 (bootStatus s).toNat

/-- Payload of a CERT_DIGEST. -/
def certDigestPayload (s : State) (c : Nat) (b : Bytes) : Bytes :=
  digestBytes (sha b) ++ le32 b.length ++ le32 (if holdsCert s.evr.boot.known c b then 0 else 1)

/-- The 11 records of P8 (R224). -/
def formBootRecords (e : BootEnv) (s : State) : State :=
  let s := formRec .boot 0x0001 0 (bootStartPayload s e) s
  let s := (List.range 8).foldl
    (fun s k => formRec .boot 0x0002 (BitVec.ofNat 16 (k + 1)) (digestBytes (measurement s (k + 1))) s) s
  let s := formRec .boot 0x0003 1 (certDigestPayload s 1 s.trust.aliasCert) s
  formRec .boot 0x0003 2 (certDigestPayload s 2 s.trust.xportCert) s

/-! ## Plinth (R98) -/

/-- The previous boot's trial (R118, R119): TRIAL_RESULT and the slot. A slot that the boot control record still shows in
Trial was never confirmed, whatever its BOOT_START record has become of; else the newest BOOT_START record says whether
there was a trial, and the slot's state whether it was confirmed. -/
def trialOutcome (s : State) : BitVec 2 × Nat :=
  let ended : BitVec 2 := if s.boot.watchdogFired then 3 else 2
  match (bootRec? s).bind fun r => (slotsIn r .trial).head? with
  | some i => (ended, slotCode i)
  | none =>
    match ((s.evr.boot.sectors.flatMap (·.recs)).filter fun r => decide (r.type = 0x0001)).getLast? with
    | none => (0, 0)
    | some r =>
      let st : W32 := BitVec.ofNat 32 (leVal (slice r.payload 28 4))
      let code := (fieldOf 3 2 st).toNat
      if !st.getLsbD 5 then (0, 0)
      else
        let now : Option SlotState := match bootRec? s, slotOfCode code with
          | some b, some i => b.state i
          | _, _ => none
        (if now = some .active then 1 else ended, code)

/-- P3 (R85, R124, R138, R238): the stop log, the Vault record and the boot control record are read; DS_ENTRY is cleared,
the Vault MAC rewritten, and FP_DISABLED ends with a restart while the crystal runs (R81). The spec does not say what
makes that restart clean: any one does, also one after a brown-out (DESIGN CHOICE, log 146). A trial that ended is an
event for firmware to record. -/
def plinthP3 (e : BootEnv) (s : State) : State :=
  let (stop, ms) := stopReport s
  let (trial, slot) := trialOutcome s
  let v : VaultRec := { s.vault with dsEntry := false, fpDisabled := s.vault.fpDisabled && !s.pwr.xt32Ok }
  let s := { s with
    pwr.lastStop := stop, pwr.flushMs := ms,
    boot.vaultInvalid := decide (s.pwr.kind = .powerOn) && !vaultOk s e.vaultMacOk s.vault,
    boot.recordInvalid := (bootRec? s).isNone,
    boot.trialResult := trial,
    vault := v.signed s }
  if trial = 2 ∨ trial = 3 then eventDue 0x0034 trial.toNat slot s else s

/-- Recovery (R125, R177): the DeviceID key pair and the digest of its public key are derived, the ladder is locked and the
recovery function presented. -/
def enterRecovery (ddrOk : Bool) (refused : List (SlotId × Nat)) (s : State) : State :=
  let s := deriveDevid s
  emit .recoveryPresented (lockLadder { s with
    boot.phase := .recovery, boot.refused := refusedBits refused, rcv.dramFail := !ddrOk,
    trust.devidKeyId := keyDigest (dualPub (devidSeed s)) })

/-- P7 (R177, R178, R189): the key pairs, the three certificates, the Transport identity; then the ladder is locked. -/
def plinthP7 (s : State) : State :=
  let s := deriveAlias (deriveDevid s)
  let s := { s with trust.devidKeyId := keyDigest (dualPub (devidSeed s)), trust.aliasKeyId := keyDigest (dualPub (aliasSeed s)),
                    trust.identity := true }
  let s := signedOnce { s with trust.aliasCert := aliasCertBytes s (hedge s) }
  let s := signedOnce { s with trust.xportCert := xportCertBytes s (hedge s) }
  let s := signedOnce { s with trust.aliasX509 := aliasX509Bytes s (hedge s) }
  lockLadder { s with trust.xportId := sha (xportCertBody s) }

/-- The record write of P8; with GOLDEN_N low or no valid record none is made (R110, R113, R114). -/
def plinthRecord (i : SlotId) (refused : List (SlotId × Nat)) (ok : Bool) (s : State) : State :=
  match bootRec? s with
  | some r =>
    let r' := recAfterBoot r i refused
    if s.pwr.straps.goldenN && decide (r' ≠ r) then storeRecord (.boot r') (ok && canStore .boot s) s else s
  | none => s

/-- A counter field with every started logical bit completed in all three fuses (R268). -/
def Triple.completed {w : Nat} (t : Triple w) : Triple w :=
  let v := t.a ||| t.b ||| t.c
  { a := v, b := v, c := v }

/-- Burns that were cut are completed, in the fuses and in their shadow (R89, R268). -/
def completeBurns (s : State) : State :=
  let f := s.fuses
  let c : Counters :=
    { svnMin := f.svnMin.completed, keyRevoke := f.keyRevoke.completed, kscOff := f.kscOff.completed }
  { s with fuses.svnMin := c.svnMin, fuses.keyRevoke := c.keyRevoke, fuses.kscOff := c.kscOff, fuses.counters := some c }

/-- What firmware does first: it records the stop, the events that fell due before it ran, a torn general record and
invalid owner-record copies (R36, R138, R215, R238, R247), completes burns that were cut (R268) and trims the stop log
(R84). -/
def firmwareStart (e : BootEnv) (s : State) : State :=
  let s := completeBurns { s with boot.watchdogFired := false }
  let s := if s.pwr.lastStop = 0 then s else event 0x0001 s.pwr.lastStop.toNat s.pwr.flushMs.toNat s
  let s := s.boot.owed.foldl (fun s o => event o.code o.d0 o.d1 s) { s with boot.owed := [] }
  let s := foundTear .gen e.tornGen s
  let s := if (ownerRec? s).isNone then event 0x0014 0xFF (ownerEpoch s).toNat s else s
  kscFollow (trimStops s)

/-- P7 to P9 for a chosen image (R98, R100, R115, R140). Where the Trial marking of P8 fails, the boot goes on as an armed
trial with the slot still Pending; the spec does not say (DESIGN CHOICE, log 146). -/
def bootImage (e : BootEnv) (c : SlotId × BootAs) (fast : Bool) (refused : List (SlotId × Nat)) (s : State) : State :=
  let i := c.1
  let h := slotHeader s i
  let s := { s with
    boot.path := bootPath c.2 fast, boot.slot := BitVec.ofNat 2 (slotCode i), boot.trial := decide (c.2 = BootAs.trial),
    boot.refused := refusedBits refused, boot.imageVersion := BitVec.ofNat 64 h.version, boot.svn := BitVec.ofNat 32 h.svn,
    boot.rootDigest := slotRoot s i, boot.bootIndex := newestBootIndex s + 1 }
  let s := plinthP7 { s with boot.meas := measurements s i refused }
  let s := writeOut .boot e.ledgerOk (formBootRecords e (foundTear .boot e.tornBoot s))
  let s := plinthRecord i refused e.recordOk s
  firmwareStart e { s with
    boot.phase := .firmware, boot.handoffUs := e.handoffUs, boot.armed := decide (c.2 = BootAs.trial),
    boot.remainingS := if c.2 = BootAs.trial then BitVec.ofNat 16 h.window else 0 }

/-- Plinth's work (R98, R112, R125, R136). After a failed DDR training P3's work is still done before Recovery; the spec
does not say (DESIGN CHOICE, log 146). -/
def plinth (e : BootEnv) (s : State) : State :=
  let v := s.vault
  let s := plinthP3 e s
  if !e.ddrOk then enterRecovery false [] s
  else match chooseSlot s e v (candidates s) [] with
    | (some (c, fast), refused) => bootImage e c fast refused s
    | (none, refused) => enterRecovery true refused s

/-- PLINTH_BOOT: once the load engine reports success. -/
def execPlinthBoot (env : BootEnv) (s : State) : Host.Outcome State Fault Refusal :=
  .next (if s.pwr.phase = .released ∧ s.boot.phase = .plinth ∧ s.pwr.flush = none then plinth env s else s)

/-! ## Trial boot (R114 to R119, R267, R268) -/

/-- TRIAL_WATCHDOG_EXPIRY (R118): an internal Fundamental reset. -/
def execTrialWatchdogExpiry (r : FlushResult) (s : State) : Host.Outcome State Fault Refusal :=
  .next (
    if running s && s.boot.armed then fundamental true r { s with boot.watchdogFired := true } else s)

/-- The conditions of R116. -/
def mayConfirm (s : State) : Bool :=
  s.hold.restartDone && s.evr.signed && s.pwr.armrefOk
    && ((List.range 24).all fun c =>
      (chanOf s c).tried && (decide ((chanOf s c).accepted = []) || decide ((chanOf s c).state = .online)))
    && ((List.range 5).all fun i => decide ((slotOf s i).mode ≠ .disabled))

/-- The thermometer code of a value. -/
def thermo (n : Nat) : BitVec 64 := BitVec.ofNat 64 (2 ^ n - 1)

/-- Burns the three fuses of every logical bit up to a floor; never lowers it (R267, R268). -/
def raiseFloor (n : Nat) (s : State) : State :=
  if min n 64 ≤ svnMin s then s
  else
    let v := thermo (min n 64)
    let t := s.fuses.svnMin
    let t' : Triple 64 := { a := t.a ||| v, b := t.b ||| v, c := t.c ||| v }
    eventWith 0x0030 5 (min n 64) (digestBytes s.boot.rootDigest)
      { s with fuses.svnMin := t', fuses.counters := some { counters s with svnMin := t' } }

/-- The record that confirms the running slot: it is Active, the former Active one Previous (R111). -/
def confirmRec (r : BootRec) (i : SlotId) : BootRec :=
  let demote (st : SlotState) : SlotState := if st = .active then .previous else st
  { r with stateA := if i = .a then .active else demote r.stateA, stateB := if i = .b then .active else demote r.stateB }

/-- SVN that the floor may rise to (R267). -/
def floorFor (s : State) (prev : ImageEnv) : Nat :=
  match (bootRec? s).map fun r => slotsIn r .previous with
  | some (j :: _) => if imageOk s j prev then min s.boot.svn.toNat (slotHeader s j).svn else s.boot.svn.toNat
  | _ => s.boot.svn.toNat

/-- The slot in state Pending, its root digest recorded and its staged mark cleared (R109, R111, R264). -/
def BootRec.pending (r : BootRec) (i : SlotId) (root : Digest) : BootRec :=
  match i with
  | .g => r
  | .a => { r with stateA := .pending, rootA := root, staged := r.staged &&& ~~~1 }
  | .b => { r with stateB := .pending, rootB := root, staged := r.staged &&& ~~~2 }

/-- TRIAL_CONFIRM (R116, R117, R139, R267; source 32): the watchdog disarms when the COMMIT word is programmed. -/
def confirmTrial (prev : ImageEnv) (stored : Bool) (s : State) : State :=
  match slotOfCode s.boot.slot.toNat with
  | none => s
  | some i =>
    let ok := stored && canStore .boot s
    let s := storeRecord (.boot (confirmRec (bootRecBase s) i)) ok s
    if !ok then s
    else
      let s := { s with boot.armed := false, boot.confirmed := true, boot.remainingS := 0 }
      raiseFloor (floorFor s prev) (event 0x0034 1 (slotCode i) (evsSet 32 s))

/-- TRIAL_CONFIRM. -/
def execTrialConfirm (prev : ImageEnv) (stored : Bool) (s : State) : Host.Outcome State Fault Refusal :=
  .next (
    if running s && s.boot.trial && s.boot.armed && !s.boot.confirmed && mayConfirm s then confirmTrial prev stored s
    else s)

/-! ## Deep-sleep entry (R120, R121) -/

/-- The Vault record of an entry. -/
def deepSleepRec (entryTime : W64) (s : State) : VaultRec :=
  let v : VaultRec := {
    mac := none, dsEntry := true, fpDisabled := s.vault.fpDisabled, writeGen := s.nor.writeGen,
    slot := (slotOfCode s.boot.slot.toNat).getD .g, svn := s.boot.svn, root := s.boot.rootDigest, entryTime := entryTime }
  v.signed s

/-- DEEP_SLEEP_ARM (R121): after a shutdown notification, with no dirty data and the crystal running. -/
def execDeepSleepArm (entryTime : W64) (s : State) : Host.Outcome State Fault Refusal :=
  .next (
    if running s && s.boot.shutdownDone && decide (dirtyBytes s = 0) && s.pwr.xt32Ok && s.pwr.vauxOk then
      { s with vault := deepSleepRec entryTime s }
    else s)

end Sys2Proof.Machine
end

