-- ==== Sys2Proof/Machine/Features.lean ====
section
/-! DEFINITION. Features and Identify (R30, R250, R313, R315 to R319, R335 to R337, R347, R397). Field layouts of the
standard's structures are NVMe Base 2.1's (PRESUMED, log 39); bytes of them that the spec gives no value are free. -/
namespace Sys2Proof.Machine

/-! ## Set Features and Get Features (R316) -/

/-- The controller that a controller-scope command concerns; from the management path, the one it names (R574). -/
def featFunc (t : Tag) : Func := match t.src with | .fn f => f | .mgt => funcOfUnit t.cid.toNat

/-- A controller ID names an enabled controller; controller IDs are the UNITs of R581 (log 42). -/
def ctrlNamed (s : State) (u : Nat) : Bool :=
  decide (1 ≤ u ∧ u ≤ 256) && fnPresent s (funcOfUnit u) && (fnOf s (funcOfUnit u)).ctrl.en

/-- A controller-scope command from the path that names no enabled controller is answered Invalid Parameter, the
response status 4 of NVMe-MI (R574, log 63). -/
def onCtrl (own : Bool) (t : Tag) (k : State → State) (s : State) : State :=
  if t.src = .mgt ∧ own ∧ !ctrlNamed s t.cid.toNat then mgtRespond (.mi t.sqid 0x04 []) s else k s

/-- Controller-scope features of R316. -/
def featCtrl (fid : W8) : Bool :=
  decide (fid ∈ ([0x01, 0x02, 0x07, 0x08, 0x09, 0x0A, 0x0B, 0x81] : List W8))

/-- Identify data of one controller: CNS 0x00 to 0x02, 0x14 and 0x15 (log 42). -/
def cnsCtrl (cns : W8) : Bool := decide (cns ∈ ([0x00, 0x01, 0x02, 0x14, 0x15] : List W8))

/-- Feature identifiers of R316. -/
def featKnown (fid : W8) : Bool :=
  decide (fid ∈ ([0x01, 0x02, 0x04, 0x05, 0x07, 0x08, 0x09, 0x0A, 0x0B, 0x0E, 0x81, 0x82, 0x83, 0xD0, 0xD2] : List W8))

/-- Features that a VF may not set: device scope and 0xD0. -/
def featDevice (fid : W8) : Bool := decide (fid ∈ ([0x04, 0x0E, 0xD0, 0xD2] : List W8))

/-- A controller-scope feature is stored. -/
def putFeat (t : Tag) (g : Feats → Feats) (s : State) : State :=
  finish t .success (modCtrl (featFunc t) (fun c => { c with feats := g c.feats }) s)

/-- Queues a controller is granted, 0-based in both halves: what it asks for, within its resources (R316, R329). -/
def grantQueues (s : State) (f : Func) (v : W32) : W32 :=
  let top := vqCount s f - 2
  at32 0 (BitVec.ofNat 16 (min (fieldOf 0 16 v).toNat top)) ||| at32 16 (BitVec.ofNat 16 (min (fieldOf 16 16 v).toNat top))

/-- Number of Queues: refused once an I/O queue exists. -/
def setNumQueues (t : Tag) (v : W32) (s : State) : State :=
  let f := featFunc t
  if (fnOf s f).ctrl.cqs.any fun q => decide (q.qid ≠ 0) then finish t .commandSequenceError s
  else if fieldOf 0 16 v = 0xFFFF ∨ fieldOf 16 16 v = 0xFFFF then finish t .invalidField s
  else
    let g := grantQueues s f v
    complete t .success g (modCtrl f (fun c => { c with feats.numQueues := g }) s)

/-- Composite over- and under-temperature threshold: the low and the high half. -/
def setTempThreshold (t : Tag) (v : W32) (s : State) : State :=
  if fieldOf 16 4 v ≠ 0 ∨ 1 < (fieldOf 20 2 v).toNat then finish t .invalidField s
  else
    let old := s.nvm.tempThreshold
    let x := if fieldOf 20 2 v = 0 then (old &&& 0xFFFF0000) ||| at32 0 (fieldOf 0 16 v)
      else (old &&& 0x0000FFFF) ||| at32 16 (fieldOf 0 16 v)
    finish t .success { s with nvm.tempThreshold := x }

/-- A namespace-scope feature is stored; the broadcast NSID names no namespace here. -/
def putNsFeat (t : Tag) (nsid : W32) (g : Ns → Ns) (s : State) : State :=
  withNs t nsid.toNat (fun _ s => finish t .success (modNs nsid.toNat g s)) s

/-- Set Features by identifier, its scope checks done. -/
def setFeature (t : Tag) (fid : W8) (nsid cdw11 : W32) (data : BitVec 128) (s : State) : State :=
  if fid = 0x01 then putFeat t (fun x => { x with arbitration := cdw11 }) s
  else if fid = 0x02 then
    if fieldOf 0 5 cdw11 = 0 then putFeat t (fun x => { x with powerMgmt := cdw11 }) s else finish t .invalidField s
  else if fid = 0x04 then setTempThreshold t cdw11 s
  else if fid = 0x05 then
    if cdw11.getLsbD 16 then finish t .invalidField s
    else putNsFeat t nsid (fun n => { n with tler := cdw11 }) s
  else if fid = 0x07 then setNumQueues t cdw11 s
  else if fid = 0x08 then putFeat t (fun x => { x with coalesce := cdw11 }) s
  else if fid = 0x09 then
    let iv := (fieldOf 0 16 cdw11).toNat
    if viCount s (featFunc t) ≤ iv then finish t .invalidField s
    else putFeat t (fun x => { x with vecConfig := Sparse.put false x.vecConfig iv (cdw11.getLsbD 16) }) s
  else if fid = 0x0A then
    if cdw11.getLsbD 0 then finish t .invalidField s else putFeat t (fun x => { x with atomicity := cdw11 }) s
  else if fid = 0x0B then putFeat t (fun x => { x with asyncConfig := cdw11 }) s
  else if fid = 0x0E then finish t .success { s with nvm.timestamp := (data.setWidth 48).setWidth 64 }
  else if fid = 0x81 then
    if cdw11.getLsbD 0 then putFeat t (fun x => { x with hostId := data }) s else finish t .invalidField s
  else if fid = 0x82 then putNsFeat t nsid (fun n => { n with rsvMask := cdw11 }) s
  else putNsFeat t nsid (fun n => { n with rsv.ptpl := cdw11.getLsbD 0 }) s

/-- SET_FEATURES (R313, R316 to R318): no feature is saveable, and a VF may not set 0xD0 or a device-scope one. -/
def execSetFeatures (tag : Tag) (fid : W8) (sv : Bool) (nsid : W32) (cdw11 : W32) (data : BitVec 128) (s : State) :
    Host.Outcome State Fault Refusal :=
  .next (runAdmin (.setFeatures tag fid sv nsid cdw11 data) tag 0x09 nsid true true true (onCtrl (featCtrl fid) tag (fun s =>
    if !featKnown fid then finish tag .invalidField s
    else if fid = 0xD0 then setKeyBinding tag sv nsid cdw11 s
    else if fid = 0xD2 then setPowerLimit tag sv cdw11 s
    else if sv then finish tag .featureNotSaveable s
    else if featDevice fid && isVf tag.src then finish tag .featureNotChangeable s
    else setFeature tag fid nsid cdw11 data s)) s)

/-- A namespace-scope feature's value is returned. -/
def getNsFeat (t : Tag) (nsid : W32) (g : Ns → W32) (s : State) : State :=
  match visibleNs s nsid.toNat with
  | none => finish t .invalidNamespaceOrFormat s
  | some n => complete t .success (g n) s

/-- Get Features by identifier. The Timestamp has advanced by a time the model does not keep: a free value (log 38). -/
def getFeature (t : Tag) (fid : W8) (nsid cdw11 : W32) (s : State) : State :=
  let x := (fnOf s (featFunc t)).ctrl.feats
  if fid = 0x01 then complete t .success x.arbitration s
  else if fid = 0x02 then complete t .success x.powerMgmt s
  else if fid = 0x04 then
    complete t .success (if fieldOf 20 2 cdw11 = 1 then at32 0 (fieldOf 16 16 s.nvm.tempThreshold)
      else at32 0 (fieldOf 0 16 s.nvm.tempThreshold)) s
  else if fid = 0x05 then getNsFeat t nsid (fun n => n.tler) s
  else if fid = 0x07 then complete t .success x.numQueues s
  else if fid = 0x08 then complete t .success x.coalesce s
  else if fid = 0x09 then
    let iv := fieldOf 0 16 cdw11
    complete t .success (at32 0 iv ||| bit32 16 (Sparse.read false x.vecConfig iv.toNat)) s
  else if fid = 0x0A then complete t .success x.atomicity s
  else if fid = 0x0B then complete t .success x.asyncConfig s
  else if fid = 0x0E then finishData t (leBytes 8 (draw 48 s).toNat) (drawn 1 s)
  else if fid = 0x81 then finishData t (leBytes 16 x.hostId.toNat) s
  else if fid = 0x82 then getNsFeat t nsid (fun n => n.rsvMask) s
  else if fid = 0x83 then getNsFeat t nsid (fun n => bit32 0 n.rsv.ptpl) s
  else if fid = 0xD0 then
    getNsFeat t nsid (fun n => match n.slot with
      | some i => at32 0 (BitVec.ofNat 12 i) ||| bit32 31 true
      | none => 0) s
  else complete t .success (BitVec.ofNat 32 s.nvm.watts) s

/-- GET_FEATURES (R313, R316 to R318). -/
def execGetFeatures (tag : Tag) (fid : W8) (nsid : W32) (cdw11 : W32) (s : State) : Host.Outcome State Fault Refusal :=
  .next (runAdmin (.getFeatures tag fid nsid cdw11) tag 0x0A nsid true true true (onCtrl (featCtrl fid) tag (fun s =>
    if featKnown fid then getFeature tag fid nsid cdw11 s else finish tag .invalidField s)) s)

/-! ## Identify (R319) -/

/-- `b` with `v` at `off`. -/
def patch (off : Nat) (v b : Bytes) : Bytes := b.take off ++ v ++ b.drop (off + v.length)

/-- Applies patches to 4,096 free bytes of a standard structure. -/
def patched (seed ctr : Nat) (l : List (Nat × Bytes)) : Bytes :=
  l.foldl (fun b e => patch e.1 e.2 b) (padTo 4096 (Config.standardBytes seed ctr))

/-- Identify Controller (R4, R250, R253, R313, R314, R316, R319, R345, R347). -/
def identifyCtrl (s : State) (f : Func) : Bytes :=
  patched 1 s.free
    [(0, le16 0x1E9C), (2, le16 (fieldOf 0 16 (subsystemOf s)).toNat), (77, leBytes 1 9), (78, le16 (unitOf f)),
     (80, le32 0x00020100),
     (240, [0]), (256, [0xFF, 0xFF]), (258, leBytes 1 7), (259, leBytes 1 15), (260, leBytes 1 0x07), (263, leBytes 1 0),
     (280, leBytes 16 s.tab.tnvmcap), (296, leBytes 16 (unallocated s)), (316, le16 60), (319, leBytes 1 0x10), (328, le32 3),
     (516, le32 1024), (520, le16 0x00EF), (522, le16 0), (525, leBytes 1 0), (526, le16 0), (528, le16 0),
     (536, le32 0x00000002), (540, le32 1024), (2048, le16 4200)]
where
  /-- Subsystem identifiers (R283). -/
  subsystemOf (s : State) : W32 :=
    match s.hold.confInForce with
    | some c => at32 16 c.ssid ||| at32 0 c.ssvid
    | none => 0x00001E9C

/-- Metadata size and data size of an LBA format, as the structure gives them (R336). -/
def lbafEntry (i : Nat) : Bytes := le16 (metaBytes i) ++ leBytes 1 (if i = 0 then 9 else 12) ++ leBytes 1 0

/-- Identify Namespace (R335, R336, R347, R406). -/
def identifyNs (s : State) (n : Ns) : Bytes :=
  let au := n.perIu - 1
  patched 0 s.free
    [(0, le64 n.nsze.toNat), (8, le64 n.ncap.toNat), (24, leBytes 1 0x02), (25, leBytes 1 3), (26, leBytes 1 n.lbaf),
     (30, leBytes 1 (if n.priv then 0 else 1)), (33, leBytes 1 0x09), (34, le16 au), (36, le16 au), (40, le16 au),
     (42, le16 0), (44, le16 au), (48, leBytes 16 (nsBytes n)),
     (128, lbafEntry 0 ++ lbafEntry 1 ++ lbafEntry 2 ++ lbafEntry 3), (3072, leBytes 1 n.iu)]

/-- A list of 32-bit namespace identifiers above `from`, in 4,096 bytes. -/
def nsList (l : List Nat) (above : Nat) : Bytes :=
  padTo 4096 (((l.filter fun i => decide (above < i)).take 1024).flatMap le32)

/-- A controller list. -/
def ctrlList (l : List Nat) : Bytes := padTo 4096 (le16 l.length ++ (l.take 2047).flatMap le16)

/-- Namespaces attached to a function's controller. -/
def attachedTo (s : State) (f : Func) : List Nat :=
  ((s.tab.nss.filter fun e => decide (e.2.state ≠ .staged) && e.2.attached.contains (unitOf f))).map (·.1)

/-- Namespaces that exist for commands. -/
def visibleList (s : State) : List Nat := ((s.tab.nss.filter fun e => decide (e.2.state ≠ .staged))).map (·.1)

/-- Primary controller capabilities of a PF (R329). -/
def primaryCaps (s : State) (pf : Pf) : Bytes :=
  let f : Func := ⟨pf, 0⟩
  patched 0x14 s.free
    [(0, le16 (unitOf f)), (2, le16 0), (4, leBytes 1 3), (32, le32 1792), (36, le32 (vqTaken s f)),
     (40, le16 (fnOf s f).vq), (42, le16 256), (44, le16 64), (46, le16 1), (64, le32 2048), (68, le32 (viTaken s f)),
     (72, le16 (fnOf s f).vi), (74, le16 2048), (76, le16 64), (78, le16 1)]

/-- Secondary controllers of a PF (R329, R330). -/
def secondaryList (s : State) (pf : Pf) : Bytes :=
  padTo 4096 (padTo 32 (leBytes 1 127) ++ (List.range 127).flatMap fun i =>
    let f : Func := ⟨pf, i + 1⟩
    padTo 32 (le16 (unitOf f) ++ le16 (unitOf ⟨pf, 0⟩) ++ leBytes 1 (if (fnOf s f).online then 1 else 0) ++ leBytes 3 0
      ++ le16 (i + 1) ++ le16 (fnOf s f).vq ++ le16 (fnOf s f).vi))

/-- Identify data by CNS; `none` for one that R313 does not list, or a namespace that does not exist. -/
def identifyData (s : State) (f : Func) (cns : W8) (nsid : W32) : Option Bytes :=
  let n := nsid.toNat
  let exists? := (visibleNs s n).isSome || decide (nsid = 0xFFFFFFFF)
  let free (k : Nat) : Bytes := padTo 4096 (Config.standardBytes (256 + k) s.free)
  if cns = 0x00 then
    (visibleNs s n).map fun x => if x.attached.contains (unitOf f) then identifyNs s x else padTo 4096 []
  else if cns = 0x01 then some (identifyCtrl s f)
  else if cns = 0x02 then some (nsList (attachedTo s f) n)
  else if cns = 0x03 ∨ cns = 0x08 then if exists? then some (free cns.toNat) else none
  else if cns = 0x10 then some (nsList (visibleList s) n)
  else if cns = 0x11 then (visibleNs s n).map fun x => identifyNs s x
  else if cns = 0x12 then (visibleNs s n).map fun x => ctrlList x.attached
  else if cns = 0x13 then some (ctrlList ((List.range 256).map (· + 1)))
  else if cns = 0x14 then some (primaryCaps s f.pf)
  else if cns = 0x15 then some (secondaryList s f.pf)
  else if cns = 0x1C then some (free 0x1C)
  else none

/-- CNS values of R313. -/
def cnsKnown (cns : W8) : Bool :=
  decide (cns.toNat ≤ 0x03 ∨ cns = 0x08 ∨ (0x10 ≤ cns.toNat ∧ cns.toNat ≤ 0x15) ∨ cns = 0x1C)

/-- IDENTIFY (R313, R319). -/
def execIdentify (tag : Tag) (cns : W8) (nsid : W32) (s : State) : Host.Outcome State Fault Refusal :=
  .next (runAdmin (.identify tag cns nsid) tag 0x06 nsid true true true (onCtrl (cnsCtrl cns) tag (fun s =>
    if !cnsKnown cns then finish tag .invalidField s
    else match identifyData s (featFunc tag) cns nsid with
      | none => finish tag .invalidNamespaceOrFormat s
      | some b => finishData tag b (drawn 1 s))) s)

end Sys2Proof.Machine
end

