-- ==== Sys2Proof/Machine/Maquette.lean ====
section
/-! DEFINITION. Maquette Export (0xC8): sessions, rounds, objects, the final stop and what ends an export (R533 to R553,
R560 to R564). -/
namespace Sys2Proof.Machine

/-! ## Common -/

/-- The PF that issues a Maquette command; only the PFs' admin queues may (R313, R533). -/
def mqPf (t : Tag) : Pf := match t.src with | .fn f => f.pf | .mgt => .p0

/-- A command runs from a PF's admin queue. -/
def runMaquette (i : Instr) (t : Tag) (op : W8) (k : State → State) (s : State) : State :=
  runAdmin i t op 0 true false false k s

/-- Lowest session number that is free (R534). -/
def freeSession (s : State) : Option Nat := lowestFree 0 8 (s.mqt.sess.map (·.id))

/-- A function has a session, or a staged tenant (R534). -/
def hasSession (s : State) (f : Func) : Bool := s.mqt.sess.any fun x => decide (x.pf = f.pf ∧ x.vf = f.vf)

/-- The session a command names, of the PF that issues it; with none, State Conflict (R535, R554). -/
def withSess (t : Tag) (imp : Bool) (id : Nat) (k : MqSess → State → State) (s : State) : State :=
  match s.mqt.sess.find? fun x => decide (x.id = id ∧ x.imp = imp ∧ x.pf = mqPf t) with
  | some x => k x s
  | none => finish t .stateConflict s

/-- A root key pair's digest is a vendor root-key digest that is not revoked (R105, R546). -/
def rootDigestOk (s : State) (d : Digest) : Bool :=
  match s.fuses.shadow with
  | some f => (List.range 4).any fun k => decide (f.roots[k]? = some d) && !((counters s).keyRevoke.maj.getLsbD k)
  | none => false

/-- Namespaces attached to a function's controller. -/
def nssOf (s : State) (f : Func) : List (Nat × Ns) := s.tab.nss.filter fun e => e.2.attached.contains (unitOf f)

/-- C_0 (R552). -/
def chainStart (chainId : BitVec 128) (hdr : Bytes) : Digest := sha (leBytes 16 chainId.toNat ++ digestBytes (sha hdr))

/-- The next value of the shard chain (R552). -/
def chainNext (c d : Digest) : Digest := sha (digestBytes c ++ digestBytes d)

/-! ## Rounds (R396, R539, R540) -/

/-- The IUs of a round, each followed in its namespace by the shadow IUs of its host metadata (R542). -/
def roundList (s : State) (l : List Nat) : List Nat :=
  sortBy id ((l ++ l.flatMap (shadowsOf s)).eraseDups)

/-- IUs of a tenant's namespaces whose map entry is not deallocated (R539). -/
def mappedIus (s : State) (nss : List Nat) : List Nat :=
  ((s.tab.map.map (·.1)) ++ (s.ftl.cache.map (·.1)) ++ (s.ftl.wt.map (·.key))).eraseDups.filter fun k =>
    nss.contains (iuNs k)

/-! ## Objects (R538, R542, R549 to R553) -/

/-- The session header (R549). -/
def sessionHeader (s : State) (delta : Bool) (chainId : BitVec 128) (seq : W32) (xport : Digest) (eph kem : Bytes) :
    Bytes :=
  le32 0x48535A54 ++ le16 1 ++ leBytes 1 (if delta then 1 else 0) ++ leBytes 1 0 ++ leBytes 16 chainId.toNat
    ++ le32 seq.toNat ++ le32 7664 ++ digestBytes xport ++ padTo 97 eph ++ padTo 15 [] ++ padTo 1568 kem
    ++ padTo 5648 s.trust.aliasCert ++ devidCert s

/-- TARGET_XPORT_ID of a Transport certificate (R546). -/
def xportIdOf (cert : Bytes) : Digest := sha (cert.take 0x6C0)

/-- T of the session key (R547). -/
def transcript (eph ct : Bytes) (xport : Digest) (chainId : BitVec 128) (seq : W32) : Bytes :=
  digestBytes (sha (eph ++ ct ++ digestBytes xport ++ leBytes 16 chainId.toNat ++ le32 seq.toNat))

/-- K_S from Z_ec, K_kem and T (R547). -/
def sessionKey (zEc kKem t : Bytes) : Bytes :=
  (digestBytes (kdf (digestBytes (sha (padTo 48 zEc ++ padTo 32 kKem))) "TZ-MQT" t)).take 32

/-- A shard from its plaintext body, encrypted under K_S, and the session with its chain moved on (R548, R550, R552). -/
def sealShard (x : MqSess) (kind nsid count : Nat) (body : Bytes) : Bytes × MqSess :=
  let head := le32 0x44535A54 ++ leBytes 1 kind ++ leBytes 1 x.round ++ le16 0 ++ le64 x.nextIdx ++ le32 body.length
    ++ le32 nsid ++ le32 count ++ le32 0
  let enc := padTo (body.length + 16) (Config.gcmSeal x.ks (le64 x.nextIdx ++ padTo 4 []) head body)
  let d := sha (head ++ enc)
  (head ++ digestBytes d ++ padTo 16 [] ++ enc, { x with chain := chainNext x.chain d, shards := x.shards + 1 })

/-- A NAMESPACES record (R551); NGUID and EUI64 are not given. -/
def nsRecord (nsid : Nat) (n : Ns) : Bytes :=
  padTo 64 (le32 nsid ++ le64 n.nsze.toNat ++ le64 n.ncap.toNat ++ leBytes 1 n.lbaf ++ leBytes 1 n.iu
    ++ leBytes 1 (if n.slot.isSome then 1 else 0) ++ leBytes 1 0 ++ padTo 24 (Config.standardBytes 9 nsid))

/-- KIND of an IU's DATA record (R551). -/
def dataKind (s : State) (k : Nat) : Nat :=
  if iuShadow k ∨ (dramVer s k).isSome then 0
  else if mapOf s k = mapNone ∧ !(s.hold.lostKeys.contains k) then 1
  else if mapOf s k = mapUnc then 2
  else 0

/-- Bytes of an IU's DATA record. -/
def dataSize (s : State) (k : Nat) : Nat :=
  32 + (if dataKind s k = 0 then keyBytes s k else 0)

/-- Bits of POISON. -/
def poisonBits (l : List Nat) : BitVec 128 := l.foldl (fun m i => m ||| ((1 : BitVec 128) <<< i)) 0

/-- A DATA record of an IU: blocks that cannot be read travel poisoned with zero data, and the map is left as it is (R542). -/
def dataRecord (s : State) (env : MediaEnv) (k : Nat) : Bytes :=
  match nsOf s (iuNs k) with
  | none => []
  | some n =>
    let kind := dataKind s k
    let blk (j : Nat) : BlkSrc := readBlk s env false (iuKey (iuNs k) (j / n.perIu)) (j % n.perIu)
    let first := iuNum k * n.perIu
    let bad := (List.range n.perIu).filter fun i => match blk (first + i) with | .good _ => false | _ => true
    let head (p : BitVec 128) : Bytes := le64 (iuNum k) ++ leBytes 1 kind ++ leBytes 1 (if iuShadow k then 1 else 0)
      ++ padTo 6 [] ++ leBytes 16 p.toNat
    if kind ≠ 0 then head 0
    else if iuShadow k then
      let m := metaBytes n.lbaf
      head 0 ++ padTo shadowBytes ((List.range (perShadow n)).flatMap fun i =>
        match blk (iuNum k * perShadow n + i) with
        | .good b => padTo m b.host
        | _ => padTo m [])
    else
      head (poisonBits bad) ++ (List.range n.perIu).flatMap fun i =>
        match blk (first + i) with
        | .good b => storedBlock s (lbaBytes n.lbaf) (first + i) b
        | _ => padTo (lbaBytes n.lbaf) []

/-- The units that the next DATA shard takes: of one namespace, at most 1 MiB of records (R550). -/
def takeUnits (s : State) (nsid : Nat) : Nat → List Nat → List Nat × List Nat
  | _, [] => ([], [])
  | room, k :: r =>
    if iuNs k = nsid ∧ dataSize s k ≤ room then
      let p := takeUnits s nsid (room - dataSize s k) r
      (k :: p.1, p.2)
    else ([], k :: r)

/-- A KEYS record (R551). -/
def keyRecord (s : State) (nsid i : Nat) : Bytes :=
  le32 nsid ++ leBytes 1 (if (keySlot s i).key.isSome then 0 else 1) ++ padTo 11 []
    ++ leBytes 64 (match (keySlot s i).key with | some k => k.toNat | none => 0)

/-- The bound namespaces of a session. -/
def boundOf (s : State) (x : MqSess) : List (Nat × Nat) :=
  x.nss.filterMap fun i => ((nsOf s i).bind (·.slot)).map fun k => (i, k)

/-- A CONTEXT record: the SQE's fields that the state holds, the others of its 64 bytes free (R551). -/
def ctxRecord (c : MqCtx) (order : Nat) : Bytes :=
  let sqe := leBytes 1 c.cmd.opcode.toNat ++ leBytes 1 0 ++ le16 c.cmd.cid.toNat ++ le32 c.cmd.nsid.toNat
    ++ padTo 56 (Config.standardBytes 10 (c.cmd.sqid * 65536 + c.cmd.cid.toNat))
  let cqe := match c.cqe with
    | some e => le32 e.dw0.toNat ++ le32 0 ++ le16 0 ++ le16 e.sqid ++ le16 e.cid.toNat
        ++ le16 (e.st.sct.toNat * 512 + e.st.sc.toNat * 2)
    | none => padTo 16 []
  padTo 128 (sqe ++ le16 c.cmd.sqid ++ leBytes 1 c.phase ++ leBytes 1 0 ++ le32 c.bytesDone ++ cqe ++ le64 order)

/-! ## CONTROL values (R551); widths within an item are NVMe Base 2.1's (PRESUMED, log 61) -/

/-- One entry: TAG, LEN, VALUE. -/
def ctlEntry (tag : Nat) (v : Bytes) : Bytes := le16 tag ++ le16 v.length ++ v

/-- TAG 1: CC, AQA, ASQ, ACQ and INTMS. -/
def ctlController (c : Ctrl) : Bytes :=
  let sq := c.sqs.find? fun q => decide (q.qid = 0)
  let cq := c.cqs.find? fun q => decide (q.qid = 0)
  let n (v : Option Nat) : Nat := (v.getD 1) - 1
  le32 c.cc.toNat ++ le16 (n (sq.map (·.size))) ++ le16 (n (cq.map (·.size)))
    ++ le64 ((sq.map (·.base.toNat)).getD 0) ++ le64 ((cq.map (·.base.toNat)).getD 0) ++ le32 c.intms.toNat

/-- A tail or head as recorded while the tenant was Frozen (R545). -/
def recordedTail (s : State) (f : Func) (key d : Nat) : Nat :=
  match s.mqt.tails.find? fun e => decide (e.1 = unitOf f ∧ e.2.1 = key) with
  | some e => e.2.2
  | none => d

/-- TAG 2: a submission queue. -/
def ctlSq (s : State) (f : Func) (q : Sq) : Bytes :=
  le16 q.qid ++ leBytes 1 0 ++ le64 q.base.toNat ++ le16 (q.size - 1) ++ le16 q.head
    ++ le16 (recordedTail s f (doorbellKey q.qid false) q.tail) ++ leBytes 1 0 ++ le16 q.cqid ++ le16 0
    ++ leBytes 1 q.prio.toNat

/-- TAG 2: a completion queue; its phase bit is not kept (a free value). -/
def ctlCq (s : State) (f : Func) (q : Cq) : Bytes :=
  le16 q.qid ++ leBytes 1 1 ++ le64 q.base.toNat ++ le16 (q.size - 1)
    ++ le16 (recordedTail s f (doorbellKey q.qid true) q.head) ++ le16 q.tail
    ++ leBytes 1 (Config.freeBits 1 (s.free + q.qid)).toNat ++ le16 q.qid ++ le16 q.iv ++ leBytes 1 (if q.ien then 1 else 0)

/-- TAG 4: the MSI-X table, its addresses and data the host's, and the PBA. -/
def ctlMsix (x : Fn) : Bytes :=
  ((List.range 64).flatMap fun v =>
    padTo 12 (Config.standardBytes 11 v) ++ le32 (if x.unmasked.contains v then 0 else 1))
    ++ le64 (x.pba.foldl (fun m v => m + 2 ^ v) 0)

/-- TAG 5: one controller-scope feature. -/
def ctlFeatures (x : Feats) : List Bytes :=
  [ leBytes 1 0x01 ++ le32 x.arbitration.toNat, leBytes 1 0x02 ++ le32 x.powerMgmt.toNat,
    leBytes 1 0x07 ++ le32 x.numQueues.toNat, leBytes 1 0x08 ++ le32 x.coalesce.toNat,
    leBytes 1 0x0A ++ le32 x.atomicity.toNat, leBytes 1 0x0B ++ le32 x.asyncConfig.toNat,
    leBytes 1 0x81 ++ leBytes 16 x.hostId.toNat ]
  ++ x.vecConfig.map fun e => leBytes 1 0x09 ++ le32 (e.1 + (if e.2 then 65536 else 0))

/-- TAG 6: the reservation and the tenant's registration of one namespace. -/
def ctlReservation (s : State) (f : Func) (nsid : Nat) (r : Rsv) : Bytes :=
  let key := (r.regs.find? fun e => sameHost s e.1 (.fn f)).map (·.2)
  le32 nsid ++ le32 r.gen.toNat ++ leBytes 1 r.rtype.toNat ++ leBytes 1 (if r.ptpl then 1 else 0)
    ++ leBytes 1 (if holds s r (.fn f) then 1 else 0) ++ leBytes 1 (if key.isSome then 1 else 0) ++ le64 (key.getD 0).toNat

/-- The CONTROL body of a tenant. -/
def controlBody (s : State) (x : MqSess) : List Bytes :=
  let f := x.tenant
  let fn := fnOf s f
  let c := fn.ctrl
  [ctlEntry 1 (ctlController c)]
    ++ (c.sqs.map fun q => ctlEntry 2 (ctlSq s f q)) ++ (c.cqs.map fun q => ctlEntry 2 (ctlCq s f q))
    ++ (match c.shadow with | some (a, b) => [ctlEntry 3 (le64 a.toNat ++ le64 b.toNat)] | none => [])
    ++ [ctlEntry 4 (ctlMsix fn)] ++ (ctlFeatures c.feats).map (ctlEntry 5)
    ++ (x.nss.filterMap fun i => (nsOf s i).map fun n => ctlEntry 6 (ctlReservation s f i n.rsv))
    ++ (if c.errors = 0 then [] else [ctlEntry 7 (padTo (64 * min 64 c.errors) (Config.standardBytes 12 c.errors))])
    ++ (c.events.map fun e => ctlEntry 8 (leBytes 1 e.etype ++ leBytes 1 e.info ++ leBytes 1 e.lid.toNat))

/-- The manifest (R553). -/
def manifestBytes (s : State) (x : MqSess) (prev : Digest) : Bytes :=
  let body := le32 0x4D515A54 ++ le16 1 ++ leBytes 1 (if x.delta then 1 else 0) ++ leBytes 1 (x.round + 1)
    ++ leBytes 16 x.chainId.toNat ++ le32 x.chainSeq.toNat ++ le32 s.boot.svn.toNat ++ le64 x.shards
    ++ le32 x.ctxs.length ++ le16 (boundOf s x).length ++ le16 x.nss.length ++ digestBytes s.trust.devidKeyId
    ++ digestBytes s.trust.aliasKeyId ++ digestBytes x.xportId ++ digestBytes prev ++ digestBytes x.chain ++ le64 0
  body ++ dualSig (aliasSeed s) 6 body (hedge s)

/-! ## START, ROUND, STOP, READ (R533 to R545) -/

/-- The chain of a tenant that a Delta START goes on with (R541). -/
def chainFor (s : State) (f : Func) : Option MqChain := s.mqt.chains.find? fun c => decide (c.unit = unitOf f)

/-- A tenant that may be exported (R533, R534, R560). -/
def exportable (s : State) (f : Func) (delta : Bool) : Bool :=
  let l := nssOf s f
  !l.isEmpty && l.all (fun e => e.2.priv) && !hasSession s f && (freeSession s).isSome && s.upd.holder.isNone
    && s.nvm.sanitize.isNone && !(fnOf s f).frozen && (!delta || (chainFor s f).isSome)

/-- A signature that came with an operand is accepted (R181). -/
def answerOk (a : SigAnswer) (ctx : Nat) (key : Digest) : Bool := sigOk a.head a.v ctx key

/-- The certificates of a Maquette peer verify (R546, R555): the DeviceID certificate under a vendor root key with CTX 8
(R188), the Alias certificate under the DeviceID key with CTX 4 (R186). -/
def certsOk (s : State) (wellFormed : Bool) (root devid : Digest) (devidSig aliasSig : SigAnswer) : Bool :=
  wellFormed && rootDigestOk s root && answerOk devidSig 8 root && answerOk aliasSig 4 devid

/-- START's own effect: tracking is armed and round 0 is taken (R535, R539, R547). -/
def startExport (t : Tag) (f : Func) (delta : Bool) (certs : TargetCerts) (s : State) : State :=
  match freeSession s with
  | none => finish t .stateConflict s
  | some id =>
    let ch := if delta then chainFor s f else none
    let nss := (nssOf s f).map (·.1)
    let chainId : BitVec 128 := match ch with | some c => c.chainId | none => draw 128 s
    let seq : W32 := match ch with | some c => c.chainSeq + 1 | none => 0
    let xport := xportIdOf certs.xport
    let scalar := (Config.freeBits 384 (s.free + 1)).toNat % (ecOrder - 1) + 1
    let eph : Bytes := 0x04 :: padTo 96 (Config.ecPoint scalar)
    let kem := Config.mlkemEncaps (slice certs.xport 0x0A0 1568) (beBytes 32 (Config.freeBits 256 (s.free + 2)).toNat)
    let ct := padTo 1568 kem.2
    let hdr := sessionHeader s delta chainId seq xport eph ct
    let ks := sessionKey (Config.ecdh scalar (slice certs.xport 0x039 96)) kem.1 (transcript eph ct xport chainId seq)
    let todo := roundList s (match ch with | some c => c.dirty | none => mappedIus s nss)
    let x : MqSess := {
      id := id, imp := false, pf := f.pf, vf := f.vf, state := .openRound, delta := delta, chainId := chainId,
      chainSeq := seq, round := 0, ks := ks, dirty := [], todo := todo, stage := 1, nextIdx := 0,
      lastLen := hdr.length, lastObj := some (0, hdr), exhausted := false, chain := chainStart chainId hdr, ctxs := [],
      xportId := xport, aliasId := s.trust.aliasKeyId, devidId := s.trust.devidKeyId, svn := s.boot.svn,
      shards := 0, nss := nss, slots := [], control := [], manifest := (ch.map (·.manifest)).getD 0 }
    let s := drawn 3 { s with mqt.sess := s.mqt.sess ++ [x],
                              mqt.chains := s.mqt.chains.filter fun c => !decide (c.unit = unitOf f) }
    complete t .success (BitVec.ofNat 32 id) (mqEvent 1 (unitOf f) 0 (mqChanged id s))

/-- EXPORT_START (R533 to R535, R541, R546, R560, R562, R563). -/
def execExportStart (tag : Tag) (vf : BitVec 7) (delta : Bool) (length : W32) (certs : TargetCerts) (s : State) :
    Host.Outcome State Fault Refusal :=
  .next (runMaquette (.exportStart tag vf delta length certs) tag 0xC8 (fun s =>
    let f : Func := ⟨mqPf tag, vf.toNat⟩
    if vf = 0 ∨ length = 0 then finish tag .invalidField s
    else if s.tab.offline then finish tag .arrayOffline s
    else if !exportable s f delta then finish tag .stateConflict s
    else if !certsOk s certs.wellFormed certs.rootDigest certs.devidId certs.devidSig certs.aliasSig
        || !answerOk certs.xportSig 7 certs.aliasId then
      finish tag .digestMismatch (mqEvent 8 (unitOf f) 0 s)
    else withEntropy (.exportStart tag vf delta length certs) (startExport tag f delta certs)
      (finish tag .entropyUnavailable) s) s)

/-- EXPORT_ROUND (R535, R539): the dirty bitmap is snapshotted and cleared. -/
def execExportRound (tag : Tag) (session : BitVec 3) (s : State) : Host.Outcome State Fault Refusal :=
  .next (runMaquette (.exportRound tag session) tag 0xC8 (withSess tag false session.toNat (fun x s =>
    if x.state = .openRound ∧ x.exhausted = true ∧ x.round < 31 then
      finish tag .success (setSess { x with round := x.round + 1, todo := roundList s x.dirty, dirty := [],
                                            exhausted := false } s)
    else finish tag .stateConflict s)) s)

/-- How one command in flight is captured (R544): an Asynchronous Event Request, a completion not yet posted, a write
whose data is all in the device and so finishes, or a command without effect. The completion that such a write will have
once it reached media carries 0x8B where write-through was forced (R34). -/
def captureOne (c : Ctrl) (e : Inflight) (aer forced : Bool) : MqCtx :=
  let w := (c.cqs.flatMap (·.waiting)).find? fun w => decide (w.sqid = e.sqid ∧ w.cid = e.cid)
  let ok : Cqe := { sqid := e.sqid, cid := e.cid, st := .success, dw0 := if forced then 0x8000008B else 0 }
  let cmd := { e with phase := CmdPhase.fetched }
  if aer then { cmd := cmd, phase := 3, bytesDone := 0, cqe := none }
  else match w with
    | some q => { cmd := cmd, phase := 2, bytesDone := 0, cqe := some q }
    | none => if e.phase = .dataIn then { cmd := cmd, phase := 2, bytesDone := 0, cqe := some ok }
      else { cmd := cmd, phase := 0, bytesDone := 0, cqe := none }

/-- The contexts of a tenant, in fetch order. -/
def captureAll (s : State) (f : Func) : List MqCtx :=
  let c := (fnOf s f).ctrl
  c.inflight.map fun e =>
    let t : Tag := ⟨.fn f, e.sqid, e.cid⟩
    captureOne c e (c.aers.contains t) (s.ftl.wt.any fun w => w.forced && decide (w.tag = some t))

/-- The final stop (R543): the tenant is Frozen, its commands are captured and the final round is taken. -/
def finalStop (x : MqSess) (s : State) : State :=
  let f := x.tenant
  let ctxs := captureAll s f
  let s := modFn f (fun y => { y with frozen := true, ctrl := y.ctrl.dropCommands }) s
  let todo := roundList s (x.todo ++ x.dirty)
  ustChange (unitOf f) (mqChanged x.id (setSess { x with
    state := .final, round := x.round + 1, todo := todo, dirty := [], exhausted := false, ctxs := ctxs } s))

/-- EXPORT_STOP. -/
def execExportStop (tag : Tag) (session : BitVec 3) (s : State) : Host.Outcome State Fault Refusal :=
  .next (runMaquette (.exportStop tag session) tag 0xC8 (withSess tag false session.toNat (fun x s =>
    if x.state = .openRound then finish tag .success (finalStop x s) else finish tag .stateConflict s)) s)

/-- The next object of a session: its bytes, the session after it, and the units it read; none at the end of a round. -/
def nextObject (s : State) (env : MediaEnv) (x : MqSess) : Option (Bytes × MqSess × List Nat) :=
  match x.stage with
  | 0 | 1 =>
    let l := x.nss.filterMap fun i => (nsOf s i).map (nsRecord i)
    let o := sealShard x 1 0 l.length l.flatten
    some (o.1, { o.2 with stage := 2 }, [])
  | 2 =>
    match x.todo with
    | k :: r =>
      let p := takeUnits s (iuNs k) 1048576 (k :: r)
      let o := sealShard x 2 (iuNs k) p.1.length (p.1.flatMap (dataRecord s env))
      some (o.1, { o.2 with todo := p.2 }, p.1)
    | [] =>
      if x.state = .final then
        let l := (boundOf s x).map fun e => keyRecord s e.1 e.2
        let o := sealShard x 3 0 l.length l.flatten
        some (o.1, { o.2 with stage := 4 }, [])
      else none
  | 4 =>
    let l := controlBody s x
    let o := sealShard x 4 0 l.length l.flatten
    some (o.1, { o.2 with stage := 5 }, [])
  | 5 =>
    let o := sealShard x 5 0 x.ctxs.length ((List.range x.ctxs.length).flatMap fun i =>
      match x.ctxs[i]? with | some c => ctxRecord c i | none => [])
    some (o.1, { o.2 with stage := 6 }, [])
  | _ =>
    let m := manifestBytes s x x.manifest
    some (m, { x with stage := 7, manifest := sha m, state := .sealed }, [])

/-- An object is handed over. -/
def giveObject (t : Tag) (i : Nat) (b : Bytes) (x : MqSess) (s : State) : State :=
  let s := setSess { x with lastObj := some (i, b), lastLen := b.length, nextIdx := max x.nextIdx (i + 1) } s
  complete t .success (BitVec.ofNat 32 b.length) (emit (.data t b) s)

/-- READ of the next object or of the last one read (R535, R538, R565). -/
def exportRead (t : Tag) (length index : Nat) (env : MediaEnv) (x : MqSess) (s : State) : State :=
  let short (b : Bytes) (s : State) : State := complete t .invalidField (BitVec.ofNat 32 b.length) s
  let again := x.lastObj.filter fun o => decide (o.1 = index)
  match again with
  | some (i, b) => if length < b.length then short b s else giveObject t i b x s
  | none =>
    if index ≠ x.nextIdx ∨ x.state = .sealed then finish t .stateConflict s
    else match nextObject s env x with
      | none => complete t .success 0 (setSess { x with exhausted := true } s)
      | some (b, y, read) =>
        if length < b.length then short b s
        else
          let s := read.foldl (fun s k => mediaRead env false true k s) s
          let s := giveObject t index b y (if y.state = .sealed then signedOnce s else s)
          if y.state = x.state then s else mqChanged x.id s

/-- EXPORT_READ. -/
def execExportRead (tag : Tag) (session : BitVec 3) (length index : W32) (media : MediaEnv) (s : State) :
    Host.Outcome State Fault Refusal :=
  .next (runMaquette (.exportRead tag session length index media) tag 0xC8 (fun s =>
    if length = 0 then finish tag .invalidField s
    else withSess tag false session.toNat (exportRead tag length.toNat index.toNat media) s) s)

/-! ## CLOSE (R535, R536, R541, R544) -/

/-- A write of this handle still waits for media. -/
def waitsForMedia (s : State) (t : Tag) : Bool := s.ftl.wt.any fun w => decide (w.tag = some t)

/-- Contexts go back into flight: finished ones are posted, Asynchronous Event Requests stay outstanding, and the others
are executed (R544, R559). A write that still waits for media completes when it reached it (R30, R34). -/
def restoreContexts (f : Func) (l : List MqCtx) (s : State) : State :=
  let tag (c : MqCtx) : Tag := ⟨.fn f, c.cmd.sqid, c.cmd.cid⟩
  let aers := (l.filter fun c => decide (c.phase = 3)).map tag
  let cmds := l.map fun c => if waitsForMedia s (tag c) then { c.cmd with phase := CmdPhase.dataIn } else c.cmd
  let s := modCtrl f (fun c => { c with inflight := c.inflight ++ cmds, aers := c.aers ++ aers }) s
  l.foldl (fun s c => match c.cqe with
    | some e => if c.phase = 2 ∧ !waitsForMedia s (tag c) then deliver f (tag c) e.st e.dw0 s else s
    | none => s) s

/-- Doorbells recorded while the tenant was Frozen take effect (R545). -/
def applyTails (f : Func) (l : List (Nat × Nat × Nat)) (s : State) : State :=
  l.foldl (fun s e =>
    if e.1 ≠ unitOf f then s
    else if 65536 ≤ e.2.1 then cqDoorbell f (e.2.1 - 65536) e.2.2 s else sqDoorbell f e.2.1 e.2.2 s) s

/-- The tenant resumes in place. -/
def resumeTenant (x : MqSess) (s : State) : State :=
  let tails := s.mqt.tails
  applyTails x.tenant tails (restoreContexts x.tenant x.ctxs (unfreeze x.tenant s))

/-- Tracking goes on after CLOSE RESUME with KEEP_TRACKING, once a final stop was made (R539, R541). -/
def keepChain (x : MqSess) (keep : Bool) (s : State) : State :=
  if keep ∧ x.state ≠ .openRound then
    let c : MqChain := { unit := unitOf x.tenant, chainId := x.chainId, chainSeq := x.chainSeq, dirty := x.dirty,
                         manifest := if x.state = .sealed then x.manifest else 0 }
    { s with mqt.chains := s.mqt.chains ++ [c] }
  else s

/-- CLOSE_RESUME (R535, R541): from Open the tenant was never frozen. -/
def execCloseResume (tag : Tag) (session : BitVec 3) (keepTracking : Bool) (s : State) :
    Host.Outcome State Fault Refusal :=
  .next (runMaquette (.closeResume tag session keepTracking) tag 0xC8 (withSess tag false session.toNat (fun x s =>
    let s := keepChain x keepTracking (dropSess x s)
    if x.state = .openRound then finish tag .success s
    else finish tag .success (mqEvent 3 (unitOf x.tenant) (if x.state = .sealed then x.manifest else 0)
      (resumeTenant x s)))) s)

/-- CLOSE_RETIRE (R535, R536): contexts are discarded without completion; the function stays Frozen. -/
def execCloseRetire (tag : Tag) (session : BitVec 3) (s : State) : Host.Outcome State Fault Refusal :=
  .next (runMaquette (.closeRetire tag session) tag 0xC8 (withSess tag false session.toNat (fun x s =>
    if x.state = .sealed then
      let s := modFn x.tenant (fun y => { y with retired := true })
        (dropSess x { untagWt x.tenant s with mqt.tails := s.mqt.tails.filter fun e => !decide (e.1 = unitOf x.tenant) })
      finish tag .success (mqEvent 4 (unitOf x.tenant) x.manifest s)
    else finish tag .stateConflict s)) s)

end Sys2Proof.Machine
end

