-- ==== Sys2Proof/Machine/Import.lean ====
section
/-! DEFINITION. Maquette Import (0xC9): sessions, shards, the manifest, activation and discard (R554 to R562). -/
namespace Sys2Proof.Machine

/-! ## Ending an import -/

/-- A failed import is undone, with event step 8 (R558, chapter 15's failure table). -/
def failImport (t : Tag) (st : Status) (x : MqSess) (s : State) : State :=
  finish t st (mqEvent 8 (unitOf x.tenant) 0 (discardImport x s))

/-! ## BEGIN (R554, R555, R560, R562) -/

/-- The staged tenant of a function. -/
def stagedOn (s : State) (f : Func) : Option MqSess :=
  s.mqt.sess.find? fun x => x.imp && decide (x.state = .staged ∧ x.pf = f.pf ∧ x.vf = f.vf)

/-- A VF that can take a Full import: online, CC.EN 0, nothing attached, no session. -/
def fullTarget (s : State) (f : Func) : Bool :=
  (fnOf s f).online && !(fnOf s f).ctrl.en && (nssOf s f).isEmpty && !hasSession s f && (freeSession s).isSome

/-- A Delta BEGIN goes on with the staged tenant of the chain. -/
def deltaTarget (s : State) (f : Func) (h : SessionHeader) : Bool :=
  match stagedOn s f with
  | some x => decide (x.chainId = h.chainId ∧ h.chainSeq = x.chainSeq + 1) && (decide (x.id < 8) || (freeSession s).isSome)
  | none => false

/-- K_S as the target derives it: ECDH with EPH_PUB and decapsulation of KEM_CT under its transport key pair (R547, R555). -/
def targetKey (s : State) (h : SessionHeader) : Bytes :=
  let seed := xportSeed s
  let eph := slice h.bytes 0x050 97
  let ct := slice h.bytes 0x0C0 1568
  sessionKey (Config.ecdh (ecScalar seed) (eph.drop 1)) (Config.mlkemDecaps (mlkemDz seed) ct)
    (transcript eph ct h.targetXportId h.chainId h.chainSeq)

/-- An import session that awaits its first shard. -/
def newImport (s : State) (id : Nat) (f : Func) (h : SessionHeader) (nss slots : List Nat) (prev : Digest) : MqSess where
  id := id
  imp := true
  pf := f.pf
  vf := f.vf
  state := .receiving
  delta := h.delta
  chainId := h.chainId
  chainSeq := h.chainSeq
  round := 0
  ks := targetKey s h
  dirty := []
  todo := []
  stage := 1
  nextIdx := 1
  lastLen := 0
  lastObj := none
  exhausted := false
  chain := chainStart h.chainId h.bytes
  ctxs := []
  xportId := h.targetXportId
  aliasId := h.aliasId
  devidId := h.devidId
  svn := h.svn
  shards := 0
  nss := nss
  slots := slots
  control := []
  manifest := prev

/-- BEGIN's own effect. -/
def beginImport (t : Tag) (f : Func) (h : SessionHeader) (s : State) : State :=
  if h.delta then
    match stagedOn s f with
    | some x =>
      let id := if x.id < 8 then x.id else (freeSession s).getD 0
      let y := newImport s id f h x.nss x.slots x.manifest
      let l := mapWhere (fun z => decide (z = x)) (fun _ => y) s.mqt.sess
      complete t .success (BitVec.ofNat 32 id) (mqChanged id { s with mqt.sess := l })
    | none => finish t .stateConflict s
  else
    match freeSession s with
    | some id =>
      let y := newImport s id f h [] [] 0
      complete t .success (BitVec.ofNat 32 id)
        (mqEvent 5 (unitOf f) 0 (mqChanged id { s with mqt.sess := s.mqt.sess ++ [y] }))
    | none => finish t .stateConflict s

/-- BEGIN (R554, R555, R560, R562, R565). -/
def execImportBegin (tag : Tag) (vf : BitVec 7) (length : W32) (hdr : SessionHeader) (s : State) :
    Host.Outcome State Fault Refusal :=
  .next (runMaquette (.importBegin tag vf length hdr) tag 0xC9 (fun s =>
    let f : Func := ⟨mqPf tag, vf.toNat⟩
    if vf = 0 ∨ length = 0 ∨ hdr.devidCertLen = 0 ∨ 8192 < hdr.devidCertLen ∨ length.toNat ≠ 0x1CF0 + hdr.devidCertLen then
      finish tag .invalidField s
    else if s.tab.offline then finish tag .arrayOffline s
    else if s.tab.readOnly || s.upd.holder.isSome || s.nvm.sanitize.isSome
        || !(if hdr.delta then deltaTarget s f hdr else fullTarget s f) then finish tag .stateConflict s
    else if decide (hdr.targetXportId ≠ s.trust.xportId) || !certsOk s true hdr.rootDigest hdr.devidId hdr.devidSig hdr.aliasSig then
      finish tag .digestMismatch (mqEvent 8 (unitOf f) 0 s)
    else beginImport tag f hdr s) s)

/-! ## WRITE (R538, R551, R556) -/

/-- Stand-in for the source's key in blocks that arrive before their KEYS record. -/
def importHandle (nsid : Nat) : Nat × W32 := (4096, BitVec.ofNat 32 nsid)

/-- A hidden namespace (R335, R337, R421, R556); a reason to refuse it otherwise. -/
def hiddenNs (s : State) (nsid : Nat) (nsze ncap : W64) (lbaf iu : Nat) : Ns ⊕ Status :=
  let n : Ns := { index := 0, nsze := nsze, ncap := ncap, lbaf := lbaf, iu := iu, priv := true, attached := [],
                  state := .staged, slot := none, rsv := Rsv.none, tler := 0, rsvMask := 0, job := none }
  if (nsOf s nsid).isSome then .inr .stateConflict
  else if iu = 1 ∧ 2 ^ 44 < cap4k s + nsze.toNat * lbaBytes lbaf then .inr .namespaceInsufficientCapacity
  else if unallocated s < nsBytes n then .inr .namespaceInsufficientCapacity
  else match lowestFree 0 1024 (s.tab.nss.map fun e => e.2.index) with
    | some i => .inl { n with index := i }
    | none => .inr .namespaceInsufficientCapacity

/-- Field values that a NAMESPACES record may have (R335, R336). -/
def nsFieldsOk (nsid nsze lbaf iu : Nat) : Bool :=
  decide (1 ≤ nsid ∧ nsid ≤ 1024 ∧ 1 ≤ nsze ∧ lbaf ≤ 3 ∧ iu ≤ 2) && decide (lbaBytes lbaf ≤ iuBytes iu)

/-- One NAMESPACES record applied; a status ends the session. -/
def applyNs (x : MqSess) (nsid : Nat) (nsze ncap : W64) (lbaf iu : Nat) (s : State) : (MqSess × State) ⊕ Status :=
  let seen := { x with todo := x.todo ++ [nsid] }
  match (if x.delta && x.nss.contains nsid then nsOf s nsid else none) with
  | some n =>
    if n.nsze = nsze ∧ n.lbaf = lbaf ∧ n.iu = iu then
      .inl (seen, markDelta (modNs nsid (fun n => { n with ncap := ncap }) s))
    else .inr .digestMismatch
  | none =>
    match hiddenNs s nsid nsze ncap lbaf iu with
    | .inr st => .inr st
    | .inl n => .inl ({ seen with nss := x.nss ++ [nsid] },
        ustChange (nsUnit nsid) (markDelta { s with tab.nss := Sparse.set s.tab.nss nsid n }))

/-- Blocks of an arriving IU, poisoned ones kept so (R429, R556). -/
def importBlocks (nsid : Nat) (poison : List Nat) (body : List Bytes) (keyed : Bool) : Sparse Blk :=
  (List.range body.length).map fun i =>
    (i, if poison.contains i then Blk.poisoned
        else { enc := if keyed then some (importHandle nsid) else none, data := body.getD i [], host := [], poison := false })

/-- Host metadata of the version a unit has. -/
def oldHost (s : State) (k i : Nat) : Bytes :=
  match dramVer s k, mediaFull s k with
  | some (v, _), _ => (v.blk i).host
  | none, some v => (v.blk i).host
  | none, none => []

/-- A unit takes a new version through the write path (R401, R509, R556). -/
def importVersion (t : Tag) (cached : Bool) (k : Nat) (blocks : Sparse Blk) (s : State) : State :=
  let s := nextSeq s
  let v : IuVer := { seq := s.tab.writeSeq, blocks := blocks }
  let s := markDelta (dirtyIu k s)
  if cached then setLine k { state := .dirty, ver := v } s
  else
    let w : WtItem := { tag := some t, key := k, ver := v, forced := true, merging := false }
    { s with ftl.wt := s.ftl.wt ++ [w] }

/-- Version blocks of a unit: in DRAM, else on media. -/
def currentBlocks (s : State) (k : Nat) : Option (Sparse Blk) :=
  match dramVer s k, mediaFull s k with
  | some (v, _), _ => some v.blocks
  | none, some v => some v.blocks
  | none, none => none

/-- Host metadata of a shadow IU goes to the blocks that it describes (R396, R542). -/
def applyShadow (t : Tag) (cached : Bool) (nsid iu : Nat) (n : Ns) (body : List Bytes) (s : State) : State :=
  let per := perShadow n
  let us := (List.range ((per + n.perIu - 1) / n.perIu + 1)).map (· + iu * per / n.perIu)
  us.foldl (fun s u =>
    let k := iuKey nsid u
    match currentBlocks s k with
    | none => s
    | some old =>
      let b := old.map fun e =>
        let j := u * n.perIu + e.1
        if iu * per ≤ j ∧ j < (iu + 1) * per then (e.1, { e.2 with host := padTo (metaBytes n.lbaf) (body.getD (j - iu * per) []) })
        else e
      if b = old then s else importVersion t cached k b s) s

/-- One DATA record applied (R551, R556). -/
def applyData (t : Tag) (cached : Bool) (nsid : Nat) (n : Ns) (r : ShardRec) (s : State) : State :=
  match r with
  | .data iu kind shadow poison body keyGen =>
    let k := iuKey nsid iu
    if shadow then applyShadow t cached nsid iu n body s
    else if kind = 1 then specialIu k mapNone s
    else if kind = 2 then specialIu k mapUnc s
    else
      let b := (importBlocks nsid poison body keyGen.isSome).map fun e => (e.1, { e.2 with host := oldHost s k e.1 })
      importVersion t cached k b s
  | _ => s

/-- A DATA record's fields are valid: KIND 0 to 2, an IU of the namespace, a body of whole blocks. -/
def dataOk (n : Ns) (r : ShardRec) : Bool :=
  match r with
  | .data iu kind shadow _ body _ =>
    if shadow then decide (kind = 0 ∧ 0 < metaBytes n.lbaf ∧ iu * perShadow n < n.nsze.toNat)
    else decide (kind ≤ 2 ∧ iu * n.perIu < n.nsze.toNat) && (decide (kind ≠ 0) || decide (body.length = n.perIu))
  | _ => false

/-- The key of a unit that a DATA record changes. -/
def dataKey (nsid : Nat) (r : ShardRec) : List Nat :=
  match r with
  | .data iu 0 false _ _ _ => [iuKey nsid iu]
  | _ => []

/-- Lowest Empty slot of a PF's range that no namespace is bound to (R331, R556). -/
def emptySlot (s : State) (pf : Pf) : Option Nat :=
  let r := match pf with
    | .p0 => List.range s.tab.ksplit
    | .p1 => (List.range (2048 - s.tab.ksplit)).map (· + s.tab.ksplit)
  r.find? fun i => decide ((keySlot s i).key = none) && (boundNs s i).isNone

/-- Blocks of a namespace change the key handle they are kept under. -/
def rekeyVer (src : List (Nat × W32)) (dst : Nat × W32) (v : IuVer) : IuVer :=
  let b := v.blocks.map fun e =>
    (e.1, match e.2.enc with
      | some h => if src.contains h then { e.2 with enc := some dst } else e.2
      | none => e.2)
  { v with blocks := b }

/-- Every stored block of a namespace under one of the handles now belongs to `dst`. -/
def rekeyNs (nsid : Nat) (src : List (Nat × W32)) (dst : Nat × W32) (s : State) : State :=
  let mine (k : Nat) : Bool := decide (iuNs k = nsid)
  let cache := s.ftl.cache.map fun e => if mine e.1 then (e.1, { e.2 with ver := rekeyVer src dst e.2.ver }) else e
  let wt := s.ftl.wt.map fun w => if mine w.key then { w with ver := rekeyVer src dst w.ver } else w
  let ius := s.media.ius.map fun e => if mine e.2.1 then (e.1, (e.2.1, rekeyVer src dst e.2.2)) else e
  let rows := s.ftl.rows.map fun r =>
    { r with items := r.items.map fun i => if mine i.1 then (i.1, i.2.1, rekeyVer src dst i.2.2) else i }
  { s with ftl.cache := cache, ftl.wt := wt, ftl.rows := rows, media.ius := ius }

/-- A slot is loaded with an imported key under its next generation, and stored (R209, R556). -/
def importKey (i nsid : Nat) (key : BitVec 512) (s : State) : State :=
  let k := keySlot s i
  let same : List (Nat × W32) := if k.key = some key then [(i, k.gen)] else []
  let g := nextGen k.gen
  let s := storeKeys .maquette i k (setKey i { gen := g, key := some key, old := none } s)
  rekeyNs nsid (importHandle nsid :: same) (i, g) (ustChange (nsUnit nsid) s)

/-- One KEYS record applied (R556); a status ends the session. -/
def applyKey (x : MqSess) (r : ShardRec) (s : State) : (MqSess × State) ⊕ Status :=
  match r with
  | .key nsid erased key =>
    match nsOf s nsid.toNat with
    | none => .inr .invalidField
    | some n =>
      match n.slot, erased with
      | some i, true => .inl (x, if (keySlot s i).key.isSome then eraseSlotOf i s else s)
      | some i, false => .inl (x, importKey i nsid.toNat key s)
      | none, true => .inl (x, s)
      | none, false =>
        match emptySlot s x.pf with
        | none => .inr .stateConflict
        | some i => .inl ({ x with slots := x.slots ++ [i] },
            importKey i nsid.toNat key (markDelta (modNs nsid.toNat (fun n => { n with slot := some i }) s)))
  | _ => .inr .invalidField

/-- Records are applied one after another until one ends the session. -/
def applyAll (f : ShardRec → MqSess → State → (MqSess × State) ⊕ Status) :
    List ShardRec → MqSess → State → (MqSess × State) ⊕ Status
  | [], x, s => .inl (x, s)
  | r :: l, x, s =>
    match f r x s with
    | .inl (x', s') => applyAll f l x' s'
    | .inr st => .inr st

/-- Every status the device gives. -/
def allStatuses : List Status :=
  [Status.success, Status.invalidCommandOpcode, Status.invalidField, Status.dataTransferError, Status.internalError, Status.abortRequested, Status.abortedSqDeletion]
    ++ [Status.invalidNamespaceOrFormat, Status.commandSequenceError, Status.dataSglLengthInvalid, Status.sglDescriptorTypeInvalid, Status.sanitizeFailed, Status.sanitizeInProgress, Status.namespaceWriteProtected]
    ++ [Status.lbaOutOfRange, Status.namespaceNotReady, Status.reservationConflict, Status.formatInProgress, Status.completionQueueInvalid, Status.invalidQueueIdentifier, Status.invalidQueueSize]
    ++ [Status.abortLimitExceeded, Status.asyncEventLimitExceeded, Status.invalidFirmwareSlot, Status.invalidFirmwareImage, Status.invalidInterruptVector, Status.invalidLogPage, Status.invalidFormat]
    ++ [Status.invalidQueueDeletion, Status.featureNotSaveable, Status.featureNotChangeable, Status.overlappingRange, Status.namespaceInsufficientCapacity, Status.namespaceIdUnavailable, Status.namespaceAlreadyAttached]
    ++ [Status.namespaceIsPrivate, Status.namespaceNotAttached, Status.controllerListInvalid, Status.selfTestInProgress, Status.invalidControllerId, Status.invalidSecondaryState, Status.invalidNumberOfResources]
    ++ [Status.invalidResourceId, Status.unrecoveredReadError, Status.compareFailure, Status.ownerLocked, Status.holdupLow, Status.dataMoving, Status.thermal]
    ++ [Status.keySlotErased, Status.entropyUnavailable, Status.arrayOffline, Status.stateConflict, Status.digestMismatch, Status.authorizationFailed]

/-- The status of an SCT and SC. -/
def statusOf (v : W16) : Option Status :=
  allStatuses.find? fun st => decide (st.sct.toNat * 256 + st.sc.toNat = v.toNat)

/-- A CONTEXT record as it is held (R544, R551). -/
def heldCtx (r : ShardRec) : Option MqCtx :=
  match r with
  | .context sqid cid op nsid phase done _ st dw0 =>
    let cmd : Inflight := { sqid := sqid, cid := cid, opcode := op, nsid := nsid, key := none, phase := .fetched }
    if 3 < phase then none
    else if phase = 2 then
      (statusOf st).map fun x => { cmd := cmd, phase := 2, bytesDone := 0, cqe := some { sqid := sqid, cid := cid, st := x, dw0 := dw0 } }
    else if phase = 1 ∧ done % 4096 ≠ 0 then none
    else some { cmd := cmd, phase := phase, bytesDone := if phase = 1 then done else 0, cqe := none }
  | _ => none

/-- FETCH_ORDER of a record. -/
def ctxOrder : ShardRec → Nat
  | .context _ _ _ _ _ _ o _ _ => o
  | _ => 0

/-- Order of the shards (R538): NAMESPACES first, DATA, then KEYS, CONTROL and CONTEXT. -/
def kindAllowed (stage kind : Nat) : Bool :=
  match stage with
  | 1 => decide (kind = 1)
  | 2 => decide (kind = 2 ∨ kind = 3)
  | 4 => decide (kind = 4)
  | 5 => decide (kind = 5)
  | _ => false

/-- Stage after a shard of a kind. -/
def stageAfter (kind : Nat) : Nat :=
  match kind with
  | 1 => 2
  | 2 => 2
  | 3 => 4
  | 4 => 5
  | _ => 6

/-- A shard's body applied, or a status; `true` with it when the session ends. -/
def applyShard (t : Tag) (x : MqSess) (sh : Shard) (s : State) : (MqSess × State) ⊕ (Status × Bool) :=
  match sh.kind with
  | 1 =>
    let ok (r : ShardRec) : Bool := match r with
      | .ns i z _ l u _ => nsFieldsOk i.toNat z.toNat l u
      | _ => false
    if sh.recs.isEmpty || !(sh.recs.all ok) then .inr (.invalidField, false)
    else match applyAll (fun r x s => match r with
        | .ns i z c l u _ => applyNs x i.toNat z c l u s
        | _ => .inr .invalidField) sh.recs x s with
      | .inl p => .inl p
      | .inr st => .inr (st, true)
  | 2 =>
    match nsOf s sh.nsid.toNat with
    | none => .inr (.invalidField, false)
    | some n =>
      if sh.recs.isEmpty || !(x.nss.contains sh.nsid.toNat) || !(sh.recs.all (dataOk n)) then .inr (.invalidField, false)
      else
        let cached := admitted s (sh.recs.flatMap (dataKey sh.nsid.toNat))
        let s := if cached then s else setPhase t .dataIn s
        .inl (x, sh.recs.foldl (fun s r => applyData t cached sh.nsid.toNat n r s) s)
  | 3 =>
    let ok (r : ShardRec) : Bool := match r with | .key i _ _ => x.nss.contains i.toNat | _ => false
    if !(sh.recs.all ok) then .inr (.invalidField, false)
    else match applyAll (fun r x s => applyKey x r s) sh.recs x s with
      | .inl p => .inl p
      | .inr st => .inr (st, true)
  | 4 =>
    let ok (r : ShardRec) : Bool := match r with | .control g _ => decide (1 ≤ g ∧ g ≤ 8) | _ => false
    let bare (r : ShardRec) : Bool := match r with | .control _ v => v.isEmpty | _ => false
    if sh.recs.any bare then .inr (.invalidField, true)
    else if !(sh.recs.all ok) then .inr (.invalidField, false)
    else .inl ({ x with control := sh.recs.filterMap fun r => match r with | .control g v => some (g, v) | _ => none }, s)
  | _ =>
    let l := (sortBy ctxOrder sh.recs).map heldCtx
    if l.any Option.isNone then .inr (.invalidField, false) else .inl ({ x with ctxs := l.filterMap id }, s)

/-- WRITE of one object in Receiving (R556): the index and the order, then digest and tag, then the fields. -/
def importWrite (t : Tag) (sh : Shard) (x : MqSess) (s : State) : State :=
  if x.state ≠ .receiving ∨ sh.index ≠ x.nextIdx then finish t .stateConflict s
  else if !sh.intact then finish t .digestMismatch { s with mqt.digestFails := satAdd s.mqt.digestFails 1 }
  else if 32 < sh.round ∨ kindAllowed x.stage sh.kind = false ∨ (sh.kind ≠ 2 ∧ sh.nsid ≠ 0) then finish t .invalidField s
  else match applyShard t x sh s with
    | .inr (st, false) => finish t st s
    | .inr (st, true) =>
      -- what the shard's earlier records did is discarded with the session
      match beforeFailure x sh s with
      | (y, s) => failImport t st y s
    | .inl (y, s) =>
      finishWrite t (setSess { y with
        stage := stageAfter sh.kind, nextIdx := x.nextIdx + 1, round := sh.round, shards := x.shards + 1,
        chain := chainNext x.chain sh.digest } s)
where
  /-- The session and state with the records applied before the one that failed. -/
  beforeFailure (x : MqSess) (sh : Shard) (s : State) : MqSess × State :=
    sh.recs.foldl (fun a r => match r with
      | .ns i z c l u _ => (match applyNs a.1 i.toNat z c l u a.2 with | .inl p => p | .inr _ => a)
      | .key .. => (match applyKey a.1 r a.2 with | .inl p => p | .inr _ => a)
      | _ => a) (x, s)

/-- IMPORT_WRITE. -/
def execImportWrite (tag : Tag) (session : BitVec 3) (length : W32) (shard : Shard) (s : State) :
    Host.Outcome State Fault Refusal :=
  .next (runMaquette (.importWrite tag session length shard) tag 0xC9 (fun s =>
    if length = 0 ∨ 1048688 < length.toNat then finish tag .invalidField s
    else withSess tag true session.toNat (importWrite tag shard) s) s)

/-! ## FINISH (R553, R557) -/

/-- The manifest's own fields are valid (R553). -/
def manifestFields (m : Manifest) : Bool :=
  decide (1 ≤ m.rounds ∧ m.rounds ≤ 33 ∧ m.shardCount ≠ 0 ∧ 1 ≤ m.namespaces ∧ m.namespaces ≤ 1024)

/-- The checks of R557. -/
def manifestMatches (s : State) (x : MqSess) (m : Manifest) : Bool :=
  answerOk m.sig 6 x.aliasId && decide (m.aliasId = x.aliasId ∧ m.devidId = x.devidId ∧ m.xportId = x.xportId)
    && decide (m.shardCount = x.shards ∧ m.chain = x.chain) && (!x.delta || decide (m.prevDigest = x.manifest))
    && decide (svnMin s ≤ m.sourceSvn.toNat)

/-- FINISH in Receiving: the tenant is Staged, and staged namespaces that a Delta no longer lists are deleted (R554,
R556, R557). -/
def finishImport (t : Tag) (m : Manifest) (x : MqSess) (s : State) : State :=
  if x.state ≠ .receiving then finish t .stateConflict s
  else if !manifestFields m then failImport t .invalidField x s
  else if !manifestMatches s x m then failImport t .digestMismatch x s
  else
    let gone := x.nss.filter fun n => !x.todo.contains n
    let s := gone.foldl (fun s n => removeNs n s) s
    let d := sha m.bytes
    let y := { x with state := .staged, manifest := d, svn := m.sourceSvn, nss := x.nss.filter fun n => x.todo.contains n }
    finish t .success (mqEvent 6 (unitOf x.tenant) d (markDelta (mqChanged x.id (setSess y s))))

/-- IMPORT_FINISH: the object is the manifest, 3,768 bytes. -/
def execImportFinish (tag : Tag) (session : BitVec 3) (length : W32) (manifest : Manifest) (s : State) :
    Host.Outcome State Fault Refusal :=
  .next (runMaquette (.importFinish tag session length manifest) tag 0xC9 (fun s =>
    if length ≠ 3768 then finish tag .invalidField s
    else withSess tag true session.toNat (finishImport tag manifest) s) s)

/-! ## ACTIVATE and ABORT (R558, R559) -/

/-- A field of a CONTROL value. -/
def ctlField (v : Bytes) (off len : Nat) : Nat := leVal (slice v off len)

/-- TAG 2 restored: a queue. -/
def restoreQueue (v : Bytes) (c : Ctrl) : Ctrl :=
  let qid := ctlField v 0 2
  let base := BitVec.ofNat 64 (ctlField v 3 8)
  let size := ctlField v 11 2 + 1
  if ctlField v 2 1 = 0 then
    let tail := ctlField v 15 2
    { c with sqs := c.sqs ++ [{ qid := qid, size := size, base := base, cqid := ctlField v 18 2,
                                prio := BitVec.ofNat 2 (ctlField v 22 1), head := ctlField v 13 2, tail := tail,
                                watch := .plain, eventIdx := ringPrev size tail }] }
  else
    { c with cqs := c.cqs ++ [{ qid := qid, size := size, base := base, iv := ctlField v 20 2,
                                ien := decide (ctlField v 22 1 = 1), head := ctlField v 13 2, tail := ctlField v 15 2,
                                eventIdx := size - 1, waiting := [], coalesced := 0 }] }

/-- TAG 5 restored: one feature. -/
def restoreFeature (v : Bytes) (x : Feats) : Feats :=
  let w : W32 := BitVec.ofNat 32 (ctlField v 1 4)
  match ctlField v 0 1 with
  | 0x01 => { x with arbitration := w }
  | 0x02 => { x with powerMgmt := w }
  | 0x07 => { x with numQueues := w }
  | 0x08 => { x with coalesce := w }
  | 0x09 => { x with vecConfig := Sparse.put false x.vecConfig (ctlField v 1 2) (w.getLsbD 16) }
  | 0x0A => { x with atomicity := w }
  | 0x0B => { x with asyncConfig := w }
  | 0x81 => { x with hostId := BitVec.ofNat 128 (ctlField v 1 16) }
  | _ => x

/-- TAG 6 restored: the reservation of one namespace, the tenant its registrant. -/
def restoreRsv (f : Func) (v : Bytes) (s : State) : State :=
  let r : Rsv := { rtype := BitVec.ofNat 8 (ctlField v 8 1), ptpl := decide (ctlField v 9 1 = 1),
                   gen := BitVec.ofNat 32 (ctlField v 4 4),
                   holder := if ctlField v 10 1 = 1 then some (.fn f) else none,
                   regs := if ctlField v 11 1 = 1 then [(.fn f, BitVec.ofNat 64 (ctlField v 12 8))] else [] }
  modNs (ctlField v 0 4) (fun n => { n with rsv := r }) s

/-- One CONTROL entry restored (R551, R559). -/
def restoreEntry (f : Func) (e : Nat × Bytes) (s : State) : State :=
  let v := e.2
  match e.1 with
  | 1 =>
    let cc : W32 := BitVec.ofNat 32 (ctlField v 0 4)
    modCtrl f (fun c => { c with cc := cc, en := cc.getLsbD 0, rdy := cc.getLsbD 0,
                                 intms := BitVec.ofNat 32 (ctlField v 24 4) }) s
  | 2 => modCtrl f (restoreQueue v) s
  | 3 => modCtrl f (fun c => { c with
      shadow := some (BitVec.ofNat 64 (ctlField v 0 8), BitVec.ofNat 64 (ctlField v 8 8)) }) s
  | 4 =>
    let open_ := (List.range 64).filter fun i => decide (ctlField v (16 * i + 12) 4 % 2 = 0)
    let pend := (List.range 64).filter fun i => (BitVec.ofNat 64 (ctlField v 1024 8)).getLsbD i
    modFn f (fun x => { x with unmasked := open_, pba := pend }) s
  | 5 => modCtrl f (fun c => { c with feats := restoreFeature v c.feats }) s
  | 6 => restoreRsv f v s
  | 7 => modCtrl f (fun c => { c with errors := v.length / 64 }) s
  | _ => modCtrl f (fun c => { c with
      events := c.events ++ [{ etype := ctlField v 0 1, info := ctlField v 1 1, lid := BitVec.ofNat 8 (ctlField v 2 1) }] }) s

/-- Queues under shadow doorbells are swept again (R321, R559 step 3). -/
def startSweeping (f : Func) (s : State) : State :=
  modCtrl f (fun c =>
    let sqs := if c.shadow.isSome then c.sqs.map fun q => { q with watch := SqWatch.polled } else c.sqs
    { c with sqs := sqs }) s

/-- ACTIVATE passes (R559): namespaces attach, the controller and its commands come back, interrupts are signalled again
and sweeping starts. -/
def activate (t : Tag) (x : MqSess) (s : State) : State :=
  let f := x.tenant
  let s := x.nss.foldl (fun s i =>
    ustChange (nsUnit i) (modNs i (fun n => { n with state := .active, attached := [unitOf f] }) s)) s
  let s := modCtrl f (fun _ => Ctrl.reset) s
  let s := x.control.foldl (fun s e => restoreEntry f e s) s
  let ctxs := x.ctxs.map fun c => { c with cmd := { c.cmd with key := if c.cmd.sqid = 0 then none else capturedKey s c.cmd.nsid.toNat } }
  let s := restoreContexts f ctxs s
  let s := (fnOf s f).ctrl.cqs.foldl (fun s q => if q.ien && q.unconsumed then signalCq f q s else s) s
  let s := startSweeping f (markDelta (dropSess x s))
  finish t .success (mqEvent 7 (unitOf f) x.manifest (ustChange (unitOf f) s))

/-- ACTIVATE (R554, R559). -/
def execImportActivate (tag : Tag) (session : BitVec 3) (s : State) : Host.Outcome State Fault Refusal :=
  .next (runMaquette (.importActivate tag session) tag 0xC9 (withSess tag true session.toNat (fun x s =>
    let f := x.tenant
    if x.state ≠ .staged then finish tag .stateConflict s
    else if s.tab.offline then finish tag .arrayOffline s
    else if !(fnOf s f).cfg.bme || decide (intMode s f = .polled) || !(fnOf s f).online || (fnOf s f).ctrl.en then
      finish tag .stateConflict s
    else activate tag x s)) s)

/-- ABORT_IMPORT (R554, R558): the tenant is discarded whole. -/
def execImportAbort (tag : Tag) (session : BitVec 3) (s : State) : Host.Outcome State Fault Refusal :=
  .next (runMaquette (.importAbort tag session) tag 0xC9 (withSess tag true session.toNat (fun x s =>
    finish tag .success (discardImport x s))) s)

end Sys2Proof.Machine
end

