-- ==== Sys2Proof/Machine/Ksc.lean ====
section
/-! DEFINITION. Kaleidoscope: the port's enable, snapshots and SYNC packets (R588 to R597). -/
namespace Sys2Proof.Machine

/-- T_J in 0.1 °C, kept within the 12-bit field of TZ_ARM_THERMAL and sign-extended (R496, R595). -/
def tjSigned (s : State) : W32 := BitVec.ofInt 32 (clampInt (-2048) 2047 (s.arm.meas.tj / 100))

/-- A non-negative quantity as a 32-bit register value, saturating. -/
def reg32 (v : Int) : W32 := BitVec.ofNat 32 (min v.toNat 0xFFFFFFFF)

/-- The 12 values of a snapshot, in order (R595). -/
def snapValues (s : State) : List W32 :=
  [BitVec.ofNat 32 (inflightTotal s), BitVec.ofNat 32 (poolFree s), s.nvm.stalls, BitVec.ofNat 32 (dirtyMib s),
   s.hold.wtWrites, reg32 s.arm.eAvail, BitVec.ofNat 32 (limitMib s), BitVec.ofNat 32 s.arm.rate, tjSigned s,
   s.flash.suspends.setWidth 32, s.ftl.degraded, s.ksc.lost]

/-- A snapshot is taken: kept in the registers, counted, and emitted when CLASS permits (R595, log 69). -/
def takeSnap (s : State) : State :=
  let v := snapValues s
  let s := { s with ksc.snap := v, ksc.snapIndex := s.ksc.snapIndex + 1 }
  kscPutClass 4 ⟨0x06, le32 s.ksc.snapIndex.toNat ++ v.flatMap fun x => le32 x.toNat⟩ s

/-- A packet as it is sent: header, payload and CRC. TS16 is a time, and so a free value (R592, log 38). -/
def kscBytes (ts : BitVec 16) (p : KscPkt) : Bytes :=
  let b := leBytes 1 p.type.toNat ++ leBytes 1 p.payload.length ++ le16 ts.toNat ++ p.payload
  b ++ [crc8 b]

/-- A byte takes one clock of KSC_CLK: its low nibble around the rising edge, its high nibble around the falling one (R591). -/
def kscClock (b : Byte) : BitVec 4 × BitVec 4 := (b.extractLsb' 0 4, b.extractLsb' 4 4)

/-- What the port sends next while it is active: the oldest packet, or one fill byte of 0x00 between packets (R591, R594). -/
def kscSend (s : State) : State :=
  match s.ksc.active, s.ksc.fifo with
  | true, p :: r => drawn 1 (emit (.ksc ((kscBytes (draw 16 s) p).map kscClock)) { s with ksc.fifo := r })
  | true, [] => emit (.ksc [kscClock 0x00]) s
  | false, _ => s

/-- ENABLE as written (R589, R590). -/
def setKscEnable (on : Bool) (s : State) : State := kscFollow { s with ksc.enable := on }

/-- KSC_ENABLE_CHANGE (R590). -/
def execKscEnableChange (enable : Bool) (s : State) : Host.Outcome State Fault Refusal :=
  .next (if running s then setKscEnable enable s else s)

/-- SNAP_NOW (R595). -/
def execSnapNow (s : State) : Host.Outcome State Fault Refusal := .next (if running s then takeSnap s else s)

/-- KSC_PERIODIC_SNAPSHOT: SNAP_MS has passed (R595). -/
def execKscPeriodicSnapshot (s : State) : Host.Outcome State Fault Refusal :=
  .next (if !running s then s else takeSnap s)

/-- KSC_SYNC: a SYNC packet every 100 µs while the port is active (R592). -/
def execKscSync (s : State) : Host.Outcome State Fault Refusal :=
  .next (if s.ksc.active then kscSyncPacket s else s)

end Sys2Proof.Machine
end

