-- ==== Sys2Proof/Machine/Units.lean ====
section
/-! DEFINITION. The Unit State Table, its snapshot on the management path and log page 0xC6 (R315, R580 to R582). -/
namespace Sys2Proof.Machine

/-- Available Spare (R425): the lowest, over the groups in use, of 100 × SPARE_g over SPARE_g at first initialisation,
rounded down, kept within 0 to 100. -/
def availSpare (s : State) : Nat :=
  (groupsInUse s).foldl (fun a g =>
    let first := (grpOf s g).spare0
    let now := spareOf s g
    min a (if first ≤ 0 ∨ now ≤ 0 then 0 else (100 * now / first).toNat)) 100

/-- SMART critical warning: bit 0 Available Spare below its threshold of 10, bit 3 Read-only, bit 4 volatile memory backup
failed (R422, R425, R504, R528). -/
def critWarn (s : State) : W8 :=
  (if availSpare s < 10 then 1 else 0) ||| (if s.tab.readOnly then 8 else 0) ||| (if s.hold.critBackup then 16 else 0)

/-- STATE code of a function (R581). -/
def fnStateCode (s : State) (f : Func) : Nat :=
  let x := fnOf s f
  if !fnPresent s f || (decide (f.vf ≠ 0) && !x.online && !x.retired) then 0
  else if x.retired then 6
  else if x.frozen then 5
  else if x.fatal then 4
  else if x.resetting then 3
  else if x.ctrl.en then 1
  else 2

/-- STATE code of a namespace (R581). -/
def nsStateCode (s : State) (n : Ns) : Nat :=
  match n.state with
  | .active => if keyErased s n then 6 else 1
  | .deleting => 2
  | .formatting => 3
  | .sanitizing => 4
  | .staged => 5

/-- GEN_CHANGED of a unit. -/
def genChanged (s : State) (u : Nat) : W32 := Sparse.read 0 s.nvm.changed u

/-- Bit 0 of FLAGS. -/
def warnFlag (s : State) : Nat := if critWarn s = 0 then 0 else 1

/-- Unit 0. -/
def arrayEntry (s : State) : UnitEntry :=
  { unit := 0, state := arrayState s, flags := warnFlag s, changed := genChanged s 0,
    detail := BitVec.ofNat 32 ((groupsInUse s).length % 16) }

/-- The entry of a function. -/
def fnEntry (s : State) (f : Func) : UnitEntry :=
  let c := (fnOf s f).ctrl
  { unit := unitOf f, state := fnStateCode s f, flags := warnFlag s + (if c.rdy then 2 else 0),
    changed := genChanged s (unitOf f), detail := BitVec.ofNat 32 (min 65535 c.inflight.length) }

/-- The entry of a namespace. -/
def nsEntry (s : State) (nsid : Nat) (n : Ns) : UnitEntry :=
  { unit := nsUnit nsid, state := nsStateCode s n, flags := warnFlag s, changed := genChanged s (nsUnit nsid),
    detail := match n.slot with
      | some i => at32 0 (BitVec.ofNat 12 i) ||| bit32 31 true
      | none => 0 }

/-- The live table, in ascending unit order (R581). -/
def unitEntries (s : State) : List UnitEntry :=
  arrayEntry s :: ((List.range 256).map fun i => fnEntry s (funcOfUnit (i + 1)))
    ++ s.tab.nss.map fun e => nsEntry s e.1 e.2

/-- What a VF may see: the array, its own function, and the namespaces attached to its controller (R581). -/
def vfEntries (s : State) (f : Func) : List UnitEntry :=
  arrayEntry s :: fnEntry s f
    :: (s.tab.nss.filter fun e => e.2.attached.contains (unitOf f)).map fun e => nsEntry s e.1 e.2

/-- An entry's 16 bytes. -/
def unitBytes (e : UnitEntry) : Bytes :=
  le16 e.unit ++ leBytes 1 e.state ++ leBytes 1 e.flags ++ le32 e.changed.toNat ++ le32 e.detail.toNat ++ le32 0

/-- Log page 0xC6 as a source reads it. SNAP_AGE_MS of the snapshot is a free value (log 38). -/
def unitPage (s : State) (src : Source) : Bytes :=
  let page (snap : Bool) (gen : W32) (age : Nat) (l : List UnitEntry) : Bytes :=
    padTo 64 (le32 0x53555A54 ++ le16 1 ++ leBytes 1 (if snap then 1 else 0) ++ leBytes 1 (deviceMode s) ++ le32 gen.toNat
      ++ le32 age ++ le16 l.length) ++ l.flatMap unitBytes
  match src with
  | .mgt => page true s.mgt.snapGen (draw 32 s).toNat s.mgt.snap
  | .fn f => page false s.nvm.ustGen 0 (if f.vf = 0 then unitEntries s else vfEntries s f)

/-- A read of a log page with Retain Asynchronous Event cleared ends the masking of its event type (R612). -/
def unmaskEvent (t : Tag) (etype : Nat) (s : State) : State :=
  match t.src with
  | .mgt => s
  | .fn f => modCtrl f (fun c => { c with masked := c.masked.filter (fun e => decide (e ≠ etype)) }) s

/-- Answers log page 0xC6. -/
def unitLog (t : Tag) (rae : Bool) (length offset : Nat) (s : State) : State :=
  let page := unitPage s t.src
  let s' := if rae || decide (page.length < offset) then s else unmaskEvent t 7 s
  logReply t page length offset (drawn 1 s')

/-- UNIT_STATE_TABLE_LOG (R315, R581, R612). -/
def execUnitStateTableLog (tag : Tag) (rae : Bool) (length offset : Nat) (s : State) :
    Host.Outcome State Fault Refusal :=
  .next (runAdmin (.unitStateTableLog tag rae length offset)
    tag 0x02 0 true true true (unitLog tag rae length offset) s)

/-! ## The snapshot -/

/-- State of a unit in a list of entries; a unit without entry has none. -/
def stateIn (l : List UnitEntry) (u : Nat) : Option Nat := (l.find? fun e => decide (e.unit = u)).map (·.state)

/-- Units whose state differs between two lists, in ascending order. -/
def differing (old new : List UnitEntry) : List Nat :=
  sortBy id (((new.map (·.unit) ++ old.map (·.unit)).eraseDups).filter fun u => decide (stateIn old u ≠ stateIn new u))

/-- One mismatch (R582, source 161). -/
def noteMismatch (u : Nat) (s : State) : State :=
  event 0x0061 u s.nvm.ustGen.toNat (evsSet 161 { s with mgt.mismatches := satAdd s.mgt.mismatches 1 })

/-- SNAPSHOT_COPY (R580, R582): while DEVICE_MODE is Running the table is copied; a unit whose state differs from the one
last copied, which every report of the path was made from, is recorded (log 66). -/
def execSnapshotCopy (s : State) : Host.Outcome State Fault Refusal :=
  .next (if !fullyUp s then s
    else
      let new := unitEntries s
      let ds := if s.mgt.snapTaken then differing s.mgt.snap new else []
      ds.foldl (fun s u => noteMismatch u s)
        { s with mgt.snap := new, mgt.snapGen := s.nvm.ustGen, mgt.snapTaken := true, mgt.snapWarn := critWarn s })

end Sys2Proof.Machine
end

