-- ==== Sys2Proof/Machine/Update.lean ====
section
/-! DEFINITION. Replacing the firmware (chapter 07): download, the refusal gate, Update Gate Query and the three commit
actions. -/
namespace Sys2Proof.Machine

/-! ## Slots and the gate (R250, R251, R258, R261) -/

/-- NVMe slot number (R250). -/
def nvmeSlot : SlotId → Nat
  | .g => 1
  | .a => 2
  | .b => 3

/-- The inactive slot (R251). -/
def inactiveSlot (s : State) : Option SlotId :=
  let r := bootRecBase s
  let free (i : SlotId) : Bool :=
    !decide (r.state i = some SlotState.active) && !decide (r.state i = some SlotState.trial) && !slotRetired s i
  match free .a, free .b with
  | true, true => if r.stateA = .previous ∧ r.stateB ≠ .previous then some .b else some .a
  | true, false => some .a
  | false, true => some .b
  | false, false => none

/-- Bytes per second and 10⁻⁵ mJ are cleared from condition 2 by B_dump = 96 MiB/s × width: the right-hand side in mJ is
`energyRhs / energyDen` (R67, R258). -/
def energyRhs (s : State) (pfMw : Nat) : Nat := pfMw * (3168 * (96 * dumpWidth s * 2 ^ 20) + 144000 * dirtyBytes s)

/-- The denominator of `energyRhs`. -/
def energyDen (s : State) : Nat := 100000 * (96 * dumpWidth s * 2 ^ 20)

/-- Condition 2 holds: E_avail < 1.2 × E_need(D) + E_need(0). With no hold-up configuration in force or no dump group, the
energy needed is not covered by any. -/
def holdLow (s : State) : Bool :=
  match s.hold.confInForce with
  | none => true
  | some r => decide (dumpWidth s = 0) || decide (s.arm.eAvail * energyDen s < energyRhs s r.pfMw)

/-- MOVING (R261, R560). -/
def movingBits (s : State) : W32 :=
  bit32 0 (s.mqt.sess.any fun x => !x.imp)
    ||| bit32 1 (s.mqt.sess.any fun x => x.imp && decide (x.state = MqState.receiving))
    ||| bit32 2 (anyRebuilding s) ||| bit32 3 s.ftl.resync

/-- A slot is in Trial. -/
def inTrial (s : State) : Bool :=
  decide ((bootRecBase s).stateA = SlotState.trial) || decide ((bootRecBase s).stateB = SlotState.trial)

/-- The rows of R258, in order, with their statuses. -/
def gateRows (s : State) : List (Bool × Status) :=
  [ (ownerLocked s, .ownerLocked), (holdLow s, .holdupLow), (decide (movingBits s ≠ 0), .dataMoving),
    (s.arm.throttled, .thermal), (inTrial s, .stateConflict), ((inactiveSlot s).isNone, .invalidFirmwareSlot) ]

/-- The gate (R258): the status of the first condition that holds. -/
def gate (s : State) : Option Status := ((gateRows s).find? (·.1)).map (·.2)

/-- SVN of slot G as its header has it. -/
def svnOfG (s : State) : Nat := (slotHeader s .g).svn

/-- BLOCKERS (R261, R270). -/
def blockers (s : State) : W8 :=
  let rows := gateRows s
  let bits := (List.range 6).foldl (fun m i =>
    if (rows.map (·.1)).getD i false then m ||| ((1 : W8) <<< i) else m) (0 : W8)
  bits ||| (if s.nvm.sanitize.isSome then 0x40 else 0) ||| (if svnOfG s < svnMin s then 0x80 else 0)

/-! ## Events and the session (R254, R271, R273) -/

/-- A refused download (R271 step 2). -/
def refuseDownload (t : Tag) (st : Status) (s : State) : State := finish t st (updEvent 2 (statusCode st) [] s)

/-- The session closes (source 35). -/
def closeUpd (s : State) : State :=
  if s.upd.holder.isSome then
    let b := s.upd.blockers
    evsSet 35 { s with upd := { Upd.reset with blockers := b } }
  else s

/-! ## Download (R253 to R257) -/

/-- The granularity and limits of R253. -/
def downloadFields (path : Bool) (off len : Nat) : Bool :=
  let g := if path then 4096 else 65536
  decide (off % g = 0 ∧ len % g = 0 ∧ len ≠ 0 ∧ off + len ≤ slotBytes) && (!path || decide (len ≤ 4096))

/-- 4 KiB units of a range. -/
def kib4Units (off len : Nat) : List Nat := (List.range (len / 4096)).map (· + off / 4096)

/-- A session opens: the inactive slot becomes Empty with no staged image, and the requester holds it (R254, R264). A
record write that fails opens none. -/
def openUpd (r : Requester) (i : SlotId) (stored : Bool) (s : State) : State :=
  let rec0 := bootRecBase s
  let rec1 := (rec0.setState i .empty)
  let rec2 := { rec1 with staged := rec1.staged &&& ~~~(match i with | .a => 1 | .b => 2 | .g => 0) }
  let s := storeRecord (.boot rec2) stored s
  if stored then
    let b := s.upd.blockers
    updEvent 1 (nvmeSlot i) [] (evsSet 35 { s with
      upd := { holder := some r, slot := some i, touched := [], written := [], blockers := b } })
  else s

/-- Bytes of a download that are programmed: those up to the end of the signature block, once the header is known, in
whole 32-byte units (R257). -/
def keepBytes (s : State) (i : SlotId) (off : Nat) (data : Bytes) : Bytes :=
  let h := if off = 0 then parseHeader (data.take 4096) else slotHeader s i
  if (off = 0 ∨ 0 ∈ s.upd.written) ∧ headerOk h = true then
    data.take ((h.sigOffset + h.sigLength - off + 31) / 32 * 32)
  else data

/-- Sectors of a range that the session's downloads have not touched yet. -/
def newSectors (s : State) (a n : Nat) : List Nat :=
  ((List.range ((a + n - 1) / sectorBytes - a / sectorBytes + 1)).map (· + a / sectorBytes)).filter
    fun k => !s.upd.touched.contains k

/-- The erased sectors' data is programmed (R255 to R257); a PROGRAM that fails completes the download with Internal Error,
its sector replaced or retired, and none of its data counts as written (R161, chapter 07's failure table; log 141). -/
def programData (t : Tag) (i : SlotId) (off : Nat) (data : Bytes) (ok : Bool) (s : State) : State :=
  let a := slotBase i + off
  let d := keepBytes s i off data
  if rangeDone s a d.length && ok then finish t .internalError (programRange a d s)
  else if ok || d.isEmpty then
    finish t .success { programRange a d s with upd.written := s.upd.written ++ kib4Units off data.length }
  else finish t .internalError (slotProgramFails a d.length s)

/-- Newly touched sectors are erased and the data is programmed (R255, R256). A SECTOR ERASE that fails, the first one
(log 141), completes the download with Internal Error, its sector replaced or retired (R161). -/
def programDownload (t : Tag) (i : SlotId) (off : Nat) (data : Bytes) (out : SlotWrite) (s : State) : State :=
  let new := newSectors s (slotBase i + off) data.length
  match out, new with
  | .eraseFails, n :: _ =>
    let s := slotEraseFails n s
    finish t .internalError { s with upd.touched := s.upd.touched ++ [n] }
  | _, _ =>
    let s := eraseSectors new s
    programData t i off data (decide (out ≠ .programFails)) { s with upd.touched := s.upd.touched ++ new }

/-- A download past its field checks and the gate: the session, then the overlap (R254, R255). One into a slot that was
retired in the session is refused (R162; the status is DEDUCED from row 6 of R258, log 148). -/
def downloadInto (t : Tag) (r : Requester) (off : Nat) (data : Bytes) (out : SlotWrite) (stored : Bool) (s : State) :
    State :=
  match s.upd.holder, s.upd.slot with
  | some h, some i =>
    if h ≠ r then refuseDownload t .stateConflict s
    else if slotRetired s i then refuseDownload t .invalidFirmwareSlot s
    else if (kib4Units off data.length).any fun u => s.upd.written.contains u then refuseDownload t .overlappingRange s
    else programDownload t i off data out s
  | _, _ =>
    match inactiveSlot s with
    | none => refuseDownload t .invalidFirmwareSlot s
    | some i =>
      let st := stored && canStore .boot s
      let s := openUpd r i st s
      if st then programDownload t i off data out s else finish t .internalError s

/-- Firmware Image Download (R252 to R260). -/
def download (t : Tag) (off : Nat) (data : Bytes) (out : SlotWrite) (stored : Bool) (s : State) : State :=
  match requesterOf t.src with
  | none => s
  | some r =>
    if s.nvm.sanitize.isSome then refuseDownload t .sanitizeInProgress s
    else if !downloadFields (decide (t.src = .mgt)) off data.length then refuseDownload t .invalidField s
    else match gate s with
      | some st => refuseDownload t st s
      | none => downloadInto t r off data out stored s

/-- FIRMWARE_IMAGE_DOWNLOAD (R255). -/
def execFirmwareImageDownload (tag : Tag) (offset : Nat) (data : Bytes) (out : SlotWrite) (stored : Bool) (s : State) :
    Host.Outcome State Fault Refusal :=
  .next (runAdmin (.firmwareImageDownload tag offset data out stored)
    tag 0x11 0 true false true (download tag offset data out stored) s)

/-! ## Commit (R262 to R265, R269) -/

/-- A commit whose checks have passed changes the boot control record (R109, R263). -/
def commitRecord (t : Tag) (rec : BootRec) (root : Bytes) (stored : Bool) (s : State) : State :=
  let ok := stored && canStore .boot s
  let s := storeRecord (.boot rec) ok s
  if ok then finish t .success (updEvent 3 0 root s) else refuseCommit t .internalError root s

/-- The checks that every commit action shares: sanitize, slot number, gate, and the inactive slot (R258, R260, R262). -/
def commitOn (t : Tag) (fs : BitVec 3) (k : Requester → SlotId → State → State) (s : State) : State :=
  match requesterOf t.src with
  | none => s
  | some r =>
    if s.nvm.sanitize.isSome then refuseCommit t .sanitizeInProgress [] s
    else if fs = 1 ∨ 3 < fs.toNat then refuseCommit t .invalidFirmwareSlot [] s
    else match gate s, inactiveSlot s with
      | some st, _ => refuseCommit t st [] s
      | none, none => refuseCommit t .invalidFirmwareSlot [] s
      | none, some i =>
        if fs ≠ 0 ∧ nvmeSlot i ≠ fs.toNat then refuseCommit t .invalidFirmwareSlot [] s else k r i s

/-- Actions 0b000 and 0b001: from the session holder only; the slot is verified and the session closed (R263). A session
whose slot was retired closes with Invalid Firmware Slot (log 148). -/
def commitSession (t : Tag) (env : ImageEnv) (stored pend : Bool) (r : Requester) (i : SlotId) (s : State) : State :=
  if s.upd.holder ≠ some r then refuseCommit t .stateConflict [] s
  else if s.upd.slot ≠ some i then refuseCommit t .invalidFirmwareSlot [] (closeUpd s)
  else
    let s := closeUpd s
    let root := (slotHeader s i).root
    let b := bootRecBase s
    if !imageOk s i env then refuseCommit t .invalidFirmwareImage root s
    else if pend then commitRecord t (b.pending i (slotRoot s i)) root stored s
    else commitRecord t { b with staged := b.staged ||| (match i with | .a => 1 | .b => 2 | .g => 0) } root stored s

/-- The slot is Empty and holds a staged image (R264). -/
def stagedEmpty (s : State) (i : SlotId) : Bool :=
  let b := bootRecBase s
  decide (b.state i = some SlotState.empty) && (match i with
    | .a => b.staged.getLsbD 0
    | .b => b.staged.getLsbD 1
    | .g => false)

/-- Action 0b010 (R263, R264). -/
def commitStaged (t : Tag) (env : ImageEnv) (stored : Bool) (r : Requester) (i : SlotId) (s : State) : State :=
  if s.upd.holder.isSome ∧ s.upd.holder ≠ some r then refuseCommit t .stateConflict [] s
  else if !stagedEmpty s i then refuseCommit t .invalidFirmwareImage [] s
  else
    let root := (slotHeader s i).root
    let b := bootRecBase s
    if imageOk s i env then commitRecord t (b.pending i (slotRoot s i)) root stored s
    else
      let bare := { b with staged := b.staged &&& ~~~(match i with | .a => 1 | .b => 2 | .g => 0) }
      refuseCommit t .invalidFirmwareImage root (storeRecord (.boot bare) (stored && canStore .boot s) s)

/-- COMMIT_ACTION_STAGE: action 0b000. -/
def execCommitActionStage (tag : Tag) (slot : BitVec 3) (env : ImageEnv) (stored : Bool) (s : State) :
    Host.Outcome State Fault Refusal :=
  .next (runAdmin (.commitActionStage tag slot env stored)
    tag 0x10 0 true false true (commitOn tag slot (commitSession tag env stored false)) s)

/-- COMMIT_ACTION_PENDING: action 0b001. -/
def execCommitActionPending (tag : Tag) (slot : BitVec 3) (env : ImageEnv) (stored : Bool) (s : State) :
    Host.Outcome State Fault Refusal :=
  .next (runAdmin (.commitActionPending tag slot env stored)
    tag 0x10 0 true false true (commitOn tag slot (commitSession tag env stored true)) s)

/-- COMMIT_ACTION_ACTIVATE_STAGED: action 0b010. -/
def execCommitActionActivateStaged (tag : Tag) (slot : BitVec 3) (env : ImageEnv) (stored : Bool) (s : State) :
    Host.Outcome State Fault Refusal :=
  .next (runAdmin (.commitActionActivateStaged tag slot env stored)
    tag 0x10 0 true false true (commitOn tag slot (commitStaged tag env stored)) s)

/-! ## Update Gate Query (R261, R273) -/

/-- A value as a 32-bit unsigned field. -/
def u32Of (v : Int) : Nat := min v.toNat 0xFFFFFFFF

/-- E_REQ_MJ, to the nearest mJ (log 47); with no configuration in force or no dump group it saturates. -/
def energyReq (s : State) : Nat :=
  match s.hold.confInForce with
  | none => 0xFFFFFFFF
  | some r => if dumpWidth s = 0 then 0xFFFFFFFF else min ((energyRhs s r.pfMw + energyDen s / 2) / energyDen s) 0xFFFFFFFF

/-- The 64-byte report (R261). -/
def gateReport (s : State) : Bytes :=
  padTo 64 (le32 (blockers s).toNat ++ le32 (movingBits s).toNat ++ le32 (u32Of s.arm.eAvail) ++ le32 (energyReq s)
    ++ le16 (BitVec.ofInt 16 (s.arm.meas.tj.fdiv 100)).toNat ++ le16 s.arm.throttle
    ++ leBytes 1 (match inactiveSlot s with | some i => nvmeSlot i | none => 0)
    ++ leBytes 1 (match s.upd.holder with | some r => requesterCode r | none => 0)
    ++ leBytes 1 (svnMin s) ++ leBytes 1 (svnOfG s) ++ le32 s.nvm.ustGen.toNat)

/-- UPDATE_GATE_QUERY (R252, R261). -/
def execUpdateGateQuery (tag : Tag) (length : W16) (s : State) : Host.Outcome State Fault Refusal :=
  .next (runAdmin (.updateGateQuery tag length) tag 0xCB 0 true false true (fun s =>
    if length.toNat < 64 then finish tag .invalidField s else finishData tag (gateReport s) s) s)

/-- UPDATE_GATE_REFRESH: the millisecond passed (R273, source 34). -/
def execUpdateGateRefresh (s : State) : Host.Outcome State Fault Refusal :=
  .next (
    if !running s then s
    else
      let b := blockers s
      evsSetIf (decide (b ≠ s.upd.blockers)) 34 { s with upd.blockers := b })

end Sys2Proof.Machine
end

