-- ==== Sys2Proof/Machine/Logs.lean ====
section
/-! DEFINITION. Get Log Page (R250, R313, R315, R422, R425, R612). The standard's pages have the layouts of NVMe Base 2.1
(PRESUMED, log 39); bytes of them that the spec gives no value are free. -/
namespace Sys2Proof.Machine

/-- Pages of R315. -/
def logKnown (lid : W8) : Bool :=
  decide (lid.toNat ≤ 0x06 ∨ lid = 0x80 ∨ lid = 0x81 ∨ lid = 0xC0 ∨ lid = 0xC3 ∨ (0xC5 ≤ lid.toNat ∧ lid.toNat ≤ 0xC7))

/-- The columns of R315: which source may read a page. -/
def logAllowed (src : Source) (lid : W8) : Bool :=
  match src with
  | .mgt => !decide (lid = 0x04 ∨ lid = 0x80)
  | .fn _ => !(isVf src) || !decide (lid = 0x06 ∨ lid = 0xC3 ∨ lid = 0xC5 ∨ lid = 0xC7)

/-- `n` free bytes of a standard structure, with patches. -/
def logStruct (n seed ctr : Nat) (l : List (Nat × Bytes)) : Bytes :=
  (l.foldl (fun b e => patch e.1 e.2 b) (padTo n (Config.standardBytes (1024 + seed) ctr))).take n

/-- 0x00: for each page whether the source may read it. -/
def supportedPages (src : Source) : Bytes :=
  (List.range 256).flatMap fun i =>
    le32 (if logKnown (BitVec.ofNat 8 i) && logAllowed src (BitVec.ofNat 8 i) then 1 else 0)

/-- 0x01: 256 entries, newest first, each with its error count; unused ones are 0. -/
def errorPage (s : State) (f : Func) : Bytes :=
  let n := (fnOf s f).ctrl.errors
  (List.range 256).flatMap fun k =>
    if k < n then logStruct 64 0x01 (s.free + k) [(0, le64 (n - k))] else padTo 64 []

/-- 0x02: critical warning, Available Spare and its threshold. -/
def smartPage (s : State) : Bytes :=
  logStruct 512 0x02 s.free [(0, leBytes 1 (critWarn s).toNat), (3, leBytes 1 (availSpare s)), (4, leBytes 1 10)]

/-- Revision of an NVMe slot: IMAGE_VERSION of the image it holds; an Empty or Failed slot shows none (R102, R250). -/
def slotRevision (s : State) (i : SlotId) : Bytes :=
  if (bootRecBase s).state i = some .empty ∨ (bootRecBase s).state i = some .failed then padTo 8 []
  else slotRead s i 8 8

/-- The slot that the next boot starts, when a change is pending. -/
def nextSlot (s : State) : Nat :=
  if (bootRecBase s).stateA = .pending then nvmeSlot .a else if (bootRecBase s).stateB = .pending then nvmeSlot .b else 0

/-- 0x03 (R250): the running slot, the pending one, and the revisions of slots 1 to 3. -/
def firmwarePage (s : State) : Bytes :=
  padTo 512 (leBytes 1 (s.boot.slot.toNat + 1 + 16 * nextSlot s) ++ leBytes 7 0
    ++ slotRevision s .g ++ slotRevision s .a ++ slotRevision s .b)

/-- 0x04: the namespaces whose change the controller has not read yet. -/
def changedPage (s : State) (f : Func) : Bytes := nsList (fnOf s f).ctrl.changedNs 0

/-- Admin opcodes of R313. -/
def adminOpcodes : List Nat :=
  [0x00, 0x01, 0x02, 0x04, 0x05, 0x06, 0x08, 0x09, 0x0A, 0x0C, 0x0D, 0x10, 0x11, 0x14, 0x15, 0x1C, 0x7C, 0x80, 0x84,
   0xC1, 0xC2, 0xC4, 0xC8, 0xC9, 0xCA, 0xCB]

/-- I/O opcodes of R314. -/
def ioOpcodes : List Nat :=
  [0x00, 0x01, 0x02, 0x04, 0x05, 0x08, 0x09, 0x0C, 0x0D, 0x0E, 0x11, 0x15, 0x84]

/-- 0x05: the supported commands; their effects are not given. -/
def effectsPage (s : State) : Bytes :=
  let half (l : List Nat) (k : Nat) : Bytes := (List.range 256).flatMap fun o =>
    if o ∈ l then le32 ((Config.freeBits 32 (s.free + k)).toNat / 2 * 2 + 1) else le32 0
  padTo 4096 (half adminOpcodes 0 ++ half ioOpcodes 1)

/-- 0x06: the running test and up to 20 results, newest first; an unused entry has result 15. -/
def selfTestPage (s : State) : Bytes :=
  leBytes 1 (match s.nvm.selfTest with | some (_, c) => c.toNat | none => 0) ++ leBytes 3 0
    ++ (List.range 20).flatMap fun k => match s.nvm.selfTestLog[k]? with
      | some (r, c) => logStruct 28 0x06 (s.free + k) [(0, leBytes 1 (r.toNat + 16 * c.toNat))]
      | none => padTo 28 [0x0F]

/-- 0x81: progress and status of the sanitize operations (R340). -/
def sanitizePage (s : State) : Bytes :=
  let st := if s.nvm.sanitize.isSome then 2 else if s.nvm.sanitizeFailed then 3 else if s.nvm.sanitized then 1 else 0
  logStruct 512 0x81 s.free
    [(0, if s.nvm.sanitize.isSome then le16 (draw 16 s).toNat else le16 0xFFFF), (2, le16 st)]

/-- A page by its identifier. Log page 0xC5 is read here with LSP 0; other slots through its own row. -/
def logPage (s : State) (t : Tag) (lid : W8) : Bytes :=
  let f := featFunc t
  if lid = 0x00 then supportedPages t.src
  else if lid = 0x01 then errorPage s f
  else if lid = 0x02 then smartPage s
  else if lid = 0x03 then firmwarePage s
  else if lid = 0x04 then changedPage s f
  else if lid = 0x05 then effectsPage s
  else if lid = 0x06 then selfTestPage s
  else if lid = 0x80 then logStruct 64 0x80 s.free []
  else if lid = 0x81 then sanitizePage s
  else if lid = 0xC0 then bootLedgerPage s
  else if lid = 0xC3 then diePage s
  else if lid = 0xC5 then tracePage s 0
  else if lid = 0xC6 then unitPage s t.src
  else parityPage s

/-- Event type whose masking a read of a page ends: error 0, SMART 1, notices 2, reservation and sanitize 6, vendor 7. -/
def eventTypeOf (lid : W8) : Option Nat :=
  if lid = 0x01 then some 0
  else if lid = 0x02 then some 1
  else if lid = 0x03 ∨ lid = 0x04 then some 2
  else if lid = 0x80 ∨ lid = 0x81 then some 6
  else if lid = 0xC6 then some 7
  else none

/-- What a read of a page changes: with Retain Asynchronous Event cleared the masking of its events ends; the Changed
Namespace List empties. -/
def logRead (t : Tag) (lid : W8) (rae : Bool) (s : State) : State :=
  let s := match eventTypeOf lid, rae with
    | some e, false => unmaskEvent t e s
    | _, _ => s
  match t.src, decide (lid = 0x04) with
  | .fn f, true => modCtrl f (fun c => { c with changedNs := [] }) s
  | _, _ => s

/-- GET_LOG_PAGE (R313, R315): a page that is not supported, or that the source may not read, is Invalid Log Page
(log 68); controller-scope pages over the path need an enabled controller (R574). -/
def execGetLogPage (tag : Tag) (lid : W8) (length offset : Nat) (rae : Bool) (s : State) :
    Host.Outcome State Fault Refusal :=
  .next (runAdmin (.getLogPage tag lid length offset rae) tag 0x02 0 true true true
    (onCtrl (decide (lid = 0x01 ∨ lid = 0x02)) tag (fun s =>
      if !logKnown lid || !logAllowed tag.src lid then finish tag .invalidLogPage s
      else if (logPage s tag lid).length < offset then finish tag .invalidField s
      else logReply tag (logPage s tag lid) length offset (drawn 32 (logRead tag lid rae s)))) s)

end Sys2Proof.Machine
end

