-- ==== Sys2Proof/Machine/Recovery.lean ====
section
/-! DEFINITION. The recovery mailbox and its Image Array window (R125 to R133, R141, R169 to R171, R194, R576, R577). -/
namespace Sys2Proof.Machine

/-- Code of a path in TZ_RCV_STATUS.SESSION (R141). -/
def rcvPathCode : RcvPath → BitVec 2
  | .pcie => 1
  | .mgt => 2

/-- TZ_RCV_STATUS (R141). -/
def rcvWord (s : State) : W32 :=
  bit32 0 s.rcv.busy ||| at32 1 s.rcv.code ||| bit32 4 s.rcv.optFault ||| bit32 5 s.rcv.dramFail
    ||| at32 6 (match s.rcv.session with | some p => rcvPathCode p | none => 0)

/-- A command completes with a CODE; the path answers with TZ_RCV_STATUS bits [7:0] (R132, R577). -/
def rcvDone (p : RcvPath) (code : Nat) (s : State) : State :=
  let s := { s with rcv.code := BitVec.ofNat 3 code, rcv.busy := false }
  let o := Output.recovery p ((rcvWord s).setWidth 8)
  if p = .mgt then mgtRespond o s else emit o s

/-- A command is taken: the arguments show in the registers over PCIe. In Option Fault only some are available (R127,
R132). -/
def rcvCommand (p : RcvPath) (inFault : Bool) (a0 a1 a2 : W32) (k : State → State) (s : State) : State :=
  if !rcvPresented s then s
  else
    let s := if p = .pcie then { s with rcv.arg0 := a0, rcv.arg1 := a1, rcv.arg2 := a2 } else s
    if s.rcv.optFault && !inFault then rcvDone p 5 s else k s

/-- Commands 0x03 to 0x07 need the session (R128). -/
def withSession (p : RcvPath) (k : State → State) (s : State) : State :=
  if s.rcv.session = some p then k s else rcvDone p 6 s

/-- Slots a command may name: A or B (R130). -/
def rcvSlot (a0 : W32) : Option SlotId := if a0 = 1 then some .a else if a0 = 2 then some .b else none

/-- A command on a slot. -/
def onSlot (p : RcvPath) (a0 : W32) (k : SlotId → State → State) (s : State) : State :=
  match rcvSlot a0 with
  | some i => k i s
  | none => rcvDone p 2 s

/-- STATUS (R127). -/
def execRcvStatus (path : RcvPath) (s : State) : Host.Outcome State Fault Refusal :=
  .next (rcvCommand path true s.rcv.arg0 s.rcv.arg1 s.rcv.arg2 (rcvDone path 0) s)

/-- A session with nothing erased, written or verified. -/
def newSession (p : Option RcvPath) (s : State) : State :=
  { s with rcv.session := p, rcv.erased := [], rcv.written := [], rcv.verified := [] }

/-- OPEN (R127, R128): the holder keeps its session; while the other path holds it, status 6. -/
def execRcvOpen (path : RcvPath) (s : State) : Host.Outcome State Fault Refusal :=
  .next (rcvCommand path true s.rcv.arg0 s.rcv.arg1 s.rcv.arg2 (fun s =>
    if s.rcv.session = none then rcvDone path 0 (newSession (some path) s)
    else if s.rcv.session = some path then rcvDone path 0 s
    else rcvDone path 6 s) s)

/-- CLOSE (R127): releases the session; status 6 while the other path holds it. -/
def execRcvClose (path : RcvPath) (s : State) : Host.Outcome State Fault Refusal :=
  .next (rcvCommand path true s.rcv.arg0 s.rcv.arg1 s.rcv.arg2 (fun s =>
    if s.rcv.session = none ∨ s.rcv.session = some path then rcvDone path 0 (newSession none s)
    else rcvDone path 6 s) s)

/-- A slot is erased, sector by sector. One that fails ends the command with status 7 at that sector, which is replaced or
retired, and so does a slot that is retired (R129, R132, R161, R162; log 107: the first sector is the one that fails). -/
def rcvErase (p : RcvPath) (ok : Bool) (i : SlotId) (s : State) : State :=
  let s := { s with rcv.erased := s.rcv.erased.filter (· ≠ i), rcv.verified := s.rcv.verified.filter (· ≠ i),
                    rcv.written := s.rcv.written.filter (fun e => decide (e.1 ≠ i)) }
  if slotRetired s i then rcvDone p 7 s
  else if ok then
    let s := eraseSectors (slotSectors i) s
    rcvDone p 0 { s with rcv.erased := s.rcv.erased ++ [i] }
  else rcvDone p 7 (slotEraseFails (slotBase i / sectorBytes) s)

/-- ERASE_SLOT (R127, R130). -/
def execRcvEraseSlot (path : RcvPath) (arg0 : W32) (ok : Bool) (s : State) : Host.Outcome State Fault Refusal :=
  .next (rcvCommand path false arg0 s.rcv.arg1 s.rcv.arg2 (withSession path (onSlot path arg0 (rcvErase path ok))) s)

/-- 64-byte units of a range, as numbers within the slot. -/
def chunkUnits (off n : Nat) : List Nat := (List.range (n / 64)).map (· + off / 64)

/-- A chunk is programmed (R127, R129). `data` are the bytes the host put into the chunk buffer before the command, or
the DATA of the message. Two points the spec leaves open (DESIGN CHOICE, log 107): with length 0, a misaligned or too high
ARG1 is still status 2 and a slot that is not erased is not; after status 7 every unit of the range counts as written. -/
def rcvWrite (p : RcvPath) (off n : Nat) (data : Bytes) (ok : Bool) (i : SlotId) (s : State) : State :=
  let limit := if p = .pcie then 65536 else 1024
  if off % 64 ≠ 0 ∨ n % 64 ≠ 0 ∨ limit < n ∨ slotBytes < off + n ∨ (p = .mgt ∧ data.length ≠ n) then rcvDone p 2 s
  else if n = 0 then rcvDone p 0 s
  else if !(s.rcv.erased.contains i) || ((chunkUnits off n).any fun u => s.rcv.written.contains (i, u)) then rcvDone p 2 s
  else
    let bytes := if p = .pcie then Sparse.readBytes 0 s.rcv.buffer 0 n else padTo n data
    let s := { s with rcv.written := s.rcv.written ++ (chunkUnits off n).map (fun u => (i, u)),
                      rcv.verified := s.rcv.verified.filter (· ≠ i) }
    let a := slotBase i + off
    if ok then rcvDone p (if rangeDone s a n then 7 else 0) (programRange a bytes s) else rcvDone p 7 (slotProgramFails a n s)

/-- Bytes the host wrote to the chunk buffer over PCIe (R126). -/
def fillBuffer (p : RcvPath) (data : Bytes) (s : State) : State :=
  if p = .pcie then { s with rcv.buffer := Sparse.putBytes 0 s.rcv.buffer 0 (data.take 65536) } else s

/-- WRITE_CHUNK (R127, R129). -/
def execRcvWriteChunk (path : RcvPath) (arg0 arg1 arg2 : W32) (data : Bytes) (ok : Bool) (s : State) :
    Host.Outcome State Fault Refusal :=
  .next (rcvCommand path false arg0 arg1 arg2
    (fun s => withSession path (onSlot path arg0 (rcvWrite path arg1.toNat arg2.toNat data ok)) (fillBuffer path data s)) s)

/-- VERIFY runs the checks of R105 and R104 over the slot; a failure is status 3 (R127, R132). -/
def rcvVerify (p : RcvPath) (env : ImageEnv) (i : SlotId) (s : State) : State :=
  let s := { s with rcv.verified := s.rcv.verified.filter (· ≠ i) }
  if imageOk s i env then rcvDone p 0 { s with rcv.verified := s.rcv.verified ++ [i] } else rcvDone p 3 s

/-- VERIFY. -/
def execRcvVerify (path : RcvPath) (arg0 : W32) (env : ImageEnv) (s : State) : Host.Outcome State Fault Refusal :=
  .next (rcvCommand path false arg0 s.rcv.arg1 s.rcv.arg2 (withSession path (onSlot path arg0 (rcvVerify path env))) s)

/-- The owner's recovery authorisation of a slot's root digest (R131, R194): 0 passed, 2 a failure at step 1, 4 another. -/
def rcvAuth (s : State) (root : Digest) (sig : DualVerdict) : Nat :=
  let a := Sparse.readBytes 0 s.rcv.buffer 0 3664
  if !authHead a 0x0010 then 2
  else if !authBinds s a (some 0) (digestBytes root) noDigest || !authSigned a sig (ownerKey s) then 4
  else 0

/-- A refused authorisation is recorded at once: Plinth waits here without limit (R133, R194, R247). -/
def rcvRefused (s : State) : State :=
  let i := s.boot.bootIndex
  let s := writeOut .gen true (event 0x0013 6 0 { s with boot.bootIndex := stopIndex s })
  { s with boot.bootIndex := i }

/-- COMMIT: after a VERIFY success in this session; with the owner lock set it needs the authorisation (R127, R131). -/
def rcvCommit (p : RcvPath) (sig : DualVerdict) (stored : Bool) (i : SlotId) (s : State) : State :=
  if !(s.rcv.verified.contains i) then rcvDone p 3 s
  else
    let root := slotRoot s i
    let r := if ownerLocked s then rcvAuth s root sig else 0
    if r = 4 then rcvDone p 4 (rcvRefused s)
    else if r ≠ 0 then rcvDone p r s
    else
      let ok := stored && canStore .boot s
      let s := storeRecord (.boot ((bootRecBase s).pending i root)) ok s
      rcvDone p (if ok then 0 else 7) s

/-- COMMIT's DATA over the path is 0 or 3,664 bytes, placed at the start of the chunk buffer (R576). -/
def execRcvCommit (path : RcvPath) (arg0 : W32) (auth : Bytes) (sig : DualVerdict) (stored : Bool) (s : State) :
    Host.Outcome State Fault Refusal :=
  .next (rcvCommand path false arg0 s.rcv.arg1 s.rcv.arg2 (withSession path (fun s =>
    if path = .mgt ∧ auth.length ≠ 0 ∧ auth.length ≠ 3664 then rcvDone path 2 s
    else
      let buf := Sparse.putBytes 0 s.rcv.buffer 0 (auth.take 65536)
      onSlot path arg0 (rcvCommit path sig stored) { s with rcv.buffer := buf })) s)

/-- REBOOT: the response is sent, then an internal Fundamental reset (R127, R133). -/
def execRcvReboot (path : RcvPath) (r : FlushResult) (s : State) : Host.Outcome State Fault Refusal :=
  .next (rcvCommand path true s.rcv.arg0 s.rcv.arg1 s.rcv.arg2
    (withSession path (fun s => fundamental true r (rcvDone path 0 s))) s)

/-! ## The recovery function's BAR0 (R126, R141) -/

/-- Size of BAR0 (R126). -/
def rcvBarBytes : Nat := 0x20000000

/-- A read through the Image Array window: it breaks a command sequence of its bank, waits for a REMAP, and else is served
around a running operation (R151, R169, R170; log 140). -/
def windowRead (a : Nat) (uncorrectable : Bool) (s : State) : State :=
  if spareSector (sectorOf a) then emit (.access (.value 0xFFFFFFFF)) s
  else
    let b := bankOfOffset a
    let s := if (bankOf s b).seq = .idle then s else seqError b s
    match (bankOf s b).run with
    | some (.remap _) => { s with rcv.windowHeld := s.rcv.windowHeld ++ [(a, uncorrectable)] }
    | _ => emit (.access (windowAnswer s a uncorrectable)) s

/-- What a read of BAR0 beyond the window answers: the mailbox registers; TZ_RCV_CMD and the chunk buffer are write-only, and
other offsets are unimplemented (R13, R126, R141, R289). -/
def mailboxRead (o : Nat) (s : State) : State :=
  if o = 0x10000000 then emit (.access (.value 0)) s
  else if o = 0x10000004 then emit (.access (.value s.rcv.arg0)) s
  else if o = 0x10000008 then emit (.access (.value s.rcv.arg1)) s
  else if o = 0x1000000C then emit (.access (.value s.rcv.arg2)) s
  else if o = 0x10000010 then emit (.access (.value (rcvWord s))) s
  else emit (.access (.value 0)) s

/-- RECOVERY_WINDOW_READ: a 32-bit read of the recovery function's BAR0 (R126, R169, R170). BAR0 ends at 512 MiB. -/
def execRecoveryWindowRead (offset : Nat) (uncorrectable : Bool) (s : State) : Host.Outcome State Fault Refusal :=
  if rcvBarBytes ≤ offset then .fault (.noSuchOffset offset)
  else .next (
    if !rcvPresented s then s
    else if offset < dieBytes then windowRead (offset / 4 * 4) uncorrectable s
    else mailboxRead (offset / 4 * 4) s)

/-- A code of no recovery command: invalid argument (R127, R132; DEDUCED, log 107). -/
def rcvUnlisted (p : RcvPath) (code : Nat) (s : State) : State :=
  if (1 ≤ code ∧ code ≤ 8) ∨ rcvPresented s = false then s else rcvDone p 2 s

/-- A write to the recovery function's BAR0 that is no row's command: an unlisted code, an argument alone, or 1 to 4 bytes of
the chunk buffer; the window discards writes (R126, R141). -/
def mailboxWrite (o size : Nat) (v : W32) (s : State) : State :=
  if o = 0x10000000 ∧ size = 4 then rcvUnlisted .pcie (fieldOf 0 8 v).toNat s
  else if o = 0x10000004 ∧ size = 4 then { s with rcv.arg0 := v }
  else if o = 0x10000008 ∧ size = 4 then { s with rcv.arg1 := v }
  else if o = 0x1000000C ∧ size = 4 then { s with rcv.arg2 := v }
  else if 0x10010000 ≤ o ∧ o + size ≤ 0x10020000 ∧ size ≤ 4 then
    { s with rcv.buffer := Sparse.putBytes 0 s.rcv.buffer (o - 0x10010000) ((leBytes 4 v.toNat).take size) }
  else s

end Sys2Proof.Machine
end

