-- ==== Sys2Proof/Machine/Mgmt.lean ====
section
/-! DEFINITION. The management path: MCTP packets and control messages, the I3C common commands, the NVMe-MI command set
and VPD (R566 to R587). Layouts and codes of the standards that R5 names are PRESUMED (log 63). -/
namespace Sys2Proof.Machine

/-- The path answers: the device is out of reset (log 63). -/
def mgtUp (s : State) : Bool := decide (s.pwr.phase = .released)

/-! ## MCTP packets (R570) -/

/-- Message types by number (R572). -/
def mctpCode : MctpType → Nat
  | .control => 0x00
  | .nvmeMi => 0x04
  | .spdm => 0x05
  | .securedSpdm => 0x06
  | .vendorPci => 0x7E
  | .other => 0x7F

/-- The packet is addressed to the endpoint: its EID, or the null EID while none is assigned and for control messages
(R571). -/
def addressed (s : State) (p : MctpPkt) : Bool :=
  decide (p.eid = s.mgt.eid) || (decide (p.eid = 0) && decide (p.mtype = .control))

/-- What is left to assemble once the message is broken: its packets up to the last are passed over. -/
def brokenAsm (p : MctpPkt) : Option MctpAsm :=
  if p.eom then none else some { seq := p.seq, length := 0, mtype := p.mtype, head := [], broken := true }

/-- A message breaks: it counts once in DROPPED_MSGS (R570). -/
def breakMsg (p : MctpPkt) (s : State) : State :=
  match s.mgt.asm with
  | some a => if a.broken then { s with mgt.asm := brokenAsm p } else
      let s := mctpDrop s
      { s with mgt.asm := brokenAsm p }
  | none =>
    let s := mctpDrop s
    { s with mgt.asm := brokenAsm p }

/-- A message half received whose next packet starts another one is discarded. -/
def dropUnfinished (s : State) : State :=
  match s.mgt.asm with
  | some a => if a.broken then { s with mgt.asm := none } else mctpDrop s
  | none => s

/-- Admin opcodes that R313 marks "MGT: Yes". -/
def miAdminOpcodes : List Nat :=
  [0x02, 0x06, 0x09, 0x0A, 0x0D, 0x10, 0x11, 0x14, 0x15, 0x1C, 0x80, 0x84, 0xC1, 0xC2, 0xC4, 0xCA, 0xCB]

/-- An admin command of the path with an unlisted code: Invalid Field; Owner Command also ends a split transfer, and a
commit is recorded as refused (R197, R198, R262, R271). -/
def refusePathCode (slot : Nat) (op : W8) (s : State) : State :=
  let t : Tag := ⟨.mgt, slot, 0⟩
  let s := if op = 0xC4 then { s with trust.split := none } else s
  if op = 0x10 then refuseCommit t (if s.nvm.sanitize.isSome then .sanitizeInProgress else .invalidField) [] s
  else finish t .invalidField s

/-- An NVMe-MI request that no row answers: a command outside R573's list, an admin opcode that R313 does not give the path,
or another message is Invalid Command Opcode (R573, R574); an unlisted code waits for firmware as its command does. Byte 0 of the head has the command slot and the message type, byte 3 the opcode, byte 43 begins Command Dword 10 (NVMe-MI 1.2,
log 63). -/
def refuseMi (head : Bytes) (s : State) : State :=
  let b := head.getD 0 0
  let slot := (b &&& 1).toNat
  let op := head.getD 3 0
  if b.extractLsb' 3 4 = 1 ∧ op.toNat ≤ 7 then s
  else if b.extractLsb' 3 4 = 2 ∧ miAdminOpcodes.contains op.toNat = true then
    if 47 ≤ head.length ∧ unlistedCode op (BitVec.ofNat 32 (leVal (slice head 43 4))) = true then
      mgtRequest (.unlisted slot op) slot (mgtRespond (.mi slot 0x03 [])) (refusePathCode slot op) s
    else s
  else mgtRespond (.mi slot 0x03 []) s

/-- A whole message whose request has no row of its own is answered as its standard says of an unsupported one (R5): a
control message with completion code 5, an NVMe-MI request with Invalid Command Opcode, an SPDM request with
UnsupportedRequest, a recovery code with status 2. A type that is not available is discarded (R572). -/
def answerMsg (t : MctpType) (head : Bytes) (s : State) : State :=
  match t with
  | .control =>
    let op := (head.getD 1 0).toNat
    if head.length < 2 ∨ (1 ≤ op ∧ op ≤ 5) then s else mgtRespond (.mctp [0x05]) s
  | .nvmeMi => if head.length < 4 then s else refuseMi head s
  | .spdm | .securedSpdm =>
    let code := (head.getD 1 0).toNat
    if head.length < 2 ∨ fullyUp s = false ∨ spdmListed code = true then s else spdmUnsupported .mctp code s
  | .vendorPci => if leVal (slice head 0 2) = 0x1E9C ∧ 3 ≤ head.length then rcvUnlisted .mgt (head.getD 2 0).toNat s else s
  | .other => s

/-- The packet joins its message; the last one completes it, and what it asks is a command of its own (log 22) or is
answered here. -/
def joinMsg (p : MctpPkt) (len : Nat) (t : MctpType) (head : Bytes) (s : State) : State :=
  if 4224 < len then breakMsg p s
  else if p.eom then answerMsg t head { s with mgt.asm := none }
  else { s with mgt.asm := some { seq := p.seq, length := len, mtype := t, head := head, broken := false } }

/-- A packet that passed its integrity check and is addressed to the endpoint. -/
def takePacket (p : MctpPkt) (s : State) : State :=
  if p.som then joinMsg p p.length p.mtype p.head (dropUnfinished s)
  else match s.mgt.asm with
    | none => breakMsg p s
    | some a =>
      if a.broken || !decide (p.seq = a.seq + 1) then breakMsg p s else joinMsg p (a.length + p.length) a.mtype a.head s

/-- MCTP_PACKET (R570, R571). -/
def execMctpPacket (pkt : MctpPkt) (s : State) : Host.Outcome State Fault Refusal :=
  .next (
    if !mgtUp s then s
    else if !pkt.integrityOk then
      breakMsg pkt (evsSet 162 { s with mgt.pecErrors := satAdd s.mgt.pecErrors 1 })
    else if !addressed s pkt then s
    else takePacket pkt s)

/-! ## MCTP control messages (R571) -/

/-- A control message is answered in every mode. -/
def control (b : State → Bytes) (s : State) : State := if mgtUp s then mgtRespond (.mctp (b s)) s else s

/-- SET_ENDPOINT_ID: set (0) and force (1) take an EID other than 0 and 0xFF; reset (2) needs a static EID, which the
path has not; 3 sets the discovered flag. -/
def execMctpSetEndpointId (op : BitVec 2) (eid : W8) (s : State) : Host.Outcome State Fault Refusal :=
  .next (
    if !mgtUp s then s
    else if op.toNat ≤ 1 ∧ eid ≠ 0 ∧ eid ≠ 0xFF then
      control (fun s => [0x00, 0x00, s.mgt.eid, 0x00]) { s with mgt.eid := eid }
    else control (fun s => [if op = 3 then 0x00 else 0x02, 0x00, s.mgt.eid, 0x00]) s)

/-- GET_ENDPOINT_ID. -/
def execMctpGetEndpointId (s : State) : Host.Outcome State Fault Refusal :=
  .next (control (fun s => [0x00, s.mgt.eid, 0x00, 0x00]) s)

/-- GET_ENDPOINT_UUID: the 16 bytes are not given. -/
def execMctpGetEndpointUuid (s : State) : Host.Outcome State Fault Refusal :=
  .next (control (fun _ => 0x00 :: padTo 16 (Config.standardBytes 0x800 0)) s)

/-- Versions by message type: 1.3 of the base (0xFF), control and SPDM bindings, 1.2 of NVMe-MI and secured messages
(R4); 0x80 for a type with no version. -/
def mctpVersion (t : W8) : Bytes :=
  if t = 0xFF ∨ t = 0x00 ∨ t = 0x05 then [0x00, 0x01, 0xF1, 0xF3, 0xFF, 0x00]
  else if t = 0x04 ∨ t = 0x06 then [0x00, 0x01, 0xF1, 0xF2, 0xFF, 0x00]
  else [0x80]

/-- GET_MCTP_VERSION_SUPPORT. -/
def execMctpGetVersionSupport (type : W8) (s : State) : Host.Outcome State Fault Refusal :=
  .next (control (fun _ => mctpVersion type) s)

/-- Message types available in the present mode, control apart (R572). -/
def mctpTypes (s : State) : Bytes :=
  0x04 :: ((if fullyUp s then [0x05, 0x06] else []) ++ (if rcvPresented s then [0x7E] else []))

/-- GET_MESSAGE_TYPE_SUPPORT. -/
def execMctpGetMessageTypeSupport (s : State) : Host.Outcome State Fault Refusal :=
  .next (control (fun s => 0x00 :: BitVec.ofNat 8 (mctpTypes s).length :: mctpTypes s) s)

/-! ## I3C common commands (R566, R568, R569) -/

/-- The target takes a dynamic address and is an I3C target. -/
def takeAddress (addr : BitVec 7) (s : State) : State :=
  if mgtUp s && decide (addr ≠ 0) then
    let s := busMode true s
    { s with mgt.da := addr }
  else s

/-- ENTDAA (R566). -/
def execI3cEntdaa (addr : BitVec 7) (s : State) : Host.Outcome State Fault Refusal := .next (takeAddress addr s)

/-- SETDASA (R566): as ENTDAA, by the static address. -/
def execI3cSetdasa (addr : BitVec 7) (s : State) : Host.Outcome State Fault Refusal :=
  .next (if decide (addr = 0) then s else takeAddress addr s)

/-- RSTDAA (R566). -/
def execI3cRstdaa (s : State) : Host.Outcome State Fault Refusal :=
  .next (
    if mgtUp s then
      let s := busMode false s
      { s with mgt.da := 0 }
    else s)

/-- A common command that only an I3C target takes. -/
def inI3c (k : State → State) (s : State) : State := if mgtUp s && s.mgt.i3c then k s else s

/-- ENEC: the named target events are enabled. -/
def execI3cEnec (events : W8) (s : State) : Host.Outcome State Fault Refusal :=
  .next (inI3c (fun s => { s with mgt.events := s.mgt.events ||| events }) s)

/-- DISEC: the named target events are disabled. -/
def execI3cDisec (events : W8) (s : State) : Host.Outcome State Fault Refusal :=
  .next (inI3c (fun s => { s with mgt.events := s.mgt.events &&& ~~~events }) s)

/-- GETPID (R569): bits [31:0] are the Device Serial Number's; bits [47:32] are not given. -/
def execI3cGetpid (s : State) : Host.Outcome State Fault Refusal :=
  .next (inI3c (fun s =>
    emit (.ccc (((Config.freeBits 16 0).setWidth 64 <<< 32) ||| (s.fuses.dsn.setWidth 32).setWidth 64)) s) s)

/-- GETBCR: the value is not given. -/
def execI3cGetbcr (s : State) : Host.Outcome State Fault Refusal :=
  .next (inI3c (fun s => emit (.ccc ((draw 8 s).setWidth 64)) (drawn 1 s)) s)

/-- GETDCR: the value is not given. -/
def execI3cGetdcr (s : State) : Host.Outcome State Fault Refusal :=
  .next (inI3c (fun s => let v := draw 8 s; emit (.ccc (v.setWidth 64)) (drawn 1 s)) s)

/-- GETMRL (R568). -/
def execI3cGetmrl (s : State) : Host.Outcome State Fault Refusal :=
  .next (inI3c (fun s => emit (.ccc (s.mgt.mrl.setWidth 64)) s) s)

/-- GETMWL (R568). -/
def execI3cGetmwl (s : State) : Host.Outcome State Fault Refusal :=
  .next (inI3c (fun s => emit (.ccc (s.mgt.mwl.setWidth 64)) s) s)

/-- A transmission unit of I3C mode: 64 to 256 bytes (R568). -/
def unitInRange (v : W16) : Bool := decide (64 ≤ v.toNat ∧ v.toNat ≤ 256)

/-- SETMRL (R568). -/
def execI3cSetmrl (value : W16) (s : State) : Host.Outcome State Fault Refusal :=
  .next (inI3c (fun s => if unitInRange value then { s with mgt.mrl := value } else s) s)

/-- SETMWL (R568). -/
def execI3cSetmwl (value : W16) (s : State) : Host.Outcome State Fault Refusal :=
  .next (inI3c (fun s => if unitInRange value then { s with mgt.mwl := value } else s) s)

/-- GETSTATUS: the value is not given. -/
def execI3cGetstatus (s : State) : Host.Outcome State Fault Refusal :=
  .next (inI3c (fun s => emit (.ccc ((draw 16 s).setWidth 64)) (drawn 1 s)) s)

/-! ## NVMe-MI commands (R573, R585) -/

/-- The response of a command slot: 0 Success, 3 Invalid Command Opcode, 4 Invalid Parameter, 6 Invalid Command Input Data
Size, 2 Internal Error. -/
def miReply (slot : Nat) (status : W8) (b : Bytes) (s : State) : State := mgtRespond (.mi slot status b) s

/-- A command that Option Fault and Recovery refuse, and that needs no firmware. -/
def miPlain (slot : Nat) (k : State → State) (s : State) : State :=
  if !mgtUp s then s else if rcvPresented s then miReply slot 0x03 [] s else k s

/-- Ports: the PCIe ports of R275, then the path's. -/
def miPorts (s : State) : Nat := if bifurc s then 3 else 2

/-- Controllers that the path lists, by UNIT: none before firmware runs. -/
def miControllers (s : State) : List Nat := if firmwareUp s then (List.range 256).map (· + 1) else []

/-- Patches over 32 bytes of a standard structure. -/
def miStruct (seed : Nat) (l : List (Nat × Bytes)) : Bytes :=
  (l.foldl (fun b e => patch e.1 e.2 b) (padTo 32 (Config.standardBytes seed 0))).take 32

/-- Port Information. -/
def miPort (s : State) (p : Nat) : Option Bytes :=
  if miPorts s ≤ p then none
  else if p + 1 = miPorts s then
    some (miStruct 0x811 [(0, leBytes 1 2), (2, le16 (if s.mgt.i3c then s.mgt.mtu else 64)), (10, leBytes 1 s.mgt.addr.toNat)])
  else
    let x := portState s (if p = 0 then .p0 else .p1)
    some (miStruct 0x812 [(0, leBytes 1 1), (10, leBytes 1 x.rate.toNat), (12, leBytes 1 x.width)])

/-- Controller Information. -/
def miController (s : State) (u : Nat) : Option Bytes :=
  if u ∈ miControllers s then
    let f := funcOfUnit u
    some (miStruct 0x813 [(0, leBytes 1 (pfNum (portOf (bifurc s) f))), (6, le16 (routingId (bifurc s) f)), (8, le16 0x1E9C),
      (12, le16 (fieldOf 0 16 (identifyCtrl.subsystemOf s)).toNat),
      (14, le16 (fieldOf 16 16 (identifyCtrl.subsystemOf s)).toNat)])
  else none

/-- Data of Read NVMe-MI Data Structure. -/
def miStructure (s : State) (dtyp portId : W8) (ctrl : W16) : Option Bytes :=
  if dtyp = 0 then some (miStruct 0x810 [(0, leBytes 1 (miPorts s - 1)), (1, leBytes 1 1), (2, leBytes 1 2)])
  else if dtyp = 1 then miPort s portId.toNat
  else if dtyp = 2 then
    let l := (miControllers s).filter fun u => decide (ctrl.toNat ≤ u)
    some (le16 l.length ++ l.flatMap le16)
  else if dtyp = 3 then miController s ctrl.toNat
  else if dtyp = 4 then
    some (le16 miAdminOpcodes.length ++ miAdminOpcodes.flatMap fun o => leBytes 1 0x10 ++ leBytes 1 o)
  else none

/-- READ_NVME_MI_DATA_STRUCTURE (R573): answered in every mode (R585). -/
def execMiReadDataStructure (slot : Nat) (dtyp portId : W8) (ctrl : W16) (s : State) : Host.Outcome State Fault Refusal :=
  .next (
    if !mgtUp s then s
    else match miStructure s dtyp portId ctrl with
      | some b => miReply slot 0x00 b s
      | none => miReply slot 0x04 [] s)

/-- State of the array in the snapshot. -/
def snapArray (s : State) : Nat := (stateIn s.mgt.snap 0).getD 0

/-- NVM Subsystem Status: bit 5 Drive Functional, bit 4 Reset Not Required, bits 3 and 2 links of ports 0 and 1 up; bit 6,
which the model takes for "media not ready", in Array Offline (R585, log 65). -/
def miSubsystemStatus (s : State) : W8 :=
  (if rcvPresented s then 0 else 0x20) ||| 0x10 ||| (if s.port0.up then 0x08 else 0) ||| (if s.port1.up then 0x04 else 0)
    ||| (if snapArray s = 3 then 0x40 else 0)

/-- NVM_SUBSYSTEM_HEALTH_STATUS_POLL (R573, R585): from the snapshot, in every mode; temperature and life used are not
given. Clear Status clears the Health Status Change bits. -/
def execMiSubsystemHealthPoll (slot : Nat) (clear : Bool) (s : State) : Host.Outcome State Fault Refusal :=
  .next (
    if !mgtUp s then s
    else
      let b := leBytes 1 (miSubsystemStatus s).toNat ++ leBytes 1 s.mgt.snapWarn.toNat ++ leBytes 1 (draw 8 s).toNat
        ++ leBytes 1 (Config.freeBits 8 (s.free + 1)).toNat ++ le16 (fieldOf 0 16 s.mgt.hscSet).toNat ++ le16 0
      let s' := miReply slot 0x00 b (drawn 2 s)
      if clear then alertFollow (hscAlert s') { s' with mgt.hscSet := 0 } else s')

/-- One entry of Controller Health Status Poll: controller, status (bit 0 RDY, bit 1 CFS in Fatal) and critical warning;
the bytes between are not given (log 63). -/
def miHealthEntry (s : State) (e : UnitEntry) : Bytes :=
  le16 e.unit ++ le16 ((if e.flags / 2 % 2 = 1 then 1 else 0) + (if e.state = 4 then 2 else 0))
    ++ padTo 4 (Config.standardBytes 0x820 (s.free + e.unit))
    ++ leBytes 1 (if e.flags % 2 = 1 then s.mgt.snapWarn.toNat else 0) ++ leBytes 7 0

/-- Controllers in the snapshot from an ID on. -/
def snapControllers (s : State) (start : Nat) : List UnitEntry :=
  s.mgt.snap.filter fun e => decide (1 ≤ e.unit ∧ e.unit ≤ 256 ∧ e.state ≠ 0 ∧ start ≤ e.unit)

/-- CONTROLLER_HEALTH_STATUS_POLL (R573, R585): from the snapshot, up to 256 controllers. -/
def execMiControllerHealthPoll (slot : Nat) (start : W16) (maxEntries : Nat) (s : State) :
    Host.Outcome State Fault Refusal :=
  .next (miPlain slot (fun s =>
    let l := (snapControllers s start.toNat).take (min maxEntries 256)
    miReply slot 0x00 (leBytes 1 l.length ++ leBytes 3 0 ++ l.flatMap (miHealthEntry s)) (drawn 257 s)) s)

/-- SMBus/I2C frequencies by code (R568). -/
def freqOf (v : W32) : Option Nat :=
  if v = 1 then some 100 else if v = 2 then some 400 else if v = 3 then some 1000 else none

/-- Code of a frequency. -/
def freqCode (khz : Nat) : W32 := if khz = 1000 then 3 else if khz = 400 then 2 else 1

/-- A transmission unit the present bus mode allows (R573). -/
def mtuAllowed (s : State) (v : W32) : Bool :=
  decide (v = 64) || (s.mgt.i3c && decide (64 ≤ v.toNat ∧ v.toNat ≤ 256))

/-- Configuration Set: 1 SMBus/I2C Frequency; 2 Health Status Change, where bits [15:0] name the bits to clear and bits
[31:16] the bits enabled from now on (log 65); 3 MCTP Transmission Unit Size. -/
def configSet (slot : Nat) (id : W8) (v : W32) (s : State) : State :=
  if id = 1 then
    match freqOf v with
    | some k => miReply slot 0x00 [] { s with mgt.freqKhz := k }
    | none => miReply slot 0x04 [] s
  else if id = 2 then
    let s' := { s with mgt.hscSet := s.mgt.hscSet &&& ~~~(v &&& 0xFFFF), mgt.hscEnable := v >>> 16 }
    miReply slot 0x00 [] (alertFollow (hscAlert s) s')
  else if id = 3 then
    if mtuAllowed s v then miReply slot 0x00 [] { s with mgt.mtu := v.toNat } else miReply slot 0x04 [] s
  else miReply slot 0x04 [] s

/-- CONFIGURATION_SET (R573). -/
def execMiConfigurationSet (slot : Nat) (cfgId : W8) (value : W32) (s : State) : Host.Outcome State Fault Refusal :=
  .next (miPlain slot (configSet slot cfgId value) s)

/-- Value of a configuration item. -/
def configValue (s : State) (id : W8) : Option W32 :=
  if id = 1 then some (freqCode s.mgt.freqKhz)
  else if id = 2 then some ((s.mgt.hscEnable <<< 16) ||| (s.mgt.hscSet &&& 0xFFFF))
  else if id = 3 then some (BitVec.ofNat 32 s.mgt.mtu)
  else none

/-- CONFIGURATION_GET (R573). -/
def execMiConfigurationGet (slot : Nat) (cfgId : W8) (s : State) : Host.Outcome State Fault Refusal :=
  .next (miPlain slot (fun s => match configValue s cfgId with
    | some v => miReply slot 0x00 (le32 v.toNat) s
    | none => miReply slot 0x04 [] s) s)

/-! ## VPD (R578, R579) and Reset -/

/-- VPD Read: a range beyond byte 1,023 is refused as a write's is (log 67). -/
def vpdRead (slot off len : Nat) (s : State) : State :=
  if len = 0 then miReply slot 0x00 [] s
  else if 1024 < off + len then miReply slot 0x04 [] s
  else miReply slot 0x00 (slice (vpdBytes s) off len) s

/-- VPD_READ. -/
def execVpdRead (slot : Nat) (dofst dlen : W16) (s : State) : Host.Outcome State Fault Refusal :=
  .next (mgtRequest (.vpdRead slot dofst dlen) slot (miReply slot 0x03 []) (vpdRead slot dofst.toNat dlen.toNat) s)

/-- VPD Write: the owner lock first, then the range, then the no-op; `stored` is whether the new copy commits. -/
def vpdWrite (slot off len : Nat) (data : Bytes) (stored : Bool) (s : State) : State :=
  if ownerLocked s then miReply slot 0x04 [] s
  else if 1024 < off + len then miReply slot 0x04 [] s
  else if len = 0 then miReply slot 0x00 [] s
  else if data.length ≠ len then miReply slot 0x06 [] s
  else
    let ok := stored && canStore .vpd s
    miReply slot (if ok then 0x00 else 0x02) [] (storeRecord (.vpd (patch off data (vpdBytes s))) ok s)

/-- VPD_WRITE. -/
def execVpdWrite (slot : Nat) (dofst dlen : W16) (data : Bytes) (stored : Bool) (s : State) :
    Host.Outcome State Fault Refusal :=
  .next (mgtRequest (.vpdWrite slot dofst dlen data stored) slot (miReply slot 0x03 [])
    (vpdWrite slot dofst.toNat dlen.toNat data stored) s)

/-- MI_RESET: the response, then the Subsystem reset (R19, R573). -/
def execMiReset (slot : Nat) (s : State) : Host.Outcome State Fault Refusal :=
  .next (mgtRequest (.reset slot) slot (miReply slot 0x03 [])
    (fun s => subsystemResetOf (miReply slot 0x00 [] s)) s)

end Sys2Proof.Machine
end

