-- ==== Sys2Proof/Machine/Registers.lean ====
section
/-! DEFINITION. The set-up block: register writes by access code and the event source registers
(R598 to R612, R618, and the register tables of the other chapters). A command stands for an access that reached the
block (log 70). -/
namespace Sys2Proof.Machine

/-! ## Event sources (R608 to R612) -/

/-- A word with only the bits of listed sources (R608). -/
def evsMask (k : Nat) : W32 :=
  (List.range 32).foldl (fun m b => if evsListed (32 * k + b) then m ||| ((1 : W32) <<< b) else m) 0

/-- A 4,096-bit array with word `k` replaced. -/
def withWord (a : BitVec 4096) (k : Nat) (v : W32) : BitVec 4096 :=
  (a &&& ~~~((0xFFFFFFFF : BitVec 4096) <<< (32 * k))) ||| ((v.setWidth 4096) <<< (32 * k))

/-- MESSAGES counts an MSI-X or MSI message (R618). -/
def noteMessage (pf : Pf) (s : State) : State :=
  setEvs pf { evsOf s pf with messages := satAdd (evsOf s pf).messages 1 } s

/-- A message for VECTOR leaves at once, neither masked nor above the assigned count (R294, R295, R297). -/
def vectorOpen (s : State) (f : Func) (v : Nat) : Bool :=
  let x := fnOf s f
  x.cfg.bme && (match intMode s f with
    | .msix => decide (v < viCount s f) && !x.cfg.msixMask && x.unmasked.contains v
    | .msi => !(x.cfg.msiMask.getLsbD (min v (2 ^ x.cfg.msiMme - 1)))
    | _ => false)

/-- The PF is told of its event summary, in its mode and, with AEN_EN, through an asynchronous event (R611, R612). -/
def evsSignal (pf : Pf) (s : State) : State :=
  let f : Func := ⟨pf, 0⟩
  let e := evsOf s pf
  let s := if e.vecEn then
      let s := if vectorOpen s f e.vector.toNat then noteMessage pf s else s
      signalVector f e.vector.toNat s
    else s
  if e.aenEn then asyncEvent f ⟨7, 0, 0xC6⟩ s else s

/-- The summary bits follow the arrays; a rise signals (R610, R611). -/
def evsFollow (pf : Pf) (s : State) : State :=
  let old := (evsOf s pf).sum
  let new := evsSummary (evsOf s pf)
  let s := setEvs pf { evsOf s pf with sum := new } s
  intxFollow ⟨pf, 0⟩ (if old = 0 ∧ new ≠ 0 then evsSignal pf s else s)

/-- EVS_SUMMARY_SIGNAL: the FAB clock after a change of a pending or enable bit (R610, R611). -/
def execEvsSummarySignal (pf : Pf) (s : State) : Host.Outcome State Fault Refusal :=
  .next (if running s then evsFollow pf s else s)

/-- A write of TZ_EVS_PENDk: RW1C (R601, R618). -/
def writePend (pf : Pf) (k : Nat) (v : W32) (s : State) : State :=
  let e := evsOf s pf
  setEvs pf { e with pend := withWord e.pend k (evsWord e.pend k &&& ~~~v) } s

/-- EVS_PENDING_WRITE. -/
def execEvsPendingWrite (pf : Pf) (k : BitVec 7) (value : W32) (s : State) : Host.Outcome State Fault Refusal :=
  .next (if running s then writePend pf k.toNat value s else s)

/-- A write of TZ_EVS_ENk: the bits of listed sources (R608, R618). -/
def writeEnable (pf : Pf) (k : Nat) (v : W32) (s : State) : State :=
  let e := evsOf s pf
  setEvs pf { e with en := withWord e.en k (v &&& evsMask k) } s

/-- EVS_ENABLE_WRITE. -/
def execEvsEnableWrite (pf : Pf) (k : BitVec 7) (value : W32) (s : State) : Host.Outcome State Fault Refusal :=
  .next (if running s then writeEnable pf k.toNat value s else s)

/-- A write of TZ_EVS_CTRL; REARM signals again while the summary is 1, with VEC_EN and AEN_EN as this write sets them
(R611, log 71). -/
def writeEvsCtrl (pf : Pf) (v : W32) (s : State) : State :=
  let s := setEvs pf { evsOf s pf with
    vector := fieldOf 0 11 v, vecEn := v.getLsbD 11, aenEn := v.getLsbD 12 } s
  let s := if v.getLsbD 31 && decide ((evsOf s pf).sum ≠ 0) then evsSignal pf s else s
  intxFollow ⟨pf, 0⟩ s

/-- REARM: a write of TZ_EVS_CTRL. -/
def execEvsRearm (pf : Pf) (value : W32) (s : State) : Host.Outcome State Fault Refusal :=
  .next (if running s then writeEvsCtrl pf value s else s)

/-! ## Register writes by offset (R598, R601, R605, R607) -/

/-- TZ_PKG_PWR (R87): the latched bits are cleared by writing 1, PWRFAIL_COUNT is loaded. -/
def writePkg (o : Nat) (v : W32) (s : State) : State :=
  if o = 0x404 then
    { s with pwr.armrefLost := s.pwr.armrefLost && !v.getLsbD 8, pwr.xt32Lost := s.pwr.xt32Lost && !v.getLsbD 9,
             pwr.holdShort := s.pwr.holdShort && !v.getLsbD 10, pwr.pwrfailCount := fieldOf 16 16 v }
  else s

/-- TZ_TRU_RNG and TZ_TRU_KS_ (R217). A KS_CMD write keeps SLOT and OP whatever they hold; GO starts OP. -/
def writeTru (pf : Pf) (o : Nat) (v : W32) (s : State) : State :=
  if o = 0x504 then
    { s with trust.healthFail := s.trust.healthFail && !v.getLsbD 0, trust.unavailSeen := s.trust.unavailSeen && !v.getLsbD 1,
             trust.reseedFails := fieldOf 8 8 v, trust.healthEvents := fieldOf 16 16 v }
  else if o = 0x510 then
    if v.getLsbD 31 then ksGo pf (fieldOf 0 11 v) (fieldOf 11 3 v) s
    else setKs pf { ksOf s pf with slot := fieldOf 0 11 v, op := fieldOf 11 3 v } s
  else if o = 0x514 then setKs pf { ksOf s pf with overrun := (ksOf s pf).overrun && !v.getLsbD 4 } s
  else s

/-- TZ_EVR_STATUS (R249) and the TZ_PCI_ registers (R312). -/
def writePci (o : Nat) (v : W32) (s : State) : State :=
  if o = 0x600 then
    { s with evr.overflowWarn := s.evr.overflowWarn && !v.getLsbD 0, evr.tornSeen := s.evr.tornSeen && !v.getLsbD 2,
             evr.dropped := fieldOf 16 16 v }
  else if o = 0x700 then { s with port0.retrains := fieldOf 16 8 v }
  else if o = 0x704 then { s with port1.retrains := fieldOf 16 8 v }
  else if o = 0x708 then
    let ms : BitVec 12 := fieldOf 0 12 v
    if 1 ≤ ms.toNat ∧ ms.toNat ≤ 4000 then
      { s with ctoMs := ms, ctoBad := s.ctoBad && !v.getLsbD 12, ctoOverride := v.getLsbD 31 }
    else { s with ctoBad := true }
  else if o = 0x70C then { s with bmlCount := fieldOf 16 16 v }
  else if o = 0x714 then { s with timeouts := fieldOf 0 16 v, unexpected := fieldOf 16 16 v }
  else s

/-- TZ_NVM_ (R353). -/
def writeNvm (pf : Pf) (o : Nat) (v : W32) (s : State) : State :=
  if o = 0x808 then { s with nvm.stalls := v }
  else if o = 0x80C then writeKsplit pf v s
  else if o = 0x814 then { s with nvm.conflicts := fieldOf 0 16 v }
  else if o = 0x818 then { s with nvm.wakes := fieldOf 16 16 v }
  else s

/-- TZ_FCH_: 24 channels of 16 bytes, then the policy and the suspend counts (R389). -/
def writeFch (o : Nat) (v : W32) (s : State) : State :=
  if o = 0xA80 then
    let m := (fieldOf 0 3 v).toNat
    let dt := (fieldOf 3 6 v).toNat
    if 1 ≤ m ∧ 5 ≤ dt ∧ dt ≤ 40 then
      { s with flash.maxMode := m, flash.retrainDt := dt, flash.badWrite := s.flash.badWrite && !v.getLsbD 9 }
    else { s with flash.badWrite := true }
  else if o = 0xA84 then { s with flash.suspends := fieldOf 0 16 v, flash.capHits := fieldOf 16 16 v }
  else if 0x900 ≤ o ∧ o < 0xA80 then
    let ch := (o - 0x900) / 16
    if o % 16 = 4 then
      setChan ch { chanOf s ch with retrains := fieldOf 0 8 v, trainFails := fieldOf 8 8 v, degraded := fieldOf 16 16 v } s
    else if o % 16 = 8 then writeRetrain ch v s
    else s
  else s

/-- TZ_FTL_ (R433) and TZ_PAR_ (R458). -/
def writeFtl (o : Nat) (v : W32) (s : State) : State :=
  if o = 0xB00 then policyWrite .slc v s
  else if o = 0xB04 then { s with ftl.direct := fieldOf 16 16 v }
  else if o = 0xB08 then policyWrite .wl v s
  else if o = 0xB0C then { s with ftl.moves := fieldOf 16 16 v }
  else if o = 0xB14 then { s with ftl.refreshDropped := fieldOf 16 16 v }
  else if o = 0xB18 then { s with ftl.staleCopies := fieldOf 16 16 v }
  else if o = 0xC00 then
    markDelta { s with tab.offlineSeen := s.tab.offlineSeen && !v.getLsbD 4, tab.failureEvents := fieldOf 16 16 v }
  else if o = 0xC08 then
    let sh := (fieldOf 0 3 v).toNat
    if 1 ≤ sh ∧ sh ≤ 4 then { s with ftl.rebuildShare := sh, ftl.parBad := s.ftl.parBad && !v.getLsbD 3 }
    else { s with ftl.parBad := true }
  else if o = 0xC0C then { s with ftl.degraded := v }
  else if o = 0xC10 then { s with ftl.journalWaits := fieldOf 16 16 v }
  else s

/-- One word of the staging area replaced. -/
def stageWord (o : Nat) (v : W32) (b : Bytes) : Bytes := b.take o ++ leBytes 4 v.toNat ++ b.drop (o + 4)

/-- TZ_ARM_ (R496) and TZ_HOLD_ (R532). Whether the copy of a COMMIT is stored is a free value here; CFG_STAGE_COMMIT
carries it. -/
def writeHold (o : Nat) (v : W32) (s : State) : State :=
  if o = 0xD04 then { s with arm.slips := fieldOf 16 16 v }
  else if o = 0xD1C then
    { s with arm.sensorFault := s.arm.sensorFault &&& ~~~(fieldOf 0 8 v), arm.injDone := s.arm.injDone &&& ~~~(fieldOf 8 8 v),
             arm.injAborted := s.arm.injAborted &&& ~~~(fieldOf 16 8 v) }
  else if o = 0xE00 then
    { s with hold.bankFault := s.hold.bankFault && !v.getLsbD 8, hold.measSkipped := fieldOf 16 16 v }
  else if o = 0xE10 then { s with hold.wtWrites := v }
  else if o = 0xE18 then { s with hold.ckptFails := fieldOf 16 16 v }
  else if o = 0xE1C then policyWrite .hold v s
  else if o = 0xE24 then
    if v.getLsbD 0 then cfgStageCommit (decide (draw 1 s = 1)) (drawn 1 s) else s
  else if 0xE80 ≤ o ∧ o < 0xF00 then { s with hold.stage := stageWord (o - 0xE80) v s.hold.stage }
  else s

/-- TZ_KSC_CTRL (R597): refused whole with ARM_DIV 0 or SNAP_MS outside 1 to 1,000. -/
def writeKscCtrl (v : W32) (s : State) : State :=
  let div := (fieldOf 9 8 v).toNat
  let ms := (fieldOf 17 10 v).toNat
  if div = 0 ∨ ms = 0 ∨ 1000 < ms then { s with ksc.badWrite := true }
  else
    let bad := s.ksc.badWrite && !v.getLsbD 27
    let s := { s with ksc.cls := fieldOf 1 5 v, ksc.armSlot := fieldOf 6 3 v, ksc.armDiv := div, ksc.snapMs := ms }
    let s := setKscEnable (v.getLsbD 0) { s with ksc.badWrite := bad }
    if v.getLsbD 28 then takeSnap s else s

/-- TZ_MQT_ (R565), TZ_MGT_ (R587) and TZ_KSC_ (R597). -/
def writeMgt (o : Nat) (v : W32) (s : State) : State :=
  if o = 0xF04 then { s with mqt.digestFails := fieldOf 0 16 v, mqt.frozenWrites := fieldOf 16 16 v }
  else if o = 0x1008 then { s with mgt.mismatches := fieldOf 16 16 v }
  else if o = 0x100C then { s with mgt.pecErrors := fieldOf 0 16 v, mgt.droppedMsgs := fieldOf 16 16 v }
  else if o = 0x1100 then writeKscCtrl v s
  else if o = 0x1108 then { s with ksc.lost := v }
  else s

/-- TZ_EVS_ of the PF (R618). -/
def writeEvs (pf : Pf) (o : Nat) (v : W32) (s : State) : State :=
  if o < 0x2200 then writePend pf ((o - 0x2000) / 4) v s
  else if o < 0x2400 then writeEnable pf ((o - 0x2200) / 4) v s
  else if o = 0x2410 then writeEvsCtrl pf v s
  else if o = 0x2414 then setEvs pf { evsOf s pf with messages := fieldOf 0 16 v, aens := fieldOf 16 16 v } s
  else s

/-- A 32-bit write at an offset from 0x0100_0000. Registers with no writable field, and offsets not named, ignore it
(R606, R607). -/
def writeReg (pf : Pf) (o : Nat) (v : W32) (s : State) : State :=
  if o < 0x500 then writePkg o v s
  else if o < 0x600 then writeTru pf o v s
  else if o < 0x800 then writePci o v s
  else if o < 0x900 then writeNvm pf o v s
  else if o < 0xB00 then writeFch o v s
  else if o < 0xD00 then writeFtl o v s
  else if o < 0xF00 then writeHold o v s
  else if o < 0x2000 then writeMgt o v s
  else if o < 0x2418 then writeEvs pf o v s
  else s

end Sys2Proof.Machine
end

