-- ==== Sys2Proof/Machine/RegRead.lean ====
section
/-! DEFINITION. Reads of a PF's BAR0: the set-up block, every register of it, the upper-word latches, and the NVMe properties
before it (R13, R14, R87, R138 to R140, R174, R217, R249, R273, R289, R312, R319, R353, R389, R433, R458, R496, R532, R565,
R587, R597 to R607, R616 to R618). Reserved bits and write-only fields read 0 (R13, R14). A field that shows a time is a free
value (log 38). -/
namespace Sys2Proof.Machine

/-- A number as a field of `w` bits, saturating. -/
def num (w n : Nat) : BitVec w := BitVec.ofNat w (min n (2 ^ w - 1))

/-- Bits of a word by a condition on their number. -/
def bits32 (n : Nat) (p : Nat → Bool) : W32 :=
  (List.range n).foldl (fun m i => if p i then m ||| ((1 : W32) <<< i) else m) 0

/-- A value that the restart reads in; before that its register shows 0 (R616). -/
def restored (s : State) (v : Nat) : Nat := if s.hold.restarted then v else 0

/-- A flag that the restart reads in. -/
def restoredFlag (s : State) (b : Bool) : Bool := s.hold.restarted && b

/-- A time that is left, at most `n`: a free value (log 38). -/
def timeLeft (s : State) (n : Nat) : BitVec 16 := BitVec.ofNat 16 ((draw 16 s).toNat % (n + 1))

/-! ## Part, package, boot, Image Array (R86 to R88, R138 to R140, R174, R617) -/

/-- TZ_ID_ but for the uptime. -/
def readId (s : State) (o : Nat) : W32 :=
  if o = 0x00 then at32 0 (0x2400 : BitVec 16) ||| at32 16 (0x10 : BitVec 8) ||| bit32 24 s.fuses.grade
  else if o = 0x04 then s.boot.imageVersion.setWidth 32
  else if o = 0x08 then (s.boot.imageVersion >>> 32).setWidth 32
  else if o = 0x0C then at32 0 (num 7 s.boot.svn.toNat) ||| at32 8 (num 7 (svnMin s))
  else 0

/-- TZ_PKG_. -/
def readPkg (s : State) (o : Nat) : W32 :=
  if o = 0x400 then strapWord s.pwr.straps
  else if o = 0x404 then
    bit32 0 s.pwr.pwrfailLvl ||| bit32 1 s.pwr.vauxOk ||| bit32 2 s.pwr.xt32Ok ||| bit32 3 s.pwr.armrefOk
      ||| bit32 8 s.pwr.armrefLost ||| bit32 9 s.pwr.xt32Lost ||| bit32 10 s.pwr.holdShort ||| at32 16 s.pwr.pwrfailCount
  else if o = 0x408 then at32 0 s.pwr.lastStop ||| at32 16 s.pwr.flushMs
  else 0

/-- TZ_BOOT_; REMAINING_S counts down from the trial's window while the watchdog is armed. -/
def readBoot (s : State) (o : Nat) : W32 :=
  if o = 0x410 then bootStatus s
  else if o = 0x414 then
    bit32 0 s.boot.armed ||| bit32 1 s.boot.confirmed
      ||| (if s.boot.armed then at32 16 (timeLeft s s.boot.remainingS.toNat) else 0)
  else if o = 0x418 then s.boot.handoffUs
  else 0

/-- Sector of the interrupted operation that TZ_IA_FACTORY shows: bank 0's word while it holds one. -/
def intSector (s : State) : Option Nat :=
  match s.nor.bank0.intr with
  | some n => some n
  | none => s.nor.bank1.intr

/-- TZ_IA_. -/
def readIa (s : State) (o : Nat) : W32 :=
  if o = 0x420 then s.nor.writeGen.setWidth 32
  else if o = 0x424 then (s.nor.writeGen >>> 32).setWidth 32
  else if o = 0x428 then
    at32 0 (num 8 s.nor.bank0.spare) ||| at32 8 (num 8 s.nor.bank1.spare) ||| at32 16 (num 8 s.nor.bank0.grown)
      ||| at32 24 (num 8 s.nor.bank1.grown)
  else if o = 0x42C then
    at32 0 (num 8 s.nor.bank0.factory) ||| at32 8 (num 8 s.nor.bank1.factory) ||| at32 16 (num 10 ((intSector s).getD 0))
      ||| bit32 26 (intSector s).isSome ||| bit32 27 (s.nor.bank0.intr.isSome && s.nor.bank1.intr.isSome)
  else 0

/-! ## Update, trust, event recorder (R217, R249, R273) -/

/-- HOLDER. -/
def holderCode : Option Requester → Nat
  | none => 0
  | some .pf0 => 1
  | some .pf1 => 2
  | some .mgt => 3

/-- TZ_UPD_: SLOT is 0 while no session is open; CHUNKS counts whole 64 KiB units (log 23). -/
def readUpd (s : State) (o : Nat) : W32 :=
  if o = 0x440 then at32 0 s.upd.blockers
  else if o = 0x444 then
    at32 0 (num 2 (holderCode s.upd.holder)) ||| at32 2 (num 2 ((s.upd.slot.map nvmeSlot).getD 0))
      ||| at32 16 (num 16 (s.upd.written.length / 16))
  else 0

/-- RNG_STATE. -/
def rngCode : RngState → Nat
  | .healthy => 0
  | .stalled => 1
  | .unavailable => 2
  | .starting => 3

/-- TZ_TRU_; TZ_TRU_KS_ is the reading PF's. -/
def readTru (s : State) (pf : Pf) (o : Nat) : W32 :=
  if o = 0x500 then
    bit32 0 s.trust.ladderLocked ||| at32 1 (num 2 (ownerState s)) ||| bit32 3 (ownerKscOff s)
      ||| at32 4 (num 2 (rngCode s.trust.rng)) ||| at32 8 (num 3 (spdmSessions s))
  else if o = 0x504 then
    bit32 0 s.trust.healthFail ||| bit32 1 s.trust.unavailSeen ||| at32 8 s.trust.reseedFails
      ||| at32 16 s.trust.healthEvents
  else if o = 0x508 then ownerEpoch s
  else if o = 0x510 then at32 0 (ksOf s pf).slot ||| at32 11 (ksOf s pf).op
  else if o = 0x514 then bit32 0 (ksOf s pf).busy ||| at32 1 (ksOf s pf).result ||| bit32 4 (ksOf s pf).overrun
  else if o = 0x518 then num 32 (restored s (keySlot s (ksOf s pf).slot.toNat).gen.toNat)
  else if o = 0x51C then
    at32 0 (num 12 (restored s (s.tab.keys.filter fun e => e.2.key.isSome).length))
      ||| at32 12 (num 12 (restored s (s.tab.keys.filter fun e => e.2.old.isSome).length))
  else 0

/-- TZ_EVR_. -/
def readEvr (s : State) (o : Nat) : W32 :=
  if o = 0x600 then
    bit32 0 s.evr.overflowWarn ||| bit32 1 s.evr.signed ||| bit32 2 s.evr.tornSeen ||| at32 16 s.evr.dropped
  else if o = 0x604 then s.evr.boot.newestSeq
  else if o = 0x608 then s.evr.boot.ackedSeq
  else if o = 0x60C then s.evr.gen.newestSeq
  else if o = 0x610 then at32 0 (num 9 s.evr.gen.queue.length)
  else 0

/-! ## Endpoint and queues (R312, R353) -/

/-- TZ_PCI_LINK of a port. -/
def readLink (s : State) (p : Pf) : W32 :=
  let x := if p = .p0 then s.port0 else s.port1
  let sel := (List.range 4).filter fun i => decide (Sparse.read IdeState.insecure (ideOf s p).streams (i + 1) = .secure)
  at32 0 (if x.up then x.rate else 0) ||| at32 3 (num 5 (if x.up then x.width else 0)) ||| bit32 8 (x.up && x.flit)
    ||| bit32 9 x.l0p ||| bit32 10 (decide (Sparse.read IdeState.insecure (ideOf s p).streams 0 = .secure))
    ||| at32 11 (num 3 sel.length) ||| at32 16 x.retrains

/-- TZ_PCI_. -/
def readPci (s : State) (o : Nat) : W32 :=
  if o = 0x700 then readLink s .p0
  else if o = 0x704 then readLink s .p1
  else if o = 0x708 then at32 0 s.ctoMs ||| bit32 12 s.ctoBad ||| bit32 31 s.ctoOverride
  else if o = 0x70C then at32 0 s.bmlRid ||| bit32 8 s.bmlPort ||| at32 16 s.bmlCount
  else if o = 0x710 then at32 0 (num 13 (atsShare s)) ||| at32 13 (num 9 (atsEnabled s))
  else if o = 0x714 then at32 0 s.timeouts ||| at32 16 s.unexpected
  else 0

/-- Submission queues in Parked state. -/
def parkedQueues (s : State) : Nat :=
  listSum ((listedFns s).map fun e => (e.2.ctrl.sqs.filter fun q => decide (q.watch = .parked)).length)

/-- TZ_NVM_. -/
def readNvm (s : State) (o : Nat) : W32 :=
  if o = 0x800 then at32 0 (num 17 (inflightTotal s))
  else if o = 0x804 then at32 0 (num 17 (poolFree s))
  else if o = 0x808 then s.nvm.stalls
  else if o = 0x80C then
    at32 0 (num 12 (restored s s.tab.ksplit)) ||| bit32 12 s.nvm.ksplitBad ||| bit32 31 (restoredFlag s (ksplitLocked s))
  else if o = 0x810 then s.nvm.ustGen
  else if o = 0x814 then at32 0 s.nvm.conflicts
  else if o = 0x818 then at32 0 (num 13 (parkedQueues s)) ||| at32 16 s.nvm.wakes
  else 0

/-- NVMe properties of a PF's controller, with the layouts of NVMe Base 2.1 (PRESUMED, log 39): CAP with the values of R319,
VS, the interrupt mask, CC, CSTS and AQA. -/
def readNvme (s : State) (pf : Pf) (o : Nat) : W32 :=
  let c := (fnOf s ⟨pf, 0⟩).ctrl
  let size (q : Option Nat) : BitVec 12 := num 12 (q.getD 1 - 1)
  if o = 0x00 then 0x3C03FFFF
  else if o = 0x04 then 0x00400030
  else if o = 0x08 then 0x00020100
  else if o = 0x0C ∨ o = 0x10 then c.intms
  else if o = 0x14 then c.cc
  else if o = 0x1C then bit32 0 c.rdy ||| bit32 1 c.cfs ||| at32 2 c.shst
  else if o = 0x24 then
    at32 0 (size ((c.sqs.find? fun q => decide (q.qid = 0)).map (·.size)))
      ||| at32 16 (size ((c.cqs.find? fun q => decide (q.qid = 0)).map (·.size)))
  else 0

/-! ## Flash, translation, parity (R389, R433, R458) -/

/-- STATE of a channel. -/
def chanCode : ChanState → Nat
  | .unpopulated => 0
  | .training => 1
  | .online => 2
  | .retraining => 3
  | .failed => 4

/-- TZ_FCH_. -/
def readFch (s : State) (o : Nat) : W32 :=
  if o = 0xA80 then at32 0 (num 3 s.flash.maxMode) ||| at32 3 (num 6 s.flash.retrainDt) ||| bit32 9 s.flash.badWrite
  else if o = 0xA84 then at32 0 s.flash.suspends ||| at32 16 s.flash.capHits
  else if 0x900 ≤ o ∧ o < 0xA80 then
    let ch := (o - 0x900) / 16
    let x := chanOf s ch
    if o % 16 = 0 then
      at32 0 (num 3 x.mode) ||| bit32 3 x.dllLock ||| at32 4 (num 3 (chanCode x.state)) ||| at32 8 (num 5 x.accepted.length)
        ||| (bits32 16 fun d => decide ((dieOf s (16 * ch + d)).state = .online)) <<< 16
    else if o % 16 = 4 then at32 0 x.retrains ||| at32 8 x.trainFails ||| at32 16 x.degraded
    else if o % 16 = 8 then bit32 1 x.pending ||| bit32 2 x.forced ||| at32 16 x.lastUs
    else 0
  else 0

/-- Lowest SPARE_g / NATIVE_g in 0.01 %, rounded down, with its group; the lower group where two are equal (log 152). -/
def worstSpare (s : State) : Nat × Nat :=
  let share (g : Nat) : Nat := (spareOf s g).toNat * 10000 / max 1 (grpOf s g).native
  match groupsInUse s with
  | [] => (0, 0)
  | g :: r => r.foldl (fun a h => if share h < a.1 then (share h, h) else a) (share g, g)

/-- Fewest free bands in any group in use. -/
def fewestFree (s : State) : Nat :=
  match (groupsInUse s).map (freeBands s) with
  | [] => 0
  | n :: r => listMin n r

/-- TZ_FTL_. -/
def readFtlReg (s : State) (o : Nat) : W32 :=
  if o = 0xB00 then
    at32 0 (num 4 s.ftl.pct) ||| at32 4 (num 7 s.ftl.foldHi) ||| at32 11 (num 7 s.ftl.foldLo) ||| bit32 18 s.ftl.slcBad
  else if o = 0xB04 then at32 0 (num 8 (restored s (slcOccupancy s))) ||| at32 16 s.ftl.direct
  else if o = 0xB08 then at32 0 (num 11 s.ftl.spread) ||| bit32 11 s.ftl.wlBad
  else if o = 0xB0C then at32 0 (num 16 (restored s (listMax (s.tab.dies.map fun e => spreadOf e.2)))) ||| at32 16 s.ftl.moves
  else if o = 0xB10 then
    at32 0 (num 14 (restored s (worstSpare s).1)) ||| at32 14 (num 4 (restored s (worstSpare s).2))
      ||| bit32 18 (restoredFlag s s.tab.readOnly)
  else if o = 0xB14 then at32 0 (num 13 s.ftl.refresh.length) ||| at32 16 s.ftl.refreshDropped
  else if o = 0xB18 then
    at32 0 (num 13 (restored s (fewestFree s)))
      ||| bit32 13 (restoredFlag s ((groupsInUse s).any fun g => decide (freeBands s g < 4))) ||| at32 16 s.ftl.staleCopies
  else if o = 0xB1C then
    num 32 (restored s (s.tab.map.filter fun e => !isSpecial e.2 && e.2.getLsbD 38).length)
  else if o = 0xB20 then at32 0 (num 15 (restored s ((cap4k s + 2 ^ 30 - 1) / 2 ^ 30)))
  else 0

/-- The group being rebuilt: the lowest one that is Rebuilding. -/
def rebuildGroup (s : State) : Option Nat := (List.range 16).find? fun g => decide ((grpOf s g).state = .rebuilding)

/-- TZ_PAR_. -/
def readPar (s : State) (o : Nat) : W32 :=
  if o = 0xC00 then
    at32 0 (num 2 (restored s (arrayState s))) ||| bit32 2 (restoredFlag s (anyRebuilding s)) ||| bit32 3 s.ftl.resync
      ||| bit32 4 (restoredFlag s s.tab.offlineSeen) ||| at32 5 (num 4 (restored s ((rebuildGroup s).getD 0)))
      ||| at32 16 (num 16 (restored s s.tab.failureEvents.toNat))
  else if o = 0xC04 then
    match rebuildGroup s with
    | some g => at32 0 (num 13 (restored s (grpOf s g).left)) ||| at32 16 (num 13 (restored s (grpOf s g).total))
    | none => 0
  else if o = 0xC08 then at32 0 (num 3 s.ftl.rebuildShare) ||| bit32 3 s.ftl.parBad
  else if o = 0xC0C then s.ftl.degraded
  else if o = 0xC10 then at32 0 (num 11 (journalEntries s)) ||| at32 16 s.ftl.journalWaits
  else 0

/-! ## Armature and hold-up (R496, R532) -/

/-- THROTTLE is read in from the record, but for a Fundamental reset, which keeps it (R495). -/
def shownThrottle (s : State) : Nat :=
  if s.hold.restarted ∨ s.pwr.kind = .fundamental ∨ s.pwr.kind = .internalFundamental then s.arm.throttle else 0

/-- TZ_ARM_; the windows' REMAINING_S counts down. -/
def readArm (s : State) (o : Nat) : W32 :=
  if o = 0xD00 then
    bits32 8 (fun i => decide ((slotOf s i).cfg.points = 33))
      ||| (bits32 8 fun i => decide ((slotOf s i).mode = .trace)) <<< 8
      ||| (bits32 8 fun i => decide ((slotOf s i).mode = .inject)) <<< 16
      ||| bit32 24 s.arm.throttled ||| bit32 25 s.arm.heldLimit.isSome
  else if o = 0xD04 then at32 0 s.arm.fallback ||| at32 16 s.arm.slips
  else if o = 0xD08 then
    at32 0 s.arm.windows ||| (if s.arm.windows = 0 then 0 else at32 20 (num 12 (timeLeft s s.arm.remaining).toNat))
  else if o = 0xD0C then
    at32 0 (num 11 (shownThrottle s)) ||| at32 11 ((tjSigned s).setWidth 12) ||| at32 23 (num 6 s.nvm.watts)
  else if o = 0xD10 then reg32 s.arm.eAvail
  else if o = 0xD14 then num 32 (limitMib s)
  else if o = 0xD18 then at32 0 (num 24 s.arm.rate)
  else if o = 0xD1C then at32 0 s.arm.sensorFault ||| at32 8 s.arm.injDone ||| at32 16 s.arm.injAborted
  else 0

/-- CHG_STATE. -/
def chgCode : ChgState → Nat
  | .off => 0
  | .charging => 1
  | .holding => 2
  | .measuring => 3
  | .flush => 4
  | .noBank => 5
  | .fault => 6

/-- TZ_HOLD_; CAP_10UF is rounded down (log 152). -/
def readHold (s : State) (o : Nat) : W32 :=
  if o = 0xE00 then
    at32 0 (num 3 (chgCode s.hold.chg)) ||| bit32 3 (decide (limitMib s = 0)) ||| bit32 4 s.hold.restartDone
      ||| bit32 5 s.hold.ckptRun.isSome ||| bit32 6 s.hold.dump.isSome ||| bit32 7 s.hold.cfgValid ||| bit32 8 s.hold.bankFault
      ||| at32 16 s.hold.measSkipped
  else if o = 0xE04 then
    at32 0 (num 16 s.arm.meas.vhold.toNat) ||| at32 16 (num 16 (restored s (capInUse s / 10)))
  else if o = 0xE08 then num 32 (dirtyMib s)
  else if o = 0xE0C then num 32 (restored s s.hold.dumpCapMib)
  else if o = 0xE10 then s.hold.wtWrites
  else if o = 0xE14 then num 32 (restored s ((s.hold.ckpts.head?.map (·.epoch.toNat)).getD 0))
  else if o = 0xE18 then at32 0 (num 16 (restored s s.hold.segments.toNat)) ||| at32 16 s.hold.ckptFails
  else if o = 0xE1C then
    at32 0 (num 12 s.hold.ckptInterval) ||| at32 12 (num 8 s.hold.journalMax) ||| bit32 20 s.hold.polBad
  else if o = 0xE20 then
    bit32 0 s.hold.dumpUsed ||| bit32 1 s.hold.dumpLost ||| bit32 2 s.hold.shardFallback ||| bit32 3 s.hold.mapLost
      ||| bit32 4 s.hold.frontierScan ||| bit32 5 s.hold.prevManifest ||| at32 16 s.hold.restartMs
  else if o = 0xE24 then bit32 1 s.hold.cfgBusy ||| at32 2 s.hold.cfgResult
  else if o = 0xE28 then num 32 (restored s (capInUse s))
  else if 0xE80 ≤ o ∧ o < 0xF00 then BitVec.ofNat 32 (leVal (slice s.hold.stage (o - 0xE80) 4))
  else 0

/-! ## Maquette, management path, Kaleidoscope, event sources (R565, R587, R597, R618) -/

/-- TZ_MQT_. -/
def readMqt (s : State) (o : Nat) : W32 :=
  if o = 0xF00 then
    bits32 8 (fun i => s.mqt.sess.any fun x => decide (x.id = i))
      ||| (bits32 8 fun i => s.mqt.sess.any fun x => decide (x.id = i) && x.imp) <<< 8
      ||| at32 16 (num 8 (restored s (s.mqt.sess.filter fun x => decide (x.state = .staged)).length))
  else if o = 0xF04 then at32 0 s.mqt.digestFails ||| at32 16 s.mqt.frozenWrites
  else 0

/-- TZ_MGT_; SNAP_AGE_MS is a time. -/
def readMgt (s : State) (o : Nat) : W32 :=
  if o = 0x1000 then
    at32 0 (if s.mgt.i3c then (2 : BitVec 2) else 1) ||| at32 2 s.mgt.addr ||| at32 9 s.mgt.da ||| at32 16 s.mgt.eid
      ||| at32 24 (num 2 (deviceMode s))
  else if o = 0x1004 then s.mgt.snapGen
  else if o = 0x1008 then at32 0 (if s.mgt.snapTaken then draw 16 s else 0) ||| at32 16 s.mgt.mismatches
  else if o = 0x100C then at32 0 s.mgt.pecErrors ||| at32 16 s.mgt.droppedMsgs
  else 0

/-- TZ_KSC_. -/
def readKsc (s : State) (o : Nat) : W32 :=
  if o = 0x1100 then
    bit32 0 s.ksc.enable ||| at32 1 s.ksc.cls ||| at32 6 s.ksc.armSlot ||| at32 9 (num 8 s.ksc.armDiv)
      ||| at32 17 (num 10 s.ksc.snapMs) ||| bit32 27 s.ksc.badWrite
  else if o = 0x1104 then
    bit32 0 s.ksc.active ||| bit32 1 s.pwr.straps.kscopeN ||| bit32 2 (kscFuseOff s) ||| bit32 3 (ownerKscOff s)
      ||| at32 16 (num 15 (kscFifoBytes s))
  else if o = 0x1108 then s.ksc.lost
  else if 0x1110 ≤ o ∧ o < 0x1140 then s.ksc.snap.getD ((o - 0x1110) / 4) 0
  else 0

/-- TZ_EVS_ of the PF. -/
def readEvs (s : State) (pf : Pf) (o : Nat) : W32 :=
  let e := evsOf s pf
  if o < 0x2200 then evsWord e.pend ((o - 0x2000) / 4)
  else if o < 0x2400 then evsWord e.en ((o - 0x2200) / 4)
  else if o < 0x2410 then (e.sum >>> (8 * (o - 0x2400))).setWidth 32
  else if o = 0x2410 then at32 0 e.vector ||| bit32 11 e.vecEn ||| bit32 12 e.aenEn
  else if o = 0x2414 then at32 0 e.messages ||| at32 16 e.aens
  else 0

/-- A word of the set-up block, by its offset from 0x0100_0000; an offset not named reads 0 (R607). -/
def setupWord (s : State) (pf : Pf) (o : Nat) : W32 :=
  if o < 0x400 then readId s o
  else if o < 0x410 then readPkg s o
  else if o < 0x420 then readBoot s o
  else if o < 0x440 then readIa s o
  else if o < 0x500 then readUpd s o
  else if o < 0x600 then readTru s pf o
  else if o < 0x700 then readEvr s o
  else if o < 0x800 then readPci s o
  else if o < 0x900 then readNvm s o
  else if o < 0xB00 then readFch s o
  else if o < 0xC00 then readFtlReg s o
  else if o < 0xD00 then readPar s o
  else if o < 0xE00 then readArm s o
  else if o < 0xF00 then readHold s o
  else if o < 0x1000 then readMqt s o
  else if o < 0x1100 then readMgt s o
  else if o < 0x2000 then readKsc s o
  else if o < 0x2418 then readEvs s pf o
  else 0

/-! ## Upper-word latches (R604) -/

/-- The latch of a counter for a PF. -/
def latchOf (s : State) (pf : Pf) (uptime : Bool) : Option W32 :=
  match uptime, pf with
  | true, .p0 => s.latch.up0
  | true, .p1 => s.latch.up1
  | false, .p0 => s.latch.gen0
  | false, .p1 => s.latch.gen1

/-- The latch of a counter for a PF replaced. -/
def setLatch (pf : Pf) (uptime : Bool) (v : Option W32) (s : State) : State :=
  match uptime, pf with
  | true, .p0 => { s with latch.up0 := v }
  | true, .p1 => { s with latch.up1 := v }
  | false, .p0 => { s with latch.gen0 := v }
  | false, .p1 => { s with latch.gen1 := v }

/-- The live 64-bit counter: WRITE_GEN, or the uptime, which is a time and a free value (log 38). -/
def liveCounter (s : State) (uptime : Bool) : W64 := if uptime then draw 64 s else s.nor.writeGen

/-- What a read of a counter's word returns: the lower word of the live counter; of the upper word the latch, while one is
pending. -/
def counterWord (s : State) (pf : Pf) (uptime hi : Bool) : W32 :=
  if hi then (latchOf s pf uptime).getD ((liveCounter s uptime >>> 32).setWidth 32)
  else (liveCounter s uptime).setWidth 32

/-- What it leaves: a read of the lower word latches the upper one; a read of the upper word ends the latch. -/
def counterRead (pf : Pf) (uptime hi : Bool) (s : State) : State :=
  setLatch pf uptime (if hi then none else some ((liveCounter s uptime >>> 32).setWidth 32)) s

/-- The counter and half that a word of the set-up block is. -/
def counterAt (o : Nat) : Option (Bool × Bool) :=
  if o = 0x10 then some (true, false)
  else if o = 0x14 then some (true, true)
  else if o = 0x420 then some (false, false)
  else if o = 0x424 then some (false, true)
  else none

/-! ## Reads (R598, R602) -/

/-- The word at a BAR0 offset: the NVMe properties, then the set-up block; what is not implemented reads 0 (R288, R289). -/
def barWord (s : State) (pf : Pf) (o : Nat) : W32 :=
  if o < 0x1000 then readNvme s pf o
  else if o < 0x01000000 then 0
  else match counterAt (o - 0x01000000) with
    | some (u, h) => counterWord s pf u h
    | none => setupWord s pf (o - 0x01000000)

/-- What a read of that word leaves. -/
def barRead (pf : Pf) (o : Nat) (s : State) : State :=
  match if o < 0x01000000 then none else counterAt (o - 0x01000000) with
  | some (u, h) => drawn 1 (counterRead pf u h s)
  | none => drawn 1 s

/-- Reads of `n` consecutive words from the one at `o`: their bytes, and what they leave. -/
def readWords (pf : Pf) : Nat → Nat → State → Bytes × State
  | 0, _, s => ([], s)
  | n + 1, o, s =>
    let r := readWords pf n (o + 4) (barRead pf o s)
    (leBytes 4 (barWord s pf o).toNat ++ r.1, r.2)

/-- A read: each word that it touches is read once, the lower address first, and the addressed bytes are answered (R598). -/
def readReg (r : RegRead) (s : State) : State :=
  let o := r.offset / 4 * 4
  let w := readWords r.pf ((r.offset + r.size + 3) / 4 - r.offset / 4) o s
  emit (.access (.bytes (slice w.1 (r.offset - o) r.size))) w.2

/-- UPPER_WORD_LATCH_READ: a read of a PF's BAR0 (R598, R604). -/
def execUpperWordLatchRead (pf : Pf) (offset size : Nat) (s : State) : Host.Outcome State Fault Refusal :=
  .next (if running s then readReg ⟨pf, offset, size⟩ s else s)

/-- REGISTER_WRITE (R598, R601, R602, R605): reads of the same FAB clock return the values from before it; a write of another
size than 4 bytes, or unaligned, is ignored. In Recovery and Option Fault the write goes to the recovery function (R126). -/
def execRegisterWrite (pf : Pf) (offset size : Nat) (value : W32) (s : State) (reads : List RegRead := []) :
    Host.Outcome State Fault Refusal :=
  .next (
    if rcvPresented s then mailboxWrite offset size value s
    else if !running s then s
    else
      let s := reads.foldl (fun s r => readReg r s) s
      if !decide (size = 4) || !decide (offset % 4 = 0) || !decide (0x01000000 ≤ offset) then s
      else writeReg pf (offset - 0x01000000) value s)

end Sys2Proof.Machine
end

