-- ==== Sys2Proof/Machine/Rng.lean ====
section
/-! DEFINITION. The entropy source (R199 to R203): health failures, re-seed attempts, periodic restarts, and the requests
that waited for entropy. -/
namespace Sys2Proof.Machine

/-! ## Health tests (R199) -/

/-- One sample through both running tests: the counts after it, and whether a test fails. The Repetition Count Test fails
at 41 equal samples in a row; the Adaptive Proportion Test at 410 samples equal to the first in a window of 512. -/
def Health.step (h : Health) (x : Nat) : Health × Bool :=
  let run := if h.last = some x then h.run + 1 else 1
  let (base, hits, seen) := match h.base with
    | some b => (b, if b = x then h.hits + 1 else h.hits, h.seen + 1)
    | none => (x, 1, 1)
  ({ last := some x, run := run, base := if 512 ≤ seen then none else some base,
     hits := if 512 ≤ seen then 0 else hits, seen := if 512 ≤ seen then 0 else seen },
   decide (41 ≤ run ∨ 410 ≤ hits))

/-- Samples through the tests, up to the first failure. -/
def Health.over : Health → List Nat → Health × Bool
  | h, [] => (h, false)
  | h, x :: l => if (h.step x).2 then ((h.step x).1, true) else Health.over (h.step x).1 l

/-- How the start-up test ends: both tests over 1,024 samples (R199). -/
inductive StartUp where
  | pass (h : Health) | fail (h : Health) | going
  deriving DecidableEq, Repr

/-- The start-up test over the samples of a restarted source; with fewer than 1,024 it still goes on. -/
def startUpTest (l : List Nat) : StartUp :=
  let r := Health.over Health.reset (l.take 1024)
  if r.2 then .fail r.1 else if l.length < 1024 then .going else .pass r.1

/-! ## Consequences -/

/-- Event 0x0010 (R247): 1 health failure, 2 unavailable, 3 recovered. -/
def rngEvent (code : Nat) (s : State) : State := eventDue 0x0010 code s.trust.reseedFails.toNat s

/-- The state a meaning answers. -/
def nextOr (s : State) (o : Host.Outcome State Fault Refusal) : State :=
  match o with
  | .next s' => s'
  | _ => s

/-- A waiting command is still in flight. -/
def stillWaits (s : State) (t : Tag) : Bool := decide (t.src = .mgt) || (inflightOf s t).isSome

/-- A request that waited goes on, with its checks made again: served when the source is healthy, refused when it is
unavailable (R201, R202). -/
def serveWaiting (i : Instr) (s : State) : State :=
  match i with
  | .getNonce t _ _ =>
    (match stillWaits s t, requesterOf t.src with
      | true, some r => if s.trust.rng = .healthy then giveNonce t r (drbgUse s) else finish t .entropyUnavailable s
      | _, _ => s)
  | .keySlotGenerate pf slot =>
    if s.trust.rng = .healthy then runGenerate pf slot.toNat (drbgUse s) else ksResult pf 2 s
  | .formatNvm t n l e => if stillWaits s t then nextOr s (execFormatNvm t n l e s) else s
  | .sanitize t a d => if stillWaits s t then nextOr s (execSanitize t a d s) else s
  | .exportStart t v d l c => if stillWaits s t then nextOr s (execExportStart t v d l c s) else s
  | .spdmChallenge inst slot m b => nextOr s (execSpdmChallenge inst slot s m b)
  | .spdmGetMeasurements inst x sg b => nextOr s (execSpdmGetMeasurements inst x sg s b)
  | .spdmKeyExchange inst slot m b => nextOr s (execSpdmKeyExchange inst slot s m b)
  | _ => s

/-- Every waiting request goes on, in order. -/
def serveAll (s : State) : State :=
  s.trust.waiting.foldl (fun s i => serveWaiting i s) { s with trust.waiting := [] }

/-- A health failure, of the running tests or of the start-up test after a reset: output is blocked and three re-seed
attempts begin (R200, R201, sources 64 and 65). -/
def healthFail (s : State) : State :=
  let s := evsSet 64 { s with trust.healthFail := true, trust.healthEvents := satAdd s.trust.healthEvents 1,
                              trust.reseedTries := 0 }
  rngEvent 1 (setRng .stalled s)

/-- TRNG_HEALTH_FAIL (R199, R200): samples of a source that is in use or runs its start-up test pass through both tests;
a failure blocks output. -/
def execTrngHealthFail (s : State) (samples : List Nat := []) : Host.Outcome State Fault Refusal :=
  .next (
    if s.pwr.phase = .released ∧ (s.trust.rng = .healthy ∨ s.trust.rng = .starting) then
      let r := Health.over s.trust.health samples
      let s := { s with trust.health := r.1 }
      if r.2 then healthFail s else s
    else s)

/-- The DRBG is reseeded and output goes on. -/
def rngHealthy (s : State) : State := setRng .healthy { s with trust.drbgCount := 0, trust.reseedTries := 0 }

/-- A failed start-up test after a source restart is counted. -/
def reseedFailed (s : State) : State :=
  { s with trust.reseedFails := satAdd s.trust.reseedFails 1, trust.reseedTries := s.trust.reseedTries + 1 }

/-- The start-up test passed: the DRBG is reseeded. -/
def startedUp (h : Health) (s : State) : State := rngHealthy { s with trust.health := h }

/-- A start-up test that failed in one of the three attempts; the third makes entropy unavailable (R201, R202). -/
def attemptFailed (s : State) : State :=
  let s := reseedFailed s
  if s.trust.reseedTries < 3 then s
  else serveAll (rngEvent 2 (setRng .unavailable { s with trust.unavailSeen := true }))

/-- TRNG_RESEED_ATTEMPT (R199, R201, R202): the start-up test after a reset (RNG_STATE 3), or one of up to three attempts
after a failure (RNG_STATE 1), over the samples of the restarted source. -/
def execTrngReseedAttempt (samples : List Nat) (s : State) : Host.Outcome State Fault Refusal :=
  .next (
    if s.pwr.phase ≠ .released then s
    else match s.trust.rng, startUpTest samples with
      | .starting, .pass h => serveAll (startedUp h s)
      | .starting, .fail h => healthFail { s with trust.health := h }
      | .stalled, .pass h => serveAll (rngEvent 3 (startedUp h s))
      | .stalled, .fail h => attemptFailed { s with trust.health := h }
      | _, _ => s)

/-- TRNG_PERIODIC_RESTART (R199, R203): a restart in the Entropy Unavailable state, with its start-up test. -/
def execTrngPeriodicRestart (samples : List Nat) (s : State) : Host.Outcome State Fault Refusal :=
  .next (
    if s.pwr.phase ≠ .released ∨ s.trust.rng ≠ .unavailable then s
    else match startUpTest samples with
      | .pass h => serveAll (rngEvent 3 (startedUp h s))
      | .fail h => { s with trust.health := h, trust.reseedFails := satAdd s.trust.reseedFails 1 }
      | .going => s)

end Sys2Proof.Machine
end

