-- ==== Sys2Proof/Machine/Dispatch.lean ====
section
/-! DEFINITION. One arm for each command: a direct call of its meaning. -/
namespace Sys2Proof.Machine

/-- The effect of a command on everything but the queue. -/
def exec (i : Instr) (s : State) : Host.Outcome State Fault Refusal :=
  match i with
  | .coldReset => Sys2Proof.Machine.execColdReset s
  | .powerOnReset => Sys2Proof.Machine.execPowerOnReset s
  | .internalResetRelease pwrfailHigh => Sys2Proof.Machine.execInternalResetRelease pwrfailHigh s
  | .strapSample levels => Sys2Proof.Machine.execStrapSample levels s
  | .pwrfailReleaseWait => Sys2Proof.Machine.execPwrfailReleaseWait s
  | .fundamentalReset cause r => Sys2Proof.Machine.execFundamentalReset cause r s
  | .linkReset port => Sys2Proof.Machine.execLinkReset port s
  | .subsystemReset value => Sys2Proof.Machine.execSubsystemReset value s
  | .flr f => Sys2Proof.Machine.execFlr f s
  | .vfEnableClear pf => Sys2Proof.Machine.execVfEnableClear pf s
  | .controllerReset f => Sys2Proof.Machine.execControllerReset f s
  | .shutdownNotification f => Sys2Proof.Machine.execShutdownNotification f s
  | .brownOut => Sys2Proof.Machine.execBrownOut s
  | .pwrfailFall r => Sys2Proof.Machine.execPwrfailFall r s
  | .flushComplete pwrfailHigh => Sys2Proof.Machine.execFlushComplete pwrfailHigh s
  | .thermalTrip r => Sys2Proof.Machine.execThermalTrip r s
  | .sysrefLoss r => Sys2Proof.Machine.execSysrefLoss r s
  | .armrefLoss => Sys2Proof.Machine.execArmrefLoss s
  | .xt32Loss => Sys2Proof.Machine.execXt32Loss s
  | .optionLoadAttempt fuses => Sys2Proof.Machine.execOptionLoadAttempt fuses s
  | .plinthBoot env => Sys2Proof.Machine.execPlinthBoot env s
  | .configSpaceBuild => Sys2Proof.Machine.execConfigSpaceBuild s
  | .trialWatchdogExpiry r => Sys2Proof.Machine.execTrialWatchdogExpiry r s
  | .trialConfirm prev stored => Sys2Proof.Machine.execTrialConfirm prev stored s
  | .deepSleepArm entryTime => Sys2Proof.Machine.execDeepSleepArm entryTime s
  | .rcvStatus path => Sys2Proof.Machine.execRcvStatus path s
  | .rcvOpen path => Sys2Proof.Machine.execRcvOpen path s
  | .rcvEraseSlot path arg0 ok => Sys2Proof.Machine.execRcvEraseSlot path arg0 ok s
  | .rcvWriteChunk path arg0 arg1 arg2 data ok => Sys2Proof.Machine.execRcvWriteChunk path arg0 arg1 arg2 data ok s
  | .rcvVerify path arg0 env => Sys2Proof.Machine.execRcvVerify path arg0 env s
  | .rcvCommit path arg0 auth sig stored => Sys2Proof.Machine.execRcvCommit path arg0 auth sig stored s
  | .rcvReboot path r => Sys2Proof.Machine.execRcvReboot path r s
  | .rcvClose path => Sys2Proof.Machine.execRcvClose path s
  | .recoveryWindowRead offset uncorrectable => Sys2Proof.Machine.execRecoveryWindowRead offset uncorrectable s
  | .iaProgram page len first words sent => Sys2Proof.Machine.execIaProgram page len first words sent s
  | .iaSectorErase sector sent => Sys2Proof.Machine.execIaSectorErase sector sent s
  | .iaRemap sector sent => Sys2Proof.Machine.execIaRemap sector sent s
  | .iaLockClear sector sent => Sys2Proof.Machine.execIaLockClear sector sent s
  | .iaLockSet sector sent => Sys2Proof.Machine.execIaLockSet sector sent s
  | .iaInfo bank sent => Sys2Proof.Machine.execIaInfo bank sent s
  | .iaSuspend bank early => Sys2Proof.Machine.execIaSuspend bank early s
  | .iaSuspendTakesEffect bank => Sys2Proof.Machine.execIaSuspendTakesEffect bank s
  | .iaResume bank => Sys2Proof.Machine.execIaResume bank s
  | .iaClearStatus bank => Sys2Proof.Machine.execIaClearStatus bank s
  | .iaReadArray bank => Sys2Proof.Machine.execIaReadArray bank s
  | .iaBankRead offset uncorrectable => Sys2Proof.Machine.execIaBankRead offset uncorrectable s
  | .iaOperationComplete bank ok => Sys2Proof.Machine.execIaOperationComplete bank ok s
  | .getNonce tag length part => Sys2Proof.Machine.execGetNonce tag length part s
  | .ownerInstall tag length part data sig stored => Sys2Proof.Machine.execOwnerInstall tag length part data sig stored s
  | .ownerLock tag length part data sig stored => Sys2Proof.Machine.execOwnerLock tag length part data sig stored s
  | .ownerUnlock tag length part data sig stored => Sys2Proof.Machine.execOwnerUnlock tag length part data sig stored s
  | .ownerReplace tag length part data sig stored => Sys2Proof.Machine.execOwnerReplace tag length part data sig stored s
  | .ownerRelease tag length part data sig stored => Sys2Proof.Machine.execOwnerRelease tag length part data sig stored s
  | .ownerKscDisable tag length part data sig stored => Sys2Proof.Machine.execOwnerKscDisable tag length part data sig stored s
  | .ownerKscEnable tag length part data sig stored => Sys2Proof.Machine.execOwnerKscEnable tag length part data sig stored s
  | .splitPartTimeout => Sys2Proof.Machine.execSplitPartTimeout s
  | .trngHealthFail samples => Sys2Proof.Machine.execTrngHealthFail s samples
  | .trngReseedAttempt samples => Sys2Proof.Machine.execTrngReseedAttempt samples s
  | .trngPeriodicRestart samples => Sys2Proof.Machine.execTrngPeriodicRestart samples s
  | .drbgReseed => Sys2Proof.Machine.execDrbgReseed s
  | .keySlotGenerate pf slot => Sys2Proof.Machine.execKeySlotGenerate pf slot s
  | .keySlotErase pf slot => Sys2Proof.Machine.execKeySlotErase pf slot s
  | .oldKeyZeroise slot => Sys2Proof.Machine.execOldKeyZeroise slot s
  | .keyTableStoreCommit ok => Sys2Proof.Machine.execKeyTableStoreCommit ok s
  | .ksplitWrite pf value => Sys2Proof.Machine.execKsplitWrite pf value s
  | .ideKmQuery port session => Sys2Proof.Machine.execIdeKmQuery port session s
  | .ideKmKeyProg port session key value => Sys2Proof.Machine.execIdeKmKeyProg port session key s value
  | .ideKmKSetGo port session key => Sys2Proof.Machine.execIdeKmKSetGo port session key s
  | .ideKmKSetStop port session key => Sys2Proof.Machine.execIdeKmKSetStop port session key s
  | .spdmGetVersion inst => Sys2Proof.Machine.execSpdmGetVersion inst s
  | .spdmGetCapabilities inst body => Sys2Proof.Machine.execSpdmGetCapabilities inst s body
  | .spdmNegotiateAlgorithms inst offers body => Sys2Proof.Machine.execSpdmNegotiateAlgorithms inst offers s body
  | .spdmGetDigests inst => Sys2Proof.Machine.execSpdmGetDigests inst s
  | .spdmGetCertificate inst slot offset length => Sys2Proof.Machine.execSpdmGetCertificate inst slot offset length s
  | .spdmChallenge inst slot summary body => Sys2Proof.Machine.execSpdmChallenge inst slot s summary body
  | .spdmGetMeasurements inst index signed body => Sys2Proof.Machine.execSpdmGetMeasurements inst index signed s body
  | .spdmKeyExchange inst slot summary body => Sys2Proof.Machine.execSpdmKeyExchange inst slot s summary body
  | .spdmFinish inst session mac => Sys2Proof.Machine.execSpdmFinish inst session mac s
  | .spdmKeyUpdate inst session op mark => Sys2Proof.Machine.execSpdmKeyUpdate inst session s op mark
  | .spdmHeartbeat inst session => Sys2Proof.Machine.execSpdmHeartbeat inst session s
  | .spdmEndSession inst session => Sys2Proof.Machine.execSpdmEndSession inst session s
  | .spdmChunkGet inst handle seq => Sys2Proof.Machine.execSpdmChunkGet inst handle seq s
  | .spdmVendorDefined inst session msg => Sys2Proof.Machine.execSpdmVendorDefined inst session msg s
  | .ledgerSign signs => Sys2Proof.Machine.execLedgerSign signs s
  | .evrPageProgram part ok => Sys2Proof.Machine.execEvrPageProgram part ok s
  | .droppedEventReport => Sys2Proof.Machine.execDroppedEventReport s
  | .evrRead tag part startSeq count => Sys2Proof.Machine.execEvrRead tag part startSeq count s
  | .evrAck tag part seq hash ok => Sys2Proof.Machine.execEvrAck tag part seq hash ok s
  | .evrClear tag part uptoSeq length data sig ok => Sys2Proof.Machine.execEvrClear tag part uptoSeq length data sig ok s
  | .firmwareImageDownload tag offset data out stored => Sys2Proof.Machine.execFirmwareImageDownload tag offset data out stored s
  | .commitActionStage tag slot env stored => Sys2Proof.Machine.execCommitActionStage tag slot env stored s
  | .commitActionPending tag slot env stored => Sys2Proof.Machine.execCommitActionPending tag slot env stored s
  | .commitActionActivateStaged tag slot env stored => Sys2Proof.Machine.execCommitActionActivateStaged tag slot env stored s
  | .updateGateQuery tag length => Sys2Proof.Machine.execUpdateGateQuery tag length s
  | .linkTraining port partner => Sys2Proof.Machine.execLinkTraining port partner s
  | .laneFailure port => Sys2Proof.Machine.execLaneFailure port s
  | .configRequest f req => Sys2Proof.Machine.execConfigRequest f req s
  | .busMasterEnableClear f => Sys2Proof.Machine.execBusMasterEnableClear f s
  | .interruptModeChange f inputs => Sys2Proof.Machine.execInterruptModeChange f inputs s
  | .atsEnableChange f enable => Sys2Proof.Machine.execAtsEnableChange f enable s
  | .atsTranslationCompletion f page readOk writeOk needWrite tag => Sys2Proof.Machine.execAtsTranslationCompletion f page readOk writeOk needWrite tag s
  | .invalidateRequest f itag lo hi => Sys2Proof.Machine.execInvalidateRequest f itag lo hi s
  | .invalidateCompletion f itag => Sys2Proof.Machine.execInvalidateCompletion f itag s
  | .completionTimeout tag => Sys2Proof.Machine.execCompletionTimeout tag s
  | .unexpectedCompletion f => Sys2Proof.Machine.execUnexpectedCompletion f s
  | .linkDown port => Sys2Proof.Machine.execLinkDown port s
  | .doeObject port protocol dwords head => Sys2Proof.Machine.execDoeObject port protocol dwords s head
  | .ideCheckFailure port stream sub => Sys2Proof.Machine.execIdeCheckFailure port stream sub s
  | .dmaErrorCompletion tag kind => Sys2Proof.Machine.execDmaErrorCompletion tag kind s
  | .mmioDoorbellWrite f qid isCq value => Sys2Proof.Machine.execMmioDoorbellWrite f qid isCq value s
  | .shadowSweep f qid shadowTail => Sys2Proof.Machine.execShadowSweep f qid shadowTail s
  | .parkTimeout f qid => Sys2Proof.Machine.execParkTimeout f qid s
  | .cqHeadReread f qid head => Sys2Proof.Machine.execCqHeadReread f qid head s
  | .commandFetch f sqe => Sys2Proof.Machine.execCommandFetch f sqe s
  | .fetchResume f => Sys2Proof.Machine.execFetchResume f s
  | .deleteIoSq tag qid => Sys2Proof.Machine.execDeleteIoSq tag qid s
  | .deleteIoCq tag qid => Sys2Proof.Machine.execDeleteIoCq tag qid s
  | .createIoSq tag q => Sys2Proof.Machine.execCreateIoSq tag q s
  | .createIoCq tag q => Sys2Proof.Machine.execCreateIoCq tag q s
  | .getLogPage tag lid length offset rae => Sys2Proof.Machine.execGetLogPage tag lid length offset rae s
  | .bootLedgerLog tag length offset => Sys2Proof.Machine.execBootLedgerLog tag length offset s
  | .dieHealthLog tag length offset => Sys2Proof.Machine.execDieHealthLog tag length offset s
  | .armatureTraceLog tag lsp length offset => Sys2Proof.Machine.execArmatureTraceLog tag lsp length offset s
  | .unitStateTableLog tag rae length offset => Sys2Proof.Machine.execUnitStateTableLog tag rae length offset s
  | .parityStatusLog tag length offset => Sys2Proof.Machine.execParityStatusLog tag length offset s
  | .identify tag cns nsid => Sys2Proof.Machine.execIdentify tag cns nsid s
  | .abort tag sqid cid => Sys2Proof.Machine.execAbort tag sqid cid s
  | .setFeatures tag fid sv nsid cdw11 data => Sys2Proof.Machine.execSetFeatures tag fid sv nsid cdw11 data s
  | .getFeatures tag fid nsid cdw11 => Sys2Proof.Machine.execGetFeatures tag fid nsid cdw11 s
  | .namespaceKeyBinding tag sv nsid cdw11 => Sys2Proof.Machine.execNamespaceKeyBinding tag sv nsid cdw11 s
  | .packagePowerLimit tag sv cdw11 => Sys2Proof.Machine.execPackagePowerLimit tag sv cdw11 s
  | .asynchronousEventRequest tag => Sys2Proof.Machine.execAsynchronousEventRequest tag s
  | .namespaceCreate tag ns => Sys2Proof.Machine.execNamespaceCreate tag ns s
  | .namespaceDelete tag nsid => Sys2Proof.Machine.execNamespaceDelete tag nsid s
  | .namespaceDeleteComplete nsid => Sys2Proof.Machine.execNamespaceDeleteComplete nsid s
  | .namespaceAttachment tag nsid attach ctrls => Sys2Proof.Machine.execNamespaceAttachment tag nsid attach ctrls s
  | .virtualizationManagement tag act => Sys2Proof.Machine.execVirtualizationManagement tag act s
  | .doorbellBufferConfig tag shadow eventIdx => Sys2Proof.Machine.execDoorbellBufferConfig tag shadow eventIdx s
  | .deviceSelfTest tag code => Sys2Proof.Machine.execDeviceSelfTest tag code s
  | .formatNvm tag nsid lbaf ses => Sys2Proof.Machine.execFormatNvm tag nsid lbaf ses s
  | .sanitize tag action noDealloc => Sys2Proof.Machine.execSanitize tag action noDealloc s
  | .sanitizeComplete ok => Sys2Proof.Machine.execSanitizeComplete ok s
  | .ioFlush tag nsid => Sys2Proof.Machine.execIoFlush tag nsid s
  | .ioWrite tag io fua sgl data host badLines => Sys2Proof.Machine.execIoWrite tag io fua sgl data host badLines s
  | .ioRead tag io limited sgl media => Sys2Proof.Machine.execIoRead tag io limited sgl media s
  | .writeUncorrectable tag io => Sys2Proof.Machine.execWriteUncorrectable tag io s
  | .ioCompare tag io data media => Sys2Proof.Machine.execIoCompare tag io data media s
  | .writeZeroes tag io deac => Sys2Proof.Machine.execWriteZeroes tag io deac s
  | .datasetManagement tag nsid ad ranges => Sys2Proof.Machine.execDatasetManagement tag nsid ad ranges s
  | .ioVerify tag io media => Sys2Proof.Machine.execIoVerify tag io media s
  | .reservationRegister tag nsid r => Sys2Proof.Machine.execReservationRegister tag nsid r s
  | .reservationReport tag nsid => Sys2Proof.Machine.execReservationReport tag nsid s
  | .reservationAcquire tag nsid r => Sys2Proof.Machine.execReservationAcquire tag nsid r s
  | .reservationRelease tag nsid r => Sys2Proof.Machine.execReservationRelease tag nsid r s
  | .salvageRead tag nsid slba count cont failedDies media => Sys2Proof.Machine.execSalvageRead tag nsid slba count cont failedDies media s
  | .channelTraining ch dies eyes failTries => Sys2Proof.Machine.execChannelTraining ch dies eyes failTries s
  | .retrainTrigger ch why => Sys2Proof.Machine.execRetrainTrigger ch why s
  | .retrainReq ch value => Sys2Proof.Machine.execRetrainReq ch value s
  | .retrainIdleWindow ch eyes us => Sys2Proof.Machine.execRetrainIdleWindow ch eyes us s
  | .retrainForceTimeout ch us => Sys2Proof.Machine.execRetrainForceTimeout ch us s
  | .dllLockLoss ch eyes us => Sys2Proof.Machine.execDllLockLoss ch eyes us s
  | .dieOpIssue die => Sys2Proof.Machine.execDieOpIssue die s
  | .dieOpComplete die res => Sys2Proof.Machine.execDieOpComplete die res s
  | .dieSuspend die minRun => Sys2Proof.Machine.execDieSuspend die minRun s
  | .dieResume die timeUp => Sys2Proof.Machine.execDieResume die timeUp s
  | .dieBusyTimeout die => Sys2Proof.Machine.execDieBusyTimeout die s
  | .dieResetComplete die ok => Sys2Proof.Machine.execDieResetComplete die ok s
  | .stripeRowPack group ius => Sys2Proof.Machine.execStripeRowPack group ius s
  | .stripeRowCommit group band row => Sys2Proof.Machine.execStripeRowCommit group band row s
  | .stripeRowProgramFail group band row die => Sys2Proof.Machine.execStripeRowProgramFail group band row die s
  | .mergeReadDone key media => Sys2Proof.Machine.execMergeReadDone key media s
  | .fold group => Sys2Proof.Machine.execFold group s
  | .foldIdleTimeout group => Sys2Proof.Machine.execFoldIdleTimeout group s
  | .garbageCollection group => Sys2Proof.Machine.execGarbageCollection group s
  | .staticWearMove die => Sys2Proof.Machine.execStaticWearMove die s
  | .patrolScan die band corrected level => Sys2Proof.Machine.execPatrolScan die band corrected level s
  | .refresh media => Sys2Proof.Machine.execRefresh media s
  | .rebuildBand media => Sys2Proof.Machine.execRebuildBand media s
  | .resyncComplete rows => Sys2Proof.Machine.execResyncComplete rows s
  | .slotFrame slot meas => Sys2Proof.Machine.execSlotFrame slot meas s
  | .armSyncEdge meas => Sys2Proof.Machine.execArmSyncEdge meas s
  | .indexPulseMissing slot meas => Sys2Proof.Machine.execIndexPulseMissing slot meas s
  | .tokenRefill => Sys2Proof.Machine.execTokenRefill s
  | .injectDone slot => Sys2Proof.Machine.execInjectDone slot s
  | .tuningWindowExpiry => Sys2Proof.Machine.execTuningWindowExpiry s
  | .armReadConfig tag slot length => Sys2Proof.Machine.execArmReadConfig tag slot length s
  | .armWriteConfig tag slot length block => Sys2Proof.Machine.execArmWriteConfig tag slot length block s
  | .armSetModeNormal tag slot traceDiv => Sys2Proof.Machine.execArmSetModeNormal tag slot traceDiv s
  | .armSetModeTrace tag slot traceStop traceDiv => Sys2Proof.Machine.execArmSetModeTrace tag slot traceStop traceDiv s
  | .armSetModeInject tag slot traceDiv cdw13 cdw14 cdw15 => Sys2Proof.Machine.execArmSetModeInject tag slot traceDiv cdw13 cdw14 cdw15 s
  | .armSetWindow tag mask seconds => Sys2Proof.Machine.execArmSetWindow tag mask seconds s
  | .armSetPolicy tag throttle => Sys2Proof.Machine.execArmSetPolicy tag throttle s
  | .cfgStageCommit stored => Sys2Proof.Machine.execCfgStageCommit stored s
  | .policyRegisterWrite reg value => Sys2Proof.Machine.execPolicyRegisterWrite reg value s
  | .configRecordUpdate stored => Sys2Proof.Machine.execConfigRecordUpdate stored s
  | .chargerBankCheck vholdMv => Sys2Proof.Machine.execChargerBankCheck vholdMv s
  | .chargerCharged vholdMv => Sys2Proof.Machine.execChargerCharged vholdMv s
  | .chargerStallTimeout riseMv => Sys2Proof.Machine.execChargerStallTimeout riseMv s
  | .chargerMeasureStart => Sys2Proof.Machine.execChargerMeasureStart s
  | .chargerMeasureDone vholdMv riseMv capUf => Sys2Proof.Machine.execChargerMeasureDone vholdMv riseMv capUf s
  | .chargerMeasureTimeout => Sys2Proof.Machine.execChargerMeasureTimeout s
  | .vholdUndervolt vholdMv => Sys2Proof.Machine.execVholdUndervolt vholdMv s
  | .vholdOvervolt vholdMv => Sys2Proof.Machine.execVholdOvervolt vholdMv s
  | .restart env => Sys2Proof.Machine.execRestart env s
  | .checkpointStart why => Sys2Proof.Machine.execCheckpointStart why s
  | .checkpointCommit ok => Sys2Proof.Machine.execCheckpointCommit ok s
  | .segmentWrite why => Sys2Proof.Machine.execSegmentWrite why s
  | .segmentCommit ok => Sys2Proof.Machine.execSegmentCommit ok s
  | .exportStart tag vf delta length certs => Sys2Proof.Machine.execExportStart tag vf delta length certs s
  | .exportRound tag session => Sys2Proof.Machine.execExportRound tag session s
  | .exportStop tag session => Sys2Proof.Machine.execExportStop tag session s
  | .exportRead tag session length index media => Sys2Proof.Machine.execExportRead tag session length index media s
  | .closeResume tag session keepTracking => Sys2Proof.Machine.execCloseResume tag session keepTracking s
  | .closeRetire tag session => Sys2Proof.Machine.execCloseRetire tag session s
  | .importBegin tag vf length hdr => Sys2Proof.Machine.execImportBegin tag vf length hdr s
  | .importWrite tag session length shard => Sys2Proof.Machine.execImportWrite tag session length shard s
  | .importFinish tag session length manifest => Sys2Proof.Machine.execImportFinish tag session length manifest s
  | .importActivate tag session => Sys2Proof.Machine.execImportActivate tag session s
  | .importAbort tag session => Sys2Proof.Machine.execImportAbort tag session s
  | .mctpPacket pkt => Sys2Proof.Machine.execMctpPacket pkt s
  | .mctpSetEndpointId op eid => Sys2Proof.Machine.execMctpSetEndpointId op eid s
  | .mctpGetEndpointId => Sys2Proof.Machine.execMctpGetEndpointId s
  | .mctpGetEndpointUuid => Sys2Proof.Machine.execMctpGetEndpointUuid s
  | .mctpGetVersionSupport type => Sys2Proof.Machine.execMctpGetVersionSupport type s
  | .mctpGetMessageTypeSupport => Sys2Proof.Machine.execMctpGetMessageTypeSupport s
  | .i3cEntdaa addr => Sys2Proof.Machine.execI3cEntdaa addr s
  | .i3cSetdasa addr => Sys2Proof.Machine.execI3cSetdasa addr s
  | .i3cRstdaa => Sys2Proof.Machine.execI3cRstdaa s
  | .i3cEnec events => Sys2Proof.Machine.execI3cEnec events s
  | .i3cDisec events => Sys2Proof.Machine.execI3cDisec events s
  | .i3cGetpid => Sys2Proof.Machine.execI3cGetpid s
  | .i3cGetbcr => Sys2Proof.Machine.execI3cGetbcr s
  | .i3cGetdcr => Sys2Proof.Machine.execI3cGetdcr s
  | .i3cGetmrl => Sys2Proof.Machine.execI3cGetmrl s
  | .i3cGetmwl => Sys2Proof.Machine.execI3cGetmwl s
  | .i3cSetmrl value => Sys2Proof.Machine.execI3cSetmrl value s
  | .i3cSetmwl value => Sys2Proof.Machine.execI3cSetmwl value s
  | .i3cGetstatus => Sys2Proof.Machine.execI3cGetstatus s
  | .miReadDataStructure slot dtyp portId ctrl => Sys2Proof.Machine.execMiReadDataStructure slot dtyp portId ctrl s
  | .miSubsystemHealthPoll slot clear => Sys2Proof.Machine.execMiSubsystemHealthPoll slot clear s
  | .miControllerHealthPoll slot start maxEntries => Sys2Proof.Machine.execMiControllerHealthPoll slot start maxEntries s
  | .miConfigurationSet slot cfgId value => Sys2Proof.Machine.execMiConfigurationSet slot cfgId value s
  | .miConfigurationGet slot cfgId => Sys2Proof.Machine.execMiConfigurationGet slot cfgId s
  | .vpdRead slot dofst dlen => Sys2Proof.Machine.execVpdRead slot dofst dlen s
  | .vpdWrite slot dofst dlen data stored => Sys2Proof.Machine.execVpdWrite slot dofst dlen data stored s
  | .miReset slot => Sys2Proof.Machine.execMiReset slot s
  | .snapshotCopy => Sys2Proof.Machine.execSnapshotCopy s
  | .kscEnableChange enable => Sys2Proof.Machine.execKscEnableChange enable s
  | .snapNow => Sys2Proof.Machine.execSnapNow s
  | .kscPeriodicSnapshot => Sys2Proof.Machine.execKscPeriodicSnapshot s
  | .kscSync => Sys2Proof.Machine.execKscSync s
  | .evsSummarySignal pf => Sys2Proof.Machine.execEvsSummarySignal pf s
  | .evsPendingWrite pf k value => Sys2Proof.Machine.execEvsPendingWrite pf k value s
  | .evsEnableWrite pf k value => Sys2Proof.Machine.execEvsEnableWrite pf k value s
  | .evsRearm pf value => Sys2Proof.Machine.execEvsRearm pf value s
  | .upperWordLatchRead pf offset size => Sys2Proof.Machine.execUpperWordLatchRead pf offset size s
  | .registerWrite pf offset size value reads => Sys2Proof.Machine.execRegisterWrite pf offset size value s reads
  | .armrefReturn => Sys2Proof.Machine.execArmrefReturn s
  | .xt32Return => Sys2Proof.Machine.execXt32Return s
  | .vauxLoss => Sys2Proof.Machine.execVauxLoss s
  | .controllerEnable f cc aqa => Sys2Proof.Machine.execControllerEnable f cc aqa s
  | .msixVectorUnmask f vector => Sys2Proof.Machine.execMsixVectorUnmask f vector s
  | .interruptMaskWrite f set value => Sys2Proof.Machine.execInterruptMaskWrite f set value s
  | .interruptCoalescingTimeout f => Sys2Proof.Machine.execInterruptCoalescingTimeout f s
  | .deviceSelfTestComplete result => Sys2Proof.Machine.execDeviceSelfTestComplete result s
  | .formatNvmComplete nsid ok => Sys2Proof.Machine.execFormatNvmComplete nsid ok s
  | .updateGateRefresh => Sys2Proof.Machine.execUpdateGateRefresh s
  | .aspmL1Entry port => Sys2Proof.Machine.execAspmL1Entry port s
  | .l1Exit port => Sys2Proof.Machine.execL1Exit port s
  | .l0pWidthChange port width => Sys2Proof.Machine.execL0pWidthChange port width s

end Sys2Proof.Machine
end

