-- ==== Sys2Proof/Machine/Idle.lean ====
section
/-! DEFINITION. What the block does when no command waits. -/
namespace Sys2Proof.Machine

/-- The Kaleidoscope port sends a packet or a fill byte while it is active (R591, R594); nothing else changes (log 14). -/
def idleTick (s : State) : State := kscSend s

/-- A request that waited on the management path runs (R585). -/
def runHeld (h : Held) (s : State) : Host.Outcome State Fault Refusal :=
  match h with
  | .admin i => exec i s
  | .vpdRead slot o n => execVpdRead slot o n s
  | .vpdWrite slot o n d b => execVpdWrite slot o n d b s
  | .unlisted slot op => .next (refusePathCode slot op s)
  | .reset slot => execMiReset slot s

/-- The requests behind the one that runs go on waiting. -/
def keepHeld (r : List Held) (s : State) : State := { s with mgt.held := r ++ s.mgt.held }

/-- With no command waiting: once DEVICE_MODE is Running the oldest request held on the management path runs (R585,
log 14); else `idleTick`. -/
def idleStep (s : State) : Host.Outcome State Fault Refusal :=
  match fullyUp s, s.mgt.held with
  | true, h :: r =>
    match runHeld h { s with mgt.held := [] } with
    | .next s' => .next (keepHeld r s')
    | o => o
  | _, _ => .next (idleTick s)

end Sys2Proof.Machine
end

