-- ==== Sys2Proof/WellFormed.lean ====
section
/-! DEFINITION. Which command terms are well formed: numbers that name a function, channel, die, group, queue or slot lie
in the ranges the spec gives the device (R142, R278, R354, R434, R459). -/
namespace Sys2Proof

/-- VF numbers run to 127 (R278). -/
def Func.wf (f : Func) : Bool := decide (f.vf ≤ 127)

/-- A source names the path or a well-formed function. -/
def Source.wf : Source → Bool
  | .mgt => true
  | .fn f => f.wf

/-- A tag's source, and a queue number below 4,096 (R329). -/
def Tag.wf (t : Tag) : Bool := t.src.wf && decide (t.sqid < 4096)

/-- Channels 0 to 23. -/
def chanWf (c : Nat) : Bool := decide (c < 24)
/-- Die indexes 0 to 383. -/
def dieWf (d : Nat) : Bool := decide (d < 384)
/-- Die groups 0 to 15. -/
def groupWf (g : Nat) : Bool := decide (g < 16)
/-- Armature slots 0 to 7. -/
def slotWf (n : Nat) : Bool := decide (n < 8)
/-- Command slots of the path: 0 and 1 (R573). -/
def miSlotWf (n : Nat) : Bool := decide (n < 2)
/-- Sectors 0 to 1023 (R142). -/
def sectorWf (n : Nat) : Bool := decide (n < 1024)

/-- Well-formed commands. -/
def Instr.wf : Instr → Bool
  | .coldReset => true
  | .powerOnReset => true
  | .internalResetRelease _ => true
  | .strapSample _ => true
  | .pwrfailReleaseWait => true
  | .fundamentalReset _ _ => true
  | .linkReset _ => true
  | .subsystemReset _ => true
  | .flr f => f.wf
  | .vfEnableClear _ => true
  | .controllerReset f => f.wf
  | .shutdownNotification f => f.wf
  | .brownOut => true
  | .pwrfailFall _ => true
  | .flushComplete _ => true
  | .thermalTrip _ => true
  | .sysrefLoss _ => true
  | .armrefLoss => true
  | .xt32Loss => true
  | .optionLoadAttempt _ => true
  | .plinthBoot _ => true
  | .configSpaceBuild => true
  | .trialWatchdogExpiry _ => true
  | .trialConfirm _ _ => true
  | .deepSleepArm _ => true
  | .rcvStatus _ => true
  | .rcvOpen _ => true
  | .rcvEraseSlot _ _ _ => true
  | .rcvWriteChunk _ _ _ _ _ _ => true
  | .rcvVerify _ _ _ => true
  | .rcvCommit _ _ _ _ _ => true
  | .rcvReboot _ _ => true
  | .rcvClose _ => true
  | .recoveryWindowRead _ _ => true
  | .iaProgram _ _ _ _ _ => true
  | .iaSectorErase sector _ => sectorWf sector
  | .iaRemap sector _ => sectorWf sector
  | .iaLockClear sector _ => sectorWf sector
  | .iaLockSet sector _ => sectorWf sector
  | .iaInfo _ _ => true
  | .iaSuspend _ _ => true
  | .iaSuspendTakesEffect _ => true
  | .iaResume _ => true
  | .iaClearStatus _ => true
  | .iaReadArray _ => true
  | .iaBankRead _ _ => true
  | .iaOperationComplete _ _ => true
  | .getNonce tag _ _ => tag.wf
  | .ownerInstall tag _ _ _ _ _ => tag.wf
  | .ownerLock tag _ _ _ _ _ => tag.wf
  | .ownerUnlock tag _ _ _ _ _ => tag.wf
  | .ownerReplace tag _ _ _ _ _ => tag.wf
  | .ownerRelease tag _ _ _ _ _ => tag.wf
  | .ownerKscDisable tag _ _ _ _ _ => tag.wf
  | .ownerKscEnable tag _ _ _ _ _ => tag.wf
  | .splitPartTimeout => true
  | .trngHealthFail _ => true
  | .trngReseedAttempt _ => true
  | .trngPeriodicRestart _ => true
  | .drbgReseed => true
  | .keySlotGenerate _ _ => true
  | .keySlotErase _ _ => true
  | .oldKeyZeroise slot => decide (slot < 2048)
  | .keyTableStoreCommit _ => true
  | .ksplitWrite _ _ => true
  | .ideKmQuery _ _ => true
  | .ideKmKeyProg _ _ _ _ => true
  | .ideKmKSetGo _ _ _ => true
  | .ideKmKSetStop _ _ _ => true
  | .spdmGetVersion _ => true
  | .spdmGetCapabilities _ _ => true
  | .spdmNegotiateAlgorithms _ _ _ => true
  | .spdmGetDigests _ => true
  | .spdmGetCertificate _ _ _ _ => true
  | .spdmChallenge _ _ _ _ => true
  | .spdmGetMeasurements _ _ _ _ => true
  | .spdmKeyExchange _ _ _ _ => true
  | .spdmFinish _ _ _ => true
  | .spdmKeyUpdate _ _ _ _ => true
  | .spdmHeartbeat _ _ => true
  | .spdmEndSession _ _ => true
  | .spdmChunkGet _ _ _ => true
  | .spdmVendorDefined _ _ _ => true
  | .ledgerSign _ => true
  | .evrPageProgram _ _ => true
  | .droppedEventReport => true
  | .evrRead tag _ _ _ => tag.wf
  | .evrAck tag _ _ _ _ => tag.wf
  | .evrClear tag _ _ _ _ _ _ => tag.wf
  | .firmwareImageDownload tag _ _ _ _ => tag.wf
  | .commitActionStage tag _ _ _ => tag.wf
  | .commitActionPending tag _ _ _ => tag.wf
  | .commitActionActivateStaged tag _ _ _ => tag.wf
  | .updateGateQuery tag _ => tag.wf
  | .linkTraining _ _ => true
  | .laneFailure _ => true
  | .configRequest f _ => f.wf
  | .busMasterEnableClear f => f.wf
  | .interruptModeChange f _ => f.wf
  | .atsEnableChange f _ => f.wf
  | .atsTranslationCompletion f _ _ _ _ tag => f.wf && tag.wf
  | .invalidateRequest f _ _ _ => f.wf
  | .invalidateCompletion f _ => f.wf
  | .completionTimeout tag => tag.wf
  | .unexpectedCompletion f => f.wf
  | .linkDown _ => true
  | .doeObject _ _ _ _ => true
  | .ideCheckFailure _ _ _ => true
  | .dmaErrorCompletion tag _ => tag.wf
  | .mmioDoorbellWrite f qid _ _ => f.wf && decide (qid < 4096)
  | .shadowSweep f qid _ => f.wf && decide (qid < 4096)
  | .parkTimeout f qid => f.wf && decide (qid < 4096)
  | .cqHeadReread f qid _ => f.wf && decide (qid < 4096)
  | .commandFetch f _ => f.wf
  | .fetchResume f => f.wf
  | .deleteIoSq tag qid => tag.wf && decide (qid < 4096)
  | .deleteIoCq tag qid => tag.wf && decide (qid < 4096)
  | .createIoSq tag _ => tag.wf
  | .createIoCq tag _ => tag.wf
  | .getLogPage tag _ _ _ _ => tag.wf
  | .bootLedgerLog tag _ _ => tag.wf
  | .dieHealthLog tag _ _ => tag.wf
  | .armatureTraceLog tag _ _ _ => tag.wf
  | .unitStateTableLog tag _ _ _ => tag.wf
  | .parityStatusLog tag _ _ => tag.wf
  | .identify tag _ _ => tag.wf
  | .abort tag _ _ => tag.wf
  | .setFeatures tag _ _ _ _ _ => tag.wf
  | .getFeatures tag _ _ _ => tag.wf
  | .namespaceKeyBinding tag _ _ _ => tag.wf
  | .packagePowerLimit tag _ _ => tag.wf
  | .asynchronousEventRequest tag => tag.wf
  | .namespaceCreate tag _ => tag.wf
  | .namespaceDelete tag _ => tag.wf
  | .namespaceDeleteComplete _ => true
  | .namespaceAttachment tag _ _ _ => tag.wf
  | .virtualizationManagement tag _ => tag.wf
  | .doorbellBufferConfig tag _ _ => tag.wf
  | .deviceSelfTest tag _ => tag.wf
  | .formatNvm tag _ _ _ => tag.wf
  | .sanitize tag _ _ => tag.wf
  | .sanitizeComplete _ => true
  | .ioFlush tag _ => tag.wf
  | .ioWrite tag _ _ _ _ _ _ => tag.wf
  | .ioRead tag _ _ _ _ => tag.wf
  | .writeUncorrectable tag _ => tag.wf
  | .ioCompare tag _ _ _ => tag.wf
  | .writeZeroes tag _ _ => tag.wf
  | .datasetManagement tag _ _ _ => tag.wf
  | .ioVerify tag _ _ => tag.wf
  | .reservationRegister tag _ _ => tag.wf
  | .reservationReport tag _ => tag.wf
  | .reservationAcquire tag _ _ => tag.wf
  | .reservationRelease tag _ _ => tag.wf
  | .salvageRead tag _ _ _ _ _ _ => tag.wf
  | .channelTraining ch _ _ _ => chanWf ch
  | .retrainTrigger ch _ => chanWf ch
  | .retrainReq ch _ => chanWf ch
  | .retrainIdleWindow ch _ _ => chanWf ch
  | .retrainForceTimeout ch _ => chanWf ch
  | .dllLockLoss ch _ _ => chanWf ch
  | .dieOpIssue die => dieWf die
  | .dieOpComplete die _ => dieWf die
  | .dieSuspend die _ => dieWf die
  | .dieResume die _ => dieWf die
  | .dieBusyTimeout die => dieWf die
  | .dieResetComplete die _ => dieWf die
  | .stripeRowPack group _ => groupWf group
  | .stripeRowCommit group _ _ => groupWf group
  | .stripeRowProgramFail group _ _ die => groupWf group && dieWf die
  | .mergeReadDone _ _ => true
  | .fold group => groupWf group
  | .foldIdleTimeout group => groupWf group
  | .garbageCollection group => groupWf group
  | .staticWearMove die => dieWf die
  | .patrolScan die _ _ _ => dieWf die
  | .refresh _ => true
  | .rebuildBand _ => true
  | .resyncComplete _ => true
  | .slotFrame slot _ => slotWf slot
  | .armSyncEdge _ => true
  | .indexPulseMissing slot _ => slotWf slot
  | .tokenRefill => true
  | .injectDone slot => slotWf slot
  | .tuningWindowExpiry => true
  | .armReadConfig tag _ _ => tag.wf
  | .armWriteConfig tag _ _ _ => tag.wf
  | .armSetModeNormal tag _ _ => tag.wf
  | .armSetModeTrace tag _ _ _ => tag.wf
  | .armSetModeInject tag _ _ _ _ _ => tag.wf
  | .armSetWindow tag _ _ => tag.wf
  | .armSetPolicy tag _ => tag.wf
  | .cfgStageCommit _ => true
  | .policyRegisterWrite _ _ => true
  | .configRecordUpdate _ => true
  | .chargerBankCheck _ => true
  | .chargerCharged _ => true
  | .chargerStallTimeout _ => true
  | .chargerMeasureStart => true
  | .chargerMeasureDone _ _ _ => true
  | .chargerMeasureTimeout => true
  | .vholdUndervolt _ => true
  | .vholdOvervolt _ => true
  | .restart _ => true
  | .checkpointStart _ => true
  | .checkpointCommit _ => true
  | .segmentWrite _ => true
  | .segmentCommit _ => true
  | .exportStart tag _ _ _ _ => tag.wf
  | .exportRound tag _ => tag.wf
  | .exportStop tag _ => tag.wf
  | .exportRead tag _ _ _ _ => tag.wf
  | .closeResume tag _ _ => tag.wf
  | .closeRetire tag _ => tag.wf
  | .importBegin tag _ _ _ => tag.wf
  | .importWrite tag _ _ _ => tag.wf
  | .importFinish tag _ _ _ => tag.wf
  | .importActivate tag _ => tag.wf
  | .importAbort tag _ => tag.wf
  | .mctpPacket _ => true
  | .mctpSetEndpointId _ _ => true
  | .mctpGetEndpointId => true
  | .mctpGetEndpointUuid => true
  | .mctpGetVersionSupport _ => true
  | .mctpGetMessageTypeSupport => true
  | .i3cEntdaa _ => true
  | .i3cSetdasa _ => true
  | .i3cRstdaa => true
  | .i3cEnec _ => true
  | .i3cDisec _ => true
  | .i3cGetpid => true
  | .i3cGetbcr => true
  | .i3cGetdcr => true
  | .i3cGetmrl => true
  | .i3cGetmwl => true
  | .i3cSetmrl _ => true
  | .i3cSetmwl _ => true
  | .i3cGetstatus => true
  | .miReadDataStructure slot _ _ _ => miSlotWf slot
  | .miSubsystemHealthPoll slot _ => miSlotWf slot
  | .miControllerHealthPoll slot _ _ => miSlotWf slot
  | .miConfigurationSet slot _ _ => miSlotWf slot
  | .miConfigurationGet slot _ => miSlotWf slot
  | .vpdRead slot _ _ => miSlotWf slot
  | .vpdWrite slot _ _ _ _ => miSlotWf slot
  | .miReset slot => miSlotWf slot
  | .snapshotCopy => true
  | .kscEnableChange _ => true
  | .snapNow => true
  | .kscPeriodicSnapshot => true
  | .kscSync => true
  | .evsSummarySignal _ => true
  | .evsPendingWrite _ _ _ => true
  | .evsEnableWrite _ _ _ => true
  | .evsRearm _ _ => true
  | .upperWordLatchRead _ _ _ => true
  | .registerWrite _ _ _ _ _ => true
  | .armrefReturn => true
  | .xt32Return => true
  | .vauxLoss => true
  | .controllerEnable f _ _ => f.wf
  | .msixVectorUnmask f _ => f.wf
  | .interruptMaskWrite f _ _ => f.wf
  | .interruptCoalescingTimeout f => f.wf
  | .deviceSelfTestComplete _ => true
  | .formatNvmComplete _ _ => true
  | .updateGateRefresh => true
  | .aspmL1Entry _ => true
  | .l1Exit _ => true
  | .l0pWidthChange _ _ => true

end Sys2Proof
end

