-- ==== Sys2Proof/Safety.lean ====
section
/-! DEFINITION. What a safe run is, and what a command leaves alone, in the terms the statements use. -/
namespace Sys2Proof.Machine

/-- The parts of the state, for frames: a field of State each, but that the Image Array, the fuses, the tables and the FTL
are cut into several: `norMem` contents of the array, `norOps` cycles and operations of its banks, `norBanks` their other
state and the lock bits; `fuseBits` the fuses of R91, `fuseFixed` those set at manufacture; `tabMap`, `tabNss`, `tabKeys`
and `tabDies` the map, the namespaces, the key slots and the dies' tables; `ftlData` the versions in DRAM and on their way to media. -/
inductive Field where
  | pwr | fuseBits | fuseFixed | fuses | boot | vault | rcv | norMem | norOps | norBanks | nor | cfg | trust | evr | upd
  | port0 | port1 | ctoMs | ctoBad | ctoOverride | bmlRid | bmlPort | bmlCount | timeouts | unexpected | fns | nvm | tabMap
  | tabNss | tabKeys | tabDies | tab | media | ftlData | ftl | flash | arm | hold | mqt | mgt | ksc | evs0 | evs1 |
  latch | free | out | pending
  deriving DecidableEq, Repr

/-- One part is equal in both states. -/
def Field.same (s t : State) : Field → Prop
  | .pwr => t.pwr = s.pwr
  | .fuseBits => t.fuses.svnMin = s.fuses.svnMin ∧ t.fuses.keyRevoke = s.fuses.keyRevoke ∧
    t.fuses.kscOff = s.fuses.kscOff
  | .fuseFixed => t.fuses.grade = s.fuses.grade ∧ t.fuses.dsn = s.fuses.dsn ∧ t.fuses.array = s.fuses.array
  | .fuses => t.fuses.shadow = s.fuses.shadow ∧ t.fuses.counters = s.fuses.counters ∧ t.fuses.attempts = s.fuses.attempts
  | .boot => t.boot = s.boot
  | .vault => t.vault = s.vault
  | .rcv => t.rcv = s.rcv
  | .norMem => t.nor.mem = s.nor.mem ∧ t.nor.programmed = s.nor.programmed ∧ t.nor.undef = s.nor.undef
  | .norOps => t.nor.bank0.seq = s.nor.bank0.seq ∧ t.nor.bank0.run = s.nor.bank0.run ∧
    t.nor.bank0.suspErase = s.nor.bank0.suspErase ∧ t.nor.bank0.suspProg = s.nor.bank0.suspProg ∧
    t.nor.bank1.seq = s.nor.bank1.seq ∧ t.nor.bank1.run = s.nor.bank1.run ∧
    t.nor.bank1.suspErase = s.nor.bank1.suspErase ∧ t.nor.bank1.suspProg = s.nor.bank1.suspProg
  | .norBanks => t.nor.unlocked = s.nor.unlocked ∧ t.nor.bank0.info = s.nor.bank0.info ∧
    t.nor.bank0.held = s.nor.bank0.held ∧ t.nor.bank0.progFail = s.nor.bank0.progFail ∧
    t.nor.bank0.eraseFail = s.nor.bank0.eraseFail ∧ t.nor.bank0.seqErr = s.nor.bank0.seqErr ∧
    t.nor.bank0.lockedErr = s.nor.bank0.lockedErr ∧ t.nor.bank0.suspPend = s.nor.bank0.suspPend ∧
    t.nor.bank0.factory = s.nor.bank0.factory ∧ t.nor.bank0.grown = s.nor.bank0.grown ∧
    t.nor.bank0.spare = s.nor.bank0.spare ∧ t.nor.bank0.intr = s.nor.bank0.intr ∧
    t.nor.bank1.info = s.nor.bank1.info ∧ t.nor.bank1.held = s.nor.bank1.held ∧
    t.nor.bank1.progFail = s.nor.bank1.progFail ∧ t.nor.bank1.eraseFail = s.nor.bank1.eraseFail ∧
    t.nor.bank1.seqErr = s.nor.bank1.seqErr ∧ t.nor.bank1.lockedErr = s.nor.bank1.lockedErr ∧
    t.nor.bank1.suspPend = s.nor.bank1.suspPend ∧ t.nor.bank1.factory = s.nor.bank1.factory ∧
    t.nor.bank1.grown = s.nor.bank1.grown ∧ t.nor.bank1.spare = s.nor.bank1.spare ∧
    t.nor.bank1.intr = s.nor.bank1.intr
  | .nor => t.nor.retired = s.nor.retired ∧ t.nor.writeGen = s.nor.writeGen
  | .cfg => t.cfg = s.cfg
  | .trust => t.trust = s.trust
  | .evr => t.evr = s.evr
  | .upd => t.upd = s.upd
  | .port0 => t.port0 = s.port0
  | .port1 => t.port1 = s.port1
  | .ctoMs => t.ctoMs = s.ctoMs
  | .ctoBad => t.ctoBad = s.ctoBad
  | .ctoOverride => t.ctoOverride = s.ctoOverride
  | .bmlRid => t.bmlRid = s.bmlRid
  | .bmlPort => t.bmlPort = s.bmlPort
  | .bmlCount => t.bmlCount = s.bmlCount
  | .timeouts => t.timeouts = s.timeouts
  | .unexpected => t.unexpected = s.unexpected
  | .fns => t.fns = s.fns
  | .nvm => t.nvm = s.nvm
  | .tabMap => t.tab.map = s.tab.map ∧ t.tab.seqs = s.tab.seqs
  | .tabNss => t.tab.nss = s.tab.nss
  | .tabKeys => t.tab.keys = s.tab.keys ∧ t.tab.ksplit = s.tab.ksplit
  | .tabDies => t.tab.bands = s.tab.bands ∧ t.tab.dies = s.tab.dies ∧ t.tab.groups = s.tab.groups
  | .tab => t.tab.writeSeq = s.tab.writeSeq ∧ t.tab.closeNo = s.tab.closeNo ∧ t.tab.tnvmcap = s.tab.tnvmcap ∧
    t.tab.caps = s.tab.caps ∧ t.tab.capTj = s.tab.capTj ∧ t.tab.readOnly = s.tab.readOnly ∧
    t.tab.offline = s.tab.offline ∧ t.tab.failureEvents = s.tab.failureEvents ∧ t.tab.lastFailed = s.tab.lastFailed
    ∧ t.tab.offlineSeen = s.tab.offlineSeen ∧ t.tab.initialised = s.tab.initialised
  | .media => t.media = s.media
  | .ftlData => t.ftl.cache = s.ftl.cache ∧ t.ftl.wt = s.ftl.wt ∧ t.ftl.rows = s.ftl.rows
  | .ftl => t.ftl.pct = s.ftl.pct ∧ t.ftl.foldHi = s.ftl.foldHi ∧ t.ftl.foldLo = s.ftl.foldLo ∧
    t.ftl.slcBad = s.ftl.slcBad ∧ t.ftl.direct = s.ftl.direct ∧ t.ftl.spread = s.ftl.spread ∧
    t.ftl.wlBad = s.ftl.wlBad ∧ t.ftl.moves = s.ftl.moves ∧ t.ftl.refresh = s.ftl.refresh ∧
    t.ftl.refreshDropped = s.ftl.refreshDropped ∧ t.ftl.staleCopies = s.ftl.staleCopies ∧
    t.ftl.folding = s.ftl.folding ∧ t.ftl.nativeStop = s.ftl.nativeStop ∧
    t.ftl.refreshHigh = s.ftl.refreshHigh ∧ t.ftl.shares = s.ftl.shares ∧ t.ftl.rebuildShare = s.ftl.rebuildShare ∧
    t.ftl.parBad = s.ftl.parBad ∧ t.ftl.degraded = s.ftl.degraded ∧ t.ftl.degradedTotal = s.ftl.degradedTotal ∧
    t.ftl.reconstructed = s.ftl.reconstructed ∧ t.ftl.salvageLost = s.ftl.salvageLost ∧
    t.ftl.journalWaits = s.ftl.journalWaits ∧ t.ftl.resync = s.ftl.resync ∧ t.ftl.replayDone = s.ftl.replayDone ∧
    t.ftl.resyncDone = s.ftl.resyncDone
  | .flash => t.flash = s.flash
  | .arm => t.arm = s.arm
  | .hold => t.hold = s.hold
  | .mqt => t.mqt = s.mqt
  | .mgt => t.mgt = s.mgt
  | .ksc => t.ksc = s.ksc
  | .evs0 => t.evs0 = s.evs0
  | .evs1 => t.evs1 = s.evs1
  | .latch => t.latch = s.latch
  | .free => t.free = s.free
  | .out => t.out = s.out
  | .pending => t.pending = s.pending

/-- `t` differs from `s` in no field outside the list. -/
def Same (l : List Field) (s t : State) : Prop := ∀ f, f ∉ l → f.same s t

/-- The canonical form of the Image Array's bytes: addresses strictly rise and no entry is 0xFF, what an unlisted address
reads as (log 5). -/
def Memory.wf (m : Sparse Byte) : Bool := Sparse.wf 0xFF m

end Sys2Proof.Machine

namespace Sys2Proof.Safety

open Sys2Proof.Machine

/-- The step answers a next state. -/
def goesOn (s : State) : Prop := ∃ t, step s = .next t

/-- Every waiting command is well formed. -/
def queueWf (s : State) : Bool := s.pending.all Instr.wf

/-- What a Cold, Power-on or Fundamental reset clears, and what none of them touches. -/
def restarted (s t : State) : Prop :=
  t.fns = [] ∧ t.rcv = Rcv.reset ∧ t.trust = Trust.reset ∧ t.upd = Upd.reset ∧ t.port0 = Port.reset ∧
  t.port1 = Port.reset ∧ t.ftl = Ftl.reset ∧ t.flash = Flash.reset ∧ t.ksc = Ksc.reset ∧ t.evs0 = Evs.reset ∧
  t.evs1 = Evs.reset ∧ t.latch = Latch.reset ∧ t.boot = { Boot.reset with watchdogFired := t.boot.watchdogFired } ∧
  t.fuses.svnMin = s.fuses.svnMin ∧ t.fuses.keyRevoke = s.fuses.keyRevoke ∧ t.fuses.kscOff = s.fuses.kscOff ∧
  t.media = { s.media with stores := t.media.stores }

/-- A command of a function or the path starts: the state in which its meaning runs, once it is fetched; the path runs it
while DEVICE_MODE is Running and nothing waits (R325, R343, R585). -/
def startOf (t : Tag) (op : W8) (nsid : W32) (s : State) : Option State :=
  match t.src with
  | .mgt => if fullyUp s && s.mgt.held.isEmpty then some s else none
  | .fn f =>
    match inflightOf s t with
    | some _ => some s
    | none =>
      match fetchCmd f t op nsid s with
      | some (u, true) => some u
      | _ => none

/-- The source is one that R313's columns allow. -/
def allowed (pf vf mgt : Bool) (t : Tag) : Bool :=
  match t.src with
  | .mgt => mgt
  | .fn f => if f.vf = 0 then pf else vf

/-- An Owner Command's authorisation passes every check of R192 to R194 in `s`, in one message. -/
def ownerPasses (t : Tag) (r : Requester) (a : OwnerAct) (length : W16) (data : Bytes) (sig : DualVerdict)
    (s : State) : Prop :=
  requesterOf t.src = some r ∧ (t.src = .mgt → a.appends = false) ∧ length.toNat = a.length ∧
  authHead (padTo a.length data) a.code = true ∧ a.validIn (ownerState s) = true ∧
  authBinds s (padTo a.length data) (nonceOf s r) noDigest
    (if a.appends then digestBytes (keyDigest (slice (padTo a.length data) 3664 2064)) else noDigest) = true ∧
  authSigned (padTo a.length data) sig
    (if a = .install then keyDigest (slice (padTo a.length data) 3664 2064) else ownerKey s) = true ∧ canStore .owner s = true

/-- What a passed Owner Command leaves (R190, R193, R194): the new record, and no nonce outstanding. -/
def ownerDone (r : Requester) (a : OwnerAct) (data : Bytes) (s u : State) : Prop :=
  u.cfg = (storeRecord (.owner (a.apply (ownerRecBase s) (slice (padTo a.length data) 3664 2064))) true s).cfg ∧
  nonceOf u r = none

/-- An I/O command of a function's queue starts in `u` on namespace `n` as the entry `e`, and no reservation bars it
(R314, R325, R343). -/
def ioReady (t : Tag) (op : W8) (nsid : W32) (write : Bool) (s u : State) (n : Ns) (e : Inflight) : Prop :=
  t.src ≠ .mgt ∧ t.sqid ≠ 0 ∧ startOf t op nsid s = some u ∧ nsOf u nsid.toNat = some n ∧ inflightOf u t = some e ∧
  e.phase = .fetched ∧ rsvBars u n.rsv t.src write = false

/-- From the path, a controller-scope command names an enabled controller (R574). -/
def namesCtrl (t : Tag) (u : State) : Prop := t.src = .mgt → ctrlNamed u t.cid.toNat = true

/-! ## The Image Array's invariant (R142, R148 to R150, R165) -/

/-- An accepted operation touches no permanently locked sector, and a PROGRAM stays in its page. -/
def opOk : NorOp → Bool
  | .program first d _ => !permLocked (sectorOf first) && decide (first % 512 + d.length ≤ 512)
  | .erase n => !permLocked n
  | .remap n => !permLocked n

/-- The operands of a sequence under way lie in one page (R149). -/
def seqOk : SeqState → Bool
  | .lenAt page len => decide (page % 512 = 0) && lenOk len
  | .data page first next left bytes => decide (page % 512 = 0 ∧ page ≤ first ∧ next = first + bytes.length ∧ 0 < left ∧
      left % 4 = 0 ∧ next + left ≤ page + 512)
  | .confirm page first bytes => decide (page % 512 = 0 ∧ page ≤ first ∧ first + bytes.length ≤ page + 512)
  | _ => true

/-- What a bank holds is in order. -/
def bankOk (x : Bank) : Bool :=
  seqOk x.seq && x.run.all opOk && x.suspProg.all opOk && x.suspErase.all fun n => !permLocked n

/-- The invariant: the array's tables are in canonical form, what its banks hold touches no permanently locked sector,
and a download session never holds slot G. -/
def Inv (s : State) : Prop :=
  Memory.wf s.nor.mem = true ∧ Sparse.wf false s.nor.programmed = true ∧ bankOk s.nor.bank0 = true ∧
  bankOk s.nor.bank1 = true ∧ (s.upd.holder ≠ none → s.upd.slot ≠ some .g)

/-- Every fuse blown in `s` is blown in `t` (R91). -/
def blown {w : Nat} (s t : Triple w) : Prop := s.a &&& t.a = s.a ∧ s.b &&& t.b = s.b ∧ s.c &&& t.c = s.c

end Sys2Proof.Safety
end

