-- ==== Sys2Proof/Machine/Frame.lean ====
section
/-! DEFINITION. The frame of every command: the parts of the state that it can change. What a part is, the statements' file
Safety says. -/
namespace Sys2Proof.Machine

/-- What fetching a command and completing it can change: its controller's queues, CONFLICTS, the trace port, the event
sources and what leaves the device (R30, R325, R342, R592, R608). -/
def answered : List Field := [.fns, .nvm, .ksc, .evs0, .evs1, .out]

/-- What recording an event can change (R234, R592, R608). -/
def recorded : List Field := [.evr, .ksc, .evs0, .evs1, .free]

/-- The parts of the state that a command can change; every other part is as before. -/
def mayChange : Instr → List Field
  | .coldReset => answered ++ recorded ++ [.pwr, .fuses, .boot, .vault, .rcv, .norMem, .norOps, .norBanks, .cfg,
      .trust, .upd, .port0, .port1, .ctoMs, .ctoBad, .ctoOverride, .bmlRid, .bmlPort, .bmlCount, .timeouts,
      .unexpected, .tabMap, .tabNss, .tabKeys, .tabDies, .tab, .ftlData, .ftl, .flash, .arm, .hold, .mqt, .mgt,
      .latch]
  | .powerOnReset => answered ++ recorded ++ [.pwr, .fuses, .boot, .vault, .rcv, .norMem, .norOps, .norBanks, .cfg,
      .trust, .upd, .port0, .port1, .ctoMs, .ctoBad, .ctoOverride, .bmlRid, .bmlPort, .bmlCount, .timeouts,
      .unexpected, .tabMap, .tabNss, .tabKeys, .tabDies, .tab, .ftlData, .ftl, .flash, .arm, .hold, .mqt, .mgt,
      .latch]
  | .internalResetRelease .. => [.pwr, .boot]
  | .strapSample .. => [.pwr, .mgt, .evs0, .evs1, .out]
  | .pwrfailReleaseWait => [.pwr, .boot]
  | .fundamentalReset .. => answered ++ recorded ++ [.pwr, .fuses, .boot, .vault, .rcv, .norMem, .norOps, .norBanks,
      .nor, .cfg, .trust, .upd, .port0, .port1, .ctoMs, .ctoBad, .ctoOverride, .bmlRid, .bmlPort, .bmlCount,
      .timeouts, .unexpected, .tabMap, .tabNss, .tabKeys, .tabDies, .tab, .media, .ftlData, .ftl, .flash, .arm,
      .hold, .mqt, .mgt, .latch]
  | .linkReset .. => answered ++ recorded ++ [.trust, .upd, .port0, .port1, .tabMap, .tabNss, .tabKeys, .ftlData,
      .hold, .mqt, .mgt]
  | .subsystemReset .. => answered ++ recorded ++ [.trust, .upd, .tabMap, .tabNss, .tabKeys, .ftlData, .hold, .mqt,
      .mgt]
  | .flr .. => answered ++ recorded ++ [.trust, .upd, .tabMap, .tabNss, .tabKeys, .ftlData, .hold, .mqt, .mgt]
  | .vfEnableClear .. => answered ++ recorded ++ [.trust, .upd, .tabMap, .tabNss, .tabKeys, .ftlData, .hold, .mqt,
      .mgt]
  | .controllerReset .. => answered ++ recorded ++ [.upd, .ftlData, .mqt, .mgt]
  | .shutdownNotification .. => [.boot, .fns, .hold, .mqt, .free]
  | .brownOut => [.pwr, .port0, .port1, .ksc, .evs0, .evs1, .free, .out]
  | .pwrfailFall .. => recorded ++ [.pwr, .tabDies, .media, .flash, .arm, .hold, .out]
  | .flushComplete .. => answered ++ recorded ++ [.pwr, .fuses, .boot, .vault, .rcv, .norMem, .norOps, .norBanks,
      .nor, .cfg, .trust, .upd, .port0, .port1, .ctoMs, .ctoBad, .ctoOverride, .bmlRid, .bmlPort, .bmlCount,
      .timeouts, .unexpected, .tabMap, .tabNss, .tabKeys, .tabDies, .tab, .ftlData, .ftl, .flash, .arm, .hold, .mqt,
      .mgt, .latch]
  | .thermalTrip .. => recorded ++ [.pwr, .tabDies, .media, .flash, .arm, .hold, .out]
  | .sysrefLoss .. => recorded ++ [.pwr, .tabDies, .media, .flash, .arm, .hold, .out]
  | .armrefLoss => recorded ++ [.pwr, .boot, .arm, .out]
  | .xt32Loss => recorded ++ [.pwr, .boot, .vault]
  | .optionLoadAttempt .. => [.pwr, .fuses, .boot, .rcv, .trust, .nvm, .hold, .evs0, .evs1, .out]
  | .plinthBoot .. => recorded ++ [.pwr, .fuseBits, .fuses, .boot, .vault, .rcv, .norMem, .norBanks, .nor, .cfg,
      .trust, .out]
  | .configSpaceBuild => [.boot]
  | .trialWatchdogExpiry .. => answered ++ recorded ++ [.pwr, .fuses, .boot, .vault, .rcv, .norMem, .norOps,
      .norBanks, .nor, .cfg, .trust, .upd, .port0, .port1, .ctoMs, .ctoBad, .ctoOverride, .bmlRid, .bmlPort,
      .bmlCount, .timeouts, .unexpected, .tabMap, .tabNss, .tabKeys, .tabDies, .tab, .media, .ftlData, .ftl, .flash,
      .arm, .hold, .mqt, .mgt, .latch]
  | .trialConfirm .. => recorded ++ [.fuseBits, .fuses, .boot, .norMem, .norBanks, .nor, .cfg]
  | .deepSleepArm .. => [.vault]
  | .rcvStatus .. => [.rcv, .out]
  | .rcvOpen .. => [.rcv, .out]
  | .rcvEraseSlot .. => recorded ++ [.boot, .rcv, .norMem, .norBanks, .nor, .cfg, .out]
  | .rcvWriteChunk .. => recorded ++ [.boot, .rcv, .norMem, .norBanks, .nor, .cfg, .out]
  | .rcvVerify .. => [.rcv, .out]
  | .rcvCommit .. => recorded ++ [.boot, .rcv, .norMem, .norBanks, .nor, .cfg, .out]
  | .rcvReboot .. => answered ++ recorded ++ [.pwr, .fuses, .boot, .vault, .rcv, .norMem, .norOps, .norBanks, .nor,
      .cfg, .trust, .upd, .port0, .port1, .ctoMs, .ctoBad, .ctoOverride, .bmlRid, .bmlPort, .bmlCount, .timeouts,
      .unexpected, .tabMap, .tabNss, .tabKeys, .tabDies, .tab, .media, .ftlData, .ftl, .flash, .arm, .hold, .mqt,
      .mgt, .latch]
  | .rcvClose .. => [.rcv, .out]
  | .recoveryWindowRead .. => [.rcv, .norOps, .norBanks, .out]
  | .iaProgram .. => recorded ++ [.boot, .norMem, .norOps, .norBanks, .nor, .cfg]
  | .iaSectorErase .. => recorded ++ [.boot, .norMem, .norOps, .norBanks, .nor, .cfg]
  | .iaRemap .. => recorded ++ [.boot, .norMem, .norOps, .norBanks, .nor, .cfg]
  | .iaLockClear .. => recorded ++ [.boot, .norMem, .norOps, .norBanks, .nor, .cfg]
  | .iaLockSet .. => recorded ++ [.boot, .norMem, .norOps, .norBanks, .nor, .cfg]
  | .iaInfo .. => recorded ++ [.boot, .norMem, .norOps, .norBanks, .nor, .cfg]
  | .iaSuspend .. => recorded ++ [.boot, .norMem, .norOps, .norBanks, .nor, .cfg]
  | .iaSuspendTakesEffect .. => [.norOps, .norBanks]
  | .iaResume .. => recorded ++ [.boot, .norMem, .norOps, .norBanks, .nor, .cfg]
  | .iaClearStatus .. => recorded ++ [.boot, .norMem, .norOps, .norBanks, .nor, .cfg]
  | .iaReadArray .. => recorded ++ [.boot, .norMem, .norOps, .norBanks, .nor, .cfg]
  | .iaBankRead .. => [.norOps, .norBanks, .out]
  | .iaOperationComplete .. => recorded ++ [.boot, .rcv, .norMem, .norOps, .norBanks, .cfg, .out]
  | .getNonce .. => answered ++ [.trust, .mgt, .free]
  | .ownerInstall .. => answered ++ recorded ++ [.boot, .norMem, .norBanks, .nor, .cfg, .trust, .mgt]
  | .ownerLock .. => answered ++ recorded ++ [.boot, .norMem, .norBanks, .nor, .cfg, .trust, .mgt]
  | .ownerUnlock .. => answered ++ recorded ++ [.boot, .norMem, .norBanks, .nor, .cfg, .trust, .mgt]
  | .ownerReplace .. => answered ++ recorded ++ [.boot, .norMem, .norBanks, .nor, .cfg, .trust, .mgt]
  | .ownerRelease .. => answered ++ recorded ++ [.boot, .norMem, .norBanks, .nor, .cfg, .trust, .mgt]
  | .ownerKscDisable .. => answered ++ recorded ++ [.boot, .norMem, .norBanks, .nor, .cfg, .trust, .mgt]
  | .ownerKscEnable .. => answered ++ recorded ++ [.boot, .norMem, .norBanks, .nor, .cfg, .trust, .mgt]
  | .splitPartTimeout => [.trust]
  | .trngHealthFail .. => recorded ++ [.boot, .trust]
  | .trngReseedAttempt .. => answered ++ recorded ++ [.boot, .trust, .tabNss, .tabKeys, .hold, .mqt, .mgt]
  | .trngPeriodicRestart .. => answered ++ recorded ++ [.boot, .trust, .tabNss, .tabKeys, .hold, .mqt, .mgt]
  | .drbgReseed => [.trust]
  | .keySlotGenerate .. => answered ++ [.trust, .tabKeys, .ftlData, .mqt, .free]
  | .keySlotErase .. => answered ++ [.trust, .tabKeys, .ftlData, .mqt, .free]
  | .oldKeyZeroise .. => [.trust, .nvm, .tabKeys, .evs0, .evs1, .free]
  | .keyTableStoreCommit .. => recorded ++ [.trust, .nvm, .tabKeys, .media]
  | .ksplitWrite .. => [.trust, .nvm, .tabKeys]
  | .ideKmQuery .. => [.trust, .evs0, .evs1, .free, .out]
  | .ideKmKeyProg .. => [.trust, .evs0, .evs1, .free, .out]
  | .ideKmKSetGo .. => [.trust, .evs0, .evs1, .free, .out]
  | .ideKmKSetStop .. => [.trust, .evs0, .evs1, .free, .out]
  | .spdmGetVersion .. => [.trust, .out]
  | .spdmGetCapabilities .. => [.trust, .out]
  | .spdmNegotiateAlgorithms .. => [.trust, .out]
  | .spdmGetDigests .. => [.trust, .out]
  | .spdmGetCertificate .. => [.trust, .out]
  | .spdmChallenge .. => [.trust, .free, .out]
  | .spdmGetMeasurements .. => [.trust, .free, .out]
  | .spdmKeyExchange .. => [.trust, .free, .out]
  | .spdmFinish .. => [.trust, .out]
  | .spdmKeyUpdate .. => [.trust, .out]
  | .spdmHeartbeat .. => [.trust, .out]
  | .spdmEndSession .. => [.trust, .out]
  | .spdmChunkGet .. => [.trust, .out]
  | .spdmVendorDefined .. => [.trust, .evs0, .evs1, .free, .out]
  | .ledgerSign .. => [.trust, .evr, .free]
  | .evrPageProgram .. => recorded ++ [.boot, .norMem, .norBanks, .nor, .cfg]
  | .droppedEventReport => recorded
  | .evrRead .. => answered ++ [.mgt]
  | .evrAck .. => answered ++ recorded ++ [.boot, .norMem, .norBanks, .nor, .cfg, .mgt]
  | .evrClear .. => answered ++ recorded ++ [.boot, .norMem, .norBanks, .nor, .cfg, .trust, .mgt]
  | .firmwareImageDownload .. => answered ++ recorded ++ [.boot, .norMem, .norBanks, .nor, .cfg, .upd, .mgt]
  | .commitActionStage .. => answered ++ recorded ++ [.boot, .norMem, .norBanks, .nor, .cfg, .upd, .mgt]
  | .commitActionPending .. => answered ++ recorded ++ [.boot, .norMem, .norBanks, .nor, .cfg, .upd, .mgt]
  | .commitActionActivateStaged .. => answered ++ recorded ++ [.boot, .norMem, .norBanks, .nor, .cfg, .mgt]
  | .updateGateQuery .. => answered ++ [.mgt]
  | .linkTraining .. => [.port0, .port1, .evs0, .evs1]
  | .laneFailure .. => answered ++ recorded ++ [.trust, .upd, .port0, .port1, .timeouts, .tabMap, .tabNss, .tabKeys,
      .ftlData, .hold, .mqt, .mgt]
  | .configRequest .. => answered ++ recorded ++ [.rcv, .trust, .upd, .port0, .port1, .bmlRid, .bmlPort, .bmlCount,
      .tabMap, .tabNss, .tabKeys, .ftlData, .hold, .mqt, .mgt]
  | .busMasterEnableClear .. => answered ++ recorded ++ [.bmlRid, .bmlPort, .bmlCount, .ftlData, .mgt]
  | .interruptModeChange .. => [.fns, .out]
  | .atsEnableChange .. => [.fns]
  | .atsTranslationCompletion .. => answered
  | .invalidateRequest .. => [.fns]
  | .invalidateCompletion .. => [.fns, .out]
  | .completionTimeout .. => answered ++ [.timeouts]
  | .unexpectedCompletion .. => [.unexpected, .fns]
  | .linkDown .. => answered ++ recorded ++ [.trust, .upd, .port0, .port1, .timeouts, .tabMap, .tabNss, .tabKeys,
      .ftlData, .hold, .mqt, .mgt]
  | .doeObject .. => [.port0, .port1, .evs0, .evs1, .out]
  | .ideCheckFailure .. => recorded ++ [.trust, .fns]
  | .dmaErrorCompletion .. => answered
  | .mmioDoorbellWrite .. => answered ++ [.mqt]
  | .shadowSweep .. => answered
  | .parkTimeout .. => [.fns, .out]
  | .cqHeadReread .. => answered
  | .commandFetch .. => answered ++ recorded ++ [.ftlData, .mgt]
  | .fetchResume .. => [.fns]
  | .deleteIoSq .. => answered ++ [.ftlData, .mgt]
  | .deleteIoCq .. => answered ++ [.mgt]
  | .createIoSq .. => answered ++ [.mgt]
  | .createIoCq .. => answered ++ [.mgt]
  | .getLogPage .. => answered ++ [.mgt, .free]
  | .bootLedgerLog .. => answered ++ [.mgt]
  | .dieHealthLog .. => answered ++ [.mgt, .free]
  | .armatureTraceLog .. => answered ++ [.mgt, .free]
  | .unitStateTableLog .. => answered ++ [.mgt, .free]
  | .parityStatusLog .. => answered ++ [.mgt, .free]
  | .identify .. => answered ++ [.mgt, .free]
  | .abort .. => answered ++ [.mgt]
  | .setFeatures .. => answered ++ [.tabNss, .hold, .mgt]
  | .getFeatures .. => answered ++ [.mgt, .free]
  | .namespaceKeyBinding .. => answered ++ [.tabNss, .hold, .mgt]
  | .packagePowerLimit .. => answered ++ [.mgt]
  | .asynchronousEventRequest .. => answered ++ [.mgt]
  | .namespaceCreate .. => answered ++ [.tabNss, .hold, .mgt]
  | .namespaceDelete .. => answered ++ [.tabNss, .hold, .mgt]
  | .namespaceDeleteComplete .. => answered ++ [.tabMap, .tabNss, .ftlData, .hold]
  | .namespaceAttachment .. => answered ++ [.tabNss, .hold, .mgt]
  | .virtualizationManagement .. => answered ++ recorded ++ [.upd, .ftlData, .mgt]
  | .doorbellBufferConfig .. => answered ++ [.mgt]
  | .deviceSelfTest .. => answered ++ [.mgt]
  | .formatNvm .. => answered ++ [.trust, .tabNss, .hold, .mgt]
  | .sanitize .. => answered ++ [.trust, .tabNss, .hold, .mgt]
  | .sanitizeComplete .. => answered ++ recorded ++ [.trust, .tabMap, .tabNss, .tabKeys, .tabDies, .tab, .media,
      .ftlData, .ftl, .flash, .hold]
  | .ioFlush .. => answered
  | .ioWrite .. => answered ++ recorded ++ [.tab, .ftlData, .hold, .mqt]
  | .ioRead .. => answered ++ recorded ++ [.ftl, .flash]
  | .writeUncorrectable .. => answered ++ recorded ++ [.tabMap, .tab, .ftlData, .hold, .mqt]
  | .ioCompare .. => answered ++ recorded ++ [.ftl, .flash]
  | .writeZeroes .. => answered ++ recorded ++ [.tabMap, .tab, .ftlData, .hold, .mqt]
  | .datasetManagement .. => answered ++ recorded ++ [.tabMap, .tab, .ftlData, .hold, .mqt]
  | .ioVerify .. => answered ++ recorded ++ [.ftl, .flash]
  | .reservationRegister .. => answered ++ [.tabNss, .hold]
  | .reservationReport .. => answered
  | .reservationAcquire .. => answered ++ [.tabNss, .hold]
  | .reservationRelease .. => answered ++ [.tabNss, .hold]
  | .salvageRead .. => answered ++ recorded ++ [.ftl, .flash]
  | .channelTraining .. => recorded ++ [.trust, .nvm, .tabMap, .tabNss, .tabKeys, .tabDies, .tab, .ftlData, .ftl,
      .flash, .hold, .mqt, .mgt, .out]
  | .retrainTrigger .. => [.flash, .evs0, .evs1]
  | .retrainReq .. => [.flash, .evs0, .evs1]
  | .retrainIdleWindow .. => recorded ++ [.trust, .nvm, .tabMap, .tabNss, .tabKeys, .tabDies, .tab, .ftlData, .ftl,
      .flash, .hold, .mqt, .mgt, .out]
  | .retrainForceTimeout .. => [.flash, .evs0, .evs1]
  | .dllLockLoss .. => recorded ++ [.trust, .nvm, .tabMap, .tabNss, .tabKeys, .tabDies, .tab, .ftlData, .ftl, .flash,
      .hold, .mqt, .mgt, .out]
  | .dieOpIssue .. => [.ftlData, .ftl, .flash, .arm]
  | .dieOpComplete .. => recorded ++ [.trust, .nvm, .tabMap, .tabNss, .tabKeys, .tabDies, .tab, .ftlData, .ftl,
      .flash, .hold, .mqt, .mgt, .out]
  | .dieSuspend .. => [.flash]
  | .dieResume .. => [.flash]
  | .dieBusyTimeout .. => recorded ++ [.trust, .nvm, .tabMap, .tabNss, .tabKeys, .tabDies, .tab, .ftlData, .ftl,
      .flash, .hold, .mqt, .mgt, .out]
  | .dieResetComplete .. => recorded ++ [.trust, .nvm, .tabMap, .tabNss, .tabKeys, .tabDies, .tab, .ftlData, .ftl,
      .flash, .hold, .mqt, .mgt, .out]
  | .stripeRowPack .. => recorded ++ [.nvm, .tabDies, .tab, .ftlData, .ftl, .flash, .hold, .mgt, .out]
  | .stripeRowCommit .. => answered ++ recorded ++ [.tabMap, .tabDies, .tab, .media, .ftlData, .ftl, .flash, .hold,
      .mgt]
  | .stripeRowProgramFail .. => recorded ++ [.trust, .nvm, .tabMap, .tabNss, .tabKeys, .tabDies, .tab, .ftlData,
      .ftl, .flash, .hold, .mqt, .mgt, .out]
  | .mergeReadDone .. => recorded ++ [.ftlData, .ftl]
  | .fold .. => recorded ++ [.nvm, .tabDies, .tab, .media, .ftlData, .ftl, .flash, .hold, .mgt, .out]
  | .foldIdleTimeout .. => recorded ++ [.nvm, .tabDies, .tab, .media, .ftlData, .ftl, .flash, .hold, .mgt, .out]
  | .garbageCollection .. => recorded ++ [.nvm, .tabDies, .tab, .media, .ftlData, .ftl, .flash, .hold, .mgt, .out]
  | .staticWearMove .. => recorded ++ [.nvm, .tabDies, .tab, .media, .ftlData, .ftl, .flash, .hold, .mgt, .out]
  | .patrolScan .. => recorded ++ [.ftl]
  | .refresh .. => recorded ++ [.nvm, .tabDies, .tab, .ftlData, .ftl, .flash, .hold, .mgt, .out]
  | .rebuildBand .. => recorded ++ [.nvm, .tabDies, .tab, .media, .ftlData, .ftl, .flash, .hold, .mgt, .out]
  | .resyncComplete .. => recorded ++ [.nvm, .tabMap, .tabDies, .tab, .media, .ftlData, .ftl, .flash, .hold, .mgt,
      .out]
  | .slotFrame .. => recorded ++ [.pwr, .arm]
  | .armSyncEdge .. => recorded ++ [.pwr, .arm]
  | .indexPulseMissing .. => recorded ++ [.pwr, .arm]
  | .tokenRefill => [.arm]
  | .injectDone .. => [.arm, .evs0, .evs1]
  | .tuningWindowExpiry => [.arm, .evs0, .evs1]
  | .armReadConfig .. => answered ++ [.mgt]
  | .armWriteConfig .. => answered ++ [.pwr, .arm, .mgt]
  | .armSetModeNormal .. => answered ++ [.arm, .mgt]
  | .armSetModeTrace .. => answered ++ [.arm, .mgt]
  | .armSetModeInject .. => answered ++ [.arm, .mgt]
  | .armSetWindow .. => answered ++ [.arm, .mgt]
  | .armSetPolicy .. => answered ++ [.arm, .hold, .mgt]
  | .cfgStageCommit .. => recorded ++ [.boot, .norMem, .norBanks, .nor, .cfg, .hold]
  | .policyRegisterWrite .. => [.ftl, .hold]
  | .configRecordUpdate .. => recorded ++ [.boot, .norMem, .norBanks, .nor, .cfg, .hold]
  | .chargerBankCheck .. => recorded ++ [.pwr, .arm, .hold, .out]
  | .chargerCharged .. => [.arm, .hold, .evs0, .evs1]
  | .chargerStallTimeout .. => recorded ++ [.pwr, .hold, .mgt, .out]
  | .chargerMeasureStart => [.hold, .evs0, .evs1]
  | .chargerMeasureDone .. => [.tab, .arm, .hold, .evs0, .evs1]
  | .chargerMeasureTimeout => [.hold, .evs0, .evs1]
  | .vholdUndervolt .. => recorded ++ [.pwr, .arm, .hold, .mgt, .out]
  | .vholdOvervolt .. => recorded ++ [.pwr, .arm, .hold, .mgt, .out]
  | .restart .. => answered ++ recorded ++ [.pwr, .boot, .norMem, .norBanks, .nor, .cfg, .trust, .tabMap, .tabNss,
      .tabKeys, .tabDies, .tab, .media, .ftlData, .ftl, .flash, .arm, .hold, .mqt, .mgt]
  | .checkpointStart .. => [.hold, .free]
  | .checkpointCommit .. => [.media, .hold, .evs0, .evs1, .free]
  | .segmentWrite .. => [.hold]
  | .segmentCommit .. => [.media, .hold, .free]
  | .exportStart .. => answered ++ recorded ++ [.trust, .mqt, .mgt]
  | .exportRound .. => answered ++ [.mqt, .mgt]
  | .exportStop .. => answered ++ [.mqt, .mgt]
  | .exportRead .. => answered ++ recorded ++ [.trust, .ftl, .flash, .mqt, .mgt]
  | .closeResume .. => answered ++ recorded ++ [.mqt, .mgt]
  | .closeRetire .. => answered ++ recorded ++ [.ftlData, .mqt, .mgt]
  | .importBegin .. => answered ++ recorded ++ [.mqt, .mgt]
  | .importWrite .. => answered ++ recorded ++ [.trust, .tabMap, .tabNss, .tabKeys, .tab, .media, .ftlData, .hold,
      .mqt, .mgt]
  | .importFinish .. => answered ++ recorded ++ [.trust, .tabMap, .tabNss, .tabKeys, .ftlData, .hold, .mqt, .mgt]
  | .importActivate .. => answered ++ recorded ++ [.tabNss, .hold, .mqt, .mgt]
  | .importAbort .. => answered ++ [.trust, .tabMap, .tabNss, .tabKeys, .ftlData, .hold, .mqt, .mgt]
  | .mctpPacket .. => answered ++ recorded ++ [.rcv, .trust, .mgt]
  | .mctpSetEndpointId .. => [.mgt, .out]
  | .mctpGetEndpointId => [.out]
  | .mctpGetEndpointUuid => [.out]
  | .mctpGetVersionSupport .. => [.out]
  | .mctpGetMessageTypeSupport => [.out]
  | .i3cEntdaa .. => [.mgt, .evs0, .evs1, .out]
  | .i3cSetdasa .. => [.mgt, .evs0, .evs1, .out]
  | .i3cRstdaa => [.mgt, .evs0, .evs1, .out]
  | .i3cEnec .. => [.mgt]
  | .i3cDisec .. => [.mgt]
  | .i3cGetpid => [.out]
  | .i3cGetbcr => [.free, .out]
  | .i3cGetdcr => [.free, .out]
  | .i3cGetmrl => [.out]
  | .i3cGetmwl => [.out]
  | .i3cSetmrl .. => [.mgt]
  | .i3cSetmwl .. => [.mgt]
  | .i3cGetstatus => [.free, .out]
  | .miReadDataStructure .. => [.out]
  | .miSubsystemHealthPoll .. => [.mgt, .free, .out]
  | .miControllerHealthPoll .. => [.free, .out]
  | .miConfigurationSet .. => [.mgt, .out]
  | .miConfigurationGet .. => [.out]
  | .vpdRead .. => [.mgt, .out]
  | .vpdWrite .. => recorded ++ [.boot, .norMem, .norBanks, .nor, .cfg, .mgt, .out]
  | .miReset .. => answered ++ recorded ++ [.trust, .upd, .tabMap, .tabNss, .tabKeys, .ftlData, .hold, .mqt, .mgt]
  | .snapshotCopy => recorded ++ [.mgt]
  | .kscEnableChange .. => [.ksc, .evs0, .evs1, .free]
  | .snapNow => [.ksc, .evs0, .evs1]
  | .kscPeriodicSnapshot => [.ksc, .evs0, .evs1]
  | .kscSync => [.ksc, .evs0, .evs1, .free]
  | .evsSummarySignal .. => answered
  | .evsPendingWrite .. => [.evs0, .evs1]
  | .evsEnableWrite .. => [.evs0, .evs1]
  | .evsRearm .. => answered
  | .upperWordLatchRead .. => [.latch, .free, .out]
  | .registerWrite .. => answered ++ recorded ++ [.pwr, .boot, .rcv, .norMem, .norBanks, .nor, .cfg, .trust, .port0,
      .port1, .ctoMs, .ctoBad, .ctoOverride, .bmlCount, .timeouts, .unexpected, .tabKeys, .tab, .ftlData, .ftl,
      .flash, .arm, .hold, .mqt, .mgt, .latch]
  | .armrefReturn => [.pwr, .evs0, .evs1, .out]
  | .xt32Return => [.pwr]
  | .vauxLoss => [.pwr, .vault]
  | .controllerEnable .. => [.fns, .nvm, .mqt, .mgt, .out]
  | .msixVectorUnmask .. => [.fns, .out]
  | .interruptMaskWrite .. => [.fns, .mqt, .out]
  | .interruptCoalescingTimeout .. => [.fns, .out]
  | .deviceSelfTestComplete .. => [.nvm]
  | .formatNvmComplete .. => answered ++ recorded ++ [.trust, .tabMap, .tabNss, .tabKeys, .media, .ftlData, .hold,
      .mqt]
  | .updateGateRefresh => [.upd, .evs0, .evs1]
  | .aspmL1Entry .. => [.port0, .port1, .evs0, .evs1]
  | .l1Exit .. => [.port0, .port1, .evs0, .evs1]
  | .l0pWidthChange .. => [.port0, .port1, .evs0, .evs1]

/-- The function that a command of one controller's own queues and interrupts acts on: it leaves the others alone. -/
def onlyFunction : Instr → Option Func
  | .mmioDoorbellWrite f _ _ _ => some f
  | .shadowSweep f _ _ => some f
  | .parkTimeout f _ => some f
  | .cqHeadReread f _ _ => some f
  | .commandFetch f _ => some f
  | .fetchResume f => some f
  | .interruptMaskWrite f _ _ => some f
  | .msixVectorUnmask f _ => some f
  | .interruptCoalescingTimeout f => some f
  | .deleteIoSq t _ => fnOfTag t
  | .deleteIoCq t _ => fnOfTag t
  | .abort t _ _ => fnOfTag t
  | .doorbellBufferConfig t _ _ => fnOfTag t
  | _ => none
where
  /-- The function that a command's queue belongs to. -/
  fnOfTag (t : Tag) : Option Func := match t.src with | .fn f => some f | .mgt => none

end Sys2Proof.Machine
end

