-- ==== Sys2Proof/Machine/Pins.lean ====
section
/-! DEFINITION. What the device drives on its balls (R39, R49, R59, R63, R71, R81, R82, R584, R588): a function of the state.
Levels that protocols of other standards give (PCIe, ONFI, DDR5, I3C) are `operating`. -/
namespace Sys2Proof.Machine

/-- Balls and ball groups by what R59 says of them. -/
inductive Ball where
  | pcieTx | pcieClkreq | mgtSclSda | mgtAlert | chgGate | holdEn | kscClk | kscD
  /-- CE_N, WE_N and RE_T of a NAND channel, its WP_N, and its other balls -/
  | nandSelect (ch : Nat) | nandWp (ch : Nat) | nandOther (ch : Nat)
  /-- RESET_N of a DDR5 channel, its CK, and its other balls -/
  | ddrReset (m : Nat) | ddrCk (m : Nat) | ddrOther (m : Nat)
  | calibration | crystal | input
  deriving DecidableEq, Repr

/-- What a ball carries. -/
inductive Drive where
  | low | high | released | highZ
  /-- PCIe transmitter in electrical idle -/
  | idle
  /-- clock stopped -/
  | stopped
  | biased | running
  /-- as Plinth and firmware set it (R82) -/
  | operating
  deriving DecidableEq, Repr

/-- The columns "Unpowered" and "Reset" of R59, a reset state that pulls to low being low. -/
def unpoweredDrive : Ball → Drive
  | .chgGate | .holdEn => .low
  | _ => .highZ

/-- The column "Reset" of R59; the oscillator runs while VAUX is present. -/
def resetDrive (vaux : Bool) : Ball → Drive
  | .pcieTx => .idle
  | .pcieClkreq | .mgtSclSda | .mgtAlert => .released
  | .chgGate | .holdEn | .kscClk | .kscD => .low
  | .nandSelect _ => .high
  | .nandWp _ => .low
  | .nandOther _ => .highZ
  | .ddrReset _ => .low
  | .ddrCk _ => .stopped
  | .ddrOther _ => .highZ
  | .calibration => .biased
  | .crystal => if vaux then .running else .highZ
  | .input => .highZ

/-- A Fundamental reset is active: MGT_*, CHG_GATE and HOLD_EN keep working (R82). -/
def fundamentalHeld (s : State) : Bool :=
  decide (s.pwr.phase = .inReset) && decide (s.pwr.kind = .fundamental ∨ s.pwr.kind = .internalFundamental)

/-- A ball that keeps working through a Fundamental reset. -/
def Ball.keptWorking : Ball → Bool
  | .mgtSclSda | .mgtAlert | .chgGate | .holdEn => true
  | _ => false

/-- MGT_ALERT_N in SMBus mode follows its causes; in I3C mode it is never driven (R584). -/
def alertDrive (s : State) : Drive := if !s.mgt.i3c && hscAlert s then .low else .released

/-- A ball while the device works. -/
def workingDrive (s : State) : Ball → Drive
  | .chgGate => if s.pwr.chgGateHeld then .low else .operating
  | .holdEn => if s.pwr.holdEn then .high else .low
  | .mgtAlert => alertDrive s
  | .kscClk | .kscD => if s.ksc.active then .operating else .low
  | .crystal => if s.pwr.xt32Ok then .running else .operating
  | .calibration => .biased
  | .input => .highZ
  | _ => .operating

/-- What a ball carries: rails down, in reset or stopped, or working (R49, R59, R82; after flush complete every pin takes its
reset state, R71). -/
def driveOf (s : State) (b : Ball) : Drive :=
  if s.pwr.phase = .off then unpoweredDrive b
  else if powered s || (fundamentalHeld s && b.keptWorking) then workingDrive s b
  else resetDrive s.pwr.vauxOk b

end Sys2Proof.Machine
end

