-- ==== Sys2Proof/Certificates/Slice0/Obligations.lean ====
section
/-! DEFINITION. The statements for the provers, chapter by chapter of the spec. The rules in brackets are those a statement
rests on: of them it states what its clauses say. Every meaning has a clause that says where its command completes; what a
command may change is stated for all of them at once in `CommandsChangeOnlyTheirParts`. -/

open Sys2Proof Sys2Proof.Machine

/-! ## Power, resets and boot (chapters 02, 03) -/

/-- What a Cold, Power-on or Fundamental reset clears, and what it never touches (R37, R82, R83, R93, R137). -/
def Obligations.WideResetsClearRegisters : Prop :=
  (∀ s, ∃ t, exec .coldReset s = .next t ∧ t.pwr.phase = .inReset ∧ t.pwr.kind = .cold ∧ t.pwr.pwrfailCount = 0 ∧
    t.pwr.chgGateHeld = true ∧ t.pwr.pwrfailLvl = true ∧ t.pwr.vauxOk = true ∧ t.vault = VaultRec.reset ∧
    Safety.restarted s t) ∧
  (∀ s, ∃ t, exec .powerOnReset s = .next t ∧ t.pwr.phase = .inReset ∧ t.pwr.kind = .powerOn ∧
    t.pwr.pwrfailCount = s.pwr.pwrfailCount ∧ t.pwr.chgGateHeld = true ∧ t.pwr.pwrfailLvl = true ∧ t.vault = s.vault ∧
    Safety.restarted s t) ∧
  (∀ s r, s.pwr.phase = .released → s.pwr.flush = none → ∃ t, exec (.fundamentalReset .internal r) s = .next t ∧
    t.pwr.phase = .released ∧ t.pwr.kind = .internalFundamental ∧ t.pwr.pwrfailCount = s.pwr.pwrfailCount ∧
    t.pwr.straps = s.pwr.straps ∧ t.pwr.strapDue = true ∧ t.boot.phase = .optionLoad ∧ t.vault = s.vault ∧
    Safety.restarted s t)

/-- Release of internal reset, the wait for PWRFAIL_N, and the strap sample (R48, R54, R567). -/
def Obligations.ReleaseSamplesStraps : Prop :=
  (∀ s, s.pwr.phase = .inReset → ∃ t, exec (.internalResetRelease true) s = .next t ∧ t.pwr.phase = .released ∧
    t.pwr.strapDue = true ∧ t.boot.phase = .optionLoad ∧ Same [.pwr, .boot] s t) ∧
  (∀ s, s.pwr.phase = .inReset → ∃ t, exec (.internalResetRelease false) s = .next t ∧
    t.pwr.phase = .heldByPwrfail ∧ Same [.pwr] s t) ∧
  (∀ s, s.pwr.phase = .heldByPwrfail → ∃ t, exec .pwrfailReleaseWait s = .next t ∧ t.pwr.phase = .released ∧
    t.boot.phase = .optionLoad ∧ Same [.pwr, .boot] s t) ∧
  (∀ s l, s.pwr.strapDue = true → s.pwr.phase = .released → ∃ t, exec (.strapSample l) s = .next t ∧
    t.pwr.straps = l ∧ t.pwr.strapDue = false ∧ t.mgt.addr = 0x58 + l.mgtAddr.setWidth 7 ∧
    Same [.pwr, .mgt, .evs0, .evs1, .out] s t)

/-- A power fail, a thermal trip or a loss of SYSREF starts one flush, and the device then stops (R71, R72, R78, R81,
R84); a brown-out stops it at once (R49). -/
def Obligations.PowerFailFlushesThenStops : Prop :=
  (∀ s r, s.pwr.phase = .released → s.pwr.flush = none → ∃ t f, exec (.pwrfailFall r) s = .next t ∧
    t.pwr.flush = some f ∧ f.cause = 1 ∧ f.tripped = false ∧ t.pwr.pwrfailLvl = false ∧ t.pwr.holdEn = true ∧
    t.pwr.chgGateHeld = true ∧ t.pwr.pwrfailCount = satAdd s.pwr.pwrfailCount 1 ∧
    Same [.pwr, .evr, .tabDies, .media, .flash, .arm, .hold, .ksc, .evs0, .evs1, .free, .out] s t) ∧
  (∀ s r, s.pwr.phase = .released → s.pwr.flush = none → ∃ t f, exec (.thermalTrip r) s = .next t ∧
    t.pwr.flush = some f ∧ f.cause = 4 ∧ t.pwr.holdEn = true ∧ t.pwr.chgGateHeld = true ∧
    t.pwr.pwrfailCount = satAdd s.pwr.pwrfailCount 1 ∧
    Same [.pwr, .evr, .tabDies, .media, .flash, .arm, .hold, .ksc, .evs0, .evs1, .free, .out] s t) ∧
  (∀ s r, s.pwr.phase = .released → s.pwr.flush = none → ∃ t f, exec (.sysrefLoss r) s = .next t ∧
    t.pwr.flush = some f ∧ f.cause = 6 ∧ t.pwr.holdEn = true ∧ t.pwr.chgGateHeld = true ∧
    Same [.pwr, .evr, .tabDies, .media, .flash, .arm, .hold, .ksc, .evs0, .evs1, .free, .out] s t) ∧
  (∀ s f, s.pwr.flush = some f → (f.cause ≠ 1 ∨ f.tripped = true) → ∀ high, ∃ t,
    exec (.flushComplete high) s = .next t ∧ t.pwr.phase = .stopped ∧ t.pwr.flush = none ∧
    ∀ b, driveOf t b = resetDrive s.pwr.vauxOk b) ∧
  (∀ s f, s.pwr.flush = some f → f.cause = 1 → f.tripped = false → ∃ t,
    exec (.flushComplete true) s = .next t ∧ t.pwr.phase = .inReset ∧ t.pwr.kind = .powerOn ∧
    t.pwr.restartLatch = true) ∧
  (∀ s f high, s.pwr.flush = some f → s.boot.phase ≠ .optionFault → (high = true → f.cause ≠ 1 ∨ f.tripped = true) →
    ∃ t, exec (.flushComplete high) s = .next t ∧
    t.cfg = (writeStop (stopIndex s) f.flushMs f.dumped (if f.tripped then 4 else f.cause) f.stopOk s).cfg) ∧
  (∀ s, s.pwr.phase = .released → ∃ t, exec .brownOut s = .next t ∧ t.pwr.phase = .stopped ∧ t.pwr.flush = none ∧
    t.cfg = s.cfg ∧ (portState t .p0).up = false ∧ (portState t .p1).up = false ∧
    (∀ b, driveOf t b = resetDrive s.pwr.vauxOk b) ∧ Same [.pwr, .port0, .port1, .ksc, .evs0, .evs1, .free, .out] s t)

/-- Clock and VAUX losses and returns (R81, R87, R120, R472). -/
def Obligations.ClockLossesLatch : Prop :=
  (∀ s, s.pwr.armrefOk = true → ∃ t, exec .armrefLoss s = .next t ∧ t.pwr.armrefOk = false ∧
    t.pwr.armrefLost = true ∧ t.pwr.chgGateHeld = true ∧ limitMib t = 0) ∧
  (∀ s, s.pwr.armrefOk = false → ∃ t, exec .armrefReturn s = .next t ∧ t.pwr.armrefOk = true ∧
    t.pwr.chgGateHeld = (s.pwr.flush.isSome || !charging s.hold.chg) ∧ Same [.pwr, .evs0, .evs1, .out] s t) ∧
  (∀ s, s.pwr.xt32Ok = true → ∃ t, exec .xt32Loss s = .next t ∧ t.pwr.xt32Ok = false ∧ t.pwr.xt32Lost = true ∧
    t.vault.fpDisabled = true) ∧
  (∀ s, ∃ t, exec .xt32Return s = .next t ∧ t.pwr.xt32Ok = true ∧ t.vault = s.vault ∧ Same [.pwr] s t) ∧
  (∀ s, ∃ t, exec .vauxLoss s = .next t ∧ t.pwr.vauxOk = false ∧ t.vault = VaultRec.reset ∧ Same [.pwr, .vault] s t)

/-- The resets of functions, links and the subsystem (R308, R309, R311, R352), the shutdown notification, and the register
write of a Frozen tenant (R545). -/
def Obligations.FunctionResetsClearControllers : Prop :=
  (∀ s f, mmioOk s f = true → (fnOf s f).frozen = false → (fnOf s f).ctrl.en = true → ∃ t,
    exec (.controllerReset f) s = .next t ∧
    (fnOf t f).ctrl = { Ctrl.reset with cfs := (fnOf s f).fatal && !(fnOf s f).cfg.bme } ∧
    (fnOf t f).cfg = (fnOf s f).cfg ∧ (fnOf t f).ats = (fnOf s f).ats ∧ (fnOf t f).vq = (fnOf s f).vq ∧
    (fnOf t f).vi = (fnOf s f).vi ∧ (fnOf t f).online = (fnOf s f).online ∧
    Same [.evr, .upd, .fns, .nvm, .ftlData, .mgt, .ksc, .evs0, .evs1, .free, .out] s t) ∧
  (∀ s f, mmioOk s f = true → (fnOf s f).frozen = true → exec (.controllerReset f) s = .next (frozenWrite s) ∧
    exec (.shutdownNotification f) s = .next (frozenWrite s)) ∧
  (∀ s f, running s = true → fnPresent s f = true → f.vf < 128 → ∃ t, exec (.flr f) s = .next t ∧
    fnOf t f = { Fn.reset with vq := (fnOf s f).vq, vi := (fnOf s f).vi, online := (fnOf s f).online } ∧
    (∀ g, g.vf < 128 → coveredBy f g = true → g ≠ f →
      fnOf t g = { Fn.reset with vq := (fnOf s g).vq, vi := (fnOf s g).vi }) ∧
    (doeOwner s f = true → ideOf t f.pf = Ide.reset ∧ spdmOf t (.doe f.pf) = Spdm.reset)) ∧
  (∀ s pf, running s = true → (fnOf s ⟨pf, 0⟩).cfg.vfEn = true → ∃ t, exec (.vfEnableClear pf) s = .next t ∧
    fnOf t ⟨pf, 0⟩ = { fnOf s ⟨pf, 0⟩ with cfg.vfEn := false } ∧
    (∀ n, 0 < n → n < 128 → fnOf t ⟨pf, n⟩ =
      { Fn.reset with vq := (fnOf s ⟨pf, n⟩).vq, vi := (fnOf s ⟨pf, n⟩).vi, online := (fnOf s ⟨pf, n⟩).online })) ∧
  (∀ s p, s.pwr.phase = .released → ∃ t, exec (.linkReset p) s = .next t ∧ (portState t p).up = false ∧
    (portState t p).rate = 0 ∧ ideOf t p = Ide.reset ∧ spdmOf t (.doe p) = Spdm.reset ∧
    (∀ g, g.vf < 128 → portOf (bifurc s) g = p →
      fnOf t g = { Fn.reset with vq := (fnOf s g).vq, vi := (fnOf s g).vi }) ∧
    (∀ g, g.vf < 128 → portOf (bifurc s) g ≠ p → fnOf t g = fnOf s g)) ∧
  (∀ s, running s = true → ∃ t, exec (.subsystemReset 0x4E564D65) s = .next t ∧ ∀ f, f.vf < 128 →
    (fnOf t f).ctrl = Ctrl.reset ∧ (fnOf t f).online = false ∧ (fnOf t f).frozen = false ∧
    (fnOf t f).retired = false ∧ (fnOf t f).cfg = (fnOf s f).cfg ∧ (fnOf t f).vq = (fnOf s f).vq ∧
    (fnOf t f).vi = (fnOf s f).vi) ∧
  (∀ s v, v ≠ 0x4E564D65 → exec (.subsystemReset v) s = .next s) ∧
  (∀ s f, mmioOk s f = true → (fnOf s f).frozen = false → s.hold.restarted = true → (fnOf s f).ctrl.en = true → ∃ t,
    exec (.shutdownNotification f) s = .next t ∧ (fnOf t f).ctrl.shst = 2 ∧ t.boot.shutdownDone = true ∧
    t.hold.ckptRun.isSome = true ∧ Same [.boot, .fns, .hold, .free] s t)

/-- The option load, Plinth and the first work of firmware (R89, R90, R92, R94, R95, R98, R112, R125, R177, R280). What an
attempt senses is the burned array with the bits it senses otherwise inverted (log 145). -/
def Obligations.BootReachesFirmwareOrRecovery : Prop :=
  (∀ s x, s.pwr.phase = .released → s.boot.phase = .optionLoad → s.pwr.flush = none →
    sha (staticBytes (sensed s.fuses.array x)) = (sensed s.fuses.array x).digest →
    ∃ t, exec (.optionLoadAttempt x) s = .next t ∧ t.boot = { s.boot with phase := .plinth } ∧
    t.fuses = { s.fuses with
      attempts := s.fuses.attempts + 1, shadow := some (sensed s.fuses.array x),
      counters := some { svnMin := s.fuses.svnMin, keyRevoke := s.fuses.keyRevoke, kscOff := s.fuses.kscOff } } ∧
    (s.trust.ladderLocked = false → t.trust.configKeys = true ∧
      t.trust.keys.cfg = some (kdf (beBytes 64 (sensed s.fuses.array x).uds.toNat) "TZ-CFG" [])) ∧
    Same [.fuses, .boot, .trust] s t) ∧
  (∀ s x, s.pwr.phase = .released → s.boot.phase = .optionLoad → s.pwr.flush = none →
    sha (staticBytes (sensed s.fuses.array x)) ≠ (sensed s.fuses.array x).digest → s.fuses.attempts + 1 < 3 →
    exec (.optionLoadAttempt x) s = .next { s with fuses.attempts := s.fuses.attempts + 1 }) ∧
  (∀ s x, s.pwr.phase = .released → s.boot.phase = .optionLoad → s.pwr.flush = none →
    sha (staticBytes (sensed s.fuses.array x)) ≠ (sensed s.fuses.array x).digest →
    3 ≤ s.fuses.attempts + 1 → ∃ t, exec (.optionLoadAttempt x) s = .next t ∧ t.boot.phase = .optionFault ∧
    t.rcv.optFault = true ∧ t.pwr.chgGateHeld = true ∧ t.nvm.watts = 12 ∧ t.hold.chg = .off ∧
    t.fuses = { s.fuses with attempts := s.fuses.attempts + 1 }) ∧
  (∀ s e, s.pwr.phase = .released → s.boot.phase = .plinth → s.pwr.flush = none → e.ddrOk = false →
    ∃ t, exec (.plinthBoot e) s = .next t ∧ t.boot.phase = .recovery ∧ t.rcv.dramFail = true ∧
    t.trust.ladderLocked = true ∧ t.trust.keys.cdi0 = none ∧ t.trust.keys.devidK = none) ∧
  (∀ s e, s.pwr.phase = .released → s.boot.phase = .plinth → s.pwr.flush = none → e.ddrOk = true →
    ∃ t, exec (.plinthBoot e) s = .next t ∧ t.trust.ladderLocked = true ∧ t.trust.keys.cdi0 = none ∧
    t.trust.keys.devidK = none ∧
    match chooseSlot (plinthP3 e s) e s.vault (candidates (plinthP3 e s)) [] with
    | (none, r) => t.boot.phase = .recovery ∧ t.rcv.dramFail = false ∧ t.boot.refused = refusedBits r
    | (some (c, _), r) => t.boot.phase = .firmware ∧ t.boot.slot = BitVec.ofNat 2 (slotCode c.1) ∧
      t.boot.refused = refusedBits r ∧ t.boot.bootIndex = newestBootIndex s + 1 ∧
      t.boot.trial = decide (c.2 = BootAs.trial) ∧ t.boot.armed = decide (c.2 = BootAs.trial) ∧
      t.trust.identity = true) ∧
  (∀ s, running s = true → s.boot.cfgBuilt = false →
    exec .configSpaceBuild s = .next { s with boot.cfgBuilt := true, boot.ddt := deviceTable s })

/-- A trial boot ends confirmed or by its watchdog, and deep sleep is armed with the Vault record (R116 to R118, R120,
R121, R139, R267). -/
def Obligations.TrialBootIsConfirmedOrRestarted : Prop :=
  (∀ s r, running s = true → s.boot.armed = true → ∃ t, exec (.trialWatchdogExpiry r) s = .next t ∧
    t.boot.phase = .optionLoad ∧ t.boot.watchdogFired = true ∧ t.pwr.kind = .internalFundamental) ∧
  (∀ s e i, running s = true → s.boot.trial = true → s.boot.armed = true → s.boot.confirmed = false →
    mayConfirm s = true → slotOfCode s.boot.slot.toNat = some i → canStore .boot s = true →
    ∃ t, exec (.trialConfirm e true) s = .next t ∧ t.boot.armed = false ∧ t.boot.confirmed = true ∧
    t.boot.remainingS = 0 ∧ t.cfg = (storeRecord (.boot (confirmRec (bootRecBase s) i)) true s).cfg) ∧
  (∀ s e i, running s = true → s.boot.trial = true → s.boot.armed = true → s.boot.confirmed = false →
    mayConfirm s = true → slotOfCode s.boot.slot.toNat = some i →
    ∃ t, exec (.trialConfirm e false) s = .next t ∧ t.boot = s.boot ∧ t.fuses = s.fuses) ∧
  (∀ s w, running s = true → s.boot.shutdownDone = true → dirtyBytes s = 0 → s.pwr.xt32Ok = true →
    s.pwr.vauxOk = true → exec (.deepSleepArm w) s = .next { s with vault := VaultRec.signed s {
      mac := none, dsEntry := true, fpDisabled := s.vault.fpDisabled, writeGen := s.nor.writeGen,
      slot := (slotOfCode s.boot.slot.toNat).getD .g, svn := s.boot.svn, root := s.boot.rootDigest,
      entryTime := w } })

/-- The recovery mailbox: its commands, what each needs, and what each leaves (R126 to R133, R141, R576, R577). -/
def Obligations.RecoveryCommandsComplete : Prop :=
  (∀ s p, rcvPresented s = true → ∃ t, exec (.rcvStatus p) s = .next t ∧ t.rcv.code = 0 ∧ t.rcv.busy = false ∧
    t.rcv.session = s.rcv.session) ∧
  (∀ s p, rcvPresented s = true → s.rcv.session = none → ∃ t, exec (.rcvOpen p) s = .next t ∧ t.rcv.code = 0 ∧
    t.rcv.session = some p ∧ t.rcv.erased = [] ∧ t.rcv.written = [] ∧ t.rcv.verified = []) ∧
  (∀ s p q, rcvPresented s = true → s.rcv.session = some q → q ≠ p → ∃ t, exec (.rcvOpen p) s = .next t ∧
    t.rcv.code = 6 ∧ t.rcv.session = some q) ∧
  (∀ s p, rcvPresented s = true → s.rcv.session = some p → ∃ t, exec (.rcvClose p) s = .next t ∧ t.rcv.code = 0 ∧
    t.rcv.session = none) ∧
  (∀ s p a i, rcvPresented s = true → s.rcv.optFault = false → s.rcv.session = some p → rcvSlot a = some i →
    slotRetired s i = false → ∃ t, exec (.rcvEraseSlot p a true) s = .next t ∧ t.rcv.code = 0 ∧
    i ∈ t.rcv.erased ∧ i ∉ t.rcv.verified ∧ t.nor = (eraseSectors (slotSectors i) s).nor) ∧
  (∀ s p a i ok, rcvPresented s = true → s.rcv.optFault = false → s.rcv.session = some p → rcvSlot a = some i →
    (ok = false ∨ slotRetired s i = true) → ∃ t, exec (.rcvEraseSlot p a ok) s = .next t ∧ t.rcv.code = 7 ∧
    i ∉ t.rcv.erased ∧ i ∉ t.rcv.verified) ∧
  (∀ s a0 a1 a2 i d, rcvPresented s = true → s.rcv.optFault = false → s.rcv.session = some .mgt →
    rcvSlot a0 = some i → a1.toNat % 64 = 0 → a2.toNat % 64 = 0 → 0 < a2.toNat → a2.toNat ≤ 1024 →
    a1.toNat + a2.toNat ≤ slotBytes → d.length = a2.toNat → i ∈ s.rcv.erased →
    (∀ u ∈ chunkUnits a1.toNat a2.toNat, (i, u) ∉ s.rcv.written) →
    ∃ t, exec (.rcvWriteChunk .mgt a0 a1 a2 d true) s = .next t ∧
    t.rcv.code = (if rangeDone s (slotBase i + a1.toNat) a2.toNat then 7 else 0) ∧
    t.rcv.written = s.rcv.written ++ (chunkUnits a1.toNat a2.toNat).map (fun u => (i, u)) ∧ i ∉ t.rcv.verified ∧
    t.nor = (programRange (slotBase i + a1.toNat) d s).nor) ∧
  (∀ s p a e i, rcvPresented s = true → s.rcv.optFault = false → s.rcv.session = some p → rcvSlot a = some i →
    ∃ t, exec (.rcvVerify p a e) s = .next t ∧ (if imageOk s i e = true then t.rcv.code = 0 ∧ i ∈ t.rcv.verified
      else t.rcv.code = 3 ∧ i ∉ t.rcv.verified)) ∧
  (∀ s p a g i, rcvPresented s = true → s.rcv.optFault = false → s.rcv.session = some p → rcvSlot a = some i →
    i ∈ s.rcv.verified → ownerLocked s = false → canStore .boot s = true →
    ∃ t, exec (.rcvCommit p a [] g true) s = .next t ∧ t.rcv.code = 0 ∧
    t.cfg = (storeRecord (.boot ((bootRecBase s).pending i (slotRoot s i))) true s).cfg) ∧
  (∀ s p a b c d e g r ok, rcvPresented s = true → s.rcv.session ≠ some p →
    ∀ i ∈ [Instr.rcvEraseSlot p a ok, .rcvWriteChunk p a b c d ok, .rcvVerify p a e, .rcvCommit p a d g ok,
      .rcvReboot p r], s.rcv.optFault = false ∨ i = .rcvReboot p r → ∃ t, exec i s = .next t ∧ t.rcv.code = 6 ∧
    (t.rcv.session, t.rcv.erased, t.rcv.written, t.rcv.verified) =
      (s.rcv.session, s.rcv.erased, s.rcv.written, s.rcv.verified) ∧ Same [.rcv, .out] s t) ∧
  (∀ s p a b c d e g ok, rcvPresented s = true → s.rcv.optFault = false → s.rcv.session = some p → rcvSlot a = none →
    ∀ i ∈ [Instr.rcvEraseSlot p a ok, .rcvWriteChunk p a b c d ok, .rcvVerify p a e, .rcvCommit p a d g ok],
    ∃ t, exec i s = .next t ∧ t.rcv.code = 2 ∧ (t.rcv.erased, t.rcv.written, t.rcv.verified) =
      (s.rcv.erased, s.rcv.written, s.rcv.verified) ∧ Same [.rcv, .out] s t) ∧
  (∀ a, rcvSlot a = if a = 1 then some .a else if a = 2 then some .b else none) ∧
  (∀ s p r, rcvPresented s = true → s.rcv.session = some p → ∃ t, exec (.rcvReboot p r) s = .next t ∧
    t.boot.phase = .optionLoad ∧ t.pwr.kind = .internalFundamental ∧ t.rcv = Rcv.reset) ∧
  (∀ s o u, o < dieBytes → rcvPresented s = true → spareSector (sectorOf (o / 4 * 4)) = false →
    (∀ n, (bankOf s (bankOfOffset (o / 4 * 4))).run ≠ some (.remap n)) →
    exec (.recoveryWindowRead o u) s = .next (emit (.access (windowAnswer s (o / 4 * 4) u))
      (if (bankOf s (bankOfOffset (o / 4 * 4))).seq = .idle then s else seqError (bankOfOffset (o / 4 * 4)) s))) ∧
  (∀ s o u n, o < dieBytes → rcvPresented s = true → spareSector (sectorOf (o / 4 * 4)) = false →
    (bankOf s (bankOfOffset (o / 4 * 4))).run = some (.remap n) →
    (bankOf s (bankOfOffset (o / 4 * 4))).seq = .idle → exec (.recoveryWindowRead o u) s =
      .next { s with rcv.windowHeld := s.rcv.windowHeld ++ [(o / 4 * 4, u)] }) ∧
  (∀ s o u, o < dieBytes → rcvPresented s = true → spareSector (sectorOf (o / 4 * 4)) = true →
    exec (.recoveryWindowRead o u) s = .next (emit (.access (.value 0xFFFFFFFF)) s)) ∧
  (∀ s u, rcvPresented s = true →
    ∀ x ∈ [(0x10000000, 0), (0x10000004, s.rcv.arg0), (0x10000008, s.rcv.arg1), (0x1000000C, s.rcv.arg2),
      (0x10000010, rcvWord s), (0x10010000, 0)],
    exec (.recoveryWindowRead x.1 u) s = .next (emit (.access (.value x.2)) s)) ∧
  (∀ s o u, rcvBarBytes ≤ o → exec (.recoveryWindowRead o u) s = .fault (.noSuchOffset o))

/-! ## The Image Array (chapter 04) -/

/-- A complete command sequence, taken in an idle bank, starts the operation it names and advances WRITE_GEN once; the
array does not change before the operation completes (R145, R148, R149, R164). -/
def Obligations.ArraySequencesStartOperations : Prop :=
  (∀ s u page len first words sent, ledgerFirst (bankOfOffset page) s = u → norReachable u = true →
    (bankOf u (bankOfOffset page)).seq = .idle →
    bankBusy (bankOf u (bankOfOffset page)) = false → page % 512 = 0 → lenOk len.toNat = true → first % 32 = 0 →
    page ≤ first → first + len.toNat ≤ page + 512 → 4 * words.length = len.toNat → words.length + 5 ≤ sent →
    spareSector (sectorOf first) = false → (bankOf u (bankOfOffset page)).suspErase ≠ some (sectorOf first) →
    sectorLocked u (sectorOf first) = false →
    ∃ t r, exec (.iaProgram page len first words sent) s = .next t ∧
      (bankOf t (bankOfOffset page)).run = some (.program first (words.flatMap fun w => leBytes 4 w.toNat) r) ∧
      (bankOf t (bankOfOffset page)).seq = .idle ∧ t.nor.writeGen = u.nor.writeGen + 1 ∧ t.nor.mem = u.nor.mem ∧
      t.nor.programmed = u.nor.programmed) ∧
  (∀ s n sent, norReachable s = true → (bankOf s (bankOfOffset (n * sectorBytes))).seq = .idle →
    bankBusy (bankOf s (bankOfOffset (n * sectorBytes))) = false → spareSector n = false →
    (bankOf s (bankOfOffset (n * sectorBytes))).suspErase = none → sectorLocked s n = false → 4 ≤ sent →
    ∃ t, exec (.iaSectorErase n sent) s = .next t ∧
      (bankOf t (bankOfOffset (n * sectorBytes))).run = some (.erase n) ∧ t.nor.writeGen = s.nor.writeGen + 1 ∧
      t.nor.mem = s.nor.mem) ∧
  (∀ s n sent, norReachable s = true → (bankOf s (bankOfOffset (n * sectorBytes))).seq = .idle →
    bankBusy (bankOf s (bankOfOffset (n * sectorBytes))) = false → spareSector n = false →
    (bankOf s (bankOfOffset (n * sectorBytes))).suspErase = none → sectorLocked s n = false →
    (bankOf s (bankOfOffset (n * sectorBytes))).spare ≠ 0 → 4 ≤ sent →
    ∃ t, exec (.iaRemap n sent) s = .next t ∧
      (bankOf t (bankOfOffset (n * sectorBytes))).run = some (.remap n) ∧ t.nor.writeGen = s.nor.writeGen + 1 ∧
      t.nor.mem = s.nor.mem) ∧
  (∀ s n sent i, norReachable s = true → (bankOf s (bankOfOffset (n * sectorBytes))).seq = .idle →
    bankBusy (bankOf s (bankOfOffset (n * sectorBytes))) = false → spareSector n = false →
    (bankOf s (bankOfOffset (n * sectorBytes))).suspErase = none → permLocked n = true ∨ n ∉ s.nor.unlocked →
    4 ≤ sent → i = .iaSectorErase n sent ∨ i = .iaRemap n sent → ∃ t, exec i s = .next t ∧
    bankOf t (bankOfOffset (n * sectorBytes)) = { bankOf s (bankOfOffset (n * sectorBytes)) with
      lockedErr := true, held := true } ∧ t.nor.mem = s.nor.mem ∧ t.nor.writeGen = s.nor.writeGen) ∧
  (∀ s u page len first words sent, ledgerFirst (bankOfOffset page) s = u → norReachable u = true →
    (bankOf u (bankOfOffset page)).seq = .idle →
    bankBusy (bankOf u (bankOfOffset page)) = false → page % 512 = 0 → lenOk len.toNat = true → first % 32 = 0 →
    page ≤ first → first + len.toNat ≤ page + 512 → 4 * words.length = len.toNat → words.length + 5 ≤ sent →
    spareSector (sectorOf first) = false → (bankOf u (bankOfOffset page)).suspErase ≠ some (sectorOf first) →
    permLocked (sectorOf first) = true ∨ sectorOf first ∉ u.nor.unlocked → ∃ t,
    exec (.iaProgram page len first words sent) s = .next t ∧
    bankOf t (bankOfOffset page) = { bankOf u (bankOfOffset page) with lockedErr := true, held := true } ∧
    t.nor.mem = u.nor.mem ∧ t.nor.writeGen = u.nor.writeGen) ∧
  (∀ s n sent, norReachable s = true → (bankOf s (bankOfOffset (n * sectorBytes))).seq = .idle →
    bankBusy (bankOf s (bankOfOffset (n * sectorBytes))) = false → spareSector n = false → 4 ≤ sent →
    ∃ t, exec (.iaLockClear n sent) s = .next t ∧ n ∈ t.nor.unlocked ∧
      sectorLocked t n = permLocked n ∧ t.nor.mem = s.nor.mem) ∧
  (∀ s n sent, norReachable s = true → (bankOf s (bankOfOffset (n * sectorBytes))).seq = .idle →
    bankBusy (bankOf s (bankOfOffset (n * sectorBytes))) = false → spareSector n = false → 4 ≤ sent →
    ∃ t, exec (.iaLockSet n sent) s = .next t ∧ t.nor.unlocked = s.nor.unlocked.erase n ∧ t.nor.mem = s.nor.mem) ∧
  (∀ s b sent, norReachable s = true → (bankOf s b).seq = .idle → (bankOf s b).suspended = false → 3 ≤ sent →
    ∃ t, exec (.iaInfo b sent) s = .next t ∧ bankOf t b = { bankOf s b with info := true }) ∧
  (∀ s b sent, norReachable s = true → (bankOf s b).seq = .idle → (bankOf s b).suspended = true → 3 ≤ sent →
    ∃ t, exec (.iaInfo b sent) s = .next t ∧ bankOf t b = { bankOf s b with seqErr := true, held := true })

/-- Suspend, resume, status and reads of a bank (R142, R147, R152, R153, R156 to R159). -/
def Obligations.ArrayBanksSuspendAndRead : Prop :=
  (∀ s b n, norReachable s = true → (bankOf s b).seq = .idle → (bankOf s b).suspended = false →
    (bankOf s b).run = some (.erase n) → ∃ t, exec (.iaSuspend b false) s = .next t ∧
      bankOf t b = { bankOf s b with run := none, suspErase := some n, suspPend := false }) ∧
  (∀ s b n, norReachable s = true → (bankOf s b).seq = .idle → (bankOf s b).suspended = false →
    (bankOf s b).run = some (.erase n) → ∃ t, exec (.iaSuspend b true) s = .next t ∧ bankOf t b = { bankOf s b with suspPend := true }) ∧
  (∀ s b f d r, norReachable s = true → (bankOf s b).seq = .idle → (bankOf s b).suspended = false →
    (bankOf s b).run = some (.program f d r) → ∃ t, exec (.iaSuspend b false) s = .next t ∧
      bankOf t b = { bankOf s b with run := none, suspProg := some (.program f d r), suspPend := false }) ∧
  (∀ s b early, norReachable s = true → (bankOf s b).seq = .idle → (bankOf s b).suspended = true →
    exec (.iaSuspend b early) s = .next (seqError b s)) ∧
  (∀ s b f d r, powered s = true → (bankOf s b).suspPend = true → (bankOf s b).run = some (.program f d r) →
    ∃ t, exec (.iaSuspendTakesEffect b) s = .next t ∧
      bankOf t b = { bankOf s b with run := none, suspProg := some (.program f d r), suspPend := false }) ∧
  (∀ s u b p, ledgerFirst b s = u → norReachable u = true → (bankOf u b).seq = .idle → (bankOf u b).run = none →
    (bankOf u b).suspProg = some p → ∃ t, exec (.iaResume b) s = .next t ∧
      bankOf t b = { bankOf u b with run := some p, suspProg := none, held := true }) ∧
  (∀ s b, norReachable s = true → (bankOf s b).seq = .idle → ∃ t, exec (.iaClearStatus b) s = .next t ∧
    bankOf t b = { bankOf s b with progFail := false, eraseFail := false, seqErr := false, lockedErr := false }) ∧
  (∀ s b, norReachable s = true → (bankOf s b).seq = .idle → (bankOf s b).run = none →
    ∃ t, exec (.iaReadArray b) s = .next t ∧ bankOf t b = { bankOf s b with info := false, held := false }) ∧
  (∀ s o, powered s = true → o < dieBytes → (bankOf s (bankOfOffset (o / 4 * 4))).seq = .idle →
    statusReads (bankOf s (bankOfOffset (o / 4 * 4))) = false → (bankOf s (bankOfOffset (o / 4 * 4))).info = false →
    underSuspend (bankOf s (bankOfOffset (o / 4 * 4))) (o / 4 * 4) = false →
    exec (.iaBankRead o false) s =
      .next (emit (.access (.value (BitVec.ofNat 32 (leVal (norBytes s (o / 4 * 4) 4))))) s)) ∧
  (∀ s o u, powered s = true → o < dieBytes → (bankOf s (bankOfOffset (o / 4 * 4))).seq = .idle →
    statusReads (bankOf s (bankOfOffset (o / 4 * 4))) = true → exec (.iaBankRead o u) s =
      .next (emit (.access (.value (BitVec.ofNat 32
        (leVal (List.replicate 4 (statusByte (bankOf s (bankOfOffset (o / 4 * 4)))))))) ) s)) ∧
  (∀ s o u, powered s = true → o < dieBytes → (bankOf s (bankOfOffset (o / 4 * 4))).seq = .idle →
    statusReads (bankOf s (bankOfOffset (o / 4 * 4))) = false → (bankOf s (bankOfOffset (o / 4 * 4))).info = false →
    (bankOf s (bankOfOffset (o / 4 * 4))).suspErase = some (o / 0x40000) ∨
      (∃ f d r, (bankOf s (bankOfOffset (o / 4 * 4))).suspProg = some (.program f d r) ∧ f / 512 = o / 512) →
    exec (.iaBankRead o u) s = .next (emit (.access .poisoned) s)) ∧
  (∀ s o u, dieBytes ≤ o → exec (.iaBankRead o u) s = .fault (.noSuchOffset o))

/-- What a completed operation leaves in the array: a program's bytes in the units it may program, all ones after an
erase; every byte outside is as it was (R150, R154). No record of a log or of the ledger lies in the programmed units. -/
def Obligations.ArrayOperationsWriteTheirUnits : Prop :=
  (∀ s b f d, powered s = true → (bankOf s b).run = some (.program f d []) → f % 32 = 0 → d.length % 32 = 0 →
    (∀ u ∈ s.nor.undef, u.first + u.count ≤ f / 32 ∨ (f + d.length) / 32 ≤ u.first) →
    (∀ i, i < d.length → storedByte s (f + i) = none) →
    ∃ t, exec (.iaOperationComplete b true) s = .next t ∧ (bankOf t b).run = none ∧
      (∀ i, i < d.length → norByte t (f + i) = d.getD i 0) ∧
      (∀ a, (a < f ∨ f + d.length ≤ a) → norByte t a = norByte s a) ∧
      t.nor.unlocked = s.nor.unlocked.erase (sectorOf f)) ∧
  (∀ s b f d r, powered s = true → (bankOf s b).run = some (.program f d r) → r ≠ [] → ∃ t,
    exec (.iaOperationComplete b true) s = .next t ∧ (bankOf t b).progFail = true ∧
    ∀ a, a / 32 ∈ r → norByte t a = norByte s a) ∧
  (∀ s b n, powered s = true → (bankOf s b).run = some (.erase n) → permLocked n = false → ∃ t,
    exec (.iaOperationComplete b true) s = .next t ∧
    (bankOf t b).run = none ∧ t.nor.writeGen = s.nor.writeGen ∧
    (∀ i, i < sectorBytes → norByte t (n * sectorBytes + i) = 0xFF) ∧
    (∀ a, (a < n * sectorBytes ∨ (n + 1) * sectorBytes ≤ a) → norByte t a = norByte s a)) ∧
  (∀ s b n, powered s = true → (bankOf s b).run = some (.erase n) → ∃ t, exec (.iaOperationComplete b false) s = .next t ∧
    (bankOf t b).run = none ∧ (bankOf t b).eraseFail = true)

/-! ## Trust (chapter 05) -/

/-- GET_NONCE and the owner actions (R190, R192 to R194, R197, R198). -/
def Obligations.OwnerCommandsComplete : Prop :=
  (∀ t r s u length, Safety.startOf t 0xC4 0 s = some u → requesterOf t.src = some r → 40 ≤ length.toNat →
    u.trust.rng = .healthy → exec (.getNonce t length 0) s = .next (finishData t
      (beBytes 32 (draw 256 u).toNat ++ le32 (ownerEpoch u).toNat ++ [BitVec.ofNat 8 (ownerState u), 0, 0, 0])
      (setNonce r (some (draw 256 u)) (drawn 1 (drbgUse (dropSplit t u)))))) ∧
  (∀ t r s u n d g, Safety.startOf t 0xC4 0 s = some u → Safety.ownerPasses t r .install n d g u →
    ∃ v, exec (.ownerInstall t n 0 d g true) s = .next v ∧ Safety.ownerDone r .install d u v) ∧
  (∀ t r s u n d g, Safety.startOf t 0xC4 0 s = some u → Safety.ownerPasses t r .lock n d g u →
    ∃ v, exec (.ownerLock t n 0 d g true) s = .next v ∧ Safety.ownerDone r .lock d u v) ∧
  (∀ t r s u n d g, Safety.startOf t 0xC4 0 s = some u → Safety.ownerPasses t r .unlock n d g u →
    ∃ v, exec (.ownerUnlock t n 0 d g true) s = .next v ∧ Safety.ownerDone r .unlock d u v) ∧
  (∀ t r s u n d g, Safety.startOf t 0xC4 0 s = some u → Safety.ownerPasses t r .replace n d g u →
    ∃ v, exec (.ownerReplace t n 0 d g true) s = .next v ∧ Safety.ownerDone r .replace d u v) ∧
  (∀ t r s u n d g, Safety.startOf t 0xC4 0 s = some u → Safety.ownerPasses t r .release n d g u →
    ∃ v, exec (.ownerRelease t n 0 d g true) s = .next v ∧ Safety.ownerDone r .release d u v) ∧
  (∀ t r s u n d g, Safety.startOf t 0xC4 0 s = some u → Safety.ownerPasses t r .kscDisable n d g u →
    ∃ v, exec (.ownerKscDisable t n 0 d g true) s = .next v ∧ Safety.ownerDone r .kscDisable d u v) ∧
  (∀ t r s u n d g, Safety.startOf t 0xC4 0 s = some u → Safety.ownerPasses t r .kscEnable n d g u →
    ∃ v, exec (.ownerKscEnable t n 0 d g true) s = .next v ∧ Safety.ownerDone r .kscEnable d u v) ∧
  (∀ s, powered s = true → exec .splitPartTimeout s = .next { s with trust.split := none })

/-- The entropy source: the two health tests over its samples; a failure blocks output, a passed start-up test restores it
(R199 to R203). -/
def Obligations.EntropySourceChangesState : Prop :=
  (∀ x, (Health.over Health.reset (List.replicate 40 x)).2 = false ∧
    (Health.over Health.reset (List.replicate 41 x)).2 = true) ∧
  (∀ s l, s.pwr.phase = .released → s.trust.rng = .healthy ∨ s.trust.rng = .starting →
    (Health.over s.trust.health l).2 = true → ∃ t, exec (.trngHealthFail l) s = .next t ∧ t.trust.rng = .stalled ∧
    t.trust.healthFail = true ∧ t.trust.healthEvents = satAdd s.trust.healthEvents 1 ∧ t.trust.reseedTries = 0) ∧
  (∀ s l, s.pwr.phase = .released → s.trust.rng = .healthy ∨ s.trust.rng = .starting →
    (Health.over s.trust.health l).2 = false →
    exec (.trngHealthFail l) s = .next { s with trust.health := (Health.over s.trust.health l).1 }) ∧
  (∀ s l h, s.pwr.phase = .released → s.trust.waiting = [] → s.trust.rng = .starting ∨ s.trust.rng = .stalled →
    startUpTest l = .pass h → ∃ t, exec (.trngReseedAttempt l) s = .next t ∧ t.trust.rng = .healthy ∧
    t.trust.drbgCount = 0 ∧ t.trust.health = h) ∧
  (∀ s l h, s.pwr.phase = .released → s.trust.rng = .starting → startUpTest l = .fail h → ∃ t,
    exec (.trngReseedAttempt l) s = .next t ∧ t.trust.rng = .stalled ∧
    t.trust.healthEvents = satAdd s.trust.healthEvents 1 ∧ t.trust.reseedTries = 0) ∧
  (∀ s l h, s.pwr.phase = .released → s.trust.rng = .stalled → startUpTest l = .fail h →
    s.trust.reseedTries + 1 < 3 → ∃ t, exec (.trngReseedAttempt l) s = .next t ∧ t.trust.rng = .stalled ∧
    t.trust.reseedTries = s.trust.reseedTries + 1 ∧ t.trust.reseedFails = satAdd s.trust.reseedFails 1) ∧
  (∀ s l h, s.pwr.phase = .released → s.trust.waiting = [] → s.trust.rng = .stalled → startUpTest l = .fail h →
    3 ≤ s.trust.reseedTries + 1 → ∃ t, exec (.trngReseedAttempt l) s = .next t ∧ t.trust.rng = .unavailable ∧
    t.trust.unavailSeen = true) ∧
  (∀ s l h, s.pwr.phase = .released → s.trust.waiting = [] → s.trust.rng = .unavailable → startUpTest l = .pass h →
    ∃ t, exec (.trngPeriodicRestart l) s = .next t ∧ t.trust.rng = .healthy ∧ t.trust.drbgCount = 0) ∧
  (∀ s l h, s.pwr.phase = .released → s.trust.rng = .unavailable → startUpTest l = .fail h →
    exec (.trngPeriodicRestart l) s =
      .next { s with trust.health := h, trust.reseedFails := satAdd s.trust.reseedFails 1 }) ∧
  (∀ s, powered s = true → s.trust.rng = .healthy → exec .drbgReseed s = .next { s with trust.drbgCount := 0 })

/-- Key slots: GENERATE and ERASE change the slot at once and wait for the key table's store; a failed store undoes
them (R204, R206 to R209, R215, R217, R331, R353). -/
def Obligations.KeySlotCommandsComplete : Prop :=
  (∀ s pf i, fullyUp s = true → (ksOf s pf).busy = false → (ksOf s .p0).busy = false → (ksOf s .p1).busy = false →
    slotOwner s i.toNat = pf → boundNs s i.toNat = none → s.trust.rng = .healthy → (keySlot s i.toNat).old = none →
    ∃ t, exec (.keySlotGenerate pf i) s = .next t ∧ (keySlot t i.toNat).gen = nextGen (keySlot s i.toNat).gen ∧
      (keySlot t i.toNat).key = some (draw 512 s) ∧
      (keySlot t i.toNat).old = (keySlot s i.toNat).key.map (fun x => ((keySlot s i.toNat).gen, x)) ∧
      (ksOf t pf).busy = true ∧
      t.trust.stores = s.trust.stores ++ [{ why := .generate pf, slot := i.toNat, prev := keySlot s i.toNat }]) ∧
  (∀ s pf i, fullyUp s = true → (ksOf s .p0).busy = false → (ksOf s .p1).busy = false → slotOwner s i.toNat = pf →
    (keySlot s i.toNat).key ≠ none → ∃ t, exec (.keySlotErase pf i) s = .next t ∧
      keySlot t i.toNat = { gen := nextGen (keySlot s i.toNat).gen, key := none, old := none } ∧
      (ksOf t pf).busy = true ∧
      t.trust.stores = s.trust.stores ++ [{ why := .erase pf, slot := i.toNat, prev := keySlot s i.toNat }]) ∧
  (∀ s i g k, powered s = true → (keySlot s i).old = some (g, k) → genInUse s i g = false → (ksOf s .p0).busy = false →
    (ksOf s .p1).busy = false → exec (.oldKeyZeroise i) s = .next (setKey i { keySlot s i with old := none } s)) ∧
  (∀ s, powered s = true → s.trust.stores ≠ [] → ∃ t, exec (.keyTableStoreCommit true) s = .next t ∧
    t.trust.stores = [] ∧ t.media = { s.media with
      keyTab := storedKeys s, keySplit := s.tab.ksplit,
      stores := (s.media.stores.filter fun x => !decide (x.kind = 5)) ++ [keyTableStore s] } ∧ t.tab = s.tab) ∧
  (∀ s pf i p, powered s = true → s.trust.stores = [{ why := .generate pf, slot := i, prev := p }] → ∃ t,
    exec (.keyTableStoreCommit false) s = .next t ∧ keySlot t i = p ∧ (ksOf t pf).busy = false ∧
    (ksOf t pf).result = 3 ∧ t.trust.stores = [] ∧ t.media = s.media) ∧
  (∀ s v, running s = true → (fieldOf 0 12 v).toNat ≤ 2048 → ksplitLocked s = false → ∃ t,
    exec (.ksplitWrite .p0 v) s = .next t ∧ t.tab.ksplit = (fieldOf 0 12 v).toNat) ∧
  (∀ s v, exec (.ksplitWrite .p1 v) s = .next s)

/-- IDE_KM inside a secured session of the port's own mailbox (R211, R212). -/
def Obligations.IdeKeyManagementCompletes : Prop :=
  (∀ s p i, spdmUp s (.doe p) = true → sessionUp (spdmOf s (.doe p)) i = true →
    exec (.ideKmQuery p i) s = .next (emit (.ideKm p 0) s)) ∧
  (∀ s p i k v, spdmUp s (.doe p) = true → sessionUp (spdmOf s (.doe p)) i = true → k.stream ≤ 4 →
    k ∉ (ideOf s p).active → ∃ t, exec (.ideKmKeyProg p i k v) s = .next t ∧ (k, v) ∈ (ideOf t p).keys ∧
    (ideOf t p).active = (ideOf s p).active ∧ (ideOf t p).streams = (ideOf s p).streams ∧
    t.out = s.out ++ [.ideKm p 0]) ∧
  (∀ s p i k v, spdmUp s (.doe p) = true → sessionUp (spdmOf s (.doe p)) i = true → k ∈ (ideOf s p).active →
    ∃ t, exec (.ideKmKeyProg p i k v) s = .next t ∧ ideOf t p = ideOf s p ∧
    ∃ n, n ≠ 0 ∧ t.out = s.out ++ [.ideKm p n]) ∧
  (∀ s p i k, spdmUp s (.doe p) = true → sessionUp (spdmOf s (.doe p)) i = true → (ideOf s p).holds k = true →
    ∃ t, exec (.ideKmKSetGo p i k) s = .next t ∧ k ∈ (ideOf t p).active ∧ (ideOf t p).keys = (ideOf s p).keys ∧
    (∀ a ∈ (ideOf t p).active, a.stream = k.stream → a.sub = k.sub → a.tx = k.tx → a = k)) ∧
  (∀ s p i k, spdmUp s (.doe p) = true → sessionUp (spdmOf s (.doe p)) i = true →
    ∃ t, exec (.ideKmKSetStop p i k) s = .next t ∧ k ∉ (ideOf t p).active ∧ (ideOf t p).holds k = false) ∧
  (∀ s p i k v, spdmUp s (.doe p) = true → sessionUp (spdmOf s (.doe p)) i = true → k.stream ≤ 4 →
    k ∉ (ideOf s p).active → ∃ t, exec (.spdmVendorDefined (.doe p) (some i) (.keyProg k v)) s = .next t ∧
    exec (.ideKmKeyProg p i k v) s = .next t ∧ (k, v) ∈ (ideOf t p).keys) ∧
  (∀ s p i, spdmUp s (.doe p) = true → sessionUp (spdmOf s (.doe p)) i = true →
    exec (.spdmVendorDefined (.doe p) (some i) .query) s = .next (emit (.ideKm p 0) s)) ∧
  (∀ s m, fullyUp s = true → exec (.spdmVendorDefined .mctp none m) s = .next (spdmError .mctp 0x04 0 s))

/-- The SPDM responder: the connection is set up in order, its transcript grows, sessions open, become established and end
(R213, R214; message layouts and the key schedule are those of SPDM 1.3, log 147). -/
def Obligations.SpdmRequestsComplete : Prop :=
  (∀ s i, spdmUp s i = true → ∃ t, exec (.spdmGetVersion i) s = .next t ∧
    spdmOf t i = { Spdm.reset with
      version := true, nextId := (spdmOf s i).nextId, vca := [0x10, 0x84, 0, 0, 0x10, 0x04, 0, 0, 0, 1, 0x00, 0x13] }) ∧
  (∀ s i b, spdmUp s i = true → (spdmOf s i).version = true → ∃ t, exec (.spdmGetCapabilities i b) s = .next t ∧
    spdmOf t i = { spdmOf s i with caps := true, vca := (spdmOf s i).vca ++ spdmMsg 0xE1 0 0 b ++ spdmCaps }) ∧
  (∀ s i o b k, spdmUp s i = true → (spdmOf s i).caps = true → o.ecdsaP384 = true → o.sha384 = true →
    k = (o.secp384r1 && o.aes256gcm) → ∃ t, exec (.spdmNegotiateAlgorithms i o b) s = .next t ∧
    spdmOf t i = { spdmOf s i with
      algs := true, kex := k, vca := (spdmOf s i).vca ++ spdmMsg 0xE3 0 0 b ++ spdmAlgorithms k }) ∧
  (∀ s i r, spdmUp s i = true → (spdmOf s i).algs = true → r = spdmMsg 0x01 1 1 (digestBytes (sha (certChain s))) →
    exec (.spdmGetDigests i) s = .next (spdmReply i r (noteCerts i (spdmMsg 0x81 0 0 [] ++ r) s))) ∧
  (∀ s i o n b r, spdmUp s i = true → (spdmOf s i).algs = true → o < (certChain s).length →
    b = slice (certChain s) o (min n ((certChain s).length - o)) →
    r = spdmMsg 0x02 0 0 (le16 b.length ++ le16 ((certChain s).length - o - b.length) ++ b) →
    exec (.spdmGetCertificate i 0 o n) s =
      .next (spdmReply i r (noteCerts i (spdmMsg 0x82 0 0 (le16 o ++ le16 n) ++ r) s))) ∧
  (∀ s u i m b, spdmUp s i = true → (spdmOf s i).algs = true → s.trust.rng = .healthy → u = drawn 1 (drbgUse s) →
    ∃ t sig, exec (.spdmChallenge i 0 m b) s = .next t ∧ t = spdmReply i (spdmMsg 0x03 0 1
      (digestBytes (sha (certChain s)) ++ beBytes 32 (draw 256 s).toNat ++ measSummary u m ++ le16 0 ++ slice b 32 8)
      ++ sig) (signedOnce (setSpdm i { spdmOf s i with certs := [] } u))) ∧
  (∀ s u i k b l n r, spdmUp s i = true → (spdmOf s i).algs = true → s.trust.rng = .healthy → u = drawn 1 (drbgUse s) →
    measIndices k = some l → n = beBytes 32 (draw 256 s).toNat →
    r = spdmMsg 0x60 (if k = 0 then 9 else 0) 0 (leBytes 1 l.length
      ++ leBytes 3 (l.flatMap (measBytes (drbgUse s))).length ++ l.flatMap (measBytes (drbgUse s)) ++ n ++ le16 0
      ++ slice b 0 8) →
    exec (.spdmGetMeasurements i k false b) s = .next (spdmReply i r (setSpdm i { spdmOf s i with
      meas := (spdmOf s i).meas ++ spdmMsg 0xE0 0 k b ++ r } u))) ∧
  (∀ s u i k b l, spdmUp s i = true → (spdmOf s i).algs = true → s.trust.rng = .healthy → u = drawn 1 (drbgUse s) →
    measIndices k = some l → ∃ r, exec (.spdmGetMeasurements i k true b) s =
      .next (spdmReply i r (signedOnce (setSpdm i { spdmOf s i with meas := [] } u)))) ∧
  (∀ s i m b, spdmUp s i = true → (spdmOf s i).algs = true → (spdmOf s i).kex = true → s.trust.rng = .healthy →
    (spdmOf s i).sessions.length < 2 → spdmSessions s < 4 → ∃ t e, exec (.spdmKeyExchange i 0 m b) s = .next t ∧
    (spdmOf t i).sessions = (spdmOf s i).sessions ++ [e] ∧ e.done = false ∧
    e.id = leVal (slice b 0 2) + 65536 * ((spdmOf s i).nextId % 65536) ∧
    (spdmOf t i).nextId = (spdmOf s i).nextId + 1) ∧
  (∀ s i n e, spdmUp s i = true → ((spdmOf s i).sessions.find? fun x => decide (x.id = n)) = some e → e.done = false →
    ∃ t, exec (.spdmFinish i n (verifyData e.reqSecret (e.transcript ++ spdmMsg 0xE5 0 0 []))) s = .next t ∧
    sessionUp (spdmOf t i) n = true) ∧
  (∀ s i n m e, spdmUp s i = true → ((spdmOf s i).sessions.find? fun x => decide (x.id = n)) = some e →
    e.done = false → m ≠ verifyData e.reqSecret (e.transcript ++ spdmMsg 0xE5 0 0 []) →
    ∃ t, exec (.spdmFinish i n m) s = .next t ∧ ∀ x ∈ (spdmOf t i).sessions, x.id ≠ n) ∧
  (∀ s i n o m, spdmUp s i = true → sessionUp (spdmOf s i) n = true → o = 1 ∨ o = 2 ∨ o = 3 →
    exec (.spdmKeyUpdate i n o m) s =
      .next (spdmReply i (spdmMsg 0x69 o.toNat m.toNat []) (modSession i n (SpdmSess.updated o) s))) ∧
  (∀ s i n, spdmUp s i = true → sessionUp (spdmOf s i) n = true →
    exec (.spdmHeartbeat i n) s = .next (spdmReply i (spdmMsg 0x68 0 0 []) s)) ∧
  (∀ s i n, spdmUp s i = true → sessionUp (spdmOf s i) n = true → ∃ t, exec (.spdmEndSession i n) s = .next t ∧
    (∀ e ∈ (spdmOf t i).sessions, e.id ≠ n)) ∧
  (∀ s i h n b w, spdmUp s i = true → (spdmOf s i).chunk = some (h, n, b, w) → ∃ t,
    exec (.spdmChunkGet i h n) s = .next t ∧ (spdmOf t i).chunk =
      (if (b.drop 4096).isEmpty then none else some (h, n + 1, b.drop 4096, w)))

/-! ## The event recorder and firmware update (chapters 06, 07) -/

/-- Ledger pages are programmed in order, reads answer from the partition, acknowledgement and clear move its marks (R225,
R234 to R236, R238, R240 to R246). Before the restored records stand in their places a signing waits (log 142). -/
def Obligations.LedgerCommandsComplete : Prop :=
  (∀ s p, running s = true → s.evr.placed = true → (ledger s p).queue ≠ [] → (ledger s p).used ≠ 2048 →
    (ledger s p).sectors ≠ [] → evrSectorNo p (ledger s p) ∉ s.nor.retired → ∃ t x,
    exec (.evrPageProgram p true) s = .next t ∧ (ledger s p).sectors.getLast? = some x ∧
    (ledger t p).sectors = (ledger s p).sectors.dropLast ++
      [{ x with recs := x.recs ++ (ledger s p).queue.take (pageCount (ledger s p)) }] ∧
    (ledger t p).queue = (ledger s p).queue.drop (pageCount (ledger s p)) ∧
    t.nor.writeGen = s.nor.writeGen + 1) ∧
  (∀ s p, running s = true → s.evr.placed = true → (ledger s p).queue ≠ [] → (ledger s p).used ≠ 2048 →
    ∃ t, exec (.evrPageProgram p false) s = .next t ∧ t.evr.tornSeen = true ∧
    (ledger s p).queue <+: (ledger t p).queue) ∧
  (∀ s, running s = true → s.evr.dropPending ≠ 0 → s.evr.gen.queue.length + recsDue .gen s.evr.gen ≤ 256 →
    exec .droppedEventReport s = .next (event 0x0024 s.evr.dropPending.toNat 0 { s with evr.dropPending := 0 })) ∧
  (∀ s, running s = true → s.evr.placed = true → exec (.ledgerSign true) s =
    .next (formSignature (if signStarted s then s else formAnchor (formCerts s)))) ∧
  (∀ s, running s = true → s.evr.placed = true → signStarted s = true → exec (.ledgerSign false) s = .next s) ∧
  (∀ s b, running s = true → s.evr.placed = false → exec (.ledgerSign b) s =
    .next { s with evr.signWaiting := some b }) ∧
  (∀ t s u part p q n, Safety.startOf t 0xC1 0 s = some u → partOf part.toNat = some p →
    (isVf t.src = true → p = .boot) → n.toNat ≤ 8192 → (t.src = .mgt → 128 + 128 * n.toNat ≤ 4096) →
    exec (.evrRead t part q n) s = .next (finishData t (ledgerHeader u p (readRecs (ledger u p) q n.toNat).length ++
      (readRecs (ledger u p) q n.toNat).flatMap recBytes) u)) ∧
  (∀ t s u part p q h, Safety.startOf t 0xC1 0 s = some u → partOf part.toNat = some p → isVf t.src = false →
    seqFollows q (ledger u p).ackedSeq = false → ∀ ok,
    exec (.evrAck t part q h ok) s = .next (finish t .success u)) ∧
  (∀ t s u part p r h, Safety.startOf t 0xC1 0 s = some u → partOf part.toNat = some p → isVf t.src = false →
    seqFollows r.seq (ledger u p).ackedSeq = true → (ledger u p).held.find? (fun x => decide (x.seq = r.seq)) = some r →
    (digestBytes (chainHash r)).take 16 = beBytes 16 h.toNat → ∃ v w, exec (.evrAck t part r.seq h true) s = .next v ∧
    v = finish t .success w ∧ (ledger v p).acked = some r.seq ∧ v.cfg = u.cfg ∧ v.tab = u.tab ∧ v.media = u.media) ∧
  (∀ t s u n o, Safety.startOf t 0x02 0 s = some u → (t.src = .mgt → n ≤ 4096) → o ≤ (bootLedgerPage u).length →
    exec (.bootLedgerLog t n o) s = .next (finishData t (window (bootLedgerPage u) o n) u)) ∧
  (∀ t s u q part r d g, Safety.startOf t 0xC2 0 s = some u → requesterOf t.src = some q →
    (ledger u (if part = 0 then .boot else .gen)).held.find? (fun x => decide (x.seq = r.seq)) = some r →
    authHead (padTo 3664 d) 0x0011 = true → ownerState u ≠ 0 →
    clearBeyond (if part = 0 then .boot else .gen) (ledger u (if part = 0 then .boot else .gen)) r.seq = false →
    authBinds u (padTo 3664 d) (nonceOf u q) (clearTarget (if part = 0 then .boot else .gen) r) noDigest = true →
    authSigned (padTo 3664 d) g (ownerKey u) = true → ∃ v, exec (.evrClear t part r.seq 3664 d g true) s = .next v ∧
    (ledger v (if part = 0 then .boot else .gen)).cleared = some r.seq ∧ nonceOf v q = none)

/-- Firmware download, the commit actions and the gate (R252 to R258, R261 to R265, R273). -/
def Obligations.UpdateCommandsComplete : Prop :=
  (∀ t s u w r off d i, Safety.startOf t 0x11 0 s = some u → requesterOf t.src = some r → u.nvm.sanitize = none →
    downloadFields (decide (t.src = .mgt)) off d.length = true → gate u = none → u.upd.holder = some r →
    u.upd.slot = some i → slotRetired u i = false → (∀ k ∈ kib4Units off d.length, k ∉ u.upd.written) →
    w = eraseSectors (newSectors u (slotBase i + off) d.length) u →
    rangeDone w (slotBase i + off) (keepBytes w i off d).length = false → ∃ v,
    exec (.firmwareImageDownload t off d .done true) s = .next v ∧ v.upd.holder = some r ∧ v.upd.slot = some i ∧
    v.upd.written = u.upd.written ++ kib4Units off d.length ∧
    v.nor = (programRange (slotBase i + off) (keepBytes w i off d) w).nor ∧ v.cfg = u.cfg ∧ v.media = u.media) ∧
  (∀ t s u x w r off d i, Safety.startOf t 0x11 0 s = some u → requesterOf t.src = some r → u.nvm.sanitize = none →
    downloadFields (decide (t.src = .mgt)) off d.length = true → gate u = none → u.upd.holder = none →
    inactiveSlot u = some i → canStore .boot u = true → x = openUpd r i true u →
    w = eraseSectors (newSectors x (slotBase i + off) d.length) x →
    rangeDone w (slotBase i + off) (keepBytes w i off d).length = false → ∃ v,
    exec (.firmwareImageDownload t off d .done true) s = .next v ∧ v.upd.holder = some r ∧ v.upd.slot = some i ∧
    v.upd.written = kib4Units off d.length) ∧
  (∀ t s u r off d i stored, Safety.startOf t 0x11 0 s = some u → requesterOf t.src = some r → u.nvm.sanitize = none →
    downloadFields (decide (t.src = .mgt)) off d.length = true → gate u = none → u.upd.holder = some r →
    u.upd.slot = some i → slotRetired u i = false → (∀ k ∈ kib4Units off d.length, k ∉ u.upd.written) →
    newSectors u (slotBase i + off) d.length ≠ [] → ∃ v w,
    exec (.firmwareImageDownload t off d .eraseFails stored) s = .next v ∧ v = finish t .internalError w ∧
    v.upd.written = u.upd.written) ∧
  (∀ t s u r off d st, Safety.startOf t 0x11 0 s = some u → requesterOf t.src = some r → u.nvm.sanitize = none →
    downloadFields (decide (t.src = .mgt)) off d.length = true → gate u = some st → ∀ o stored,
    exec (.firmwareImageDownload t off d o stored) s = .next (refuseDownload t st u)) ∧
  (∀ t s u r i e, Safety.startOf t 0x10 0 s = some u → requesterOf t.src = some r → u.nvm.sanitize = none →
    gate u = none → inactiveSlot u = some i → u.upd.holder = some r → u.upd.slot = some i →
    canStore .boot (closeUpd u) = true →
    ∃ v, exec (.commitActionStage t 0 e true) s = .next v ∧ v.upd.holder = none ∧
    v.cfg = if imageOk (closeUpd u) i e = true then (storeRecord (.boot { bootRecBase u with
      staged := (bootRecBase u).staged ||| (match i with | .a => 1 | .b => 2 | .g => 0) }) true u).cfg else u.cfg) ∧
  (∀ t s u r i e, Safety.startOf t 0x10 0 s = some u → requesterOf t.src = some r → u.nvm.sanitize = none →
    gate u = none → inactiveSlot u = some i → u.upd.holder = some r → u.upd.slot = some i →
    canStore .boot (closeUpd u) = true →
    ∃ v, exec (.commitActionPending t 0 e true) s = .next v ∧ v.upd.holder = none ∧ v.cfg =
      if imageOk (closeUpd u) i e = true then (storeRecord (.boot ((bootRecBase u).pending i (slotRoot u i))) true u).cfg
      else u.cfg) ∧
  (∀ t s u r i e, Safety.startOf t 0x10 0 s = some u → requesterOf t.src = some r → u.nvm.sanitize = none →
    gate u = none → inactiveSlot u = some i → u.upd.holder = none → stagedEmpty u i = true → canStore .boot u = true →
    ∃ v, exec (.commitActionActivateStaged t 0 e true) s = .next v ∧ v.cfg = (storeRecord (.boot
      (if imageOk u i e = true then (bootRecBase u).pending i (slotRoot u i) else { bootRecBase u with
        staged := (bootRecBase u).staged &&& ~~~(match i with | .a => 1 | .b => 2 | .g => 0) })) true u).cfg) ∧
  (∀ t s u n, Safety.startOf t 0xCB 0 s = some u → Safety.allowed true false true t = true → 64 ≤ n.toNat →
    exec (.updateGateQuery t n) s = .next (finishData t (gateReport u) u)) ∧
  (∀ s, running s = true → ∃ t, exec .updateGateRefresh s = .next t ∧ t.upd.blockers = blockers s ∧
    t.upd.holder = s.upd.holder)

/-! ## The endpoint (chapter 08) -/

/-- The link: training, width changes, power states and loss (R274 to R277, R307, R308, R312). -/
def Obligations.LinkCommandsComplete : Prop :=
  (∀ s p x w, s.pwr.phase = .released → s.boot.phase ≠ .optionLoad → portLanes s p ≠ 0 → x.present = true →
    x.rate ≠ 0 → w = widthUpTo (min x.width (portLanes s p)) → w ≠ 0 → ∃ t, exec (.linkTraining p x) s = .next t ∧
    portState t p = { portState s p with
      up := true, rate := BitVec.ofNat 3
        (if s.boot.phase = .optionFault then 1 else if x.flit then min x.rate 6 else min x.rate 5),
      width := w, flit := x.flit && decide (s.boot.phase ≠ .optionFault), l0p := false, l0pWidth := w, l1 := false,
      l1sub := 0, trained := true,
      retrains := if (portState s p).trained then satAdd (portState s p).retrains 1 else (portState s p).retrains } ∧
    (∀ g, g ≠ p → portState t g = portState s g) ∧ Same [.port0, .port1, .evs0, .evs1] s t) ∧
  (∀ s p w, (portState s p).up = true → w = (portState s p).width → 1 < w → ∃ t,
    exec (.laneFailure p) s = .next t ∧ portState t p = { portState s p with
      width := w / 2, l0p := false, l0pWidth := w / 2, retrains := satAdd (portState s p).retrains 1 } ∧
    (∀ g, g ≠ p → portState t g = portState s g) ∧ Same [.port0, .port1, .evs0, .evs1] s t) ∧
  (∀ s p, s.pwr.phase = .released → (portState s p).up = true → ∃ t, exec (.linkDown p) s = .next t ∧
    (portState t p).up = false ∧ (portState t p).rate = 0 ∧ (portState t p).width = 0 ∧
    t.timeouts = satAdd s.timeouts (outstandingBehind s p) ∧
    exec (.linkReset p) (countTimeouts (outstandingBehind s p) s) = .next t) ∧
  (∀ s p, (portState s p).up = true → (portState s p).flit = false ∨ anySecure s p = false → ∃ t,
    exec (.aspmL1Entry p) s = .next t ∧ portState t p = { portState s p with
      l1 := true, l1sub := if (l1Enables s p).getLsbD 2 then 2 else if (l1Enables s p).getLsbD 3 then 1 else 0 } ∧
    (∀ g, g ≠ p → portState t g = portState s g) ∧ Same [.port0, .port1] s t) ∧
  (∀ s p, (portState s p).flit = true → anySecure s p = true → exec (.aspmL1Entry p) s = .next s) ∧
  (∀ s p, ∃ t, exec (.l1Exit p) s = .next t ∧ portState t p = { portState s p with l1 := false, l1sub := 0 } ∧
    (∀ g, g ≠ p → portState t g = portState s g) ∧ Same [.port0, .port1] s t) ∧
  (∀ s p w, (portState s p).up = true → (portState s p).flit = true → 1 ≤ w → w ≤ (portState s p).width →
    widthUpTo w = w → ∃ t, exec (.l0pWidthChange p w) s = .next t ∧ portState t p = { portState s p with
      l0p := decide (w < (portState s p).width), l0pWidth := w } ∧
    (∀ g, g ≠ p → portState t g = portState s g) ∧ Same [.port0, .port1] s t)

/-- Configuration requests and what a cleared Bus Master Enable does to an enabled controller (R280 to R286, R302 to R304,
R312, R333). -/
def Obligations.ConfigurationRequestsComplete : Prop :=
  (∀ s f fld, s.pwr.phase = .released → s.boot.phase = .firmware → s.boot.cfgBuilt = true →
    (fnOf s f).resetting = false → fnPresent s f = true →
    exec (.configRequest f (.read fld)) s = .next (emit (.access (cfgRead s f fld)) s)) ∧
  (∀ s f r, s.pwr.phase = .released → s.boot.phase = .firmware → s.boot.cfgBuilt = false →
    exec (.configRequest f r) s = .next (emit (.access .retry) s)) ∧
  (∀ s f r, s.pwr.phase = .released → s.boot.phase = .firmware → s.boot.cfgBuilt = true →
    (fnOf s f).resetting = false → fnPresent s f = false →
    exec (.configRequest f r) s = .next (emit (.access .unsupported) s)) ∧
  (∀ s fld, s.pwr.phase = .released → s.boot.phase = .recovery ∨ s.boot.phase = .optionFault →
    exec (.configRequest ⟨.p0, 0⟩ (.read fld)) s = .next (emit (.access (recoveryRead s fld)) s)) ∧
  (∀ s v, s.pwr.phase = .released → s.boot.phase = .recovery ∨ s.boot.phase = .optionFault → ∃ t,
    exec (.configRequest ⟨.p0, 0⟩ (.write (.bar 1) v)) s = .next t ∧
    t.rcv.bar = v ++ s.rcv.bar.setWidth 32 ∧ Same [.rcv, .out] s t) ∧
  (∀ s f v, s.pwr.phase = .released → s.boot.phase = .firmware → s.boot.cfgBuilt = true → f.vf = 0 →
    (fnOf s f).resetting = false → fnPresent s f = true → ∃ t,
    exec (.configRequest f (.write .memorySpace v)) s = .next t ∧ (fnOf t f).cfg.memSpace = v.getLsbD 0 ∧
    Same [.fns, .out] s t) ∧
  (∀ s f, running s = true → fnPresent s f = true → (fnOf s f).cfg.bme = true → (fnOf s f).ctrl.en = true →
    (fnOf s f).fatal = false → ∃ t, exec (.busMasterEnableClear f) s = .next t ∧ (fnOf t f).cfg.bme = false ∧
    (fnOf t f).fatal = true ∧ (fnOf t f).ctrl.cfs = true ∧ (fnOf t f).ctrl.inflight = [] ∧
    t.bmlRid = BitVec.ofNat 8 (routingId (bifurc s) f) ∧ t.bmlPort = decide (portOf (bifurc s) f = .p1) ∧
    t.bmlCount = satAdd s.bmlCount 1 ∧ t.media = s.media) ∧
  (∀ s f, running s = true → fnPresent s f = true → (fnOf s f).cfg.bme = true → (fnOf s f).ctrl.en = false →
    ∃ t, exec (.busMasterEnableClear f) s = .next t ∧ (fnOf t f).cfg.bme = false ∧ t.bmlCount = s.bmlCount ∧
    Same [.fns, .out] s t)

/-- Interrupt modes, masks and coalescing (R293 to R297, R316). -/
def Obligations.InterruptCommandsComplete : Prop :=
  (∀ s f i, running s = true → fnPresent s f = true → ∃ t, exec (.interruptModeChange f i) s = .next t ∧
    (fnOf t f).cfg.msixEn = i.msix ∧ (fnOf t f).cfg.msiEn = i.msi ∧ (fnOf t f).cfg.intDis = i.disable ∧
    Same [.fns, .out] s t) ∧
  (∀ s f v, running s = true → fnPresent s f = true → v < msixSize f → v < viCount s f → v ∈ (fnOf s f).pba →
    (fnOf s f).cfg.msixEn = true → (fnOf s f).cfg.msixMask = false → (fnOf s f).cfg.bme = true → ∃ t,
    exec (.msixVectorUnmask f (some v)) s = .next t ∧ v ∈ (fnOf t f).unmasked ∧ v ∉ (fnOf t f).pba ∧
    t.out = s.out ++ [.msix (unitOf f) v] ∧ Same [.fns, .out] s t) ∧
  (∀ s f v, running s = true → fnPresent s f = true → v < msixSize f → v ∉ (fnOf s f).pba → ∃ t,
    exec (.msixVectorUnmask f (some v)) s = .next t ∧ v ∈ (fnOf t f).unmasked ∧ Same [.fns] s t) ∧
  (∀ s f, running s = true → fnPresent s f = true → ∃ t, exec (.msixVectorUnmask f none) s = .next t ∧
    (fnOf t f).cfg.msixMask = false ∧ Same [.fns, .out] s t) ∧
  (∀ s f v, mmioOk s f = true → (fnOf s f).frozen = false → ∃ t, exec (.interruptMaskWrite f true v) s = .next t ∧
    (fnOf t f).ctrl.intms = (fnOf s f).ctrl.intms ||| v ∧ Same [.fns, .out] s t) ∧
  (∀ s f v, mmioOk s f = true → (fnOf s f).frozen = false → ∃ t, exec (.interruptMaskWrite f false v) s = .next t ∧
    (fnOf t f).ctrl.intms = (fnOf s f).ctrl.intms &&& ~~~ v ∧ Same [.fns, .out] s t) ∧
  (∀ s f, running s = true → ∃ t, exec (.interruptCoalescingTimeout f) s = .next t ∧
    (∀ q, q ∈ (fnOf t f).ctrl.cqs → q.coalesced = 0) ∧ Same [.fns, .out] s t)

/-- Address translations join the cache, leave it with an Invalidate Request, and each request is completed once its
users are done (R298 to R301). -/
def Obligations.TranslationCommandsComplete : Prop :=
  (∀ s f b, running s = true → fnPresent s f = true → ∃ t, exec (.atsEnableChange f b) s = .next t ∧
    (fnOf t f).cfg.atsEn = b ∧ (b = false → (fnOf t f).ats.entries = []) ∧ Same [.fns] s t) ∧
  (∀ s f g r w n tag, running s = true → (fnOf s f).cfg.atsEn = true → (fnOf s f).cfg.bme = true →
    (if n = true then w else r) = true → ∃ t, exec (.atsTranslationCompletion f g r w n tag) s = .next t ∧
    t = atsAdd f { page := g, read := r, write := w, user := some tag } s ∧ Same [.fns] s t) ∧
  (∀ s f g r w n tag, running s = true → (fnOf s f).cfg.atsEn = true → (fnOf s f).cfg.bme = true →
    (if n = true then w else r) = true → (fnOf s f).ats.entries.length < atsShare s → atsTotal s < 4096 →
    (∀ x ∈ s.fns, x.2.ats.entries.length ≤ atsShare s) → (∀ e ∈ (fnOf s f).ats.entries, e.page ≠ g) → ∃ t,
    exec (.atsTranslationCompletion f g r w n tag) s = .next t ∧
    (fnOf t f).ats.entries =
      (fnOf s f).ats.entries ++ [{ page := g, read := r, write := w, user := some tag }]) ∧
  (∀ s f g n tag e, running s = true → (fnOf s f).cfg.atsEn = true → (fnOf s f).cfg.bme = true →
    inflightOf s tag = some e → e.phase = .fetched →
    exec (.atsTranslationCompletion f g false false n tag) s = .next (finish tag .dataTransferError s)) ∧
  (∀ s f g lo hi, running s = true → fnPresent s f = true → (fnOf s f).ats.pending.length < 32 → ∃ t,
    exec (.invalidateRequest f g lo hi) s = .next t ∧
    (fnOf t f).ats.entries = (fnOf s f).ats.entries.filter (fun e => !decide (lo ≤ e.page ∧ e.page ≤ hi)) ∧
    (fnOf t f).ats.pending.length = (fnOf s f).ats.pending.length + 1 ∧ Same [.fns] s t) ∧
  (∀ s f g l, (fnOf s f).ats.pending.find? (fun e => decide (e.1 = g)) = some (g, l) →
    powered s = true → (∀ x ∈ l, inflightOf s x = none) → ∃ t, exec (.invalidateCompletion f g) s = .next t ∧
    t.out = s.out ++ [.invalidateDone (unitOf f) g] ∧ (∀ x ∈ (fnOf t f).ats.pending, x.1 ≠ g) ∧
    Same [.fns, .out] s t) ∧
  (∀ s f g l x, (fnOf s f).ats.pending.find? (fun e => decide (e.1 = g)) = some (g, l) → x ∈ l →
    inflightOf s x ≠ none → exec (.invalidateCompletion f g) s = .next s)

/-- PCIe errors: timeouts, unexpected completions, error completions, DOE objects and IDE failures (R279, R287, R305 to
R307, R310). -/
def Obligations.PcieErrorsComplete : Prop :=
  (∀ s f q c e, running s = true → inflightOf s ⟨.fn f, q, c⟩ = some e → e.phase = .fetched →
    exec (.completionTimeout ⟨.fn f, q, c⟩) s = .next (finish ⟨.fn f, q, c⟩ .dataTransferError
      (aerLog f .completionTimeout (evsSet 132 { s with timeouts := satAdd s.timeouts 1 })))) ∧
  (∀ s f, running s = true → ∃ t, exec (.unexpectedCompletion f) s = .next t ∧
    t.unexpected = satAdd s.unexpected 1 ∧ AerErr.unexpectedCompletion ∈ (fnOf t f).aer ∧
    (fnOf t f).ctrl = (fnOf s f).ctrl ∧ Same [.fns, .unexpected] s t) ∧
  (∀ s f q c e k, running s = true → inflightOf s ⟨.fn f, q, c⟩ = some e → e.phase = .fetched →
    exec (.dmaErrorCompletion ⟨.fn f, q, c⟩ k) s = .next (finish ⟨.fn f, q, c⟩ .dataTransferError
      (aerLog f (dmaAer k) (markErr f (dmaErrBit k) s)))) ∧
  (∀ s pr n h, running s = true → s.boot.cfgBuilt = true → 0 < n → n ≤ 8192 → pr ≠ .unsupported → pr ≠ .discovery →
    h.length < 2 ∨ spdmListed (h.getD 1 0).toNat = true → ∃ t,
    exec (.doeObject .p0 pr n h) s = .next t ∧ t.port0 = { s.port0 with doeReady := true } ∧
    t.out = s.out ++ [.doe .p0 true] ∧ Same [.port0, .out] s t) ∧
  (∀ s n h, running s = true → s.boot.cfgBuilt = true → 0 < n → n ≤ 8192 → ∃ t,
    exec (.doeObject .p0 .discovery n h) s = .next t ∧ t.port0 = { s.port0 with doeReady := true } ∧
    t.out = s.out ++ [.doe .p0 true, .doeDiscovery .p0 (discoveryObject (h.getD 0 0).toNat)] ∧
    Same [.port0, .out] s t) ∧
  (∀ s pr n h, running s = true → s.boot.cfgBuilt = true → 0 < n → n ≤ 8192 → pr ≠ .unsupported → pr ≠ .discovery →
    2 ≤ h.length → spdmListed (h.getD 1 0).toNat = false → ∃ t, exec (.doeObject .p0 pr n h) s = .next t ∧
    t.out = s.out ++ [.doe .p0 true, .spdm (.doe .p0) false (spdmMsg 0x7F 0x07 (h.getD 1 0).toNat [])] ∧
    Same [.port0, .out] s t) ∧
  (∀ s n h, running s = true → s.boot.cfgBuilt = true → 0 < n → n ≤ 8192 → ∃ t,
    exec (.doeObject .p0 .unsupported n h) s = .next t ∧ t.out = s.out ++ [.doe .p0 false] ∧ Same [.out] s t) ∧
  (∀ s pr n h, running s = true → s.boot.cfgBuilt = true → n = 0 ∨ 8192 < n → ∃ t,
    exec (.doeObject .p0 pr n h) s = .next t ∧ t.port0 = { s.port0 with doeError := true } ∧
    t.out = s.out ++ [.doe .p0 false] ∧ Same [.port0, .out] s t) ∧
  (∀ s p n b, running s = true → Sparse.read IdeState.insecure (ideOf s p).streams n = .secure → ∃ t,
    exec (.ideCheckFailure p n b) s = .next t ∧ Sparse.read IdeState.insecure (ideOf t p).streams n = .insecure ∧
    AerErr.ideCheckFailed ∈ (fnOf t ⟨if bifurc s then p else .p0, 0⟩).aer)

/-! ## Queues and interrupts of a controller (chapter 09) -/

/-- Doorbells, shadow doorbells and recorded tails (R320 to R324, R545). -/
def Obligations.DoorbellsMoveTails : Prop :=
  (∀ s f n v q, mmioOk s f = true → (fnOf s f).frozen = false → (fnOf s f).ctrl.en = true → sqOf s f n = some q →
    (fieldOf 0 16 v).toNat < q.size → ∃ t q', exec (.mmioDoorbellWrite f n false v) s = .next t ∧
    sqOf t f n = some q' ∧ q'.tail = (fieldOf 0 16 v).toNat ∧ q'.head = q.head ∧
    (q.watch ≠ .plain → q'.watch = .polled ∧ q'.eventIdx = ringPrev q.size (fieldOf 0 16 v).toNat) ∧
    t.nvm.wakes = (if q.watch = .parked then satAdd s.nvm.wakes 1 else s.nvm.wakes) ∧ Same [.fns, .nvm, .out] s t) ∧
  (∀ s f n v q, mmioOk s f = true → (fnOf s f).frozen = false → (fnOf s f).ctrl.en = true → cqOf s f n = some q →
    headOk q (fieldOf 0 16 v).toNat = true → ∃ t q', exec (.mmioDoorbellWrite f n true v) s = .next t ∧
    cqOf t f n = some q' ∧ q'.head = (fieldOf 0 16 v).toNat) ∧
  (∀ s f n v, mmioOk s f = true → (fnOf s f).frozen = false → (fnOf s f).ctrl.en = true → sqOf s f n = none →
    exec (.mmioDoorbellWrite f n false v) s = .next (doorbellError f 0 s)) ∧
  (∀ s f n v q, mmioOk s f = true → (fnOf s f).frozen = false → (fnOf s f).ctrl.en = true → sqOf s f n = some q →
    q.size ≤ (fieldOf 0 16 v).toNat → exec (.mmioDoorbellWrite f n false v) s = .next (doorbellError f 1 s)) ∧
  (∀ s f n c v, mmioOk s f = true → (fnOf s f).frozen = true → ∃ t, exec (.mmioDoorbellWrite f n c v) s = .next t ∧
    (unitOf f, doorbellKey n c, (fieldOf 0 16 v).toNat) ∈ t.mqt.tails ∧ Same [.mqt] s t) ∧
  (∀ s f n v q, fetchBlocked s f = false → sqOf s f n = some q → q.watch = .polled ∨ q.watch = .parking →
    v < q.size → v ≠ q.tail → ∃ t, exec (.shadowSweep f n v) s = .next t ∧
    sqOf t f n = some { q with tail := v, watch := .polled, eventIdx := ringPrev q.size v } ∧
    t.out = s.out ++ [.eventIdx (unitOf f) q.qid (ringPrev q.size v)] ∧ Same [.fns, .out] s t) ∧
  (∀ s f n q, fetchBlocked s f = false → sqOf s f n = some q → q.watch = .parking → q.tail < q.size → ∃ t,
    exec (.shadowSweep f n q.tail) s = .next t ∧ sqOf t f n = some { q with watch := .parked } ∧ Same [.fns] s t) ∧
  (∀ s f n q, fetchBlocked s f = false → sqOf s f n = some q → q.watch = .polled → ∃ t,
    exec (.parkTimeout f n) s = .next t ∧ sqOf t f n = some { q with watch := .parking, eventIdx := q.tail } ∧
    t.out = s.out ++ [.eventIdx (unitOf f) n q.tail] ∧ Same [.fns, .out] s t) ∧
  (∀ s f n h q, running s = true → (fnOf s f).cfg.bme = true → (fnOf s f).ctrl.en = true → (fnOf s f).fatal = false →
    (fnOf s f).resetting = false → (fnOf s f).frozen = false → (fnOf s f).ctrl.shadow ≠ none → cqOf s f n = some q →
    headOk q h = true → ∃ t q', exec (.cqHeadReread f n h) s = .next t ∧ cqOf t f n = some q' ∧ q'.head = h ∧
    q'.eventIdx = ringPrev q.size h)

/-- A command is fetched in its turn and under the budget, its head moves on and its key is captured; the checks at fetch
end it, a shortage stops fetching until room returns, and a queue context that cannot be read makes the controller fatal
(R205, R325 to R328, R333, R343). -/
def Obligations.FetchTakesTheNextEntry : Prop :=
  (∀ s f e q, sqOf s f e.sqid = some q → q.head ≠ q.tail → fetchBlocked s f = false → e.ctxOk = true →
    (fnOf s f).ctrl.stalled = false → budgetAllows s f = true → turnOf s f = true →
    (fnOf s f).ctrl.mayTake e.sqid = true → e.fuse = 0 → unlistedCode e.opcode e.cdw10 = false →
    (if e.sqid = 0 then adminOpcode e.opcode else ioOpcode e.opcode) = true →
    (e.sqid = 0 ∨ ioCheck s f e.opcode e.nsid = none) → ∃ t, exec (.commandFetch f e) s = .next t ∧
    (fnOf t f).ctrl.inflight = (fnOf s f).ctrl.inflight ++
      [⟨e.sqid, e.cid, e.opcode, e.nsid, if e.sqid = 0 then none else capturedKey s e.nsid.toNat, .fetched⟩] ∧
    (∃ q', sqOf t f e.sqid = some q' ∧ q'.head = (q.head + 1) % q.size ∧ q'.tail = q.tail) ∧
    t.nvm.turn = turnAfter s f ∧ (fnOf t f).ctrl.arb = (fnOf s f).ctrl.taken e.sqid ∧
    Same [.fns, .nvm, .ksc, .evs0, .evs1, .out] s t) ∧
  (∀ s f e q st, sqOf s f e.sqid = some q → q.head ≠ q.tail → fetchBlocked s f = false → e.ctxOk = true →
    (fnOf s f).ctrl.stalled = false → budgetAllows s f = true → turnOf s f = true →
    (fnOf s f).ctrl.mayTake e.sqid = true → e.sqid ≠ 0 →
    ioCheck s f e.opcode e.nsid = some st → exec (.commandFetch f e) s = .next (finish ⟨.fn f, e.sqid, e.cid⟩ st
      (takeEntry f (newEntry s ⟨.fn f, e.sqid, e.cid⟩ e.opcode e.nsid) s))) ∧
  (∀ s f e q, sqOf s f e.sqid = some q → q.head ≠ q.tail → fetchBlocked s f = false → e.ctxOk = true →
    (fnOf s f).ctrl.stalled = false → budgetAllows s f = true → turnOf s f = true →
    (fnOf s f).ctrl.mayTake e.sqid = true → (e.sqid = 0 ∨ ioCheck s f e.opcode e.nsid = none) →
    (if e.sqid = 0 then adminOpcode e.opcode else ioOpcode e.opcode) = false →
    exec (.commandFetch f e) s = .next (finish ⟨.fn f, e.sqid, e.cid⟩ .invalidCommandOpcode
      (takeEntry f (newEntry s ⟨.fn f, e.sqid, e.cid⟩ e.opcode e.nsid) s))) ∧
  (∀ s f e q, sqOf s f e.sqid = some q → q.head ≠ q.tail → e.ctxOk = true →
    (fnOf s f).ctrl.stalled = false → budgetAllows s f = true →
    (turnOf s f && (fnOf s f).ctrl.mayTake e.sqid) = false → exec (.commandFetch f e) s = .next s) ∧
  (∀ s f e q, sqOf s f e.sqid = some q → q.head ≠ q.tail → fetchBlocked s f = false → e.ctxOk = true →
    (fnOf s f).ctrl.stalled = false → budgetAllows s f = false → ∃ t, exec (.commandFetch f e) s = .next t ∧
    (fnOf t f).ctrl.stalled = true ∧ (fnOf t f).ctrl.inflight = (fnOf s f).ctrl.inflight ∧
    sqOf t f e.sqid = some q ∧ t.nvm.stalls = satAdd s.nvm.stalls 1 ∧ Same [.fns, .nvm] s t) ∧
  (∀ s f, running s = true → (fnOf s f).ctrl.stalled = true → budgetAllows s f = true → ∃ t,
    exec (.fetchResume f) s = .next t ∧ (fnOf t f).ctrl.stalled = false ∧ Same [.fns] s t) ∧
  (∀ s f, budgetAllows s f = false → exec (.fetchResume f) s = .next s) ∧
  (∀ s f e q, sqOf s f e.sqid = some q → q.head ≠ q.tail → fetchBlocked s f = false → e.ctxOk = false → ∃ t,
    exec (.commandFetch f e) s = .next t ∧ (fnOf t f).fatal = true ∧ (fnOf t f).ctrl.cfs = true ∧
    (fnOf t f).ctrl.inflight = [] ∧ t.tab = s.tab ∧ t.media = s.media)

/-- Queues and controllers come and go by commands (R297, R303, R308, R313, R319 to R321, R324, R612). -/
def Obligations.QueueCommandsComplete : Prop :=
  (∀ s f q c u n, Safety.startOf ⟨.fn f, q, c⟩ 0x00 0 s = some u → n ≠ 0 → sqOf u f n ≠ none → ∃ v,
    exec (.deleteIoSq ⟨.fn f, q, c⟩ n) s = .next v ∧ sqOf v f n = none ∧ v.tab = u.tab ∧ v.media = u.media) ∧
  (∀ s f q c u n, Safety.startOf ⟨.fn f, q, c⟩ 0x04 0 s = some u → n ≠ 0 → cqOf u f n ≠ none →
    (∀ x ∈ (fnOf u f).ctrl.sqs, x.cqid ≠ n) → ∃ v, exec (.deleteIoCq ⟨.fn f, q, c⟩ n) s = .next v ∧
    cqOf v f n = none ∧ v.tab = u.tab ∧ v.media = u.media) ∧
  (∀ s f q c u n, Safety.startOf ⟨.fn f, q, c⟩ 0x01 0 s = some u → n.qid ≠ 0 → n.qid < vqCount u f →
    sqOf u f n.qid = none → 1 ≤ n.size → n.size ≤ 0xFFFF → n.contiguous = true → fieldOf 16 4 (fnOf u f).ctrl.cc = 6 →
    n.base.toNat % 4096 = 0 → n.cqid ≠ 0 → n.cqid < vqCount u f → cqOf u f n.cqid ≠ none → ∃ v,
    exec (.createIoSq ⟨.fn f, q, c⟩ n) s = .next v ∧
    sqOf v f n.qid = some ⟨n.qid, n.size + 1, n.base, n.cqid, n.prio, 0, 0,
      if (fnOf u f).ctrl.shadow.isSome then .polled else .plain, n.size⟩) ∧
  (∀ s f q c u n, Safety.startOf ⟨.fn f, q, c⟩ 0x05 0 s = some u → n.qid ≠ 0 → n.qid < vqCount u f →
    cqOf u f n.qid = none → 1 ≤ n.size → n.size ≤ 0xFFFF → n.contiguous = true → fieldOf 20 4 (fnOf u f).ctrl.cc = 4 →
    n.base.toNat % 4096 = 0 → n.iv < viCount u f → n.iv < msixSize f → ∃ v x,
    exec (.createIoCq ⟨.fn f, q, c⟩ n) s = .next v ∧ cqOf v f n.qid = some x ∧ x.size = n.size + 1 ∧
    x.base = n.base ∧ x.iv = n.iv ∧ x.ien = n.ien) ∧
  (∀ s f c a, mmioOk s f = true → (fnOf s f).frozen = false → (fnOf s f).ctrl.en = false → c.getLsbD 0 = true →
    enableOk c a = true → s.hold.restartDone = true → f.vf = 0 ∨ (fnOf s f).online = true → ∃ t,
    exec (.controllerEnable f c a) s = .next t ∧ (fnOf t f).ctrl.en = true ∧ (fnOf t f).ctrl.rdy = true ∧
    (fnOf t f).ctrl.cc = c ∧ (fnOf t f).ctrl.sqs = [adminSq ((fieldOf 0 12 a).toNat + 1)] ∧
    (fnOf t f).ctrl.cqs = [adminCq ((fieldOf 16 12 a).toNat + 1)]) ∧
  (∀ s f c a, mmioOk s f = true → (fnOf s f).frozen = false → (fnOf s f).ctrl.en = false → c.getLsbD 0 = true →
    enableOk c a = true → s.hold.restartDone = false → ∃ t, exec (.controllerEnable f c a) s = .next t ∧
    (fnOf t f).ctrl.en = true ∧ (fnOf t f).ctrl.rdy = false) ∧
  (∀ s f q c u a b, Safety.startOf ⟨.fn f, q, c⟩ 0x7C 0 s = some u → a.toNat % 4096 = 0 → b.toNat % 4096 = 0 → ∃ v,
    exec (.doorbellBufferConfig ⟨.fn f, q, c⟩ a b) s = .next v ∧ (fnOf v f).ctrl.shadow = some (a, b) ∧
    ∀ x ∈ (fnOf v f).ctrl.sqs, x.watch = .polled) ∧
  (∀ s f q c u n i e, Safety.startOf ⟨.fn f, q, c⟩ 0x08 0 s = some u → (⟨.fn f, n, i⟩ : Tag) ≠ ⟨.fn f, q, c⟩ →
    inflightOf u ⟨.fn f, n, i⟩ = some e → begun u f e = false →
    exec (.abort ⟨.fn f, q, c⟩ n i) s = .next (complete ⟨.fn f, q, c⟩ .success 0 (finish ⟨.fn f, n, i⟩ .abortRequested
      (modCtrl f (fun x => { x with aers := x.aers.filter fun a => !decide (a = ⟨.fn f, n, i⟩) }) u)))) ∧
  (∀ s f q c u n i, Safety.startOf ⟨.fn f, q, c⟩ 0x08 0 s = some u → inflightOf u ⟨.fn f, n, i⟩ = none →
    exec (.abort ⟨.fn f, q, c⟩ n i) s = .next (complete ⟨.fn f, q, c⟩ .success 1 u)) ∧
  (∀ s f q c u, Safety.startOf ⟨.fn f, q, c⟩ 0x0C 0 s = some u → (⟨.fn f, q, c⟩ : Tag) ∉ (fnOf u f).ctrl.aers →
    (fnOf u f).ctrl.aers.length < 16 → (fnOf u f).ctrl.events = [] → ∃ v,
    exec (.asynchronousEventRequest ⟨.fn f, q, c⟩) s = .next v ∧
    (fnOf v f).ctrl.aers = (fnOf u f).ctrl.aers ++ [⟨.fn f, q, c⟩] ∧ Same [.fns] u v) ∧
  (∀ s f q c u, Safety.startOf ⟨.fn f, q, c⟩ 0x0C 0 s = some u → (⟨.fn f, q, c⟩ : Tag) ∉ (fnOf u f).ctrl.aers →
    16 ≤ (fnOf u f).ctrl.aers.length →
    exec (.asynchronousEventRequest ⟨.fn f, q, c⟩) s = .next (finish ⟨.fn f, q, c⟩ .asyncEventLimitExceeded u))

/-! ## Logs, features and Identify (chapter 09) -/

/-- Log pages: what a read returns, who may read which page, and how a page's window is cut (R250, R313, R315, R422, R425,
R457, R494, R574, R581, R612). -/
def Obligations.LogPagesAnswer : Prop :=
  (∀ t s u i n o r, Safety.startOf t 0x02 0 s = some u → Safety.namesCtrl t u → logKnown i = true →
    logAllowed t.src i = true → (t.src = .mgt → n ≤ 4096) → o ≤ (logPage u t i).length →
    exec (.getLogPage t i n o r) s =
      .next (finishData t (window (logPage u t i) o n) (drawn 32 (logRead t i r u)))) ∧
  (∀ t s u i n o r, Safety.startOf t 0x02 0 s = some u → Safety.namesCtrl t u →
    logKnown i = false ∨ logAllowed t.src i = false →
    exec (.getLogPage t i n o r) s = .next (finish t .invalidLogPage u)) ∧
  (∀ t s u n o, Safety.startOf t 0x02 0 s = some u → isVf t.src = false → (t.src = .mgt → n ≤ 4096) →
    o ≤ (diePage u).length → exec (.dieHealthLog t n o) s =
      .next (finishData t (window (diePage u) o n) (drawn 1 u))) ∧
  (∀ t s u k n o, Safety.startOf t 0x02 0 s = some u → isVf t.src = false → (t.src = .mgt → n ≤ 4096) →
    o ≤ (tracePage u (k.toNat % 8)).length → exec (.armatureTraceLog t k n o) s =
      .next (finishData t (window (tracePage u (k.toNat % 8)) o n) (drawn 1 u))) ∧
  (∀ t s u n o, Safety.startOf t 0x02 0 s = some u → (t.src = .mgt → n ≤ 4096) → o ≤ (unitPage u t.src).length →
    exec (.unitStateTableLog t true n o) s =
      .next (finishData t (window (unitPage u t.src) o n) (drawn 1 u))) ∧
  (∀ t s u n o, Safety.startOf t 0x02 0 s = some u → isVf t.src = false → (t.src = .mgt → n ≤ 4096) →
    o ≤ (parityPage u).length → exec (.parityStatusLog t n o) s =
      .next (finishData t (window (parityPage u) o n) (drawn 16 u))) ∧
  (∀ t s u n o, Safety.startOf t 0x02 0 s = some u → isVf t.src = true →
    exec (.dieHealthLog t n o) s = .next (finish t .invalidLogPage u) ∧
    exec (.parityStatusLog t n o) s = .next (finish t .invalidLogPage u)) ∧
  (∀ t s u i k b, Safety.startOf t 0x06 k s = some u → Safety.namesCtrl t u → cnsKnown i = true →
    identifyData u (featFunc t) i k = some b → exec (.identify t i k) s = .next (finishData t b (drawn 1 u))) ∧
  (∀ t s u i k, Safety.startOf t 0x06 k s = some u → Safety.namesCtrl t u → cnsKnown i = false →
    exec (.identify t i k) s = .next (finish t .invalidField u))

/-- Features: none is saveable, each scope's value is stored where it belongs and read back, and key binding and the power
limit take their ranges (R316 to R318, R338, R342). -/
def Obligations.FeaturesAreSetAndRead : Prop :=
  (∀ t s u v d, Safety.startOf t 0x09 0 s = some u → Safety.namesCtrl t u → ∃ w,
    exec (.setFeatures t 0x01 false 0 v d) s = .next w ∧ (fnOf w (featFunc t)).ctrl.feats.arbitration = v) ∧
  (∀ t s u v d, Safety.startOf t 0x09 0 s = some u → Safety.namesCtrl t u → ∃ w,
    exec (.setFeatures t 0x08 false 0 v d) s = .next w ∧ (fnOf w (featFunc t)).ctrl.feats.coalesce = v) ∧
  (∀ t s u v d, Safety.startOf t 0x09 0 s = some u → Safety.namesCtrl t u → v.getLsbD 0 = true → ∃ w,
    exec (.setFeatures t 0x81 false 0 v d) s = .next w ∧ (fnOf w (featFunc t)).ctrl.feats.hostId = d) ∧
  (∀ t s u v d, Safety.startOf t 0x09 0 s = some u → isVf t.src = false → fieldOf 16 4 v = 0 → fieldOf 20 2 v = 0 →
    ∃ w, exec (.setFeatures t 0x04 false 0 v d) s = .next w ∧
    fieldOf 0 16 w.nvm.tempThreshold = fieldOf 0 16 v ∧
    fieldOf 16 16 w.nvm.tempThreshold = fieldOf 16 16 u.nvm.tempThreshold) ∧
  (∀ t s u i k v d, Safety.startOf t 0x09 k s = some u → Safety.namesCtrl t u → featKnown i = true →
    exec (.setFeatures t i true k v d) s = .next (finish t .featureNotSaveable u)) ∧
  (∀ t s u i k v d, Safety.startOf t 0x09 k s = some u → Safety.namesCtrl t u → featDevice i = true →
    isVf t.src = true → exec (.setFeatures t i false k v d) s = .next (finish t .featureNotChangeable u)) ∧
  (∀ t s u v, Safety.startOf t 0x0A 0 s = some u → Safety.namesCtrl t u → exec (.getFeatures t 0x08 0 v) s =
    .next (complete t .success (fnOf u (featFunc t)).ctrl.feats.coalesce u)) ∧
  (∀ t s u v, Safety.startOf t 0x0A 0 s = some u → exec (.getFeatures t 0xD2 0 v) s =
    .next (complete t .success (BitVec.ofNat 32 u.nvm.watts) u)) ∧
  (∀ t s u k v n, Safety.startOf t 0x0A k s = some u → visibleNs u k.toNat = some n →
    exec (.getFeatures t 0x05 k v) s = .next (complete t .success n.tler u)) ∧
  (∀ t s u v, Safety.startOf t 0x09 0 s = some u → isVf t.src = false → 12 ≤ (fieldOf 0 6 v).toNat →
    (fieldOf 0 6 v).toNat ≤ 42 → ∃ w, exec (.packagePowerLimit t false v) s = .next w ∧
    w.nvm.watts = (fieldOf 0 6 v).toNat ∧ w.tab = u.tab ∧ w.media = u.media) ∧
  (∀ t s u v, Safety.startOf t 0x09 0 s = some u → isVf t.src = false →
    (fieldOf 0 6 v).toNat < 12 ∨ 42 < (fieldOf 0 6 v).toNat →
    exec (.packagePowerLimit t false v) s = .next (finish t .invalidField u)) ∧
  (∀ t s u k v n, Safety.startOf t 0x09 k s = some u → isVf t.src = false → visibleNs u k.toNat = some n →
    n.state ≠ .deleting → nsInExport u k.toNat = false → v.getLsbD 31 = true → (fieldOf 0 12 v).toNat < 2048 →
    mayBind u t.src (fieldOf 0 12 v).toNat = true → (keySlot u (fieldOf 0 12 v).toNat).gen ≠ 0 →
    (∀ e ∈ u.tab.nss, e.1 ≠ k.toNat → e.2.slot ≠ some (fieldOf 0 12 v).toNat) → nsHoldsData u k.toNat = false → ∃ w,
    exec (.namespaceKeyBinding t false k v) s = .next w ∧
    (nsOf w k.toNat).map (·.slot) = some (some (fieldOf 0 12 v).toNat) ∧ w.media = u.media)

/-! ## Namespaces, tenants and device operations (chapter 09) -/

/-- Namespaces are created with the lowest free identifier, deleted once nothing uses them, attached and detached (R335 to
R337, R342, R344, R390). -/
def Obligations.NamespaceCommandsComplete : Prop :=
  (∀ t s u c i x, Safety.startOf t 0x0D 0 s = some u → Safety.allowed true false true t = true →
    u.nvm.sanitize = none → c.iuCode.toNat ≤ 2 → c.lbaf.toNat ≤ 3 →
    lbaBytes c.lbaf.toNat ≤ iuBytes c.iuCode.toNat → c.nsze ≠ 0 → c.ncap.toNat ≤ c.nsze.toNat →
    (c.iuCode.toNat = 1 → cap4k u + c.nsze.toNat * lbaBytes c.lbaf.toNat ≤ 2 ^ 44) →
    (c.nsze.toNat * lbaBytes c.lbaf.toNat + iuBytes c.iuCode.toNat - 1) / iuBytes c.iuCode.toNat *
      iuBytes c.iuCode.toNat ≤ unallocated u →
    lowestFree 1 1024 (u.tab.nss.map (·.1)) = some i → lowestFree 0 1024 (u.tab.nss.map fun e => e.2.index) = some x →
    ∃ v n, exec (.namespaceCreate t c) s = .next v ∧ nsOf v i = some n ∧ n.nsze = c.nsze ∧ n.ncap = c.ncap ∧
    n.lbaf = c.lbaf.toNat ∧ n.iu = c.iuCode.toNat ∧ n.priv = c.priv ∧ n.index = x ∧ n.state = .active ∧
    n.attached = [] ∧ n.slot = none ∧ (∀ j, j ≠ i → nsOf v j = nsOf u j) ∧ v.media = u.media) ∧
  (∀ t s u k n, Safety.startOf t 0x0D k s = some u → Safety.allowed true false true t = true →
    u.nvm.sanitize = none → k ≠ 0xFFFFFFFF → visibleNs u k.toNat = some n → n.state ≠ .deleting →
    nsInExport u k.toNat = false → ∃ v, exec (.namespaceDelete t k) s = .next v ∧
    nsOf v k.toNat = some { n with state := .deleting, job := some (.delete t) } ∧ v.media = u.media) ∧
  (∀ t s u k, Safety.startOf t 0x0D k s = some u → Safety.allowed true false true t = true →
    u.nvm.sanitize = none → k ≠ 0xFFFFFFFF → visibleNs u k.toNat = none →
    exec (.namespaceDelete t k) s = .next (finish t .invalidNamespaceOrFormat u)) ∧
  (∀ s k n t, running s = true → nsOf s k.toNat = some n → n.job = some (.delete t) → nsBusy s k.toNat = false → ∃ v,
    exec (.namespaceDeleteComplete k) s = .next v ∧ nsOf v k.toNat = none ∧
    (∀ i, iuNs i = k.toNat → mapOf v i = mapNone) ∧ v.media = s.media) ∧
  (∀ s k n t, nsOf s k.toNat = some n → n.job = some (.delete t) → nsBusy s k.toNat = true →
    exec (.namespaceDeleteComplete k) s = .next s) ∧
  (∀ t s u k n l, Safety.startOf t 0x15 k s = some u → Safety.allowed true false true t = true →
    u.nvm.sanitize = none → visibleNs u k.toNat = some n → n.state ≠ .deleting → nsInExport u k.toNat = false →
    l ≠ [] → (∀ c ∈ l, 1 ≤ c ∧ c ≤ 256 ∧ c ∉ n.attached) → n.priv = false → ∃ v,
    exec (.namespaceAttachment t k true l) s = .next v ∧
    (nsOf v k.toNat).map (·.attached) = some (n.attached ++ l.eraseDups) ∧ v.media = u.media) ∧
  (∀ t s u k n l, Safety.startOf t 0x15 k s = some u → Safety.allowed true false true t = true →
    u.nvm.sanitize = none → visibleNs u k.toNat = some n → n.state ≠ .deleting → nsInExport u k.toNat = false →
    l ≠ [] → (∀ c ∈ l, 1 ≤ c ∧ c ≤ 256 ∧ c ∈ n.attached) → ∃ v,
    exec (.namespaceAttachment t k false l) s = .next v ∧
    (nsOf v k.toNat).map (·.attached) = some (n.attached.filter fun c => !l.contains c) ∧ v.media = u.media)

/-- Tenants' resources, self-test, format and sanitize (R201, R313, R329, R330, R340, R342 to R344, R352). -/
def Obligations.DeviceOperationsComplete : Prop :=
  (∀ t s u f n, Safety.startOf t 0x1C 0 s = some u → Safety.allowed true false true t = true → f.vf ≠ 0 → f.vf ≤ 127 →
    manages t.src f = true → (fnOf u f).online = false → 2 ≤ n → n ≤ 64 → vqTaken u f + n ≤ 1792 → ∃ v,
    exec (.virtualizationManagement t (.assignVq f n)) s = .next v ∧ (fnOf v f).vq = n ∧ (fnOf v f).vi = (fnOf u f).vi) ∧
  (∀ t s u f n, Safety.startOf t 0x1C 0 s = some u → Safety.allowed true false true t = true → f.vf ≠ 0 → f.vf ≤ 127 →
    manages t.src f = true → (fnOf u f).online = false → 1 ≤ n → n ≤ 64 → viTaken u f + n ≤ 2048 → ∃ v,
    exec (.virtualizationManagement t (.assignVi f n)) s = .next v ∧ (fnOf v f).vi = n ∧ (fnOf v f).vq = (fnOf u f).vq) ∧
  (∀ t s u f, Safety.startOf t 0x1C 0 s = some u → Safety.allowed true false true t = true → f.vf ≠ 0 → f.vf ≤ 127 →
    manages t.src f = true → fnPresent u f = true → 2 ≤ (fnOf u f).vq → 1 ≤ (fnOf u f).vi → (fnOf u f).retired = false →
    ∃ v, exec (.virtualizationManagement t (.online f)) s = .next v ∧ (fnOf v f).online = true) ∧
  (∀ t s u f, Safety.startOf t 0x1C 0 s = some u → Safety.allowed true false true t = true → f.vf ≠ 0 → f.vf ≤ 127 →
    manages t.src f = true → ∃ v, exec (.virtualizationManagement t (.offline f)) s = .next v ∧
    (fnOf v f).online = false ∧ ((fnOf u f).online = true → (fnOf v f).ctrl.en = false)) ∧
  (∀ t s u c, Safety.startOf t 0x14 0 s = some u → Safety.allowed true false true t = true → u.nvm.sanitize = none →
    c = 1 ∨ c = 2 → u.nvm.selfTest = none → ∃ v, exec (.deviceSelfTest t c) s = .next v ∧
    v.nvm.selfTest = some (t, c)) ∧
  (∀ s r t c, running s = true → s.nvm.selfTest = some (t, c) → ∃ v, exec (.deviceSelfTestComplete r) s = .next v ∧
    v.nvm.selfTest = none ∧ v.nvm.selfTestLog = ((r, c) :: s.nvm.selfTestLog).take 20 ∧ Same [.nvm] s v) ∧
  (∀ t s u k n b, Safety.startOf t 0x80 k s = some u → u.nvm.sanitize = none → k ≠ 0xFFFFFFFF →
    visibleNs u k.toNat = some n → formatCheck u t.src k.toNat b.toNat 1 n = none → ∃ v,
    exec (.formatNvm t k b 1) s = .next v ∧
    nsOf v k.toNat = some { n with state := .formatting, job := some (.format t b.toNat 1) } ∧ v.media = u.media) ∧
  (∀ s k n t b, running s = true → nsOf s k.toNat = some n → n.job = some (.format t b 1) →
    nsBusy s k.toNat = false → ∃ v,
    exec (.formatNvmComplete k true) s = .next v ∧ nsOf v k.toNat = some (formatted b n) ∧
    (∀ i, iuNs i = k.toNat → mapOf v i = mapNone) ∧ v.media = s.media) ∧
  (∀ s k n t b i, nsOf s k.toNat = some n → n.job = some (.format t b 2) → n.slot = some i → entropyWaits s = true →
    exec (.formatNvmComplete k true) s = .next s) ∧
  (∀ t s u, Safety.startOf t 0x84 0 s = some u → Safety.allowed true false true t = true → u.nvm.sanitize = none →
    (∀ x ∈ u.mqt.sess, x.imp = true) → (∀ e ∈ u.tab.nss, e.2.job = none) → ∃ v, exec (.sanitize t 2 false) s = .next v ∧
    v.nvm.sanitize = some { crypto := false, tag := t } ∧ v.media = u.media) ∧
  (∀ s z, running s = true → s.nvm.sanitize = some z → z.crypto = false → ∃ v, exec (.sanitizeComplete true) s = .next v ∧
    v.nvm.sanitize = none ∧ v.nvm.sanitized = true ∧ v.nvm.sanitizeFailed = false ∧ v.media.ius = [] ∧
    v.media.stripes = [] ∧ v.ftl.rows = [] ∧ (s.tab.offline = true → v.tab.offline = false)) ∧
  (∀ s z, running s = true → s.nvm.sanitize = some z → z.crypto = false ∨ entropyWaits s = false → ∃ v,
    exec (.sanitizeComplete false) s = .next v ∧ v.nvm.sanitize = none ∧ v.nvm.sanitizeFailed = true ∧
    v.media.ius = s.media.ius) ∧
  (∀ s z i r, s.nvm.sanitize = some z → z.crypto = true → (∃ e ∈ s.tab.nss, e.2.slot = some i) → entropyWaits s = true →
    exec (.sanitizeComplete r) s = .next s)

/-! ## I/O commands (chapter 09) -/

/-- A write admitted to the cache is read back: every block of the range then reads as the host's data under the key the
command captured (R33, R34, R205, R401, R404, R509). -/
def Obligations.AdmittedWritesAreReadBack : Prop :=
  ∀ t io sgl d h bad s u n e, Safety.ioReady t 0x01 io.nsid true s u n e → xferCheck n io sgl = none →
    admitted u ((iusOf n io.slba.toNat (ioBlocks io)).map (iuKey io.nsid.toNat)) = true →
    (∀ x ∈ iusOf n io.slba.toNat (ioBlocks io), ∀ w ∈ u.ftl.wt, w.key ≠ iuKey io.nsid.toNat x) →
    ∃ v, exec (.ioWrite t io false sgl d h bad) s = .next v ∧ v.tab.map = u.tab.map ∧ v.media = u.media ∧
    ∀ j env lim, j < ioBlocks io → env.cacheBad = [] →
      readBlk v env lim (iuKey io.nsid.toNat ((io.slba.toNat + j) / n.perIu)) ((io.slba.toNat + j) % n.perIu) =
        .good (hostBlk e.key (lbaBytes n.lbaf) (metaBytes n.lbaf) d h j)

/-- Writes end at once in the cache, or wait for media in write-through (R34, R299, R345, R346, R350, R402, R509); `moves` are
the requests that fetch the data. -/
def Obligations.WritesCompleteOrWait : Prop :=
  (∀ t io sgl d h bad s u n e st, Safety.ioReady t 0x01 io.nsid true s u n e → xferCheck n io sgl = some st →
    ∀ fua, exec (.ioWrite t io fua sgl d h bad) s = .next (finish t st u)) ∧
  (∀ t f io sgl d h bad s u n e, t.src = .fn f → Safety.ioReady t 0x01 io.nsid true s u n e →
    xferCheck n io sgl = none →
    admitted u ((iusOf n io.slba.toNat (ioBlocks io)).map (iuKey io.nsid.toNat)) = false → ∀ fua, ∃ v,
    exec (.ioWrite t io fua sgl d h bad) s = .next v ∧ v.ftl.cache = u.ftl.cache ∧ v.out = (moves f false io u).out ∧
    v.ftl.wt.length = u.ftl.wt.length + (iusOf n io.slba.toNat (ioBlocks io)).length ∧
    (∀ w ∈ v.ftl.wt.drop u.ftl.wt.length, w.tag = some t ∧ w.forced = true) ∧
    v.hold.wtWrites = satAdd u.hold.wtWrites 1 ∧ (inflightOf v t).map (·.phase) = some .dataIn) ∧
  (∀ t io sgl d h bad s u n e, Safety.ioReady t 0x01 io.nsid true s u n e → xferCheck n io sgl = none →
    admitted u ((iusOf n io.slba.toNat (ioBlocks io)).map (iuKey io.nsid.toNat)) = true → ∃ v,
    exec (.ioWrite t io true sgl d h bad) s = .next v ∧ v.ftl.cache = u.ftl.cache ∧
    (∀ w ∈ v.ftl.wt.drop u.ftl.wt.length, w.tag = some t ∧ w.forced = false) ∧ v.hold.wtWrites = u.hold.wtWrites) ∧
  (∀ t s f u k, t.src = .fn f → t.sqid ≠ 0 → Safety.startOf t 0x00 k s = some u → nsOf u k.toNat = none →
    hasAhead u f t = false → exec (.ioFlush t k) s = .next (finish t .success u)) ∧
  (∀ t s f u k, t.src = .fn f → t.sqid ≠ 0 → Safety.startOf t 0x00 k s = some u → nsOf u k.toNat = none →
    hasAhead u f t = true → exec (.ioFlush t k) s = .next (setPhase t .held u)) ∧
  (∀ t s u k n e, Safety.ioReady t 0x00 k true s u n e → (∀ f, t.src = .fn f → hasAhead u f t = false) →
    exec (.ioFlush t k) s = .next (finish t .success u))

/-- Whole units become deallocated or write-uncorrectable at once, and read so (R314, R406, R430). -/
def Obligations.SpecialUnitsTakeEffectAtOnce : Prop :=
  (∀ t io s u n e, Safety.ioReady t 0x04 io.nsid true s u n e → inRange n io.slba.toNat (ioBlocks io) = true → ∃ v,
    exec (.writeUncorrectable t io) s = .next v ∧ ∀ x ∈ iusOf n io.slba.toNat (ioBlocks io),
    coversIu n io.slba.toNat (ioBlocks io) x = true → mapOf v (iuKey io.nsid.toNat x) = mapUnc ∧
    lineOf v (iuKey io.nsid.toNat x) = none) ∧
  (∀ t io s u n e, Safety.ioReady t 0x08 io.nsid true s u n e → inRange n io.slba.toNat (ioBlocks io) = true → ∃ v,
    exec (.writeZeroes t io true) s = .next v ∧ ∀ x ∈ iusOf n io.slba.toNat (ioBlocks io),
    coversIu n io.slba.toNat (ioBlocks io) x = true → mapOf v (iuKey io.nsid.toNat x) = mapNone ∧
    lineOf v (iuKey io.nsid.toNat x) = none) ∧
  (∀ t io s u n e, Safety.ioReady t 0x08 io.nsid true s u n e → inRange n io.slba.toNat (ioBlocks io) = true →
    exec (.writeZeroes t io false) s = .next (finishWrite t (writeUnits t io.nsid.toNat n io.slba.toNat (ioBlocks io)
      (fun _ => zeroBlk e.key) [] false (iusOf n io.slba.toNat (ioBlocks io)) u))) ∧
  (∀ t k s u n e l, Safety.ioReady t 0x09 k true s u n e →
    exec (.datasetManagement t k false l) s = .next (finish t .success u)) ∧
  (∀ t k s u n e r, Safety.ioReady t 0x09 k true s u n e → inRange n r.slba.toNat r.len.toNat = true → ∃ v,
    exec (.datasetManagement t k true [r]) s = .next v ∧ ∀ x ∈ iusOf n r.slba.toNat r.len.toNat,
    coversIu n r.slba.toNat r.len.toNat x = true → mapOf v (iuKey k.toNat x) = mapNone ∧
    lineOf v (iuKey k.toNat x) = none) ∧
  (∀ t io s u n e, Safety.ioReady t 0x04 io.nsid true s u n e → inRange n io.slba.toNat (ioBlocks io) = false →
    exec (.writeUncorrectable t io) s = .next (finish t .lbaOutOfRange u))

/-- Reads, compares, verifies and salvage reads answer with what the blocks hold (R314, R345, R404, R429, R430, R440,
R452 to R455); one that targets a row not yet resynchronised waits (R444); `moves` are the requests that move the data
(R299). -/
def Obligations.ReadsAnswerWithTheBlocks : Prop :=
  (∀ t f io lim sgl env s u n e, t.src = .fn f → Safety.ioReady t 0x02 io.nsid false s u n e →
    xferCheck n io sgl = none → readWaits u io.nsid.toNat n io.slba.toNat (ioBlocks io) = false →
    readStatus (readRange u env lim io.nsid.toNat n io.slba.toNat (ioBlocks io)) = none →
    exec (.ioRead t io lim sgl env) s = .next (finishData t
      (readBytes e.key n (readRange u env lim io.nsid.toNat n io.slba.toNat (ioBlocks io)))
      (moves f true io (touchRange env lim false io.nsid.toNat n io.slba.toNat (ioBlocks io) u)))) ∧
  (∀ t io lim sgl env s u n e st, Safety.ioReady t 0x02 io.nsid false s u n e → xferCheck n io sgl = none →
    readWaits u io.nsid.toNat n io.slba.toNat (ioBlocks io) = false →
    readStatus (readRange u env lim io.nsid.toNat n io.slba.toNat (ioBlocks io)) = some st → ∃ v,
    exec (.ioRead t io lim sgl env) s = .next v ∧ (st = .digestMismatch ∨ st = .unrecoveredReadError) ∧
    (∀ b, Output.data t b ∉ v.out.drop u.out.length) ∧ v.tab.map = u.tab.map) ∧
  (∀ t f io d env s u n e, t.src = .fn f → Safety.ioReady t 0x05 io.nsid false s u n e → xferCheck n io [] = none →
    readWaits u io.nsid.toNat n io.slba.toNat (ioBlocks io) = false →
    readStatus (readRange u env false io.nsid.toNat n io.slba.toNat (ioBlocks io)) = none →
    exec (.ioCompare t io d env) s = .next (finish t
      (if readBytes e.key n (readRange u env false io.nsid.toNat n io.slba.toNat (ioBlocks io)) = d then .success
        else .compareFailure) (touchRange env false false io.nsid.toNat n io.slba.toNat (ioBlocks io) (moves f false io u)))) ∧
  (∀ t io env s u n e, Safety.ioReady t 0x0C io.nsid false s u n e →
    inRange n io.slba.toNat (ioBlocks io) = true → readWaits u io.nsid.toNat n io.slba.toNat (ioBlocks io) = false →
    exec (.ioVerify t io env) s = .next (finish t
      ((readStatus (readRange u env false io.nsid.toNat n io.slba.toNat (ioBlocks io))).getD .success)
      (touchRange env false false io.nsid.toNat n io.slba.toNat (ioBlocks io) u))) ∧
  (∀ t k a c m b env s u n e, Safety.ioReady t 0x84 k false s u n e → c ≠ 0 → inMdts n c.toNat = true →
    inRange n a.toNat c.toNat = true → readWaits u k.toNat n a.toNat c.toNat = false →
    firstLost (readRange u { env with answering := if b then env.answering else [] } false k.toNat n a.toNat c.toNat) =
      none → ∃ v, exec (.salvageRead t k a c m b env) s = .next v ∧ v.ftl.salvageLost = u.ftl.salvageLost ∧
    v.ftl.refresh = u.ftl.refresh ∧ v.tab.map = u.tab.map ∧ v.ftl.cache = u.ftl.cache) ∧
  (∀ t k a c b env s u n e i, Safety.ioReady t 0x84 k false s u n e → c ≠ 0 → inMdts n c.toNat = true →
    inRange n a.toNat c.toNat = true → readWaits u k.toNat n a.toNat c.toNat = false →
    firstLost (readRange u { env with answering := if b then env.answering else [] } false k.toNat n a.toNat c.toNat) =
      some i → ∃ v, exec (.salvageRead t k a c false b env) s = .next v ∧
    v.ftl.salvageLost = satAdd u.ftl.salvageLost 1 ∧ v.ftl.refresh = u.ftl.refresh ∧ v.tab.map = u.tab.map) ∧
  (∀ t io lim sgl env s u n e, Safety.ioReady t 0x02 io.nsid false s u n e → xferCheck n io sgl = none →
    readWaits u io.nsid.toNat n io.slba.toNat (ioBlocks io) = true → exec (.ioRead t io lim sgl env) s = .next u) ∧
  (∀ t io d env s u n e, Safety.ioReady t 0x05 io.nsid false s u n e → xferCheck n io [] = none →
    readWaits u io.nsid.toNat n io.slba.toNat (ioBlocks io) = true → exec (.ioCompare t io d env) s = .next u) ∧
  (∀ t io env s u n e, Safety.ioReady t 0x0C io.nsid false s u n e →
    inRange n io.slba.toNat (ioBlocks io) = true → readWaits u io.nsid.toNat n io.slba.toNat (ioBlocks io) = true →
    exec (.ioVerify t io env) s = .next u) ∧
  (∀ t k a c m b env s u n e, Safety.ioReady t 0x84 k false s u n e → c ≠ 0 → inMdts n c.toNat = true →
    inRange n a.toNat c.toNat = true → readWaits u k.toNat n a.toNat c.toNat = true →
    exec (.salvageRead t k a c m b env) s = .next u)

/-- Reservations: a registrant joins, acquires, is reported and releases (R314). The layouts and the rules are NVMe Base
2.1's (log 39). -/
def Obligations.ReservationCommandsComplete : Prop :=
  (∀ t k c s u n e, Safety.ioReady t 0x0D k false s u n e → c.action = 0 → rsvKey u n.rsv t.src = none → ∃ v,
    exec (.reservationRegister t k c) s = .next v ∧
    (nsOf v k.toNat).map (·.rsv.regs) = some (n.rsv.regs ++ [(t.src, c.newKey)]) ∧
    (nsOf v k.toNat).map (·.rsv.gen) = some (n.rsv.gen + 1) ∧ v.media = u.media) ∧
  (∀ t k c s u n e, Safety.ioReady t 0x0D k false s u n e → c.action = 1 → rsvKey u n.rsv t.src = none →
    exec (.reservationRegister t k c) s = .next (finish t .reservationConflict u)) ∧
  (∀ t k s u n e, Safety.ioReady t 0x0E k false s u n e →
    exec (.reservationReport t k) s = .next (finishData t (rsvReport u n.rsv) u)) ∧
  (∀ t k c s u n e, Safety.ioReady t 0x11 k false s u n e → c.ignoreKey = false → 1 ≤ c.rtype.toNat →
    c.rtype.toNat ≤ 6 → c.action = 0 → rsvKey u n.rsv t.src = some c.curKey → n.rsv.holder = none → ∃ v,
    exec (.reservationAcquire t k c) s = .next v ∧ (nsOf v k.toNat).map (·.rsv.holder) = some (some t.src) ∧
    (nsOf v k.toNat).map (·.rsv.rtype) = some c.rtype) ∧
  (∀ t k c s u n e, Safety.ioReady t 0x11 k false s u n e → c.ignoreKey = false → 1 ≤ c.rtype.toNat →
    c.rtype.toNat ≤ 6 → c.action.toNat ≤ 2 → rsvKey u n.rsv t.src ≠ some c.curKey →
    exec (.reservationAcquire t k c) s = .next (finish t .reservationConflict u)) ∧
  (∀ t k c s u n e, Safety.ioReady t 0x15 k false s u n e → c.ignoreKey = false → c.action = 0 →
    rsvKey u n.rsv t.src = some c.curKey → holds u n.rsv t.src = true → c.rtype = n.rsv.rtype → ∃ v,
    exec (.reservationRelease t k c) s = .next v ∧ (nsOf v k.toNat).map (·.rsv.holder) = some none ∧
    (nsOf v k.toNat).map (·.rsv.regs) = some n.rsv.regs)

/-! ## Flash channels and dies (chapter 10) -/

/-- Channels identify their dies, train, and retrain (R96, R356 to R366, R387, R389). -/
def Obligations.ChannelsTrainAndRetrain : Prop :=
  (∀ s c l ok n w u m k, powered s = true → s.boot.phase ≠ .optionFault →
    (chanOf s c).state = .unpopulated ∨ (chanOf s c).state = .training →
    w = (allProbes l).foldl (fun s p => identifyDie c p s) s →
    u = setChan c { chanOf w c with
      accepted := ((allProbes l).filter fun p => p.answers && decide (probeReason p = 0)).map (·.die),
      tried := true } w →
    (chanOf u c).accepted ≠ [] → trainModes (modesPass ok) n (topMode u c) = (some m, k) → ∃ t,
    exec (.channelTraining c l ok n) s = .next t ∧ (chanOf t c).state = .online ∧ (chanOf t c).mode = m ∧
    (chanOf t c).dllLock = true ∧ (chanOf t c).accepted = (chanOf u c).accepted) ∧
  (∀ s c ok n, powered s = true → s.boot.phase ≠ .optionFault → (chanOf s c).state = .unpopulated → ∃ t,
    exec (.channelTraining c [] ok n) s = .next t ∧ (chanOf t c).state = .unpopulated ∧ (chanOf t c).accepted = [] ∧
    (chanOf t c).tried = true) ∧
  (∀ s c l ok n, s.boot.phase = .optionFault → exec (.channelTraining c l ok n) s = .next s) ∧
  (∀ s c l ok n m k, powered s = true → s.boot.phase ≠ .optionFault → (chanOf s c).state = .retraining →
    trainModes (modesPass ok) n (chanOf s c).trainTop = (some m, k) → ∃ t,
    exec (.channelTraining c l ok n) s = .next t ∧ (chanOf t c).state = .online ∧ (chanOf t c).mode = m ∧
    (chanOf t c).accepted = (chanOf s c).accepted ∧ (chanOf t c).pending = (chanOf s c).pending ∧
    Same [.flash, .evs0, .evs1] s t) ∧
  (∀ s c, powered s = true → (chanOf s c).state = .online → ∃ t, exec (.retrainTrigger c .dllDrift) s = .next t ∧
    chanOf t c = { chanOf s c with pending := true } ∧ Same [.flash, .evs0, .evs1] s t) ∧
  (∀ s c n k, powered s = true → (chanOf s c).state = .online → ∃ t, exec (.retrainTrigger c (.transferErrors n k)) s = .next t ∧
    (chanOf t c).pending = ((chanOf s c).pending || decide (8 ≤ n ∧ 2 ≤ k)) ∧ Same [.flash, .evs0, .evs1] s t) ∧
  (∀ s c v, running s = true → ∃ t, exec (.retrainReq c v) s = .next t ∧
    (chanOf t c).pending = ((chanOf s c).pending ||
      (v.getLsbD 0 && decide ((chanOf s c).state = .online ∨ (chanOf s c).state = .retraining))) ∧
    (chanOf t c).forced = ((chanOf s c).forced && !v.getLsbD 2) ∧ Same [.flash, .evs0, .evs1] s t) ∧
  (∀ s c ok us m k, powered s = true → (chanOf s c).pending = true → (chanOf s c).state = .online → noReads s c = true →
    trainModes (modesPass ok) (if (modesPass ok).getD 1 false then 0 else 3) (topMode s c) = (some m, k) → ∃ t,
    exec (.retrainIdleWindow c ok us) s = .next t ∧ (chanOf t c).pending = false ∧ (chanOf t c).mode = m ∧
    (chanOf t c).retrains = satAdd (chanOf s c).retrains 1 ∧ (chanOf t c).forced = (chanOf s c).forced ∧
    Same [.flash, .evs0, .evs1] s t) ∧
  (∀ s c us, powered s = true → (chanOf s c).pending = true → (chanOf s c).state = .online → anyRebuilding s = false → ∃ t,
    exec (.retrainForceTimeout c us) s = .next t ∧ (chanOf t c).pending = false ∧ (chanOf t c).forced = true ∧
    (chanOf t c).state = .retraining ∧ (chanOf t c).trainTop = topMode s c ∧
    (chanOf t c).retrains = satAdd (chanOf s c).retrains 1 ∧ Same [.flash, .evs0, .evs1] s t) ∧
  (∀ s c us, anyRebuilding s = true → exec (.retrainForceTimeout c us) s = .next s) ∧
  (∀ s c ok us m k, powered s = true → (chanOf s c).state = .online →
    trainModes (modesPass ok) (if (modesPass ok).getD 1 false then 0 else 3) (topMode s c) = (some m, k) → ∃ t,
    exec (.dllLockLoss c ok us) s = .next t ∧ (chanOf t c).mode = m ∧ (chanOf t c).dllLock = true ∧
    (chanOf t c).lastUs = (if 2000 < us.toNat then 2000 else us) ∧ Same [.flash, .evs0, .evs1] s t) ∧
  (∀ s c ok us k, powered s = true → (chanOf s c).state = .online →
    trainModes (modesPass ok) (if (modesPass ok).getD 1 false then 0 else 3) (topMode s c) = (none, k) → ∃ t,
    exec (.dllLockLoss c ok us) s = .next t ∧ (chanOf t c).state = .failed ∧ (chanOf t c).mode = 0)

/-- Dies issue, suspend, resume and end operations; a Suspect die recovers or fails (R367 to R374, R381 to R384, R386,
R474). -/
def Obligations.DieOperationsComplete : Prop :=
  (∀ s d o, powered s = true → issueOp s d = some o → ∃ t, exec (.dieOpIssue d) s = .next t ∧
    dieOf t d = { (dieOf s d).pop o with
      run := some { op := o, suspends := 0, served := 0 },
      susp := (dieOf s d).susp.map fun r => { r with served := r.served + 1 } } ∧
    (∀ x, x ≠ d → dieOf t x = dieOf s x) ∧
    t.arm.bucket = (if isRead o.cls = true then s.arm.bucket else s.arm.bucket - o.cost) ∧
    t.flash.turn = (if isRead o.cls = true then s.flash.turn else dieChan d) ∧ Same [.flash, .arm, .ftl] s t) ∧
  (∀ s d o, issueOp s d = some o → o ∈ (dieOf s d).queue ∧
    (isRead o.cls = false → o.cost ≤ s.arm.bucket ∧ (dieOf s d).susp = none)) ∧
  (∀ s d, (dieOf s d).state = .failed → exec (.dieOpIssue d) s = .next s) ∧
  (∀ s d r x, powered s = true → (dieOf s d).run = some r → ∃ t, exec (.dieOpComplete d x) s = .next t ∧
    (dieOf t d).run = none ∧ t.media = s.media) ∧
  (∀ s d r p b, powered s = true → (dieOf s d).run = some r → isRead r.op.cls = false → (p, b) ∉ (dieTab s d).grown →
    (dieTab s d).grown.length < 1024 → ∃ t, exec (.dieOpComplete d (.failed p b)) s = .next t ∧
    (p, b) ∈ (dieTab t d).grown) ∧
  (∀ s d r, powered s = true → (dieOf s d).run = some r → isRead r.op.cls = false → (dieOf s d).susp = none →
    r.suspends < 12 → (dieOf s d).queue.any (fun o => isRead o.cls) = true → ∃ t, exec (.dieSuspend d true) s = .next t ∧
    dieOf t d = { dieOf s d with
      run := none, susp := some { r with suspends := r.suspends + 1, served := 0 },
      maxSusp := satOf 16 (max (dieOf s d).maxSusp.toNat (r.suspends + 1)) } ∧
    t.flash.suspends = satAdd s.flash.suspends 1 ∧
    t.flash.capHits = (if r.suspends = 11 then satAdd s.flash.capHits 1 else s.flash.capHits) ∧ Same [.flash] s t) ∧
  (∀ s d r b, (dieOf s d).run = some r → 12 ≤ r.suspends → exec (.dieSuspend d b) s = .next s) ∧
  (∀ s d r b, powered s = true → (dieOf s d).susp = some r → (dieOf s d).run = none →
    b = true ∨ 8 ≤ r.served ∨ (dieOf s d).queue.any (fun o => isRead o.cls) = false → ∃ t,
    exec (.dieResume d b) s = .next t ∧ dieOf t d = { dieOf s d with run := some r, susp := none } ∧ Same [.flash] s t) ∧
  (∀ s d r, powered s = true → (dieOf s d).run = some r → (dieOf s d).state = .online → ∃ t,
    exec (.dieBusyTimeout d) s = .next t ∧
    (dieOf t d).state = .suspect ∧ (dieOf t d).run = none ∧ (dieTab t d).reason = 5) ∧
  (∀ s d, powered s = true → (dieOf s d).state = .suspect → ∃ t, exec (.dieResetComplete d true) s = .next t ∧
    dieOf t d = { dieOf s d with probation := 100 } ∧ Same [.flash] s t) ∧
  (∀ s d, powered s = true → (dieOf s d).state = .suspect → ∃ t, exec (.dieResetComplete d false) s = .next t ∧
    (dieOf t d).state = .failed ∧ (dieOf t d).queue = [] ∧ (dieTab t d).failed = true)

/-! ## The translation layer and die parity (chapters 11, 12) -/

/-- Rows are packed, committed or abandoned; a committed unit is the one the map names (R395, R396, R401, R403, R405,
R407, R410, R414, R438, R442). -/
def Obligations.RowsMoveUnitsToMedia : Prop :=
  (∀ s g l u rest items, running s = true → (grpOf s g).state ≠ .unused → slcOpen s g = true →
    items = l.eraseDups.filterMap (fun k => (packable s k).map fun v => (k, v)) → items ≠ [] →
    packRow g 0 none .other items s = some (u, rest) → ∃ t, exec (.stripeRowPack g l) s = .next t ∧
    t.ftl.rows.length = s.ftl.rows.length + 1 ∧ t.ftl.wt = s.ftl.wt ∧ t.tab.map = s.tab.map ∧
    t.media = s.media) ∧
  (∀ s g l, running s = true → slcOpen s g = false → g ∈ s.ftl.nativeStop →
    exec (.stripeRowPack g l) s = .next s) ∧
  (∀ s g b r q x k e v, running s = true → rowAt s (bandKey g b) r = some q → bandOf s (bandKey g b) = some x →
    q.src = none → q.items = [(k, e, v)] → seqOf s k < v.seq → ∃ t, exec (.stripeRowCommit g b r) s = .next t ∧
    mapOf t k = (if v.poisoned = true then e ||| mapPoison else e) ∧ seqOf t k = v.seq ∧
    Sparse.look t.media.ius (locKey e) = some (k, v) ∧
    Sparse.look t.media.stripes (stripeKey (bandKey g b) r) = some q.pages) ∧
  (∀ s g b r q x k e v, running s = true → rowAt s (bandKey g b) r = some q → bandOf s (bandKey g b) = some x →
    q.src = none → q.items = [(k, e, v)] → v.seq ≤ seqOf s k → ∃ t, exec (.stripeRowCommit g b r) s = .next t ∧
    mapOf t k = mapOf s k ∧ t.media.ius = s.media.ius ∧
    Sparse.look t.media.stripes (stripeKey (bandKey g b) r) = some q.pages) ∧
  (∀ s g b r d q x, powered s = true → rowAt s (bandKey g b) r = some q → bandOf s (bandKey g b) = some x → dieChan d ∈ x.chans →
    dieGroup d = g → ∃ t, exec (.stripeRowProgramFail g b r d) s = .next t ∧
    t.ftl.rows.length < s.ftl.rows.length ∧ (dieTab t d).progFails = satAdd (dieTab s d).progFails 1 ∧
    t.media = s.media) ∧
  (∀ s k env l, running s = true → lineOf s k = some l → l.state = .merging → ∃ t,
    exec (.mergeReadDone k env) s = .next t ∧ lineOf t k = some { state := .dirty, ver := merged s env k l.ver } ∧
    t.tab.map = s.tab.map ∧ t.media = s.media) ∧
  (∀ s n k v j, nsOf s (iuNs k) = some n → metaBytes n.lbaf ≠ 0 → iuShadow k = false → seqOf s k < v.seq →
    j < n.perIu → ∃ w, ((shadowSlot n k j).1, w) ∈ shadowItems s [(k, v)] ∧
    (w.blk (shadowSlot n k j).2).data = (v.blk j).host)

/-- Folding, collection, wear moves, patrol and refresh keep to their thresholds and leave the map's units readable
(R408, R409, R411, R412, R414, R416, R418 to R420). -/
def Obligations.MaintenanceKeepsItsThresholds : Prop :=
  (∀ s g, maintains s = true → g ∉ s.ftl.nativeStop → foldRuns s g = true → ∃ t, exec (.fold g) s = .next t ∧
    g ∈ t.ftl.folding ∧ t.tab.map = s.tab.map ∧ t.media.ius = s.media.ius ∧ t.ftl.cache = s.ftl.cache) ∧
  (∀ s g, maintains s = true → g ∉ s.ftl.nativeStop → foldRuns s g = false → ∃ t, exec (.fold g) s = .next t ∧
    g ∉ t.ftl.folding ∧ Same [.ftl] s t) ∧
  (∀ s g, maintains s = true → g ∉ s.ftl.nativeStop → s.ftl.foldLo < slcOccupancy s → ∃ t,
    exec (.foldIdleTimeout g) s = .next t ∧ t = foldOne g s ∧ t.tab.map = s.tab.map ∧ t.media.ius = s.media.ius) ∧
  (∀ s g, slcOccupancy s ≤ s.ftl.foldLo → exec (.foldIdleTimeout g) s = .next s) ∧
  (∀ s g b x, maintains s = true → freeBands s g < 8 → gcVictim s g = some (b, x) → ∃ t,
    exec (.garbageCollection g) s = .next t ∧ t = relocate b (if x.gen = 1 then 2 else 3) .collect MediaEnv.clean s ∧
    t.tab.map = s.tab.map ∧ t.media.ius = s.media.ius) ∧
  (∀ s g, 8 ≤ freeBands s g → exec (.garbageCollection g) s = .next s) ∧
  (∀ s d n b, maintains s = true → moveRuns s (dieGroup d) = false → s.ftl.spread < spreadOf (dieTab s d) →
    leastBy (fun e : Nat × Nat => e.1) (validBlocks s d) = some (n, b) → refreshKey d b ∉ s.ftl.refresh →
    bandBusy s b = false → ∃ t, exec (.staticWearMove d) s = .next t ∧ t.ftl.moves = satAdd s.ftl.moves 1 ∧
    t.tab.map = s.tab.map ∧ t.media.ius = s.media.ius) ∧
  (∀ s d, spreadOf (dieTab s d) ≤ s.ftl.spread → exec (.staticWearMove d) s = .next s) ∧
  (∀ s d b c l x, maintains s = true → bandOf s (bandKey (dieGroup d) b) = some x → x.closed = true →
    dieChan d ∈ x.chans → readReports l c = true → refreshKey d (bandKey (dieGroup d) b) ∉ s.ftl.refresh →
    s.ftl.refresh.length < 4096 → exec (.patrolScan d b c l) s =
      .next (refreshMark { s with ftl.refresh := s.ftl.refresh ++ [refreshKey d (bandKey (dieGroup d) b)] })) ∧
  (∀ s, (refreshMark s).ftl.refreshHigh = true ↔
    2048 < s.ftl.refresh.length ∨ (s.ftl.refreshHigh = true ∧ 1024 < s.ftl.refresh.length)) ∧
  (∀ s d b c l, readReports l c = false → exec (.patrolScan d b c l) s = .next s) ∧
  (∀ s env, maintains s = true → ∃ t, exec (.refresh env) s = .next t ∧ t = refreshHead env s ∧
    t.tab.map = s.tab.map ∧ t.media = s.media) ∧
  (∀ s env, s.tab.offline = true → exec (.refresh env) s = .next s)

/-- A group rebuilds band by band; resynchronisation keeps, recovers or discards rows and closes its bands (R403, R444, R446,
R447, R529). -/
def Obligations.RebuildAndResyncComplete : Prop :=
  (∀ s env g b l, running s = true → s.tab.offline = false → s.ftl.resync = false →
    (List.range 16).find? (fun g => decide ((grpOf s g).state = .rebuilding)) = some g → (grpOf s g).queue = b :: l →
    bandBusy s b = false →
    movesLeft (relocate b (match bandOf s b with | some x => if x.gen = 0 then 1 else x.gen | none => 1) .rebuild env s) b = [] →
    ∃ t, exec (.rebuildBand env) s = .next t ∧ (grpOf t g).queue = l ∧ t.tab.map = s.tab.map ∧ t.media.ius = s.media.ius) ∧
  (∀ s env, s.tab.offline = true ∨ s.ftl.resync = true → exec (.rebuildBand env) s = .next s) ∧
  (∀ s q, running s = true → s.ftl.resync = true → ∃ t, exec (.resyncComplete q) s = .next t ∧ t.ftl.resync = false ∧
    t.ftl.resyncDone = true ∧ t.hold.sync = Sync.reset ∧ (s.hold.restarted = true → t.hold.restartDone = true)) ∧
  (∀ s q, running s = true → s.ftl.resync = true → (∀ x ∈ q, rowBroken s x = false) → ∃ t,
    exec (.resyncComplete q) s = .next t ∧ t.tab.map = s.tab.map ∧ t.media = s.media ∧
    (∀ y ∈ s.hold.sync.bands, ∀ x, bandOf t y.band = some x → x.closed = true)) ∧
  (∀ s r, running s = true → s.ftl.resync = true → rowBroken s r = true → rowMends s r = false →
    Sparse.rising s.tab.bands = true → ∃ t, exec (.resyncComplete [r]) s = .next t ∧
    ∀ k, mapOf t k = if ((rowIus r.row (validIus s (bandKey r.group r.band))).map (·.1)).contains k
      then Sparse.read mapNone s.hold.sync.map k else mapOf s k) ∧
  (∀ s r, running s = true → s.ftl.resync = true → rowBroken s r = true → rowMends s r = true → ∃ t,
    exec (.resyncComplete [r]) s = .next t ∧ t.tab.map = s.tab.map ∧ t.media = s.media) ∧
  (∀ s q, s.ftl.resync = false → exec (.resyncComplete q) s = .next s)

/-! ## The Armature (chapter 13) -/

/-- A frame of a slot applies the control law, counts, and falls back on a faulted measurement (R462, R465 to R467, R472). -/
def Obligations.SlotFramesFollowTheLaw : Prop :=
  (∀ s i m x u c, x = slotOf s i → u = { s with arm := { s.arm with meas := m } } → c = effCfg u i x.cfg →
    armRuns s i = true → x.mode = .normal → x.cfg.role = 0 ∨ x.cfg.role = 1 → outerOf u i = none → x.next = none →
    x.cfg.measSrc ∉ m.faulted → ∃ t, exec (.slotFrame i m) s = .next t ∧ t.arm.meas = m ∧
    (slotOf t i).frames = x.frames + 1 ∧ (slotOf t i).faulted = false ∧
    (slotOf t i).output = (law c (if x.faulted = true then 0 else x.integ) (measOf u c.measSrc)
      (setPointOf u i c) 0 false).out ∧
    (slotOf t i).integ = (law c (if x.faulted = true then 0 else x.integ) (measOf u c.measSrc)
      (setPointOf u i c) 0 false).integ) ∧
  (∀ s i m x u, x = slotOf s i → u = { s with arm := { s.arm with meas := m } } → armRuns s i = true →
    x.mode = .normal → x.cfg.role ≠ 2 → outerOf u i = none → x.next = none → x.cfg.measSrc ∈ m.faulted → i < 8 → ∃ t,
    exec (.slotFrame i m) s = .next t ∧ (slotOf t i).faulted = true ∧
    (slotOf t i).output = (effCfg u i x.cfg).fallback i ∧ (slotOf t i).applied = (effCfg u i x.cfg).fallback i ∧
    (slotOf t i).integ = x.integ ∧ t.arm.sensorFault.getLsbD i = true) ∧
  (∀ c integ meas sp inj p, c.umin ≤ c.umax → c.imin ≤ c.imax → c.umin ≤ (law c integ meas sp inj p).out ∧
    (law c integ meas sp inj p).out ≤ c.umax ∧ c.imin ≤ (law c integ meas sp inj p).integ ∧
    (law c integ meas sp inj p).integ ≤ c.imax) ∧
  (∀ s i m, (slotOf s i).mode = .disabled → exec (.slotFrame i m) s = .next s) ∧
  (∀ s i m, armRuns s i = false → exec (.slotFrame i m) s = .next s)

/-- Index pulses, tokens, windows and injections (R49, R474, R478 to R482, R488, R490). -/
def Obligations.ArmatureEventsComplete : Prop :=
  (∀ s m, armRuns s 0 = true → ∃ t, exec (.armSyncEdge m) s = .next t ∧ t.arm.meas = m) ∧
  (∀ s m, armRuns s 0 = true → (∀ o, o < 8 → (slotOf s o).cfg.role ≠ 2) →
    exec (.armSyncEdge m) s = .next { s with arm := { s.arm with meas := m } }) ∧
  (∀ s i m, armRuns s i = true → (slotOf s i).mode ≠ .disabled → (slotOf s i).cfg.role = 2 →
    (slotOf s i).cfg.indexSrc = 1 → 2 * (slotOf s i).cfg.div ≤ (slotOf s i).counter → ∃ t,
    exec (.indexPulseMissing i m) s = .next t ∧ t.arm.slips = satAdd s.arm.slips 1 ∧ (slotOf t i).counter = 0) ∧
  (∀ s i m, (slotOf s i).counter < 2 * (slotOf s i).cfg.div → exec (.indexPulseMissing i m) s = .next s) ∧
  (∀ s, powered s = true → ∃ t, exec .tokenRefill s = .next t ∧
    t.arm.bucket = min s.arm.rate (s.arm.bucket + (s.arm.milli + s.arm.rate) / 1000) ∧
    t.arm.milli = (s.arm.milli + s.arm.rate) % 1000 ∧ t.arm.rate = s.arm.rate ∧ Same [.arm] s t) ∧
  (∀ s i, powered s = true → i < 8 → (slotOf s i).mode = .inject → (slotOf s i).cap.samples ≤ (slotOf s i).cap.frame → ∃ t,
    exec (.injectDone i) s = .next t ∧ (slotOf t i).mode = .normal ∧ t.arm.injDone.getLsbD i = true ∧
    t.arm.heldLimit = none ∧ t.arm.injAborted = s.arm.injAborted ∧ Same [.arm, .evs0, .evs1] s t) ∧
  (∀ s i, (slotOf s i).mode ≠ .inject → exec (.injectDone i) s = .next s) ∧
  (∀ s, powered s = false → exec .tokenRefill s = .next s ∧ exec .tuningWindowExpiry s = .next s) ∧
  (∀ s, powered s = true → ∃ t, exec .tuningWindowExpiry s = .next t ∧ t.arm.windows = 0 ∧ t.arm.remaining = 0 ∧
    (∀ i, i < 5 → s.arm.windows.getLsbD i = true → (slotOf t i).mode ≠ .inject) ∧ Same [.arm, .evs0, .evs1] s t)

/-- Armature Access: configurations, modes, windows and the throttle policy (R477, R483 to R493, R502). -/
def Obligations.ArmatureAccessCompletes : Prop :=
  (∀ t s u i, Safety.startOf t 0xCA 0 s = some u → Safety.allowed true false true t = true →
    exec (.armReadConfig t i 256) s = .next (finishData t (cfgBlock (slotOf u i.toNat).cfg) u)) ∧
  (∀ t s u i b, Safety.startOf t 0xCA 0 s = some u → Safety.allowed true false true t = true →
    crc32c ((padTo 256 b).take 252) = BitVec.ofNat 32 (leVal (slice (padTo 256 b) 252 4)) →
    (parseCfg (padTo 256 b)).points ≠ 0 → cfgOk u i.toNat (parseCfg (padTo 256 b)) = true →
    windowOk u i.toNat = true → ∃ v, exec (.armWriteConfig t i 256 b) s = .next v ∧
    (if (slotOf u i.toNat).mode = .disabled then (slotOf v i.toNat).cfg = parseCfg (padTo 256 b)
      else (slotOf v i.toNat).next = some (parseCfg (padTo 256 b)) ∧
        (slotOf v i.toNat).cfg = (slotOf u i.toNat).cfg)) ∧
  (∀ t s u i b, Safety.startOf t 0xCA 0 s = some u → Safety.allowed true false true t = true →
    crc32c ((padTo 256 b).take 252) = BitVec.ofNat 32 (leVal (slice (padTo 256 b) 252 4)) →
    (parseCfg (padTo 256 b)).points = 0 → windowOk u i.toNat = true → ∃ v,
    exec (.armWriteConfig t i 256 b) s = .next v ∧ (slotOf v i.toNat).mode = .disabled) ∧
  (∀ t s u i b, Safety.startOf t 0xCA 0 s = some u → Safety.allowed true false true t = true →
    crc32c ((padTo 256 b).take 252) ≠ BitVec.ofNat 32 (leVal (slice (padTo 256 b) 252 4)) →
    exec (.armWriteConfig t i 256 b) s = .next (finish t .digestMismatch u)) ∧
  (∀ t s u i d, Safety.startOf t 0xCA 0 s = some u → Safety.allowed true false true t = true →
    1 ≤ d.toNat → d.toNat ≤ 256 → (slotOf u i.toNat).mode ≠ .disabled → ∃ v,
    exec (.armSetModeNormal t i d) s = .next v ∧ (slotOf v i.toNat).mode = .normal) ∧
  (∀ t s u i b d, Safety.startOf t 0xCA 0 s = some u → Safety.allowed true false true t = true →
    1 ≤ d.toNat → d.toNat ≤ 256 → (slotOf u i.toNat).mode = .normal ∨ (slotOf u i.toNat).mode = .trace → ∃ v,
    exec (.armSetModeTrace t i b d) s = .next v ∧ (slotOf v i.toNat).mode = .trace ∧
    (slotOf v i.toNat).cap.stop = b ∧ (slotOf v i.toNat).cap.div = d.toNat ∧ (slotOf v i.toNat).cap.entries = [] ∧
    (slotOf v i.toNat).cap.running = true) ∧
  (∀ t s u i d a b c, Safety.startOf t 0xCA 0 s = some u → Safety.allowed true false true t = true →
    injectOk d a c = true → (slotOf u i.toNat).mode ≠ .disabled → anyInject u = false →
    windowOk u i.toNat = true → ∃ v, exec (.armSetModeInject t i d a b c) s = .next v ∧
    (slotOf v i.toNat).mode = .inject ∧ (slotOf v i.toNat).cap.samples = (fieldOf 16 16 a).toNat ∧
    (slotOf v i.toNat).cap.ampl = b.toInt ∧ (slotOf v i.toNat).cap.frame = 0 ∧
    v.arm.heldLimit = (if 2 ≤ i.toNat ∧ i.toNat ≤ 4 then some u.arm.eLimit else none)) ∧
  (∀ t s u m n, Safety.startOf t 0xCA 0 s = some u → Safety.allowed true false true t = true → m ≠ 0 →
    1 ≤ n.toNat → n.toNat ≤ 3600 → ∃ v, exec (.armSetWindow t m n) s = .next v ∧
    v.arm.windows = u.arm.windows ||| m ∧ v.arm.remaining = n.toNat) ∧
  (∀ t s u n, Safety.startOf t 0xCA 0 s = some u → Safety.allowed true false true t = true → 1 ≤ n.toNat →
    n.toNat ≤ 3600 → ∃ v, exec (.armSetWindow t 0 n) s = .next v ∧ v.arm.windows = 0 ∧ v.arm.remaining = 0) ∧
  (∀ t s u k, Safety.startOf t 0xCA 0 s = some u → Safety.allowed true false true t = true → 850 ≤ k.toNat →
    k.toNat ≤ 1200 → ∃ v, exec (.armSetPolicy t k) s = .next v ∧ v.arm.throttle = k.toNat ∧
    v.hold.policyDue = true ∧ v.cfg = u.cfg)

/-! ## Holding up (chapter 14) -/

/-- The staged configuration record and the policy registers (R433, R500 to R502, R532). -/
def Obligations.ConfigurationRecordCompletes : Prop :=
  (∀ s, running s = true → s.hold.cfgBusy = false → ownerLocked s = false → confOk (parseConf s.hold.stage) = true →
    canStore .conf s = true → ∃ t, exec (.cfgStageCommit true) s = .next t ∧ t.hold.cfgResult = 0 ∧
    t.cfg = (storeRecord (.conf (parseConf s.hold.stage)) true s).cfg) ∧
  (∀ s b, running s = true → s.hold.cfgBusy = false → ownerLocked s = true → ∃ t,
    exec (.cfgStageCommit b) s = .next t ∧ t.hold.cfgResult = 3 ∧ t.hold.cfgBusy = false ∧ t.cfg = s.cfg ∧
    Same [.hold, .evs0, .evs1] s t) ∧
  (∀ s b, running s = true → s.hold.cfgBusy = false → ownerLocked s = false →
    confOk (parseConf s.hold.stage) = false → ∃ t, exec (.cfgStageCommit b) s = .next t ∧ t.hold.cfgResult = 2 ∧
    t.cfg = s.cfg) ∧
  (∀ s, running s = true → s.hold.cfgBusy = false → ownerLocked s = false →
    confOk (parseConf s.hold.stage) = true → ∃ t, exec (.cfgStageCommit false) s = .next t ∧ t.hold.cfgResult = 4) ∧
  (∀ s v, running s = true → slcOk (fieldOf 0 4 v).toNat (fieldOf 4 7 v).toNat (fieldOf 11 7 v).toNat = true → ∃ t,
    exec (.policyRegisterWrite .slc v) s = .next t ∧ t.ftl.pct = (fieldOf 0 4 v).toNat ∧
    t.ftl.foldHi = (fieldOf 4 7 v).toNat ∧ t.ftl.foldLo = (fieldOf 11 7 v).toNat ∧ t.hold.policyDue = true ∧
    Same [.ftl, .hold] s t) ∧
  (∀ s v, running s = true → slcOk (fieldOf 0 4 v).toNat (fieldOf 4 7 v).toNat (fieldOf 11 7 v).toNat = false → ∃ t,
    exec (.policyRegisterWrite .slc v) s = .next t ∧ t.ftl = { s.ftl with slcBad := true } ∧ Same [.ftl] s t) ∧
  (∀ s v, running s = true → spreadOk (fieldOf 0 11 v).toNat = true → ∃ t,
    exec (.policyRegisterWrite .wl v) s = .next t ∧ t.ftl.spread = (fieldOf 0 11 v).toNat ∧
    t.hold.policyDue = true ∧ Same [.ftl, .hold] s t) ∧
  (∀ s v, running s = true → ckptPolicyOk (fieldOf 0 12 v).toNat (fieldOf 12 8 v).toNat = true → ∃ t,
    exec (.policyRegisterWrite .hold v) s = .next t ∧ t.hold.ckptInterval = (fieldOf 0 12 v).toNat ∧
    t.hold.journalMax = (fieldOf 12 8 v).toNat ∧ t.hold.policyDue = true ∧ Same [.hold] s t) ∧
  (∀ s r, running s = true → s.hold.policyDue = true → confRec? s = some r → canStore .conf s = true → ∃ t,
    exec (.configRecordUpdate true) s = .next t ∧ t.hold.policyDue = false ∧
    t.cfg = (storeRecord (.conf (withPolicy s r)) true s).cfg) ∧
  (∀ s r, running s = true → s.hold.policyDue = true → confRec? s = some r → ∃ t,
    exec (.configRecordUpdate false) s = .next t ∧ t.hold.policyDue = true)

/-- The charger's states, and that a fault or an over-voltage closes the gate (R504 to R506). -/
def Obligations.ChargerCommandsComplete : Prop :=
  (∀ s v, powered s = true → s.hold.chg = .charging → v < 1000 → ∃ t, exec (.chargerBankCheck v) s = .next t ∧ t.hold.chg = .noBank ∧
    t.pwr.chgGateHeld = true ∧ t.arm.meas.vhold = (v : Int)) ∧
  (∀ s v, powered s = true → s.hold.chg = .charging → 1000 ≤ v → exec (.chargerBankCheck v) s = .next (sawVhold v s)) ∧
  (∀ s v, powered s = true → s.hold.chg = .charging → vChg s ≤ v + 250 → ∃ t, exec (.chargerCharged v) s = .next t ∧
    t.hold.chg = .measuring ∧ t.pwr = s.pwr) ∧
  (∀ s v, powered s = true → s.hold.chg = .charging → v < 500 → chargerFull s = true → ∃ t,
    exec (.chargerStallTimeout v) s = .next t ∧ t.hold.chg = .fault ∧ t.pwr.chgGateHeld = true ∧
    t.hold.bankFault = true ∧ t.hold.critBackup = true) ∧
  (∀ s, powered s = true → s.hold.chg = .holding → ∃ t, exec .chargerMeasureStart s = .next t ∧ t.hold.chg = .measuring ∧
    Same [.hold, .evs0, .evs1] s t) ∧
  (∀ s v r c, powered s = true → s.hold.chg = .measuring → v + 600 ≤ vChg s → 500 ≤ r → ∃ t,
    exec (.chargerMeasureDone v r c) s = .next t ∧ t.hold.chg = .holding ∧
    t.tab.caps = (c :: s.tab.caps).take 16 ∧ t.tab.capTj = s.arm.meas.tj) ∧
  (∀ s v r c, powered s = true → s.hold.chg = .measuring → v + 600 ≤ vChg s → r < 500 → ∃ t,
    exec (.chargerMeasureDone v r c) s = .next t ∧ t.hold.chg = .holding ∧ t.tab = s.tab) ∧
  (∀ s, powered s = true → s.hold.chg = .measuring → ∃ t, exec .chargerMeasureTimeout s = .next t ∧ t.hold.chg = .holding ∧
    t.hold.measSkipped = satAdd s.hold.measSkipped 1 ∧ t.tab = s.tab) ∧
  (∀ s v, powered s = true → s.hold.chg = .holding ∨ s.hold.chg = .measuring → v < 12000 → ∃ t,
    exec (.vholdUndervolt v) s = .next t ∧ t.hold.chg = .fault ∧ t.pwr.chgGateHeld = true ∧
    t.hold.bankFault = true) ∧
  (∀ s v, powered s = true → 37500 < v → s.hold.chg ≠ .flush → s.hold.chg ≠ .fault → ∃ t, exec (.vholdOvervolt v) s = .next t ∧
    t.hold.chg = .fault ∧ t.pwr.chgGateHeld = true ∧ t.hold.bankFault = true) ∧
  (∀ s v, powered s = true → 37500 < v → s.hold.chg = .flush → ∃ t, exec (.vholdOvervolt v) s = .next t ∧ t.hold.chg = .flush ∧
    t.pwr.chgGateHeld = true) ∧
  (∀ s v, powered s = true → 37500 < v → ∃ t, exec (.vholdOvervolt v) s = .next t ∧ t.pwr.chgGateHeld = true)

/-- Checkpoints, segments and the restart (R511, R517 to R525, R529). -/
def Obligations.CheckpointsAndRestartComplete : Prop :=
  (∀ s w, running s = true → s.hold.restarted = true → s.hold.ckptRun = none → ∃ t,
    exec (.checkpointStart w) s = .next t ∧ t.hold.ckptRun =
      some { epoch := s.hold.epochMax + 1, tab := s.tab, stores := ckptStores s (s.hold.epochMax + 1) } ∧
    t.hold.epochMax = s.hold.epochMax + 1 ∧ t.hold.segNew = 0 ∧ Same [.hold, .free] s t) ∧
  (∀ s w, running s = true → s.hold.restarted = true → s.hold.ckptRun ≠ none → exec (.checkpointStart w) s =
    .next { s with hold := { s.hold with ckptNext := true } }) ∧
  (∀ s c, running s = true → s.hold.ckptRun = some c → s.hold.ckptNext = false → ∃ t,
    exec (.checkpointCommit true) s = .next t ∧ t.hold.ckpts = (c :: s.hold.ckpts).take 2 ∧ t.hold.ckptRun = none ∧
    t.hold.segments = s.hold.segNew ∧ t.media = { s.media with stores :=
      (s.media.stores.filter fun x => !Store.before ((s.hold.ckpts.head?.map (·.epoch)).getD c.epoch) x) ++ c.stores } ∧
    Same [.hold, .media] s t) ∧
  (∀ s c, running s = true → s.hold.ckptRun = some c → ∃ t, exec (.checkpointCommit false) s = .next t ∧
    t.hold.ckpts = s.hold.ckpts ∧ t.hold.ckptRun = some c ∧ t.hold.ckptFails = satAdd s.hold.ckptFails 1 ∧
    t.media = s.media) ∧
  (∀ s w, running s = true → s.hold.restarted = true → s.hold.segRun = none → s.hold.dirtyDelta = true →
    exec (.segmentWrite w) s = .next { s with hold := { s.hold with segRun := some s.tab, dirtyDelta := false } }) ∧
  (∀ s w, s.hold.dirtyDelta = false → exec (.segmentWrite w) s = .next s) ∧
  (∀ s x, running s = true → s.hold.segRun = some x → ∃ t, exec (.segmentCommit true) s = .next t ∧
    t.hold.segTab = some x ∧ t.hold.segRun = none ∧ t.hold.segments = satAdd s.hold.segments 1 ∧
    t.media = { s.media with stores := s.media.stores ++ [segmentStore s] } ∧ Same [.hold, .media, .free] s t) ∧
  (∀ s x, running s = true → s.hold.segRun = some x → exec (.segmentCommit false) s =
    .next { s with hold := { s.hold with segRun := none, dirtyDelta := true } }) ∧
  (∀ s e, running s = true → s.hold.restarted = false → ∃ t, exec (.restart e) s = .next t ∧
    t.hold.restarted = true ∧ t.hold.dump = none ∧ t.hold.ckptRun ≠ none ∧ t.hold.restartMs = e.restartMs ∧
    (t.ftl.resync = false → t.hold.restartDone = true)) ∧
  (∀ s e, s.hold.restarted = true → exec (.restart e) s = .next s)

/-! ## Maquette (chapter 15) -/

/-- Exports open a session, snapshot rounds, freeze the tenant at the final stop, hand objects over in order and end
(R533 to R547, R565). -/
def Obligations.ExportCommandsComplete : Prop :=
  (∀ p q c s u vf b n k id, Safety.startOf ⟨.fn ⟨p, 0⟩, q, c⟩ 0xC8 0 s = some u → vf ≠ 0 → n ≠ 0 →
    u.tab.offline = false → exportable u ⟨p, vf.toNat⟩ b = true →
    certsOk u k.wellFormed k.rootDigest k.devidId k.devidSig k.aliasSig = true →
    answerOk k.xportSig 7 k.aliasId = true → u.trust.rng = .healthy →
    freeSession u = some id → ∃ v x, exec (.exportStart ⟨.fn ⟨p, 0⟩, q, c⟩ vf b n k) s = .next v ∧
    v.mqt.sess = u.mqt.sess ++ [x] ∧ x.id = id ∧ x.imp = false ∧ x.pf = p ∧ x.vf = vf.toNat ∧ x.state = .openRound ∧
    x.round = 0 ∧ x.delta = b ∧ x.xportId = xportIdOf k.xport ∧ x.nextIdx = 0 ∧ x.dirty = [] ∧ v.media = u.media) ∧
  (∀ p q c s u i x, Safety.startOf ⟨.fn ⟨p, 0⟩, q, c⟩ 0xC8 0 s = some u →
    u.mqt.sess.find? (fun x => decide (x.id = i.toNat ∧ x.imp = false ∧ x.pf = p)) = some x → x.state = .openRound →
    x.exhausted = true → x.round < 31 → ∃ v, exec (.exportRound ⟨.fn ⟨p, 0⟩, q, c⟩ i) s = .next v ∧
    { x with round := x.round + 1, todo := roundList u x.dirty, dirty := [], exhausted := false } ∈ v.mqt.sess) ∧
  (∀ p q c s u i x, Safety.startOf ⟨.fn ⟨p, 0⟩, q, c⟩ 0xC8 0 s = some u →
    u.mqt.sess.find? (fun x => decide (x.id = i.toNat ∧ x.imp = false ∧ x.pf = p)) = some x → x.state = .openRound →
    ∃ v y, exec (.exportStop ⟨.fn ⟨p, 0⟩, q, c⟩ i) s = .next v ∧ y ∈ v.mqt.sess ∧ y.id = x.id ∧ y.state = .final ∧
    y.round = x.round + 1 ∧ y.ctxs = captureAll u x.tenant ∧ (fnOf v x.tenant).frozen = true ∧
    (fnOf v x.tenant).ctrl.inflight = []) ∧
  (∀ p q c s u i x m n env b y l, Safety.startOf ⟨.fn ⟨p, 0⟩, q, c⟩ 0xC8 0 s = some u →
    u.mqt.sess.find? (fun x => decide (x.id = i.toNat ∧ x.imp = false ∧ x.pf = p)) = some x → x.state ≠ .sealed →
    (∀ o, x.lastObj = some o → o.1 ≠ n.toNat) → n.toNat = x.nextIdx → m ≠ 0 → nextObject u env x = some (b, y, l) →
    b.length ≤ m.toNat → ∃ v z, exec (.exportRead ⟨.fn ⟨p, 0⟩, q, c⟩ i m n env) s = .next v ∧
    Output.data ⟨.fn ⟨p, 0⟩, q, c⟩ b ∈ v.out ∧ z ∈ v.mqt.sess ∧ z.id = y.id ∧ z.lastObj = some (n.toNat, b) ∧
    z.nextIdx = n.toNat + 1) ∧
  (∀ p q c s u i x m n env, Safety.startOf ⟨.fn ⟨p, 0⟩, q, c⟩ 0xC8 0 s = some u →
    u.mqt.sess.find? (fun x => decide (x.id = i.toNat ∧ x.imp = false ∧ x.pf = p)) = some x → x.state ≠ .sealed →
    (∀ o, x.lastObj = some o → o.1 ≠ n.toNat) → n.toNat = x.nextIdx → m ≠ 0 → nextObject u env x = none →
    exec (.exportRead ⟨.fn ⟨p, 0⟩, q, c⟩ i m n env) s = .next (complete ⟨.fn ⟨p, 0⟩, q, c⟩ .success 0
      (setSess { x with exhausted := true } u))) ∧
  (∀ p q c s u i x b, Safety.startOf ⟨.fn ⟨p, 0⟩, q, c⟩ 0xC8 0 s = some u →
    u.mqt.sess.find? (fun x => decide (x.id = i.toNat ∧ x.imp = false ∧ x.pf = p)) = some x → ∃ v,
    exec (.closeResume ⟨.fn ⟨p, 0⟩, q, c⟩ i b) s = .next v ∧ x ∉ v.mqt.sess ∧
    (x.state ≠ .openRound → (fnOf v x.tenant).frozen = false) ∧ v.media = u.media) ∧
  (∀ p q c s u i x, Safety.startOf ⟨.fn ⟨p, 0⟩, q, c⟩ 0xC8 0 s = some u →
    u.mqt.sess.find? (fun x => decide (x.id = i.toNat ∧ x.imp = false ∧ x.pf = p)) = some x → x.state = .sealed → ∃ v,
    exec (.closeRetire ⟨.fn ⟨p, 0⟩, q, c⟩ i) s = .next v ∧ x ∉ v.mqt.sess ∧ (fnOf v x.tenant).retired = true ∧
    v.media = u.media) ∧
  (∀ p q c s u i x, Safety.startOf ⟨.fn ⟨p, 0⟩, q, c⟩ 0xC8 0 s = some u →
    u.mqt.sess.find? (fun x => decide (x.id = i.toNat ∧ x.imp = false ∧ x.pf = p)) = some x → x.state ≠ .sealed →
    exec (.closeRetire ⟨.fn ⟨p, 0⟩, q, c⟩ i) s = .next (finish ⟨.fn ⟨p, 0⟩, q, c⟩ .stateConflict u))

/-- Imports take shards in order, stage the tenant with its manifest, activate it or discard it whole (R554 to R559). -/
def Obligations.ImportCommandsComplete : Prop :=
  (∀ p q c s u vf n h id, Safety.startOf ⟨.fn ⟨p, 0⟩, q, c⟩ 0xC9 0 s = some u → vf ≠ 0 → n ≠ 0 →
    h.devidCertLen ≠ 0 → h.devidCertLen ≤ 8192 → n.toNat = 0x1CF0 + h.devidCertLen → u.tab.offline = false →
    u.tab.readOnly = false → u.upd.holder = none → u.nvm.sanitize = none → h.delta = false →
    fullTarget u ⟨p, vf.toNat⟩ = true → h.targetXportId = u.trust.xportId →
    certsOk u true h.rootDigest h.devidId h.devidSig h.aliasSig = true → freeSession u = some id → ∃ v,
    exec (.importBegin ⟨.fn ⟨p, 0⟩, q, c⟩ vf n h) s = .next v ∧
    v.mqt.sess = u.mqt.sess ++ [newImport u id ⟨p, vf.toNat⟩ h [] [] 0] ∧ v.media = u.media) ∧
  (∀ p q c s u i x n d y w, Safety.startOf ⟨.fn ⟨p, 0⟩, q, c⟩ 0xC9 0 s = some u → n ≠ 0 → n.toNat ≤ 1048688 →
    u.mqt.sess.find? (fun x => decide (x.id = i.toNat ∧ x.imp = true ∧ x.pf = p)) = some x → x.state = .receiving →
    d.index = x.nextIdx → d.intact = true → d.round ≤ 32 → kindAllowed x.stage d.kind = true →
    d.kind = 2 ∨ d.nsid = 0 → applyShard ⟨.fn ⟨p, 0⟩, q, c⟩ x d u = .inl (y, w) →
    exec (.importWrite ⟨.fn ⟨p, 0⟩, q, c⟩ i n d) s = .next (finishWrite ⟨.fn ⟨p, 0⟩, q, c⟩ (setSess
      { y with stage := stageAfter d.kind, nextIdx := x.nextIdx + 1, round := d.round, shards := x.shards + 1,
               chain := chainNext x.chain d.digest } w))) ∧
  (∀ p q c s u i x n d, Safety.startOf ⟨.fn ⟨p, 0⟩, q, c⟩ 0xC9 0 s = some u → n ≠ 0 → n.toNat ≤ 1048688 →
    u.mqt.sess.find? (fun x => decide (x.id = i.toNat ∧ x.imp = true ∧ x.pf = p)) = some x → x.state = .receiving →
    d.index = x.nextIdx → d.intact = false → exec (.importWrite ⟨.fn ⟨p, 0⟩, q, c⟩ i n d) s =
      .next (finish ⟨.fn ⟨p, 0⟩, q, c⟩ .digestMismatch
        { u with mqt := { u.mqt with digestFails := satAdd u.mqt.digestFails 1 } })) ∧
  (∀ p q c s u i x m, Safety.startOf ⟨.fn ⟨p, 0⟩, q, c⟩ 0xC9 0 s = some u →
    u.mqt.sess.find? (fun x => decide (x.id = i.toNat ∧ x.imp = true ∧ x.pf = p)) = some x → x.state = .receiving →
    manifestFields m = true → manifestMatches u x m = true → ∃ v y,
    exec (.importFinish ⟨.fn ⟨p, 0⟩, q, c⟩ i 3768 m) s = .next v ∧ y ∈ v.mqt.sess ∧ y.id = x.id ∧
    y.state = .staged ∧ y.manifest = sha m.bytes ∧ y.svn = m.sourceSvn ∧ v.media = u.media) ∧
  (∀ p q c s u i x, Safety.startOf ⟨.fn ⟨p, 0⟩, q, c⟩ 0xC9 0 s = some u →
    u.mqt.sess.find? (fun x => decide (x.id = i.toNat ∧ x.imp = true ∧ x.pf = p)) = some x → x.state = .staged →
    u.tab.offline = false → (fnOf u x.tenant).cfg.bme = true → intMode u x.tenant ≠ .polled →
    (fnOf u x.tenant).online = true → (fnOf u x.tenant).ctrl.en = false → ∃ v,
    exec (.importActivate ⟨.fn ⟨p, 0⟩, q, c⟩ i) s = .next v ∧ x ∉ v.mqt.sess ∧
    (∀ k n, k ∈ x.nss → nsOf u k = some n → (nsOf v k).map (·.state) = some .active ∧
      (nsOf v k).map (·.attached) = some [unitOf x.tenant]) ∧ v.media = u.media) ∧
  (∀ p q c s u i x, Safety.startOf ⟨.fn ⟨p, 0⟩, q, c⟩ 0xC9 0 s = some u →
    u.mqt.sess.find? (fun x => decide (x.id = i.toNat ∧ x.imp = true ∧ x.pf = p)) = some x → ∃ v,
    exec (.importAbort ⟨.fn ⟨p, 0⟩, q, c⟩ i) s = .next v ∧ x ∉ v.mqt.sess ∧
    (∀ k, k ∈ x.nss → nsOf v k = none ∧ ∀ j, iuNs j = k → mapOf v j = mapNone) ∧ v.media = u.media)

/-! ## The management path (chapter 16) -/

/-- MCTP packets are assembled or dropped, and control messages are answered in every mode; what
no row answers is answered as unsupported (R5, R570 to R572). -/
def Obligations.MctpCommandsComplete : Prop :=
  (∀ s k, mgtUp s = true → k.integrityOk = true → addressed s k = true → k.som = true → k.eom = true →
    k.length ≤ 4224 → s.mgt.asm = none → k.head.length < 2 → exec (.mctpPacket k) s = .next s) ∧
  (∀ s k, mgtUp s = true → k.integrityOk = true → addressed s k = true → k.som = true → k.eom = true →
    k.length ≤ 4224 → s.mgt.asm = none → k.mtype = .control → 2 ≤ k.head.length →
    (k.head.getD 1 0).toNat = 0 ∨ 5 < (k.head.getD 1 0).toNat →
    exec (.mctpPacket k) s = .next (mgtRespond (.mctp [0x05]) s)) ∧
  (∀ s k, mgtUp s = true → k.integrityOk = true → addressed s k = true → k.som = true → k.eom = true →
    k.length ≤ 4224 → s.mgt.asm = none → k.mtype = .spdm → 2 ≤ k.head.length → fullyUp s = true →
    spdmListed (k.head.getD 1 0).toNat = false →
    exec (.mctpPacket k) s = .next (spdmUnsupported .mctp (k.head.getD 1 0).toNat s)) ∧
  (∀ s k, mgtUp s = true → k.integrityOk = true → addressed s k = true → k.som = true → k.eom = false →
    k.length ≤ 4224 → s.mgt.asm = none → ∃ t, exec (.mctpPacket k) s = .next t ∧ t.mgt.asm = some
      { seq := k.seq, length := k.length, mtype := k.mtype, head := k.head, broken := false } ∧ Same [.mgt] s t) ∧
  (∀ s k a, mgtUp s = true → k.integrityOk = true → addressed s k = true → k.som = false → s.mgt.asm = some a →
    a.broken = false → k.seq ≠ a.seq + 1 → ∃ t, exec (.mctpPacket k) s = .next t ∧
    t.mgt.droppedMsgs = satAdd s.mgt.droppedMsgs 1 ∧ Same [.mgt, .evs0, .evs1] s t) ∧
  (∀ s k, mgtUp s = true → k.integrityOk = false → ∃ t, exec (.mctpPacket k) s = .next t ∧
    t.mgt.pecErrors = satAdd s.mgt.pecErrors 1 ∧ Same [.mgt, .evs0, .evs1] s t) ∧
  (∀ s o e, mgtUp s = true → o.toNat ≤ 1 → e ≠ 0 → e ≠ 0xFF → ∃ t, exec (.mctpSetEndpointId o e) s = .next t ∧
    t.mgt.eid = e ∧ Output.mctp [0x00, 0x00, e, 0x00] ∈ t.out ∧ Same [.mgt, .out] s t) ∧
  (∀ s, mgtUp s = true → exec .mctpGetEndpointId s = .next (mgtRespond (.mctp [0x00, s.mgt.eid, 0x00, 0x00]) s)) ∧
  (∀ s, mgtUp s = true → ∃ t b, exec .mctpGetEndpointUuid s = .next t ∧ Output.mctp b ∈ t.out ∧ b.length = 17 ∧
    Same [.out] s t) ∧
  (∀ s y, mgtUp s = true → exec (.mctpGetVersionSupport y) s = .next (mgtRespond (.mctp (mctpVersion y)) s)) ∧
  (∀ s, mgtUp s = true → exec .mctpGetMessageTypeSupport s = .next (mgtRespond
    (.mctp (0x00 :: BitVec.ofNat 8 (mctpTypes s).length :: mctpTypes s)) s)) ∧
  (∀ s, fullyUp s = true → mctpTypes s = [0x04, 0x05, 0x06]) ∧
  (∀ s, rcvPresented s = true → mctpTypes s = [0x04, 0x7E])

/-- The bus modes and the I3C common commands (R566, R568, R569). -/
def Obligations.BusCommandsComplete : Prop :=
  (∀ s a, mgtUp s = true → a ≠ 0 → ∃ t, exec (.i3cEntdaa a) s = .next t ∧ t.mgt.da = a ∧ t.mgt.i3c = true ∧
    Same [.mgt, .out, .evs0, .evs1] s t) ∧
  (∀ s a, mgtUp s = true → a ≠ 0 → ∃ t, exec (.i3cSetdasa a) s = .next t ∧ t.mgt.da = a ∧ t.mgt.i3c = true ∧
    Same [.mgt, .out, .evs0, .evs1] s t) ∧
  (∀ s, mgtUp s = true → ∃ t, exec .i3cRstdaa s = .next t ∧ t.mgt.da = 0 ∧ t.mgt.i3c = false ∧
    (s.mgt.i3c = true → t.mgt.mtu = 64 ∧ t.mgt.mrl = 64 ∧ t.mgt.mwl = 64) ∧
    Same [.mgt, .out, .evs0, .evs1] s t) ∧
  (∀ s e, mgtUp s = true → s.mgt.i3c = true → exec (.i3cEnec e) s =
    .next { s with mgt := { s.mgt with events := s.mgt.events ||| e } }) ∧
  (∀ s e, mgtUp s = true → s.mgt.i3c = true → exec (.i3cDisec e) s =
    .next { s with mgt := { s.mgt with events := s.mgt.events &&& ~~~e } }) ∧
  (∀ s, mgtUp s = true → s.mgt.i3c = true → ∃ t v, exec .i3cGetpid s = .next t ∧ t.out = s.out ++ [.ccc v] ∧
    v.toNat < 2 ^ 48 ∧ v.setWidth 32 = s.fuses.dsn.setWidth 32 ∧ Same [.out] s t) ∧
  (∀ s, mgtUp s = true → s.mgt.i3c = true → ∃ t v, exec .i3cGetbcr s = .next t ∧ t.out = s.out ++ [.ccc v] ∧
    v.toNat < 256 ∧ Same [.out, .free] s t) ∧
  (∀ s, mgtUp s = true → s.mgt.i3c = true → ∃ t v, exec .i3cGetdcr s = .next t ∧ t.out = s.out ++ [.ccc v] ∧
    v.toNat < 256 ∧ Same [.out, .free] s t) ∧
  (∀ s, mgtUp s = true → s.mgt.i3c = true → ∃ t v, exec .i3cGetstatus s = .next t ∧ t.out = s.out ++ [.ccc v] ∧
    v.toNat < 65536 ∧ Same [.out, .free] s t) ∧
  (∀ s, mgtUp s = true → s.mgt.i3c = true →
    exec .i3cGetmrl s = .next (emit (.ccc (s.mgt.mrl.setWidth 64)) s) ∧
    exec .i3cGetmwl s = .next (emit (.ccc (s.mgt.mwl.setWidth 64)) s)) ∧
  (∀ s v, mgtUp s = true → s.mgt.i3c = true → 64 ≤ v.toNat → v.toNat ≤ 256 →
    exec (.i3cSetmrl v) s = .next { s with mgt := { s.mgt with mrl := v } } ∧
    exec (.i3cSetmwl v) s = .next { s with mgt := { s.mgt with mwl := v } }) ∧
  (∀ s e, s.mgt.i3c = false → exec (.i3cEnec e) s = .next s ∧ exec .i3cGetstatus s = .next s) ∧
  (∀ s, ∃ t u, exec .coldReset s = .next t ∧ exec .powerOnReset s = .next u ∧ t.mgt.i3c = false ∧ u.mgt.i3c = false)

/-- NVMe-MI: data structures, health polls, configuration, VPD and Reset; and what waits while the device restarts (R573,
R578 to R580, R582, R584 to R586). -/
def Obligations.MiCommandsComplete : Prop :=
  (∀ s n d p c b, mgtUp s = true → miStructure s d p c = some b →
    exec (.miReadDataStructure n d p c) s = .next (mgtRespond (.mi n 0x00 b) s)) ∧
  (∀ s n, mgtUp s = true → ∃ t b, exec (.miSubsystemHealthPoll n true) s = .next t ∧ Output.mi n 0x00 b ∈ t.out ∧
    b.length = 8 ∧ b.head? = some (BitVec.ofNat 8 (miSubsystemStatus s).toNat) ∧ t.mgt.hscSet = 0 ∧
    Same [.mgt, .out, .free] s t) ∧
  (∀ s n, mgtUp s = true → ∃ t b, exec (.miSubsystemHealthPoll n false) s = .next t ∧ Output.mi n 0x00 b ∈ t.out ∧
    t.mgt = s.mgt ∧ Same [.out, .free] s t) ∧
  (∀ s n a m, mgtUp s = true → rcvPresented s = false → ∃ t b, exec (.miControllerHealthPoll n a m) s = .next t ∧
    Output.mi n 0x00 b ∈ t.out ∧
    b.head? = some (BitVec.ofNat 8 (min (min m 256) (snapControllers s a.toNat).length)) ∧ Same [.out, .free] s t) ∧
  (∀ s n v k, mgtUp s = true → rcvPresented s = false → freqOf v = some k → ∃ t,
    exec (.miConfigurationSet n 1 v) s = .next t ∧ t.mgt.freqKhz = k ∧ Output.mi n 0x00 [] ∈ t.out) ∧
  (∀ s n v, mgtUp s = true → rcvPresented s = false → ∃ t, exec (.miConfigurationSet n 2 v) s = .next t ∧
    t.mgt.hscEnable = v >>> 16 ∧ t.mgt.hscSet = s.mgt.hscSet &&& ~~~(v &&& 0xFFFF)) ∧
  (∀ s n v, mgtUp s = true → rcvPresented s = false → mtuAllowed s v = true → ∃ t,
    exec (.miConfigurationSet n 3 v) s = .next t ∧ t.mgt.mtu = v.toNat) ∧
  (∀ s n i v, mgtUp s = true → rcvPresented s = false → configValue s i = some v →
    exec (.miConfigurationGet n i) s = .next (mgtRespond (.mi n 0x00 (le32 v.toNat)) s)) ∧
  (∀ s n o k, fullyUp s = true → s.mgt.held = [] → k ≠ 0 → o.toNat + k.toNat ≤ 1024 →
    exec (.vpdRead n o k) s = .next (mgtRespond (.mi n 0x00 (slice (vpdBytes s) o.toNat k.toNat)) s)) ∧
  (∀ s n o k d, fullyUp s = true → s.mgt.held = [] → ownerLocked s = false → k ≠ 0 → o.toNat + k.toNat ≤ 1024 →
    d.length = k.toNat → canStore .vpd s = true → ∃ t, exec (.vpdWrite n o k d true) s = .next t ∧
    t.cfg = (storeRecord (.vpd (patch o.toNat d (vpdBytes s))) true s).cfg ∧ Output.mi n 0x00 [] ∈ t.out) ∧
  (∀ s n o k d b, fullyUp s = true → s.mgt.held = [] → ownerLocked s = true → ∃ t,
    exec (.vpdWrite n o k d b) s = .next t ∧ t.cfg = s.cfg ∧ Output.mi n 0x04 [] ∈ t.out) ∧
  (∀ s n, fullyUp s = true → s.mgt.held = [] →
    exec (.miReset n) s = .next (subsystemResetOf (mgtRespond (.mi n 0x00 []) s))) ∧
  (∀ s n o k, restarting s = true → ∃ t, exec (.vpdRead n o k) s = .next t ∧
    t.mgt.held = s.mgt.held ++ [.vpdRead n o k] ∧ Output.mi n 0x01 [] ∈ t.out) ∧
  (∀ s n o k, rcvPresented s = true → exec (.vpdRead n o k) s = .next (mgtRespond (.mi n 0x03 []) s)) ∧
  (∀ s, fullyUp s = true → s.mgt.snapTaken = false → exec .snapshotCopy s = .next { s with mgt := { s.mgt with
    snap := unitEntries s, snapGen := s.nvm.ustGen, snapTaken := true, snapWarn := critWarn s } }) ∧
  (∀ s, fullyUp s = true → ∃ t, exec .snapshotCopy s = .next t ∧ t.mgt.snap = unitEntries s ∧
    t.mgt.snapGen = s.nvm.ustGen)

/-! ## Kaleidoscope, event sources and registers (chapters 17, 18) -/

/-- The trace port: enabling, snapshots and SYNC packets (R589, R590, R592, R594, R595). -/
def Obligations.KaleidoscopeCommandsComplete : Prop :=
  (∀ s, running s = true → ∃ t, exec (.kscEnableChange false) s = .next t ∧ t.ksc.enable = false ∧
    t.ksc.active = false ∧ t.ksc.fifo = [] ∧ Same [.ksc] s t) ∧
  (∀ s, running s = true → kscAllowed { s with ksc := { s.ksc with enable := true } } = true → s.ksc.active = false →
    s.ksc.lostRun = 0 → s.ksc.fifo = [] → ∃ t p, exec (.kscEnableChange true) s = .next t ∧ t.ksc.enable = true ∧
    t.ksc.active = true ∧ t.ksc.fifo = [p] ∧ p.type = 0x01 ∧ Same [.ksc, .free] s t) ∧
  (∀ s, running s = true → s.pwr.straps.kscopeN = true → ∃ t, exec (.kscEnableChange true) s = .next t ∧
    t.ksc.active = false ∧ t.ksc.fifo = [] ∧ Same [.ksc] s t) ∧
  (∀ s, running s = true → ∃ t, exec .snapNow s = .next t ∧ t.ksc.snap = snapValues s ∧
    t.ksc.snapIndex = s.ksc.snapIndex + 1 ∧ Same [.ksc, .evs0, .evs1] s t) ∧
  (∀ s, running s = true → ∃ t, exec .kscPeriodicSnapshot s = .next t ∧ t.ksc.snap = snapValues s ∧
    t.ksc.snapIndex = s.ksc.snapIndex + 1 ∧ Same [.ksc, .evs0, .evs1] s t) ∧
  (∀ s, s.ksc.active = true → s.ksc.lostRun = 0 → ∃ t p, exec .kscSync s = .next t ∧
    t.ksc.fifo = s.ksc.fifo ++ [p] ∧ p.type = 0x01 ∧ p.payload.length = 12 ∧
    p.payload.drop 8 = leBytes 4 s.boot.bootIndex.toNat ∧ Same [.ksc, .free] s t) ∧
  (∀ s, s.ksc.active = false → exec .kscSync s = .next s)

/-- Event source registers: pending bits clear by ones, enables take listed sources, the summary follows and a rise
signals (R598, R601, R604, R607 to R612, R618); a read of the set-up block gives its bytes. -/
def Obligations.EventSourceCommandsComplete : Prop :=
  (∀ s p k v, running s = true → ∃ t, exec (.evsPendingWrite p k v) s = .next t ∧
    evsWord (evsOf t p).pend k.toNat = evsWord (evsOf s p).pend k.toNat &&& ~~~v ∧
    (∀ j, j < 128 → j ≠ k.toNat → evsWord (evsOf t p).pend j = evsWord (evsOf s p).pend j) ∧
    (evsOf t p).en = (evsOf s p).en ∧ Same [.evs0, .evs1] s t) ∧
  (∀ s p k v, running s = true → ∃ t, exec (.evsEnableWrite p k v) s = .next t ∧
    evsWord (evsOf t p).en k.toNat = v &&& evsMask k.toNat ∧
    (∀ j, j < 128 → j ≠ k.toNat → evsWord (evsOf t p).en j = evsWord (evsOf s p).en j) ∧
    (evsOf t p).pend = (evsOf s p).pend ∧ Same [.evs0, .evs1] s t) ∧
  (∀ s p, running s = true → ∃ t, exec (.evsSummarySignal p) s = .next t ∧
    (evsOf t p).sum = evsSummary (evsOf s p) ∧ (evsOf t p).en = (evsOf s p).en ∧
    ((evsOf s p).aenEn = false → (evsOf t p).pend = (evsOf s p).pend)) ∧
  (∀ s p v, running s = true → v.getLsbD 31 = false → ∃ t, exec (.evsRearm p v) s = .next t ∧
    (evsOf t p).vector = fieldOf 0 11 v ∧ (evsOf t p).vecEn = v.getLsbD 11 ∧ (evsOf t p).aenEn = v.getLsbD 12 ∧
    (evsOf t p).messages = (evsOf s p).messages ∧ Same [.evs0, .evs1, .fns, .out] s t) ∧
  (∀ s p v, running s = true → v.getLsbD 31 = true → v.getLsbD 11 = true → v.getLsbD 12 = false →
    (evsOf s p).sum ≠ 0 → vectorOpen s ⟨p, 0⟩ (fieldOf 0 11 v).toNat = true → ∃ t,
    exec (.evsRearm p v) s = .next t ∧ (evsOf t p).messages = satAdd (evsOf s p).messages 1) ∧
  (∀ s p u, running s = true → ∃ t,
    exec (.upperWordLatchRead p (if u = true then 0x01000010 else 0x01000420) 4) s = .next t ∧
    t.out = s.out ++ [.access (.bytes (leBytes 4 ((liveCounter s u).setWidth 32).toNat))] ∧
    latchOf t p u = some ((liveCounter s u >>> 32).setWidth 32) ∧ Same [.latch, .out, .free] s t) ∧
  (∀ s p u v, running s = true → latchOf s p u = some v → ∃ t,
    exec (.upperWordLatchRead p (if u = true then 0x01000014 else 0x01000424) 4) s = .next t ∧
    t.out = s.out ++ [.access (.bytes (leBytes 4 v.toNat))] ∧ latchOf t p u = none ∧
    Same [.latch, .out, .free] s t) ∧
  (∀ s p u, running s = true → latchOf s p u = none → ∃ t,
    exec (.upperWordLatchRead p (if u = true then 0x01000014 else 0x01000424) 4) s = .next t ∧
    t.out = s.out ++ [.access (.bytes (leBytes 4 ((liveCounter s u >>> 32).setWidth 32).toNat))] ∧
    latchOf t p u = none ∧ Same [.latch, .out, .free] s t) ∧
  (∀ s p, running s = true → ∃ t, exec (.upperWordLatchRead p 0x01000420 8) s = .next t ∧
    t.out = s.out ++ [.access (.bytes (leBytes 8 s.nor.writeGen.toNat))] ∧ Same [.latch, .out, .free] s t) ∧
  (∀ s p o, running s = true → o % 4 = 0 → 0x01000000 ≤ o → counterAt (o - 0x01000000) = none → ∃ t,
    exec (.upperWordLatchRead p o 4) s = .next t ∧
    t.out = s.out ++ [.access (.bytes (leBytes 4 (setupWord s p (o - 0x01000000)).toNat))] ∧
    Same [.out, .free] s t) ∧
  (∀ s p o, 0x2418 ≤ o → setupWord s p o = 0)

/-- Register writes by offset take writable fields only; other sizes and offsets write nothing (R87, R126, R312, R353, R389,
R598, R601, R602, R605 to R607, R618). -/
def Obligations.RegisterWritesFollowTheirCodes : Prop :=
  (∀ s p o n v, rcvPresented s = false → n ≠ 4 ∨ o % 4 ≠ 0 ∨ o < 0x01000000 ∨ running s = false →
    exec (.registerWrite p o n v) s = .next s) ∧
  (∀ s p v, running s = true → exec (.registerWrite p 0x01000000 4 v) s = .next s) ∧
  (∀ s p v, running s = true → ∃ t, exec (.registerWrite p 0x01000404 4 v) s = .next t ∧
    t.pwr = { s.pwr with armrefLost := s.pwr.armrefLost && !v.getLsbD 8, xt32Lost := s.pwr.xt32Lost && !v.getLsbD 9,
                         holdShort := s.pwr.holdShort && !v.getLsbD 10, pwrfailCount := fieldOf 16 16 v } ∧
    Same [.pwr] s t) ∧
  (∀ s p v, running s = true → 1 ≤ (fieldOf 0 12 v).toNat → (fieldOf 0 12 v).toNat ≤ 4000 → ∃ t,
    exec (.registerWrite p 0x01000708 4 v) s = .next t ∧ t.ctoMs = fieldOf 0 12 v ∧ t.ctoOverride = v.getLsbD 31 ∧
    t.ctoBad = (s.ctoBad && !v.getLsbD 12) ∧ Same [.ctoMs, .ctoBad, .ctoOverride] s t) ∧
  (∀ s p v, running s = true → (fieldOf 0 12 v).toNat = 0 ∨ 4000 < (fieldOf 0 12 v).toNat →
    exec (.registerWrite p 0x01000708 4 v) s = .next { s with ctoBad := true }) ∧
  (∀ s p v, running s = true → exec (.registerWrite p 0x01000808 4 v) s =
    .next { s with nvm := { s.nvm with stalls := v } }) ∧
  (∀ s p v, running s = true → ∃ t, exec (.registerWrite p 0x01000600 4 v) s = .next t ∧
    t.evr.overflowWarn = (s.evr.overflowWarn && !v.getLsbD 0) ∧ t.evr.tornSeen = (s.evr.tornSeen && !v.getLsbD 2) ∧
    t.evr.dropped = fieldOf 16 16 v ∧ Same [.evr] s t) ∧
  (∀ s p v, running s = true → 1 ≤ (fieldOf 0 3 v).toNat → (fieldOf 0 3 v).toNat ≤ 4 → ∃ t,
    exec (.registerWrite p 0x01000C08 4 v) s = .next t ∧ t.ftl.rebuildShare = (fieldOf 0 3 v).toNat ∧
    Same [.ftl] s t) ∧
  (∀ s p v, running s = true → ∃ t, exec (.registerWrite p 0x01000E80 4 v) s = .next t ∧
    slice t.hold.stage 0 4 = le32 v.toNat ∧ t.hold.stage.drop 4 = s.hold.stage.drop 4 ∧ Same [.hold] s t) ∧
  (∀ s p v, running s = true → ∃ t, exec (.registerWrite p 0x01002000 4 v) s = .next t ∧
    exec (.evsPendingWrite p 0 v) s = .next t) ∧
  (∀ s p v, running s = true → ∃ t, exec (.registerWrite p 0x01000B00 4 v) s = .next t ∧
    exec (.policyRegisterWrite .slc v) s = .next t) ∧
  (∀ s p o n v l, running s = true → exec (.registerWrite p o n v l) s =
    exec (.registerWrite p o n v) (l.foldl (fun s x => readReg x s) s)) ∧
  (∀ s p v, rcvPresented s = true → exec (.registerWrite p 0x10000008 4 v) s =
    .next { s with rcv := { s.rcv with arg1 := v } })

/-! ## The whole block -/

/-- No command changes a part of the state outside its frame, and a command of one controller's own queues and interrupts
leaves every other function alone, when that controller's outstanding Asynchronous Event Requests are its own. -/
def Obligations.CommandsChangeOnlyTheirParts : Prop :=
  (∀ i s t, exec i s = .next t → Same (mayChange i) s t) ∧
  (∀ i f s t g, onlyFunction i = some f → (∀ r ∈ (fnOf s f).ctrl.aers, r.src = .fn f) → exec i s = .next t →
    unitOf g ≠ unitOf f → fnOf t g = fnOf s g)

/-- A step runs the command at the front of the queue, with the queue's rest. With none waiting the oldest request held on
the management path runs while DEVICE_MODE is Running (R585), else the active trace port sends its oldest packet, or a
fill byte, with a clock for each byte (R591, R594), else nothing changes: what
an empty queue does is the model's choice (log 14), and so is it that no word spells a command (log 15). -/
def Obligations.StepRunsTheFrontCommand : Prop :=
  (∀ c s, step { s with pending := c :: s.pending } = exec c s) ∧
  (∀ c r s, s.pending = c :: r → step s = exec c { s with pending := r }) ∧
  (∀ s i r, s.pending = [] → fullyUp s = true → s.mgt.held = .admin i :: r →
    ∀ t, exec i { s with mgt := { s.mgt with held := [] } } = .next t → step s = .next (keepHeld r t)) ∧
  (∀ s p r, s.pending = [] → s.mgt.held = [] → s.ksc.active = true → s.ksc.fifo = p :: r → step s = .next
    (drawn 1 (emit (.ksc ((kscBytes (draw 16 s) p).map kscClock)) { s with ksc := { s.ksc with fifo := r } }))) ∧
  (∀ s, s.pending = [] → s.mgt.held = [] → s.ksc.active = true → s.ksc.fifo = [] →
    step s = .next (emit (.ksc [(0, 0)]) s)) ∧
  (∀ s, s.pending = [] → s.mgt.held = [] → s.ksc.active = false → step s = .next s) ∧
  (∀ s n w, decodeTableWord n w = none ∧ State.withFetchWord s n w = s)

/-- Reset leaves the values that the Reset columns of the register tables give, no command waiting, and the invariant (R37,
R141, R312, R389, R433, R496, R532, R565, R568, R571, R597, R618). -/
def Obligations.ResetHoldsTheStatedValues : Prop :=
  Safety.Inv State.reset ∧ State.reset.pending = [] ∧ State.reset.out = [] ∧ State.reset.ctoMs = 50 ∧
  State.reset.ctoOverride = false ∧ State.reset.vault.mac = none ∧ State.reset.rcv.session = none ∧
  State.reset.nor.unlocked = [] ∧ (State.reset.flash.maxMode, State.reset.flash.retrainDt) = (7, 15) ∧
  (State.reset.ftl.pct, State.reset.ftl.foldHi, State.reset.ftl.foldLo, State.reset.ftl.spread) = (6, 70, 40, 250) ∧
  State.reset.ftl.rebuildShare = 1 ∧ (State.reset.hold.ckptInterval, State.reset.hold.journalMax) = (600, 8) ∧
  State.reset.hold.stage = List.replicate 128 0 ∧ State.reset.mqt.sess = [] ∧ State.reset.mgt.i3c = false ∧
  (State.reset.mgt.eid, State.reset.mgt.mtu) = (0, 64) ∧ State.reset.ksc.enable = false ∧
  (State.reset.ksc.armDiv, State.reset.ksc.snapMs) = (1, 100) ∧ State.reset.evs0 = Evs.reset ∧
  State.reset.evs1 = Evs.reset ∧ (∀ f, fnOf State.reset f = Fn.reset) ∧ State.reset.tab.ksplit = 1024

/-- From every state with the invariant, a step goes on to a state with the invariant, unless the command reads an offset
beyond the die (R142): the Image Array's tables stay in canonical form, and what its banks hold keeps to its page and away
from permanently locked sectors. -/
def Obligations.StepsGoOnAndKeepTheInvariant : Prop :=
  ∀ s, Safety.Inv s → (∃ t, step s = .next t ∧ Safety.Inv t) ∨ ∃ n, step s = .fault (.noSuchOffset n) ∧ dieBytes ≤ n

/-- No step changes a byte of a permanently locked sector (R165, R167), from any state with the invariant. -/
def Obligations.PermanentLocksHold : Prop :=
  ∀ s t a, Safety.Inv s → permLocked (sectorOf a) = true → step s = .next t → norByte t a = norByte s a

/-- No step clears a fuse: the floor, the revoked keys and the trace fuse only burn (R91, R267, R268). -/
def Obligations.FusesOnlyBurn : Prop :=
  ∀ s t, step s = .next t → Safety.blown s.fuses.svnMin t.fuses.svnMin ∧
    Safety.blown s.fuses.keyRevoke t.fuses.keyRevoke ∧ Safety.blown s.fuses.kscOff t.fuses.kscOff
end

