-- ==== Sys2Proof/Laws/Frame.lean ====
section
/-! SUPPORT. Frames: which fields of the state an operation can change. `Same l s t` says that `t` differs from `s` in no
field outside the list `l`; the operations of the model have one lemma `<operation>_same` each, with its list. -/
namespace Sys2Proof.Machine

/-- The field is in the list. -/
def Field.isIn (f : Field) (l : List Field) : Bool := l.any fun g => Nat.beq g.ctorIdx f.ctorIdx

/-- The state with the listed fields of another. -/
def mask (r : State) (l : List Field) (s : State) : State where
  pwr := bif Field.isIn .pwr l then r.pwr else s.pwr
  fuses := ⟨
    bif Field.isIn .fuseFixed l then r.fuses.grade else s.fuses.grade,
    bif Field.isIn .fuseFixed l then r.fuses.dsn else s.fuses.dsn,
    bif Field.isIn .fuseFixed l then r.fuses.array else s.fuses.array,
    bif Field.isIn .fuseBits l then r.fuses.svnMin else s.fuses.svnMin,
    bif Field.isIn .fuseBits l then r.fuses.keyRevoke else s.fuses.keyRevoke,
    bif Field.isIn .fuseBits l then r.fuses.kscOff else s.fuses.kscOff,
    bif Field.isIn .fuses l then r.fuses.shadow else s.fuses.shadow,
    bif Field.isIn .fuses l then r.fuses.counters else s.fuses.counters,
    bif Field.isIn .fuses l then r.fuses.attempts else s.fuses.attempts⟩
  boot := bif Field.isIn .boot l then r.boot else s.boot
  vault := bif Field.isIn .vault l then r.vault else s.vault
  rcv := bif Field.isIn .rcv l then r.rcv else s.rcv
  nor := ⟨
    bif Field.isIn .norMem l then r.nor.mem else s.nor.mem,
    bif Field.isIn .norMem l then r.nor.programmed else s.nor.programmed,
    bif Field.isIn .norMem l then r.nor.undef else s.nor.undef,
    bif Field.isIn .norBanks l then r.nor.unlocked else s.nor.unlocked,
    bif Field.isIn .nor l then r.nor.retired else s.nor.retired,
    ⟨bif Field.isIn .norOps l then r.nor.bank0.seq else s.nor.bank0.seq,
      bif Field.isIn .norBanks l then r.nor.bank0.info else s.nor.bank0.info,
      bif Field.isIn .norBanks l then r.nor.bank0.held else s.nor.bank0.held,
      bif Field.isIn .norBanks l then r.nor.bank0.progFail else s.nor.bank0.progFail,
      bif Field.isIn .norBanks l then r.nor.bank0.eraseFail else s.nor.bank0.eraseFail,
      bif Field.isIn .norBanks l then r.nor.bank0.seqErr else s.nor.bank0.seqErr,
      bif Field.isIn .norBanks l then r.nor.bank0.lockedErr else s.nor.bank0.lockedErr,
      bif Field.isIn .norBanks l then r.nor.bank0.suspPend else s.nor.bank0.suspPend,
      bif Field.isIn .norOps l then r.nor.bank0.run else s.nor.bank0.run,
      bif Field.isIn .norOps l then r.nor.bank0.suspErase else s.nor.bank0.suspErase,
      bif Field.isIn .norOps l then r.nor.bank0.suspProg else s.nor.bank0.suspProg,
      bif Field.isIn .norBanks l then r.nor.bank0.factory else s.nor.bank0.factory,
      bif Field.isIn .norBanks l then r.nor.bank0.grown else s.nor.bank0.grown,
      bif Field.isIn .norBanks l then r.nor.bank0.spare else s.nor.bank0.spare,
      bif Field.isIn .norBanks l then r.nor.bank0.intr else s.nor.bank0.intr⟩,
    ⟨bif Field.isIn .norOps l then r.nor.bank1.seq else s.nor.bank1.seq,
      bif Field.isIn .norBanks l then r.nor.bank1.info else s.nor.bank1.info,
      bif Field.isIn .norBanks l then r.nor.bank1.held else s.nor.bank1.held,
      bif Field.isIn .norBanks l then r.nor.bank1.progFail else s.nor.bank1.progFail,
      bif Field.isIn .norBanks l then r.nor.bank1.eraseFail else s.nor.bank1.eraseFail,
      bif Field.isIn .norBanks l then r.nor.bank1.seqErr else s.nor.bank1.seqErr,
      bif Field.isIn .norBanks l then r.nor.bank1.lockedErr else s.nor.bank1.lockedErr,
      bif Field.isIn .norBanks l then r.nor.bank1.suspPend else s.nor.bank1.suspPend,
      bif Field.isIn .norOps l then r.nor.bank1.run else s.nor.bank1.run,
      bif Field.isIn .norOps l then r.nor.bank1.suspErase else s.nor.bank1.suspErase,
      bif Field.isIn .norOps l then r.nor.bank1.suspProg else s.nor.bank1.suspProg,
      bif Field.isIn .norBanks l then r.nor.bank1.factory else s.nor.bank1.factory,
      bif Field.isIn .norBanks l then r.nor.bank1.grown else s.nor.bank1.grown,
      bif Field.isIn .norBanks l then r.nor.bank1.spare else s.nor.bank1.spare,
      bif Field.isIn .norBanks l then r.nor.bank1.intr else s.nor.bank1.intr⟩,
    bif Field.isIn .nor l then r.nor.writeGen else s.nor.writeGen⟩
  cfg := bif Field.isIn .cfg l then r.cfg else s.cfg
  trust := bif Field.isIn .trust l then r.trust else s.trust
  evr := bif Field.isIn .evr l then r.evr else s.evr
  upd := bif Field.isIn .upd l then r.upd else s.upd
  port0 := bif Field.isIn .port0 l then r.port0 else s.port0
  port1 := bif Field.isIn .port1 l then r.port1 else s.port1
  ctoMs := bif Field.isIn .ctoMs l then r.ctoMs else s.ctoMs
  ctoBad := bif Field.isIn .ctoBad l then r.ctoBad else s.ctoBad
  ctoOverride := bif Field.isIn .ctoOverride l then r.ctoOverride else s.ctoOverride
  bmlRid := bif Field.isIn .bmlRid l then r.bmlRid else s.bmlRid
  bmlPort := bif Field.isIn .bmlPort l then r.bmlPort else s.bmlPort
  bmlCount := bif Field.isIn .bmlCount l then r.bmlCount else s.bmlCount
  timeouts := bif Field.isIn .timeouts l then r.timeouts else s.timeouts
  unexpected := bif Field.isIn .unexpected l then r.unexpected else s.unexpected
  fns := bif Field.isIn .fns l then r.fns else s.fns
  nvm := bif Field.isIn .nvm l then r.nvm else s.nvm
  tab := ⟨
    bif Field.isIn .tabMap l then r.tab.map else s.tab.map,
    bif Field.isIn .tabMap l then r.tab.seqs else s.tab.seqs,
    bif Field.isIn .tabNss l then r.tab.nss else s.tab.nss,
    bif Field.isIn .tabDies l then r.tab.bands else s.tab.bands,
    bif Field.isIn .tabDies l then r.tab.dies else s.tab.dies,
    bif Field.isIn .tabDies l then r.tab.groups else s.tab.groups,
    bif Field.isIn .tab l then r.tab.writeSeq else s.tab.writeSeq,
    bif Field.isIn .tab l then r.tab.closeNo else s.tab.closeNo,
    bif Field.isIn .tab l then r.tab.tnvmcap else s.tab.tnvmcap,
    bif Field.isIn .tab l then r.tab.caps else s.tab.caps,
    bif Field.isIn .tab l then r.tab.capTj else s.tab.capTj,
    bif Field.isIn .tabKeys l then r.tab.keys else s.tab.keys,
    bif Field.isIn .tabKeys l then r.tab.ksplit else s.tab.ksplit,
    bif Field.isIn .tab l then r.tab.readOnly else s.tab.readOnly,
    bif Field.isIn .tab l then r.tab.offline else s.tab.offline,
    bif Field.isIn .tab l then r.tab.failureEvents else s.tab.failureEvents,
    bif Field.isIn .tab l then r.tab.lastFailed else s.tab.lastFailed,
    bif Field.isIn .tab l then r.tab.offlineSeen else s.tab.offlineSeen,
    bif Field.isIn .tab l then r.tab.initialised else s.tab.initialised⟩
  media := bif Field.isIn .media l then r.media else s.media
  ftl := ⟨
    bif Field.isIn .ftlData l then r.ftl.cache else s.ftl.cache,
    bif Field.isIn .ftlData l then r.ftl.wt else s.ftl.wt,
    bif Field.isIn .ftlData l then r.ftl.rows else s.ftl.rows,
    bif Field.isIn .ftl l then r.ftl.pct else s.ftl.pct,
    bif Field.isIn .ftl l then r.ftl.foldHi else s.ftl.foldHi,
    bif Field.isIn .ftl l then r.ftl.foldLo else s.ftl.foldLo,
    bif Field.isIn .ftl l then r.ftl.slcBad else s.ftl.slcBad,
    bif Field.isIn .ftl l then r.ftl.direct else s.ftl.direct,
    bif Field.isIn .ftl l then r.ftl.spread else s.ftl.spread,
    bif Field.isIn .ftl l then r.ftl.wlBad else s.ftl.wlBad,
    bif Field.isIn .ftl l then r.ftl.moves else s.ftl.moves,
    bif Field.isIn .ftl l then r.ftl.refresh else s.ftl.refresh,
    bif Field.isIn .ftl l then r.ftl.refreshDropped else s.ftl.refreshDropped,
    bif Field.isIn .ftl l then r.ftl.staleCopies else s.ftl.staleCopies,
    bif Field.isIn .ftl l then r.ftl.folding else s.ftl.folding,
    bif Field.isIn .ftl l then r.ftl.nativeStop else s.ftl.nativeStop,
    bif Field.isIn .ftl l then r.ftl.refreshHigh else s.ftl.refreshHigh,
    bif Field.isIn .ftl l then r.ftl.shares else s.ftl.shares,
    bif Field.isIn .ftl l then r.ftl.rebuildShare else s.ftl.rebuildShare,
    bif Field.isIn .ftl l then r.ftl.parBad else s.ftl.parBad,
    bif Field.isIn .ftl l then r.ftl.degraded else s.ftl.degraded,
    bif Field.isIn .ftl l then r.ftl.degradedTotal else s.ftl.degradedTotal,
    bif Field.isIn .ftl l then r.ftl.reconstructed else s.ftl.reconstructed,
    bif Field.isIn .ftl l then r.ftl.salvageLost else s.ftl.salvageLost,
    bif Field.isIn .ftl l then r.ftl.journalWaits else s.ftl.journalWaits,
    bif Field.isIn .ftl l then r.ftl.resync else s.ftl.resync,
    bif Field.isIn .ftl l then r.ftl.replayDone else s.ftl.replayDone,
    bif Field.isIn .ftl l then r.ftl.resyncDone else s.ftl.resyncDone⟩
  flash := bif Field.isIn .flash l then r.flash else s.flash
  arm := bif Field.isIn .arm l then r.arm else s.arm
  hold := bif Field.isIn .hold l then r.hold else s.hold
  mqt := bif Field.isIn .mqt l then r.mqt else s.mqt
  mgt := bif Field.isIn .mgt l then r.mgt else s.mgt
  ksc := bif Field.isIn .ksc l then r.ksc else s.ksc
  evs0 := bif Field.isIn .evs0 l then r.evs0 else s.evs0
  evs1 := bif Field.isIn .evs1 l then r.evs1 else s.evs1
  latch := bif Field.isIn .latch l then r.latch else s.latch
  free := bif Field.isIn .free l then r.free else s.free
  out := bif Field.isIn .out l then r.out else s.out
  pending := bif Field.isIn .pending l then r.pending else s.pending

theorem Field.same_refl (s : State) (f : Field) : f.same s s := by cases f <;> simp only [Field.same, and_self]

theorem Field.same_trans {s t u : State} {f : Field} (h : f.same s t) (k : f.same t u) : f.same s u := by
  cases f <;> simp_all only [Field.same, and_self]

theorem Field.isIn_mem {f : Field} {l : List Field} (h : f ∉ l) : f.isIn l = false := by
  rw [Field.isIn, List.any_eq_false]
  intro g hg e
  have e := Nat.eq_of_beq_eq_true e
  have : g = f := by cases g <;> cases f <;> first | rfl | exact absurd e (by decide)
  exact h (this ▸ hg)

theorem same_mask (r : State) (l : List Field) (s : State) : Same l s (mask r l s) := by
  intro f h
  have h := Field.isIn_mem h
  cases f <;> simp only [Field.same, mask, h, cond_false, and_self]

variable {α : Type} {l m : List Field} {s t u : State}

theorem Same.refl (l : List Field) (s : State) : Same l s s := fun f _ => f.same_refl s

theorem Same.trans (h : Same l s t) (k : Same l t u) : Same l s u := fun f hf => Field.same_trans (h f hf) (k f hf)

/-- A wider list. -/
theorem Same.mono (h : Same m s t) (k : ∀ f ∈ m, f ∈ l) : Same l s t := fun f hf => h f fun hm => hf (k f hm)

/-- An operation after others. -/
theorem Same.call (k : Same m t u) (i : m.all (fun f => l.contains f) = true) (h : Same l s t) : Same l s u :=
  h.trans (k.mono fun f hf => by simpa using List.all_eq_true.mp i f hf)

theorem sub_all {m n l : List Field} (h : m.all (fun f => n.contains f) = true)
    (k : n.all (fun f => l.contains f) = true) : m.all (fun f => l.contains f) = true :=
  List.all_eq_true.mpr fun f hf => by
    simpa using List.all_eq_true.mp k f (by simpa using List.all_eq_true.mp h f hf)

/-- A record update of listed fields. -/
theorem Same.put {a0 a1 a2 a3 a4 a5 a6 a7 a8 a9 a10 a11 a12 a13 a14 a15 a16 a17 a18 a19 a20 a21 a22 a23 a24 a25 a26
    a27 a28 a29 a30 a31 a32 a33 a34 a35}
    (h : Same l s t) (e : (⟨a0, a1, a2, a3, a4, a5, a6, a7, a8, a9, a10, a11, a12, a13, a14, a15, a16, a17, a18, a19, a20, a21,
      a22, a23, a24, a25, a26, a27, a28, a29, a30, a31, a32, a33, a34, a35,
      t.pending⟩ : State) = mask ⟨a0, a1, a2, a3, a4, a5, a6, a7, a8, a9, a10, a11, a12, a13, a14, a15, a16, a17, a18, a19, a20, a21,
      a22, a23, a24, a25, a26, a27, a28, a29, a30, a31, a32, a33, a34, a35,
      t.pending⟩ l t) :
    Same l s ⟨a0, a1, a2, a3, a4, a5, a6, a7, a8, a9, a10, a11, a12, a13, a14, a15, a16, a17, a18, a19, a20, a21,
      a22, a23, a24, a25, a26, a27, a28, a29, a30, a31, a32, a33, a34, a35,
      t.pending⟩ := by
  rw [e]; exact h.trans (same_mask _ l t)

/-- An operation after others, written as a function of the state. -/
theorem Same.via (g : State → State) (k : ∀ x, Same l x (g x)) (h : Same l s t) : Same l s (g t) := h.trans (k t)

/-- A loop of steps that each change listed fields only. -/
theorem Same.fold {g : State → α → State} (h : ∀ s a, Same l s (g s a)) :
    ∀ (x : List α) {t : State}, Same l s t → Same l s (x.foldl g t)
  | [], _, k => k
  | a :: x, t, k => Same.fold h x (k.trans (h t a))

/-- `Same.mono`, with the inclusion decided. -/
theorem Same.widen (i : m.all (fun f => l.contains f) = true) (k : Same m s t) : Same l s t := Same.call k i (Same.refl l s)

theorem Same.ite {c : Prop} [Decidable c] (h : Same l s t) (k : Same l s u) : Same l s (if c then t else u) := by
  split <;> assumption

theorem Same.dite {c : Prop} [Decidable c] {f : c → State} {g : ¬c → State} (h : ∀ x, Same l s (f x)) (k : ∀ x, Same l s (g x)) :
    Same l s (dite c f g) := by
  split
  · exact h _
  · exact k _

/-- What an outcome may have changed: nothing outside the list where it is a next state. -/
def Ends (l : List Field) (s : State) : Host.Outcome State Fault Refusal → Prop
  | .next t => Same l s t
  | _ => True

variable {o p : Host.Outcome State Fault Refusal}

theorem Ends.of_next (h : Ends l s o) (e : o = .next t) : Same l s t := by subst e; exact h

theorem Ends.next (h : Same l s t) : Ends l s (.next t) := h

theorem Ends.trans (h : Same l s t) (k : Ends l t o) : Ends l s o := by
  cases o <;> first | trivial | exact h.trans k

theorem Ends.call (k : Ends m t o) (i : m.all (fun f => l.contains f) = true) (h : Same l s t) : Ends l s o := by
  cases o <;> first | trivial | exact Same.call k i h

theorem Ends.ite {c : Prop} [Decidable c] (h : Ends l s o) (k : Ends l s p) : Ends l s (if c then o else p) := by
  split <;> assumption

end Sys2Proof.Machine
end

