-- ==== Sys2Proof/Laws/FrameRecords.lean ====
section
/-! SUPPORT. Frames of the operations of Machine/Records.lean: the fields each of them can change. -/
namespace Sys2Proof.Machine

theorem bumpGen_same (n : Nat) (s : State) :
    Same [.nor] s (bumpGen n s) := by
  unfold bumpGen
  exact Same.put (Same.refl _ _) rfl

theorem putRecord_same (b : RecBody) (ok : Bool) (s : State) :
    Same [.nor, .cfg] s (putRecord b ok s) := by
  unfold putRecord
  exact Same.call (bumpGen_same _ _) (by decide) (Same.put (Same.refl _ _) rfl)

end Sys2Proof.Machine
end

