-- ==== Sys2Proof/Laws/FrameOps.lean ====
section
/-! SUPPORT. Frames of the operations of Machine/Ops.lean: the fields each of them can change. -/
namespace Sys2Proof.Machine

theorem evsSet_same (n : Nat) (s : State) :
    Same [.evs0, .evs1] s (evsSet n s) := by
  unfold evsSet
  exact Same.put (Same.refl _ _) rfl

theorem emit_same (o : Output) (s : State) :
    Same [.out] s (emit o s) := by
  unfold emit
  exact Same.put (Same.refl _ _) rfl

theorem mgtRespond_same (o : Output) (s : State) :
    Same [.out] s (mgtRespond o s) := by
  unfold mgtRespond
  exact Same.ite (Same.widen (by decide) (emit_same _ _))
    (Same.call (emit_same _ _) (by decide)
      (Same.call (emit_same _ _) (by decide) (Same.widen (by decide) (emit_same _ _))))

theorem kscPut_same (p : KscPkt) (s : State) :
    Same [.ksc, .evs0, .evs1] s (kscPut p s) := by
  unfold kscPut
  exact Same.ite (Same.refl _ _)
    (Same.ite (Same.call (evsSet_same _ _) (by decide) (Same.put (Same.refl _ _) rfl))
      (Same.ite (Same.put (Same.refl _ _) rfl) (Same.put (Same.refl _ _) rfl)))

theorem kscPutClass_same (c : Nat) (p : KscPkt) (s : State) :
    Same [.ksc, .evs0, .evs1] s (kscPutClass c p s) := by
  unfold kscPutClass
  exact Same.ite (Same.widen (by decide) (kscPut_same _ _)) (Same.refl _ _)

theorem kscCommand_same (f : Func) (e : Inflight) (phase : Nat) (st : Status) (s : State) :
    Same [.ksc, .evs0, .evs1] s (kscCommand f e phase st s) := by
  unfold kscCommand
  exact Same.widen (by decide) (kscPutClass_same _ _ _)

theorem setFn_same (f : Func) (x : Fn) (s : State) :
    Same [.fns] s (setFn f x s) := by
  unfold setFn
  exact Same.put (Same.refl _ _) rfl

theorem modFn_same (f : Func) (g : Fn → Fn) (s : State) :
    Same [.fns] s (modFn f g s) := by
  unfold modFn
  exact Same.widen (by decide) (setFn_same _ _ _)

theorem modCtrl_same (f : Func) (g : Ctrl → Ctrl) (s : State) :
    Same [.fns] s (modCtrl f g s) := by
  unfold modCtrl
  exact Same.widen (by decide) (modFn_same _ _ _)

theorem retire_same (t : Tag) (s : State) :
    Same [.fns] s (retire t s) := by
  unfold retire
  try dsimp only
  split
  · exact (Same.refl _ _)
  · exact (Same.widen (by decide) (modCtrl_same _ _ _))

theorem signalVector_same (f : Func) (v : Nat) (s : State) :
    Same [.fns, .out] s (signalVector f v s) := by
  unfold signalVector
  exact Same.ite (Same.refl _ _) (by
    try dsimp only
    split
    · exact (Same.ite (Same.refl _ _)
        (Same.ite (Same.widen (by decide) (setFn_same _ _ _)) (Same.widen (by decide) (emit_same _ _))))
    · exact (Same.ite (Same.widen (by decide) (setFn_same _ _ _)) (Same.widen (by decide) (emit_same _ _)))
    · exact (Same.refl _ _))

theorem intxFollow_same (f : Func) (s : State) :
    Same [.fns, .out] s (intxFollow f s) := by
  unfold intxFollow
  exact Same.ite (Same.refl _ _)
    (Same.ite (Same.call (emit_same _ _) (by decide) (Same.widen (by decide) (setFn_same _ _ _)))
      (Same.call (emit_same _ _) (by decide) (Same.widen (by decide) (setFn_same _ _ _))))

theorem signalCq_same (f : Func) (q : Cq) (s : State) :
    Same [.fns, .out] s (signalCq f q s) := by
  unfold signalCq
  exact Same.ite (Same.refl _ _) (by
    try dsimp only
    split
    · exact (Same.ite (Same.refl _ _) (Same.widen (by decide) (signalVector_same _ _ _)))
    · exact (Same.call (intxFollow_same _ _) (by decide) (Same.widen (by decide) (signalVector_same _ _ _))))

theorem postCqe_same (f : Func) (q : Cq) (e : Cqe) (s : State) :
    Same [.fns, .out] s (postCqe f q e s) := by
  unfold postCqe
  exact Same.ite (Same.call (emit_same _ _) (by decide) (Same.widen (by decide) (modCtrl_same _ _ _)))
    (Same.call (signalCq_same _ _ _) (by decide)
      (Same.call (emit_same _ _) (by decide) (Same.widen (by decide) (modCtrl_same _ _ _))))

theorem deliverOne_same (f : Func) (t : Tag) (st : Status) (dw0 : W32) (s : State) :
    Same [.fns, .ksc, .evs0, .evs1, .out] s (deliverOne f t st dw0 s) := by
  unfold deliverOne
  try dsimp only
  split
  · exact (Same.refl _ _)
  · exact (Same.ite (Same.call (retire_same _ _) (by decide) (Same.widen (by decide) (kscCommand_same _ _ _ _ _))) (by
      try dsimp only
      split
      · exact (Same.call (retire_same _ _) (by decide) (Same.widen (by decide) (kscCommand_same _ _ _ _ _)))
      · exact (by
          try dsimp only
          split
          · exact (Same.call (retire_same _ _) (by decide) (Same.widen (by decide) (kscCommand_same _ _ _ _ _)))
          · exact (Same.ite (Same.refl _ _)
              (Same.ite
                (Same.call (modCtrl_same _ _ _) (by decide) (Same.widen (by decide) (kscCommand_same _ _ _ _ _)))
                (Same.call (postCqe_same _ _ _ _) (by decide)
                  (Same.call (retire_same _ _) (by decide) (Same.widen (by decide) (kscCommand_same _ _ _ _ _)))))))))

theorem releaseFlushes_same (f : Func) (sqid : Nat) : ∀ (n : Nat) (s : State),
    Same [.fns, .ksc, .evs0, .evs1, .out] s (releaseFlushes f sqid n s)
  | 0, _ => Same.refl _ _
  | n + 1, s => by
    unfold releaseFlushes
    split
    · exact Same.trans (Same.widen (by decide) (deliverOne_same _ _ _ _ _)) (releaseFlushes_same f sqid n _)
    · exact Same.refl _ _

theorem deliver_same (f : Func) (t : Tag) (st : Status) (dw0 : W32) (s : State) :
    Same [.fns, .ksc, .evs0, .evs1, .out] s (deliver f t st dw0 s) := by
  unfold deliver
  exact Same.call (releaseFlushes_same _ _ _ _) (by decide) (Same.widen (by decide) (deliverOne_same _ _ _ _ _))

theorem complete_same (t : Tag) (st : Status) (dw0 : W32) (s : State) :
    Same [.fns, .nvm, .ksc, .evs0, .evs1, .out] s (complete t st dw0 s) := by
  unfold complete
  try dsimp only
  split
  · exact (Same.call (mgtRespond_same _ _) (by decide)
      (Same.ite (Same.call (evsSet_same _ _) (by decide) (Same.put (Same.refl _ _) rfl)) (Same.refl _ _)))
  · exact (Same.call (deliver_same _ _ _ _ _) (by decide)
      (Same.ite (Same.call (evsSet_same _ _) (by decide) (Same.put (Same.refl _ _) rfl)) (Same.refl _ _)))

theorem finish_same (t : Tag) (st : Status) (s : State) :
    Same [.fns, .nvm, .ksc, .evs0, .evs1, .out] s (finish t st s) := by
  unfold finish
  exact Same.widen (by decide) (complete_same _ _ _ _)

theorem ustChange_same (unit : Nat) (s : State) :
    Same [.nvm] s (ustChange unit s) := by
  unfold ustChange
  exact Same.put (Same.refl _ _) rfl

theorem evsSetIf_same (b : Bool) (n : Nat) (s : State) :
    Same [.evs0, .evs1] s (evsSetIf b n s) := by
  unfold evsSetIf
  exact Same.ite (Same.widen (by decide) (evsSet_same _ _)) (Same.refl _ _)

theorem setLedger_same (part : EvrPart) (l : EvrLedger) (s : State) :
    Same [.evr] s (setLedger part l s) := by
  unfold setLedger
  try dsimp only
  split
  · exact (Same.put (Same.refl _ _) rfl)
  · exact (Same.put (Same.refl _ _) rfl)

theorem pushRec_same (part : EvrPart) (r : EvrRec) (s : State) :
    Same [.evr] s (pushRec part r s) := by
  unfold pushRec
  exact Same.widen (by decide) (setLedger_same _ _ _)

theorem drawn_same (n : Nat) (s : State) :
    Same [.free] s (drawn n s) := by
  unfold drawn
  exact Same.put (Same.refl _ _) rfl

theorem formPlain_same (part : EvrPart) (type : W16) (aux : W16) (payload : Bytes) (s : State) :
    Same [.evr, .free] s (formPlain part type aux payload s) := by
  unfold formPlain
  exact Same.call (pushRec_same _ _ _) (by decide) (Same.widen (by decide) (drawn_same _ _))

theorem formSummary_same (part : EvrPart) (x : EvrSector) (s : State) :
    Same [.evr, .free] s (formSummary part x s) := by
  unfold formSummary
  try dsimp only
  split
  · exact (Same.widen (by decide) (formPlain_same _ _ _ _ _))
  · exact (Same.refl _ _)

theorem formSummaries_same (part : EvrPart) (s : State) :
    Same [.evr, .free] s (formSummaries part s) := by
  unfold formSummaries
  exact Same.call (setLedger_same _ _ _) (by decide)
    (Same.fold (fun _ _ => (Same.widen (by decide) (formSummary_same _ _ _))) _ (Same.refl _ _))

theorem formRec_same (part : EvrPart) (type : W16) (aux : W16) (payload : Bytes) (s : State) :
    Same [.evr, .free] s (formRec part type aux payload s) := by
  unfold formRec
  exact Same.call (formPlain_same _ _ _ _ _) (by decide)
    (Same.ite (Same.widen (by decide) (formSummaries_same _ _)) (Same.refl _ _))

theorem kscEvent_same (r : EvrRec) (s : State) :
    Same [.ksc, .evs0, .evs1] s (kscEvent r s) := by
  unfold kscEvent
  exact Same.widen (by decide) (kscPutClass_same _ _ _)

theorem eventWith_same (code : Nat) (d0 : Nat) (d1 : Nat) (d2 : Bytes) (s : State) :
    Same [.evr, .ksc, .evs0, .evs1, .free] s (eventWith code d0 d1 d2 s) := by
  unfold eventWith
  exact Same.ite (Same.call (evsSet_same _ _) (by decide) (Same.put (Same.refl _ _) rfl)) (by
    try dsimp only
    split
    · exact (Same.call (kscEvent_same _ _) (by decide) (Same.widen (by decide) (formRec_same _ _ _ _ _)))
    · exact (Same.widen (by decide) (formRec_same _ _ _ _ _)))

theorem alertFollow_same (was : Bool) (s : State) :
    Same [.out] s (alertFollow was s) := by
  unfold alertFollow
  exact Same.ite (Same.refl _ _) (Same.widen (by decide) (emit_same _ _))

theorem allowFrom_same (pf : Bool) (vf : Bool) (mgt : Bool) (t : Tag) (k : State → State) (s : State) {l : List Field}
    (hl : [.fns, .nvm, .ksc, .evs0, .evs1, .out].all (fun f => l.contains f) = true) (h4 : ∀ t, Same l t (k t)) :
    Same l s (allowFrom pf vf mgt t k s) := by
  unfold allowFrom
  try dsimp only
  split
  · exact (Same.ite (Same.trans (Same.refl _ _) (h4 _)) (Same.widen (sub_all (by decide) hl) (finish_same _ _ _)))
  · exact (Same.ite (Same.trans (Same.refl _ _) (h4 _)) (Same.widen (sub_all (by decide) hl) (finish_same _ _ _)))

theorem mgtRequest_same (i : Held) (slot : Nat) (refused : State → State) (k : State → State) (s : State) {l : List
    Field} (hl : [.mgt, .out].all (fun f => l.contains f) = true) (h2 : ∀ t, Same l t (refused t)) (h3 : ∀ t, Same l t
    (k t)) :
    Same l s (mgtRequest i slot refused k s) := by
  unfold mgtRequest
  exact Same.ite (Same.trans (Same.refl _ _) (h3 _))
    (Same.ite (Same.trans (Same.refl _ _) (h2 _))
      (Same.ite
        (Same.call (mgtRespond_same _ _) (sub_all (by decide) hl)
          (Same.trans (Same.refl _ _) (Same.widen hl (Same.put (Same.refl _ _) rfl)))) (Same.refl _ _)))

theorem event_same (code : Nat) (d0 : Nat) (d1 : Nat) (s : State) :
    Same [.evr, .ksc, .evs0, .evs1, .free] s (event code d0 d1 s) := by
  unfold event
  exact Same.widen (by decide) (eventWith_same _ _ _ _ _)

theorem eventDue_same (code : Nat) (d0 : Nat) (d1 : Nat) (s : State) :
    Same [.boot, .evr, .ksc, .evs0, .evs1, .free] s (eventDue code d0 d1 s) := by
  unfold eventDue
  exact Same.ite (Same.widen (by decide) (event_same _ _ _ _)) (Same.put (Same.refl _ _) rfl)

theorem setEvs_same (pf : Pf) (e : Evs) (s : State) :
    Same [.evs0, .evs1] s (setEvs pf e s) := by
  unfold setEvs
  try dsimp only
  split
  · exact (Same.put (Same.refl _ _) rfl)
  · exact (Same.put (Same.refl _ _) rfl)

theorem noteAen_same (f : Func) (e : AsyncEvt) (s : State) :
    Same [.evs0, .evs1] s (noteAen f e s) := by
  unfold noteAen
  exact Same.ite (Same.widen (by decide) (setEvs_same _ _ _)) (Same.refl _ _)

theorem asyncEvent_same (f : Func) (e : AsyncEvt) (s : State) :
    Same [.fns, .nvm, .ksc, .evs0, .evs1, .out] s (asyncEvent f e s) := by
  unfold asyncEvent
  exact Same.ite (Same.refl _ _) (by
    try dsimp only
    split
    · exact (Same.call (complete_same _ _ _ _) (by decide)
        (Same.call (noteAen_same _ _ _) (by decide)
          (Same.call (emit_same _ _) (by decide) (Same.widen (by decide) (modCtrl_same _ _ _)))))
    · exact (Same.ite (Same.refl _ _) (Same.widen (by decide) (modCtrl_same _ _ _))))

theorem finishData_same (t : Tag) (b : Bytes) (s : State) :
    Same [.fns, .nvm, .ksc, .evs0, .evs1, .out] s (finishData t b s) := by
  unfold finishData
  exact Same.call (complete_same _ _ _ _) (by decide) (Same.widen (by decide) (emit_same _ _))

theorem stall_same (f : Func) (s : State) :
    Same [.fns, .nvm] s (stall f s) := by
  unfold stall
  exact Same.ite (Same.refl _ _) (Same.call (modCtrl_same _ _ _) (by decide) (Same.put (Same.refl _ _) rfl))

theorem takeEntry_same (f : Func) (e : Inflight) (s : State) :
    Same [.fns, .nvm, .ksc, .evs0, .evs1] s (takeEntry f e s) := by
  unfold takeEntry
  exact Same.call (kscCommand_same _ _ _ _ _) (by decide)
    (Same.call (modCtrl_same _ _ _) (by decide) (Same.put (Same.refl _ _) rfl))

theorem fetchCmd_same {f : Func} {t : Tag} {op : W8} {nsid : W32} {s : State} {x : State × Bool}
    (h : fetchCmd f t op nsid s = some x) : Same [.fns, .nvm, .ksc, .evs0, .evs1, .out] s x.1 := by
  unfold fetchCmd at h
  split at h
  · cases h
  · split at h
    · cases h
      exact Same.widen (by decide) (stall_same _ _)
    · split at h
      · cases h
      · dsimp only at h
        split at h
        · cases h
          exact Same.widen (by decide) (takeEntry_same _ _ _)
        · split at h
          · cases h
            exact Same.widen (by decide) (takeEntry_same _ _ _)
          · cases h
            exact Same.call (finish_same _ _ _) (by decide) (Same.widen (by decide) (takeEntry_same _ _ _))

theorem runFn_same (f : Func) (t : Tag) (op : W8) (nsid : W32) (k : State → State) (s : State) {l : List Field}
    (hl : [.fns, .nvm, .ksc, .evs0, .evs1,
    .out].all (fun f => l.contains f) = true) (h4 : ∀ t, Same l t (k t)) : Same l s (runFn f t op nsid k s) := by
  unfold runFn
  split
  · exact h4 _
  · split
    · rename_i h
      exact (Same.widen hl (fetchCmd_same h)).trans (h4 _)
    · rename_i h
      exact Same.widen hl (fetchCmd_same h)
    · exact Same.refl _ _

theorem runAdmin_same (i : Instr) (t : Tag) (op : W8) (nsid : W32) (pf : Bool) (vf : Bool) (mgt : Bool) (k : State →
    State) (s : State) {l : List Field} (hl : [.fns, .nvm, .mgt, .ksc, .evs0, .evs1, .out].all (fun f => l.contains f)
    = true) (h7 : ∀ t, Same l t (k t)) :
    Same l s (runAdmin i t op nsid pf vf mgt k s) := by
  unfold runAdmin
  try dsimp only
  split
  · exact (mgtRequest_same _ _ _ _ _ (sub_all (by decide) hl)
      (fun _ => (Same.widen (sub_all (by decide) hl) (finish_same _ _ _)))
      (fun _ => (allowFrom_same _ _ _ _ _ _ (sub_all (by decide) hl) h7)))
  · exact (runFn_same _ _ _ _ _ _ (sub_all (by decide) hl)
      (fun _ => (allowFrom_same _ _ _ _ _ _ (sub_all (by decide) hl) h7)))

theorem notInSanitize_same (t : Tag) (k : State → State) (s : State) {l : List Field} (hl : [.fns, .nvm, .ksc, .evs0,
    .evs1, .out].all (fun f => l.contains f) = true) (h1 : ∀ t, Same l t (k t)) :
    Same l s (notInSanitize t k s) := by
  unfold notInSanitize
  exact Same.ite (Same.widen (sub_all (by decide) hl) (finish_same _ _ _)) (Same.trans (Same.refl _ _) (h1 _))

theorem hscMark_same (n : Nat) (s : State) :
    Same [.mgt, .out] s (hscMark n s) := by
  unfold hscMark
  exact Same.call (alertFollow_same _ _) (by decide) (Same.put (Same.refl _ _) rfl)

theorem kscSyncPacket_same (s : State) :
    Same [.ksc, .evs0, .evs1, .free] s (kscSyncPacket s) := by
  unfold kscSyncPacket
  exact Same.call (drawn_same _ _) (by decide) (Same.widen (by decide) (kscPut_same _ _))

theorem kscFollow_same (s : State) :
    Same [.ksc, .evs0, .evs1, .free] s (kscFollow s) := by
  unfold kscFollow
  exact Same.ite
    (Same.ite (Same.refl _ _) (Same.call (kscSyncPacket_same _) (by decide) (Same.put (Same.refl _ _) rfl)))
    (Same.put (Same.refl _ _) rfl)

theorem mctpDrop_same (s : State) :
    Same [.mgt, .evs0, .evs1] s (mctpDrop s) := by
  unfold mctpDrop
  exact Same.call (evsSet_same _ _) (by decide) (Same.put (Same.refl _ _) rfl)

theorem untagWt_same (f : Func) (s : State) :
    Same [.ftlData] s (untagWt f s) := by
  unfold untagWt
  exact Same.put (Same.refl _ _) rfl

theorem endCommands_same (f : Func) (s : State) :
    Same [.fns, .ftlData] s (endCommands f s) := by
  unfold endCommands
  exact Same.call (modCtrl_same _ _ _) (by decide) (Same.widen (by decide) (untagWt_same _ _))

theorem enterFatal_same (f : Func) (code : Nat) (s : State) :
    Same [.evr, .fns, .nvm, .ftlData, .mgt, .ksc, .evs0, .evs1, .free, .out] s (enterFatal f code s) := by
  unfold enterFatal
  exact Same.call (event_same _ _ _ _) (by decide)
    (Same.call (hscMark_same _ _) (by decide)
      (Same.call (evsSet_same _ _) (by decide)
        (Same.call (ustChange_same _ _) (by decide)
          (Same.call (modFn_same _ _ _) (by decide) (Same.widen (by decide) (endCommands_same _ _))))))

theorem busMode_same (i3c : Bool) (s : State) :
    Same [.mgt, .evs0, .evs1, .out] s (busMode i3c s) := by
  unfold busMode
  exact Same.ite (Same.refl _ _)
    (Same.call (alertFollow_same _ _) (by decide)
      (Same.ite (Same.put (Same.ite (Same.widen (by decide) (mctpDrop_same _)) (Same.refl _ _)) rfl)
        (Same.put (Same.ite (Same.widen (by decide) (mctpDrop_same _)) (Same.refl _ _)) rfl)))

theorem whilePowered_same (k : State → State) (s : State) {l : List Field} (hl : [].all (fun f => l.contains f) =
    true) (h0 : ∀ t, Same l t (k t)) :
    Same l s (whilePowered k s) := by
  unfold whilePowered
  exact Same.ite (Same.trans (Same.refl _ _) (h0 _)) (Same.refl _ _)

end Sys2Proof.Machine
end

