-- ==== Sys2Proof/Laws/FrameCrypto.lean ====
section
/-! SUPPORT. Frames of the operations of Machine/Crypto.lean: the fields each of them can change. -/
namespace Sys2Proof.Machine

theorem drbgUse_same (s : State) :
    Same [.trust] s (drbgUse s) := by
  unfold drbgUse
  exact Same.put (Same.refl _ _) rfl

theorem signedOnce_same (s : State) :
    Same [.trust, .free] s (signedOnce s) := by
  unfold signedOnce
  exact Same.ite (Same.call (drbgUse_same _) (by decide) (Same.widen (by decide) (drawn_same _ _))) (Same.refl _ _)

theorem deriveAlias_same (s : State) :
    Same [.trust] s (deriveAlias s) := by
  unfold deriveAlias
  try dsimp only
  split
  · exact (Same.put (Same.refl _ _) rfl)
  · exact (Same.refl _ _)

theorem deriveDevid_same (s : State) :
    Same [.trust] s (deriveDevid s) := by
  unfold deriveDevid
  try dsimp only
  split
  · exact (Same.put (Same.refl _ _) rfl)
  · exact (Same.refl _ _)

theorem lockLadder_same (s : State) :
    Same [.trust] s (lockLadder s) := by
  unfold lockLadder
  exact Same.put (Same.refl _ _) rfl

theorem deriveDeviceKeys_same (s : State) :
    Same [.trust] s (deriveDeviceKeys s) := by
  unfold deriveDeviceKeys
  try dsimp only
  split
  · exact (Same.put (Same.refl _ _) rfl)
  · exact (Same.refl _ _)

end Sys2Proof.Machine
end

