-- ==== Sys2Proof/Laws/FrameStore.lean ====
section
/-! SUPPORT. Frames of the operations of Machine/Store.lean: the fields each of them can change. -/
namespace Sys2Proof.Machine

theorem replaceStores_same (gone : Store → Bool) (l : List Store) (s : State) :
    Same [.media] s (replaceStores gone l s) := by
  unfold replaceStores
  exact Same.put (Same.refl _ _) rfl

end Sys2Proof.Machine
end

