-- ==== Sys2Proof/Laws/FrameImageArray.lean ====
section
/-! SUPPORT. Frames of the operations of Machine/ImageArray.lean: the fields each of them can change. -/
namespace Sys2Proof.Machine

theorem setBank_same (b : Pf) (x : Bank) (s : State) :
    Same [.norOps, .norBanks] s (setBank b x s) := by
  unfold setBank
  try dsimp only
  split
  · exact (Same.put (Same.refl _ _) rfl)
  · exact (Same.put (Same.refl _ _) rfl)

theorem modBank_same (b : Pf) (g : Bank → Bank) (s : State) :
    Same [.norOps, .norBanks] s (modBank b g s) := by
  unfold modBank
  exact Same.widen (by decide) (setBank_same _ _ _)

/-- A change of a bank's counts and status bits. -/
theorem modBank_count_same (b : Pf) (g : Bank → Bank) (s : State)
    (h : ∀ x : Bank, (g x).seq = x.seq ∧ (g x).run = x.run ∧ (g x).suspErase = x.suspErase ∧ (g x).suspProg =
    x.suspProg) :
    Same [.norBanks] s (modBank b g s) := by
  intro f hf
  cases b
  · have k := h s.nor.bank0
    cases f <;> first | exact absurd (by decide) hf | (simp only [modBank, setBank, bankOf, Field.same, k, and_self])
  · have k := h s.nor.bank1
    cases f <;> first | exact absurd (by decide) hf | (simp only [modBank, setBank, bankOf, Field.same, k, and_self])

theorem acceptOp_same (b : Pf) (op : NorOp) (s : State) :
    Same [.norOps, .norBanks, .nor] s (acceptOp b op s) := by
  unfold acceptOp
  exact Same.call (bumpGen_same _ _) (by decide) (Same.widen (by decide) (modBank_same _ _ _))

theorem defineUnits_same (lo : Nat) (hi : Nat) (s : State) :
    Same [.norMem] s (defineUnits lo hi s) := by
  unfold defineUnits
  exact Same.put (Same.refl _ _) rfl

theorem eraseUnits_same (n : Nat) (s : State) :
    Same [.norMem, .norBanks] s (eraseUnits n s) := by
  unfold eraseUnits
  exact Same.call (modBank_count_same _ _ _ fun _ => ⟨rfl, rfl, rfl, rfl⟩) (by decide)
    (Same.put (Same.widen (by decide) (defineUnits_same _ _ _)) rfl)

theorem readySector_same (n : Nat) (pages : Nat) (s : State) :
    Same [.norMem, .norBanks, .nor] s (readySector n pages s) := by
  unfold readySector
  exact Same.ite (Same.call (bumpGen_same _ _) (by decide) (Same.widen (by decide) (eraseUnits_same _ _)))
    (Same.refl _ _)

theorem undefineUnits_same (lo : Nat) (hi : Nat) (s : State) :
    Same [.norMem, .free] s (undefineUnits lo hi s) := by
  unfold undefineUnits
  exact Same.call (drawn_same _ _) (by decide) (Same.put (Same.widen (by decide) (defineUnits_same _ _ _)) rfl)

theorem storeCopy_same (b : RecBody) (ok : Bool) (s : State) :
    Same [.norMem, .norBanks, .nor, .cfg] s (storeCopy b ok s) := by
  unfold storeCopy
  exact Same.ite
    (Same.call (eraseUnits_same _ _) (by decide)
      (Same.call (putRecord_same _ _ _) (by decide) (Same.widen (by decide) (readySector_same _ _ _))))
    (Same.call (putRecord_same _ _ _) (by decide) (Same.widen (by decide) (readySector_same _ _ _)))

theorem retireSector_same (n : Nat) (s : State) :
    Same [.boot, .norMem, .norBanks, .nor, .cfg, .evr, .ksc, .evs0, .evs1, .free] s (retireSector n s) := by
  unfold retireSector
  exact Same.ite (Same.refl _ _)
    (Same.call (eventDue_same _ _ _ _) (by decide)
      (Same.call (evsSet_same _ _) (by decide)
        (Same.ite (Same.call (storeCopy_same _ _ _) (by decide) (Same.put (Same.refl _ _) rfl))
          (Same.ite (Same.call (storeCopy_same _ _ _) (by decide) (Same.put (Same.refl _ _) rfl))
            (Same.ite (Same.put (Same.put (Same.refl _ _) rfl) rfl)
              (Same.ite (Same.put (Same.put (Same.refl _ _) rfl) rfl)
                (Same.ite (Same.put (Same.put (Same.refl _ _) rfl) rfl)
                  (Same.ite (Same.put (Same.put (Same.refl _ _) rfl) rfl) (Same.put (Same.refl _ _) rfl)))))))))

theorem replaceBad_same (n : Nat) (pages : Nat) (s : State) :
    Same [.boot, .norMem, .norBanks, .nor, .cfg, .evr, .ksc, .evs0, .evs1, .free] s (replaceBad n pages s) := by
  unfold replaceBad
  exact Same.ite (Same.widen (by decide) (retireSector_same _ _))
    (Same.call (eventDue_same _ _ _ _) (by decide)
      (Same.call (evsSet_same _ _) (by decide)
        (Same.call (bumpGen_same _ _) (by decide)
          (Same.widen (by decide) (modBank_count_same _ _ _ fun _ => ⟨rfl, rfl, rfl, rfl⟩)))))

theorem storeRecord_same (b : RecBody) (ok : Bool) (s : State) :
    Same [.boot, .norMem, .norBanks, .nor, .cfg, .evr, .ksc, .evs0, .evs1, .free] s (storeRecord b ok s) := by
  unfold storeRecord
  exact Same.ite (Same.widen (by decide) (storeCopy_same _ _ _))
    (Same.ite (Same.widen (by decide) (storeCopy_same _ _ _))
      (Same.call (replaceBad_same _ _ _) (by decide)
        (Same.put
          (Same.ite
            (Same.call (undefineUnits_same _ _ _) (by decide) (Same.widen (by decide) (storeCopy_same _ _ _)))
            (Same.widen (by decide) (storeCopy_same _ _ _))) rfl)))

theorem loseStores_same (n : Nat) (s : State) :
    Same [.cfg, .evr] s (loseStores n s) := by
  unfold loseStores
  exact Same.ite (Same.put (Same.refl _ _) rfl)
    (Same.ite (Same.put (Same.refl _ _) rfl)
      (Same.ite (Same.put (Same.refl _ _) rfl) (Same.ite (Same.put (Same.refl _ _) rfl) (Same.refl _ _))))

theorem eraseContents_same (n : Nat) (s : State) :
    Same [.norMem, .norBanks, .cfg, .evr] s (eraseContents n s) := by
  unfold eraseContents
  exact Same.call (loseStores_same _ _) (by decide) (Same.widen (by decide) (eraseUnits_same _ _))

theorem trimStops_same (s : State) :
    Same [.norMem, .norBanks, .nor, .cfg, .evr] s (trimStops s) := by
  unfold trimStops
  exact Same.ite (Same.refl _ _)
    (Same.call (bumpGen_same _ _) (by decide) (Same.widen (by decide) (eraseContents_same _ _)))

theorem seqError_same (b : Pf) (s : State) :
    Same [.norOps, .norBanks] s (seqError b s) := by
  unfold seqError
  exact Same.widen (by decide) (modBank_same _ _ _)

theorem changeLock_same (b : Pf) (n : Nat) (set : Bool) (s : State) :
    Same [.norOps, .norBanks] s (changeLock b n set s) := by
  unfold changeLock
  exact Same.ite (Same.widen (by decide) (seqError_same _ _))
    (Same.call (modBank_same _ _ _) (by decide) (Same.put (Same.refl _ _) rfl))

theorem clearStatus_same (b : Pf) (s : State) :
    Same [.norOps, .norBanks] s (clearStatus b s) := by
  unfold clearStatus
  exact Same.widen (by decide) (modBank_same _ _ _)

theorem resetBank_same (b : Pf) (s : State) :
    Same [.norMem, .norOps, .norBanks, .cfg, .evr, .free] s (resetBank b s) := by
  unfold resetBank
  exact Same.call (setBank_same _ _ _) (by decide) (by
    try dsimp only
    split
    · exact (Same.call (undefineUnits_same _ _ _) (by decide) (by
        try dsimp only
        split
        · exact (Same.call (undefineUnits_same _ _ _) (by decide) (Same.widen (by decide) (loseStores_same _ _)))
        · exact (Same.refl _ _)))
    · exact (by
        try dsimp only
        split
        · exact (Same.call (undefineUnits_same _ _ _) (by decide) (Same.widen (by decide) (loseStores_same _ _)))
        · exact (Same.refl _ _)))

theorem dieReset_same (s : State) :
    Same [.norMem, .norOps, .norBanks, .cfg, .evr, .free] s (dieReset s) := by
  unfold dieReset
  exact Same.put (Same.call (resetBank_same _ _) (by decide) (Same.widen (by decide) (resetBank_same _ _))) rfl

theorem slotEraseFails_same (n : Nat) (s : State) :
    Same [.boot, .norMem, .norBanks, .nor, .cfg, .evr, .ksc, .evs0, .evs1, .free] s (slotEraseFails n s) := by
  unfold slotEraseFails
  exact Same.call (replaceBad_same _ _ _) (by decide)
    (Same.ite (Same.call (undefineUnits_same _ _ _) (by decide) (Same.widen (by decide) (bumpGen_same _ _)))
      (Same.call (eraseContents_same _ _) (by decide) (Same.widen (by decide) (bumpGen_same _ _))))

theorem eraseSectors_same (l : List Nat) (s : State) :
    Same [.norMem, .norBanks, .nor, .cfg, .evr] s (eraseSectors l s) := by
  unfold eraseSectors
  exact Same.call (bumpGen_same _ _) (by decide)
    (Same.fold (fun _ _ => (Same.widen (by decide) (eraseContents_same _ _))) _ (Same.refl _ _))

theorem programUnit_same (u : Nat) (d : Bytes) (s : State) :
    Same [.norMem] s (programUnit u d s) := by
  unfold programUnit
  exact Same.put (Same.refl _ _) rfl

theorem programRange_same (a : Nat) (d : Bytes) (s : State) :
    Same [.norMem, .nor] s (programRange a d s) := by
  unfold programRange
  exact Same.call (bumpGen_same _ _) (by decide)
    (Same.fold (fun _ _ => (Same.ite (Same.refl _ _) (Same.widen (by decide) (programUnit_same _ _ _)))) _
      (Same.refl _ _))

theorem programFails_same (a : Nat) (n : Nat) (s : State) :
    Same [.norMem, .nor, .free] s (programFails a n s) := by
  unfold programFails
  exact Same.put (Same.call (undefineUnits_same _ _ _) (by decide) (Same.widen (by decide) (bumpGen_same _ _))) rfl

theorem slotProgramFails_same (a : Nat) (n : Nat) (s : State) :
    Same [.boot, .norMem, .norBanks, .nor, .cfg, .evr, .ksc, .evs0, .evs1, .free] s (slotProgramFails a n s) := by
  unfold slotProgramFails
  exact Same.ite (Same.call (retireSector_same _ _) (by decide) (Same.widen (by decide) (programFails_same _ _ _)))
    (Same.call (replaceBad_same _ _ _) (by decide) (Same.widen (by decide) (bumpGen_same _ _)))

theorem writeStop_same (bootIndex : W32) (flushMs : W32) (dumped : W32) (cause : W8) (ok : Bool) (s : State) :
    Same [.norMem, .nor, .cfg, .free] s (writeStop bootIndex flushMs dumped cause ok s) := by
  unfold writeStop
  exact Same.ite
    (Same.ite (Same.call (bumpGen_same _ _) (by decide) (Same.put (Same.refl _ _) rfl))
      (Same.call (undefineUnits_same _ _ _) (by decide)
        (Same.call (bumpGen_same _ _) (by decide) (Same.put (Same.refl _ _) rfl)))) (Same.refl _ _)

theorem suspendNow_same (b : Pf) (s : State) :
    Same [.norOps, .norBanks] s (suspendNow b s) := by
  unfold suspendNow
  exact Same.widen (by decide) (modBank_same _ _ _)

theorem suspendCmd_same (b : Pf) (early : Bool) (s : State) :
    Same [.norOps, .norBanks] s (suspendCmd b early s) := by
  unfold suspendCmd
  exact Same.ite (Same.widen (by decide) (seqError_same _ _)) (by
    try dsimp only
    split
    · exact (Same.ite (Same.widen (by decide) (modBank_same _ _ _)) (Same.widen (by decide) (suspendNow_same _ _)))
    · exact (Same.ite (Same.widen (by decide) (modBank_same _ _ _)) (Same.widen (by decide) (suspendNow_same _ _)))
    · exact (Same.refl _ _))

theorem resumeCmd_same (b : Pf) (s : State) :
    Same [.norOps, .norBanks] s (resumeCmd b s) := by
  unfold resumeCmd
  exact Same.widen (by decide) (modBank_same _ _ _)

theorem readArray_same (b : Pf) (s : State) :
    Same [.norOps, .norBanks] s (readArray b s) := by
  unfold readArray
  exact Same.widen (by decide) (modBank_same _ _ _)

theorem startErase_same (b : Pf) (n : Nat) (remap : Bool) (s : State) :
    Same [.boot, .norMem, .norOps, .norBanks, .nor, .cfg, .evr, .ksc, .evs0, .evs1, .free] s (startErase b n remap s)
    := by
  unfold startErase
  exact Same.ite (Same.widen (by decide) (seqError_same _ _))
    (Same.ite (Same.widen (by decide) (modBank_same _ _ _))
      (Same.ite (Same.call (retireSector_same _ _) (by decide) (Same.widen (by decide) (modBank_same _ _ _)))
        (Same.widen (by decide) (acceptOp_same _ _ _))))

theorem startProgram_same (b : Pf) (first : Nat) (bytes : Bytes) (s : State) :
    Same [.norOps, .norBanks, .nor] s (startProgram b first bytes s) := by
  unfold startProgram
  exact Same.ite (Same.widen (by decide) (seqError_same _ _))
    (Same.ite (Same.widen (by decide) (modBank_same _ _ _)) (Same.widen (by decide) (acceptOp_same _ _ _)))

theorem norWrite_same (early : Bool) (a : Nat) (v : W32) (s : State) :
    Same [.boot, .norMem, .norOps, .norBanks, .nor, .cfg, .evr, .ksc, .evs0, .evs1, .free] s (norWrite early a v s) :=
    by
  unfold norWrite
  try dsimp only
  split
  · exact (Same.ite (Same.widen (by decide) (modBank_same _ _ _))
      (Same.ite (Same.widen (by decide) (suspendCmd_same _ _ _))
        (Same.ite (Same.widen (by decide) (resumeCmd_same _ _))
          (Same.ite (Same.widen (by decide) (clearStatus_same _ _))
            (Same.ite (Same.widen (by decide) (readArray_same _ _)) (Same.widen (by decide) (seqError_same _ _)))))))
  · exact (Same.ite (Same.widen (by decide) (modBank_same _ _ _)) (Same.widen (by decide) (seqError_same _ _)))
  · exact (Same.ite (by
      try dsimp only
      split
      · exact (Same.ite (Same.widen (by decide) (seqError_same _ _)) (Same.widen (by decide) (modBank_same _ _ _)))
      · exact (Same.widen (by decide) (modBank_same _ _ _))
      · exact (Same.widen (by decide) (seqError_same _ _))) (Same.widen (by decide) (seqError_same _ _)))
  · exact (Same.ite (Same.widen (by decide) (modBank_same _ _ _)) (Same.widen (by decide) (seqError_same _ _)))
  · exact (Same.ite (by
      try dsimp only
      split
      · exact (Same.widen (by decide) (startErase_same _ _ _ _))
      · exact (Same.widen (by decide) (startErase_same _ _ _ _))
      · exact (Same.widen (by decide) (changeLock_same _ _ _ _))
      · exact (Same.widen (by decide) (changeLock_same _ _ _ _))) (Same.widen (by decide) (seqError_same _ _)))
  · exact (Same.ite (Same.widen (by decide) (modBank_same _ _ _)) (Same.widen (by decide) (seqError_same _ _)))
  · exact (Same.ite
      (Same.ite (Same.widen (by decide) (modBank_same _ _ _)) (Same.widen (by decide) (modBank_same _ _ _)))
      (Same.widen (by decide) (seqError_same _ _)))
  · exact (Same.ite (Same.widen (by decide) (startProgram_same _ _ _ _)) (Same.widen (by decide) (seqError_same _ _)))

theorem norCycles_same (l : List (Nat × W32)) (sent : Nat) (s : State) :
    Same [.boot, .norMem, .norOps, .norBanks, .nor, .cfg, .evr, .ksc, .evs0, .evs1, .free] s (norCycles l sent s) :=
    by
  unfold norCycles
  exact Same.ite (Same.fold (fun _ _ => (Same.widen (by decide) (norWrite_same _ _ _ _))) _ (Same.refl _ _))
    (Same.refl _ _)

theorem execIaSectorErase_ends (sector : Nat) (sent : Nat) (s : State) :
    Ends [.boot, .norMem, .norOps, .norBanks, .nor, .cfg, .evr, .ksc, .evs0, .evs1, .free] s (execIaSectorErase sector
    sent s) := by
  unfold execIaSectorErase
  exact Ends.next (Same.widen (by decide) (norCycles_same _ _ _))

theorem execIaRemap_ends (sector : Nat) (sent : Nat) (s : State) :
    Ends [.boot, .norMem, .norOps, .norBanks, .nor, .cfg, .evr, .ksc, .evs0, .evs1, .free] s (execIaRemap sector sent
    s) := by
  unfold execIaRemap
  exact Ends.next (Same.widen (by decide) (norCycles_same _ _ _))

theorem execIaLockClear_ends (sector : Nat) (sent : Nat) (s : State) :
    Ends [.boot, .norMem, .norOps, .norBanks, .nor, .cfg, .evr, .ksc, .evs0, .evs1, .free] s (execIaLockClear sector
    sent s) := by
  unfold execIaLockClear
  exact Ends.next (Same.widen (by decide) (norCycles_same _ _ _))

theorem execIaLockSet_ends (sector : Nat) (sent : Nat) (s : State) :
    Ends [.boot, .norMem, .norOps, .norBanks, .nor, .cfg, .evr, .ksc, .evs0, .evs1, .free] s (execIaLockSet sector
    sent s) := by
  unfold execIaLockSet
  exact Ends.next (Same.widen (by decide) (norCycles_same _ _ _))

theorem execIaInfo_ends (bank : Pf) (sent : Nat) (s : State) :
    Ends [.boot, .norMem, .norOps, .norBanks, .nor, .cfg, .evr, .ksc, .evs0, .evs1, .free] s (execIaInfo bank sent s)
    := by
  unfold execIaInfo
  exact Ends.next (Same.widen (by decide) (norCycles_same _ _ _))

theorem execIaSuspend_ends (bank : Pf) (early : Bool) (s : State) :
    Ends [.boot, .norMem, .norOps, .norBanks, .nor, .cfg, .evr, .ksc, .evs0, .evs1, .free] s (execIaSuspend bank early
    s) := by
  unfold execIaSuspend
  exact Ends.next (Same.ite (Same.widen (by decide) (norWrite_same _ _ _ _)) (Same.refl _ _))

theorem execIaSuspendTakesEffect_ends (bank : Pf) (s : State) :
    Ends [.norOps, .norBanks] s (execIaSuspendTakesEffect bank s) := by
  unfold execIaSuspendTakesEffect
  exact Ends.next
    (whilePowered_same _ _ (by decide)
      (fun _ => (Same.ite (Same.widen (by decide) (suspendNow_same _ _)) (Same.refl _ _))))

theorem execIaClearStatus_ends (bank : Pf) (s : State) :
    Ends [.boot, .norMem, .norOps, .norBanks, .nor, .cfg, .evr, .ksc, .evs0, .evs1, .free] s (execIaClearStatus bank
    s) := by
  unfold execIaClearStatus
  exact Ends.next (Same.widen (by decide) (norCycles_same _ _ _))

theorem execIaReadArray_ends (bank : Pf) (s : State) :
    Ends [.boot, .norMem, .norOps, .norBanks, .nor, .cfg, .evr, .ksc, .evs0, .evs1, .free] s (execIaReadArray bank s)
    := by
  unfold execIaReadArray
  exact Ends.next (Same.widen (by decide) (norCycles_same _ _ _))

theorem execIaBankRead_ends (offset : Nat) (uncorrectable : Bool) (s : State) :
    Ends [.norOps, .norBanks, .out] s (execIaBankRead offset uncorrectable s) := by
  unfold execIaBankRead
  exact Ends.ite trivial
    (Ends.ite (Ends.next (Same.refl _ _))
      (Ends.next
        (Same.ite
          (Same.call (emit_same _ _) (by decide)
            (Same.ite (Same.refl _ _) (Same.widen (by decide) (seqError_same _ _))))
          (Same.ite
            (Same.call (emit_same _ _) (by decide)
              (Same.ite (Same.refl _ _) (Same.widen (by decide) (seqError_same _ _))))
            (Same.ite
              (Same.call (emit_same _ _) (by decide)
                (Same.ite (Same.refl _ _) (Same.widen (by decide) (seqError_same _ _))))
              (Same.call (emit_same _ _) (by decide)
                (Same.ite (Same.refl _ _) (Same.widen (by decide) (seqError_same _ _)))))))))

theorem serveWindow_same (b : Pf) (s : State) :
    Same [.rcv, .out] s (serveWindow b s) := by
  unfold serveWindow
  exact Same.fold (fun _ _ => (Same.widen (by decide) (emit_same _ _))) _ (Same.put (Same.refl _ _) rfl)

theorem remapDone_same (b : Pf) (n : Nat) (s : State) :
    Same [.boot, .norMem, .norBanks, .cfg, .evr, .ksc, .evs0, .evs1, .free] s (remapDone b n s) := by
  unfold remapDone
  exact Same.call (eventDue_same _ _ _ _) (by decide)
    (Same.call (evsSet_same _ _) (by decide)
      (Same.call (modBank_count_same _ _ _ fun _ => ⟨rfl, rfl, rfl, rfl⟩) (by decide)
        (Same.widen (by decide) (eraseContents_same _ _))))

theorem opComplete_same (b : Pf) (ok : Bool) (s : State) :
    Same [.boot, .rcv, .norMem, .norOps, .norBanks, .cfg, .evr, .ksc, .evs0, .evs1, .free, .out] s (opComplete b ok s)
    := by
  unfold opComplete
  try dsimp only
  split
  · exact (Same.refl _ _)
  · exact (Same.put
      (Same.call (modBank_same _ _ _) (by decide)
        (Same.ite
          (Same.fold (fun _ _ => (Same.widen (by decide) (programUnit_same _ _ _))) _
            (Same.widen (by decide) (modBank_same _ _ _)))
          (Same.fold (fun _ _ => (Same.put (Same.widen (by decide) (undefineUnits_same _ _ _)) rfl)) _
            (Same.widen (by decide) (modBank_same _ _ _))))) rfl)
  · exact (Same.put
      (Same.ite (Same.call (eraseContents_same _ _) (by decide) (Same.widen (by decide) (modBank_same _ _ _)))
        (Same.call (modBank_same _ _ _) (by decide)
          (Same.call (undefineUnits_same _ _ _) (by decide)
            (Same.call (loseStores_same _ _) (by decide) (Same.widen (by decide) (modBank_same _ _ _)))))) rfl)
  · exact (Same.call (serveWindow_same _ _) (by decide)
      (Same.put (Same.call (remapDone_same _ _ _) (by decide) (Same.widen (by decide) (modBank_same _ _ _))) rfl))

theorem execIaOperationComplete_ends (bank : Pf) (ok : Bool) (s : State) :
    Ends [.boot, .rcv, .norMem, .norOps, .norBanks, .cfg, .evr, .ksc, .evs0, .evs1, .free, .out] s
    (execIaOperationComplete bank ok s) := by
  unfold execIaOperationComplete
  exact Ends.next (whilePowered_same _ _ (by decide) (fun _ => (Same.widen (by decide) (opComplete_same _ _ _))))

end Sys2Proof.Machine
end

