-- ==== Sys2Proof/Laws/FrameLedger.lean ====
section
/-! SUPPORT. Frames of the operations of Machine/Ledger.lean: the fields each of them can change. -/
namespace Sys2Proof.Machine

theorem appendRec_same (part : EvrPart) (r : EvrRec) (s : State) :
    Same [.evr, .free] s (appendRec part r s) := by
  unfold appendRec
  exact Same.call (pushRec_same _ _ _) (by decide)
    (Same.ite (Same.widen (by decide) (formSummaries_same _ _)) (Same.refl _ _))

theorem dropSector_same (part : EvrPart) (x : EvrSector) (s : State) :
    Same [.evr, .ksc, .evs0, .evs1, .free] s (dropSector part x s) := by
  unfold dropSector
  try dsimp only
  split
  · exact (Same.call (event_same _ _ _ _) (by decide)
      (Same.call (evsSet_same _ _) (by decide) (Same.put (Same.refl _ _) rfl)))
  · exact (Same.refl _ _)

theorem openSector_same (part : EvrPart) (s : State) :
    Same [.norMem, .norBanks, .nor, .evr, .ksc, .evs0, .evs1, .free] s (openSector part s) := by
  unfold openSector
  exact Same.call (readySector_same _ _ _) (by decide)
    (Same.call (bumpGen_same _ _) (by decide)
      (Same.call (setLedger_same _ _ _) (by decide)
        (Same.fold
          (fun _ _ => (Same.call (eraseUnits_same _ _) (by decide) (Same.widen (by decide) (dropSector_same _ _ _))))
          _ (Same.widen (by decide) (formSummaries_same _ _)))))

theorem noteSigned_same (recs : List EvrRec) (s : State) :
    Same [.evr, .evs0, .evs1] s (noteSigned recs s) := by
  unfold noteSigned
  exact Same.ite
    (Same.call (evsSet_same _ _) (by decide)
      (Same.put (by (try dsimp only); split; exact (Same.put (Same.refl _ _) rfl); exact (Same.refl _ _)) rfl)) (by
    try dsimp only
    split
    · exact (Same.put (Same.refl _ _) rfl)
    · exact (Same.refl _ _))

theorem tearSector_same (part : EvrPart) (s : State) :
    Same [.boot, .evr, .ksc, .evs0, .evs1, .free] s (tearSector part s) := by
  unfold tearSector
  exact Same.call (eventDue_same _ _ _ _) (by decide)
    (Same.call (evsSetIf_same _ _ _) (by decide) (Same.put (Same.widen (by decide) (setLedger_same _ _ _)) rfl))

theorem failPage_same (part : EvrPart) (s : State) :
    Same [.boot, .norMem, .norBanks, .nor, .cfg, .evr, .ksc, .evs0, .evs1, .free] s (failPage part s) := by
  unfold failPage
  exact Same.ite (Same.widen (by decide) (tearSector_same _ _))
    (Same.call (replaceBad_same _ _ _) (by decide)
      (Same.call (bumpGen_same _ _) (by decide)
        (Same.ite (Same.call (undefineUnits_same _ _ _) (by decide) (Same.widen (by decide) (tearSector_same _ _)))
          (Same.widen (by decide) (tearSector_same _ _)))))

theorem programPage_same (part : EvrPart) (ok : Bool) (s : State) :
    Same [.boot, .norMem, .norBanks, .nor, .cfg, .evr, .ksc, .evs0, .evs1, .free] s (programPage part ok s) := by
  unfold programPage
  exact Same.ite (Same.refl _ _)
    (Same.ite
      (Same.call (noteSigned_same _ _) (by decide)
        (Same.call (bumpGen_same _ _) (by decide)
          (Same.call (setLedger_same _ _ _) (by decide)
            (Same.ite (Same.widen (by decide) (openSector_same _ _)) (Same.refl _ _)))))
      (Same.call (failPage_same _ _) (by decide)
        (Same.ite (Same.widen (by decide) (openSector_same _ _)) (Same.refl _ _))))

theorem drainQueue_same (part : EvrPart) : ∀ (n : Nat) (s : State),
    Same [.boot, .norMem, .norBanks, .nor, .cfg, .evr, .ksc, .evs0, .evs1, .free] s (drainQueue part n s)
  | 0, _ => Same.refl _ _
  | n + 1, _ => Same.trans (Same.widen (by decide) (programPage_same _ _ _)) (drainQueue_same part n _)

theorem writeOut_same (part : EvrPart) (ok : Bool) (s : State) :
    Same [.boot, .norMem, .norBanks, .nor, .cfg, .evr, .ksc, .evs0, .evs1, .free] s (writeOut part ok s) := by
  unfold writeOut
  exact Same.call (drainQueue_same _ _ _) (by decide)
    (Same.ite (Same.refl _ _) (Same.widen (by decide) (programPage_same _ _ _)))

theorem foundTear_same (part : EvrPart) (torn : Bool) (s : State) :
    Same [.boot, .evr, .ksc, .evs0, .evs1, .free] s (foundTear part torn s) := by
  unfold foundTear
  exact Same.ite (Same.widen (by decide) (tearSector_same _ _)) (Same.refl _ _)

theorem drainExcess_same : ∀ (n : Nat) (s : State), Same [.boot, .norMem, .norBanks, .nor, .cfg, .evr, .ksc,
    .evs0, .evs1, .free] s (drainExcess n s)
  | 0, s => Same.refl _ _
  | n + 1, s => by
    unfold drainExcess
    exact Same.ite (Same.trans (Same.widen (by decide) (programPage_same _ _ _)) (drainExcess_same n _)) (Same.refl
    _ _)

theorem evrAck_same (t : Tag) (part : BitVec 2) (seq : W32) (hash : BitVec 128) (ok : Bool) (s : State) :
    Same [.boot, .norMem, .norBanks, .nor, .cfg, .evr, .fns, .nvm, .ksc, .evs0, .evs1, .free, .out] s (evrAck t part
    seq hash ok s) := by
  unfold evrAck
  try dsimp only
  split
  · exact (Same.widen (by decide) (finish_same _ _ _))
  · exact (Same.ite (Same.widen (by decide) (finish_same _ _ _))
      (Same.ite (Same.widen (by decide) (finish_same _ _ _)) (by
        try dsimp only
        split
        · exact (Same.call (finish_same _ _ _) (by decide) (Same.widen (by decide) (event_same _ _ _ _)))
        · exact (Same.ite
            (Same.call (finish_same _ _ _) (by decide)
              (Same.call (writeOut_same _ _ _) (by decide)
                (Same.call (formRec_same _ _ _ _ _) (by decide)
                  (Same.ite
                    (Same.call (writeOut_same _ _ _) (by decide) (Same.widen (by decide) (setLedger_same _ _ _)))
                    (Same.widen (by decide) (setLedger_same _ _ _))))))
            (Same.call (finish_same _ _ _) (by decide) (Same.widen (by decide) (event_same _ _ _ _)))))))

theorem evrRead_same (t : Tag) (part : BitVec 2) (start : W32) (count : BitVec 14) (s : State) :
    Same [.fns, .nvm, .ksc, .evs0, .evs1, .out] s (evrRead t part start count s) := by
  unfold evrRead
  try dsimp only
  split
  · exact (Same.widen (by decide) (finish_same _ _ _))
  · exact (Same.ite (Same.widen (by decide) (finish_same _ _ _))
      (Same.ite (Same.widen (by decide) (finish_same _ _ _))
        (Same.ite (Same.widen (by decide) (finish_same _ _ _)) (Same.widen (by decide) (finishData_same _ _ _)))))

theorem evrReset_same (s : State) :
    Same [.evr] s (evrReset s) := by
  unfold evrReset
  exact Same.put (Same.refl _ _) rfl

theorem ledgerFirst_same (b : Pf) (s : State) :
    Same [.boot, .norMem, .norBanks, .nor, .cfg, .evr, .ksc, .evs0, .evs1, .free] s (ledgerFirst b s) := by
  unfold ledgerFirst
  exact Same.ite (Same.widen (by decide) (drainQueue_same _ _ _)) (Same.refl _ _)

theorem execIaProgram_ends (page : Nat) (len : W32) (first : Nat) (words : List W32) (sent : Nat) (s : State) :
    Ends [.boot, .norMem, .norOps, .norBanks, .nor, .cfg, .evr, .ksc, .evs0, .evs1, .free] s (execIaProgram page len
    first words sent s) := by
  unfold execIaProgram
  exact Ends.next (Same.call (norCycles_same _ _ _) (by decide) (Same.widen (by decide) (ledgerFirst_same _ _)))

theorem execIaResume_ends (bank : Pf) (s : State) :
    Ends [.boot, .norMem, .norOps, .norBanks, .nor, .cfg, .evr, .ksc, .evs0, .evs1, .free] s (execIaResume bank s) :=
    by
  unfold execIaResume
  exact Ends.next (Same.call (norCycles_same _ _ _) (by decide) (Same.widen (by decide) (ledgerFirst_same _ _)))

theorem formAnchor_same (s : State) :
    Same [.evr, .free] s (formAnchor s) := by
  unfold formAnchor
  exact Same.widen (by decide) (formRec_same _ _ _ _ _)

theorem formCert_same (c : Nat) (b : Bytes) (s : State) :
    Same [.evr, .free] s (formCert c b s) := by
  unfold formCert
  exact Same.fold (fun _ _ => (Same.widen (by decide) (formRec_same _ _ _ _ _))) _ (Same.refl _ _)

theorem formCertIf_same (due : Bool) (c : Nat) (b : Bytes) (s : State) :
    Same [.evr, .free] s (formCertIf due c b s) := by
  unfold formCertIf
  exact Same.ite (Same.widen (by decide) (formCert_same _ _ _)) (Same.refl _ _)

theorem formCerts_same (s : State) :
    Same [.evr, .free] s (formCerts s) := by
  unfold formCerts
  exact Same.call (formCertIf_same _ _ _ _) (by decide)
    (Same.call (formCertIf_same _ _ _ _) (by decide) (Same.widen (by decide) (formCertIf_same _ _ _ _)))

theorem formSignature_same (s : State) :
    Same [.trust, .evr, .free] s (formSignature s) := by
  unfold formSignature
  exact Same.fold (fun _ _ => (Same.widen (by decide) (formRec_same _ _ _ _ _))) _
    (Same.call (signedOnce_same _) (by decide)
      (Same.call (formPlain_same _ _ _ _ _) (by decide)
        (Same.ite (Same.widen (by decide) (formSummaries_same _ _)) (Same.refl _ _))))

theorem signLedger_same (signs : Bool) (s : State) :
    Same [.trust, .evr, .free] s (signLedger signs s) := by
  unfold signLedger
  exact Same.ite
    (Same.call (formSignature_same _) (by decide)
      (Same.ite (Same.refl _ _)
        (Same.call (formAnchor_same _) (by decide) (Same.widen (by decide) (formCerts_same _)))))
    (Same.ite (Same.refl _ _) (Same.call (formAnchor_same _) (by decide) (Same.widen (by decide) (formCerts_same _))))

theorem execLedgerSign_ends (signs : Bool) (s : State) :
    Ends [.trust, .evr, .free] s (execLedgerSign signs s) := by
  unfold execLedgerSign
  exact Ends.next
    (Same.ite (Same.refl _ _)
      (Same.ite (Same.widen (by decide) (signLedger_same _ _)) (Same.put (Same.refl _ _) rfl)))

theorem execEvrPageProgram_ends (part : EvrPart) (ok : Bool) (s : State) :
    Ends [.boot, .norMem, .norBanks, .nor, .cfg, .evr, .ksc, .evs0, .evs1, .free] s (execEvrPageProgram part ok s) :=
    by
  unfold execEvrPageProgram
  exact Ends.next (Same.ite (Same.widen (by decide) (programPage_same _ _ _)) (Same.refl _ _))

theorem execDroppedEventReport_ends (s : State) :
    Ends [.evr, .ksc, .evs0, .evs1, .free] s (execDroppedEventReport s) := by
  unfold execDroppedEventReport
  exact Ends.next
    (Same.ite (Same.call (event_same _ _ _ _) (by decide) (Same.put (Same.refl _ _) rfl)) (Same.refl _ _))

theorem execEvrRead_ends (tag : Tag) (part : BitVec 2) (startSeq : W32) (count : BitVec 14) (s : State) :
    Ends [.fns, .nvm, .mgt, .ksc, .evs0, .evs1, .out] s (execEvrRead tag part startSeq count s) := by
  unfold execEvrRead
  exact Ends.next
    (runAdmin_same _ _ _ _ _ _ _ _ _ (by decide) (fun _ => (Same.widen (by decide) (evrRead_same _ _ _ _ _))))

theorem execEvrAck_ends (tag : Tag) (part : BitVec 2) (seq : W32) (hash : BitVec 128) (ok : Bool) (s : State) :
    Ends [.boot, .norMem, .norBanks, .nor, .cfg, .evr, .fns, .nvm, .mgt, .ksc, .evs0, .evs1, .free, .out] s
    (execEvrAck tag part seq hash ok s) := by
  unfold execEvrAck
  exact Ends.next
    (runAdmin_same _ _ _ _ _ _ _ _ _ (by decide) (fun _ => (Same.widen (by decide) (evrAck_same _ _ _ _ _ _))))

theorem logReply_same (t : Tag) (page : Bytes) (length : Nat) (offset : Nat) (s : State) :
    Same [.fns, .nvm, .ksc, .evs0, .evs1, .out] s (logReply t page length offset s) := by
  unfold logReply
  exact Same.ite (Same.widen (by decide) (finish_same _ _ _))
    (Same.ite (Same.widen (by decide) (finish_same _ _ _)) (Same.widen (by decide) (finishData_same _ _ _)))

theorem execBootLedgerLog_ends (tag : Tag) (length : Nat) (offset : Nat) (s : State) :
    Ends [.fns, .nvm, .mgt, .ksc, .evs0, .evs1, .out] s (execBootLedgerLog tag length offset s) := by
  unfold execBootLedgerLog
  exact Ends.next
    (runAdmin_same _ _ _ _ _ _ _ _ _ (by decide) (fun _ => (Same.widen (by decide) (logReply_same _ _ _ _ _))))

theorem requeue_same (part : EvrPart) (rs : List EvrRec) (s : State) :
    Same [.evr, .free] s (requeue part rs s) := by
  unfold requeue
  exact Same.fold (fun _ _ => (Same.widen (by decide) (appendRec_same _ _ _))) _
    (Same.widen (by decide) (setLedger_same _ _ _))

theorem restoreRecs_same (part : EvrPart) (old : List EvrRec) (s : State) :
    Same [.evr, .free] s (restoreRecs part old s) := by
  unfold restoreRecs
  exact Same.ite (Same.refl _ _) (Same.widen (by decide) (requeue_same _ _ _))

theorem placeRecords_same (boot : List EvrRec) (gen : List EvrRec) (s : State) :
    Same [.boot, .norMem, .norBanks, .nor, .cfg, .trust, .evr, .ksc, .evs0, .evs1, .free] s (placeRecords boot gen s)
    := by
  unfold placeRecords
  exact Same.call (drainExcess_same _ _) (by decide) (by
    try dsimp only
    split
    · exact (Same.call (signLedger_same _ _) (by decide)
        (Same.put
          (Same.fold (fun _ _ => (Same.widen (by decide) (kscEvent_same _ _))) _
            (Same.put
              (Same.call (restoreRecs_same _ _ _) (by decide) (Same.widen (by decide) (restoreRecs_same _ _ _))) rfl))
          rfl))
    · exact (Same.fold (fun _ _ => (Same.widen (by decide) (kscEvent_same _ _))) _
        (Same.put (Same.call (restoreRecs_same _ _ _) (by decide) (Same.widen (by decide) (restoreRecs_same _ _ _)))
          rfl)))

end Sys2Proof.Machine
end

