-- ==== Sys2Proof/Laws/FrameTrust.lean ====
section
/-! SUPPORT. Frames of the operations of Machine/Trust.lean: the fields each of them can change. -/
namespace Sys2Proof.Machine

theorem applyClear_same (t : Tag) (p : EvrPart) (r : EvrRec) (ok : Bool) (s : State) :
    Same [.boot, .norMem, .norBanks, .nor, .cfg, .evr, .fns, .nvm, .ksc, .evs0, .evs1, .free, .out] s (applyClear t p
    r ok s) := by
  unfold applyClear
  exact Same.call (finish_same _ _ _) (by decide)
    (Same.call (bumpGen_same _ _) (by decide)
      (Same.call (setLedger_same _ _ _) (by decide)
        (Same.fold (fun _ _ => (Same.widen (by decide) (eraseUnits_same _ _))) _
          (Same.call (writeOut_same _ _ _) (by decide) (Same.widen (by decide) (formRec_same _ _ _ _ _))))))

theorem setNonce_same (r : Requester) (v : Option (BitVec 256)) (s : State) :
    Same [.trust] s (setNonce r v s) := by
  unfold setNonce
  try dsimp only
  split
  · exact (Same.put (Same.refl _ _) rfl)
  · exact (Same.put (Same.refl _ _) rfl)
  · exact (Same.put (Same.refl _ _) rfl)

theorem giveNonce_same (t : Tag) (r : Requester) (s : State) :
    Same [.trust, .fns, .nvm, .ksc, .evs0, .evs1, .free, .out] s (giveNonce t r s) := by
  unfold giveNonce
  exact Same.call (finishData_same _ _ _) (by decide)
    (Same.call (setNonce_same _ _ _) (by decide) (Same.widen (by decide) (drawn_same _ _)))

theorem withEntropy_same (i : Instr) (served : State → State) (unavailable : State → State) (s : State) {l : List
    Field} (hl : [.trust].all (fun f => l.contains f) = true) (h1 : ∀ t, Same l t (served t)) (h2 : ∀ t, Same l t
    (unavailable t)) :
    Same l s (withEntropy i served unavailable s) := by
  unfold withEntropy
  try dsimp only
  split
  · exact (Same.trans (Same.widen (sub_all (by decide) hl) (drbgUse_same _)) (h1 _))
  · exact (Same.trans (Same.refl _ _) (h2 _))
  · exact (Same.trans (Same.refl _ _) (Same.widen hl (Same.put (Same.refl _ _) rfl)))

theorem setRng_same (r : RngState) (s : State) :
    Same [.trust, .evs0, .evs1] s (setRng r s) := by
  unfold setRng
  exact Same.ite (Same.refl _ _) (Same.call (evsSet_same _ _) (by decide) (Same.put (Same.refl _ _) rfl))

theorem dropSplit_same (t : Tag) (s : State) :
    Same [.trust] s (dropSplit t s) := by
  unfold dropSplit
  exact Same.ite (Same.put (Same.refl _ _) rfl) (Same.refl _ _)

theorem evrClear_same (t : Tag) (p : EvrPart) (upto : W32) (length : W16) (data : Bytes) (sig : DualVerdict) (ok :
    Bool) (s : State) :
    Same [.boot, .norMem, .norBanks, .nor, .cfg, .trust, .evr, .fns, .nvm, .ksc, .evs0, .evs1, .free, .out] s
    (evrClear t p upto length data sig ok s) := by
  unfold evrClear
  try dsimp only
  split
  · exact (Same.refl _ _)
  · exact (by
      try dsimp only
      split
      · exact (Same.widen (by decide) (finish_same _ _ _))
      · exact (Same.ite (Same.widen (by decide) (finish_same _ _ _))
          (Same.ite (Same.call (finish_same _ _ _) (by decide) (Same.widen (by decide) (setNonce_same _ _ _)))
            (Same.ite
              (Same.call (finish_same _ _ _) (by decide)
                (Same.call (event_same _ _ _ _) (by decide) (Same.widen (by decide) (setNonce_same _ _ _))))
              (Same.call (applyClear_same _ _ _ _ _) (by decide) (Same.widen (by decide) (setNonce_same _ _ _)))))))

theorem getNonce_same (t : Tag) (length : W16) (part : BitVec 2) (s : State) :
    Same [.trust, .fns, .nvm, .ksc, .evs0, .evs1, .free, .out] s (getNonce t length part s) := by
  unfold getNonce
  try dsimp only
  split
  · exact (Same.refl _ _)
  · exact (Same.ite
      (Same.call (finish_same _ _ _) (by decide)
        (Same.call (setNonce_same _ _ _) (by decide) (Same.widen (by decide) (dropSplit_same _ _))))
      (Same.trans (Same.call (setNonce_same _ _ _) (by decide) (Same.widen (by decide) (dropSplit_same _ _)))
        (withEntropy_same _ _ _ _ (by decide) (fun _ => (Same.widen (by decide) (giveNonce_same _ _ _)))
          (fun _ => (Same.widen (by decide) (finish_same _ _ _))))))

theorem execGetNonce_ends (tag : Tag) (length : W16) (part : BitVec 2) (s : State) :
    Ends [.trust, .fns, .nvm, .mgt, .ksc, .evs0, .evs1, .free, .out] s (execGetNonce tag length part s) := by
  unfold execGetNonce
  exact Ends.next
    (runAdmin_same _ _ _ _ _ _ _ _ _ (by decide) (fun _ => (Same.widen (by decide) (getNonce_same _ _ _ _))))

theorem ownerCommit_same (t : Tag) (a : OwnerAct) (pub : Bytes) (stored : Bool) (s : State) :
    Same [.boot, .norMem, .norBanks, .nor, .cfg, .evr, .fns, .nvm, .ksc, .evs0, .evs1, .free, .out] s (ownerCommit t a
    pub stored s) := by
  unfold ownerCommit
  exact Same.ite
    (Same.call (finish_same _ _ _) (by decide)
      (Same.call (kscFollow_same _) (by decide)
        (Same.ite (Same.widen (by decide) (storeRecord_same _ _ _))
          (Same.call (event_same _ _ _ _) (by decide)
            (Same.call (evsSet_same _ _) (by decide) (Same.widen (by decide) (storeRecord_same _ _ _)))))))
    (Same.call (finish_same _ _ _) (by decide) (Same.widen (by decide) (storeRecord_same _ _ _)))

theorem ownerCheck_same (t : Tag) (r : Requester) (a : OwnerAct) (data : Bytes) (sig : DualVerdict) (stored : Bool) (s
    : State) :
    Same [.boot, .norMem, .norBanks, .nor, .cfg, .trust, .evr, .fns, .nvm, .ksc, .evs0, .evs1, .free, .out] s
    (ownerCheck t r a data sig stored s) := by
  unfold ownerCheck
  exact Same.ite (Same.widen (by decide) (finish_same _ _ _))
    (Same.ite (Same.call (finish_same _ _ _) (by decide) (Same.widen (by decide) (setNonce_same _ _ _)))
      (Same.ite
        (Same.call (finish_same _ _ _) (by decide)
          (Same.call (event_same _ _ _ _) (by decide) (Same.widen (by decide) (setNonce_same _ _ _))))
        (Same.call (ownerCommit_same _ _ _ _ _) (by decide) (Same.widen (by decide) (setNonce_same _ _ _)))))

theorem ownerCommand_same (t : Tag) (a : OwnerAct) (length : W16) (part : BitVec 2) (data : Bytes) (sig : DualVerdict)
    (stored : Bool) (s : State) :
    Same [.boot, .norMem, .norBanks, .nor, .cfg, .trust, .evr, .fns, .nvm, .ksc, .evs0, .evs1, .free, .out] s
    (ownerCommand t a length part data sig stored s) := by
  unfold ownerCommand
  try dsimp only
  split
  · exact (Same.refl _ _)
  · exact (Same.ite (Same.call (finish_same _ _ _) (by decide) (Same.widen (by decide) (dropSplit_same _ _)))
      (Same.ite
        (Same.ite (Same.call (finish_same _ _ _) (by decide) (Same.widen (by decide) (dropSplit_same _ _)))
          (Same.call (ownerCheck_same _ _ _ _ _ _ _) (by decide) (Same.widen (by decide) (dropSplit_same _ _))))
        (Same.ite
          (Same.call (finish_same _ _ _) (by decide) (Same.put (Same.widen (by decide) (dropSplit_same _ _)) rfl))
          (Same.ite (by
            try dsimp only
            split
            · exact (Same.ite
                (Same.call (ownerCheck_same _ _ _ _ _ _ _) (by decide) (Same.widen (by decide) (dropSplit_same _ _)))
                (Same.call (finish_same _ _ _) (by decide) (Same.widen (by decide) (dropSplit_same _ _))))
            · exact (Same.call (finish_same _ _ _) (by decide) (Same.widen (by decide) (dropSplit_same _ _))))
            (Same.call (finish_same _ _ _) (by decide) (Same.widen (by decide) (dropSplit_same _ _)))))))

theorem execOwnerInstall_ends (tag : Tag) (length : W16) (part : BitVec 2) (data : Bytes) (sig : DualVerdict) (stored
    : Bool) (s : State) :
    Ends [.boot, .norMem, .norBanks, .nor, .cfg, .trust, .evr, .fns, .nvm, .mgt, .ksc, .evs0, .evs1, .free, .out] s
    (execOwnerInstall tag length part data sig stored s) := by
  unfold execOwnerInstall
  exact Ends.next
    (runAdmin_same _ _ _ _ _ _ _ _ _ (by decide)
      (fun _ => (Same.widen (by decide) (ownerCommand_same _ _ _ _ _ _ _ _))))

theorem execOwnerLock_ends (tag : Tag) (length : W16) (part : BitVec 2) (data : Bytes) (sig : DualVerdict) (stored :
    Bool) (s : State) :
    Ends [.boot, .norMem, .norBanks, .nor, .cfg, .trust, .evr, .fns, .nvm, .mgt, .ksc, .evs0, .evs1, .free, .out] s
    (execOwnerLock tag length part data sig stored s) := by
  unfold execOwnerLock
  exact Ends.next
    (runAdmin_same _ _ _ _ _ _ _ _ _ (by decide)
      (fun _ => (Same.widen (by decide) (ownerCommand_same _ _ _ _ _ _ _ _))))

theorem execOwnerUnlock_ends (tag : Tag) (length : W16) (part : BitVec 2) (data : Bytes) (sig : DualVerdict) (stored :
    Bool) (s : State) :
    Ends [.boot, .norMem, .norBanks, .nor, .cfg, .trust, .evr, .fns, .nvm, .mgt, .ksc, .evs0, .evs1, .free, .out] s
    (execOwnerUnlock tag length part data sig stored s) := by
  unfold execOwnerUnlock
  exact Ends.next
    (runAdmin_same _ _ _ _ _ _ _ _ _ (by decide)
      (fun _ => (Same.widen (by decide) (ownerCommand_same _ _ _ _ _ _ _ _))))

theorem execOwnerReplace_ends (tag : Tag) (length : W16) (part : BitVec 2) (data : Bytes) (sig : DualVerdict) (stored
    : Bool) (s : State) :
    Ends [.boot, .norMem, .norBanks, .nor, .cfg, .trust, .evr, .fns, .nvm, .mgt, .ksc, .evs0, .evs1, .free, .out] s
    (execOwnerReplace tag length part data sig stored s) := by
  unfold execOwnerReplace
  exact Ends.next
    (runAdmin_same _ _ _ _ _ _ _ _ _ (by decide)
      (fun _ => (Same.widen (by decide) (ownerCommand_same _ _ _ _ _ _ _ _))))

theorem execOwnerRelease_ends (tag : Tag) (length : W16) (part : BitVec 2) (data : Bytes) (sig : DualVerdict) (stored
    : Bool) (s : State) :
    Ends [.boot, .norMem, .norBanks, .nor, .cfg, .trust, .evr, .fns, .nvm, .mgt, .ksc, .evs0, .evs1, .free, .out] s
    (execOwnerRelease tag length part data sig stored s) := by
  unfold execOwnerRelease
  exact Ends.next
    (runAdmin_same _ _ _ _ _ _ _ _ _ (by decide)
      (fun _ => (Same.widen (by decide) (ownerCommand_same _ _ _ _ _ _ _ _))))

theorem execOwnerKscDisable_ends (tag : Tag) (length : W16) (part : BitVec 2) (data : Bytes) (sig : DualVerdict)
    (stored : Bool) (s : State) :
    Ends [.boot, .norMem, .norBanks, .nor, .cfg, .trust, .evr, .fns, .nvm, .mgt, .ksc, .evs0, .evs1, .free, .out] s
    (execOwnerKscDisable tag length part data sig stored s) := by
  unfold execOwnerKscDisable
  exact Ends.next
    (runAdmin_same _ _ _ _ _ _ _ _ _ (by decide)
      (fun _ => (Same.widen (by decide) (ownerCommand_same _ _ _ _ _ _ _ _))))

theorem execOwnerKscEnable_ends (tag : Tag) (length : W16) (part : BitVec 2) (data : Bytes) (sig : DualVerdict)
    (stored : Bool) (s : State) :
    Ends [.boot, .norMem, .norBanks, .nor, .cfg, .trust, .evr, .fns, .nvm, .mgt, .ksc, .evs0, .evs1, .free, .out] s
    (execOwnerKscEnable tag length part data sig stored s) := by
  unfold execOwnerKscEnable
  exact Ends.next
    (runAdmin_same _ _ _ _ _ _ _ _ _ (by decide)
      (fun _ => (Same.widen (by decide) (ownerCommand_same _ _ _ _ _ _ _ _))))

theorem execSplitPartTimeout_ends (s : State) :
    Ends [.trust] s (execSplitPartTimeout s) := by
  unfold execSplitPartTimeout
  exact Ends.next (whilePowered_same _ _ (by decide) (fun _ => (Same.put (Same.refl _ _) rfl)))

theorem execDrbgReseed_ends (s : State) :
    Ends [.trust] s (execDrbgReseed s) := by
  unfold execDrbgReseed
  exact Ends.next (Same.ite (Same.put (Same.refl _ _) rfl) (Same.refl _ _))

theorem execEvrClear_ends (tag : Tag) (part : BitVec 1) (uptoSeq : W32) (length : W16) (data : Bytes) (sig :
    DualVerdict) (ok : Bool) (s : State) :
    Ends [.boot, .norMem, .norBanks, .nor, .cfg, .trust, .evr, .fns, .nvm, .mgt, .ksc, .evs0, .evs1, .free, .out] s
    (execEvrClear tag part uptoSeq length data sig ok s) := by
  unfold execEvrClear
  exact Ends.next
    (runAdmin_same _ _ _ _ _ _ _ _ _ (by decide) (fun _ => (Same.widen (by decide) (evrClear_same _ _ _ _ _ _ _ _))))

end Sys2Proof.Machine
end

