-- ==== Sys2Proof/Laws/FrameKeys.lean ====
section
/-! SUPPORT. Frames of the operations of Machine/Keys.lean: the fields each of them can change. -/
namespace Sys2Proof.Machine

theorem dropWrite_same (t : Tag) (s : State) :
    Same [.ftlData] s (dropWrite t s) := by
  unfold dropWrite
  exact Same.put (Same.refl _ _) rfl

theorem abortBySlot_same (i : Nat) (s : State) :
    Same [.fns, .nvm, .ftlData, .mqt, .ksc, .evs0, .evs1, .out] s (abortBySlot i s) := by
  unfold abortBySlot
  exact Same.fold
    (fun _ _ =>
      (Same.fold
        (fun _ _ => (Same.call (finish_same _ _ _) (by decide) (Same.widen (by decide) (dropWrite_same _ _)))) _
        (Same.refl _ _))) _ (Same.put (Same.refl _ _) rfl)

theorem storeKeys_same (why : KeyWhy) (i : Nat) (prev : KeySlot) (s : State) :
    Same [.trust] s (storeKeys why i prev s) := by
  unfold storeKeys
  exact Same.put (Same.refl _ _) rfl

theorem setKey_same (i : Nat) (k : KeySlot) (s : State) :
    Same [.tabKeys] s (setKey i k s) := by
  unfold setKey
  exact Same.put (Same.refl _ _) rfl

theorem ustSlot_same (i : Nat) (s : State) :
    Same [.nvm] s (ustSlot i s) := by
  unfold ustSlot
  try dsimp only
  split
  · exact (Same.widen (by decide) (ustChange_same _ _))
  · exact (Same.refl _ _)

theorem loadKey_same (i : Nat) (s : State) :
    Same [.nvm, .tabKeys, .free] s (loadKey i s) := by
  unfold loadKey
  exact Same.ite
    (Same.call (ustSlot_same _ _) (by decide)
      (Same.call (setKey_same _ _ _) (by decide) (Same.widen (by decide) (drawn_same _ _))))
    (Same.call (setKey_same _ _ _) (by decide) (Same.widen (by decide) (drawn_same _ _)))

theorem runGenerate_same (pf : Pf) (i : Nat) (s : State) :
    Same [.trust, .nvm, .tabKeys, .free] s (runGenerate pf i s) := by
  unfold runGenerate
  exact Same.ite (Same.refl _ _)
    (Same.call (storeKeys_same _ _ _ _) (by decide) (Same.widen (by decide) (loadKey_same _ _)))

theorem setKs_same (pf : Pf) (k : KsRegs) (s : State) :
    Same [.trust] s (setKs pf k s) := by
  unfold setKs
  try dsimp only
  split
  · exact (Same.put (Same.refl _ _) rfl)
  · exact (Same.put (Same.refl _ _) rfl)

theorem ksResult_same (pf : Pf) (r : BitVec 3) (s : State) :
    Same [.trust, .evs0, .evs1] s (ksResult pf r s) := by
  unfold ksResult
  exact Same.call (evsSet_same _ _) (by decide) (Same.widen (by decide) (setKs_same _ _ _))

theorem runErase_same (pf : Pf) (i : Nat) (s : State) :
    Same [.trust, .fns, .nvm, .tabKeys, .ftlData, .mqt, .ksc, .evs0, .evs1, .out] s (runErase pf i s) := by
  unfold runErase
  exact Same.call (storeKeys_same _ _ _ _) (by decide)
    (Same.call (ustSlot_same _ _) (by decide)
      (Same.call (setKey_same _ _ _) (by decide) (Same.widen (by decide) (abortBySlot_same _ _))))

theorem ksGo_same (pf : Pf) (i : BitVec 11) (op : BitVec 3) (s : State) :
    Same [.trust, .fns, .nvm, .tabKeys, .ftlData, .mqt, .ksc, .evs0, .evs1, .free, .out] s (ksGo pf i op s) := by
  unfold ksGo
  exact Same.ite (Same.widen (by decide) (setKs_same _ _ _))
    (Same.ite (Same.call (ksResult_same _ _ _) (by decide) (Same.widen (by decide) (setKs_same _ _ _)))
      (Same.ite (Same.call (ksResult_same _ _ _) (by decide) (Same.widen (by decide) (setKs_same _ _ _)))
        (Same.ite (Same.call (ksResult_same _ _ _) (by decide) (Same.widen (by decide) (setKs_same _ _ _)))
          (Same.ite
            (Same.ite (Same.call (ksResult_same _ _ _) (by decide) (Same.widen (by decide) (setKs_same _ _ _)))
              (Same.trans (Same.widen (by decide) (setKs_same _ _ _))
                (withEntropy_same _ _ _ _ (by decide) (fun _ => (Same.widen (by decide) (runGenerate_same _ _ _)))
                  (fun _ => (Same.widen (by decide) (ksResult_same _ _ _))))))
            (Same.ite (Same.call (ksResult_same _ _ _) (by decide) (Same.widen (by decide) (setKs_same _ _ _)))
              (Same.call (runErase_same _ _ _) (by decide) (Same.widen (by decide) (setKs_same _ _ _))))))))

theorem execKeySlotGenerate_ends (pf : Pf) (slot : BitVec 11) (s : State) :
    Ends [.trust, .fns, .nvm, .tabKeys, .ftlData, .mqt, .ksc, .evs0, .evs1, .free, .out] s (execKeySlotGenerate pf
    slot s) := by
  unfold execKeySlotGenerate
  exact Ends.next (Same.ite (Same.widen (by decide) (ksGo_same _ _ _ _)) (Same.refl _ _))

theorem execKeySlotErase_ends (pf : Pf) (slot : BitVec 11) (s : State) :
    Ends [.trust, .fns, .nvm, .tabKeys, .ftlData, .mqt, .ksc, .evs0, .evs1, .free, .out] s (execKeySlotErase pf slot
    s) := by
  unfold execKeySlotErase
  exact Ends.next (Same.ite (Same.widen (by decide) (ksGo_same _ _ _ _)) (Same.refl _ _))

theorem resumeGenerate_same (i : Nat) (s : State) :
    Same [.trust, .nvm, .tabKeys, .evs0, .evs1, .free] s (resumeGenerate i s) := by
  unfold resumeGenerate
  exact Same.ite
    (Same.trans
      (Same.ite
        (withEntropy_same _ _ _ _ (by decide) (fun _ => (Same.widen (by decide) (runGenerate_same _ _ _)))
          (fun _ => (Same.widen (by decide) (ksResult_same _ _ _)))) (Same.refl _ _))
      (withEntropy_same _ _ _ _ (by decide) (fun _ => (Same.widen (by decide) (runGenerate_same _ _ _)))
        (fun _ => (Same.widen (by decide) (ksResult_same _ _ _)))))
    (Same.ite
      (withEntropy_same _ _ _ _ (by decide) (fun _ => (Same.widen (by decide) (runGenerate_same _ _ _)))
        (fun _ => (Same.widen (by decide) (ksResult_same _ _ _)))) (Same.refl _ _))

theorem execOldKeyZeroise_ends (slot : Nat) (s : State) :
    Ends [.trust, .nvm, .tabKeys, .evs0, .evs1, .free] s (execOldKeyZeroise slot s) := by
  unfold execOldKeyZeroise
  exact Ends.next (by
    try dsimp only
    split
    · exact (Same.ite (Same.refl _ _)
        (Same.call (resumeGenerate_same _ _) (by decide) (Same.widen (by decide) (setKey_same _ _ _))))
    · exact (Same.refl _ _))

theorem keyStoreDone_same (k : KeyStore) (s : State) :
    Same [.trust, .evs0, .evs1] s (keyStoreDone k s) := by
  unfold keyStoreDone
  try dsimp only
  split
  · exact (Same.widen (by decide) (ksResult_same _ _ _))
  · exact (Same.widen (by decide) (ksResult_same _ _ _))
  · exact (Same.refl _ _)

theorem keyStoreFailed_same (k : KeyStore) (s : State) :
    Same [.trust, .evr, .nvm, .tabKeys, .ksc, .evs0, .evs1, .free] s (keyStoreFailed k s) := by
  unfold keyStoreFailed
  try dsimp only
  split
  · exact (Same.call (ksResult_same _ _ _) (by decide)
      (Same.call (event_same _ _ _ _) (by decide)
        (Same.call (ustSlot_same _ _) (by decide) (Same.widen (by decide) (setKey_same _ _ _)))))
  · exact (Same.call (ksResult_same _ _ _) (by decide)
      (Same.call (event_same _ _ _ _) (by decide)
        (Same.call (ustSlot_same _ _) (by decide) (Same.widen (by decide) (setKey_same _ _ _)))))
  · exact (Same.call (event_same _ _ _ _) (by decide) (Same.widen (by decide) (setKey_same _ _ _)))
  · exact (Same.call (event_same _ _ _ _) (by decide) (Same.put (Same.refl _ _) rfl))

theorem execKeyTableStoreCommit_ends (ok : Bool) (s : State) :
    Ends [.trust, .evr, .nvm, .tabKeys, .media, .ksc, .evs0, .evs1, .free] s (execKeyTableStoreCommit ok s) := by
  unfold execKeyTableStoreCommit
  exact Ends.next
    (Same.ite (Same.refl _ _)
      (Same.ite
        (Same.fold (fun _ _ => (Same.widen (by decide) (keyStoreDone_same _ _))) _
          (Same.call (replaceStores_same _ _ _) (by decide) (Same.put (Same.refl _ _) rfl)))
        (Same.fold (fun _ _ => (Same.widen (by decide) (keyStoreFailed_same _ _))) _ (Same.put (Same.refl _ _) rfl))))

theorem writeKsplit_same (pf : Pf) (v : W32) (s : State) :
    Same [.trust, .nvm, .tabKeys] s (writeKsplit pf v s) := by
  unfold writeKsplit
  exact Same.ite (Same.refl _ _)
    (Same.ite (Same.put (Same.refl _ _) rfl)
      (Same.ite (Same.put (Same.refl _ _) rfl)
        (Same.ite (Same.put (Same.refl _ _) rfl)
          (Same.call (storeKeys_same _ _ _ _) (by decide) (Same.put (Same.put (Same.refl _ _) rfl) rfl)))))

theorem execKsplitWrite_ends (pf : Pf) (value : W32) (s : State) :
    Ends [.trust, .nvm, .tabKeys] s (execKsplitWrite pf value s) := by
  unfold execKsplitWrite
  exact Ends.next (Same.ite (Same.widen (by decide) (writeKsplit_same _ _ _)) (Same.refl _ _))

end Sys2Proof.Machine
end

