-- ==== Sys2Proof/Laws/FrameMap.lean ====
section
/-! SUPPORT. Frames of the operations of Machine/Map.lean: the fields each of them can change. -/
namespace Sys2Proof.Machine

theorem setDie_same (d : Nat) (x : Die) (s : State) :
    Same [.flash] s (setDie d x s) := by
  unfold setDie
  exact Same.put (Same.refl _ _) rfl

theorem setLine_same (k : Nat) (l : Line) (s : State) :
    Same [.ftlData] s (setLine k l s) := by
  unfold setLine
  exact Same.put (Same.refl _ _) rfl

theorem markDelta_same (s : State) :
    Same [.hold] s (markDelta s) := by
  unfold markDelta
  exact Same.put (Same.refl _ _) rfl

theorem setBand_same (b : Nat) (x : Band) (s : State) :
    Same [.tabDies] s (setBand b x s) := by
  unfold setBand
  exact Same.put (Same.refl _ _) rfl

theorem nextSeq_same (s : State) :
    Same [.tab] s (nextSeq s) := by
  unfold nextSeq
  exact Same.put (Same.refl _ _) rfl

theorem dirtyIu_same (k : Nat) (s : State) :
    Same [.mqt] s (dirtyIu k s) := by
  unfold dirtyIu
  exact Same.put (Same.refl _ _) rfl

theorem setMap_same (k : Nat) (e : BitVec 40) (seq : Nat) (s : State) :
    Same [.tabMap] s (setMap k e seq s) := by
  unfold setMap
  exact Same.put (Same.refl _ _) rfl

theorem specialIu_same (k : Nat) (e : BitVec 40) (s : State) :
    Same [.tabMap, .tab, .ftlData, .hold, .mqt] s (specialIu k e s) := by
  unfold specialIu
  exact Same.call (markDelta_same _) (by decide)
    (Same.call (dirtyIu_same _ _) (by decide)
      (Same.call (setMap_same _ _ _ _) (by decide) (Same.put (Same.widen (by decide) (nextSeq_same _)) rfl)))

theorem noteLimit_same (old : Nat) (s : State) :
    Same [.evs0, .evs1] s (noteLimit old s) := by
  unfold noteLimit
  exact Same.widen (by decide) (evsSetIf_same _ _ _)

theorem dropNsData_same (nsid : Nat) (s : State) :
    Same [.tabMap, .ftlData] s (dropNsData nsid s) := by
  unfold dropNsData
  exact Same.put (Same.refl _ _) rfl

theorem setDieTab_same (d : Nat) (x : DieTab) (s : State) :
    Same [.tabDies] s (setDieTab d x s) := by
  unfold setDieTab
  exact Same.put (Same.refl _ _) rfl

theorem setChan_same (c : Nat) (x : Chan) (s : State) :
    Same [.flash, .evs0, .evs1] s (setChan c x s) := by
  unfold setChan
  exact Same.call (evsSetIf_same _ _ _) (by decide) (Same.put (Same.refl _ _) rfl)

theorem countDegraded_same (e : BitVec 40) (s : State) :
    Same [.ftl, .flash, .evs0, .evs1] s (countDegraded e s) := by
  unfold countDegraded
  exact Same.ite (Same.call (setChan_same _ _ _) (by decide) (Same.put (Same.refl _ _) rfl))
    (Same.put (Same.refl _ _) rfl)

theorem setGrp_same (g : Nat) (x : Grp) (s : State) :
    Same [.tabDies, .evs0, .evs1] s (setGrp g x s) := by
  unfold setGrp
  exact Same.call (evsSetIf_same _ _ _) (by decide) (Same.put (Same.refl _ _) rfl)

end Sys2Proof.Machine
end

