-- ==== Sys2Proof/Laws/FrameSessions.lean ====
section
/-! SUPPORT. Frames of the operations of Machine/Sessions.lean: the fields each of them can change. -/
namespace Sys2Proof.Machine

theorem mqChanged_same (id : Nat) (s : State) :
    Same [.evs0, .evs1] s (mqChanged id s) := by
  unfold mqChanged
  exact Same.widen (by decide) (evsSetIf_same _ _ _)

theorem dropSess_same (x : MqSess) (s : State) :
    Same [.mqt, .evs0, .evs1] s (dropSess x s) := by
  unfold dropSess
  exact Same.call (mqChanged_same _ _) (by decide) (Same.put (Same.refl _ _) rfl)

theorem mqEvent_same (step : Nat) (unit : Nat) (digest : Digest) (s : State) :
    Same [.evr, .ksc, .evs0, .evs1, .free] s (mqEvent step unit digest s) := by
  unfold mqEvent
  exact Same.widen (by decide) (eventWith_same _ _ _ _ _)

theorem eraseSlotOf_same (i : Nat) (s : State) :
    Same [.trust, .tabKeys] s (eraseSlotOf i s) := by
  unfold eraseSlotOf
  exact Same.call (storeKeys_same _ _ _ _) (by decide) (Same.widen (by decide) (setKey_same _ _ _))

theorem unfreeze_same (f : Func) (s : State) :
    Same [.fns, .nvm, .mqt] s (unfreeze f s) := by
  unfold unfreeze
  exact Same.call (ustChange_same _ _) (by decide)
    (Same.call (modFn_same _ _ _) (by decide) (Same.put (Same.refl _ _) rfl))

theorem removeNs_same (nsid : Nat) (s : State) :
    Same [.nvm, .tabMap, .tabNss, .ftlData, .hold] s (removeNs nsid s) := by
  unfold removeNs
  exact Same.call (ustChange_same _ _) (by decide)
    (Same.call (markDelta_same _) (by decide)
      (Same.call (dropNsData_same _ _) (by decide) (Same.put (Same.refl _ _) rfl)))

theorem discardImport_same (x : MqSess) (s : State) :
    Same [.trust, .nvm, .tabMap, .tabNss, .tabKeys, .ftlData, .hold, .mqt, .evs0, .evs1] s (discardImport x s) := by
  unfold discardImport
  exact Same.call (dropSess_same _ _) (by decide)
    (Same.fold (fun _ _ => (Same.widen (by decide) (eraseSlotOf_same _ _))) _
      (Same.fold (fun _ _ => (Same.widen (by decide) (removeNs_same _ _))) _ (Same.refl _ _)))

theorem resetSession_same (x : MqSess) (s : State) :
    Same [.trust, .evr, .fns, .nvm, .tabMap, .tabNss, .tabKeys, .ftlData, .hold, .mqt, .ksc, .evs0, .evs1, .free] s
    (resetSession x s) := by
  unfold resetSession
  exact Same.ite
    (Same.call (mqEvent_same _ _ _ _) (by decide)
      (Same.call (dropSess_same _ _) (by decide)
        (Same.ite (Same.widen (by decide) (unfreeze_same _ _)) (Same.refl _ _))))
    (Same.ite
      (Same.ite (Same.refl _ _)
        (Same.call (mqEvent_same _ _ _ _) (by decide)
          (Same.call (mqChanged_same _ _) (by decide) (Same.put (Same.refl _ _) rfl))))
      (Same.call (mqEvent_same _ _ _ _) (by decide) (Same.widen (by decide) (discardImport_same _ _))))

theorem resetSessions_same (p : Func → Bool) (s : State) :
    Same [.trust, .evr, .fns, .nvm, .tabMap, .tabNss, .tabKeys, .ftlData, .hold, .mqt, .ksc, .evs0, .evs1, .free] s
    (resetSessions p s) := by
  unfold resetSessions
  exact Same.put (Same.fold (fun _ _ => (Same.widen (by decide) (resetSession_same _ _))) _ (Same.refl _ _)) rfl

theorem offlineImports_same (s : State) :
    Same [.trust, .evr, .nvm, .tabMap, .tabNss, .tabKeys, .ftlData, .hold, .mqt, .ksc, .evs0, .evs1, .free] s
    (offlineImports s) := by
  unfold offlineImports
  exact Same.fold
    (fun _ _ => (Same.call (mqEvent_same _ _ _ _) (by decide) (Same.widen (by decide) (discardImport_same _ _)))) _
    (Same.refl _ _)

theorem setSess_same (x : MqSess) (s : State) :
    Same [.mqt] s (setSess x s) := by
  unfold setSess
  exact Same.put (Same.refl _ _) rfl

end Sys2Proof.Machine
end

