-- ==== Sys2Proof/Laws/FrameBands.lean ====
section
/-! SUPPORT. Frames of the operations of Machine/Bands.lean: the fields each of them can change. -/
namespace Sys2Proof.Machine

theorem clearOps_same (b : Nat) (r : Nat) (x : Band) (s : State) :
    Same [.flash] s (clearOps b r x s) := by
  unfold clearOps
  exact Same.fold (fun _ _ => (Same.widen (by decide) (setDie_same _ _ _))) _ (Same.refl _ _)

theorem retireRows_same (s : State) :
    Same [.ftlData] s (retireRows s) := by
  unfold retireRows
  exact Same.put (Same.refl _ _) rfl

theorem closeBand_same (b : Nat) (s : State) :
    Same [.tabDies, .tab, .hold] s (closeBand b s) := by
  unfold closeBand
  try dsimp only
  split
  · exact (Same.refl _ _)
  · exact (Same.ite (Same.refl _ _)
      (Same.call (markDelta_same _) (by decide) (Same.put (Same.widen (by decide) (setBand_same _ _ _)) rfl)))

theorem abandonRow_same (b : Nat) (r : Nat) (s : State) :
    Same [.tabDies, .tab, .ftlData, .flash, .hold] s (abandonRow b r s) := by
  unfold abandonRow
  try dsimp only
  split
  · exact (Same.call (retireRows_same _) (by decide)
      (Same.call (closeBand_same _ _) (by decide)
        (Same.ite (Same.call (clearOps_same _ _ _ _) (by decide) (Same.put (Same.refl _ _) rfl))
          (Same.fold
            (fun _ _ => (by
              try dsimp only
              split
              · exact (Same.ite (Same.widen (by decide) (setLine_same _ _ _)) (Same.refl _ _))
              · exact (Same.refl _ _))) _
            (Same.call (clearOps_same _ _ _ _) (by decide) (Same.put (Same.refl _ _) rfl))))))
  · exact (Same.refl _ _)

theorem enterReadOnly_same (g : Nat) (s : State) :
    Same [.evr, .nvm, .tab, .hold, .mgt, .ksc, .evs0, .evs1, .free, .out] s (enterReadOnly g s) := by
  unfold enterReadOnly
  exact Same.ite (Same.refl _ _)
    (Same.call (event_same _ _ _ _) (by decide)
      (Same.call (hscMark_same _ _) (by decide)
        (Same.call (evsSet_same _ _) (by decide)
          (Same.call (ustChange_same _ _) (by decide)
            (Same.call (markDelta_same _) (by decide) (Same.put (Same.refl _ _) rfl))))))

theorem spareCheck_same (s : State) :
    Same [.evr, .nvm, .tab, .hold, .mgt, .ksc, .evs0, .evs1, .free, .out] s (spareCheck s) := by
  unfold spareCheck
  try dsimp only
  split
  · exact (Same.widen (by decide) (enterReadOnly_same _ _))
  · exact (Same.refl _ _)

theorem noteFree_same (g : Nat) (s : State) :
    Same [.evr, .ftl, .ksc, .evs0, .evs1, .free] s (noteFree g s) := by
  unfold noteFree
  exact Same.ite
    (Same.ite (Same.refl _ _)
      (Same.call (event_same _ _ _ _) (by decide)
        (Same.call (evsSet_same _ _) (by decide) (Same.put (Same.refl _ _) rfl))))
    (Same.ite (Same.put (Same.refl _ _) rfl) (Same.refl _ _))

theorem newBand_same {g gen : Nat} {s : State} {x : Nat × State} (h : newBand g gen s = some x) :
    Same [.evr, .nvm, .tabDies, .tab, .ftl, .hold, .mgt, .ksc, .evs0, .evs1, .free, .out] s x.2 := by
  unfold newBand at h
  split at h
  · cases h
  · split at h
    · cases h
    · have e := Option.some.inj h
      subst e
      exact Same.call (spareCheck_same _) (by decide) (Same.call (noteFree_same _ _) (by decide)
        (Same.call (markDelta_same _) (by decide) (Same.widen (by decide) (setBand_same _ _ _))))

theorem bandFor_same {g gen : Nat} {s : State} {x : Nat × State} (h : bandFor g gen s = some x) :
    Same [.evr, .nvm, .tabDies, .tab, .ftl, .hold, .mgt, .ksc, .evs0, .evs1, .free, .out] s x.2 := by
  unfold bandFor at h
  split at h
  · cases h
    exact Same.refl _ _
  · exact newBand_same h

theorem commitItem_same (src : Option Nat) (i : Nat × BitVec 40 × IuVer) (s : State) :
    Same [.tabMap, .media, .ftl, .hold] s (commitItem src i s) := by
  unfold commitItem
  exact Same.ite
    (Same.call (markDelta_same _) (by decide)
      (Same.call (setMap_same _ _ _ _) (by decide) (Same.put (Same.refl _ _) rfl))) (Same.put (Same.refl _ _) rfl)

theorem wtDone_same (w : WtItem) (s : State) :
    Same [.fns, .nvm, .ksc, .evs0, .evs1, .out] s (wtDone w s) := by
  unfold wtDone
  try dsimp only
  split
  · exact (Same.refl _ _)
  · exact (Same.ite (Same.refl _ _) (Same.widen (by decide) (complete_same _ _ _ _)))

theorem releaseWt_same (k : Nat) (seq : Nat) (s : State) :
    Same [.fns, .nvm, .ftlData, .ksc, .evs0, .evs1, .out] s (releaseWt k seq s) := by
  unfold releaseWt
  exact Same.fold (fun _ _ => (Same.widen (by decide) (wtDone_same _ _))) _ (Same.put (Same.refl _ _) rfl)

theorem releaseLine_same (k : Nat) (seq : Nat) (s : State) :
    Same [.ftlData] s (releaseLine k seq s) := by
  unfold releaseLine
  try dsimp only
  split
  · exact (Same.ite (Same.put (Same.refl _ _) rfl) (Same.refl _ _))
  · exact (Same.refl _ _)

theorem queueOp_same (d : Nat) (o : DieOp) (s : State) :
    Same [.flash] s (queueOp d o s) := by
  unfold queueOp
  exact Same.ite (Same.widen (by decide) (setDie_same _ _ _)) (Same.refl _ _)

theorem dropStripes_same (b : Nat) (s : State) :
    Same [.media] s (dropStripes b s) := by
  unfold dropStripes
  exact Same.put (Same.refl _ _) rfl

theorem eraseBand_same (b : Nat) (x : Band) (s : State) :
    Same [.tabDies, .media, .flash] s (eraseBand b x s) := by
  unfold eraseBand
  exact Same.fold
    (fun _ _ => (Same.call (queueOp_same _ _ _) (by decide) (Same.widen (by decide) (setDieTab_same _ _ _)))) _
    (Same.widen (by decide) (dropStripes_same _ _))

theorem freeBand_same (b : Nat) (s : State) :
    Same [.evr, .tabDies, .media, .ftl, .flash, .hold, .ksc, .evs0, .evs1, .free] s (freeBand b s) := by
  unfold freeBand
  try dsimp only
  split
  · exact (Same.refl _ _)
  · exact (Same.call (noteFree_same _ _) (by decide)
      (Same.call (markDelta_same _) (by decide)
        (Same.call (eraseBand_same _ _ _) (by decide) (Same.put (Same.refl _ _) rfl))))

theorem drainCheck_same (b : Nat) (s : State) :
    Same [.evr, .tabDies, .media, .ftl, .flash, .hold, .ksc, .evs0, .evs1, .free] s (drainCheck b s) := by
  unfold drainCheck
  try dsimp only
  split
  · exact (Same.refl _ _)
  · exact (Same.ite (Same.widen (by decide) (freeBand_same _ _)) (Same.refl _ _))

theorem commitRow_same (b : Nat) (r : Nat) (s : State) :
    Same [.evr, .fns, .nvm, .tabMap, .tabDies, .media, .ftlData, .ftl, .flash, .hold, .ksc, .evs0, .evs1, .free, .out]
    s (commitRow b r s) := by
  unfold commitRow
  try dsimp only
  split
  · exact (by
      try dsimp only
      split
      · exact (Same.call (drainCheck_same _ _) (by decide)
          (Same.call (retireRows_same _) (by decide)
            (Same.ite
              (Same.fold (fun _ _ => (Same.widen (by decide) (commitItem_same _ _ _))) _
                (Same.call (clearOps_same _ _ _ _) (by decide) (Same.put (Same.refl _ _) rfl)))
              (Same.fold
                (fun _ _ =>
                  (Same.call (releaseWt_same _ _ _) (by decide) (Same.widen (by decide) (releaseLine_same _ _ _))))
                _
                (Same.fold (fun _ _ => (Same.widen (by decide) (commitItem_same _ _ _))) _
                  (Same.call (clearOps_same _ _ _ _) (by decide) (Same.put (Same.refl _ _) rfl)))))))
      · exact (Same.call (retireRows_same _) (by decide)
          (Same.ite
            (Same.fold (fun _ _ => (Same.widen (by decide) (commitItem_same _ _ _))) _
              (Same.call (clearOps_same _ _ _ _) (by decide) (Same.put (Same.refl _ _) rfl)))
            (Same.fold
              (fun _ _ =>
                (Same.call (releaseWt_same _ _ _) (by decide) (Same.widen (by decide) (releaseLine_same _ _ _)))) _
              (Same.fold (fun _ _ => (Same.widen (by decide) (commitItem_same _ _ _))) _
                (Same.call (clearOps_same _ _ _ _) (by decide) (Same.put (Same.refl _ _) rfl)))))))
  · exact (Same.refl _ _)

theorem refreshMark_same (s : State) :
    Same [.ftl] s (refreshMark s) := by
  unfold refreshMark
  exact Same.put (Same.refl _ _) rfl

theorem refreshCandidate_same (d : Nat) (b : Nat) (s : State) :
    Same [.evr, .ftl, .ksc, .evs0, .evs1, .free] s (refreshCandidate d b s) := by
  unfold refreshCandidate
  exact Same.ite (Same.refl _ _)
    (Same.ite
      (Same.call (event_same _ _ _ _) (by decide)
        (Same.call (evsSet_same _ _) (by decide) (Same.put (Same.refl _ _) rfl)))
      (Same.call (refreshMark_same _) (by decide) (Same.put (Same.refl _ _) rfl)))

theorem packRow_same {g gen : Nat} {src : Option Nat} {kind : ProgSrc} {items : List (Nat × IuVer)} {s : State}
    {x : State × List (Nat × IuVer)} (h : packRow g gen src kind items s = some x) : Same [.evr, .nvm, .tabDies,
    .tab, .ftlData, .ftl, .flash, .hold, .mgt, .ksc, .evs0, .evs1, .free, .out] s x.1 := by
  unfold packRow at h
  split at h
  · cases h
  · split at h
    · cases h
    · rename_i b t hb
      split at h
      · cases h
      · cases h
        exact Same.fold (fun _ _ => Same.widen (by decide) (queueOp_same _ _ _)) _
          (Same.ite (Same.call (closeBand_same _ _) (by decide) (Same.call (setBand_same _ _ _) (by decide)
            (Same.via (fun y => { y with ftl.rows := y.ftl.rows ++ [_], tab.writeSeq := y.tab.writeSeq + _ }) (fun
            _ => Same.put (Same.refl _ _) rfl)
              (Same.ite (Same.call (drawn_same _ _) (by decide) (Same.widen (by decide) (bandFor_same hb)))
                (Same.widen (by decide) (bandFor_same hb))))))
          (Same.call (setBand_same _ _ _) (by decide)
            (Same.via (fun y => { y with ftl.rows := y.ftl.rows ++ [_], tab.writeSeq := y.tab.writeSeq + _ }) (fun
            _ => Same.put (Same.refl _ _) rfl)
              (Same.ite (Same.call (drawn_same _ _) (by decide) (Same.widen (by decide) (bandFor_same hb)))
                (Same.widen (by decide) (bandFor_same hb))))))

theorem packAll_same (g gen : Nat) (src : Option Nat) (kind : ProgSrc) : ∀ (n : Nat) (items : List (Nat × IuVer))
    (s : State),
    Same [.evr, .nvm, .tabDies, .tab, .ftlData, .ftl, .flash, .hold, .mgt, .ksc, .evs0, .evs1, .free,
    .out] s (packAll g gen src kind n items s)
  | 0, _, _ => Same.refl _ _
  | _ + 1, [], _ => Same.refl _ _
  | n + 1, i :: items, s => by
    unfold packAll
    split
    · rename_i h
      exact Same.ite ((packRow_same h).trans (packAll_same g gen src kind n _ _)) (packRow_same h)
    · exact Same.put (Same.refl _ _) rfl

theorem moveItems_same (b : Nat) (g : Nat) (gen : Nat) (kind : ProgSrc) (env : MediaEnv) (l : List (Nat × BitVec 40))
    (s : State) :
    Same [.evr, .nvm, .tabDies, .tab, .ftlData, .ftl, .flash, .hold, .mgt, .ksc, .evs0, .evs1, .free, .out] s
    (moveItems b g gen kind env l s) := by
  unfold moveItems
  exact Same.widen (by decide) (packAll_same _ _ _ _ _ _ _)

theorem relocate_same (b : Nat) (gen : Nat) (kind : ProgSrc) (env : MediaEnv) (s : State) :
    Same [.evr, .nvm, .tabDies, .tab, .media, .ftlData, .ftl, .flash, .hold, .mgt, .ksc, .evs0, .evs1, .free, .out] s
    (relocate b gen kind env s) := by
  unfold relocate
  try dsimp only
  split
  · exact (Same.refl _ _)
  · exact (Same.ite
      (Same.call (freeBand_same _ _) (by decide) (by
        try dsimp only
        split
        · exact (Same.call (setBand_same _ _ _) (by decide) (Same.widen (by decide) (closeBand_same _ _)))
        · exact (Same.widen (by decide) (closeBand_same _ _))))
      (Same.call (moveItems_same _ _ _ _ _ _ _) (by decide) (by
        try dsimp only
        split
        · exact (Same.call (setBand_same _ _ _) (by decide) (Same.widen (by decide) (closeBand_same _ _)))
        · exact (Same.widen (by decide) (closeBand_same _ _)))))

end Sys2Proof.Machine
end

