-- ==== Sys2Proof/Laws/FrameParity.lean ====
section
/-! SUPPORT. Frames of the operations of Machine/Parity.lean: the fields each of them can change. -/
namespace Sys2Proof.Machine

theorem controllersReady_same (s : State) :
    Same [.fns, .nvm, .mgt, .out] s (controllersReady s) := by
  unfold controllersReady
  exact Same.fold
    (fun _ _ =>
      (Same.ite
        (Same.call (ustChange_same _ _) (by decide)
          (Same.call (hscMark_same _ _) (by decide) (Same.widen (by decide) (modCtrl_same _ _ _)))) (Same.refl _ _)))
    _ (Same.refl _ _)

theorem countFailure_same (d : Nat) (s : State) :
    Same [.tab, .hold] s (countFailure d s) := by
  unfold countFailure
  exact Same.call (markDelta_same _) (by decide) (Same.put (Same.refl _ _) rfl)

theorem discardRow_same (s : State) (q : ResyncRow) :
    Same [.tabMap, .media, .hold] s (discardRow s q) := by
  unfold discardRow
  try dsimp only
  split
  · exact (Same.refl _ _)
  · exact (Same.call (markDelta_same _) (by decide)
      (Same.put (Same.fold (fun _ _ => (Same.widen (by decide) (setMap_same _ _ _ _))) _ (Same.refl _ _)) rfl))

theorem execParityStatusLog_ends (tag : Tag) (length : Nat) (offset : Nat) (s : State) :
    Ends [.fns, .nvm, .mgt, .ksc, .evs0, .evs1, .free, .out] s (execParityStatusLog tag length offset s) := by
  unfold execParityStatusLog
  exact Ends.next
    (runAdmin_same _ _ _ _ _ _ _ _ _ (by decide)
      (fun _ =>
        (Same.ite (Same.widen (by decide) (finish_same _ _ _))
          (Same.call (logReply_same _ _ _ _ _) (by decide) (Same.widen (by decide) (drawn_same _ _))))))

theorem losePosition_same (d : Nat) (s : State) :
    Same [.tabDies, .evs0, .evs1] s (losePosition d s) := by
  unfold losePosition
  exact Same.ite (Same.refl _ _) (Same.widen (by decide) (setGrp_same _ _ _))

theorem goOffline_same (d : Nat) (s : State) :
    Same [.trust, .evr, .nvm, .tabMap, .tabNss, .tabKeys, .tabDies, .tab, .ftlData, .ftl, .hold, .mqt, .ksc, .evs0,
    .evs1, .free] s (goOffline d s) := by
  unfold goOffline
  exact Same.ite (Same.refl _ _)
    (Same.call (offlineImports_same _) (by decide)
      (Same.call (event_same _ _ _ _) (by decide)
        (Same.call (ustChange_same _ _) (by decide)
          (Same.call (markDelta_same _) (by decide)
            (Same.put (Same.fold (fun _ _ => (Same.widen (by decide) (setGrp_same _ _ _))) _ (Same.refl _ _)) rfl)))))

theorem rebuildEnd_same (g : Nat) (s : State) :
    Same [.evr, .nvm, .tabDies, .tab, .hold, .mgt, .ksc, .evs0, .evs1, .free, .out] s (rebuildEnd g s) := by
  unfold rebuildEnd
  exact Same.ite (Same.refl _ _)
    (Same.call (spareCheck_same _) (by decide)
      (Same.ite
        (Same.call (event_same _ _ _ _) (by decide)
          (Same.call (enterReadOnly_same _ _) (by decide)
            (Same.call (event_same _ _ _ _) (by decide)
              (Same.call (ustChange_same _ _) (by decide)
                (Same.call (markDelta_same _) (by decide) (Same.widen (by decide) (setGrp_same _ _ _)))))))
        (Same.call (event_same _ _ _ _) (by decide)
          (Same.call (ustChange_same _ _) (by decide)
            (Same.call (markDelta_same _) (by decide) (Same.widen (by decide) (setGrp_same _ _ _)))))))

theorem startRebuild_same (g : Nat) (d : Nat) (s : State) :
    Same [.evr, .nvm, .tabDies, .tab, .hold, .mgt, .ksc, .evs0, .evs1, .free, .out] s (startRebuild g d s) := by
  unfold startRebuild
  exact Same.call (rebuildEnd_same _ _) (by decide)
    (Same.call (event_same _ _ _ _) (by decide)
      (Same.call (ustChange_same _ _) (by decide)
        (Same.call (markDelta_same _) (by decide)
          (Same.call (setGrp_same _ _ _) (by decide)
            (Same.fold (fun _ _ => (Same.widen (by decide) (closeBand_same _ _))) _ (Same.refl _ _))))))

theorem failureEvent_same (ds : List Nat) (s : State) :
    Same [.trust, .evr, .nvm, .tabMap, .tabNss, .tabKeys, .tabDies, .tab, .ftlData, .ftl, .hold, .mqt, .mgt, .ksc,
    .evs0, .evs1, .free, .out] s (failureEvent ds s) := by
  unfold failureEvent
  try dsimp only
  split
  · exact (Same.refl _ _)
  · exact (Same.ite
      (Same.fold (fun _ _ => (Same.widen (by decide) (losePosition_same _ _))) _
        (Same.widen (by decide) (countFailure_same _ _)))
      (Same.ite
        (Same.call (goOffline_same _ _) (by decide)
          (Same.fold (fun _ _ => (Same.widen (by decide) (losePosition_same _ _))) _
            (Same.widen (by decide) (countFailure_same _ _))))
        (Same.fold (fun _ _ => (Same.widen (by decide) (startRebuild_same _ _ _))) _
          (Same.fold (fun _ _ => (Same.widen (by decide) (losePosition_same _ _))) _
            (Same.widen (by decide) (countFailure_same _ _))))))

theorem rebuildBand_same (env : MediaEnv) (s : State) :
    Same [.evr, .nvm, .tabDies, .tab, .media, .ftlData, .ftl, .flash, .hold, .mgt, .ksc, .evs0, .evs1, .free, .out] s
    (rebuildBand env s) := by
  unfold rebuildBand
  try dsimp only
  split
  · exact (Same.refl _ _)
  · exact (by
      try dsimp only
      split
      · exact (Same.widen (by decide) (rebuildEnd_same _ _))
      · exact (Same.ite (Same.refl _ _)
          (Same.ite (Same.widen (by decide) (relocate_same _ _ _ _ _))
            (Same.call (rebuildEnd_same _ _) (by decide)
              (Same.call (markDelta_same _) (by decide)
                (Same.call (setGrp_same _ _ _) (by decide) (Same.widen (by decide) (relocate_same _ _ _ _ _))))))))

theorem execRebuildBand_ends (media : MediaEnv) (s : State) :
    Ends [.evr, .nvm, .tabDies, .tab, .media, .ftlData, .ftl, .flash, .hold, .mgt, .ksc, .evs0, .evs1, .free, .out] s
    (execRebuildBand media s) := by
  unfold execRebuildBand
  exact Ends.next (Same.ite (Same.widen (by decide) (rebuildBand_same _ _)) (Same.refl _ _))

theorem mendRow_same (s : State) (q : ResyncRow) :
    Same [.evr, .nvm, .tabDies, .tab, .ftlData, .ftl, .flash, .hold, .mgt, .ksc, .evs0, .evs1, .free, .out] s (mendRow
    s q) := by
  unfold mendRow
  try dsimp only
  split
  · exact (Same.refl _ _)
  · exact (Same.widen (by decide) (moveItems_same _ _ _ _ _ _ _))

theorem noteRestartDone_same (s : State) :
    Same [.hold, .evs0, .evs1] s (noteRestartDone s) := by
  unfold noteRestartDone
  exact Same.ite (Same.call (evsSet_same _ _) (by decide) (Same.put (Same.refl _ _) rfl)) (Same.refl _ _)

theorem execResyncComplete_ends (rows : List ResyncRow) (s : State) :
    Ends [.evr, .nvm, .tabMap, .tabDies, .tab, .media, .ftlData, .ftl, .flash, .hold, .mgt, .ksc, .evs0, .evs1, .free,
    .out] s (execResyncComplete rows s) := by
  unfold execResyncComplete
  exact Ends.next
    (Same.ite (Same.refl _ _)
      (Same.call (noteRestartDone_same _) (by decide)
        (Same.call (event_same _ _ _ _) (by decide)
          (Same.call (evsSet_same _ _) (by decide)
            (Same.put
              (Same.fold (fun _ _ => (Same.widen (by decide) (mendRow_same _ _))) _
                (Same.fold (fun _ _ => (Same.widen (by decide) (discardRow_same _ _))) _
                  (Same.fold (fun _ _ => (Same.widen (by decide) (closeBand_same _ _))) _ (Same.refl _ _)))) rfl)))))

end Sys2Proof.Machine
end

