-- ==== Sys2Proof/Laws/FrameFlash.lean ====
section
/-! SUPPORT. Frames of the operations of Machine/Flash.lean: the fields each of them can change. -/
namespace Sys2Proof.Machine

theorem execDieHealthLog_ends (tag : Tag) (length : Nat) (offset : Nat) (s : State) :
    Ends [.fns, .nvm, .mgt, .ksc, .evs0, .evs1, .free, .out] s (execDieHealthLog tag length offset s) := by
  unfold execDieHealthLog
  exact Ends.next
    (runAdmin_same _ _ _ _ _ _ _ _ _ (by decide)
      (fun _ =>
        (Same.ite (Same.widen (by decide) (finish_same _ _ _))
          (Same.call (logReply_same _ _ _ _ _) (by decide) (Same.widen (by decide) (drawn_same _ _))))))

theorem setDieState_same (d : Nat) (st : DieState) (s : State) :
    Same [.flash, .evs0, .evs1] s (setDieState d st s) := by
  unfold setDieState
  exact Same.call (evsSetIf_same _ _ _) (by decide) (Same.widen (by decide) (setDie_same _ _ _))

theorem failChannel_same (ch : Nat) (s : State) :
    Same [.trust, .evr, .nvm, .tabMap, .tabNss, .tabKeys, .tabDies, .tab, .ftlData, .ftl, .flash, .hold, .mqt, .mgt,
    .ksc, .evs0, .evs1, .free, .out] s (failChannel ch s) := by
  unfold failChannel
  exact Same.call (failureEvent_same _ _) (by decide)
    (Same.call (markDelta_same _) (by decide)
      (Same.fold
        (fun _ _ =>
          (Same.call (setDieTab_same _ _ _) (by decide)
            (Same.call (setDie_same _ _ _) (by decide) (Same.widen (by decide) (setDieState_same _ _ _))))) _
        (Same.call (event_same _ _ _ _) (by decide) (Same.widen (by decide) (setChan_same _ _ _)))))

theorem trainChannel_same (ch : Nat) (top : Nat) (ok : List Bool) (tries : Nat) (s : State) :
    Same [.trust, .evr, .nvm, .tabMap, .tabNss, .tabKeys, .tabDies, .tab, .ftlData, .ftl, .flash, .hold, .mqt, .mgt,
    .ksc, .evs0, .evs1, .free, .out] s (trainChannel ch top ok tries s) := by
  unfold trainChannel
  try dsimp only
  split
  · exact (Same.widen (by decide) (setChan_same _ _ _))
  · exact (Same.call (failChannel_same _ _) (by decide) (Same.widen (by decide) (setChan_same _ _ _)))

theorem positionLost_same (d : Nat) (s : State) :
    Same [.trust, .evr, .nvm, .tabMap, .tabNss, .tabKeys, .tabDies, .tab, .ftlData, .ftl, .hold, .mqt, .mgt, .ksc,
    .evs0, .evs1, .free, .out] s (positionLost d s) := by
  unfold positionLost
  exact Same.ite (Same.widen (by decide) (failureEvent_same _ _)) (Same.refl _ _)

theorem identifyDie_same (ch : Nat) (p : DieProbe) (s : State) :
    Same [.trust, .evr, .nvm, .tabMap, .tabNss, .tabKeys, .tabDies, .tab, .ftlData, .ftl, .flash, .hold, .mqt, .mgt,
    .ksc, .evs0, .evs1, .free, .out] s (identifyDie ch p s) := by
  unfold identifyDie
  exact Same.ite
    (Same.call (positionLost_same _ _) (by decide)
      (Same.call (setDieState_same _ _ _) (by decide)
        (Same.ite (Same.widen (by decide) (setDieTab_same _ _ _)) (Same.refl _ _))))
    (Same.ite
      (Same.call (positionLost_same _ _) (by decide)
        (Same.call (event_same _ _ _ _) (by decide)
          (Same.call (setDieTab_same _ _ _) (by decide)
            (Same.call (setDieState_same _ _ _) (by decide)
              (Same.ite (Same.widen (by decide) (setDieTab_same _ _ _)) (Same.refl _ _))))))
      (Same.call (setDieState_same _ _ _) (by decide)
        (Same.call (setDieTab_same _ _ _) (by decide)
          (Same.ite (Same.ite (Same.widen (by decide) (setDieTab_same _ _ _)) (Same.refl _ _))
            (Same.call (markDelta_same _) (by decide)
              (Same.ite (Same.widen (by decide) (setDieTab_same _ _ _)) (Same.refl _ _)))))))

theorem execChannelTraining_ends (ch : Nat) (dies : List DieProbe) (eyes : List (List Eye)) (failTries : Nat) (s :
    State) :
    Ends [.trust, .evr, .nvm, .tabMap, .tabNss, .tabKeys, .tabDies, .tab, .ftlData, .ftl, .flash, .hold, .mqt, .mgt,
    .ksc, .evs0, .evs1, .free, .out] s (execChannelTraining ch dies eyes failTries s) := by
  unfold execChannelTraining
  exact Ends.next
    (Same.ite (Same.refl _ _)
      (Same.ite (Same.widen (by decide) (trainChannel_same _ _ _ _ _))
        (Same.ite (Same.refl _ _)
          (Same.ite
            (Same.call (setChan_same _ _ _) (by decide)
              (Same.fold (fun _ _ => (Same.widen (by decide) (identifyDie_same _ _ _))) _ (Same.refl _ _)))
            (Same.call (trainChannel_same _ _ _ _ _) (by decide)
              (Same.call (setChan_same _ _ _) (by decide)
                (Same.fold (fun _ _ => (Same.widen (by decide) (identifyDie_same _ _ _))) _ (Same.refl _ _))))))))

theorem execRetrainTrigger_ends (ch : Nat) (why : RetrainWhy) (s : State) :
    Ends [.flash, .evs0, .evs1] s (execRetrainTrigger ch why s) := by
  unfold execRetrainTrigger
  exact Ends.next (Same.ite (Same.widen (by decide) (setChan_same _ _ _)) (Same.refl _ _))

theorem writeRetrain_same (ch : Nat) (v : W32) (s : State) :
    Same [.flash, .evs0, .evs1] s (writeRetrain ch v s) := by
  unfold writeRetrain
  exact Same.widen (by decide) (setChan_same _ _ _)

theorem execRetrainReq_ends (ch : Nat) (value : W32) (s : State) :
    Ends [.flash, .evs0, .evs1] s (execRetrainReq ch value s) := by
  unfold execRetrainReq
  exact Ends.next (Same.ite (Same.widen (by decide) (writeRetrain_same _ _ _)) (Same.refl _ _))

theorem startRetrain_same (ch : Nat) (forced : Bool) (us : W16) (s : State) :
    Same [.flash, .evs0, .evs1] s (startRetrain ch forced us s) := by
  unfold startRetrain
  exact Same.widen (by decide) (setChan_same _ _ _)

theorem retrain_same (ch : Nat) (ok : List Bool) (us : W16) (s : State) :
    Same [.trust, .evr, .nvm, .tabMap, .tabNss, .tabKeys, .tabDies, .tab, .ftlData, .ftl, .flash, .hold, .mqt, .mgt,
    .ksc, .evs0, .evs1, .free, .out] s (retrain ch ok us s) := by
  unfold retrain
  exact Same.call (trainChannel_same _ _ _ _ _) (by decide) (Same.widen (by decide) (startRetrain_same _ _ _ _))

theorem execRetrainIdleWindow_ends (ch : Nat) (eyes : List (List Eye)) (us : W16) (s : State) :
    Ends [.trust, .evr, .nvm, .tabMap, .tabNss, .tabKeys, .tabDies, .tab, .ftlData, .ftl, .flash, .hold, .mqt, .mgt,
    .ksc, .evs0, .evs1, .free, .out] s (execRetrainIdleWindow ch eyes us s) := by
  unfold execRetrainIdleWindow
  exact Ends.next (Same.ite (Same.widen (by decide) (retrain_same _ _ _ _)) (Same.refl _ _))

theorem execRetrainForceTimeout_ends (ch : Nat) (us : W16) (s : State) :
    Ends [.flash, .evs0, .evs1] s (execRetrainForceTimeout ch us s) := by
  unfold execRetrainForceTimeout
  exact Ends.next (Same.ite (Same.widen (by decide) (startRetrain_same _ _ _ _)) (Same.refl _ _))

theorem execDllLockLoss_ends (ch : Nat) (eyes : List (List Eye)) (us : W16) (s : State) :
    Ends [.trust, .evr, .nvm, .tabMap, .tabNss, .tabKeys, .tabDies, .tab, .ftlData, .ftl, .flash, .hold, .mqt, .mgt,
    .ksc, .evs0, .evs1, .free, .out] s (execDllLockLoss ch eyes us s) := by
  unfold execDllLockLoss
  exact Ends.next
    (Same.ite (Same.call (retrain_same _ _ _ _) (by decide) (Same.widen (by decide) (setChan_same _ _ _)))
      (Same.refl _ _))

theorem programIssued_same (b : Nat) (r : Nat) (ch : Nat) (s : State) :
    Same [.ftlData] s (programIssued b r ch s) := by
  unfold programIssued
  exact Same.put (Same.refl _ _) rfl

theorem spend_same (d : Nat) (o : DieOp) (s : State) :
    Same [.ftl, .flash, .arm] s (spend d o s) := by
  unfold spend
  exact Same.put (Same.refl _ _) rfl

theorem execDieOpIssue_ends (die : Nat) (s : State) :
    Ends [.ftlData, .ftl, .flash, .arm] s (execDieOpIssue die s) := by
  unfold execDieOpIssue
  exact Ends.next
    (Same.ite (Same.refl _ _) (by
      try dsimp only
      split
      · exact (Same.refl _ _)
      · exact (Same.ite (Same.widen (by decide) (setDie_same _ _ _))
          (Same.call (setDie_same _ _ _) (by decide)
            (Same.ite
              (Same.call (programIssued_same _ _ _ _) (by decide) (Same.widen (by decide) (spend_same _ _ _)))
              (Same.widen (by decide) (spend_same _ _ _)))))))

theorem opPassed_same (d : Nat) (s : State) :
    Same [.flash, .evs0, .evs1] s (opPassed d s) := by
  unfold opPassed
  exact Same.ite
    (Same.ite (Same.call (setDieState_same _ _ _) (by decide) (Same.widen (by decide) (setDie_same _ _ _)))
      (Same.widen (by decide) (setDie_same _ _ _))) (Same.widen (by decide) (setDie_same _ _ _))

theorem kscChannel_same (die : Nat) (r : RunOp) (level : Nat) (s : State) :
    Same [.ksc, .evs0, .evs1, .free] s (kscChannel die r level s) := by
  unfold kscChannel
  exact Same.call (drawn_same _ _) (by decide) (Same.widen (by decide) (kscPutClass_same _ _ _))

theorem noteRead_same (die : Nat) (b : Nat) (s : State) :
    Same [.evr, .ftl, .flash, .ksc, .evs0, .evs1, .free] s (noteRead die b s) := by
  unfold noteRead
  exact Same.ite (Same.call (refreshCandidate_same _ _ _) (by decide) (Same.widen (by decide) (setDie_same _ _ _)))
    (Same.widen (by decide) (setDie_same _ _ _))

theorem failDie_same (d : Nat) (reason : W32) (s : State) :
    Same [.trust, .evr, .nvm, .tabMap, .tabNss, .tabKeys, .tabDies, .tab, .ftlData, .ftl, .flash, .hold, .mqt, .mgt,
    .ksc, .evs0, .evs1, .free, .out] s (failDie d reason s) := by
  unfold failDie
  exact Same.ite (Same.refl _ _)
    (Same.call (failureEvent_same _ _) (by decide)
      (Same.call (event_same _ _ _ _) (by decide)
        (Same.call (markDelta_same _) (by decide)
          (Same.call (setDieTab_same _ _ _) (by decide)
            (Same.call (setDie_same _ _ _) (by decide) (Same.widen (by decide) (setDieState_same _ _ _)))))))

theorem growBad_same (d : Nat) (p : Nat) (b : Nat) (s : State) :
    Same [.trust, .evr, .nvm, .tabMap, .tabNss, .tabKeys, .tabDies, .tab, .ftlData, .ftl, .flash, .hold, .mqt, .mgt,
    .ksc, .evs0, .evs1, .free, .out] s (growBad d p b s) := by
  unfold growBad
  exact Same.ite (Same.refl _ _)
    (Same.ite (Same.widen (by decide) (failDie_same _ _ _))
      (Same.call (spareCheck_same _) (by decide)
        (Same.call (markDelta_same _) (by decide) (Same.widen (by decide) (setDieTab_same _ _ _)))))

theorem flagPosition_same (b : Nat) (r : Nat) (ch : Nat) (s : State) :
    Same [.ftlData] s (flagPosition b r ch s) := by
  unfold flagPosition
  exact Same.put (Same.refl _ _) rfl

theorem forgetReads_same (die : Nat) (b : Nat) (s : State) :
    Same [.flash] s (forgetReads die b s) := by
  unfold forgetReads
  exact Same.widen (by decide) (setDie_same _ _ _)

theorem suspectDie_same (d : Nat) (reason : W32) (s : State) :
    Same [.trust, .evr, .nvm, .tabMap, .tabNss, .tabKeys, .tabDies, .tab, .ftlData, .ftl, .flash, .hold, .mqt, .mgt,
    .ksc, .evs0, .evs1, .free, .out] s (suspectDie d reason s) := by
  unfold suspectDie
  try dsimp only
  split
  · exact (Same.call (event_same _ _ _ _) (by decide)
      (Same.call (setDie_same _ _ _) (by decide)
        (Same.call (setDieTab_same _ _ _) (by decide) (Same.widen (by decide) (setDieState_same _ _ _)))))
  · exact (Same.widen (by decide) (failDie_same _ _ _))
  · exact (Same.refl _ _)

theorem opFailed_same (d : Nat) (p : Nat) (b : Nat) (erase : Bool) (s : State) :
    Same [.trust, .evr, .nvm, .tabMap, .tabNss, .tabKeys, .tabDies, .tab, .ftlData, .ftl, .flash, .hold, .mqt, .mgt,
    .ksc, .evs0, .evs1, .free, .out] s (opFailed d p b erase s) := by
  unfold opFailed
  try dsimp only
  split
  · exact (Same.call (failDie_same _ _ _) (by decide)
      (Same.call (growBad_same _ _ _ _) (by decide) (Same.widen (by decide) (setDieTab_same _ _ _))))
  · exact (Same.ite
      (Same.call (suspectDie_same _ _ _) (by decide)
        (Same.call (growBad_same _ _ _ _) (by decide) (Same.widen (by decide) (setDieTab_same _ _ _))))
      (Same.call (setDie_same _ _ _) (by decide)
        (Same.call (growBad_same _ _ _ _) (by decide) (Same.widen (by decide) (setDieTab_same _ _ _)))))
  · exact (Same.call (growBad_same _ _ _ _) (by decide) (Same.widen (by decide) (setDieTab_same _ _ _)))

theorem opEnded_same (die : Nat) (r : RunOp) (res : DieResult) (s : State) :
    Same [.trust, .evr, .nvm, .tabMap, .tabNss, .tabKeys, .tabDies, .tab, .ftlData, .ftl, .flash, .hold, .mqt, .mgt,
    .ksc, .evs0, .evs1, .free, .out] s (opEnded die r res s) := by
  unfold opEnded
  try dsimp only
  split
  · exact (Same.ite (Same.refl _ _)
      (Same.ite
        (Same.call (refreshCandidate_same _ _ _) (by decide)
          (Same.call (noteRead_same _ _ _) (by decide)
            (Same.call (opPassed_same _ _) (by decide)
              (Same.call (setDie_same _ _ _) (by decide) (Same.widen (by decide) (kscChannel_same _ _ _ _))))))
        (Same.call (noteRead_same _ _ _) (by decide)
          (Same.call (opPassed_same _ _) (by decide)
            (Same.call (setDie_same _ _ _) (by decide) (Same.widen (by decide) (kscChannel_same _ _ _ _)))))))
  · exact (Same.ite (Same.refl _ _)
      (Same.ite
        (Same.call (growBad_same _ _ _ _) (by decide)
          (Same.call (noteRead_same _ _ _) (by decide)
            (Same.call (setDie_same _ _ _) (by decide) (Same.widen (by decide) (kscChannel_same _ _ _ _)))))
        (Same.call (refreshCandidate_same _ _ _) (by decide)
          (Same.call (noteRead_same _ _ _) (by decide)
            (Same.call (setDie_same _ _ _) (by decide) (Same.widen (by decide) (kscChannel_same _ _ _ _)))))))
  · exact (Same.ite (Same.refl _ _)
      (Same.ite
        (Same.call (flagPosition_same _ _ _ _) (by decide)
          (Same.call (forgetReads_same _ _ _) (by decide)
            (Same.call (opPassed_same _ _) (by decide) (Same.widen (by decide) (kscChannel_same _ _ _ _)))))
        (Same.call (opPassed_same _ _) (by decide) (Same.widen (by decide) (kscChannel_same _ _ _ _)))))
  · exact (Same.ite (Same.refl _ _)
      (Same.call (opFailed_same _ _ _ _ _) (by decide) (Same.widen (by decide) (kscChannel_same _ _ _ _))))

theorem execDieOpComplete_ends (die : Nat) (res : DieResult) (s : State) :
    Ends [.trust, .evr, .nvm, .tabMap, .tabNss, .tabKeys, .tabDies, .tab, .ftlData, .ftl, .flash, .hold, .mqt, .mgt,
    .ksc, .evs0, .evs1, .free, .out] s (execDieOpComplete die res s) := by
  unfold execDieOpComplete
  exact Ends.next
    (Same.ite (Same.refl _ _) (by
      try dsimp only
      split
      · exact (Same.refl _ _)
      · exact (Same.call (opEnded_same _ _ _ _) (by decide) (Same.widen (by decide) (setDie_same _ _ _)))))

theorem execDieSuspend_ends (die : Nat) (minRun : Bool) (s : State) :
    Ends [.flash] s (execDieSuspend die minRun s) := by
  unfold execDieSuspend
  exact Ends.next (by
    try dsimp only
    split
    · exact (Same.refl _ _)
    · exact (Same.ite (Same.refl _ _) (Same.put (Same.widen (by decide) (setDie_same _ _ _)) rfl)))

theorem execDieResume_ends (die : Nat) (timeUp : Bool) (s : State) :
    Ends [.flash] s (execDieResume die timeUp s) := by
  unfold execDieResume
  exact Ends.next (by
    try dsimp only
    split
    · exact (Same.ite (Same.widen (by decide) (setDie_same _ _ _)) (Same.refl _ _))
    · exact (Same.refl _ _))

theorem execDieBusyTimeout_ends (die : Nat) (s : State) :
    Ends [.trust, .evr, .nvm, .tabMap, .tabNss, .tabKeys, .tabDies, .tab, .ftlData, .ftl, .flash, .hold, .mqt, .mgt,
    .ksc, .evs0, .evs1, .free, .out] s (execDieBusyTimeout die s) := by
  unfold execDieBusyTimeout
  exact Ends.next
    (Same.ite (Same.call (suspectDie_same _ _ _) (by decide) (Same.widen (by decide) (setDie_same _ _ _)))
      (Same.refl _ _))

theorem execDieResetComplete_ends (die : Nat) (ok : Bool) (s : State) :
    Ends [.trust, .evr, .nvm, .tabMap, .tabNss, .tabKeys, .tabDies, .tab, .ftlData, .ftl, .flash, .hold, .mqt, .mgt,
    .ksc, .evs0, .evs1, .free, .out] s (execDieResetComplete die ok s) := by
  unfold execDieResetComplete
  exact Ends.next
    (Same.ite (Same.refl _ _)
      (Same.ite (Same.widen (by decide) (setDie_same _ _ _)) (Same.widen (by decide) (failDie_same _ _ _))))

end Sys2Proof.Machine
end

