-- ==== Sys2Proof/Laws/FrameFtl.lean ====
section
/-! SUPPORT. Frames of the operations of Machine/Ftl.lean: the fields each of them can change. -/
namespace Sys2Proof.Machine

theorem reportRead_same (s0 : State) (env : MediaEnv) (lost : Bool) (e : BitVec 40) (s : State) :
    Same [.evr, .ftl, .ksc, .evs0, .evs1, .free] s (reportRead s0 env lost e s) := by
  unfold reportRead
  try dsimp only
  split
  · exact (Same.refl _ _)
  · exact (Same.ite (Same.widen (by decide) (refreshCandidate_same _ _ _)) (Same.refl _ _))

theorem markPacking_same (l : List (Nat × IuVer)) (s : State) :
    Same [.ftlData] s (markPacking l s) := by
  unfold markPacking
  exact Same.fold
    (fun _ _ => (by
      try dsimp only
      split
      · exact (Same.ite (Same.widen (by decide) (setLine_same _ _ _)) (Same.refl _ _))
      · exact (Same.refl _ _))) _ (Same.refl _ _)

theorem packHost_same (g : Nat) (gen : Nat) (items : List (Nat × IuVer)) (s : State) :
    Same [.evr, .nvm, .tabDies, .tab, .ftlData, .ftl, .flash, .hold, .mgt, .ksc, .evs0, .evs1, .free, .out] s
    (packHost g gen items s) := by
  unfold packHost
  split
  · exact Same.ite (Same.put (Same.refl _ _) rfl) (Same.refl _ _)
  · rename_i h
    exact Same.ite (Same.call (markPacking_same _ _) (by decide) (Same.widen (by decide) (packRow_same h)))
      (Same.put (Same.call (markPacking_same _ _) (by decide) (Same.widen (by decide) (packRow_same h))) rfl)

theorem stripeRowPack_same (g : Nat) (ius : List Nat) (s : State) :
    Same [.evr, .nvm, .tabDies, .tab, .ftlData, .ftl, .flash, .hold, .mgt, .ksc, .evs0, .evs1, .free, .out] s
    (stripeRowPack g ius s) := by
  unfold stripeRowPack
  exact Same.ite (Same.refl _ _)
    (Same.ite (Same.widen (by decide) (packHost_same _ _ _ _))
      (Same.ite (Same.refl _ _) (Same.widen (by decide) (packHost_same _ _ _ _))))

theorem execStripeRowPack_ends (group : Nat) (ius : List Nat) (s : State) :
    Ends [.evr, .nvm, .tabDies, .tab, .ftlData, .ftl, .flash, .hold, .mgt, .ksc, .evs0, .evs1, .free, .out] s
    (execStripeRowPack group ius s) := by
  unfold execStripeRowPack
  exact Ends.next (Same.ite (Same.widen (by decide) (stripeRowPack_same _ _ _)) (Same.refl _ _))

theorem execStripeRowCommit_ends (group : Nat) (band : Nat) (row : Nat) (s : State) :
    Ends [.evr, .fns, .nvm, .tabMap, .tabDies, .tab, .media, .ftlData, .ftl, .flash, .hold, .mgt, .ksc, .evs0, .evs1,
    .free, .out] s (execStripeRowCommit group band row s) := by
  unfold execStripeRowCommit
  exact Ends.next
    (Same.ite (Same.call (rebuildEnd_same _ _) (by decide) (Same.widen (by decide) (commitRow_same _ _ _)))
      (Same.refl _ _))

theorem execStripeRowProgramFail_ends (group : Nat) (band : Nat) (row : Nat) (die : Nat) (s : State) :
    Ends [.trust, .evr, .nvm, .tabMap, .tabNss, .tabKeys, .tabDies, .tab, .ftlData, .ftl, .flash, .hold, .mqt, .mgt,
    .ksc, .evs0, .evs1, .free, .out] s (execStripeRowProgramFail group band row die s) := by
  unfold execStripeRowProgramFail
  exact Ends.next (by
    try dsimp only
    split
    · exact (Same.ite (Same.refl _ _)
        (Same.call (opFailed_same _ _ _ _ _) (by decide)
          (Same.call (abandonRow_same _ _ _) (by decide) (Same.widen (by decide) (drawn_same _ _)))))
    · exact (Same.refl _ _))

theorem mergeReadDone_same (k : Nat) (env : MediaEnv) (s : State) :
    Same [.evr, .ftlData, .ftl, .ksc, .evs0, .evs1, .free] s (mergeReadDone k env s) := by
  unfold mergeReadDone
  exact Same.ite (Same.refl _ _)
    (Same.ite
      (Same.call (event_same _ _ _ _) (by decide)
        (Same.ite
          (Same.call (event_same _ _ _ _) (by decide)
            (Same.ite (by
              try dsimp only
              split
              · exact (Same.call (setLine_same _ _ _) (by decide) (Same.put (Same.refl _ _) rfl))
              · exact (Same.put (Same.refl _ _) rfl))
              (Same.call (reportRead_same _ _ _ _ _) (by decide) (by
                try dsimp only
                split
                · exact (Same.call (setLine_same _ _ _) (by decide) (Same.put (Same.refl _ _) rfl))
                · exact (Same.put (Same.refl _ _) rfl)))))
          (Same.ite (by
            try dsimp only
            split
            · exact (Same.call (setLine_same _ _ _) (by decide) (Same.put (Same.refl _ _) rfl))
            · exact (Same.put (Same.refl _ _) rfl))
            (Same.call (reportRead_same _ _ _ _ _) (by decide) (by
              try dsimp only
              split
              · exact (Same.call (setLine_same _ _ _) (by decide) (Same.put (Same.refl _ _) rfl))
              · exact (Same.put (Same.refl _ _) rfl))))))
      (Same.ite
        (Same.call (event_same _ _ _ _) (by decide)
          (Same.ite (by
            try dsimp only
            split
            · exact (Same.call (setLine_same _ _ _) (by decide) (Same.put (Same.refl _ _) rfl))
            · exact (Same.put (Same.refl _ _) rfl))
            (Same.call (reportRead_same _ _ _ _ _) (by decide) (by
              try dsimp only
              split
              · exact (Same.call (setLine_same _ _ _) (by decide) (Same.put (Same.refl _ _) rfl))
              · exact (Same.put (Same.refl _ _) rfl)))))
        (Same.ite (by
          try dsimp only
          split
          · exact (Same.call (setLine_same _ _ _) (by decide) (Same.put (Same.refl _ _) rfl))
          · exact (Same.put (Same.refl _ _) rfl))
          (Same.call (reportRead_same _ _ _ _ _) (by decide) (by
            try dsimp only
            split
            · exact (Same.call (setLine_same _ _ _) (by decide) (Same.put (Same.refl _ _) rfl))
            · exact (Same.put (Same.refl _ _) rfl))))))

theorem execMergeReadDone_ends (key : Nat) (media : MediaEnv) (s : State) :
    Ends [.evr, .ftlData, .ftl, .ksc, .evs0, .evs1, .free] s (execMergeReadDone key media s) := by
  unfold execMergeReadDone
  exact Ends.next (Same.ite (Same.widen (by decide) (mergeReadDone_same _ _ _)) (Same.refl _ _))

theorem foldOne_same (g : Nat) (s : State) :
    Same [.evr, .nvm, .tabDies, .tab, .media, .ftlData, .ftl, .flash, .hold, .mgt, .ksc, .evs0, .evs1, .free, .out] s
    (foldOne g s) := by
  unfold foldOne
  try dsimp only
  split
  · exact (Same.widen (by decide) (relocate_same _ _ _ _ _))
  · exact (by
      try dsimp only
      split
      · exact (Same.ite (Same.refl _ _) (Same.widen (by decide) (closeBand_same _ _)))
      · exact (Same.refl _ _))

theorem execFold_ends (group : Nat) (s : State) :
    Ends [.evr, .nvm, .tabDies, .tab, .media, .ftlData, .ftl, .flash, .hold, .mgt, .ksc, .evs0, .evs1, .free, .out] s
    (execFold group s) := by
  unfold execFold
  exact Ends.next
    (Same.ite (Same.refl _ _)
      (Same.ite (Same.call (foldOne_same _ _) (by decide) (Same.put (Same.refl _ _) rfl))
        (Same.put (Same.refl _ _) rfl)))

theorem execFoldIdleTimeout_ends (group : Nat) (s : State) :
    Ends [.evr, .nvm, .tabDies, .tab, .media, .ftlData, .ftl, .flash, .hold, .mgt, .ksc, .evs0, .evs1, .free, .out] s
    (execFoldIdleTimeout group s) := by
  unfold execFoldIdleTimeout
  exact Ends.next (Same.ite (Same.refl _ _) (Same.ite (Same.widen (by decide) (foldOne_same _ _)) (Same.refl _ _)))

theorem execGarbageCollection_ends (group : Nat) (s : State) :
    Ends [.evr, .nvm, .tabDies, .tab, .media, .ftlData, .ftl, .flash, .hold, .mgt, .ksc, .evs0, .evs1, .free, .out] s
    (execGarbageCollection group s) := by
  unfold execGarbageCollection
  exact Ends.next
    (Same.ite (Same.refl _ _) (by
      try dsimp only
      split
      · exact (Same.widen (by decide) (relocate_same _ _ _ _ _))
      · exact (Same.refl _ _)))

theorem execStaticWearMove_ends (die : Nat) (s : State) :
    Ends [.evr, .nvm, .tabDies, .tab, .media, .ftlData, .ftl, .flash, .hold, .mgt, .ksc, .evs0, .evs1, .free, .out] s
    (execStaticWearMove die s) := by
  unfold execStaticWearMove
  exact Ends.next
    (Same.ite (Same.refl _ _) (by
      try dsimp only
      split
      · exact (Same.refl _ _)
      · exact (Same.ite (Same.refl _ _)
          (Same.call (relocate_same _ _ _ _ _) (by decide) (Same.put (Same.refl _ _) rfl)))))

theorem execPatrolScan_ends (die : Nat) (band : Nat) (corrected : Nat) (level : Nat) (s : State) :
    Ends [.evr, .ftl, .ksc, .evs0, .evs1, .free] s (execPatrolScan die band corrected level s) := by
  unfold execPatrolScan
  exact Ends.next (by
    try dsimp only
    split
    · exact (Same.ite (Same.widen (by decide) (refreshCandidate_same _ _ _)) (Same.refl _ _))
    · exact (Same.refl _ _))

theorem popRefresh_same (s : State) :
    Same [.ftl] s (popRefresh s) := by
  unfold popRefresh
  exact Same.call (refreshMark_same _) (by decide) (Same.put (Same.refl _ _) rfl)

theorem refreshHead_same (env : MediaEnv) (s : State) :
    Same [.evr, .nvm, .tabDies, .tab, .ftlData, .ftl, .flash, .hold, .mgt, .ksc, .evs0, .evs1, .free, .out] s
    (refreshHead env s) := by
  unfold refreshHead
  try dsimp only
  split
  · exact (Same.refl _ _)
  · exact (by
      try dsimp only
      split
      · exact (Same.widen (by decide) (popRefresh_same _))
      · exact (Same.ite (Same.refl _ _)
          (Same.ite
            (Same.call (popRefresh_same _) (by decide) (Same.widen (by decide) (moveItems_same _ _ _ _ _ _ _)))
            (Same.widen (by decide) (moveItems_same _ _ _ _ _ _ _)))))

theorem execRefresh_ends (media : MediaEnv) (s : State) :
    Ends [.evr, .nvm, .tabDies, .tab, .ftlData, .ftl, .flash, .hold, .mgt, .ksc, .evs0, .evs1, .free, .out] s
    (execRefresh media s) := by
  unfold execRefresh
  exact Ends.next (Same.ite (Same.widen (by decide) (refreshHead_same _ _)) (Same.refl _ _))

end Sys2Proof.Machine
end

