-- ==== Sys2Proof/Laws/FrameQueues.lean ====
section
/-! SUPPORT. Frames of the operations of Machine/Queues.lean: the fields each of them can change. -/
namespace Sys2Proof.Machine

theorem abortCmd_same (t : Tag) (sqid : Nat) (cid : W16) (f : Func) (s : State) :
    Same [.fns, .nvm, .ksc, .evs0, .evs1, .out] s (abortCmd t sqid cid f s) := by
  unfold abortCmd
  try dsimp only
  split
  · exact (Same.widen (by decide) (complete_same _ _ _ _))
  · exact (Same.ite (Same.widen (by decide) (complete_same _ _ _ _))
      (Same.call (complete_same _ _ _ _) (by decide)
        (Same.call (finish_same _ _ _) (by decide) (Same.widen (by decide) (modCtrl_same _ _ _)))))

theorem updEvent_same (step : Nat) (d1 : Nat) (root : Bytes) (s : State) :
    Same [.evr, .ksc, .evs0, .evs1, .free] s (updEvent step d1 root s) := by
  unfold updEvent
  exact Same.widen (by decide) (eventWith_same _ _ _ _ _)

theorem refuseCommit_same (t : Tag) (st : Status) (root : Bytes) (s : State) :
    Same [.evr, .fns, .nvm, .ksc, .evs0, .evs1, .free, .out] s (refuseCommit t st root s) := by
  unfold refuseCommit
  exact Same.call (finish_same _ _ _) (by decide) (Same.widen (by decide) (updEvent_same _ _ _ _))

theorem doorbellError_same (f : Func) (info : Nat) (s : State) :
    Same [.fns, .nvm, .ksc, .evs0, .evs1, .out] s (doorbellError f info s) := by
  unfold doorbellError
  exact Same.widen (by decide) (asyncEvent_same _ _ _)

theorem postWaiting_same (f : Func) (qid : Nat) : ∀ (n : Nat) (s : State),
    Same [.fns, .ksc, .evs0, .evs1, .out] s (postWaiting f qid n s)
  | 0, _ => Same.refl _ _
  | n + 1, s => by
    unfold postWaiting
    split
    · exact Same.refl _ _
    · split
      · exact Same.refl _ _
      · exact Same.ite (Same.refl _ _) (Same.trans (Same.call (releaseFlushes_same _ _ _ _) (by decide)
          (Same.call (postCqe_same _ _ _ _) (by decide) (Same.widen (by decide) (retire_same _ _))))
          (postWaiting_same f qid n _))

theorem setCq_same (f : Func) (q : Cq) (s : State) :
    Same [.fns] s (setCq f q s) := by
  unfold setCq
  exact Same.widen (by decide) (modCtrl_same _ _ _)

theorem takeHead_same (f : Func) (q : Cq) (h : Nat) (s : State) :
    Same [.fns, .ksc, .evs0, .evs1, .out] s (takeHead f q h s) := by
  unfold takeHead
  exact Same.call (intxFollow_same _ _) (by decide)
    (Same.call (postWaiting_same _ _ _ _) (by decide) (Same.widen (by decide) (setCq_same _ _ _)))

theorem cqDoorbell_same (f : Func) (qid : Nat) (v : Nat) (s : State) :
    Same [.fns, .nvm, .ksc, .evs0, .evs1, .out] s (cqDoorbell f qid v s) := by
  unfold cqDoorbell
  try dsimp only
  split
  · exact (Same.widen (by decide) (doorbellError_same _ _ _))
  · exact (Same.ite (Same.widen (by decide) (takeHead_same _ _ _ _))
      (Same.widen (by decide) (doorbellError_same _ _ _)))

theorem setSq_same (f : Func) (q : Sq) (s : State) :
    Same [.fns] s (setSq f q s) := by
  unfold setSq
  exact Same.widen (by decide) (modCtrl_same _ _ _)

theorem emitEventIdx_same (f : Func) (qid : Nat) (v : Nat) (s : State) :
    Same [.out] s (emitEventIdx f qid v s) := by
  unfold emitEventIdx
  exact Same.widen (by decide) (emit_same _ _)

theorem takeTail_same (f : Func) (q : Sq) (v : Nat) (s : State) :
    Same [.fns, .out] s (takeTail f q v s) := by
  unfold takeTail
  exact Same.ite (Same.widen (by decide) (setSq_same _ _ _))
    (Same.call (emitEventIdx_same _ _ _ _) (by decide) (Same.widen (by decide) (setSq_same _ _ _)))

theorem sqDoorbell_same (f : Func) (qid : Nat) (v : Nat) (s : State) :
    Same [.fns, .nvm, .ksc, .evs0, .evs1, .out] s (sqDoorbell f qid v s) := by
  unfold sqDoorbell
  try dsimp only
  split
  · exact (Same.widen (by decide) (doorbellError_same _ _ _))
  · exact (Same.ite (Same.widen (by decide) (doorbellError_same _ _ _))
      (Same.call (takeTail_same _ _ _ _) (by decide) (Same.ite (Same.put (Same.refl _ _) rfl) (Same.refl _ _))))

theorem modeChange_same (f : Func) (msix : Bool) (msi : Bool) (dis : Bool) (s : State) :
    Same [.fns, .out] s (modeChange f msix msi dis s) := by
  unfold modeChange
  exact Same.ite (Same.widen (by decide) (modFn_same _ _ _))
    (Same.fold (fun _ _ => (Same.ite (Same.widen (by decide) (signalCq_same _ _ _)) (Same.refl _ _))) _
      (Same.call (intxFollow_same _ _) (by decide)
        (Same.call (modFn_same _ _ _) (by decide) (Same.widen (by decide) (modFn_same _ _ _)))))

theorem releaseVector_same (f : Func) (v : Nat) (s : State) :
    Same [.fns, .out] s (releaseVector f v s) := by
  unfold releaseVector
  exact Same.ite (Same.call (signalVector_same _ _ _) (by decide) (Same.widen (by decide) (setFn_same _ _ _)))
    (Same.refl _ _)

theorem unmaskFunction_same (f : Func) (s : State) :
    Same [.fns, .out] s (unmaskFunction f s) := by
  unfold unmaskFunction
  exact Same.fold (fun _ _ => (Same.widen (by decide) (releaseVector_same _ _ _))) _
    (Same.widen (by decide) (modFn_same _ _ _))

theorem createCq_same (t : Tag) (n : NewCq) (f : Func) (s : State) :
    Same [.fns, .nvm, .ksc, .evs0, .evs1, .out] s (createCq t n f s) := by
  unfold createCq
  exact Same.ite (Same.widen (by decide) (finish_same _ _ _))
    (Same.ite (Same.widen (by decide) (finish_same _ _ _))
      (Same.ite (Same.widen (by decide) (finish_same _ _ _))
        (Same.ite (Same.widen (by decide) (finish_same _ _ _))
          (Same.call (finish_same _ _ _) (by decide) (Same.widen (by decide) (modCtrl_same _ _ _))))))

theorem createSq_same (t : Tag) (n : NewSq) (f : Func) (s : State) :
    Same [.fns, .nvm, .ksc, .evs0, .evs1, .out] s (createSq t n f s) := by
  unfold createSq
  exact Same.ite (Same.widen (by decide) (finish_same _ _ _))
    (Same.ite (Same.widen (by decide) (finish_same _ _ _))
      (Same.ite (Same.widen (by decide) (finish_same _ _ _))
        (Same.ite (Same.widen (by decide) (finish_same _ _ _))
          (Same.ite (Same.widen (by decide) (finish_same _ _ _))
            (Same.call (finish_same _ _ _) (by decide) (Same.widen (by decide) (modCtrl_same _ _ _)))))))

theorem deleteCq_same (t : Tag) (qid : Nat) (f : Func) (s : State) :
    Same [.fns, .nvm, .ksc, .evs0, .evs1, .out] s (deleteCq t qid f s) := by
  unfold deleteCq
  exact Same.ite (Same.widen (by decide) (finish_same _ _ _))
    (Same.ite (Same.widen (by decide) (finish_same _ _ _))
      (Same.call (finish_same _ _ _) (by decide)
        (Same.call (intxFollow_same _ _) (by decide) (Same.widen (by decide) (modCtrl_same _ _ _)))))

theorem deleteSq_same (t : Tag) (qid : Nat) (f : Func) (s : State) :
    Same [.fns, .nvm, .ftlData, .ksc, .evs0, .evs1, .out] s (deleteSq t qid f s) := by
  unfold deleteSq
  exact Same.ite (Same.widen (by decide) (finish_same _ _ _))
    (Same.call (finish_same _ _ _) (by decide)
      (Same.call (modCtrl_same _ _ _) (by decide)
        (Same.fold (fun _ _ => (Same.call (finish_same _ _ _) (by decide) (Same.put (Same.refl _ _) rfl))) _
          (Same.refl _ _))))

theorem enableController_same (f : Func) (cc : W32) (aqa : W32) (s : State) :
    Same [.fns, .nvm, .mgt, .out] s (enableController f cc aqa s) := by
  unfold enableController
  exact Same.ite (Same.refl _ _)
    (Same.ite
      (Same.call (ustChange_same _ _) (by decide)
        (Same.call (hscMark_same _ _) (by decide) (Same.widen (by decide) (modCtrl_same _ _ _))))
      (Same.call (ustChange_same _ _) (by decide)
        (Same.ite (Same.call (hscMark_same _ _) (by decide) (Same.widen (by decide) (modCtrl_same _ _ _)))
          (Same.widen (by decide) (modCtrl_same _ _ _)))))

theorem frozenWrite_same (s : State) :
    Same [.mqt] s (frozenWrite s) := by
  unfold frozenWrite
  exact Same.put (Same.refl _ _) rfl

theorem fnWrite_same (f : Func) (k : State → State) (s : State) {l : List Field} (hl : [.mqt].all (fun f => l.contains
    f) = true) (h1 : ∀ t, Same l t (k t)) :
    Same l s (fnWrite f k s) := by
  unfold fnWrite
  exact Same.ite (Same.refl _ _)
    (Same.ite (Same.widen (sub_all (by decide) hl) (frozenWrite_same _)) (Same.trans (Same.refl _ _) (h1 _)))

theorem execInterruptModeChange_ends (f : Func) (inputs : IntInputs) (s : State) :
    Ends [.fns, .out] s (execInterruptModeChange f inputs s) := by
  unfold execInterruptModeChange
  exact Ends.next (Same.ite (Same.widen (by decide) (modeChange_same _ _ _ _ _)) (Same.refl _ _))

theorem recordDoorbell_same (f : Func) (key : Nat) (v : Nat) (s : State) :
    Same [.mqt] s (recordDoorbell f key v s) := by
  unfold recordDoorbell
  exact Same.put (Same.refl _ _) rfl

theorem execMmioDoorbellWrite_ends (f : Func) (qid : Nat) (isCq : Bool) (value : W32) (s : State) :
    Ends [.fns, .nvm, .mqt, .ksc, .evs0, .evs1, .out] s (execMmioDoorbellWrite f qid isCq value s) := by
  unfold execMmioDoorbellWrite
  exact Ends.next
    (Same.ite (Same.refl _ _)
      (Same.ite (Same.widen (by decide) (recordDoorbell_same _ _ _ _))
        (Same.ite (Same.refl _ _)
          (Same.ite (Same.widen (by decide) (cqDoorbell_same _ _ _ _))
            (Same.widen (by decide) (sqDoorbell_same _ _ _ _))))))

theorem execShadowSweep_ends (f : Func) (qid : Nat) (shadowTail : Nat) (s : State) :
    Ends [.fns, .nvm, .ksc, .evs0, .evs1, .out] s (execShadowSweep f qid shadowTail s) := by
  unfold execShadowSweep
  exact Ends.next
    (Same.ite (Same.refl _ _) (by
      try dsimp only
      split
      · exact (Same.refl _ _)
      · exact (by
          try dsimp only
          split
          · exact (Same.refl _ _)
          · exact (Same.refl _ _)
          · exact (Same.ite (Same.widen (by decide) (doorbellError_same _ _ _))
              (Same.ite (Same.refl _ _) (Same.widen (by decide) (takeTail_same _ _ _ _))))
          · exact (Same.ite (Same.widen (by decide) (doorbellError_same _ _ _))
              (Same.ite (Same.widen (by decide) (setSq_same _ _ _)) (Same.widen (by decide) (takeTail_same _ _ _
              _)))))))

theorem execParkTimeout_ends (f : Func) (qid : Nat) (s : State) :
    Ends [.fns, .out] s (execParkTimeout f qid s) := by
  unfold execParkTimeout
  exact Ends.next
    (Same.ite (Same.refl _ _) (by
      try dsimp only
      split
      · exact (Same.refl _ _)
      · exact (Same.ite
          (Same.call (emitEventIdx_same _ _ _ _) (by decide) (Same.widen (by decide) (setSq_same _ _ _)))
          (Same.refl _ _))))

theorem execCqHeadReread_ends (f : Func) (qid : Nat) (head : Nat) (s : State) :
    Ends [.fns, .nvm, .ksc, .evs0, .evs1, .out] s (execCqHeadReread f qid head s) := by
  unfold execCqHeadReread
  exact Ends.next
    (Same.ite (Same.refl _ _) (by
      try dsimp only
      split
      · exact (Same.refl _ _)
      · exact (Same.ite (Same.widen (by decide) (doorbellError_same _ _ _))
          (Same.call (emitEventIdx_same _ _ _ _) (by decide) (Same.widen (by decide) (takeHead_same _ _ _ _))))))

theorem refuseCode_same (t : Tag) (f : Func) (op : W8) (s : State) :
    Same [.evr, .fns, .nvm, .ksc, .evs0, .evs1, .free, .out] s (refuseCode t f op s) := by
  unfold refuseCode
  exact Same.ite (Same.widen (by decide) (finish_same _ _ _))
    (Same.ite (Same.widen (by decide) (refuseCommit_same _ _ _ _)) (Same.widen (by decide) (finish_same _ _ _)))

theorem refuseUnlisted_same (f : Func) (sqe : Sqe) (s : State) :
    Same [.evr, .fns, .nvm, .ksc, .evs0, .evs1, .free, .out] s (refuseUnlisted f sqe s) := by
  unfold refuseUnlisted
  exact Same.ite (Same.widen (by decide) (finish_same _ _ _))
    (Same.ite (Same.widen (by decide) (finish_same _ _ _))
      (Same.ite (Same.widen (by decide) (refuseCode_same _ _ _ _)) (Same.refl _ _)))

theorem execCommandFetch_ends (f : Func) (sqe : Sqe) (s : State) :
    Ends [.evr, .fns, .nvm, .ftlData, .mgt, .ksc, .evs0, .evs1, .free, .out] s (execCommandFetch f sqe s) := by
  unfold execCommandFetch
  refine Ends.next ?_
  split
  · exact Same.refl _ _
  · refine Same.ite (Same.refl _ _) (Same.ite (Same.widen (by decide) (enterFatal_same _ _ _)) ?_)
    dsimp only
    split
    · exact Same.refl _ _
    · rename_i h
      exact Same.widen (by decide) (fetchCmd_same h)
    · rename_i h
      exact Same.call (refuseUnlisted_same _ _ _) (by decide) (Same.widen (by decide) (fetchCmd_same h))

theorem execFetchResume_ends (f : Func) (s : State) :
    Ends [.fns] s (execFetchResume f s) := by
  unfold execFetchResume
  exact Ends.next (Same.ite (Same.widen (by decide) (modCtrl_same _ _ _)) (Same.refl _ _))

theorem withFunc_same (t : Tag) (k : Func → State → State) (s : State) {l : List Field} (hl : [].all (fun f =>
    l.contains f) = true) (h1 : ∀ b0 t, Same l t (k b0 t)) :
    Same l s (withFunc t k s) := by
  unfold withFunc
  try dsimp only
  split
  · exact (Same.refl _ _)
  · exact (Same.trans (Same.refl _ _) (h1 _ _))

theorem execDeleteIoSq_ends (tag : Tag) (qid : Nat) (s : State) :
    Ends [.fns, .nvm, .ftlData, .mgt, .ksc, .evs0, .evs1, .out] s (execDeleteIoSq tag qid s) := by
  unfold execDeleteIoSq
  exact Ends.next
    (runAdmin_same _ _ _ _ _ _ _ _ _ (by decide)
      (fun _ => (withFunc_same _ _ _ (by decide) (fun _ _ => (Same.widen (by decide) (deleteSq_same _ _ _ _))))))

theorem execDeleteIoCq_ends (tag : Tag) (qid : Nat) (s : State) :
    Ends [.fns, .nvm, .mgt, .ksc, .evs0, .evs1, .out] s (execDeleteIoCq tag qid s) := by
  unfold execDeleteIoCq
  exact Ends.next
    (runAdmin_same _ _ _ _ _ _ _ _ _ (by decide)
      (fun _ => (withFunc_same _ _ _ (by decide) (fun _ _ => (Same.widen (by decide) (deleteCq_same _ _ _ _))))))

theorem execCreateIoSq_ends (tag : Tag) (q : NewSq) (s : State) :
    Ends [.fns, .nvm, .mgt, .ksc, .evs0, .evs1, .out] s (execCreateIoSq tag q s) := by
  unfold execCreateIoSq
  exact Ends.next
    (runAdmin_same _ _ _ _ _ _ _ _ _ (by decide)
      (fun _ => (withFunc_same _ _ _ (by decide) (fun _ _ => (Same.widen (by decide) (createSq_same _ _ _ _))))))

theorem execCreateIoCq_ends (tag : Tag) (q : NewCq) (s : State) :
    Ends [.fns, .nvm, .mgt, .ksc, .evs0, .evs1, .out] s (execCreateIoCq tag q s) := by
  unfold execCreateIoCq
  exact Ends.next
    (runAdmin_same _ _ _ _ _ _ _ _ _ (by decide)
      (fun _ => (withFunc_same _ _ _ (by decide) (fun _ _ => (Same.widen (by decide) (createCq_same _ _ _ _))))))

theorem execAbort_ends (tag : Tag) (sqid : Nat) (cid : W16) (s : State) :
    Ends [.fns, .nvm, .mgt, .ksc, .evs0, .evs1, .out] s (execAbort tag sqid cid s) := by
  unfold execAbort
  exact Ends.next
    (runAdmin_same _ _ _ _ _ _ _ _ _ (by decide)
      (fun _ => (withFunc_same _ _ _ (by decide) (fun _ _ => (Same.widen (by decide) (abortCmd_same _ _ _ _ _))))))

theorem requestEvent_same (t : Tag) (f : Func) (s : State) :
    Same [.fns, .nvm, .ksc, .evs0, .evs1, .out] s (requestEvent t f s) := by
  unfold requestEvent
  exact Same.ite (Same.refl _ _)
    (Same.ite (Same.widen (by decide) (finish_same _ _ _)) (by
      try dsimp only
      split
      · exact (Same.call (complete_same _ _ _ _) (by decide)
          (Same.call (noteAen_same _ _ _) (by decide)
            (Same.call (emit_same _ _) (by decide) (Same.widen (by decide) (modCtrl_same _ _ _)))))
      · exact (Same.widen (by decide) (modCtrl_same _ _ _))))

theorem execAsynchronousEventRequest_ends (tag : Tag) (s : State) :
    Ends [.fns, .nvm, .mgt, .ksc, .evs0, .evs1, .out] s (execAsynchronousEventRequest tag s) := by
  unfold execAsynchronousEventRequest
  exact Ends.next
    (runAdmin_same _ _ _ _ _ _ _ _ _ (by decide)
      (fun _ => (withFunc_same _ _ _ (by decide) (fun _ _ => (Same.widen (by decide) (requestEvent_same _ _ _))))))

theorem shadowConfig_same (t : Tag) (shadow : W64) (eventIdx : W64) (f : Func) (s : State) :
    Same [.fns, .nvm, .ksc, .evs0, .evs1, .out] s (shadowConfig t shadow eventIdx f s) := by
  unfold shadowConfig
  exact Same.ite (Same.widen (by decide) (finish_same _ _ _))
    (Same.call (finish_same _ _ _) (by decide)
      (Same.fold
        (fun _ _ => (Same.call (emitEventIdx_same _ _ _ _) (by decide) (Same.widen (by decide) (setSq_same _ _ _))))
        _ (Same.widen (by decide) (modCtrl_same _ _ _))))

theorem execDoorbellBufferConfig_ends (tag : Tag) (shadow : W64) (eventIdx : W64) (s : State) :
    Ends [.fns, .nvm, .mgt, .ksc, .evs0, .evs1, .out] s (execDoorbellBufferConfig tag shadow eventIdx s) := by
  unfold execDoorbellBufferConfig
  exact Ends.next
    (runAdmin_same _ _ _ _ _ _ _ _ _ (by decide)
      (fun _ => (withFunc_same _ _ _ (by decide) (fun _ _ => (Same.widen (by decide) (shadowConfig_same _ _ _ _
      _))))))

theorem execControllerEnable_ends (f : Func) (cc : W32) (aqa : W32) (s : State) :
    Ends [.fns, .nvm, .mqt, .mgt, .out] s (execControllerEnable f cc aqa s) := by
  unfold execControllerEnable
  exact Ends.next
    (fnWrite_same _ _ _ (by decide) (fun _ => (Same.widen (by decide) (enableController_same _ _ _ _))))

theorem execMsixVectorUnmask_ends (f : Func) (vector : Option Nat) (s : State) :
    Ends [.fns, .out] s (execMsixVectorUnmask f vector s) := by
  unfold execMsixVectorUnmask
  exact Ends.next
    (Same.ite (Same.refl _ _) (by
      try dsimp only
      split
      · exact (Same.ite (Same.refl _ _)
          (Same.call (releaseVector_same _ _ _) (by decide) (Same.widen (by decide) (modFn_same _ _ _))))
      · exact (Same.widen (by decide) (unmaskFunction_same _ _))))

theorem writeIntMask_same (f : Func) (set : Bool) (v : W32) (s : State) :
    Same [.fns, .out] s (writeIntMask f set v s) := by
  unfold writeIntMask
  try dsimp only
  split
  · exact (Same.fold (fun _ _ => (Same.ite (Same.widen (by decide) (signalCq_same _ _ _)) (Same.refl _ _))) _
      (Same.widen (by decide) (modCtrl_same _ _ _)))
  · exact (Same.call (intxFollow_same _ _) (by decide) (Same.widen (by decide) (modCtrl_same _ _ _)))

theorem execInterruptMaskWrite_ends (f : Func) (set : Bool) (value : W32) (s : State) :
    Ends [.fns, .mqt, .out] s (execInterruptMaskWrite f set value s) := by
  unfold execInterruptMaskWrite
  exact Ends.next (fnWrite_same _ _ _ (by decide) (fun _ => (Same.widen (by decide) (writeIntMask_same _ _ _ _))))

theorem execInterruptCoalescingTimeout_ends (f : Func) (s : State) :
    Ends [.fns, .out] s (execInterruptCoalescingTimeout f s) := by
  unfold execInterruptCoalescingTimeout
  exact Ends.next
    (Same.ite (Same.refl _ _)
      (Same.fold
        (fun _ _ =>
          (Same.ite (Same.refl _ _)
            (Same.call (signalCq_same _ _ _) (by decide) (Same.widen (by decide) (setCq_same _ _ _))))) _
        (Same.refl _ _)))

end Sys2Proof.Machine
end

