-- ==== Sys2Proof/Laws/FrameIo.lean ====
section
/-! SUPPORT. Frames of the operations of Machine/Io.lean: the fields each of them can change. -/
namespace Sys2Proof.Machine

theorem setPhase_same (t : Tag) (p : CmdPhase) (s : State) :
    Same [.fns] s (setPhase t p s) := by
  unfold setPhase
  try dsimp only
  split
  · exact (Same.refl _ _)
  · exact (Same.widen (by decide) (modCtrl_same _ _ _))

theorem execIoFlush_ends (tag : Tag) (nsid : W32) (s : State) :
    Ends [.fns, .nvm, .ksc, .evs0, .evs1, .out] s (execIoFlush tag nsid s) := by
  unfold execIoFlush
  exact Ends.next (by
    try dsimp only
    split
    · exact (Same.refl _ _)
    · exact (Same.ite (Same.refl _ _)
        (runFn_same _ _ _ _ _ _ (by decide)
          (fun _ => (by
            try dsimp only
            split
            · exact (Same.ite (Same.widen (by decide) (finish_same _ _ _))
                (Same.ite (Same.widen (by decide) (setPhase_same _ _ _)) (Same.widen (by decide) (finish_same _ _
                _))))
            · exact (Same.ite (Same.widen (by decide) (setPhase_same _ _ _))
                (Same.widen (by decide) (finish_same _ _ _))))))))

theorem runIo_same (t : Tag) (op : W8) (nsid : W32) (write : Bool) (k : Func → Ns → Option (Nat × W32) → State →
    State) (s : State) {l : List Field} (hl : [.fns, .nvm, .ksc, .evs0, .evs1, .out].all (fun f => l.contains f) =
    true) (h4 : ∀ b0 b1 b2 t, Same l t (k b0 b1 b2 t)) :
    Same l s (runIo t op nsid write k s) := by
  unfold runIo
  try dsimp only
  split
  · exact (Same.refl _ _)
  · exact (Same.ite (Same.refl _ _)
      (runFn_same _ _ _ _ _ _ (sub_all (by decide) hl)
        (fun _ => (by
          try dsimp only
          split
          · exact (Same.ite (Same.refl _ _)
              (Same.ite (Same.widen (sub_all (by decide) hl) (finish_same _ _ _))
                (Same.trans (Same.refl _ _) (h4 _ _ _ _))))
          · exact (Same.widen (sub_all (by decide) hl) (finish_same _ _ _))
          · exact (Same.refl _ _)))))

theorem finishWrite_same (t : Tag) (s : State) :
    Same [.fns, .nvm, .ksc, .evs0, .evs1, .out] s (finishWrite t s) := by
  unfold finishWrite
  exact Same.ite (Same.refl _ _) (Same.widen (by decide) (finish_same _ _ _))

theorem writeUnit_same (t : Tag) (nsid : Nat) (n : Ns) (slba : Nat) (count : Nat) (mk : Nat → Blk) (badLines : List
    Nat) (wt : Option Bool) (u : Nat) (s : State) :
    Same [.evr, .tab, .ftlData, .hold, .mqt, .ksc, .evs0, .evs1, .free] s (writeUnit t nsid n slba count mk badLines
    wt u s) := by
  unfold writeUnit
  exact Same.ite
    (Same.call (event_same _ _ _ _) (by decide) (by
      try dsimp only
      split
      · exact (Same.call (setLine_same _ _ _) (by decide)
          (Same.call (markDelta_same _) (by decide)
            (Same.call (dirtyIu_same _ _) (by decide) (Same.widen (by decide) (nextSeq_same _)))))
      · exact (Same.put
          (Same.call (markDelta_same _) (by decide)
            (Same.call (dirtyIu_same _ _) (by decide) (Same.widen (by decide) (nextSeq_same _)))) rfl))) (by
    try dsimp only
    split
    · exact (Same.call (setLine_same _ _ _) (by decide)
        (Same.call (markDelta_same _) (by decide)
          (Same.call (dirtyIu_same _ _) (by decide) (Same.widen (by decide) (nextSeq_same _)))))
    · exact (Same.put
        (Same.call (markDelta_same _) (by decide)
          (Same.call (dirtyIu_same _ _) (by decide) (Same.widen (by decide) (nextSeq_same _)))) rfl))

theorem writeUnits_same (t : Tag) (nsid : Nat) (n : Ns) (slba : Nat) (count : Nat) (mk : Nat → Blk) (badLines : List
    Nat) (fua : Bool) (us : List Nat) (s : State) :
    Same [.evr, .fns, .tab, .ftlData, .hold, .mqt, .ksc, .evs0, .evs1, .free] s (writeUnits t nsid n slba count mk
    badLines fua us s) := by
  unfold writeUnits
  exact Same.ite (Same.refl _ _)
    (Same.ite
      (Same.fold (fun _ _ => (Same.widen (by decide) (writeUnit_same _ _ _ _ _ _ _ _ _ _))) _ (Same.refl _ _))
      (Same.ite
        (Same.call (setPhase_same _ _ _) (by decide)
          (Same.fold (fun _ _ => (Same.widen (by decide) (writeUnit_same _ _ _ _ _ _ _ _ _ _))) _ (Same.refl _ _)))
        (Same.put
          (Same.call (setPhase_same _ _ _) (by decide)
            (Same.fold (fun _ _ => (Same.widen (by decide) (writeUnit_same _ _ _ _ _ _ _ _ _ _))) _ (Same.refl _ _)))
          rfl)))

theorem request_same (f : Func) (toHost : Bool) (s : State) (page : Nat) :
    Same [.fns, .out] s (request f toHost s page) := by
  unfold request
  split
  · exact Same.call (emit_same _ _) (by decide) (Same.widen (by decide) (modFn_same _ _ _))
  · exact Same.widen (by decide) (emit_same _ _)

theorem moves_same (f : Func) (toHost : Bool) (io : Io) (s : State) :
    Same [.fns, .out] s (moves f toHost io s) := by
  unfold moves
  exact Same.fold (fun _ _ => request_same _ _ _ _) _ (Same.refl _ _)

theorem execIoWrite_ends (tag : Tag) (io : Io) (fua : Bool) (sgl : List SglDesc) (data : Bytes) (host : Bytes)
    (badLines : List Nat) (s : State) :
    Ends [.evr, .fns, .nvm, .tab, .ftlData, .hold, .mqt, .ksc, .evs0, .evs1, .free, .out] s (execIoWrite tag io fua
    sgl data host badLines s) := by
  unfold execIoWrite
  exact Ends.next
    (runIo_same _ _ _ _ _ _ (by decide)
      (fun _ _ _ _ => (by
        try dsimp only
        split
        · exact (Same.widen (by decide) (finish_same _ _ _))
        · exact (Same.call (finishWrite_same _ _) (by decide)
            (Same.call (writeUnits_same _ _ _ _ _ _ _ _ _ _) (by decide)
              (Same.widen (by decide) (moves_same _ _ _ _)))))))

theorem mediaRead_same (env : MediaEnv) (limited : Bool) (quiet : Bool) (k : Nat) (s : State) :
    Same [.evr, .ftl, .flash, .ksc, .evs0, .evs1, .free] s (mediaRead env limited quiet k s) := by
  unfold mediaRead
  exact Same.ite (Same.refl _ _)
    (Same.ite
      (Same.ite
        (Same.call (countDegraded_same _ _) (by decide) (by
          try dsimp only
          split
          · exact (Same.fold (fun _ _ => (Same.widen (by decide) (queueOp_same _ _ _))) _
              (Same.widen (by decide) (queueOp_same _ _ _)))
          · exact (Same.widen (by decide) (queueOp_same _ _ _)))) (Same.widen (by decide) (queueOp_same _ _ _)))
      (Same.call (reportRead_same _ _ _ _ _) (by decide)
        (Same.ite
          (Same.call (countDegraded_same _ _) (by decide) (by
            try dsimp only
            split
            · exact (Same.fold (fun _ _ => (Same.widen (by decide) (queueOp_same _ _ _))) _
                (Same.widen (by decide) (queueOp_same _ _ _)))
            · exact (Same.widen (by decide) (queueOp_same _ _ _)))) (Same.widen (by decide) (queueOp_same _ _ _)))))

theorem touchRange_same (env : MediaEnv) (limited : Bool) (quiet : Bool) (nsid : Nat) (n : Ns) (slba : Nat) (count :
    Nat) (s : State) :
    Same [.evr, .ftl, .flash, .ksc, .evs0, .evs1, .free] s (touchRange env limited quiet nsid n slba count s) := by
  unfold touchRange
  exact Same.fold (fun _ _ => (Same.widen (by decide) (mediaRead_same _ _ _ _ _))) _ (Same.refl _ _)

theorem execIoRead_ends (tag : Tag) (io : Io) (limited : Bool) (sgl : List SglDesc) (media : MediaEnv) (s : State) :
    Ends [.evr, .fns, .nvm, .ftl, .flash, .ksc, .evs0, .evs1, .free, .out] s (execIoRead tag io limited sgl media s)
    := by
  unfold execIoRead
  exact Ends.next
    (runIo_same _ _ _ _ _ _ (by decide)
      (fun _ _ _ _ => (by
        try dsimp only
        split
        · exact (Same.widen (by decide) (finish_same _ _ _))
        · exact (Same.ite (Same.refl _ _) (by
            try dsimp only
            split
            · exact (Same.call (finish_same _ _ _) (by decide)
                (Same.widen (by decide) (touchRange_same _ _ _ _ _ _ _ _)))
            · exact (Same.call (finishData_same _ _ _) (by decide)
                (Same.call (moves_same _ _ _ _) (by decide)
                  (Same.widen (by decide) (touchRange_same _ _ _ _ _ _ _ _)))))))))

theorem specialOrWrite_same (t : Tag) (nsid : Nat) (n : Ns) (slba : Nat) (count : Nat) (special : BitVec 40) (part :
    Blk) (s : State) :
    Same [.evr, .fns, .tabMap, .tab, .ftlData, .hold, .mqt, .ksc, .evs0, .evs1, .free] s (specialOrWrite t nsid n slba
    count special part s) := by
  unfold specialOrWrite
  exact Same.call (writeUnits_same _ _ _ _ _ _ _ _ _ _) (by decide)
    (Same.fold (fun _ _ => (Same.widen (by decide) (specialIu_same _ _ _))) _ (Same.refl _ _))

theorem execWriteUncorrectable_ends (tag : Tag) (io : Io) (s : State) :
    Ends [.evr, .fns, .nvm, .tabMap, .tab, .ftlData, .hold, .mqt, .ksc, .evs0, .evs1, .free, .out] s
    (execWriteUncorrectable tag io s) := by
  unfold execWriteUncorrectable
  exact Ends.next
    (runIo_same _ _ _ _ _ _ (by decide)
      (fun _ _ _ _ =>
        (Same.ite (Same.widen (by decide) (finish_same _ _ _))
          (Same.call (finishWrite_same _ _) (by decide)
            (Same.widen (by decide) (specialOrWrite_same _ _ _ _ _ _ _ _))))))

theorem execIoCompare_ends (tag : Tag) (io : Io) (data : Bytes) (media : MediaEnv) (s : State) :
    Ends [.evr, .fns, .nvm, .ftl, .flash, .ksc, .evs0, .evs1, .free, .out] s (execIoCompare tag io data media s) := by
  unfold execIoCompare
  exact Ends.next
    (runIo_same _ _ _ _ _ _ (by decide)
      (fun _ _ _ _ => (by
        try dsimp only
        split
        · exact (Same.widen (by decide) (finish_same _ _ _))
        · exact (Same.ite (Same.refl _ _) (by
            try dsimp only
            split
            · exact (Same.call (finish_same _ _ _) (by decide)
                (Same.call (touchRange_same _ _ _ _ _ _ _ _) (by decide)
                  (Same.widen (by decide) (moves_same _ _ _ _))))
            · exact (Same.call (finish_same _ _ _) (by decide)
                (Same.call (touchRange_same _ _ _ _ _ _ _ _) (by decide)
                  (Same.widen (by decide) (moves_same _ _ _ _)))))))))

theorem execWriteZeroes_ends (tag : Tag) (io : Io) (deac : Bool) (s : State) :
    Ends [.evr, .fns, .nvm, .tabMap, .tab, .ftlData, .hold, .mqt, .ksc, .evs0, .evs1, .free, .out] s (execWriteZeroes
    tag io deac s) := by
  unfold execWriteZeroes
  exact Ends.next
    (runIo_same _ _ _ _ _ _ (by decide)
      (fun _ _ _ _ =>
        (Same.ite (Same.widen (by decide) (finish_same _ _ _))
          (Same.ite
            (Same.call (finishWrite_same _ _) (by decide)
              (Same.widen (by decide) (specialOrWrite_same _ _ _ _ _ _ _ _)))
            (Same.call (finishWrite_same _ _) (by decide)
              (Same.widen (by decide) (writeUnits_same _ _ _ _ _ _ _ _ _ _)))))))

theorem execDatasetManagement_ends (tag : Tag) (nsid : W32) (ad : Bool) (ranges : List DsmRange) (s : State) :
    Ends [.evr, .fns, .nvm, .tabMap, .tab, .ftlData, .hold, .mqt, .ksc, .evs0, .evs1, .free, .out] s
    (execDatasetManagement tag nsid ad ranges s) := by
  unfold execDatasetManagement
  exact Ends.next
    (runIo_same _ _ _ _ _ _ (by decide)
      (fun _ _ _ _ =>
        (Same.ite (Same.widen (by decide) (finish_same _ _ _))
          (Same.ite (Same.widen (by decide) (finish_same _ _ _))
            (Same.call (finishWrite_same _ _) (by decide)
              (Same.fold (fun _ _ => (Same.widen (by decide) (specialOrWrite_same _ _ _ _ _ _ _ _))) _
                (Same.refl _ _)))))))

theorem execIoVerify_ends (tag : Tag) (io : Io) (media : MediaEnv) (s : State) :
    Ends [.evr, .fns, .nvm, .ftl, .flash, .ksc, .evs0, .evs1, .free, .out] s (execIoVerify tag io media s) := by
  unfold execIoVerify
  exact Ends.next
    (runIo_same _ _ _ _ _ _ (by decide)
      (fun _ _ _ _ =>
        (Same.ite (Same.widen (by decide) (finish_same _ _ _))
          (Same.ite (Same.refl _ _)
            (Same.call (finish_same _ _ _) (by decide) (Same.widen (by decide) (touchRange_same _ _ _ _ _ _ _ _)))))))

theorem execSalvageRead_ends (tag : Tag) (nsid : W32) (slba : W64) (count : W16) (cont : Bool) (failedDies : Bool)
    (media : MediaEnv) (s : State) :
    Ends [.evr, .fns, .nvm, .ftl, .flash, .ksc, .evs0, .evs1, .free, .out] s (execSalvageRead tag nsid slba count cont
    failedDies media s) := by
  unfold execSalvageRead
  exact Ends.next
    (runIo_same _ _ _ _ _ _ (by decide)
      (fun _ _ _ _ =>
        (Same.ite (Same.widen (by decide) (finish_same _ _ _))
          (Same.ite (Same.widen (by decide) (finish_same _ _ _))
            (Same.ite (Same.refl _ _) (by
              try dsimp only
              split
              · exact (Same.call (complete_same _ _ _ _) (by decide)
                  (Same.call (emit_same _ _) (by decide) (Same.widen (by decide) (touchRange_same _ _ _ _ _ _ _ _))))
              · exact (Same.ite
                  (Same.call (complete_same _ _ _ _) (by decide)
                    (Same.call (emit_same _ _) (by decide)
                      (Same.put (Same.widen (by decide) (touchRange_same _ _ _ _ _ _ _ _)) rfl)))
                  (Same.call (complete_same _ _ _ _) (by decide)
                    (Same.put (Same.widen (by decide) (touchRange_same _ _ _ _ _ _ _ _)) rfl)))))))))

end Sys2Proof.Machine
end

