-- ==== Sys2Proof/Laws/FrameArmature.lean ====
section
/-! SUPPORT. Frames of the operations of Machine/Armature.lean: the fields each of them can change. -/
namespace Sys2Proof.Machine

theorem driveOut_same (i : Nat) (v : Int) (s : State) :
    Same [.arm] s (driveOut i v s) := by
  unfold driveOut
  exact Same.ite (Same.put (Same.refl _ _) rfl) (Same.refl _ _)

theorem setSlot_same (i : Nat) (x : ArmSlot) (s : State) :
    Same [.arm] s (setSlot i x s) := by
  unfold setSlot
  exact Same.put (Same.refl _ _) rfl

theorem noteShort_same (s : State) :
    Same [.pwr, .evs0, .evs1] s (noteShort s) := by
  unfold noteShort
  exact Same.ite (Same.call (evsSet_same _ _) (by decide) (Same.put (Same.refl _ _) rfl)) (Same.refl _ _)

theorem publish_same (ea : Int) (d : Int) (s : State) :
    Same [.pwr, .arm, .evs0, .evs1] s (publish ea d s) := by
  unfold publish
  exact Same.call (noteShort_same _) (by decide)
    (Same.call (noteLimit_same _ _) (by decide) (Same.put (Same.refl _ _) rfl))

theorem applyNext_same (i : Nat) (s : State) :
    Same [.arm] s (applyNext i s) := by
  unfold applyNext
  try dsimp only
  split
  · exact (Same.refl _ _)
  · exact (Same.widen (by decide) (setSlot_same _ _ _))

theorem endInject_same (i : Nat) (done : Bool) (s : State) :
    Same [.arm, .evs0, .evs1] s (endInject i done s) := by
  unfold endInject
  exact Same.ite
    (Same.call (evsSetIf_same _ _ _) (by decide)
      (Same.put
        (Same.call (noteLimit_same _ _) (by decide) (Same.put (Same.widen (by decide) (setSlot_same _ _ _)) rfl))
        rfl))
    (Same.call (evsSetIf_same _ _ _) (by decide)
      (Same.put
        (Same.call (noteLimit_same _ _) (by decide) (Same.put (Same.widen (by decide) (setSlot_same _ _ _)) rfl))
        rfl))

theorem armPowerFail_same (s : State) :
    Same [.arm, .evs0, .evs1] s (armPowerFail s) := by
  unfold armPowerFail
  exact Same.fold (fun _ _ => (Same.ite (Same.widen (by decide) (endInject_same _ _ _)) (Same.refl _ _))) _
    (Same.put (Same.refl _ _) rfl)

theorem closeWindows_same (mask : W8) (s : State) :
    Same [.arm, .evs0, .evs1] s (closeWindows mask s) := by
  unfold closeWindows
  exact Same.fold (fun _ _ => (Same.ite (Same.widen (by decide) (endInject_same _ _ _)) (Same.refl _ _))) _
    (Same.put (Same.refl _ _) rfl)

theorem countSlip_same (o : Nat) (s : State) :
    Same [.evr, .arm, .ksc, .evs0, .evs1, .free] s (countSlip o s) := by
  unfold countSlip
  exact Same.ite (Same.call (setSlot_same _ _ _) (by decide) (Same.put (Same.refl _ _) rfl))
    (Same.call (event_same _ _ _ _) (by decide)
      (Same.call (evsSetIf_same _ _ _) (by decide)
        (Same.put (Same.call (setSlot_same _ _ _) (by decide) (Same.put (Same.refl _ _) rfl)) rfl)))

theorem disableSlot_same (i : Nat) (s : State) :
    Same [.pwr, .arm, .evs0, .evs1] s (disableSlot i s) := by
  unfold disableSlot
  exact Same.ite
    (Same.call (publish_same _ _ _) (by decide)
      (Same.call (driveOut_same _ _ _) (by decide)
        (Same.call (setSlot_same _ _ _) (by decide)
          (Same.ite (Same.widen (by decide) (endInject_same _ _ _)) (Same.refl _ _)))))
    (Same.call (driveOut_same _ _ _) (by decide)
      (Same.call (setSlot_same _ _ _) (by decide)
        (Same.ite (Same.widen (by decide) (endInject_same _ _ _)) (Same.refl _ _))))

theorem holdFlushPower_same (s : State) :
    Same [.pwr, .free] s (holdFlushPower s) := by
  unfold holdFlushPower
  exact Same.ite (Same.call (drawn_same _ _) (by decide) (Same.put (Same.refl _ _) rfl)) (Same.refl _ _)

theorem execArmatureTraceLog_ends (tag : Tag) (lsp : BitVec 7) (length : Nat) (offset : Nat) (s : State) :
    Ends [.fns, .nvm, .mgt, .ksc, .evs0, .evs1, .free, .out] s (execArmatureTraceLog tag lsp length offset s) := by
  unfold execArmatureTraceLog
  exact Ends.next
    (runAdmin_same _ _ _ _ _ _ _ _ _ (by decide)
      (fun _ =>
        (Same.ite (Same.widen (by decide) (finish_same _ _ _))
          (Same.call (logReply_same _ _ _ _ _) (by decide) (Same.widen (by decide) (drawn_same _ _))))))

theorem sensorFaultSet_same (i : Nat) (s : State) :
    Same [.arm, .evs0, .evs1] s (sensorFaultSet i s) := by
  unfold sensorFaultSet
  exact Same.call (evsSetIf_same _ _ _) (by decide) (Same.put (Same.refl _ _) rfl)

theorem kscFrame_same (i : Nat) (e : TraceEntry) (s : State) :
    Same [.ksc, .evs0, .evs1] s (kscFrame i e s) := by
  unfold kscFrame
  exact Same.ite (Same.refl _ _)
    (Same.ite (Same.put (Same.refl _ _) rfl)
      (Same.call (kscPutClass_same _ _ _) (by decide) (Same.put (Same.refl _ _) rfl)))

theorem throttleFollow_same (out : Int) (umax : Int) (s : State) :
    Same [.evr, .arm, .ksc, .evs0, .evs1, .free] s (throttleFollow out umax s) := by
  unfold throttleFollow
  exact Same.ite
    (Same.call (event_same _ _ _ _) (by decide)
      (Same.call (evsSet_same _ _) (by decide) (Same.put (Same.put (Same.refl _ _) rfl) rfl)))
    (Same.ite
      (Same.call (event_same _ _ _ _) (by decide)
        (Same.call (evsSet_same _ _) (by decide) (Same.put (Same.put (Same.refl _ _) rfl) rfl)))
      (Same.put (Same.refl _ _) rfl))

theorem runFrame_same (i : Nat) (pulse : Bool) (slip : Bool) (s : State) :
    Same [.pwr, .evr, .arm, .ksc, .evs0, .evs1, .free] s (runFrame i pulse slip s) := by
  unfold runFrame
  exact Same.ite
    (Same.call (publish_same _ _ _) (by decide)
      (Same.ite
        (Same.call (throttleFollow_same _ _ _) (by decide)
          (Same.call (kscFrame_same _ _ _) (by decide)
            (Same.call (driveOut_same _ _ _) (by decide)
              (Same.ite
                (Same.call (sensorFaultSet_same _ _) (by decide) (Same.widen (by decide) (setSlot_same _ _ _)))
                (Same.widen (by decide) (setSlot_same _ _ _))))))
        (Same.call (kscFrame_same _ _ _) (by decide)
          (Same.call (driveOut_same _ _ _) (by decide)
            (Same.ite
              (Same.call (sensorFaultSet_same _ _) (by decide) (Same.widen (by decide) (setSlot_same _ _ _)))
              (Same.widen (by decide) (setSlot_same _ _ _)))))))
    (Same.ite
      (Same.call (throttleFollow_same _ _ _) (by decide)
        (Same.call (kscFrame_same _ _ _) (by decide)
          (Same.call (driveOut_same _ _ _) (by decide)
            (Same.ite
              (Same.call (sensorFaultSet_same _ _) (by decide) (Same.widen (by decide) (setSlot_same _ _ _)))
              (Same.widen (by decide) (setSlot_same _ _ _))))))
      (Same.call (kscFrame_same _ _ _) (by decide)
        (Same.call (driveOut_same _ _ _) (by decide)
          (Same.ite (Same.call (sensorFaultSet_same _ _) (by decide) (Same.widen (by decide) (setSlot_same _ _ _)))
            (Same.widen (by decide) (setSlot_same _ _ _))))))

theorem outerFrame_same (o : Nat) (pulse : Bool) (slip : Bool) (s : State) :
    Same [.pwr, .evr, .arm, .ksc, .evs0, .evs1, .free] s (outerFrame o pulse slip s) := by
  unfold outerFrame
  exact Same.call (runFrame_same _ _ _ _) (by decide) (Same.widen (by decide) (setSlot_same _ _ _))

theorem slotFrame_same (i : Nat) (m : Meas) (s : State) :
    Same [.pwr, .evr, .arm, .ksc, .evs0, .evs1, .free] s (slotFrame i m s) := by
  unfold slotFrame
  exact Same.ite (Same.refl _ _) (by
    try dsimp only
    split
    · exact (Same.call (runFrame_same _ _ _ _) (by decide)
        (Same.call (applyNext_same _ _) (by decide)
          (Same.call (holdFlushPower_same _) (by decide) (Same.put (Same.refl _ _) rfl))))
    · exact (Same.ite
        (Same.call (outerFrame_same _ _ _ _) (by decide)
          (Same.call (setSlot_same _ _ _) (by decide)
            (Same.call (runFrame_same _ _ _ _) (by decide)
              (Same.call (applyNext_same _ _) (by decide)
                (Same.call (applyNext_same _ _) (by decide)
                  (Same.call (setSlot_same _ _ _) (by decide)
                    (Same.call (holdFlushPower_same _) (by decide) (Same.put (Same.refl _ _) rfl))))))))
        (Same.call (runFrame_same _ _ _ _) (by decide)
          (Same.call (setSlot_same _ _ _) (by decide)
            (Same.call (holdFlushPower_same _) (by decide) (Same.put (Same.refl _ _) rfl))))))

theorem execSlotFrame_ends (slot : Nat) (meas : Meas) (s : State) :
    Ends [.pwr, .evr, .arm, .ksc, .evs0, .evs1, .free] s (execSlotFrame slot meas s) := by
  unfold execSlotFrame
  exact Ends.next (Same.widen (by decide) (slotFrame_same _ _ _))

theorem syncPulse_same (o : Nat) (s : State) :
    Same [.pwr, .evr, .arm, .ksc, .evs0, .evs1, .free] s (syncPulse o s) := by
  unfold syncPulse
  exact Same.ite (Same.refl _ _)
    (Same.ite (Same.widen (by decide) (countSlip_same _ _))
      (Same.call (outerFrame_same _ _ _ _) (by decide)
        (Same.call (applyNext_same _ _) (by decide)
          (Same.call (applyNext_same _ _) (by decide)
            (Same.ite (Same.widen (by decide) (countSlip_same _ _)) (Same.widen (by decide) (setSlot_same _ _ _)))))))

theorem execArmSyncEdge_ends (meas : Meas) (s : State) :
    Ends [.pwr, .evr, .arm, .ksc, .evs0, .evs1, .free] s (execArmSyncEdge meas s) := by
  unfold execArmSyncEdge
  exact Ends.next
    (Same.ite
      (Same.fold (fun _ _ => (Same.widen (by decide) (syncPulse_same _ _))) _ (Same.put (Same.refl _ _) rfl))
      (Same.refl _ _))

theorem execIndexPulseMissing_ends (slot : Nat) (meas : Meas) (s : State) :
    Ends [.pwr, .evr, .arm, .ksc, .evs0, .evs1, .free] s (execIndexPulseMissing slot meas s) := by
  unfold execIndexPulseMissing
  exact Ends.next
    (Same.ite (Same.refl _ _)
      (Same.call (outerFrame_same _ _ _ _) (by decide)
        (Same.call (applyNext_same _ _) (by decide)
          (Same.call (applyNext_same _ _) (by decide)
            (Same.call (countSlip_same _ _) (by decide) (Same.put (Same.refl _ _) rfl))))))

theorem execTokenRefill_ends (s : State) :
    Ends [.arm] s (execTokenRefill s) := by
  unfold execTokenRefill
  exact Ends.next (whilePowered_same _ _ (by decide) (fun _ => (Same.put (Same.refl _ _) rfl)))

theorem execInjectDone_ends (slot : Nat) (s : State) :
    Ends [.arm, .evs0, .evs1] s (execInjectDone slot s) := by
  unfold execInjectDone
  exact Ends.next (Same.ite (Same.widen (by decide) (endInject_same _ _ _)) (Same.refl _ _))

theorem execTuningWindowExpiry_ends (s : State) :
    Ends [.arm, .evs0, .evs1] s (execTuningWindowExpiry s) := by
  unfold execTuningWindowExpiry
  exact Ends.next (whilePowered_same _ _ (by decide) (fun _ => (Same.widen (by decide) (closeWindows_same _ _))))

theorem execArmReadConfig_ends (tag : Tag) (slot : BitVec 3) (length : W16) (s : State) :
    Ends [.fns, .nvm, .mgt, .ksc, .evs0, .evs1, .out] s (execArmReadConfig tag slot length s) := by
  unfold execArmReadConfig
  exact Ends.next
    (runAdmin_same _ _ _ _ _ _ _ _ _ (by decide)
      (fun _ =>
        (Same.ite (Same.widen (by decide) (finish_same _ _ _)) (Same.widen (by decide) (finishData_same _ _ _)))))

theorem takeCfg_same (i : Nat) (c : ArmCfg) (s : State) :
    Same [.arm] s (takeCfg i c s) := by
  unfold takeCfg
  exact Same.ite (Same.widen (by decide) (setSlot_same _ _ _)) (Same.widen (by decide) (setSlot_same _ _ _))

theorem writeConfig_same (t : Tag) (i : Nat) (length : W16) (block : Bytes) (s : State) :
    Same [.pwr, .fns, .nvm, .arm, .ksc, .evs0, .evs1, .out] s (writeConfig t i length block s) := by
  unfold writeConfig
  exact Same.ite (Same.widen (by decide) (finish_same _ _ _))
    (Same.ite (Same.widen (by decide) (finish_same _ _ _))
      (Same.ite (Same.widen (by decide) (finish_same _ _ _))
        (Same.ite (Same.widen (by decide) (finish_same _ _ _))
          (Same.call (finish_same _ _ _) (by decide)
            (Same.ite (Same.widen (by decide) (disableSlot_same _ _)) (Same.widen (by decide) (takeCfg_same _ _
            _)))))))

theorem execArmWriteConfig_ends (tag : Tag) (slot : BitVec 3) (length : W16) (block : Bytes) (s : State) :
    Ends [.pwr, .fns, .nvm, .arm, .mgt, .ksc, .evs0, .evs1, .out] s (execArmWriteConfig tag slot length block s) := by
  unfold execArmWriteConfig
  exact Ends.next
    (runAdmin_same _ _ _ _ _ _ _ _ _ (by decide) (fun _ => (Same.widen (by decide) (writeConfig_same _ _ _ _ _))))

theorem setModeNormal_same (t : Tag) (i : Nat) (d : BitVec 9) (s : State) :
    Same [.fns, .nvm, .arm, .ksc, .evs0, .evs1, .out] s (setModeNormal t i d s) := by
  unfold setModeNormal
  exact Same.ite (Same.widen (by decide) (finish_same _ _ _)) (by
    try dsimp only
    split
    · exact (Same.widen (by decide) (finish_same _ _ _))
    · exact (Same.widen (by decide) (finish_same _ _ _))
    · exact (Same.call (finish_same _ _ _) (by decide) (Same.widen (by decide) (setSlot_same _ _ _)))
    · exact (Same.call (finish_same _ _ _) (by decide) (Same.widen (by decide) (endInject_same _ _ _))))

theorem execArmSetModeNormal_ends (tag : Tag) (slot : BitVec 3) (traceDiv : BitVec 9) (s : State) :
    Ends [.fns, .nvm, .arm, .mgt, .ksc, .evs0, .evs1, .out] s (execArmSetModeNormal tag slot traceDiv s) := by
  unfold execArmSetModeNormal
  exact Ends.next
    (runAdmin_same _ _ _ _ _ _ _ _ _ (by decide) (fun _ => (Same.widen (by decide) (setModeNormal_same _ _ _ _))))

theorem setModeTrace_same (t : Tag) (i : Nat) (stop : Bool) (d : BitVec 9) (s : State) :
    Same [.fns, .nvm, .arm, .ksc, .evs0, .evs1, .out] s (setModeTrace t i stop d s) := by
  unfold setModeTrace
  exact Same.ite (Same.widen (by decide) (finish_same _ _ _))
    (Same.ite (Same.widen (by decide) (finish_same _ _ _))
      (Same.call (finish_same _ _ _) (by decide) (Same.widen (by decide) (setSlot_same _ _ _))))

theorem execArmSetModeTrace_ends (tag : Tag) (slot : BitVec 3) (traceStop : Bool) (traceDiv : BitVec 9) (s : State) :
    Ends [.fns, .nvm, .arm, .mgt, .ksc, .evs0, .evs1, .out] s (execArmSetModeTrace tag slot traceStop traceDiv s) :=
    by
  unfold execArmSetModeTrace
  exact Ends.next
    (runAdmin_same _ _ _ _ _ _ _ _ _ (by decide) (fun _ => (Same.widen (by decide) (setModeTrace_same _ _ _ _ _))))

theorem setModeInject_same (t : Tag) (i : Nat) (d : BitVec 9) (c13 : W32) (c14 : W32) (c15 : W32) (s : State) :
    Same [.fns, .nvm, .arm, .ksc, .evs0, .evs1, .out] s (setModeInject t i d c13 c14 c15 s) := by
  unfold setModeInject
  exact Same.ite (Same.widen (by decide) (finish_same _ _ _))
    (Same.ite (Same.widen (by decide) (finish_same _ _ _))
      (Same.call (finish_same _ _ _) (by decide) (Same.put (Same.widen (by decide) (setSlot_same _ _ _)) rfl)))

theorem execArmSetModeInject_ends (tag : Tag) (slot : BitVec 3) (traceDiv : BitVec 9) (cdw13 : W32) (cdw14 : W32)
    (cdw15 : W32) (s : State) :
    Ends [.fns, .nvm, .arm, .mgt, .ksc, .evs0, .evs1, .out] s (execArmSetModeInject tag slot traceDiv cdw13 cdw14
    cdw15 s) := by
  unfold execArmSetModeInject
  exact Ends.next
    (runAdmin_same _ _ _ _ _ _ _ _ _ (by decide)
      (fun _ => (Same.widen (by decide) (setModeInject_same _ _ _ _ _ _ _))))

theorem setWindow_same (t : Tag) (mask : W8) (seconds : W16) (s : State) :
    Same [.fns, .nvm, .arm, .ksc, .evs0, .evs1, .out] s (setWindow t mask seconds s) := by
  unfold setWindow
  exact Same.ite (Same.widen (by decide) (finish_same _ _ _))
    (Same.ite (Same.call (finish_same _ _ _) (by decide) (Same.widen (by decide) (closeWindows_same _ _)))
      (Same.call (finish_same _ _ _) (by decide) (Same.put (Same.refl _ _) rfl)))

theorem execArmSetWindow_ends (tag : Tag) (mask : W8) (seconds : W16) (s : State) :
    Ends [.fns, .nvm, .arm, .mgt, .ksc, .evs0, .evs1, .out] s (execArmSetWindow tag mask seconds s) := by
  unfold execArmSetWindow
  exact Ends.next
    (runAdmin_same _ _ _ _ _ _ _ _ _ (by decide) (fun _ => (Same.widen (by decide) (setWindow_same _ _ _ _))))

theorem setPolicy_same (t : Tag) (v : BitVec 11) (s : State) :
    Same [.fns, .nvm, .arm, .hold, .ksc, .evs0, .evs1, .out] s (setPolicy t v s) := by
  unfold setPolicy
  exact Same.ite (Same.widen (by decide) (finish_same _ _ _))
    (Same.call (finish_same _ _ _) (by decide) (Same.put (Same.refl _ _) rfl))

theorem execArmSetPolicy_ends (tag : Tag) (throttle : BitVec 11) (s : State) :
    Ends [.fns, .nvm, .arm, .hold, .mgt, .ksc, .evs0, .evs1, .out] s (execArmSetPolicy tag throttle s) := by
  unfold execArmSetPolicy
  exact Ends.next
    (runAdmin_same _ _ _ _ _ _ _ _ _ (by decide) (fun _ => (Same.widen (by decide) (setPolicy_same _ _ _))))

end Sys2Proof.Machine
end

