-- ==== Sys2Proof/Laws/FrameSpdm.lean ====
section
/-! SUPPORT. Frames of the operations of Machine/Spdm.lean: the fields each of them can change. -/
namespace Sys2Proof.Machine

theorem spdmEmit_same (i : SpdmInst) (ok : Bool) (b : Bytes) (s : State) :
    Same [.out] s (spdmEmit i ok b s) := by
  unfold spdmEmit
  exact Same.ite (Same.widen (by decide) (mgtRespond_same _ _)) (Same.widen (by decide) (emit_same _ _))

theorem spdmError_same (i : SpdmInst) (code : Nat) (data : Nat) (s : State) :
    Same [.out] s (spdmError i code data s) := by
  unfold spdmError
  exact Same.widen (by decide) (spdmEmit_same _ _ _ _)

theorem spdmUnsupported_same (i : SpdmInst) (code : Nat) (s : State) :
    Same [.out] s (spdmUnsupported i code s) := by
  unfold spdmUnsupported
  exact Same.widen (by decide) (spdmError_same _ _ _ _)

theorem spdmDo_ends (i : SpdmInst) (ok : Spdm → Bool) (k : State → State) (s : State) {l : List Field} (hl :
    [.out].all (fun f => l.contains f) = true) (h2 : ∀ t, Same l t (k t)) :
    Ends l s (spdmDo i ok k s) := by
  unfold spdmDo
  exact Ends.next
    (Same.ite (Same.refl _ _)
      (Same.ite (Same.trans (Same.refl _ _) (h2 _)) (Same.widen (sub_all (by decide) hl) (spdmError_same _ _ _ _))))

theorem setSpdm_same (i : SpdmInst) (x : Spdm) (s : State) :
    Same [.trust] s (setSpdm i x s) := by
  unfold setSpdm
  try dsimp only
  split
  · exact (Same.put (Same.refl _ _) rfl)
  · exact (Same.put (Same.refl _ _) rfl)
  · exact (Same.put (Same.refl _ _) rfl)

theorem spdmReply_same (i : SpdmInst) (b : Bytes) (s : State) :
    Same [.trust, .out] s (spdmReply i b s) := by
  unfold spdmReply
  exact Same.ite (Same.call (spdmEmit_same _ _ _ _) (by decide) (Same.widen (by decide) (setSpdm_same _ _ _)))
    (Same.widen (by decide) (spdmEmit_same _ _ _ _))

theorem spdmChallengeServed_same (inst : SpdmInst) (summary : W8) (body : Bytes) (s : State) :
    Same [.trust, .free, .out] s (spdmChallengeServed inst summary body s) := by
  unfold spdmChallengeServed
  exact Same.call (spdmReply_same _ _ _) (by decide)
    (Same.call (signedOnce_same _) (by decide)
      (Same.call (setSpdm_same _ _ _) (by decide) (Same.widen (by decide) (drawn_same _ _))))

theorem execSpdmChallenge_ends (inst : SpdmInst) (slot : Nat) (s : State) (summary : optParam W8 0) (body : optParam
    Bytes []) :
    Ends [.trust, .free, .out] s (execSpdmChallenge inst slot s summary body) := by
  unfold execSpdmChallenge
  exact Ends.trans (Same.refl _ _)
    (spdmDo_ends _ _ _ _ (by decide)
      (fun _ =>
        (Same.ite (Same.widen (by decide) (spdmError_same _ _ _ _))
          (withEntropy_same _ _ _ _ (by decide)
            (fun _ => (Same.widen (by decide) (spdmChallengeServed_same _ _ _ _)))
            (fun _ => (Same.widen (by decide) (spdmError_same _ _ _ _)))))))

theorem spdmMeasServed_same (inst : SpdmInst) (index : Nat) (signed : Bool) (body : Bytes) (s : State) :
    Same [.trust, .free, .out] s (spdmMeasServed inst index signed body s) := by
  unfold spdmMeasServed
  try dsimp only
  split
  · exact (Same.widen (by decide) (spdmError_same _ _ _ _))
  · exact (Same.ite
      (Same.call (spdmReply_same _ _ _) (by decide)
        (Same.call (signedOnce_same _) (by decide)
          (Same.call (setSpdm_same _ _ _) (by decide) (Same.widen (by decide) (drawn_same _ _)))))
      (Same.call (spdmReply_same _ _ _) (by decide)
        (Same.call (setSpdm_same _ _ _) (by decide) (Same.widen (by decide) (drawn_same _ _)))))

theorem execSpdmGetMeasurements_ends (inst : SpdmInst) (index : Nat) (signed : Bool) (s : State) (body : optParam
    Bytes []) :
    Ends [.trust, .free, .out] s (execSpdmGetMeasurements inst index signed s body) := by
  unfold execSpdmGetMeasurements
  exact Ends.trans (Same.refl _ _)
    (spdmDo_ends _ _ _ _ (by decide)
      (fun _ =>
        (withEntropy_same _ _ _ _ (by decide) (fun _ => (Same.widen (by decide) (spdmMeasServed_same _ _ _ _ _)))
          (fun _ => (Same.widen (by decide) (spdmError_same _ _ _ _))))))

theorem spdmKeyExchangeServed_same (inst : SpdmInst) (summary : W8) (body : Bytes) (s : State) :
    Same [.trust, .free, .out] s (spdmKeyExchangeServed inst summary body s) := by
  unfold spdmKeyExchangeServed
  exact Same.ite (Same.widen (by decide) (spdmError_same _ _ _ _))
    (Same.call (spdmReply_same _ _ _) (by decide)
      (Same.call (signedOnce_same _) (by decide)
        (Same.call (setSpdm_same _ _ _) (by decide) (Same.widen (by decide) (drawn_same _ _)))))

theorem execSpdmKeyExchange_ends (inst : SpdmInst) (slot : Nat) (s : State) (summary : optParam W8 0) (body : optParam
    Bytes []) :
    Ends [.trust, .free, .out] s (execSpdmKeyExchange inst slot s summary body) := by
  unfold execSpdmKeyExchange
  exact Ends.trans (Same.refl _ _)
    (spdmDo_ends _ _ _ _ (by decide)
      (fun _ =>
        (Same.ite (Same.widen (by decide) (spdmError_same _ _ _ _))
          (withEntropy_same _ _ _ _ (by decide)
            (fun _ => (Same.widen (by decide) (spdmKeyExchangeServed_same _ _ _ _)))
            (fun _ => (Same.widen (by decide) (spdmError_same _ _ _ _)))))))

theorem setIde_same (p : Pf) (x : Ide) (s : State) :
    Same [.trust, .evs0, .evs1] s (setIde p x s) := by
  unfold setIde
  exact Same.call (evsSetIf_same _ _ _) (by decide) (by
    try dsimp only
    split
    · exact (Same.put (Same.refl _ _) rfl)
    · exact (Same.put (Same.refl _ _) rfl))

theorem ideClear_same (p : Pf) (s : State) :
    Same [.trust, .evs0, .evs1] s (ideClear p s) := by
  unfold ideClear
  exact Same.widen (by decide) (setIde_same _ _ _)

theorem ideKeyProg_same (p : Pf) (k : IdeKeyRef) (v : BitVec 256) (s : State) :
    Same [.trust, .evs0, .evs1, .free, .out] s (ideKeyProg p k v s) := by
  unfold ideKeyProg
  exact Same.ite (Same.call (emit_same _ _) (by decide) (Same.widen (by decide) (drawn_same _ _)))
    (Same.call (emit_same _ _) (by decide) (Same.widen (by decide) (setIde_same _ _ _)))

theorem ideSetGo_same (p : Pf) (k : IdeKeyRef) (s : State) :
    Same [.trust, .evs0, .evs1, .out] s (ideSetGo p k s) := by
  unfold ideSetGo
  exact Same.ite (Same.call (emit_same _ _) (by decide) (Same.widen (by decide) (setIde_same _ _ _)))
    (Same.widen (by decide) (emit_same _ _))

theorem ideSetStop_same (p : Pf) (k : IdeKeyRef) (s : State) :
    Same [.trust, .evs0, .evs1, .out] s (ideSetStop p k s) := by
  unfold ideSetStop
  exact Same.call (emit_same _ _) (by decide) (Same.widen (by decide) (setIde_same _ _ _))

theorem ideKmDo_same (p : Pf) (m : IdeKmMsg) (s : State) :
    Same [.trust, .evs0, .evs1, .free, .out] s (ideKmDo p m s) := by
  unfold ideKmDo
  try dsimp only
  split
  · exact (Same.widen (by decide) (emit_same _ _))
  · exact (Same.widen (by decide) (ideKeyProg_same _ _ _ _))
  · exact (Same.widen (by decide) (ideSetGo_same _ _ _))
  · exact (Same.widen (by decide) (ideSetStop_same _ _ _))

theorem ideKmIn_same (p : Pf) (session : Nat) (m : IdeKmMsg) (s : State) :
    Same [.trust, .evs0, .evs1, .free, .out] s (ideKmIn p session m s) := by
  unfold ideKmIn
  exact Same.ite (Same.refl _ _)
    (Same.ite (Same.widen (by decide) (ideKmDo_same _ _ _)) (Same.widen (by decide) (spdmError_same _ _ _ _)))

theorem execIdeKmQuery_ends (port : Pf) (session : Nat) (s : State) :
    Ends [.trust, .evs0, .evs1, .free, .out] s (execIdeKmQuery port session s) := by
  unfold execIdeKmQuery
  exact Ends.next (Same.widen (by decide) (ideKmIn_same _ _ _ _))

theorem execIdeKmKeyProg_ends (port : Pf) (session : Nat) (key : IdeKeyRef) (s : State) (value : optParam (BitVec 256)
    0) :
    Ends [.trust, .evs0, .evs1, .free, .out] s (execIdeKmKeyProg port session key s value) := by
  unfold execIdeKmKeyProg
  exact Ends.next (Same.widen (by decide) (ideKmIn_same _ _ _ _))

theorem execIdeKmKSetGo_ends (port : Pf) (session : Nat) (key : IdeKeyRef) (s : State) :
    Ends [.trust, .evs0, .evs1, .free, .out] s (execIdeKmKSetGo port session key s) := by
  unfold execIdeKmKSetGo
  exact Ends.next (Same.widen (by decide) (ideKmIn_same _ _ _ _))

theorem execIdeKmKSetStop_ends (port : Pf) (session : Nat) (key : IdeKeyRef) (s : State) :
    Ends [.trust, .evs0, .evs1, .free, .out] s (execIdeKmKSetStop port session key s) := by
  unfold execIdeKmKSetStop
  exact Ends.next (Same.widen (by decide) (ideKmIn_same _ _ _ _))

theorem execSpdmGetVersion_ends (inst : SpdmInst) (s : State) :
    Ends [.trust, .out] s (execSpdmGetVersion inst s) := by
  unfold execSpdmGetVersion
  exact Ends.trans (Same.refl _ _)
    (spdmDo_ends _ _ _ _ (by decide)
      (fun _ => (Same.call (spdmReply_same _ _ _) (by decide) (Same.widen (by decide) (setSpdm_same _ _ _)))))

theorem execSpdmGetCapabilities_ends (inst : SpdmInst) (s : State) (body : optParam Bytes []) :
    Ends [.trust, .out] s (execSpdmGetCapabilities inst s body) := by
  unfold execSpdmGetCapabilities
  exact Ends.trans (Same.refl _ _)
    (spdmDo_ends _ _ _ _ (by decide)
      (fun _ => (Same.call (spdmReply_same _ _ _) (by decide) (Same.widen (by decide) (setSpdm_same _ _ _)))))

theorem execSpdmNegotiateAlgorithms_ends (inst : SpdmInst) (offers : SpdmOffer) (s : State) (body : optParam Bytes [])
    :
    Ends [.trust, .out] s (execSpdmNegotiateAlgorithms inst offers s body) := by
  unfold execSpdmNegotiateAlgorithms
  exact Ends.trans (Same.refl _ _)
    (spdmDo_ends _ _ _ _ (by decide)
      (fun _ =>
        (Same.ite (Same.widen (by decide) (spdmError_same _ _ _ _))
          (Same.call (spdmReply_same _ _ _) (by decide) (Same.widen (by decide) (setSpdm_same _ _ _))))))

theorem noteCerts_same (inst : SpdmInst) (b : Bytes) (s : State) :
    Same [.trust] s (noteCerts inst b s) := by
  unfold noteCerts
  exact Same.widen (by decide) (setSpdm_same _ _ _)

theorem execSpdmGetDigests_ends (inst : SpdmInst) (s : State) :
    Ends [.trust, .out] s (execSpdmGetDigests inst s) := by
  unfold execSpdmGetDigests
  exact Ends.trans (Same.refl _ _)
    (spdmDo_ends _ _ _ _ (by decide)
      (fun _ => (Same.call (spdmReply_same _ _ _) (by decide) (Same.widen (by decide) (noteCerts_same _ _ _)))))

theorem execSpdmGetCertificate_ends (inst : SpdmInst) (slot : Nat) (offset : Nat) (length : Nat) (s : State) :
    Ends [.trust, .out] s (execSpdmGetCertificate inst slot offset length s) := by
  unfold execSpdmGetCertificate
  exact Ends.trans (Same.refl _ _)
    (spdmDo_ends _ _ _ _ (by decide)
      (fun _ =>
        (Same.ite (Same.widen (by decide) (spdmError_same _ _ _ _))
          (Same.call (spdmReply_same _ _ _) (by decide) (Same.widen (by decide) (noteCerts_same _ _ _))))))

theorem modSession_same (inst : SpdmInst) (id : Nat) (g : SpdmSess → SpdmSess) (s : State) :
    Same [.trust] s (modSession inst id g s) := by
  unfold modSession
  exact Same.widen (by decide) (setSpdm_same _ _ _)

theorem spdmFinish_same (inst : SpdmInst) (session : Nat) (mac : Digest) (s : State) :
    Same [.trust, .out] s (spdmFinish inst session mac s) := by
  unfold spdmFinish
  try dsimp only
  split
  · exact (Same.refl _ _)
  · exact (Same.ite
      (Same.call (spdmReply_same _ _ _) (by decide) (Same.widen (by decide) (modSession_same _ _ _ _)))
      (Same.call (spdmError_same _ _ _ _) (by decide) (Same.widen (by decide) (setSpdm_same _ _ _))))

theorem execSpdmFinish_ends (inst : SpdmInst) (session : Nat) (mac : Digest) (s : State) :
    Ends [.trust, .out] s (execSpdmFinish inst session mac s) := by
  unfold execSpdmFinish
  exact Ends.trans (Same.refl _ _)
    (spdmDo_ends _ _ _ _ (by decide) (fun _ => (Same.widen (by decide) (spdmFinish_same _ _ _ _))))

theorem execSpdmKeyUpdate_ends (inst : SpdmInst) (session : Nat) (s : State) (op : optParam W8 1) (mark : optParam W8
    0) :
    Ends [.trust, .out] s (execSpdmKeyUpdate inst session s op mark) := by
  unfold execSpdmKeyUpdate
  exact Ends.trans (Same.refl _ _)
    (spdmDo_ends _ _ _ _ (by decide)
      (fun _ =>
        (Same.ite (Same.call (spdmReply_same _ _ _) (by decide) (Same.widen (by decide) (modSession_same _ _ _ _)))
          (Same.widen (by decide) (spdmError_same _ _ _ _)))))

theorem execSpdmHeartbeat_ends (inst : SpdmInst) (session : Nat) (s : State) :
    Ends [.trust, .out] s (execSpdmHeartbeat inst session s) := by
  unfold execSpdmHeartbeat
  exact Ends.trans (Same.refl _ _)
    (spdmDo_ends _ _ _ _ (by decide) (fun _ => (Same.widen (by decide) (spdmReply_same _ _ _))))

theorem execSpdmEndSession_ends (inst : SpdmInst) (session : Nat) (s : State) :
    Ends [.trust, .out] s (execSpdmEndSession inst session s) := by
  unfold execSpdmEndSession
  exact Ends.trans (Same.refl _ _)
    (spdmDo_ends _ _ _ _ (by decide)
      (fun _ => (Same.call (spdmReply_same _ _ _) (by decide) (Same.widen (by decide) (setSpdm_same _ _ _)))))

theorem execSpdmChunkGet_ends (inst : SpdmInst) (handle : Nat) (seq : Nat) (s : State) :
    Ends [.trust, .out] s (execSpdmChunkGet inst handle seq s) := by
  unfold execSpdmChunkGet
  exact Ends.trans (Same.refl _ _)
    (spdmDo_ends _ _ _ _ (by decide)
      (fun _ => (by
        try dsimp only
        split
        · exact (Same.call (spdmEmit_same _ _ _ _) (by decide) (Same.widen (by decide) (setSpdm_same _ _ _)))
        · exact (Same.refl _ _))))

theorem execSpdmVendorDefined_ends (inst : SpdmInst) (session : Option Nat) (msg : IdeKmMsg) (s : State) :
    Ends [.trust, .evs0, .evs1, .free, .out] s (execSpdmVendorDefined inst session msg s) := by
  unfold execSpdmVendorDefined
  exact Ends.next (by
    try dsimp only
    split
    · exact (Same.widen (by decide) (ideKmIn_same _ _ _ _))
    · exact (Same.ite (Same.widen (by decide) (spdmError_same _ _ _ _)) (Same.refl _ _)))

theorem ideFail_same (p : Pf) (n : Nat) (s : State) :
    Same [.trust, .evs0, .evs1] s (ideFail p n s) := by
  unfold ideFail
  exact Same.widen (by decide) (setIde_same _ _ _)

end Sys2Proof.Machine
end

