-- ==== Sys2Proof/Laws/FrameFnReset.lean ====
section
/-! SUPPORT. Frames of the operations of Machine/FnReset.lean: the fields each of them can change. -/
namespace Sys2Proof.Machine

theorem setPort_same (p : Pf) (x : Port) (s : State) :
    Same [.port0, .port1, .evs0, .evs1] s (setPort p x s) := by
  unfold setPort
  exact Same.call (evsSetIf_same _ _ _) (by decide) (by
    try dsimp only
    split
    · exact (Same.put (Same.refl _ _) rfl)
    · exact (Same.put (Same.refl _ _) rfl))

theorem endDownloadOf_same (f : Func) (s : State) :
    Same [.evr, .upd, .ksc, .evs0, .evs1, .free] s (endDownloadOf f s) := by
  unfold endDownloadOf
  exact Same.ite
    (Same.call (event_same _ _ _ _) (by decide)
      (Same.call (evsSet_same _ _) (by decide) (Same.put (Same.refl _ _) rfl))) (Same.refl _ _)

theorem resetFn_same (f : Func) (keepOnline : Bool) (s : State) :
    Same [.evr, .upd, .fns, .nvm, .ftlData, .mgt, .ksc, .evs0, .evs1, .free, .out] s (resetFn f keepOnline s) := by
  unfold resetFn
  exact Same.call (endDownloadOf_same _ _) (by decide)
    (Same.call (ustChange_same _ _) (by decide)
      (Same.ite
        (Same.call (setEvs_same _ _ _) (by decide)
          (Same.call (setFn_same _ _ _) (by decide)
            (Same.call (endCommands_same _ _) (by decide)
              (Same.ite
                (Same.call (emit_same _ _) (by decide)
                  (Same.ite (Same.widen (by decide) (hscMark_same _ _)) (Same.refl _ _)))
                (Same.ite (Same.widen (by decide) (hscMark_same _ _)) (Same.refl _ _))))))
        (Same.call (setFn_same _ _ _) (by decide)
          (Same.call (endCommands_same _ _) (by decide)
            (Same.ite
              (Same.call (emit_same _ _) (by decide)
                (Same.ite (Same.widen (by decide) (hscMark_same _ _)) (Same.refl _ _)))
              (Same.ite (Same.widen (by decide) (hscMark_same _ _)) (Same.refl _ _)))))))

theorem flrOf_same (f : Func) (s : State) :
    Same [.trust, .evr, .upd, .fns, .nvm, .tabMap, .tabNss, .tabKeys, .ftlData, .hold, .mqt, .mgt, .ksc, .evs0, .evs1,
    .free, .out] s (flrOf f s) := by
  unfold flrOf
  exact Same.ite
    (Same.call (setSpdm_same _ _ _) (by decide)
      (Same.call (ideClear_same _ _) (by decide)
        (Same.call (resetFn_same _ _ _) (by decide)
          (Same.fold (fun _ _ => (Same.widen (by decide) (resetFn_same _ _ _))) _
            (Same.widen (by decide) (resetSessions_same _ _))))))
    (Same.call (resetFn_same _ _ _) (by decide)
      (Same.fold (fun _ _ => (Same.widen (by decide) (resetFn_same _ _ _))) _
        (Same.widen (by decide) (resetSessions_same _ _))))

theorem clearVfs_same (pf : Pf) (s : State) :
    Same [.trust, .evr, .upd, .fns, .nvm, .tabMap, .tabNss, .tabKeys, .ftlData, .hold, .mqt, .mgt, .ksc, .evs0, .evs1,
    .free, .out] s (clearVfs pf s) := by
  unfold clearVfs
  exact Same.call (modFn_same _ _ _) (by decide)
    (Same.fold (fun _ _ => (Same.widen (by decide) (resetFn_same _ _ _))) _
      (Same.widen (by decide) (resetSessions_same _ _)))

theorem portDown_same (p : Pf) (s : State) :
    Same [.port0, .port1, .evs0, .evs1] s (portDown p s) := by
  unfold portDown
  exact Same.widen (by decide) (setPort_same _ _ _)

theorem linkResetOf_same (p : Pf) (s : State) :
    Same [.trust, .evr, .upd, .port0, .port1, .fns, .nvm, .tabMap, .tabNss, .tabKeys, .ftlData, .hold, .mqt, .mgt,
    .ksc, .evs0, .evs1, .free, .out] s (linkResetOf p s) := by
  unfold linkResetOf
  exact Same.call (portDown_same _ _) (by decide)
    (Same.call (setSpdm_same _ _ _) (by decide)
      (Same.call (ideClear_same _ _) (by decide)
        (Same.ite
          (Same.call (setEvs_same _ _ _) (by decide)
            (Same.ite
              (Same.call (setEvs_same _ _ _) (by decide)
                (Same.fold (fun _ _ => (Same.widen (by decide) (resetFn_same _ _ _))) _
                  (Same.widen (by decide) (resetSessions_same _ _))))
              (Same.fold (fun _ _ => (Same.widen (by decide) (resetFn_same _ _ _))) _
                (Same.widen (by decide) (resetSessions_same _ _)))))
          (Same.ite
            (Same.call (setEvs_same _ _ _) (by decide)
              (Same.fold (fun _ _ => (Same.widen (by decide) (resetFn_same _ _ _))) _
                (Same.widen (by decide) (resetSessions_same _ _))))
            (Same.fold (fun _ _ => (Same.widen (by decide) (resetFn_same _ _ _))) _
              (Same.widen (by decide) (resetSessions_same _ _)))))))

theorem execLinkReset_ends (port : Pf) (s : State) :
    Ends [.trust, .evr, .upd, .port0, .port1, .fns, .nvm, .tabMap, .tabNss, .tabKeys, .ftlData, .hold, .mqt, .mgt,
    .ksc, .evs0, .evs1, .free, .out] s (execLinkReset port s) := by
  unfold execLinkReset
  exact Ends.next (Same.ite (Same.widen (by decide) (linkResetOf_same _ _)) (Same.refl _ _))

theorem resetCtrl_same (f : Func) (s : State) :
    Same [.evr, .upd, .fns, .nvm, .ftlData, .mgt, .ksc, .evs0, .evs1, .free, .out] s (resetCtrl f s) := by
  unfold resetCtrl
  exact Same.call (endDownloadOf_same _ _) (by decide)
    (Same.call (ustChange_same _ _) (by decide)
      (Same.call (intxFollow_same _ _) (by decide)
        (Same.call (modFn_same _ _ _) (by decide)
          (Same.call (endCommands_same _ _) (by decide)
            (Same.ite (Same.widen (by decide) (hscMark_same _ _)) (Same.refl _ _))))))

theorem subsystemResetOf_same (s : State) :
    Same [.trust, .evr, .upd, .fns, .nvm, .tabMap, .tabNss, .tabKeys, .ftlData, .hold, .mqt, .mgt, .ksc, .evs0, .evs1,
    .free, .out] s (subsystemResetOf s) := by
  unfold subsystemResetOf
  exact Same.fold
    (fun _ _ => (Same.call (modFn_same _ _ _) (by decide) (Same.widen (by decide) (resetCtrl_same _ _)))) _
    (Same.widen (by decide) (resetSessions_same _ _))

theorem execSubsystemReset_ends (value : W32) (s : State) :
    Ends [.trust, .evr, .upd, .fns, .nvm, .tabMap, .tabNss, .tabKeys, .ftlData, .hold, .mqt, .mgt, .ksc, .evs0, .evs1,
    .free, .out] s (execSubsystemReset value s) := by
  unfold execSubsystemReset
  exact Ends.next (Same.ite (Same.widen (by decide) (subsystemResetOf_same _)) (Same.refl _ _))

theorem execFlr_ends (f : Func) (s : State) :
    Ends [.trust, .evr, .upd, .fns, .nvm, .tabMap, .tabNss, .tabKeys, .ftlData, .hold, .mqt, .mgt, .ksc, .evs0, .evs1,
    .free, .out] s (execFlr f s) := by
  unfold execFlr
  exact Ends.next (Same.ite (Same.widen (by decide) (flrOf_same _ _)) (Same.refl _ _))

theorem execVfEnableClear_ends (pf : Pf) (s : State) :
    Ends [.trust, .evr, .upd, .fns, .nvm, .tabMap, .tabNss, .tabKeys, .ftlData, .hold, .mqt, .mgt, .ksc, .evs0, .evs1,
    .free, .out] s (execVfEnableClear pf s) := by
  unfold execVfEnableClear
  exact Ends.next (Same.ite (Same.widen (by decide) (clearVfs_same _ _)) (Same.refl _ _))

theorem execControllerReset_ends (f : Func) (s : State) :
    Ends [.evr, .upd, .fns, .nvm, .ftlData, .mqt, .mgt, .ksc, .evs0, .evs1, .free, .out] s (execControllerReset f s)
    := by
  unfold execControllerReset
  exact Ends.next
    (fnWrite_same _ _ _ (by decide)
      (fun _ => (Same.ite (Same.widen (by decide) (resetCtrl_same _ _)) (Same.refl _ _))))

end Sys2Proof.Machine
end

