-- ==== Sys2Proof/Laws/FrameReserve.lean ====
section
/-! SUPPORT. Frames of the operations of Machine/Reserve.lean: the fields each of them can change. -/
namespace Sys2Proof.Machine

theorem abortHost_same (nsid : Nat) (src : Source) (s : State) :
    Same [.fns, .nvm, .ksc, .evs0, .evs1, .out] s (abortHost nsid src s) := by
  unfold abortHost
  try dsimp only
  split
  · exact (Same.refl _ _)
  · exact (Same.fold (fun _ _ => (Same.widen (by decide) (finish_same _ _ _))) _ (Same.refl _ _))

theorem modNs_same (nsid : Nat) (g : Ns → Ns) (s : State) :
    Same [.tabNss, .hold] s (modNs nsid g s) := by
  unfold modNs
  try dsimp only
  split
  · exact (Same.call (markDelta_same _) (by decide) (Same.put (Same.refl _ _) rfl))
  · exact (Same.refl _ _)

theorem runRsv_same (t : Tag) (op : W8) (nsid : W32) (k : Func → Ns → State → State) (s : State) {l : List Field} (hl
    : [.fns, .nvm, .ksc, .evs0, .evs1, .out].all (fun f => l.contains f) = true) (h3 : ∀ b0 b1 t, Same l t (k b0 b1
    t)) :
    Same l s (runRsv t op nsid k s) := by
  unfold runRsv
  exact runIo_same _ _ _ _ _ _ (sub_all (by decide) hl) (fun _ _ _ _ => (Same.trans (Same.refl _ _) (h3 _ _ _)))

theorem setRsv_same (nsid : Nat) (r : Rsv) (s : State) :
    Same [.tabNss, .hold] s (setRsv nsid r s) := by
  unfold setRsv
  exact Same.widen (by decide) (modNs_same _ _ _)

theorem notifyRsv_same (n : Ns) (kind : Nat) (src : Source) (s : State) :
    Same [.fns, .nvm, .ksc, .evs0, .evs1, .out] s (notifyRsv n kind src s) := by
  unfold notifyRsv
  try dsimp only
  split
  · exact (Same.refl _ _)
  · exact (Same.ite (Same.refl _ _) (Same.widen (by decide) (asyncEvent_same _ _ _)))

theorem notifyAll_same (n : Ns) (kind : Nat) (src : Source) (p : Source × W64 → Bool) (s : State) :
    Same [.fns, .nvm, .ksc, .evs0, .evs1, .out] s (notifyAll n kind src p s) := by
  unfold notifyAll
  exact Same.fold (fun _ _ => (Same.widen (by decide) (notifyRsv_same _ _ _ _))) _ (Same.refl _ _)

theorem rsvRegister_same (t : Tag) (nsid : Nat) (c : RsvRegister) (n : Ns) (s : State) :
    Same [.fns, .nvm, .tabNss, .hold, .ksc, .evs0, .evs1, .out] s (rsvRegister t nsid c n s) := by
  unfold rsvRegister
  generalize c.action.toNat = a
  dsimp only
  have reg : ∀ r : Rsv, Same [.fns, .nvm, .tabNss, .hold, .ksc, .evs0, .evs1,
      .out] s (finish t .success (setRsv nsid r s)) := fun r =>
    Same.call (finish_same _ _ _) (by decide) (Same.widen (by decide) (setRsv_same _ _ _))
  have no : ∀ st : Status, Same [.fns, .nvm, .tabNss, .hold, .ksc, .evs0, .evs1, .out] s (finish t st s) := fun st =>
    Same.widen (by decide) (finish_same _ _ _)
  cases rsvKey s n.rsv t.src with
  | none =>
    match a with
    | 0 => exact reg _
    | 1 => exact no _
    | 2 => exact Same.ite (reg _) (no _)
    | a + 3 => exact no _
  | some k =>
    match a with
    | 0 => exact Same.ite (reg _) (no _)
    | 1 => exact Same.ite (Same.call (finish_same _ _ _) (by decide) (Same.ite (Same.call (notifyAll_same _ _ _ _
    _) (by decide) (Same.widen (by decide) (setRsv_same _ _ _))) (Same.widen (by decide) (setRsv_same _ _ _)))) (no _)
    | 2 => exact Same.ite (reg _) (no _)
    | a + 3 => exact no _

theorem execReservationRegister_ends (tag : Tag) (nsid : W32) (r : RsvRegister) (s : State) :
    Ends [.fns, .nvm, .tabNss, .hold, .ksc, .evs0, .evs1, .out] s (execReservationRegister tag nsid r s) := by
  unfold execReservationRegister
  exact Ends.next
    (runRsv_same _ _ _ _ _ (by decide) (fun _ _ _ => (Same.widen (by decide) (rsvRegister_same _ _ _ _ _))))

theorem execReservationReport_ends (tag : Tag) (nsid : W32) (s : State) :
    Ends [.fns, .nvm, .ksc, .evs0, .evs1, .out] s (execReservationReport tag nsid s) := by
  unfold execReservationReport
  exact Ends.next
    (runRsv_same _ _ _ _ _ (by decide) (fun _ _ _ => (Same.widen (by decide) (finishData_same _ _ _))))

theorem rsvPreempt_same (t : Tag) (nsid : Nat) (c : RsvAcquire) (aborts : Bool) (n : Ns) (s : State) :
    Same [.fns, .nvm, .tabNss, .hold, .ksc, .evs0, .evs1, .out] s (rsvPreempt t nsid c aborts n s) := by
  unfold rsvPreempt
  exact Same.ite (Same.widen (by decide) (finish_same _ _ _))
    (Same.call (finish_same _ _ _) (by decide)
      (Same.call (notifyAll_same _ _ _ _ _) (by decide)
        (Same.ite
          (Same.fold (fun _ _ => (Same.widen (by decide) (abortHost_same _ _ _))) _
            (Same.widen (by decide) (setRsv_same _ _ _))) (Same.widen (by decide) (setRsv_same _ _ _)))))

theorem rsvAcquire_same (t : Tag) (nsid : Nat) (c : RsvAcquire) (n : Ns) (s : State) :
    Same [.fns, .nvm, .tabNss, .hold, .ksc, .evs0, .evs1, .out] s (rsvAcquire t nsid c n s) := by
  unfold rsvAcquire
  exact Same.ite (Same.widen (by decide) (finish_same _ _ _))
    (Same.ite (Same.widen (by decide) (finish_same _ _ _))
      (Same.ite (by
        try dsimp only
        split
        · exact (Same.call (finish_same _ _ _) (by decide) (Same.widen (by decide) (setRsv_same _ _ _)))
        · exact (Same.ite (Same.widen (by decide) (finish_same _ _ _)) (Same.widen (by decide) (finish_same _ _ _))))
        (Same.widen (by decide) (rsvPreempt_same _ _ _ _ _ _))))

theorem execReservationAcquire_ends (tag : Tag) (nsid : W32) (r : RsvAcquire) (s : State) :
    Ends [.fns, .nvm, .tabNss, .hold, .ksc, .evs0, .evs1, .out] s (execReservationAcquire tag nsid r s) := by
  unfold execReservationAcquire
  exact Ends.next
    (runRsv_same _ _ _ _ _ (by decide) (fun _ _ _ => (Same.widen (by decide) (rsvAcquire_same _ _ _ _ _))))

theorem rsvRelease_same (t : Tag) (nsid : Nat) (c : RsvRelease) (n : Ns) (s : State) :
    Same [.fns, .nvm, .tabNss, .hold, .ksc, .evs0, .evs1, .out] s (rsvRelease t nsid c n s) := by
  unfold rsvRelease
  exact Same.ite (Same.widen (by decide) (finish_same _ _ _))
    (Same.ite (Same.widen (by decide) (finish_same _ _ _))
      (Same.ite
        (Same.ite (Same.widen (by decide) (finish_same _ _ _))
          (Same.ite (Same.widen (by decide) (finish_same _ _ _))
            (Same.call (finish_same _ _ _) (by decide)
              (Same.ite
                (Same.call (notifyAll_same _ _ _ _ _) (by decide) (Same.widen (by decide) (setRsv_same _ _ _)))
                (Same.widen (by decide) (setRsv_same _ _ _))))))
        (Same.call (finish_same _ _ _) (by decide)
          (Same.call (notifyAll_same _ _ _ _ _) (by decide) (Same.widen (by decide) (setRsv_same _ _ _))))))

theorem execReservationRelease_ends (tag : Tag) (nsid : W32) (r : RsvRelease) (s : State) :
    Ends [.fns, .nvm, .tabNss, .hold, .ksc, .evs0, .evs1, .out] s (execReservationRelease tag nsid r s) := by
  unfold execReservationRelease
  exact Ends.next
    (runRsv_same _ _ _ _ _ (by decide) (fun _ _ _ => (Same.widen (by decide) (rsvRelease_same _ _ _ _ _))))

end Sys2Proof.Machine
end

