-- ==== Sys2Proof/Laws/FrameNamespaces.lean ====
section
/-! SUPPORT. Frames of the operations of Machine/Namespaces.lean: the fields each of them can change. -/
namespace Sys2Proof.Machine

theorem assignTo_same (t : Tag) (f : Func) (vq : Bool) (n : Nat) (s : State) :
    Same [.fns, .nvm, .ksc, .evs0, .evs1, .out] s (assignTo t f vq n s) := by
  unfold assignTo
  exact Same.ite (Same.widen (by decide) (finish_same _ _ _))
    (Same.ite (Same.widen (by decide) (finish_same _ _ _))
      (Same.ite (Same.widen (by decide) (finish_same _ _ _))
        (Same.call (complete_same _ _ _ _) (by decide)
          (Same.call (ustChange_same _ _) (by decide) (Same.widen (by decide) (modFn_same _ _ _))))))

theorem tellChanged_same (nsid : Nat) (units : List Nat) (s : State) :
    Same [.fns, .nvm, .ksc, .evs0, .evs1, .out] s (tellChanged nsid units s) := by
  unfold tellChanged
  exact Same.fold
    (fun _ _ =>
      (Same.ite (Same.call (asyncEvent_same _ _ _) (by decide) (Same.widen (by decide) (modCtrl_same _ _ _)))
        (Same.widen (by decide) (modCtrl_same _ _ _)))) _ (Same.refl _ _)

theorem attachNs_same (t : Tag) (nsid : Nat) (cs : List Nat) (n : Ns) (s : State) :
    Same [.fns, .nvm, .tabNss, .hold, .ksc, .evs0, .evs1, .out] s (attachNs t nsid cs n s) := by
  unfold attachNs
  exact Same.ite (Same.widen (by decide) (finish_same _ _ _))
    (Same.ite (Same.widen (by decide) (finish_same _ _ _))
      (Same.call (finish_same _ _ _) (by decide)
        (Same.call (tellChanged_same _ _ _) (by decide)
          (Same.call (ustChange_same _ _) (by decide) (Same.widen (by decide) (modNs_same _ _ _))))))

theorem beginFormat_same (t : Tag) (lbaf : Nat) (ses : Nat) (l : List (Nat × Ns)) (s : State) :
    Same [.nvm, .tabNss, .hold] s (beginFormat t lbaf ses l s) := by
  unfold beginFormat
  exact Same.fold
    (fun _ _ => (Same.call (ustChange_same _ _) (by decide) (Same.widen (by decide) (modNs_same _ _ _)))) _
    (Same.refl _ _)

theorem execFormatNvm_ends (tag : Tag) (nsid : W32) (lbaf : BitVec 4) (ses : BitVec 3) (s : State) :
    Ends [.trust, .fns, .nvm, .tabNss, .hold, .mgt, .ksc, .evs0, .evs1, .out] s (execFormatNvm tag nsid lbaf ses s) :=
    by
  unfold execFormatNvm
  exact Ends.next
    (runAdmin_same _ _ _ _ _ _ _ _ _ (by decide)
      (fun _ =>
        (notInSanitize_same _ _ _ (by decide)
          (fun _ =>
            (Same.ite (Same.widen (by decide) (finish_same _ _ _))
              (Same.ite (Same.widen (by decide) (finish_same _ _ _)) (by
                try dsimp only
                split
                · exact (Same.widen (by decide) (finish_same _ _ _))
                · exact (Same.ite
                    (withEntropy_same _ _ _ _ (by decide)
                      (fun _ => (Same.widen (by decide) (beginFormat_same _ _ _ _ _)))
                      (fun _ => (Same.widen (by decide) (finish_same _ _ _))))
                    (Same.widen (by decide) (beginFormat_same _ _ _ _ _))))))))))

theorem beginSanitize_same (t : Tag) (crypto : Bool) (s : State) :
    Same [.fns, .nvm, .tabNss, .hold, .ksc, .evs0, .evs1, .out] s (beginSanitize t crypto s) := by
  unfold beginSanitize
  exact Same.call (finish_same _ _ _) (by decide)
    (Same.put
      (Same.fold
        (fun _ _ => (Same.call (ustChange_same _ _) (by decide) (Same.widen (by decide) (modNs_same _ _ _)))) _
        (Same.refl _ _)) rfl)

theorem execSanitize_ends (tag : Tag) (action : BitVec 3) (noDealloc : Bool) (s : State) :
    Ends [.trust, .fns, .nvm, .tabNss, .hold, .mgt, .ksc, .evs0, .evs1, .out] s (execSanitize tag action noDealloc s)
    := by
  unfold execSanitize
  exact Ends.next
    (runAdmin_same _ _ _ _ _ _ _ _ _ (by decide)
      (fun _ =>
        (notInSanitize_same _ _ _ (by decide)
          (fun _ =>
            (Same.ite (Same.call (finish_same _ _ _) (by decide) (Same.put (Same.refl _ _) rfl))
              (Same.ite (Same.widen (by decide) (finish_same _ _ _))
                (Same.ite (Same.widen (by decide) (finish_same _ _ _))
                  (Same.ite
                    (withEntropy_same _ _ _ _ (by decide)
                      (fun _ => (Same.widen (by decide) (beginSanitize_same _ _ _)))
                      (fun _ => (Same.widen (by decide) (finish_same _ _ _))))
                    (Same.widen (by decide) (beginSanitize_same _ _ _))))))))))

theorem beginDelete_same (t : Tag) (nsid : Nat) (s : State) :
    Same [.nvm, .tabNss, .hold] s (beginDelete t nsid s) := by
  unfold beginDelete
  exact Same.call (ustChange_same _ _) (by decide) (Same.widen (by decide) (modNs_same _ _ _))

theorem bindKey_same (t : Tag) (nsid : Nat) (v : W32) (n : Ns) (s : State) :
    Same [.fns, .nvm, .tabNss, .hold, .ksc, .evs0, .evs1, .out] s (bindKey t nsid v n s) := by
  unfold bindKey
  exact Same.ite
    (Same.ite (Same.widen (by decide) (finish_same _ _ _))
      (Same.ite (Same.widen (by decide) (finish_same _ _ _))
        (Same.call (finish_same _ _ _) (by decide)
          (Same.call (ustChange_same _ _) (by decide) (Same.widen (by decide) (modNs_same _ _ _))))))
    (Same.ite (Same.widen (by decide) (finish_same _ _ _))
      (Same.call (finish_same _ _ _) (by decide)
        (Same.call (ustChange_same _ _) (by decide) (Same.widen (by decide) (modNs_same _ _ _)))))

theorem createNs_same (t : Tag) (c : NewNs) (s : State) :
    Same [.fns, .nvm, .tabNss, .hold, .ksc, .evs0, .evs1, .out] s (createNs t c s) := by
  unfold createNs
  exact Same.ite (Same.widen (by decide) (finish_same _ _ _))
    (Same.ite (Same.widen (by decide) (finish_same _ _ _))
      (Same.ite (Same.widen (by decide) (finish_same _ _ _))
        (Same.ite (Same.widen (by decide) (finish_same _ _ _))
          (Same.ite (Same.widen (by decide) (finish_same _ _ _))
            (Same.ite (Same.widen (by decide) (finish_same _ _ _)) (by
              try dsimp only
              split
              · exact (Same.call (complete_same _ _ _ _) (by decide)
                  (Same.call (ustChange_same _ _) (by decide)
                    (Same.call (markDelta_same _) (by decide) (Same.put (Same.refl _ _) rfl))))
              · exact (Same.widen (by decide) (finish_same _ _ _))))))))

theorem withNs_same (t : Tag) (nsid : Nat) (k : Ns → State → State) (s : State) {l : List Field} (hl : [.fns, .nvm,
    .ksc, .evs0, .evs1, .out].all (fun f => l.contains f) = true) (h2 : ∀ b0 t, Same l t (k b0 t)) :
    Same l s (withNs t nsid k s) := by
  unfold withNs
  try dsimp only
  split
  · exact (Same.widen (sub_all (by decide) hl) (finish_same _ _ _))
  · exact (Same.ite (Same.widen (sub_all (by decide) hl) (finish_same _ _ _)) (Same.trans (Same.refl _ _) (h2 _ _)))

theorem deleteNs_same (t : Tag) (nsid : W32) (s : State) :
    Same [.fns, .nvm, .tabNss, .hold, .ksc, .evs0, .evs1, .out] s (deleteNs t nsid s) := by
  unfold deleteNs
  exact Same.ite
    (Same.ite (Same.widen (by decide) (finish_same _ _ _))
      (Same.ite (Same.widen (by decide) (finish_same _ _ _))
        (Same.fold (fun _ _ => (Same.widen (by decide) (beginDelete_same _ _ _))) _ (Same.refl _ _))))
    (withNs_same _ _ _ _ (by decide) (fun _ _ => (Same.widen (by decide) (beginDelete_same _ _ _))))

theorem detachNs_same (t : Tag) (nsid : Nat) (cs : List Nat) (n : Ns) (s : State) :
    Same [.fns, .nvm, .tabNss, .hold, .ksc, .evs0, .evs1, .out] s (detachNs t nsid cs n s) := by
  unfold detachNs
  exact Same.ite (Same.widen (by decide) (finish_same _ _ _))
    (Same.call (finish_same _ _ _) (by decide)
      (Same.call (tellChanged_same _ _ _) (by decide)
        (Same.call (ustChange_same _ _) (by decide) (Same.widen (by decide) (modNs_same _ _ _)))))

theorem dirtyAll_same (nsid : Nat) (s : State) :
    Same [.mqt] s (dirtyAll nsid s) := by
  unfold dirtyAll
  try dsimp only
  split
  · exact (Same.fold (fun _ _ => (Same.widen (by decide) (dirtyIu_same _ _))) _ (Same.refl _ _))
  · exact (Same.refl _ _)

theorem eraseAll_same (s : State) :
    Same [.evr, .tabMap, .tabDies, .media, .ftlData, .ftl, .flash, .hold, .ksc, .evs0, .evs1, .free] s (eraseAll s) :=
    by
  unfold eraseAll
  exact Same.fold (fun _ _ => (Same.widen (by decide) (freeBand_same _ _))) _
    (Same.call (markDelta_same _) (by decide)
      (Same.put (Same.fold (fun _ _ => (Same.widen (by decide) (dropNsData_same _ _))) _ (Same.refl _ _)) rfl))

theorem setKeyBinding_same (t : Tag) (sv : Bool) (nsid : W32) (cdw11 : W32) (s : State) :
    Same [.fns, .nvm, .tabNss, .hold, .ksc, .evs0, .evs1, .out] s (setKeyBinding t sv nsid cdw11 s) := by
  unfold setKeyBinding
  exact Same.ite (Same.widen (by decide) (finish_same _ _ _))
    (Same.ite (Same.widen (by decide) (finish_same _ _ _))
      (withNs_same _ _ _ _ (by decide) (fun _ _ => (Same.widen (by decide) (bindKey_same _ _ _ _ _)))))

theorem setPowerLimit_same (t : Tag) (sv : Bool) (cdw11 : W32) (s : State) :
    Same [.fns, .nvm, .ksc, .evs0, .evs1, .out] s (setPowerLimit t sv cdw11 s) := by
  unfold setPowerLimit
  exact Same.ite (Same.widen (by decide) (finish_same _ _ _))
    (Same.ite (Same.widen (by decide) (finish_same _ _ _))
      (Same.ite (Same.widen (by decide) (finish_same _ _ _))
        (Same.call (finish_same _ _ _) (by decide) (Same.put (Same.refl _ _) rfl))))

theorem execNamespaceKeyBinding_ends (tag : Tag) (sv : Bool) (nsid : W32) (cdw11 : W32) (s : State) :
    Ends [.fns, .nvm, .tabNss, .hold, .mgt, .ksc, .evs0, .evs1, .out] s (execNamespaceKeyBinding tag sv nsid cdw11 s)
    := by
  unfold execNamespaceKeyBinding
  exact Ends.next
    (runAdmin_same _ _ _ _ _ _ _ _ _ (by decide) (fun _ => (Same.widen (by decide) (setKeyBinding_same _ _ _ _ _))))

theorem execPackagePowerLimit_ends (tag : Tag) (sv : Bool) (cdw11 : W32) (s : State) :
    Ends [.fns, .nvm, .mgt, .ksc, .evs0, .evs1, .out] s (execPackagePowerLimit tag sv cdw11 s) := by
  unfold execPackagePowerLimit
  exact Ends.next
    (runAdmin_same _ _ _ _ _ _ _ _ _ (by decide) (fun _ => (Same.widen (by decide) (setPowerLimit_same _ _ _ _))))

theorem execNamespaceCreate_ends (tag : Tag) (ns : NewNs) (s : State) :
    Ends [.fns, .nvm, .tabNss, .hold, .mgt, .ksc, .evs0, .evs1, .out] s (execNamespaceCreate tag ns s) := by
  unfold execNamespaceCreate
  exact Ends.next
    (runAdmin_same _ _ _ _ _ _ _ _ _ (by decide)
      (fun _ => (notInSanitize_same _ _ _ (by decide) (fun _ => (Same.widen (by decide) (createNs_same _ _ _))))))

theorem execNamespaceDelete_ends (tag : Tag) (nsid : W32) (s : State) :
    Ends [.fns, .nvm, .tabNss, .hold, .mgt, .ksc, .evs0, .evs1, .out] s (execNamespaceDelete tag nsid s) := by
  unfold execNamespaceDelete
  exact Ends.next
    (runAdmin_same _ _ _ _ _ _ _ _ _ (by decide)
      (fun _ => (notInSanitize_same _ _ _ (by decide) (fun _ => (Same.widen (by decide) (deleteNs_same _ _ _))))))

theorem finishJob_same (t : Tag) (st : Status) (s : State) :
    Same [.fns, .nvm, .ksc, .evs0, .evs1, .out] s (finishJob t st s) := by
  unfold finishJob
  exact Same.ite (Same.refl _ _) (Same.widen (by decide) (finish_same _ _ _))

theorem execNamespaceDeleteComplete_ends (nsid : W32) (s : State) :
    Ends [.fns, .nvm, .tabMap, .tabNss, .ftlData, .hold, .ksc, .evs0, .evs1, .out] s (execNamespaceDeleteComplete nsid
    s) := by
  unfold execNamespaceDeleteComplete
  exact Ends.next (by
    try dsimp only
    split
    · exact (Same.refl _ _)
    · exact (by
        try dsimp only
        split
        · exact (Same.ite (Same.refl _ _)
            (Same.call (finishJob_same _ _ _) (by decide)
              (Same.call (tellChanged_same _ _ _) (by decide) (Same.widen (by decide) (removeNs_same _ _)))))
        · exact (Same.refl _ _)))

theorem execNamespaceAttachment_ends (tag : Tag) (nsid : W32) (attach : Bool) (ctrls : List Nat) (s : State) :
    Ends [.fns, .nvm, .tabNss, .hold, .mgt, .ksc, .evs0, .evs1, .out] s (execNamespaceAttachment tag nsid attach ctrls
    s) := by
  unfold execNamespaceAttachment
  exact Ends.next
    (runAdmin_same _ _ _ _ _ _ _ _ _ (by decide)
      (fun _ =>
        (notInSanitize_same _ _ _ (by decide)
          (fun _ =>
            (withNs_same _ _ _ _ (by decide)
              (fun _ _ =>
                (Same.ite (Same.widen (by decide) (finish_same _ _ _))
                  (Same.ite (Same.widen (by decide) (attachNs_same _ _ _ _ _))
                    (Same.widen (by decide) (detachNs_same _ _ _ _ _))))))))))

theorem vfOnline_same (t : Tag) (f : Func) (s : State) :
    Same [.fns, .nvm, .ksc, .evs0, .evs1, .out] s (vfOnline t f s) := by
  unfold vfOnline
  exact Same.ite (Same.widen (by decide) (finish_same _ _ _))
    (Same.ite (Same.widen (by decide) (finish_same _ _ _))
      (Same.ite (Same.widen (by decide) (finish_same _ _ _))
        (Same.call (finish_same _ _ _) (by decide)
          (Same.call (ustChange_same _ _) (by decide) (Same.widen (by decide) (modFn_same _ _ _))))))

theorem vfOffline_same (t : Tag) (f : Func) (s : State) :
    Same [.evr, .upd, .fns, .nvm, .ftlData, .mgt, .ksc, .evs0, .evs1, .free, .out] s (vfOffline t f s) := by
  unfold vfOffline
  exact Same.ite (Same.widen (by decide) (finish_same _ _ _))
    (Same.ite (Same.widen (by decide) (finish_same _ _ _))
      (Same.call (finish_same _ _ _) (by decide)
        (Same.call (ustChange_same _ _) (by decide)
          (Same.call (modFn_same _ _ _) (by decide) (Same.widen (by decide) (resetCtrl_same _ _))))))

theorem primaryFlex_same (t : Tag) (vi : Bool) (n : Nat) (f : Func) (s : State) :
    Same [.fns, .nvm, .ksc, .evs0, .evs1, .out] s (primaryFlex t vi n f s) := by
  unfold primaryFlex
  exact Same.ite (Same.widen (by decide) (finish_same _ _ _))
    (Same.call (complete_same _ _ _ _) (by decide)
      (Same.call (ustChange_same _ _) (by decide) (Same.widen (by decide) (modFn_same _ _ _))))

theorem execVirtualizationManagement_ends (tag : Tag) (act : VirtAct) (s : State) :
    Ends [.evr, .upd, .fns, .nvm, .ftlData, .mgt, .ksc, .evs0, .evs1, .free, .out] s (execVirtualizationManagement tag
    act s) := by
  unfold execVirtualizationManagement
  exact Ends.next
    (runAdmin_same _ _ _ _ _ _ _ _ _ (by decide)
      (fun _ => (by
        try dsimp only
        split
        · exact (Same.widen (by decide) (assignTo_same _ _ _ _ _))
        · exact (Same.widen (by decide) (assignTo_same _ _ _ _ _))
        · exact (Same.widen (by decide) (vfOnline_same _ _ _))
        · exact (Same.widen (by decide) (vfOffline_same _ _ _))
        · exact (Same.widen (by decide) (primaryFlex_same _ _ _ _ _)))))

theorem logSelfTest_same (result : BitVec 4) (code : BitVec 4) (s : State) :
    Same [.nvm] s (logSelfTest result code s) := by
  unfold logSelfTest
  exact Same.put (Same.refl _ _) rfl

theorem selfTest_same (t : Tag) (code : BitVec 4) (s : State) :
    Same [.fns, .nvm, .ksc, .evs0, .evs1, .out] s (selfTest t code s) := by
  unfold selfTest
  try dsimp only
  split
  · exact (Same.call (finish_same _ _ _) (by decide) (Same.put (Same.refl _ _) rfl))
  · exact (Same.call (finish_same _ _ _) (by decide) (Same.put (Same.refl _ _) rfl))
  · exact (Same.widen (by decide) (finish_same _ _ _))
  · exact (Same.widen (by decide) (finish_same _ _ _))
  · exact (Same.widen (by decide) (finish_same _ _ _))
  · exact (Same.call (finish_same _ _ _) (by decide) (Same.widen (by decide) (logSelfTest_same _ _ _)))
  · exact (Same.widen (by decide) (finish_same _ _ _))

theorem execDeviceSelfTest_ends (tag : Tag) (code : BitVec 4) (s : State) :
    Ends [.fns, .nvm, .mgt, .ksc, .evs0, .evs1, .out] s (execDeviceSelfTest tag code s) := by
  unfold execDeviceSelfTest
  exact Ends.next
    (runAdmin_same _ _ _ _ _ _ _ _ _ (by decide)
      (fun _ => (notInSanitize_same _ _ _ (by decide) (fun _ => (Same.widen (by decide) (selfTest_same _ _ _))))))

theorem freshKeys_same (slots : List Nat) (s : State) :
    Same [.trust, .nvm, .tabKeys, .free] s (freshKeys slots s) := by
  unfold freshKeys
  exact Same.fold
    (fun _ _ =>
      (Same.call (drbgUse_same _) (by decide)
        (Same.call (setKey_same _ _ _) (by decide) (Same.widen (by decide) (loadKey_same _ _))))) _ (Same.refl _ _)

theorem regenerate_same (slots : List Nat) (ok : Bool) (s : State) :
    Same [.trust, .evr, .nvm, .tabKeys, .media, .ksc, .evs0, .evs1, .free] s (regenerate slots ok s) := by
  unfold regenerate
  exact Same.ite (Same.refl _ _)
    (Same.ite
      (Same.call (replaceStores_same _ _ _) (by decide) (Same.put (Same.widen (by decide) (freshKeys_same _ _)) rfl))
      (Same.fold (fun _ _ => (Same.widen (by decide) (event_same _ _ _ _))) _
        (Same.widen (by decide) (drawn_same _ _))))

theorem leaveOffline_same (s : State) :
    Same [.evr, .nvm, .tabDies, .tab, .hold, .ksc, .evs0, .evs1, .free] s (leaveOffline s) := by
  unfold leaveOffline
  exact Same.ite (Same.refl _ _)
    (Same.call (event_same _ _ _ _) (by decide)
      (Same.call (ustChange_same _ _) (by decide)
        (Same.call (markDelta_same _) (by decide)
          (Same.put (Same.fold (fun _ _ => (Same.widen (by decide) (setGrp_same _ _ _))) _ (Same.refl _ _)) rfl))))

theorem execSanitizeComplete_ends (ok : Bool) (s : State) :
    Ends [.trust, .evr, .fns, .nvm, .tabMap, .tabNss, .tabKeys, .tabDies, .tab, .media, .ftlData, .ftl, .flash, .hold,
    .ksc, .evs0, .evs1, .free, .out] s (execSanitizeComplete ok s) := by
  unfold execSanitizeComplete
  exact Ends.next (by
    try dsimp only
    split
    · exact (Same.refl _ _)
    · exact (Same.ite (Same.refl _ _) (by
        try dsimp only
        split
        · exact (Same.call (asyncEvent_same _ _ _) (by decide)
            (Same.fold
              (fun _ _ => (Same.call (ustChange_same _ _) (by decide) (Same.widen (by decide) (modNs_same _ _ _))))
              _
              (Same.put
                (Same.ite
                  (Same.call (leaveOffline_same _) (by decide)
                    (Same.ite
                      (Same.call (eraseAll_same _) (by decide)
                        (Same.ite (Same.widen (by decide) (regenerate_same _ _ _)) (Same.refl _ _)))
                      (Same.ite (Same.widen (by decide) (regenerate_same _ _ _)) (Same.refl _ _))))
                  (Same.ite
                    (Same.call (eraseAll_same _) (by decide)
                      (Same.ite (Same.widen (by decide) (regenerate_same _ _ _)) (Same.refl _ _)))
                    (Same.ite (Same.widen (by decide) (regenerate_same _ _ _)) (Same.refl _ _)))) rfl)))
        · exact (Same.fold
            (fun _ _ => (Same.call (ustChange_same _ _) (by decide) (Same.widen (by decide) (modNs_same _ _ _)))) _
            (Same.put
              (Same.ite
                (Same.call (leaveOffline_same _) (by decide)
                  (Same.ite
                    (Same.call (eraseAll_same _) (by decide)
                      (Same.ite (Same.widen (by decide) (regenerate_same _ _ _)) (Same.refl _ _)))
                    (Same.ite (Same.widen (by decide) (regenerate_same _ _ _)) (Same.refl _ _))))
                (Same.ite
                  (Same.call (eraseAll_same _) (by decide)
                    (Same.ite (Same.widen (by decide) (regenerate_same _ _ _)) (Same.refl _ _)))
                  (Same.ite (Same.widen (by decide) (regenerate_same _ _ _)) (Same.refl _ _)))) rfl)))))

theorem execDeviceSelfTestComplete_ends (result : BitVec 4) (s : State) :
    Ends [.nvm] s (execDeviceSelfTestComplete result s) := by
  unfold execDeviceSelfTestComplete
  exact Ends.next (by
    try dsimp only
    split
    · exact (Same.ite (Same.widen (by decide) (logSelfTest_same _ _ _)) (Same.refl _ _))
    · exact (Same.refl _ _))

theorem formatFailed_same (t : Tag) (st : Status) (i : Nat) (s : State) :
    Same [.fns, .nvm, .tabNss, .hold, .ksc, .evs0, .evs1, .out] s (formatFailed t st i s) := by
  unfold formatFailed
  exact Same.call (finishJob_same _ _ _) (by decide)
    (Same.call (ustChange_same _ _) (by decide) (Same.widen (by decide) (modNs_same _ _ _)))

theorem execFormatNvmComplete_ends (nsid : W32) (ok : Bool) (s : State) :
    Ends [.trust, .evr, .fns, .nvm, .tabMap, .tabNss, .tabKeys, .media, .ftlData, .hold, .mqt, .ksc, .evs0, .evs1,
    .free, .out] s (execFormatNvmComplete nsid ok s) := by
  unfold execFormatNvmComplete
  exact Ends.next (by
    try dsimp only
    split
    · exact (Same.refl _ _)
    · exact (by
        try dsimp only
        split
        · exact (Same.ite (Same.refl _ _)
            (Same.ite (Same.widen (by decide) (formatFailed_same _ _ _ _))
              (Same.ite
                (Same.call (finishJob_same _ _ _) (by decide)
                  (Same.call (tellChanged_same _ _ _) (by decide)
                    (Same.call (ustChange_same _ _) (by decide)
                      (Same.ite
                        (Same.call (modNs_same _ _ _) (by decide)
                          (Same.call (dropNsData_same _ _) (by decide)
                            (Same.put (Same.ite (Same.widen (by decide) (regenerate_same _ _ _)) (Same.refl _ _))
                            rfl)))
                        (Same.call (dirtyAll_same _ _) (by decide)
                          (Same.call (modNs_same _ _ _) (by decide)
                            (Same.call (dropNsData_same _ _) (by decide)
                              (Same.put (Same.ite (Same.widen (by decide) (regenerate_same _ _ _)) (Same.refl _ _))
                                rfl))))))))
                (Same.call (formatFailed_same _ _ _ _) (by decide)
                  (Same.ite (Same.widen (by decide) (regenerate_same _ _ _)) (Same.refl _ _))))))
        · exact (Same.refl _ _)))

end Sys2Proof.Machine
end

