-- ==== Sys2Proof/Laws/FrameHold.lean ====
section
/-! SUPPORT. Frames of the operations of Machine/Hold.lean: the fields each of them can change. -/
namespace Sys2Proof.Machine

theorem addCap_same (uf : Nat) (s : State) :
    Same [.tab, .hold] s (addCap uf s) := by
  unfold addCap
  exact Same.call (markDelta_same _) (by decide) (Same.put (Same.refl _ _) rfl)

theorem applyVersion_same (e : Nat × Nat × IuVer) (s : State) :
    Same [.tabMap] s (applyVersion e s) := by
  unfold applyVersion
  exact Same.ite (Same.widen (by decide) (setMap_same _ _ _ _)) (Same.refl _ _)

theorem cfgStageCommit_same (stored : Bool) (s : State) :
    Same [.boot, .norMem, .norBanks, .nor, .cfg, .evr, .hold, .ksc, .evs0, .evs1, .free] s (cfgStageCommit stored s)
    := by
  unfold cfgStageCommit
  exact Same.ite (Same.put (Same.refl _ _) rfl)
    (Same.ite (Same.call (evsSet_same _ _) (by decide) (Same.put (Same.refl _ _) rfl))
      (Same.ite (Same.call (evsSet_same _ _) (by decide) (Same.put (Same.refl _ _) rfl))
        (Same.call (evsSet_same _ _) (by decide) (Same.put (Same.widen (by decide) (storeRecord_same _ _ _)) rfl))))

theorem channelsFlush_same (s : State) :
    Same [.tabDies, .flash] s (channelsFlush s) := by
  unfold channelsFlush
  exact Same.fold
    (fun _ _ => (Same.call (setDie_same _ _ _) (by decide) (Same.widen (by decide) (setDieTab_same _ _ _)))) _
    (Same.put (Same.refl _ _) rfl)

theorem setChg_same (c : ChgState) (s : State) :
    Same [.hold, .evs0, .evs1] s (setChg c s) := by
  unfold setChg
  exact Same.call (noteLimit_same _ _) (by decide)
    (Same.call (evsSetIf_same _ _ _) (by decide) (Same.put (Same.refl _ _) rfl))

theorem shortEvent_same (s : State) :
    Same [.evr, .ksc, .evs0, .evs1, .free] s (shortEvent s) := by
  unfold shortEvent
  exact Same.widen (by decide) (event_same _ _ _ _)

theorem chgFault_same (s : State) :
    Same [.pwr, .evr, .hold, .mgt, .ksc, .evs0, .evs1, .free, .out] s (chgFault s) := by
  unfold chgFault
  exact Same.ite (Same.refl _ _)
    (Same.call (shortEvent_same _) (by decide)
      (Same.call (noteShort_same _) (by decide)
        (Same.call (hscMark_same _ _) (by decide)
          (Same.call (emit_same _ _) (by decide)
            (Same.call (evsSetIf_same _ _ _) (by decide) (Same.put (Same.widen (by decide) (setChg_same _ _))
            rfl))))))

theorem startCkpt_same (s : State) :
    Same [.hold, .free] s (startCkpt s) := by
  unfold startCkpt
  exact Same.call (drawn_same _ _) (by decide) (Same.put (Same.refl _ _) rfl)

theorem commitCkpt_same (c : Ckpt) (s : State) :
    Same [.media, .hold, .free] s (commitCkpt c s) := by
  unfold commitCkpt
  exact Same.ite
    (Same.call (startCkpt_same _) (by decide)
      (Same.call (replaceStores_same _ _ _) (by decide) (Same.put (Same.refl _ _) rfl)))
    (Same.call (replaceStores_same _ _ _) (by decide) (Same.put (Same.refl _ _) rfl))

theorem commitOpen_same (s : State) :
    Same [.evr, .fns, .nvm, .tabMap, .tabDies, .media, .ftlData, .ftl, .flash, .hold, .ksc, .evs0, .evs1, .free, .out]
    s (commitOpen s) := by
  unfold commitOpen
  exact Same.fold (fun _ _ => (Same.widen (by decide) (commitRow_same _ _ _))) _ (Same.refl _ _)

theorem dumpAll_same (r : FlushResult) (s : State) :
    Same [.media, .hold, .free] s (dumpAll r s) := by
  unfold dumpAll
  exact Same.ite (Same.refl _ _)
    (Same.call (drawn_same _ _) (by decide)
      (Same.call (replaceStores_same _ _ _) (by decide) (Same.put (Same.refl _ _) rfl)))

theorem eraseMarked_same (s : State) :
    Same [.tabDies, .flash] s (eraseMarked s) := by
  unfold eraseMarked
  exact Same.fold
    (fun _ _ =>
      (Same.ite (Same.refl _ _)
        (Same.fold (fun _ _ => (Same.widen (by decide) (queueOp_same _ _ _))) _
          (Same.widen (by decide) (setDieTab_same _ _ _))))) _ (Same.refl _ _)

theorem eraseStrays_same (phys : Sparse Band) (s : State) :
    Same [.tabDies, .media, .flash] s (eraseStrays phys s) := by
  unfold eraseStrays
  exact Same.fold (fun _ _ => (Same.widen (by decide) (eraseBand_same _ _ _))) _ (Same.refl _ _)

theorem triggerCkpt_same (s : State) :
    Same [.hold, .free] s (triggerCkpt s) := by
  unfold triggerCkpt
  exact Same.ite (Same.put (Same.refl _ _) rfl) (Same.widen (by decide) (startCkpt_same _))

theorem startSegment_same (s : State) :
    Same [.hold] s (startSegment s) := by
  unfold startSegment
  exact Same.ite (Same.refl _ _) (Same.put (Same.refl _ _) rfl)

theorem execCfgStageCommit_ends (stored : Bool) (s : State) :
    Ends [.boot, .norMem, .norBanks, .nor, .cfg, .evr, .hold, .ksc, .evs0, .evs1, .free] s (execCfgStageCommit stored
    s) := by
  unfold execCfgStageCommit
  exact Ends.next (Same.ite (Same.widen (by decide) (cfgStageCommit_same _ _)) (Same.refl _ _))

theorem policyWrite_same (reg : PolicyReg) (v : W32) (s : State) :
    Same [.ftl, .hold] s (policyWrite reg v s) := by
  unfold policyWrite
  try dsimp only
  split
  · exact (Same.ite (Same.put (Same.refl _ _) rfl) (Same.put (Same.refl _ _) rfl))
  · exact (Same.ite (Same.put (Same.refl _ _) rfl) (Same.put (Same.refl _ _) rfl))
  · exact (Same.ite (Same.put (Same.refl _ _) rfl) (Same.put (Same.refl _ _) rfl))

theorem execPolicyRegisterWrite_ends (reg : PolicyReg) (value : W32) (s : State) :
    Ends [.ftl, .hold] s (execPolicyRegisterWrite reg value s) := by
  unfold execPolicyRegisterWrite
  exact Ends.next (Same.ite (Same.widen (by decide) (policyWrite_same _ _ _)) (Same.refl _ _))

theorem execConfigRecordUpdate_ends (stored : Bool) (s : State) :
    Ends [.boot, .norMem, .norBanks, .nor, .cfg, .evr, .hold, .ksc, .evs0, .evs1, .free] s (execConfigRecordUpdate
    stored s) := by
  unfold execConfigRecordUpdate
  exact Ends.next
    (Same.ite (Same.refl _ _) (by
      try dsimp only
      split
      · exact (Same.refl _ _)
      · exact (Same.put (Same.widen (by decide) (storeRecord_same _ _ _)) rfl)))

theorem sawVhold_same (mv : Nat) (s : State) :
    Same [.arm] s (sawVhold mv s) := by
  unfold sawVhold
  exact Same.put (Same.refl _ _) rfl

theorem execChargerBankCheck_ends (vholdMv : Nat) (s : State) :
    Ends [.pwr, .evr, .arm, .hold, .ksc, .evs0, .evs1, .free, .out] s (execChargerBankCheck vholdMv s) := by
  unfold execChargerBankCheck
  exact Ends.next
    (whilePowered_same _ _ (by decide)
      (fun _ =>
        (Same.ite
          (Same.call (shortEvent_same _) (by decide)
            (Same.call (noteShort_same _) (by decide)
              (Same.call (emit_same _ _) (by decide)
                (Same.call (setChg_same _ _) (by decide) (Same.put (Same.widen (by decide) (sawVhold_same _ _))
                rfl)))))
          (Same.widen (by decide) (sawVhold_same _ _)))))

theorem execChargerCharged_ends (vholdMv : Nat) (s : State) :
    Ends [.arm, .hold, .evs0, .evs1] s (execChargerCharged vholdMv s) := by
  unfold execChargerCharged
  exact Ends.next
    (whilePowered_same _ _ (by decide)
      (fun _ =>
        (Same.ite
          (Same.call (setChg_same _ _) (by decide)
            (Same.call (setChg_same _ _) (by decide) (Same.widen (by decide) (sawVhold_same _ _))))
          (Same.widen (by decide) (sawVhold_same _ _)))))

theorem execChargerStallTimeout_ends (riseMv : Nat) (s : State) :
    Ends [.pwr, .evr, .hold, .mgt, .ksc, .evs0, .evs1, .free, .out] s (execChargerStallTimeout riseMv s) := by
  unfold execChargerStallTimeout
  exact Ends.next (Same.ite (Same.widen (by decide) (chgFault_same _)) (Same.refl _ _))

theorem execChargerMeasureStart_ends (s : State) :
    Ends [.hold, .evs0, .evs1] s (execChargerMeasureStart s) := by
  unfold execChargerMeasureStart
  exact Ends.next (Same.ite (Same.widen (by decide) (setChg_same _ _)) (Same.refl _ _))

theorem execChargerMeasureDone_ends (vholdMv : Nat) (riseMv : Nat) (capUf : Nat) (s : State) :
    Ends [.tab, .arm, .hold, .evs0, .evs1] s (execChargerMeasureDone vholdMv riseMv capUf s) := by
  unfold execChargerMeasureDone
  exact Ends.next
    (whilePowered_same _ _ (by decide)
      (fun _ =>
        (Same.ite
          (Same.ite
            (Same.call (addCap_same _ _) (by decide)
              (Same.call (setChg_same _ _) (by decide) (Same.widen (by decide) (sawVhold_same _ _))))
            (Same.call (setChg_same _ _) (by decide) (Same.widen (by decide) (sawVhold_same _ _))))
          (Same.widen (by decide) (sawVhold_same _ _)))))

theorem execChargerMeasureTimeout_ends (s : State) :
    Ends [.hold, .evs0, .evs1] s (execChargerMeasureTimeout s) := by
  unfold execChargerMeasureTimeout
  exact Ends.next
    (Same.ite (Same.call (setChg_same _ _) (by decide) (Same.put (Same.refl _ _) rfl)) (Same.refl _ _))

theorem execVholdUndervolt_ends (vholdMv : Nat) (s : State) :
    Ends [.pwr, .evr, .arm, .hold, .mgt, .ksc, .evs0, .evs1, .free, .out] s (execVholdUndervolt vholdMv s) := by
  unfold execVholdUndervolt
  exact Ends.next
    (whilePowered_same _ _ (by decide)
      (fun _ =>
        (Same.ite (Same.call (chgFault_same _) (by decide) (Same.widen (by decide) (sawVhold_same _ _)))
          (Same.widen (by decide) (sawVhold_same _ _)))))

theorem execVholdOvervolt_ends (vholdMv : Nat) (s : State) :
    Ends [.pwr, .evr, .arm, .hold, .mgt, .ksc, .evs0, .evs1, .free, .out] s (execVholdOvervolt vholdMv s) := by
  unfold execVholdOvervolt
  exact Ends.next
    (whilePowered_same _ _ (by decide)
      (fun _ =>
        (Same.ite (Same.widen (by decide) (sawVhold_same _ _))
          (Same.ite (Same.put (Same.widen (by decide) (sawVhold_same _ _)) rfl)
            (Same.call (chgFault_same _) (by decide) (Same.widen (by decide) (sawVhold_same _ _)))))))

theorem startCharger_same (s : State) :
    Same [.pwr, .hold, .evs0, .evs1, .out] s (startCharger s) := by
  unfold startCharger
  exact Same.ite
    (Same.call (setChg_same _ _) (by decide) (Same.call (emit_same _ _) (by decide) (Same.put (Same.refl _ _) rfl)))
    (Same.refl _ _)

theorem loadConf_same (s : State) :
    Same [.ftl, .arm, .hold] s (loadConf s) := by
  unfold loadConf
  try dsimp only
  split
  · exact (Same.put (Same.refl _ _) rfl)
  · exact (Same.ite (Same.call (setSlot_same _ _ _) (by decide) (Same.put (Same.put (Same.refl _ _) rfl) rfl))
      (Same.put (Same.refl _ _) rfl))

theorem loseShards_same (env : RestartEnv) (s : State) :
    Same [.tabMap, .hold] s (loseShards env s) := by
  unfold loseShards
  exact Same.put (Same.refl _ _) rfl

theorem frontierScan_same (phys : Sparse Band) (s : State) :
    Same [.tabMap, .tabDies, .tab, .hold] s (frontierScan phys s) := by
  unfold frontierScan
  exact Same.put (Same.fold (fun _ _ => (Same.widen (by decide) (applyVersion_same _ _))) _ (Same.refl _ _)) rfl

theorem restoreTables_same (env : RestartEnv) (s : State) :
    Same [.tabMap, .tabNss, .tabKeys, .tabDies, .tab, .media, .flash, .hold] s (restoreTables env s) := by
  unfold restoreTables
  exact Same.call (eraseStrays_same _ _) (by decide)
    (Same.ite (Same.call (frontierScan_same _ _) (by decide) (Same.put (Same.refl _ _) rfl))
      (Same.put (Same.refl _ _) rfl))

theorem restoreLine_same (bad : Bool) (k : Nat) (l : Line) (s : State) :
    Same [.evr, .ftlData, .ftl, .ksc, .evs0, .evs1, .free] s (restoreLine bad k l s) := by
  unfold restoreLine
  exact Same.ite (Same.refl _ _)
    (Same.ite (Same.call (event_same _ _ _ _) (by decide) (Same.widen (by decide) (setLine_same _ _ _)))
      (Same.ite
        (Same.ite (Same.widen (by decide) (setLine_same _ _ _))
          (Same.call (mergeReadDone_same _ _ _) (by decide) (Same.widen (by decide) (setLine_same _ _ _))))
        (Same.widen (by decide) (setLine_same _ _ _))))

theorem relocatePaired_same (r : Row) (s : State) :
    Same [.evr, .nvm, .tabDies, .tab, .ftlData, .ftl, .flash, .hold, .mgt, .ksc, .evs0, .evs1, .free, .out] s
    (relocatePaired r s) := by
  unfold relocatePaired
  try dsimp only
  split
  · exact (Same.widen (by decide) (moveItems_same _ _ _ _ _ _ _))
  · exact (Same.refl _ _)

theorem replayJournal_same (rows : List Row) (s : State) :
    Same [.evr, .nvm, .tabDies, .tab, .ftlData, .ftl, .flash, .hold, .mgt, .ksc, .evs0, .evs1, .free, .out] s
    (replayJournal rows s) := by
  unfold replayJournal
  exact Same.call (event_same _ _ _ _) (by decide)
    (Same.put
      (Same.fold (fun _ _ => (Same.widen (by decide) (relocatePaired_same _ _))) _
        (Same.fold (fun _ _ => (Same.widen (by decide) (closeBand_same _ _))) _ (Same.refl _ _))) rfl)

theorem restoreDump_same (env : RestartEnv) (d : Dump) (s : State) :
    Same [.boot, .norMem, .norBanks, .nor, .cfg, .trust, .evr, .nvm, .tabDies, .tab, .ftlData, .ftl, .flash, .hold,
    .mgt, .ksc, .evs0, .evs1, .free, .out] s (restoreDump env d s) := by
  unfold restoreDump
  exact Same.call (replayJournal_same _ _) (by decide)
    (Same.put
      (Same.fold (fun _ _ => (Same.widen (by decide) (restoreLine_same _ _ _ _))) _
        (Same.widen (by decide) (placeRecords_same _ _ _))) rfl)

theorem startResync_same (s : State) :
    Same [.evr, .ftl, .hold, .ksc, .evs0, .evs1, .free] s (startResync s) := by
  unfold startResync
  exact Same.ite
    (Same.call (event_same _ _ _ _) (by decide)
      (Same.call (evsSet_same _ _) (by decide) (Same.put (Same.refl _ _) rfl)))
    (Same.call (event_same _ _ _ _) (by decide)
      (Same.call (evsSet_same _ _) (by decide)
        (Same.put
          (Same.call (event_same _ _ _ _) (by decide)
            (Same.call (evsSet_same _ _) (by decide) (Same.put (Same.refl _ _) rfl))) rfl)))

theorem loseDump_same (s : State) :
    Same [.evr, .ftl, .hold, .mgt, .ksc, .evs0, .evs1, .free, .out] s (loseDump s) := by
  unfold loseDump
  exact Same.ite (Same.refl _ _)
    (Same.call (startResync_same _) (by decide)
      (Same.call (hscMark_same _ _) (by decide) (Same.put (Same.refl _ _) rfl)))

theorem finishCut_same (nsid : Nat) (n : Ns) (s : State) :
    Same [.trust, .evr, .nvm, .tabMap, .tabNss, .tabKeys, .media, .ftlData, .hold, .ksc, .evs0, .evs1, .free] s
    (finishCut nsid n s) := by
  unfold finishCut
  try dsimp only
  split
  · exact (Same.widen (by decide) (removeNs_same _ _))
  · exact (Same.ite (Same.widen (by decide) (modNs_same _ _ _))
      (Same.call (ustChange_same _ _) (by decide)
        (Same.call (modNs_same _ _ _) (by decide)
          (Same.call (dropNsData_same _ _) (by decide)
            (Same.ite (Same.widen (by decide) (regenerate_same _ _ _)) (Same.refl _ _))))))
  · exact (Same.refl _ _)

theorem restoreImports_same (s : State) :
    Same [.trust, .nvm, .tabMap, .tabNss, .tabKeys, .ftlData, .hold, .mqt, .evs0, .evs1] s (restoreImports s) := by
  unfold restoreImports
  exact Same.put (Same.fold (fun _ _ => (Same.widen (by decide) (discardImport_same _ _))) _ (Same.refl _ _)) rfl

theorem initGroup_same (g : Nat) (s : State) :
    Same [.tabDies, .evs0, .evs1] s (initGroup g s) := by
  unfold initGroup
  exact Same.ite (Same.widen (by decide) (setGrp_same _ _ _)) (Same.refl _ _)

theorem firstInit_same (s : State) :
    Same [.tabDies, .tab, .hold, .evs0, .evs1] s (firstInit s) := by
  unfold firstInit
  refine Same.fold (fun _ _ => ?_) _ ?_
  · exact Same.call (setGrp_same _ _ _) (by decide) (Same.widen (by decide) (setGrp_same _ _ _))
  · refine Same.call (markDelta_same _) (by decide) (Same.via (fun x => { x with
      tab.initialised := true
      tab.tnvmcap := listSum ((groupsInUse x).map fun g => (grpOf x g).native * setBytes x g * 22) * 93 / 100 / 2 ^
      30 * 2 ^ 30 })
      (fun _ => Same.put (Same.refl _ _) rfl) ?_)
    exact Same.fold (fun _ _ => Same.widen (by decide) (initGroup_same _ _)) _ (Same.refl _ _)

theorem packPass_same (s : State) :
    Same [.evr, .fns, .nvm, .tabMap, .tabDies, .tab, .media, .ftlData, .ftl, .flash, .hold, .mgt, .ksc, .evs0, .evs1,
    .free, .out] s (packPass s) := by
  unfold packPass
  exact Same.call (commitOpen_same _) (by decide)
    (Same.fold (fun _ _ => (Same.widen (by decide) (stripeRowPack_same _ _ _))) _ (Same.refl _ _))

theorem packRestored_same : ∀ (n : Nat) (s : State), Same [.evr, .fns, .nvm, .tabMap, .tabDies, .tab, .media,
    .ftlData, .ftl, .flash, .hold, .mgt, .ksc, .evs0, .evs1, .free, .out] s (packRestored n s)
  | 0, _ => Same.refl _ _
  | n + 1, s => by
    unfold packRestored
    have h : Same [.evr, .fns, .nvm, .tabMap, .tabDies, .tab, .media, .ftlData, .ftl, .flash, .hold, .mgt, .ksc,
    .evs0, .evs1, .free, .out] s (packPass s) := Same.widen (by decide) (packPass_same _)
    exact Same.ite (Same.refl _ _) (Same.ite (Same.trans h (packRestored_same n _)) h)

theorem finishRestart_same (env : RestartEnv) (s : State) :
    Same [.evr, .fns, .nvm, .tabMap, .tabDies, .tab, .media, .ftlData, .ftl, .flash, .hold, .mgt, .ksc, .evs0, .evs1,
    .free, .out] s (finishRestart env s) := by
  unfold finishRestart
  exact Same.call (noteRestartDone_same _) (by decide)
    (Same.call (startCkpt_same _) (by decide)
      (Same.call (controllersReady_same _) (by decide)
        (Same.via (fun x => { x with hold.restarted := true, hold.restartMs := env.restartMs })
          (fun _ => Same.put (Same.refl _ _) rfl)
          (Same.call (noteLimit_same _ _) (by decide)
            (Same.call (markDelta_same _) (by decide)
              (Same.call (replaceStores_same _ _ _) (by decide)
                (Same.via (fun x => { x with hold.dump := none, hold.dumpCapMib := dumpCap x })
                  (fun _ => Same.put (Same.refl _ _) rfl)
                  (Same.call (packRestored_same _ _) (by decide)
                    (Same.call (commitOpen_same _) (by decide) (Same.widen (by decide) (eraseMarked_same _)))))))))))

theorem recheckReadOnly_same (s : State) :
    Same [.evr, .nvm, .tab, .hold, .ksc, .evs0, .evs1, .free] s (recheckReadOnly s) := by
  unfold recheckReadOnly
  exact Same.ite
    (Same.call (event_same _ _ _ _) (by decide)
      (Same.call (evsSet_same _ _) (by decide)
        (Same.call (ustChange_same _ _) (by decide)
          (Same.call (markDelta_same _) (by decide) (Same.put (Same.refl _ _) rfl))))) (Same.refl _ _)

theorem recheckPositions_same (s : State) :
    Same [.trust, .evr, .nvm, .tabMap, .tabNss, .tabKeys, .tabDies, .tab, .ftlData, .ftl, .hold, .mqt, .mgt, .ksc,
    .evs0, .evs1, .free, .out] s (recheckPositions s) := by
  unfold recheckPositions
  exact Same.fold
    (fun _ _ =>
      (Same.ite (Same.widen (by decide) (failureEvent_same _ _))
        (Same.fold (fun _ _ => (Same.widen (by decide) (failureEvent_same _ _))) _ (Same.refl _ _)))) _
    (Same.refl _ _)

theorem restart_same (env : RestartEnv) (s : State) :
    Same [.pwr, .boot, .norMem, .norBanks, .nor, .cfg, .trust, .evr, .fns, .nvm, .tabMap, .tabNss, .tabKeys, .tabDies,
    .tab, .media, .ftlData, .ftl, .flash, .arm, .hold, .mqt, .mgt, .ksc, .evs0, .evs1, .free, .out] s (restart env s)
    := by
  unfold restart
  exact Same.call (finishRestart_same _ _) (by decide)
    (Same.call (recheckReadOnly_same _) (by decide)
      (Same.call (recheckPositions_same _) (by decide)
        (Same.ite
          (Same.call (restoreImports_same _) (by decide)
            (Same.fold (fun _ _ => (Same.widen (by decide) (finishCut_same _ _ _))) _ (by
              try dsimp only
              split
              · exact (Same.ite
                  (Same.call (restoreDump_same _ _ _) (by decide)
                    (Same.call (loseShards_same _ _) (by decide)
                      (Same.call (restoreTables_same _ _) (by decide)
                        (Same.call (startCharger_same _) (by decide) (Same.widen (by decide) (loadConf_same _))))))
                  (Same.call (loseDump_same _) (by decide)
                    (Same.call (placeRecords_same _ _ _) (by decide)
                      (Same.call (loseShards_same _ _) (by decide)
                        (Same.call (restoreTables_same _ _) (by decide)
                          (Same.call (startCharger_same _) (by decide) (Same.widen (by decide) (loadConf_same
                          _))))))))
              · exact (Same.call (loseDump_same _) (by decide)
                  (Same.call (placeRecords_same _ _ _) (by decide)
                    (Same.call (loseShards_same _ _) (by decide)
                      (Same.call (restoreTables_same _ _) (by decide)
                        (Same.call (startCharger_same _) (by decide) (Same.widen (by decide) (loadConf_same
                        _))))))))))
          (Same.call (firstInit_same _) (by decide)
            (Same.call (restoreImports_same _) (by decide)
              (Same.fold (fun _ _ => (Same.widen (by decide) (finishCut_same _ _ _))) _ (by
                try dsimp only
                split
                · exact (Same.ite
                    (Same.call (restoreDump_same _ _ _) (by decide)
                      (Same.call (loseShards_same _ _) (by decide)
                        (Same.call (restoreTables_same _ _) (by decide)
                          (Same.call (startCharger_same _) (by decide) (Same.widen (by decide) (loadConf_same _))))))
                    (Same.call (loseDump_same _) (by decide)
                      (Same.call (placeRecords_same _ _ _) (by decide)
                        (Same.call (loseShards_same _ _) (by decide)
                          (Same.call (restoreTables_same _ _) (by decide)
                            (Same.call (startCharger_same _) (by decide) (Same.widen (by decide) (loadConf_same
                            _))))))))
                · exact (Same.call (loseDump_same _) (by decide)
                    (Same.call (placeRecords_same _ _ _) (by decide)
                      (Same.call (loseShards_same _ _) (by decide)
                        (Same.call (restoreTables_same _ _) (by decide)
                          (Same.call (startCharger_same _) (by decide) (Same.widen (by decide) (loadConf_same
                          _))))))))))))))

theorem execRestart_ends (env : RestartEnv) (s : State) :
    Ends [.pwr, .boot, .norMem, .norBanks, .nor, .cfg, .trust, .evr, .fns, .nvm, .tabMap, .tabNss, .tabKeys, .tabDies,
    .tab, .media, .ftlData, .ftl, .flash, .arm, .hold, .mqt, .mgt, .ksc, .evs0, .evs1, .free, .out] s (execRestart env
    s) := by
  unfold execRestart
  exact Ends.next (Same.ite (Same.widen (by decide) (restart_same _ _)) (Same.refl _ _))

theorem execCheckpointStart_ends (_why : CkptWhy) (s : State) :
    Ends [.hold, .free] s (execCheckpointStart _why s) := by
  unfold execCheckpointStart
  exact Ends.next (Same.ite (Same.widen (by decide) (triggerCkpt_same _)) (Same.refl _ _))

theorem execCheckpointCommit_ends (ok : Bool) (s : State) :
    Ends [.media, .hold, .evs0, .evs1, .free] s (execCheckpointCommit ok s) := by
  unfold execCheckpointCommit
  exact Ends.next (by
    try dsimp only
    split
    · exact (Same.refl _ _)
    · exact (Same.ite (Same.refl _ _)
        (Same.ite (Same.widen (by decide) (commitCkpt_same _ _))
          (Same.call (evsSet_same _ _) (by decide) (Same.put (Same.refl _ _) rfl)))))

theorem execSegmentWrite_ends (_why : SegWhy) (s : State) :
    Ends [.hold] s (execSegmentWrite _why s) := by
  unfold execSegmentWrite
  exact Ends.next (Same.ite (Same.widen (by decide) (startSegment_same _)) (Same.refl _ _))

theorem execSegmentCommit_ends (ok : Bool) (s : State) :
    Ends [.media, .hold, .free] s (execSegmentCommit ok s) := by
  unfold execSegmentCommit
  exact Ends.next (by
    try dsimp only
    split
    · exact (Same.refl _ _)
    · exact (Same.ite (Same.refl _ _)
        (Same.ite
          (Same.call (drawn_same _ _) (by decide)
            (Same.call (replaceStores_same _ _ _) (by decide) (Same.put (Same.refl _ _) rfl)))
          (Same.put (Same.refl _ _) rfl))))

end Sys2Proof.Machine
end

