-- ==== Sys2Proof/Laws/FramePcie.lean ====
section
/-! SUPPORT. Frames of the operations of Machine/Pcie.lean: the fields each of them can change. -/
namespace Sys2Proof.Machine

theorem aerLog_same (f : Func) (e : AerErr) (s : State) :
    Same [.fns] s (aerLog f e s) := by
  unfold aerLog
  exact Same.widen (by decide) (modFn_same _ _ _)

theorem atsFollow_same (s : State) :
    Same [.fns] s (atsFollow s) := by
  unfold atsFollow
  exact Same.put (Same.refl _ _) rfl

theorem atsAdd_same (f : Func) (e : AtsEntry) (s : State) :
    Same [.fns] s (atsAdd f e s) := by
  unfold atsAdd
  exact Same.ite
    (Same.call (modFn_same _ _ _) (by decide)
      (Same.call (modFn_same _ _ _) (by decide)
        (Same.call (atsFollow_same _) (by decide) (Same.widen (by decide) (modFn_same _ _ _)))))
    (Same.call (modFn_same _ _ _) (by decide)
      (Same.call (atsFollow_same _) (by decide) (Same.widen (by decide) (modFn_same _ _ _))))

theorem atsEnableTo_same (f : Func) (b : Bool) (s : State) :
    Same [.fns] s (atsEnableTo f b s) := by
  unfold atsEnableTo
  exact Same.call (atsFollow_same _) (by decide) (Same.widen (by decide) (modFn_same _ _ _))

theorem busMasterClear_same (f : Func) (s : State) :
    Same [.evr, .bmlRid, .bmlPort, .bmlCount, .fns, .nvm, .ftlData, .mgt, .ksc, .evs0, .evs1, .free, .out] s
    (busMasterClear f s) := by
  unfold busMasterClear
  exact Same.ite (Same.refl _ _)
    (Same.ite
      (Same.call (enterFatal_same _ _ _) (by decide)
        (Same.put (Same.call (intxFollow_same _ _) (by decide) (Same.widen (by decide) (modFn_same _ _ _))) rfl))
      (Same.call (intxFollow_same _ _) (by decide) (Same.widen (by decide) (modFn_same _ _ _))))

theorem writeMsiMask_same (f : Func) (v : W32) (s : State) :
    Same [.fns, .out] s (writeMsiMask f v s) := by
  unfold writeMsiMask
  exact Same.ite
    (Same.fold
      (fun _ _ => (Same.call (signalVector_same _ _ _) (by decide) (Same.widen (by decide) (modFn_same _ _ _)))) _
      (Same.widen (by decide) (modFn_same _ _ _))) (Same.widen (by decide) (modFn_same _ _ _))

theorem enterL1_same (p : Pf) (lo : Nat) (s : State) :
    Same [.port0, .port1, .evs0, .evs1] s (enterL1 p lo s) := by
  unfold enterL1
  exact Same.widen (by decide) (setPort_same _ _ _)

theorem pmFollow_same (p : Pf) (s : State) :
    Same [.port0, .port1, .evs0, .evs1] s (pmFollow p s) := by
  unfold pmFollow
  exact Same.ite (Same.ite (Same.refl _ _) (Same.widen (by decide) (enterL1_same _ _ _)))
    (Same.ite (Same.widen (by decide) (setPort_same _ _ _)) (Same.refl _ _))

theorem cfgWrite_same (f : Func) (fld : CfgField) (v : W32) (s : State) :
    Same [.trust, .evr, .upd, .port0, .port1, .bmlRid, .bmlPort, .bmlCount, .fns, .nvm, .tabMap, .tabNss, .tabKeys,
    .ftlData, .hold, .mqt, .mgt, .ksc, .evs0, .evs1, .free, .out] s (cfgWrite f fld v s) := by
  unfold cfgWrite
  try dsimp only
  split
  · exact (Same.ite (Same.widen (by decide) (modFn_same _ _ _)) (Same.refl _ _))
  · exact (Same.ite (Same.call (intxFollow_same _ _) (by decide) (Same.widen (by decide) (modFn_same _ _ _)))
      (Same.widen (by decide) (busMasterClear_same _ _)))
  · exact (Same.ite (Same.widen (by decide) (modFn_same _ _ _)) (Same.refl _ _))
  · exact (Same.ite (Same.widen (by decide) (modFn_same _ _ _)) (Same.refl _ _))
  · exact (Same.ite (Same.widen (by decide) (modeChange_same _ _ _ _ _)) (Same.refl _ _))
  · exact (Same.ite (Same.ite (Same.widen (by decide) (modFn_same _ _ _)) (Same.refl _ _)) (Same.refl _ _))
  · exact (Same.ite (Same.widen (by decide) (modFn_same _ _ _)) (Same.refl _ _))
  · exact (Same.ite (Same.widen (by decide) (modeChange_same _ _ _ _ _)) (Same.refl _ _))
  · exact (Same.ite (Same.ite (Same.widen (by decide) (modFn_same _ _ _)) (Same.refl _ _)) (Same.refl _ _))
  · exact (Same.ite (Same.widen (by decide) (writeMsiMask_same _ _ _)) (Same.refl _ _))
  · exact (Same.widen (by decide) (modeChange_same _ _ _ _ _))
  · exact (Same.ite (Same.widen (by decide) (modFn_same _ _ _)) (Same.widen (by decide) (unmaskFunction_same _ _)))
  · exact (Same.ite
      (Same.ite (Same.call (pmFollow_same _ _) (by decide) (Same.widen (by decide) (modFn_same _ _ _)))
        (Same.refl _ _)) (Same.refl _ _))
  · exact (Same.ite (Same.widen (by decide) (modFn_same _ _ _)) (Same.refl _ _))
  · exact (Same.ite (Same.widen (by decide) (flrOf_same _ _)) (Same.refl _ _))
  · exact (Same.widen (by decide) (atsEnableTo_same _ _ _))
  · exact (Same.ite
      (Same.ite (Same.widen (by decide) (modFn_same _ _ _))
        (Same.ite (Same.widen (by decide) (clearVfs_same _ _)) (Same.refl _ _))) (Same.refl _ _))
  · exact (Same.ite (Same.ite (Same.widen (by decide) (modFn_same _ _ _)) (Same.refl _ _)) (Same.refl _ _))
  · exact (Same.ite (Same.widen (by decide) (modFn_same _ _ _)) (Same.refl _ _))
  · exact (Same.ite (Same.ite (Same.widen (by decide) (modFn_same _ _ _)) (Same.refl _ _)) (Same.refl _ _))
  · exact (Same.ite (Same.ite (Same.widen (by decide) (modFn_same _ _ _)) (Same.refl _ _)) (Same.refl _ _))
  · exact (Same.ite (Same.ite (Same.widen (by decide) (modFn_same _ _ _)) (Same.refl _ _)) (Same.refl _ _))
  · exact (Same.ite (Same.widen (by decide) (modFn_same _ _ _)) (Same.refl _ _))
  · exact (Same.ite (Same.widen (by decide) (modFn_same _ _ _)) (Same.refl _ _))
  · exact (Same.ite (Same.widen (by decide) (modFn_same _ _ _)) (Same.refl _ _))
  · exact (Same.ite (Same.widen (by decide) (modFn_same _ _ _)) (Same.refl _ _))
  · exact (Same.widen (by decide) (modFn_same _ _ _))
  · exact (Same.widen (by decide) (modFn_same _ _ _))
  · exact (Same.widen (by decide) (modFn_same _ _ _))
  · exact (Same.refl _ _)

theorem countTimeouts_same (n : Nat) (s : State) :
    Same [.timeouts, .evs0, .evs1] s (countTimeouts n s) := by
  unfold countTimeouts
  exact Same.call (evsSetIf_same _ _ _) (by decide) (Same.put (Same.refl _ _) rfl)

theorem execConfigSpaceBuild_ends (s : State) :
    Ends [.boot] s (execConfigSpaceBuild s) := by
  unfold execConfigSpaceBuild
  exact Ends.next (Same.ite (Same.put (Same.refl _ _) rfl) (Same.refl _ _))

theorem trainPort_same (p : Pf) (x : LinkPartner) (s : State) :
    Same [.port0, .port1, .evs0, .evs1] s (trainPort p x s) := by
  unfold trainPort
  exact Same.ite (Same.widen (by decide) (portDown_same _ _)) (Same.widen (by decide) (setPort_same _ _ _))

theorem execLinkTraining_ends (port : Pf) (partner : LinkPartner) (s : State) :
    Ends [.port0, .port1, .evs0, .evs1] s (execLinkTraining port partner s) := by
  unfold execLinkTraining
  exact Ends.next (Same.ite (Same.widen (by decide) (trainPort_same _ _ _)) (Same.refl _ _))

theorem linkDownOf_same (p : Pf) (s : State) :
    Same [.trust, .evr, .upd, .port0, .port1, .timeouts, .fns, .nvm, .tabMap, .tabNss, .tabKeys, .ftlData, .hold,
    .mqt, .mgt, .ksc, .evs0, .evs1, .free, .out] s (linkDownOf p s) := by
  unfold linkDownOf
  exact Same.ite (Same.call (linkResetOf_same _ _) (by decide) (Same.widen (by decide) (countTimeouts_same _ _)))
    (Same.refl _ _)

theorem execLaneFailure_ends (port : Pf) (s : State) :
    Ends [.trust, .evr, .upd, .port0, .port1, .timeouts, .fns, .nvm, .tabMap, .tabNss, .tabKeys, .ftlData, .hold,
    .mqt, .mgt, .ksc, .evs0, .evs1, .free, .out] s (execLaneFailure port s) := by
  unfold execLaneFailure
  exact Ends.next
    (Same.ite (Same.refl _ _)
      (Same.ite (Same.widen (by decide) (linkDownOf_same _ _)) (Same.widen (by decide) (setPort_same _ _ _))))

theorem recoveryCfgWrite_same (fld : CfgField) (v : W32) (s : State) :
    Same [.rcv] s (recoveryCfgWrite fld v s) := by
  unfold recoveryCfgWrite
  try dsimp only
  split
  · exact (Same.put (Same.refl _ _) rfl)
  · exact (Same.put (Same.refl _ _) rfl)
  · exact (Same.put (Same.refl _ _) rfl)
  · exact (Same.refl _ _)

theorem execConfigRequest_ends (f : Func) (req : CfgReq) (s : State) :
    Ends [.rcv, .trust, .evr, .upd, .port0, .port1, .bmlRid, .bmlPort, .bmlCount, .fns, .nvm, .tabMap, .tabNss,
    .tabKeys, .ftlData, .hold, .mqt, .mgt, .ksc, .evs0, .evs1, .free, .out] s (execConfigRequest f req s) := by
  unfold execConfigRequest
  exact Ends.next
    (Same.ite (Same.refl _ _)
      (Same.ite
        (Same.ite (by
          try dsimp only
          split
          · exact (Same.widen (by decide) (emit_same _ _))
          · exact (Same.call (emit_same _ _) (by decide) (Same.widen (by decide) (recoveryCfgWrite_same _ _ _))))
          (Same.widen (by decide) (emit_same _ _)))
        (Same.ite (Same.widen (by decide) (emit_same _ _))
          (Same.ite (Same.widen (by decide) (emit_same _ _)) (by
            try dsimp only
            split
            · exact (Same.widen (by decide) (emit_same _ _))
            · exact (Same.call (emit_same _ _) (by decide) (Same.widen (by decide) (cfgWrite_same _ _ _ _))))))))

theorem execBusMasterEnableClear_ends (f : Func) (s : State) :
    Ends [.evr, .bmlRid, .bmlPort, .bmlCount, .fns, .nvm, .ftlData, .mgt, .ksc, .evs0, .evs1, .free, .out] s
    (execBusMasterEnableClear f s) := by
  unfold execBusMasterEnableClear
  exact Ends.next (Same.ite (Same.widen (by decide) (busMasterClear_same _ _)) (Same.refl _ _))

theorem execAtsEnableChange_ends (f : Func) (enable : Bool) (s : State) :
    Ends [.fns] s (execAtsEnableChange f enable s) := by
  unfold execAtsEnableChange
  exact Ends.next (Same.ite (Same.widen (by decide) (atsEnableTo_same _ _ _)) (Same.refl _ _))

theorem transferFails_same (t : Tag) (s : State) :
    Same [.fns, .nvm, .ksc, .evs0, .evs1, .out] s (transferFails t s) := by
  unfold transferFails
  try dsimp only
  split
  · exact (Same.ite (Same.widen (by decide) (finish_same _ _ _)) (Same.refl _ _))
  · exact (Same.refl _ _)

theorem execAtsTranslationCompletion_ends (f : Func) (page : Nat) (readOk : Bool) (writeOk : Bool) (needWrite : Bool)
    (tag : Tag) (s : State) :
    Ends [.fns, .nvm, .ksc, .evs0, .evs1, .out] s (execAtsTranslationCompletion f page readOk writeOk needWrite tag s)
    := by
  unfold execAtsTranslationCompletion
  exact Ends.next
    (Same.ite (Same.refl _ _)
      (Same.ite (Same.ite (Same.widen (by decide) (atsAdd_same _ _ _)) (Same.refl _ _))
        (Same.call (transferFails_same _ _) (by decide)
          (Same.ite (Same.widen (by decide) (atsAdd_same _ _ _)) (Same.refl _ _)))))

theorem execInvalidateRequest_ends (f : Func) (itag : Nat) (lo : Nat) (hi : Nat) (s : State) :
    Ends [.fns] s (execInvalidateRequest f itag lo hi s) := by
  unfold execInvalidateRequest
  exact Ends.next (Same.ite (Same.refl _ _) (Same.widen (by decide) (setFn_same _ _ _)))

theorem execInvalidateCompletion_ends (f : Func) (itag : Nat) (s : State) :
    Ends [.fns, .out] s (execInvalidateCompletion f itag s) := by
  unfold execInvalidateCompletion
  exact Ends.next (by
    try dsimp only
    split
    · exact (Same.refl _ _)
    · exact (Same.ite (Same.refl _ _)
        (Same.call (emit_same _ _) (by decide) (Same.widen (by decide) (setFn_same _ _ _)))))

theorem execCompletionTimeout_ends (tag : Tag) (s : State) :
    Ends [.timeouts, .fns, .nvm, .ksc, .evs0, .evs1, .out] s (execCompletionTimeout tag s) := by
  unfold execCompletionTimeout
  exact Ends.next (by
    try dsimp only
    split
    · exact (Same.refl _ _)
    · exact (Same.ite
        (Same.call (transferFails_same _ _) (by decide)
          (Same.call (aerLog_same _ _ _) (by decide) (Same.widen (by decide) (countTimeouts_same _ _))))
        (Same.refl _ _)))

theorem execUnexpectedCompletion_ends (f : Func) (s : State) :
    Ends [.unexpected, .fns] s (execUnexpectedCompletion f s) := by
  unfold execUnexpectedCompletion
  exact Ends.next
    (Same.ite (Same.call (aerLog_same _ _ _) (by decide) (Same.put (Same.refl _ _) rfl)) (Same.refl _ _))

theorem execLinkDown_ends (port : Pf) (s : State) :
    Ends [.trust, .evr, .upd, .port0, .port1, .timeouts, .fns, .nvm, .tabMap, .tabNss, .tabKeys, .ftlData, .hold,
    .mqt, .mgt, .ksc, .evs0, .evs1, .free, .out] s (execLinkDown port s) := by
  unfold execLinkDown
  exact Ends.next (Same.ite (Same.widen (by decide) (linkDownOf_same _ _)) (Same.refl _ _))

theorem execDoeObject_ends (port : Pf) (protocol : DoeProtocol) (dwords : Nat) (s : State) (head : optParam Bytes [])
    :
    Ends [.port0, .port1, .evs0, .evs1, .out] s (execDoeObject port protocol dwords s head) := by
  unfold execDoeObject
  exact Ends.next
    (Same.ite (Same.refl _ _)
      (Same.ite (Same.call (emit_same _ _) (by decide) (Same.widen (by decide) (setPort_same _ _ _)))
        (Same.ite (Same.widen (by decide) (emit_same _ _))
          (Same.ite
            (Same.ite
              (Same.call (emit_same _ _) (by decide)
                (Same.call (emit_same _ _) (by decide) (Same.widen (by decide) (setPort_same _ _ _))))
              (Same.call (emit_same _ _) (by decide) (Same.widen (by decide) (setPort_same _ _ _))))
            (Same.call (spdmUnsupported_same _ _ _) (by decide)
              (Same.ite
                (Same.call (emit_same _ _) (by decide)
                  (Same.call (emit_same _ _) (by decide) (Same.widen (by decide) (setPort_same _ _ _))))
                (Same.call (emit_same _ _) (by decide) (Same.widen (by decide) (setPort_same _ _ _)))))))))

theorem execIdeCheckFailure_ends (port : Pf) (stream : Nat) (sub : IdeSub) (s : State) :
    Ends [.trust, .evr, .fns, .ksc, .evs0, .evs1, .free] s (execIdeCheckFailure port stream sub s) := by
  unfold execIdeCheckFailure
  exact Ends.next
    (Same.ite
      (Same.call (event_same _ _ _ _) (by decide)
        (Same.call (aerLog_same _ _ _) (by decide) (Same.widen (by decide) (ideFail_same _ _ _)))) (Same.refl _ _))

theorem markErr_same (f : Func) (n : Nat) (s : State) :
    Same [.fns] s (markErr f n s) := by
  unfold markErr
  exact Same.widen (by decide) (modFn_same _ _ _)

theorem execDmaErrorCompletion_ends (tag : Tag) (kind : DmaError) (s : State) :
    Ends [.fns, .nvm, .ksc, .evs0, .evs1, .out] s (execDmaErrorCompletion tag kind s) := by
  unfold execDmaErrorCompletion
  exact Ends.next (by
    try dsimp only
    split
    · exact (Same.refl _ _)
    · exact (Same.ite
        (Same.call (transferFails_same _ _) (by decide)
          (Same.call (aerLog_same _ _ _) (by decide) (Same.widen (by decide) (markErr_same _ _ _)))) (Same.refl _ _)))

theorem execAspmL1Entry_ends (port : Pf) (s : State) :
    Ends [.port0, .port1, .evs0, .evs1] s (execAspmL1Entry port s) := by
  unfold execAspmL1Entry
  exact Ends.next (Same.ite (Same.refl _ _) (Same.widen (by decide) (enterL1_same _ _ _)))

theorem execL1Exit_ends (port : Pf) (s : State) :
    Ends [.port0, .port1, .evs0, .evs1] s (execL1Exit port s) := by
  unfold execL1Exit
  exact Ends.next (Same.widen (by decide) (setPort_same _ _ _))

theorem execL0pWidthChange_ends (port : Pf) (width : Nat) (s : State) :
    Ends [.port0, .port1, .evs0, .evs1] s (execL0pWidthChange port width s) := by
  unfold execL0pWidthChange
  exact Ends.next (Same.ite (Same.widen (by decide) (setPort_same _ _ _)) (Same.refl _ _))

end Sys2Proof.Machine
end

