-- ==== Sys2Proof/Laws/FramePower.lean ====
section
/-! SUPPORT. Frames of the operations of Machine/Power.lean: the fields each of them can change. -/
namespace Sys2Proof.Machine

theorem applyFallbacks_same (s : State) :
    Same [.pwr, .arm, .evs0, .evs1] s (applyFallbacks s) := by
  unfold applyFallbacks
  exact Same.fold
    (fun _ _ =>
      (Same.ite
        (Same.call (publish_same _ _ _) (by decide)
          (Same.call (driveOut_same _ _ _) (by decide) (Same.widen (by decide) (setSlot_same _ _ _))))
        (Same.call (driveOut_same _ _ _) (by decide) (Same.widen (by decide) (setSlot_same _ _ _))))) _
    (Same.refl _ _)

theorem endExports_same (s : State) :
    Same [.evr, .ksc, .evs0, .evs1, .free] s (endExports s) := by
  unfold endExports
  exact Same.ite (Same.refl _ _)
    (Same.fold (fun _ _ => (Same.widen (by decide) (mqEvent_same _ _ _ _))) _ (Same.refl _ _))

theorem endSession_same (s : State) :
    Same [.evr, .ksc, .evs0, .evs1, .free] s (endSession s) := by
  unfold endSession
  exact Same.ite (Same.widen (by decide) (event_same _ _ _ _)) (Same.refl _ _)

theorem wideReset_same (kind : BootKind) (s : State) :
    Same [.pwr, .fuses, .boot, .vault, .rcv, .norMem, .norOps, .norBanks, .cfg, .trust, .evr, .upd, .port0, .port1,
    .ctoMs, .ctoBad, .ctoOverride, .bmlRid, .bmlPort, .bmlCount, .timeouts, .unexpected, .fns, .nvm, .tabMap, .tabNss,
    .tabKeys, .tabDies, .tab, .ftlData, .ftl, .flash, .arm, .hold, .mqt, .mgt, .ksc, .evs0, .evs1, .latch, .free] s
    (wideReset kind s) := by
  unfold wideReset
  exact Same.put
    (Same.call (evrReset_same _) (by decide) (Same.call (dieReset_same _) (by decide) (Same.put (Same.refl _ _) rfl)))
    rfl

theorem execColdReset_ends (s : State) :
    Ends [.pwr, .fuses, .boot, .vault, .rcv, .norMem, .norOps, .norBanks, .cfg, .trust, .evr, .upd, .port0, .port1,
    .ctoMs, .ctoBad, .ctoOverride, .bmlRid, .bmlPort, .bmlCount, .timeouts, .unexpected, .fns, .nvm, .tabMap, .tabNss,
    .tabKeys, .tabDies, .tab, .ftlData, .ftl, .flash, .arm, .hold, .mqt, .mgt, .ksc, .evs0, .evs1, .latch, .free,
    .out] s (execColdReset s) := by
  unfold execColdReset
  exact Ends.next (Same.call (emit_same _ _) (by decide) (Same.widen (by decide) (wideReset_same _ _)))

theorem execPowerOnReset_ends (s : State) :
    Ends [.pwr, .fuses, .boot, .vault, .rcv, .norMem, .norOps, .norBanks, .cfg, .trust, .evr, .upd, .port0, .port1,
    .ctoMs, .ctoBad, .ctoOverride, .bmlRid, .bmlPort, .bmlCount, .timeouts, .unexpected, .fns, .nvm, .tabMap, .tabNss,
    .tabKeys, .tabDies, .tab, .ftlData, .ftl, .flash, .arm, .hold, .mqt, .mgt, .ksc, .evs0, .evs1, .latch, .free,
    .out] s (execPowerOnReset s) := by
  unfold execPowerOnReset
  exact Ends.next (Same.call (emit_same _ _) (by decide) (Same.widen (by decide) (wideReset_same _ _)))

theorem release_same (s : State) :
    Same [.pwr, .boot] s (release s) := by
  unfold release
  exact Same.put (Same.refl _ _) rfl

theorem execInternalResetRelease_ends (pwrfailHigh : Bool) (s : State) :
    Ends [.pwr, .boot] s (execInternalResetRelease pwrfailHigh s) := by
  unfold execInternalResetRelease
  exact Ends.next
    (Same.ite (Same.refl _ _) (Same.ite (Same.widen (by decide) (release_same _)) (Same.put (Same.refl _ _) rfl)))

theorem relatchAddress_same (a : BitVec 3) (s : State) :
    Same [.mgt, .evs0, .evs1, .out] s (relatchAddress a s) := by
  unfold relatchAddress
  exact Same.ite (Same.refl _ _) (Same.call (busMode_same _ _) (by decide) (Same.put (Same.refl _ _) rfl))

theorem execStrapSample_ends (levels : Straps) (s : State) :
    Ends [.pwr, .mgt, .evs0, .evs1, .out] s (execStrapSample levels s) := by
  unfold execStrapSample
  exact Ends.next
    (Same.ite (Same.call (relatchAddress_same _ _) (by decide) (Same.put (Same.refl _ _) rfl)) (Same.refl _ _))

theorem execPwrfailReleaseWait_ends (s : State) :
    Ends [.pwr, .boot] s (execPwrfailReleaseWait s) := by
  unfold execPwrfailReleaseWait
  exact Ends.next (Same.ite (Same.widen (by decide) (release_same _)) (Same.refl _ _))

theorem programStop_same (cause : W8) (flushMs : W32) (dumped : W32) (ok : Bool) (s : State) :
    Same [.norMem, .nor, .cfg, .free] s (programStop cause flushMs dumped ok s) := by
  unfold programStop
  exact Same.ite (Same.refl _ _) (Same.widen (by decide) (writeStop_same _ _ _ _ _ _))

theorem fundamental_same (internal : Bool) (r : FlushResult) (s : State) :
    Same [.pwr, .fuses, .boot, .vault, .rcv, .norMem, .norOps, .norBanks, .nor, .cfg, .trust, .evr, .upd, .port0,
    .port1, .ctoMs, .ctoBad, .ctoOverride, .bmlRid, .bmlPort, .bmlCount, .timeouts, .unexpected, .fns, .nvm, .tabMap,
    .tabNss, .tabKeys, .tabDies, .tab, .media, .ftlData, .ftl, .flash, .arm, .hold, .mqt, .mgt, .ksc, .evs0, .evs1,
    .latch, .free, .out] s (fundamental internal r s) := by
  unfold fundamental
  refine Same.ite (Same.refl _ _) (Same.call (emit_same _ _) (by decide)
    (Same.via (fun x => { x with pwr.chgGateHeld := !charging x.hold.chg || !x.pwr.armrefOk })
      (fun _ => Same.put (Same.refl _ _) rfl) ?_))
  exact Same.call (wideReset_same _ _) (by decide)
    (Same.call (programStop_same _ _ _ _ _) (by decide)
      (Same.call (dumpAll_same _ _) (by decide)
        (Same.call (channelsFlush_same _) (by decide)
          (Same.call (emit_same _ _) (by decide)
            (Same.call (armPowerFail_same _) (by decide)
              (Same.call (endSession_same _) (by decide) (Same.widen (by decide) (endExports_same _))))))))

theorem execFundamentalReset_ends (cause : FundCause) (r : FlushResult) (s : State) :
    Ends [.pwr, .fuses, .boot, .vault, .rcv, .norMem, .norOps, .norBanks, .nor, .cfg, .trust, .evr, .upd, .port0,
    .port1, .ctoMs, .ctoBad, .ctoOverride, .bmlRid, .bmlPort, .bmlCount, .timeouts, .unexpected, .fns, .nvm, .tabMap,
    .tabNss, .tabKeys, .tabDies, .tab, .media, .ftlData, .ftl, .flash, .arm, .hold, .mqt, .mgt, .ksc, .evs0, .evs1,
    .latch, .free, .out] s (execFundamentalReset cause r s) := by
  unfold execFundamentalReset
  exact Ends.next (by
    try dsimp only
    split
    · exact (Same.widen (by decide) (fundamental_same _ _ _))
    · exact (Same.ite
        (Same.ite (Same.widen (by decide) (fundamental_same _ _ _))
          (Same.ite (Same.refl _ _)
            (Same.ite (Same.widen (by decide) (linkResetOf_same _ _))
              (Same.ite (Same.widen (by decide) (linkResetOf_same _ _)) (Same.refl _ _)))))
        (Same.ite (Same.widen (by decide) (fundamental_same _ _ _)) (Same.refl _ _))))

theorem shutdown_same (f : Func) (s : State) :
    Same [.boot, .fns, .hold, .free] s (shutdown f s) := by
  unfold shutdown
  exact Same.call (modCtrl_same _ _ _) (by decide)
    (Same.put (Same.call (triggerCkpt_same _) (by decide) (Same.widen (by decide) (startSegment_same _))) rfl)

theorem execShutdownNotification_ends (f : Func) (s : State) :
    Ends [.boot, .fns, .hold, .mqt, .free] s (execShutdownNotification f s) := by
  unfold execShutdownNotification
  exact Ends.next
    (fnWrite_same _ _ _ (by decide)
      (fun _ => (Same.ite (Same.widen (by decide) (shutdown_same _ _)) (Same.refl _ _))))

theorem stopAll_same (s : State) :
    Same [.pwr, .port0, .port1, .ksc, .evs0, .evs1, .free, .out] s (stopAll s) := by
  unfold stopAll
  exact Same.call (emit_same _ _) (by decide)
    (Same.call (kscFollow_same _) (by decide)
      (Same.put
        (Same.ite
          (Same.call (emit_same _ _) (by decide)
            (Same.call (portDown_same _ _) (by decide) (Same.widen (by decide) (portDown_same _ _))))
          (Same.call (portDown_same _ _) (by decide) (Same.widen (by decide) (portDown_same _ _)))) rfl))

theorem execBrownOut_ends (s : State) :
    Ends [.pwr, .port0, .port1, .ksc, .evs0, .evs1, .free, .out] s (execBrownOut s) := by
  unfold execBrownOut
  exact Ends.next (Same.ite (Same.widen (by decide) (stopAll_same _)) (Same.refl _ _))

theorem powerFail_same (cause : W8) (r : FlushResult) (s : State) :
    Same [.pwr, .evr, .tabDies, .media, .flash, .arm, .hold, .ksc, .evs0, .evs1, .free, .out] s (powerFail cause r s)
    := by
  unfold powerFail
  refine Same.ite (Same.refl _ _) ?_
  dsimp only
  split
  · exact Same.put (Same.refl _ _) rfl
  · refine Same.call (dumpAll_same _ _) (by decide)
      (Same.call (channelsFlush_same _) (by decide)
        (Same.call (holdFlushPower_same _) (by decide)
          (Same.call (emit_same _ _) (by decide)
            (Same.via (fun x => { x with arm.rate := 60000 }) (fun _ => Same.put (Same.refl _ _) rfl) (Same.ite ?_
            ?_)))))
    · exact Same.call (armPowerFail_same _) (by decide) (Same.put (Same.widen (by decide) (endSession_same _)) rfl)
    · exact Same.call (setChg_same _ _) (by decide)
        (Same.call (armPowerFail_same _) (by decide) (Same.put (Same.widen (by decide) (endSession_same _)) rfl))

theorem execPwrfailFall_ends (r : FlushResult) (s : State) :
    Ends [.pwr, .evr, .tabDies, .media, .flash, .arm, .hold, .ksc, .evs0, .evs1, .free, .out] s (execPwrfailFall r s)
    := by
  unfold execPwrfailFall
  exact Ends.next (Same.call (powerFail_same _ _ _) (by decide) (Same.put (Same.refl _ _) rfl))

theorem flushComplete_same (pwrfailHigh : Bool) (s : State) :
    Same [.pwr, .fuses, .boot, .vault, .rcv, .norMem, .norOps, .norBanks, .nor, .cfg, .trust, .evr, .upd, .port0,
    .port1, .ctoMs, .ctoBad, .ctoOverride, .bmlRid, .bmlPort, .bmlCount, .timeouts, .unexpected, .fns, .nvm, .tabMap,
    .tabNss, .tabKeys, .tabDies, .tab, .ftlData, .ftl, .flash, .arm, .hold, .mqt, .mgt, .ksc, .evs0, .evs1, .latch,
    .free, .out] s (flushComplete pwrfailHigh s) := by
  unfold flushComplete
  try dsimp only
  split
  · exact (Same.refl _ _)
  · exact (Same.ite
      (Same.put
        (Same.call (wideReset_same _ _) (by decide)
          (Same.call (stopAll_same _) (by decide)
            (Same.call (programStop_same _ _ _ _ _) (by decide) (Same.put (Same.refl _ _) rfl)))) rfl)
      (Same.call (stopAll_same _) (by decide)
        (Same.call (programStop_same _ _ _ _ _) (by decide) (Same.put (Same.refl _ _) rfl))))

theorem execFlushComplete_ends (pwrfailHigh : Bool) (s : State) :
    Ends [.pwr, .fuses, .boot, .vault, .rcv, .norMem, .norOps, .norBanks, .nor, .cfg, .trust, .evr, .upd, .port0,
    .port1, .ctoMs, .ctoBad, .ctoOverride, .bmlRid, .bmlPort, .bmlCount, .timeouts, .unexpected, .fns, .nvm, .tabMap,
    .tabNss, .tabKeys, .tabDies, .tab, .ftlData, .ftl, .flash, .arm, .hold, .mqt, .mgt, .ksc, .evs0, .evs1, .latch,
    .free, .out] s (execFlushComplete pwrfailHigh s) := by
  unfold execFlushComplete
  exact Ends.next (Same.widen (by decide) (flushComplete_same _ _))

theorem execThermalTrip_ends (r : FlushResult) (s : State) :
    Ends [.pwr, .evr, .tabDies, .media, .flash, .arm, .hold, .ksc, .evs0, .evs1, .free, .out] s (execThermalTrip r s)
    := by
  unfold execThermalTrip
  exact Ends.next (Same.widen (by decide) (powerFail_same _ _ _))

theorem execSysrefLoss_ends (r : FlushResult) (s : State) :
    Ends [.pwr, .evr, .tabDies, .media, .flash, .arm, .hold, .ksc, .evs0, .evs1, .free, .out] s (execSysrefLoss r s)
    := by
  unfold execSysrefLoss
  exact Ends.next (Same.widen (by decide) (powerFail_same _ _ _))

theorem execArmrefLoss_ends (s : State) :
    Ends [.pwr, .boot, .evr, .arm, .ksc, .evs0, .evs1, .free, .out] s (execArmrefLoss s) := by
  unfold execArmrefLoss
  exact Ends.next
    (Same.ite (Same.refl _ _)
      (Same.call (eventDue_same _ _ _ _) (by decide)
        (Same.call (emit_same _ _) (by decide)
          (Same.call (noteLimit_same _ _) (by decide)
            (Same.call (evsSetIf_same _ _ _) (by decide)
              (Same.via (fun x => { x with pwr.armrefLost := true }) (fun _ => Same.put (Same.refl _ _) rfl)
                (Same.call (applyFallbacks_same _) (by decide) (Same.put (Same.refl _ _) rfl))))))))

theorem execXt32Loss_ends (s : State) :
    Ends [.pwr, .boot, .vault, .evr, .ksc, .evs0, .evs1, .free] s (execXt32Loss s) := by
  unfold execXt32Loss
  exact Ends.next
    (Same.ite (Same.refl _ _)
      (Same.call (eventDue_same _ _ _ _) (by decide)
        (Same.call (evsSetIf_same _ _ _) (by decide) (Same.put (Same.put (Same.refl _ _) rfl) rfl))))

theorem execArmrefReturn_ends (s : State) :
    Ends [.pwr, .evs0, .evs1, .out] s (execArmrefReturn s) := by
  unfold execArmrefReturn
  exact Ends.next
    (Same.ite (Same.refl _ _)
      (Same.call (emit_same _ _) (by decide)
        (Same.call (noteLimit_same _ _) (by decide) (Same.put (Same.refl _ _) rfl))))

theorem execXt32Return_ends (s : State) :
    Ends [.pwr] s (execXt32Return s) := by
  unfold execXt32Return
  exact Ends.next (Same.put (Same.refl _ _) rfl)

theorem execVauxLoss_ends (s : State) :
    Ends [.pwr, .vault] s (execVauxLoss s) := by
  unfold execVauxLoss
  exact Ends.next (Same.put (Same.refl _ _) rfl)

end Sys2Proof.Machine
end

