-- ==== Sys2Proof/Laws/FrameBoot.lean ====
section
/-! SUPPORT. Frames of the operations of Machine/Boot.lean: the fields each of them can change. -/
namespace Sys2Proof.Machine

theorem plinthP7_same (s : State) :
    Same [.trust, .free] s (plinthP7 s) := by
  unfold plinthP7
  refine Same.call (lockLadder_same _) (by decide)
    (Same.via (fun x => { x with trust.xportId := sha (xportCertBody x) }) (fun _ => Same.put (Same.refl _ _) rfl)
    (Same.call (signedOnce_same _) (by decide)
    (Same.via (fun x => { x with trust.aliasX509 := aliasX509Bytes x (hedge x) }) (fun _ => Same.put (Same.refl _
    _) rfl)
    (Same.call (signedOnce_same _) (by decide)
    (Same.via (fun x => { x with trust.xportCert := xportCertBytes x (hedge x) }) (fun _ => Same.put (Same.refl _
    _) rfl)
    (Same.call (signedOnce_same _) (by decide)
    (Same.via (fun x => { x with trust.aliasCert := aliasCertBytes x (hedge x) }) (fun _ => Same.put (Same.refl _
    _) rfl)
    (Same.via (fun x => { x with trust.devidKeyId := keyDigest (dualPub (devidSeed x)),
                                 trust.aliasKeyId := keyDigest (dualPub (aliasSeed x)), trust.identity := true })
      (fun _ => Same.put (Same.refl _ _) rfl)
    (Same.call (deriveAlias_same _) (by decide) (Same.widen (by decide) (deriveDevid_same _)))))))))))

theorem formBootRecords_same (e : BootEnv) (s : State) :
    Same [.evr, .free] s (formBootRecords e s) := by
  unfold formBootRecords
  exact Same.call (formRec_same _ _ _ _ _) (by decide)
    (Same.call (formRec_same _ _ _ _ _) (by decide)
      (Same.fold (fun _ _ => (Same.widen (by decide) (formRec_same _ _ _ _ _))) _
        (Same.widen (by decide) (formRec_same _ _ _ _ _))))

theorem plinthRecord_same (i : SlotId) (refused : List (SlotId × Nat)) (ok : Bool) (s : State) :
    Same [.boot, .norMem, .norBanks, .nor, .cfg, .evr, .ksc, .evs0, .evs1, .free] s (plinthRecord i refused ok s) :=
    by
  unfold plinthRecord
  try dsimp only
  split
  · exact (Same.ite (Same.widen (by decide) (storeRecord_same _ _ _)) (Same.refl _ _))
  · exact (Same.refl _ _)

theorem completeBurns_same (s : State) :
    Same [.fuseBits, .fuses] s (completeBurns s) := by
  unfold completeBurns
  exact Same.put (Same.refl _ _) rfl

theorem firmwareStart_same (e : BootEnv) (s : State) :
    Same [.fuseBits, .fuses, .boot, .norMem, .norBanks, .nor, .cfg, .evr, .ksc, .evs0, .evs1, .free] s (firmwareStart
    e s) := by
  unfold firmwareStart
  exact Same.call (kscFollow_same _) (by decide)
    (Same.call (trimStops_same _) (by decide)
      (Same.ite
        (Same.call (event_same _ _ _ _) (by decide)
          (Same.call (foundTear_same _ _ _) (by decide)
            (Same.fold (fun _ _ => (Same.widen (by decide) (event_same _ _ _ _))) _
              (Same.put
                (Same.ite (Same.call (completeBurns_same _) (by decide) (Same.put (Same.refl _ _) rfl))
                  (Same.call (event_same _ _ _ _) (by decide)
                    (Same.call (completeBurns_same _) (by decide) (Same.put (Same.refl _ _) rfl)))) rfl))))
        (Same.call (foundTear_same _ _ _) (by decide)
          (Same.fold (fun _ _ => (Same.widen (by decide) (event_same _ _ _ _))) _
            (Same.put
              (Same.ite (Same.call (completeBurns_same _) (by decide) (Same.put (Same.refl _ _) rfl))
                (Same.call (event_same _ _ _ _) (by decide)
                  (Same.call (completeBurns_same _) (by decide) (Same.put (Same.refl _ _) rfl)))) rfl)))))

theorem bootImage_same (e : BootEnv) (c : SlotId × BootAs) (fast : Bool) (refused : List (SlotId × Nat)) (s : State) :
    Same [.fuseBits, .fuses, .boot, .norMem, .norBanks, .nor, .cfg, .trust, .evr, .ksc, .evs0, .evs1, .free] s
    (bootImage e c fast refused s) := by
  unfold bootImage
  exact Same.call (firmwareStart_same _ _) (by decide)
    (Same.put
      (Same.call (plinthRecord_same _ _ _ _) (by decide)
        (Same.call (writeOut_same _ _ _) (by decide)
          (Same.call (formBootRecords_same _ _) (by decide)
            (Same.call (foundTear_same _ _ _) (by decide)
              (Same.call (plinthP7_same _) (by decide) (Same.put (Same.put (Same.refl _ _) rfl) rfl)))))) rfl)

theorem raiseFloor_same (n : Nat) (s : State) :
    Same [.fuseBits, .fuses, .evr, .ksc, .evs0, .evs1, .free] s (raiseFloor n s) := by
  unfold raiseFloor
  exact Same.ite (Same.refl _ _) (Same.call (eventWith_same _ _ _ _ _) (by decide) (Same.put (Same.refl _ _) rfl))

theorem confirmTrial_same (prev : ImageEnv) (stored : Bool) (s : State) :
    Same [.fuseBits, .fuses, .boot, .norMem, .norBanks, .nor, .cfg, .evr, .ksc, .evs0, .evs1, .free] s (confirmTrial
    prev stored s) := by
  unfold confirmTrial
  try dsimp only
  split
  · exact (Same.refl _ _)
  · exact (Same.ite (Same.widen (by decide) (storeRecord_same _ _ _))
      (Same.call (raiseFloor_same _ _) (by decide)
        (Same.call (event_same _ _ _ _) (by decide)
          (Same.call (evsSet_same _ _) (by decide) (Same.put (Same.widen (by decide) (storeRecord_same _ _ _))
          rfl)))))

theorem enterRecovery_same (ddrOk : Bool) (refused : List (SlotId × Nat)) (s : State) :
    Same [.boot, .rcv, .trust, .out] s (enterRecovery ddrOk refused s) := by
  unfold enterRecovery
  exact Same.call (emit_same _ _) (by decide)
    (Same.call (lockLadder_same _) (by decide) (Same.put (Same.widen (by decide) (deriveDevid_same _)) rfl))

theorem optionFault_same (s : State) :
    Same [.pwr, .boot, .rcv, .nvm, .hold, .evs0, .evs1, .out] s (optionFault s) := by
  unfold optionFault
  exact Same.call (emit_same _ _) (by decide)
    (Same.call (setChg_same _ _) (by decide) (Same.put (Same.refl _ _) rfl))

theorem optionLoad_same (flips : StaticFuses) (s : State) :
    Same [.pwr, .fuses, .boot, .rcv, .trust, .nvm, .hold, .evs0, .evs1, .out] s (optionLoad flips s) := by
  unfold optionLoad
  exact Same.ite (Same.call (deriveDeviceKeys_same _) (by decide) (Same.put (Same.put (Same.refl _ _) rfl) rfl))
    (Same.ite (Same.call (optionFault_same _) (by decide) (Same.put (Same.refl _ _) rfl))
      (Same.put (Same.refl _ _) rfl))

theorem execOptionLoadAttempt_ends (fuses : StaticFuses) (s : State) :
    Ends [.pwr, .fuses, .boot, .rcv, .trust, .nvm, .hold, .evs0, .evs1, .out] s (execOptionLoadAttempt fuses s) := by
  unfold execOptionLoadAttempt
  exact Ends.next (Same.ite (Same.widen (by decide) (optionLoad_same _ _)) (Same.refl _ _))

theorem plinthP3_same (e : BootEnv) (s : State) :
    Same [.pwr, .boot, .vault, .evr, .ksc, .evs0, .evs1, .free] s (plinthP3 e s) := by
  unfold plinthP3
  exact Same.ite (Same.call (eventDue_same _ _ _ _) (by decide) (Same.put (Same.refl _ _) rfl))
    (Same.put (Same.refl _ _) rfl)

theorem plinth_same (e : BootEnv) (s : State) :
    Same [.pwr, .fuseBits, .fuses, .boot, .vault, .rcv, .norMem, .norBanks, .nor, .cfg, .trust, .evr, .ksc, .evs0,
    .evs1, .free, .out] s (plinth e s) := by
  unfold plinth
  exact Same.ite (Same.call (enterRecovery_same _ _ _) (by decide) (Same.widen (by decide) (plinthP3_same _ _))) (by
    try dsimp only
    split
    · exact (Same.call (bootImage_same _ _ _ _ _) (by decide) (Same.widen (by decide) (plinthP3_same _ _)))
    · exact (Same.call (enterRecovery_same _ _ _) (by decide) (Same.widen (by decide) (plinthP3_same _ _))))

theorem execPlinthBoot_ends (env : BootEnv) (s : State) :
    Ends [.pwr, .fuseBits, .fuses, .boot, .vault, .rcv, .norMem, .norBanks, .nor, .cfg, .trust, .evr, .ksc, .evs0,
    .evs1, .free, .out] s (execPlinthBoot env s) := by
  unfold execPlinthBoot
  exact Ends.next (Same.ite (Same.widen (by decide) (plinth_same _ _)) (Same.refl _ _))

theorem execTrialWatchdogExpiry_ends (r : FlushResult) (s : State) :
    Ends [.pwr, .fuses, .boot, .vault, .rcv, .norMem, .norOps, .norBanks, .nor, .cfg, .trust, .evr, .upd, .port0,
    .port1, .ctoMs, .ctoBad, .ctoOverride, .bmlRid, .bmlPort, .bmlCount, .timeouts, .unexpected, .fns, .nvm, .tabMap,
    .tabNss, .tabKeys, .tabDies, .tab, .media, .ftlData, .ftl, .flash, .arm, .hold, .mqt, .mgt, .ksc, .evs0, .evs1,
    .latch, .free, .out] s (execTrialWatchdogExpiry r s) := by
  unfold execTrialWatchdogExpiry
  exact Ends.next
    (Same.ite (Same.call (fundamental_same _ _ _) (by decide) (Same.put (Same.refl _ _) rfl)) (Same.refl _ _))

theorem execTrialConfirm_ends (prev : ImageEnv) (stored : Bool) (s : State) :
    Ends [.fuseBits, .fuses, .boot, .norMem, .norBanks, .nor, .cfg, .evr, .ksc, .evs0, .evs1, .free] s
    (execTrialConfirm prev stored s) := by
  unfold execTrialConfirm
  exact Ends.next (Same.ite (Same.widen (by decide) (confirmTrial_same _ _ _)) (Same.refl _ _))

theorem execDeepSleepArm_ends (entryTime : W64) (s : State) :
    Ends [.vault] s (execDeepSleepArm entryTime s) := by
  unfold execDeepSleepArm
  exact Ends.next (Same.ite (Same.put (Same.refl _ _) rfl) (Same.refl _ _))

end Sys2Proof.Machine
end

