-- ==== Sys2Proof/Laws/FrameFeatures.lean ====
section
/-! SUPPORT. Frames of the operations of Machine/Features.lean: the fields each of them can change. -/
namespace Sys2Proof.Machine

theorem onCtrl_same (own : Bool) (t : Tag) (k : State → State) (s : State) {l : List Field} (hl : [.out].all (fun f =>
    l.contains f) = true) (h2 : ∀ t, Same l t (k t)) :
    Same l s (onCtrl own t k s) := by
  unfold onCtrl
  exact Same.ite (Same.widen (sub_all (by decide) hl) (mgtRespond_same _ _)) (Same.trans (Same.refl _ _) (h2 _))

theorem execIdentify_ends (tag : Tag) (cns : W8) (nsid : W32) (s : State) :
    Ends [.fns, .nvm, .mgt, .ksc, .evs0, .evs1, .free, .out] s (execIdentify tag cns nsid s) := by
  unfold execIdentify
  exact Ends.next
    (runAdmin_same _ _ _ _ _ _ _ _ _ (by decide)
      (fun _ =>
        (onCtrl_same _ _ _ _ (by decide)
          (fun _ =>
            (Same.ite (Same.widen (by decide) (finish_same _ _ _)) (by
              try dsimp only
              split
              · exact (Same.widen (by decide) (finish_same _ _ _))
              · exact (Same.call (finishData_same _ _ _) (by decide) (Same.widen (by decide) (drawn_same _ _)))))))))

theorem putFeat_same (t : Tag) (g : Feats → Feats) (s : State) :
    Same [.fns, .nvm, .ksc, .evs0, .evs1, .out] s (putFeat t g s) := by
  unfold putFeat
  exact Same.call (finish_same _ _ _) (by decide) (Same.widen (by decide) (modCtrl_same _ _ _))

theorem setTempThreshold_same (t : Tag) (v : W32) (s : State) :
    Same [.fns, .nvm, .ksc, .evs0, .evs1, .out] s (setTempThreshold t v s) := by
  unfold setTempThreshold
  exact Same.ite (Same.widen (by decide) (finish_same _ _ _))
    (Same.call (finish_same _ _ _) (by decide) (Same.put (Same.refl _ _) rfl))

theorem putNsFeat_same (t : Tag) (nsid : W32) (g : Ns → Ns) (s : State) :
    Same [.fns, .nvm, .tabNss, .hold, .ksc, .evs0, .evs1, .out] s (putNsFeat t nsid g s) := by
  unfold putNsFeat
  exact withNs_same _ _ _ _ (by decide)
    (fun _ _ => (Same.call (finish_same _ _ _) (by decide) (Same.widen (by decide) (modNs_same _ _ _))))

theorem setNumQueues_same (t : Tag) (v : W32) (s : State) :
    Same [.fns, .nvm, .ksc, .evs0, .evs1, .out] s (setNumQueues t v s) := by
  unfold setNumQueues
  exact Same.ite (Same.widen (by decide) (finish_same _ _ _))
    (Same.ite (Same.widen (by decide) (finish_same _ _ _))
      (Same.call (complete_same _ _ _ _) (by decide) (Same.widen (by decide) (modCtrl_same _ _ _))))

theorem setFeature_same (t : Tag) (fid : W8) (nsid : W32) (cdw11 : W32) (data : BitVec 128) (s : State) :
    Same [.fns, .nvm, .tabNss, .hold, .ksc, .evs0, .evs1, .out] s (setFeature t fid nsid cdw11 data s) := by
  unfold setFeature
  exact Same.ite (Same.widen (by decide) (putFeat_same _ _ _))
    (Same.ite (Same.ite (Same.widen (by decide) (putFeat_same _ _ _)) (Same.widen (by decide) (finish_same _ _ _)))
      (Same.ite (Same.widen (by decide) (setTempThreshold_same _ _ _))
        (Same.ite
          (Same.ite (Same.widen (by decide) (finish_same _ _ _)) (Same.widen (by decide) (putNsFeat_same _ _ _ _)))
          (Same.ite (Same.widen (by decide) (setNumQueues_same _ _ _))
            (Same.ite (Same.widen (by decide) (putFeat_same _ _ _))
              (Same.ite
                (Same.ite (Same.widen (by decide) (finish_same _ _ _)) (Same.widen (by decide) (putFeat_same _ _ _)))
                (Same.ite
                  (Same.ite (Same.widen (by decide) (finish_same _ _ _))
                    (Same.widen (by decide) (putFeat_same _ _ _)))
                  (Same.ite (Same.widen (by decide) (putFeat_same _ _ _))
                    (Same.ite (Same.call (finish_same _ _ _) (by decide) (Same.put (Same.refl _ _) rfl))
                      (Same.ite
                        (Same.ite (Same.widen (by decide) (putFeat_same _ _ _))
                          (Same.widen (by decide) (finish_same _ _ _)))
                        (Same.ite (Same.widen (by decide) (putNsFeat_same _ _ _ _))
                          (Same.widen (by decide) (putNsFeat_same _ _ _ _)))))))))))))

theorem execSetFeatures_ends (tag : Tag) (fid : W8) (sv : Bool) (nsid : W32) (cdw11 : W32) (data : BitVec 128) (s :
    State) :
    Ends [.fns, .nvm, .tabNss, .hold, .mgt, .ksc, .evs0, .evs1, .out] s (execSetFeatures tag fid sv nsid cdw11 data s)
    := by
  unfold execSetFeatures
  exact Ends.next
    (runAdmin_same _ _ _ _ _ _ _ _ _ (by decide)
      (fun _ =>
        (onCtrl_same _ _ _ _ (by decide)
          (fun _ =>
            (Same.ite (Same.widen (by decide) (finish_same _ _ _))
              (Same.ite (Same.widen (by decide) (setKeyBinding_same _ _ _ _ _))
                (Same.ite (Same.widen (by decide) (setPowerLimit_same _ _ _ _))
                  (Same.ite (Same.widen (by decide) (finish_same _ _ _))
                    (Same.ite (Same.widen (by decide) (finish_same _ _ _))
                      (Same.widen (by decide) (setFeature_same _ _ _ _ _ _)))))))))))

theorem getNsFeat_same (t : Tag) (nsid : W32) (g : Ns → W32) (s : State) :
    Same [.fns, .nvm, .ksc, .evs0, .evs1, .out] s (getNsFeat t nsid g s) := by
  unfold getNsFeat
  try dsimp only
  split
  · exact (Same.widen (by decide) (finish_same _ _ _))
  · exact (Same.widen (by decide) (complete_same _ _ _ _))

theorem getFeature_same (t : Tag) (fid : W8) (nsid : W32) (cdw11 : W32) (s : State) :
    Same [.fns, .nvm, .ksc, .evs0, .evs1, .free, .out] s (getFeature t fid nsid cdw11 s) := by
  unfold getFeature
  exact Same.ite (Same.widen (by decide) (complete_same _ _ _ _))
    (Same.ite (Same.widen (by decide) (complete_same _ _ _ _))
      (Same.ite (Same.widen (by decide) (complete_same _ _ _ _))
        (Same.ite (Same.widen (by decide) (getNsFeat_same _ _ _ _))
          (Same.ite (Same.widen (by decide) (complete_same _ _ _ _))
            (Same.ite (Same.widen (by decide) (complete_same _ _ _ _))
              (Same.ite (Same.widen (by decide) (complete_same _ _ _ _))
                (Same.ite (Same.widen (by decide) (complete_same _ _ _ _))
                  (Same.ite (Same.widen (by decide) (complete_same _ _ _ _))
                    (Same.ite
                      (Same.call (finishData_same _ _ _) (by decide) (Same.widen (by decide) (drawn_same _ _)))
                      (Same.ite (Same.widen (by decide) (finishData_same _ _ _))
                        (Same.ite (Same.widen (by decide) (getNsFeat_same _ _ _ _))
                          (Same.ite (Same.widen (by decide) (getNsFeat_same _ _ _ _))
                            (Same.ite (Same.widen (by decide) (getNsFeat_same _ _ _ _))
                              (Same.widen (by decide) (complete_same _ _ _ _)))))))))))))))

theorem execGetFeatures_ends (tag : Tag) (fid : W8) (nsid : W32) (cdw11 : W32) (s : State) :
    Ends [.fns, .nvm, .mgt, .ksc, .evs0, .evs1, .free, .out] s (execGetFeatures tag fid nsid cdw11 s) := by
  unfold execGetFeatures
  exact Ends.next
    (runAdmin_same _ _ _ _ _ _ _ _ _ (by decide)
      (fun _ =>
        (onCtrl_same _ _ _ _ (by decide)
          (fun _ =>
            (Same.ite (Same.widen (by decide) (getFeature_same _ _ _ _ _))
              (Same.widen (by decide) (finish_same _ _ _)))))))

end Sys2Proof.Machine
end

