-- ==== Sys2Proof/Laws/FrameMaquette.lean ====
section
/-! SUPPORT. Frames of the operations of Machine/Maquette.lean: the fields each of them can change. -/
namespace Sys2Proof.Machine

theorem restoreContexts_same (f : Func) (l : List MqCtx) (s : State) :
    Same [.fns, .ksc, .evs0, .evs1, .out] s (restoreContexts f l s) := by
  unfold restoreContexts
  exact Same.fold
    (fun _ _ => (by
      try dsimp only
      split
      · exact (Same.ite (Same.widen (by decide) (deliver_same _ _ _ _ _)) (Same.refl _ _))
      · exact (Same.refl _ _))) _ (Same.widen (by decide) (modCtrl_same _ _ _))

theorem applyTails_same (f : Func) (l : List (Nat × Nat × Nat)) (s : State) :
    Same [.fns, .nvm, .ksc, .evs0, .evs1, .out] s (applyTails f l s) := by
  unfold applyTails
  exact Same.fold
    (fun _ _ =>
      (Same.ite (Same.refl _ _)
        (Same.ite (Same.widen (by decide) (cqDoorbell_same _ _ _ _))
          (Same.widen (by decide) (sqDoorbell_same _ _ _ _))))) _ (Same.refl _ _)

theorem runMaquette_same (i : Instr) (t : Tag) (op : W8) (k : State → State) (s : State) {l : List Field} (hl : [.fns,
    .nvm, .mgt, .ksc, .evs0, .evs1, .out].all (fun f => l.contains f) = true) (h3 : ∀ t, Same l t (k t)) :
    Same l s (runMaquette i t op k s) := by
  unfold runMaquette
  exact runAdmin_same _ _ _ _ _ _ _ _ _ (sub_all (by decide) hl) h3

theorem startExport_same (t : Tag) (f : Func) (delta : Bool) (certs : TargetCerts) (s : State) :
    Same [.evr, .fns, .nvm, .mqt, .ksc, .evs0, .evs1, .free, .out] s (startExport t f delta certs s) := by
  unfold startExport
  try dsimp only
  split
  · exact (Same.widen (by decide) (finish_same _ _ _))
  · exact (Same.call (complete_same _ _ _ _) (by decide)
      (Same.call (mqEvent_same _ _ _ _) (by decide)
        (Same.call (mqChanged_same _ _) (by decide)
          (Same.call (drawn_same _ _) (by decide) (Same.put (Same.refl _ _) rfl)))))

theorem execExportStart_ends (tag : Tag) (vf : BitVec 7) (delta : Bool) (length : W32) (certs : TargetCerts) (s :
    State) :
    Ends [.trust, .evr, .fns, .nvm, .mqt, .mgt, .ksc, .evs0, .evs1, .free, .out] s (execExportStart tag vf delta
    length certs s) := by
  unfold execExportStart
  exact Ends.next
    (runMaquette_same _ _ _ _ _ (by decide)
      (fun _ =>
        (Same.ite (Same.widen (by decide) (finish_same _ _ _))
          (Same.ite (Same.widen (by decide) (finish_same _ _ _))
            (Same.ite (Same.widen (by decide) (finish_same _ _ _))
              (Same.ite (Same.call (finish_same _ _ _) (by decide) (Same.widen (by decide) (mqEvent_same _ _ _ _)))
                (withEntropy_same _ _ _ _ (by decide)
                  (fun _ => (Same.widen (by decide) (startExport_same _ _ _ _ _)))
                  (fun _ => (Same.widen (by decide) (finish_same _ _ _))))))))))

theorem withSess_same (t : Tag) (imp : Bool) (id : Nat) (k : MqSess → State → State) (s : State) {l : List Field} (hl
    : [.fns, .nvm, .ksc, .evs0, .evs1, .out].all (fun f => l.contains f) = true) (h3 : ∀ b0 t, Same l t (k b0 t)) :
    Same l s (withSess t imp id k s) := by
  unfold withSess
  try dsimp only
  split
  · exact (Same.trans (Same.refl _ _) (h3 _ _))
  · exact (Same.widen (sub_all (by decide) hl) (finish_same _ _ _))

theorem execExportRound_ends (tag : Tag) (session : BitVec 3) (s : State) :
    Ends [.fns, .nvm, .mqt, .mgt, .ksc, .evs0, .evs1, .out] s (execExportRound tag session s) := by
  unfold execExportRound
  exact Ends.next
    (runMaquette_same _ _ _ _ _ (by decide)
      (fun _ =>
        (withSess_same _ _ _ _ _ (by decide)
          (fun _ _ =>
            (Same.ite (Same.call (finish_same _ _ _) (by decide) (Same.widen (by decide) (setSess_same _ _)))
              (Same.widen (by decide) (finish_same _ _ _)))))))

theorem finalStop_same (x : MqSess) (s : State) :
    Same [.fns, .nvm, .mqt, .evs0, .evs1] s (finalStop x s) := by
  unfold finalStop
  exact Same.call (ustChange_same _ _) (by decide)
    (Same.call (mqChanged_same _ _) (by decide)
      (Same.call (setSess_same _ _) (by decide) (Same.widen (by decide) (modFn_same _ _ _))))

theorem execExportStop_ends (tag : Tag) (session : BitVec 3) (s : State) :
    Ends [.fns, .nvm, .mqt, .mgt, .ksc, .evs0, .evs1, .out] s (execExportStop tag session s) := by
  unfold execExportStop
  exact Ends.next
    (runMaquette_same _ _ _ _ _ (by decide)
      (fun _ =>
        (withSess_same _ _ _ _ _ (by decide)
          (fun _ _ =>
            (Same.ite (Same.call (finish_same _ _ _) (by decide) (Same.widen (by decide) (finalStop_same _ _)))
              (Same.widen (by decide) (finish_same _ _ _)))))))

theorem giveObject_same (t : Tag) (i : Nat) (b : Bytes) (x : MqSess) (s : State) :
    Same [.fns, .nvm, .mqt, .ksc, .evs0, .evs1, .out] s (giveObject t i b x s) := by
  unfold giveObject
  exact Same.call (complete_same _ _ _ _) (by decide)
    (Same.call (emit_same _ _) (by decide) (Same.widen (by decide) (setSess_same _ _)))

theorem exportRead_same (t : Tag) (length : Nat) (index : Nat) (env : MediaEnv) (x : MqSess) (s : State) :
    Same [.trust, .evr, .fns, .nvm, .ftl, .flash, .mqt, .ksc, .evs0, .evs1, .free, .out] s (exportRead t length index
    env x s) := by
  unfold exportRead
  try dsimp only
  split
  · exact (Same.ite (Same.widen (by decide) (complete_same _ _ _ _))
      (Same.widen (by decide) (giveObject_same _ _ _ _ _)))
  · exact (Same.ite (Same.widen (by decide) (finish_same _ _ _)) (by
      try dsimp only
      split
      · exact (Same.call (complete_same _ _ _ _) (by decide) (Same.widen (by decide) (setSess_same _ _)))
      · exact (Same.ite (Same.widen (by decide) (complete_same _ _ _ _))
          (Same.ite
            (Same.call (giveObject_same _ _ _ _ _) (by decide)
              (Same.ite
                (Same.call (signedOnce_same _) (by decide)
                  (Same.fold (fun _ _ => (Same.widen (by decide) (mediaRead_same _ _ _ _ _))) _ (Same.refl _ _)))
                (Same.fold (fun _ _ => (Same.widen (by decide) (mediaRead_same _ _ _ _ _))) _ (Same.refl _ _))))
            (Same.call (mqChanged_same _ _) (by decide)
              (Same.call (giveObject_same _ _ _ _ _) (by decide)
                (Same.ite
                  (Same.call (signedOnce_same _) (by decide)
                    (Same.fold (fun _ _ => (Same.widen (by decide) (mediaRead_same _ _ _ _ _))) _ (Same.refl _ _)))
                  (Same.fold (fun _ _ => (Same.widen (by decide) (mediaRead_same _ _ _ _ _))) _ (Same.refl _
                  _)))))))))

theorem execExportRead_ends (tag : Tag) (session : BitVec 3) (length : W32) (index : W32) (media : MediaEnv) (s :
    State) :
    Ends [.trust, .evr, .fns, .nvm, .ftl, .flash, .mqt, .mgt, .ksc, .evs0, .evs1, .free, .out] s (execExportRead tag
    session length index media s) := by
  unfold execExportRead
  exact Ends.next
    (runMaquette_same _ _ _ _ _ (by decide)
      (fun _ =>
        (Same.ite (Same.widen (by decide) (finish_same _ _ _))
          (withSess_same _ _ _ _ _ (by decide) (fun _ _ => (Same.widen (by decide) (exportRead_same _ _ _ _ _ _)))))))

theorem keepChain_same (x : MqSess) (keep : Bool) (s : State) :
    Same [.mqt] s (keepChain x keep s) := by
  unfold keepChain
  exact Same.ite (Same.put (Same.refl _ _) rfl) (Same.refl _ _)

theorem resumeTenant_same (x : MqSess) (s : State) :
    Same [.fns, .nvm, .mqt, .ksc, .evs0, .evs1, .out] s (resumeTenant x s) := by
  unfold resumeTenant
  exact Same.call (applyTails_same _ _ _) (by decide)
    (Same.call (restoreContexts_same _ _ _) (by decide) (Same.widen (by decide) (unfreeze_same _ _)))

theorem execCloseResume_ends (tag : Tag) (session : BitVec 3) (keepTracking : Bool) (s : State) :
    Ends [.evr, .fns, .nvm, .mqt, .mgt, .ksc, .evs0, .evs1, .free, .out] s (execCloseResume tag session keepTracking
    s) := by
  unfold execCloseResume
  exact Ends.next
    (runMaquette_same _ _ _ _ _ (by decide)
      (fun _ =>
        (withSess_same _ _ _ _ _ (by decide)
          (fun _ _ =>
            (Same.ite
              (Same.call (finish_same _ _ _) (by decide)
                (Same.call (keepChain_same _ _ _) (by decide) (Same.widen (by decide) (dropSess_same _ _))))
              (Same.call (finish_same _ _ _) (by decide)
                (Same.call (mqEvent_same _ _ _ _) (by decide)
                  (Same.call (resumeTenant_same _ _) (by decide)
                    (Same.call (keepChain_same _ _ _) (by decide) (Same.widen (by decide) (dropSess_same _
                    _)))))))))))

theorem execCloseRetire_ends (tag : Tag) (session : BitVec 3) (s : State) :
    Ends [.evr, .fns, .nvm, .ftlData, .mqt, .mgt, .ksc, .evs0, .evs1, .free, .out] s (execCloseRetire tag session s)
    := by
  unfold execCloseRetire
  exact Ends.next
    (runMaquette_same _ _ _ _ _ (by decide)
      (fun _ =>
        (withSess_same _ _ _ _ _ (by decide)
          (fun _ _ =>
            (Same.ite
              (Same.call (finish_same _ _ _) (by decide)
                (Same.call (mqEvent_same _ _ _ _) (by decide)
                  (Same.call (modFn_same _ _ _) (by decide)
                    (Same.call (dropSess_same _ _) (by decide)
                      (Same.put (Same.widen (by decide) (untagWt_same _ _)) rfl)))))
              (Same.widen (by decide) (finish_same _ _ _)))))))

end Sys2Proof.Machine
end

