-- ==== Sys2Proof/Laws/FrameImport.lean ====
section
/-! SUPPORT. Frames of the operations of Machine/Import.lean: the fields each of them can change. -/
namespace Sys2Proof.Machine

theorem restoreRsv_same (f : Func) (v : Bytes) (s : State) :
    Same [.tabNss, .hold] s (restoreRsv f v s) := by
  unfold restoreRsv
  exact Same.widen (by decide) (modNs_same _ _ _)

theorem restoreEntry_same (f : Func) (e : Nat × Bytes) (s : State) :
    Same [.fns, .tabNss, .hold] s (restoreEntry f e s) := by
  unfold restoreEntry
  try dsimp only
  split
  · exact (Same.widen (by decide) (modCtrl_same _ _ _))
  · exact (Same.widen (by decide) (modCtrl_same _ _ _))
  · exact (Same.widen (by decide) (modCtrl_same _ _ _))
  · exact (Same.widen (by decide) (modFn_same _ _ _))
  · exact (Same.widen (by decide) (modCtrl_same _ _ _))
  · exact (Same.widen (by decide) (restoreRsv_same _ _ _))
  · exact (Same.widen (by decide) (modCtrl_same _ _ _))
  · exact (Same.widen (by decide) (modCtrl_same _ _ _))

theorem startSweeping_same (f : Func) (s : State) :
    Same [.fns] s (startSweeping f s) := by
  unfold startSweeping
  exact Same.widen (by decide) (modCtrl_same _ _ _)

theorem activate_same (t : Tag) (x : MqSess) (s : State) :
    Same [.evr, .fns, .nvm, .tabNss, .hold, .mqt, .ksc, .evs0, .evs1, .free, .out] s (activate t x s) := by
  unfold activate
  exact Same.call (finish_same _ _ _) (by decide)
    (Same.call (mqEvent_same _ _ _ _) (by decide)
      (Same.call (ustChange_same _ _) (by decide)
        (Same.call (startSweeping_same _ _) (by decide)
          (Same.call (markDelta_same _) (by decide)
            (Same.call (dropSess_same _ _) (by decide)
              (Same.fold (fun _ _ => (Same.ite (Same.widen (by decide) (signalCq_same _ _ _)) (Same.refl _ _))) _
                (Same.call (restoreContexts_same _ _ _) (by decide)
                  (Same.fold (fun _ _ => (Same.widen (by decide) (restoreEntry_same _ _ _))) _
                    (Same.call (modCtrl_same _ _ _) (by decide)
                      (Same.fold
                        (fun _ _ =>
                          (Same.call (ustChange_same _ _) (by decide) (Same.widen (by decide) (modNs_same _ _ _))))
                        _ (Same.refl _ _)))))))))))

theorem applyAll_same {f : ShardRec → MqSess → State → (MqSess × State) ⊕ Status} {l : List Field}
    (hf : ∀ r x s y, f r x s = .inl y → Same l s y.2) :
    ∀ (rs : List ShardRec) (x : MqSess) (s : State) (y : MqSess × State), applyAll f rs x s = .inl y → Same l s y.2
  | [], x, s, y, h => by
    cases h
    exact Same.refl _ _
  | r :: rs, x, s, y, h => by
    unfold applyAll at h
    split at h
    · rename_i e
      exact (hf _ _ _ _ e).trans (applyAll_same hf rs _ _ _ h)
    · cases h

theorem importVersion_same (t : Tag) (cached : Bool) (k : Nat) (blocks : Sparse Blk) (s : State) :
    Same [.tab, .ftlData, .hold, .mqt] s (importVersion t cached k blocks s) := by
  unfold importVersion
  exact Same.ite
    (Same.call (setLine_same _ _ _) (by decide)
      (Same.call (markDelta_same _) (by decide)
        (Same.call (dirtyIu_same _ _) (by decide) (Same.widen (by decide) (nextSeq_same _)))))
    (Same.put
      (Same.call (markDelta_same _) (by decide)
        (Same.call (dirtyIu_same _ _) (by decide) (Same.widen (by decide) (nextSeq_same _)))) rfl)

theorem applyShadow_same (t : Tag) (cached : Bool) (nsid : Nat) (iu : Nat) (n : Ns) (body : List Bytes) (s : State) :
    Same [.tab, .ftlData, .hold, .mqt] s (applyShadow t cached nsid iu n body s) := by
  unfold applyShadow
  exact Same.fold
    (fun _ _ => (by
      try dsimp only
      split
      · exact (Same.refl _ _)
      · exact (Same.ite (Same.refl _ _) (Same.widen (by decide) (importVersion_same _ _ _ _ _))))) _ (Same.refl _ _)

theorem applyData_same (t : Tag) (cached : Bool) (nsid : Nat) (n : Ns) (r : ShardRec) (s : State) :
    Same [.tabMap, .tab, .ftlData, .hold, .mqt] s (applyData t cached nsid n r s) := by
  unfold applyData
  try dsimp only
  split
  · exact (Same.ite (Same.widen (by decide) (applyShadow_same _ _ _ _ _ _ _))
      (Same.ite (Same.widen (by decide) (specialIu_same _ _ _))
        (Same.ite (Same.widen (by decide) (specialIu_same _ _ _))
          (Same.widen (by decide) (importVersion_same _ _ _ _ _)))))
  · exact (Same.refl _ _)

theorem rekeyNs_same (nsid : Nat) (src : List (Nat × W32)) (dst : Nat × W32) (s : State) :
    Same [.media, .ftlData] s (rekeyNs nsid src dst s) := by
  unfold rekeyNs
  exact Same.put (Same.refl _ _) rfl

theorem importKey_same (i : Nat) (nsid : Nat) (key : BitVec 512) (s : State) :
    Same [.trust, .nvm, .tabKeys, .media, .ftlData] s (importKey i nsid key s) := by
  unfold importKey
  exact Same.call (rekeyNs_same _ _ _ _) (by decide)
    (Same.call (ustChange_same _ _) (by decide)
      (Same.call (storeKeys_same _ _ _ _) (by decide) (Same.widen (by decide) (setKey_same _ _ _))))

theorem applyKey_same {x : MqSess} {r : ShardRec} {s : State} {y : MqSess × State} (h : applyKey x r s = .inl y) :
    Same [.trust, .nvm, .tabNss, .tabKeys, .media, .ftlData, .hold] s y.2 := by
  unfold applyKey at h
  split at h
  · split at h
    · cases h
    · split at h
      · cases h
        exact Same.ite (Same.widen (by decide) (eraseSlotOf_same _ _)) (Same.refl _ _)
      · cases h
        exact Same.widen (by decide) (importKey_same _ _ _ _)
      · cases h
        exact Same.refl _ _
      · split at h
        · cases h
        · cases h
          exact Same.call (importKey_same _ _ _ _) (by decide) (Same.call (markDelta_same _) (by decide)
            (Same.widen (by decide) (modNs_same _ _ _)))
  all_goals cases h

theorem applyNs_same {x : MqSess} {nsid : Nat} {nsze ncap : W64} {lbaf iu : Nat} {s : State} {y : MqSess × State}
    (h : applyNs x nsid nsze ncap lbaf iu s = .inl y) : Same [.nvm, .tabNss, .hold] s y.2 := by
  unfold applyNs at h
  dsimp only at h
  split at h
  · split at h
    · cases h
      exact Same.call (markDelta_same _) (by decide) (Same.widen (by decide) (modNs_same _ _ _))
    · cases h
  · split at h
    · cases h
    · cases h
      exact Same.call (ustChange_same _ _) (by decide) (Same.call (markDelta_same _) (by decide) (Same.put
      (Same.refl _ _) rfl))

theorem applyShard_same {t : Tag} {x : MqSess} {sh : Shard} {s : State} {y : MqSess × State}
    (h : applyShard t x sh s = .inl y) : Same [.trust, .fns, .nvm, .tabMap, .tabNss, .tabKeys, .tab, .media,
    .ftlData, .hold, .mqt] s y.2 := by
  unfold applyShard at h
  split at h
  · dsimp only at h
    split at h
    · cases h
    · split at h
      · rename_i e
        cases h
        refine Same.widen (by decide) (applyAll_same (l := [.nvm, .tabNss, .hold]) ?_ _ _ _ _ e)
        intro r x s y h
        split at h
        · exact applyNs_same h
        · cases h
      · cases h
  · split at h
    · cases h
    · split at h
      · cases h
      · cases h
        exact Same.fold (fun _ _ => Same.widen (by decide) (applyData_same _ _ _ _ _ _)) _
          (Same.ite (Same.refl _ _) (Same.widen (by decide) (setPhase_same _ _ _)))
  · dsimp only at h
    split at h
    · cases h
    · split at h
      · rename_i e
        cases h
        exact Same.widen (by decide) (applyAll_same (fun _ _ _ _ h => applyKey_same h) _ _ _ _ e)
      · cases h
  · dsimp only at h
    split at h
    · cases h
    · split at h
      · cases h
      · cases h
        exact Same.refl _ _
  · dsimp only at h
    split at h
    · cases h
    · cases h
      exact Same.refl _ _

theorem beginImport_same (t : Tag) (f : Func) (h : SessionHeader) (s : State) :
    Same [.evr, .fns, .nvm, .mqt, .ksc, .evs0, .evs1, .free, .out] s (beginImport t f h s) := by
  unfold beginImport
  exact Same.ite (by
    try dsimp only
    split
    · exact (Same.call (complete_same _ _ _ _) (by decide)
        (Same.call (mqChanged_same _ _) (by decide) (Same.put (Same.refl _ _) rfl)))
    · exact (Same.widen (by decide) (finish_same _ _ _))) (by
    try dsimp only
    split
    · exact (Same.call (complete_same _ _ _ _) (by decide)
        (Same.call (mqEvent_same _ _ _ _) (by decide)
          (Same.call (mqChanged_same _ _) (by decide) (Same.put (Same.refl _ _) rfl))))
    · exact (Same.widen (by decide) (finish_same _ _ _)))

theorem execImportBegin_ends (tag : Tag) (vf : BitVec 7) (length : W32) (hdr : SessionHeader) (s : State) :
    Ends [.evr, .fns, .nvm, .mqt, .mgt, .ksc, .evs0, .evs1, .free, .out] s (execImportBegin tag vf length hdr s) := by
  unfold execImportBegin
  exact Ends.next
    (runMaquette_same _ _ _ _ _ (by decide)
      (fun _ =>
        (Same.ite (Same.widen (by decide) (finish_same _ _ _))
          (Same.ite (Same.widen (by decide) (finish_same _ _ _))
            (Same.ite (Same.widen (by decide) (finish_same _ _ _))
              (Same.ite (Same.call (finish_same _ _ _) (by decide) (Same.widen (by decide) (mqEvent_same _ _ _ _)))
                (Same.widen (by decide) (beginImport_same _ _ _ _))))))))

theorem beforeFailure_same (x : MqSess) (sh : Shard) (s : State) :
    Same [.trust, .nvm, .tabNss, .tabKeys, .media, .ftlData, .hold] s (importWrite.beforeFailure x sh s).2 := by
  unfold importWrite.beforeFailure
  have go : ∀ (l : List ShardRec) (a : MqSess × State), Same [.trust, .nvm, .tabNss, .tabKeys, .media, .ftlData,
      .hold] s a.2 →
      Same [.trust, .nvm, .tabNss, .tabKeys, .media, .ftlData, .hold] s (l.foldl (fun a r => match r with
        | .ns i z c l u _ => (match applyNs a.1 i.toNat z c l u a.2 with | .inl p => p | .inr _ => a)
        | .key .. => (match applyKey a.1 r a.2 with | .inl p => p | .inr _ => a)
        | _ => a) a).2 := by
    intro l
    induction l with
    | nil => exact fun _ h => h
    | cons r l ih =>
      intro a h
      refine ih _ ?_
      dsimp only
      split
      · split
        · rename_i e
          exact h.trans (Same.widen (by decide) (applyNs_same e))
        · exact h
      · split
        · rename_i e
          exact h.trans (applyKey_same e)
        · exact h
      · exact h
  exact go _ _ (Same.refl _ _)

theorem failImport_same (t : Tag) (st : Status) (x : MqSess) (s : State) :
    Same [.trust, .evr, .fns, .nvm, .tabMap, .tabNss, .tabKeys, .ftlData, .hold, .mqt, .ksc, .evs0, .evs1, .free,
    .out] s (failImport t st x s) := by
  unfold failImport
  exact Same.call (finish_same _ _ _) (by decide)
    (Same.call (mqEvent_same _ _ _ _) (by decide) (Same.widen (by decide) (discardImport_same _ _)))

theorem importWrite_same (t : Tag) (sh : Shard) (x : MqSess) (s : State) :
    Same [.trust, .evr, .fns, .nvm, .tabMap, .tabNss, .tabKeys, .tab, .media, .ftlData, .hold, .mqt, .ksc, .evs0,
    .evs1, .free, .out] s (importWrite t sh x s) := by
  unfold importWrite
  refine Same.ite (Same.widen (by decide) (finish_same _ _ _)) (Same.ite ?_ (Same.ite (Same.widen (by decide)
      (finish_same _ _ _)) ?_))
  · exact Same.call (finish_same _ _ _) (by decide) (Same.put (Same.refl _ _) rfl)
  · split
    · exact Same.widen (by decide) (finish_same _ _ _)
    · exact Same.call (failImport_same _ _ _ _) (by decide) (Same.widen (by decide) (beforeFailure_same _ _ _))
    · rename_i h
      exact Same.call (finishWrite_same _ _) (by decide) (Same.call (setSess_same _ _) (by decide)
        (Same.widen (by decide) (applyShard_same h)))

theorem execImportWrite_ends (tag : Tag) (session : BitVec 3) (length : W32) (shard : Shard) (s : State) :
    Ends [.trust, .evr, .fns, .nvm, .tabMap, .tabNss, .tabKeys, .tab, .media, .ftlData, .hold, .mqt, .mgt, .ksc,
    .evs0, .evs1, .free, .out] s (execImportWrite tag session length shard s) := by
  unfold execImportWrite
  exact Ends.next
    (runMaquette_same _ _ _ _ _ (by decide)
      (fun _ =>
        (Same.ite (Same.widen (by decide) (finish_same _ _ _))
          (withSess_same _ _ _ _ _ (by decide) (fun _ _ => (Same.widen (by decide) (importWrite_same _ _ _ _)))))))

theorem finishImport_same (t : Tag) (m : Manifest) (x : MqSess) (s : State) :
    Same [.trust, .evr, .fns, .nvm, .tabMap, .tabNss, .tabKeys, .ftlData, .hold, .mqt, .ksc, .evs0, .evs1, .free,
    .out] s (finishImport t m x s) := by
  unfold finishImport
  exact Same.ite (Same.widen (by decide) (finish_same _ _ _))
    (Same.ite (Same.widen (by decide) (failImport_same _ _ _ _))
      (Same.ite (Same.widen (by decide) (failImport_same _ _ _ _))
        (Same.call (finish_same _ _ _) (by decide)
          (Same.call (mqEvent_same _ _ _ _) (by decide)
            (Same.call (markDelta_same _) (by decide)
              (Same.call (mqChanged_same _ _) (by decide)
                (Same.call (setSess_same _ _) (by decide)
                  (Same.fold (fun _ _ => (Same.widen (by decide) (removeNs_same _ _))) _ (Same.refl _ _)))))))))

theorem execImportFinish_ends (tag : Tag) (session : BitVec 3) (length : W32) (manifest : Manifest) (s : State) :
    Ends [.trust, .evr, .fns, .nvm, .tabMap, .tabNss, .tabKeys, .ftlData, .hold, .mqt, .mgt, .ksc, .evs0, .evs1,
    .free, .out] s (execImportFinish tag session length manifest s) := by
  unfold execImportFinish
  exact Ends.next
    (runMaquette_same _ _ _ _ _ (by decide)
      (fun _ =>
        (Same.ite (Same.widen (by decide) (finish_same _ _ _))
          (withSess_same _ _ _ _ _ (by decide) (fun _ _ => (Same.widen (by decide) (finishImport_same _ _ _ _)))))))

theorem execImportActivate_ends (tag : Tag) (session : BitVec 3) (s : State) :
    Ends [.evr, .fns, .nvm, .tabNss, .hold, .mqt, .mgt, .ksc, .evs0, .evs1, .free, .out] s (execImportActivate tag
    session s) := by
  unfold execImportActivate
  exact Ends.next
    (runMaquette_same _ _ _ _ _ (by decide)
      (fun _ =>
        (withSess_same _ _ _ _ _ (by decide)
          (fun _ _ =>
            (Same.ite (Same.widen (by decide) (finish_same _ _ _))
              (Same.ite (Same.widen (by decide) (finish_same _ _ _))
                (Same.ite (Same.widen (by decide) (finish_same _ _ _)) (Same.widen (by decide) (activate_same _ _
                _)))))))))

theorem execImportAbort_ends (tag : Tag) (session : BitVec 3) (s : State) :
    Ends [.trust, .fns, .nvm, .tabMap, .tabNss, .tabKeys, .ftlData, .hold, .mqt, .mgt, .ksc, .evs0, .evs1, .out] s
    (execImportAbort tag session s) := by
  unfold execImportAbort
  exact Ends.next
    (runMaquette_same _ _ _ _ _ (by decide)
      (fun _ =>
        (withSess_same _ _ _ _ _ (by decide)
          (fun _ _ => (Same.call (finish_same _ _ _) (by decide) (Same.widen (by decide) (discardImport_same _
          _)))))))

end Sys2Proof.Machine
end

