-- ==== Sys2Proof/Laws/FrameKsc.lean ====
section
/-! SUPPORT. Frames of the operations of Machine/Ksc.lean: the fields each of them can change. -/
namespace Sys2Proof.Machine

theorem setKscEnable_same (on : Bool) (s : State) :
    Same [.ksc, .evs0, .evs1, .free] s (setKscEnable on s) := by
  unfold setKscEnable
  exact Same.call (kscFollow_same _) (by decide) (Same.put (Same.refl _ _) rfl)

theorem execKscEnableChange_ends (enable : Bool) (s : State) :
    Ends [.ksc, .evs0, .evs1, .free] s (execKscEnableChange enable s) := by
  unfold execKscEnableChange
  exact Ends.next (Same.ite (Same.widen (by decide) (setKscEnable_same _ _)) (Same.refl _ _))

theorem takeSnap_same (s : State) :
    Same [.ksc, .evs0, .evs1] s (takeSnap s) := by
  unfold takeSnap
  exact Same.call (kscPutClass_same _ _ _) (by decide) (Same.put (Same.refl _ _) rfl)

theorem execSnapNow_ends (s : State) :
    Ends [.ksc, .evs0, .evs1] s (execSnapNow s) := by
  unfold execSnapNow
  exact Ends.next (Same.ite (Same.widen (by decide) (takeSnap_same _)) (Same.refl _ _))

theorem execKscPeriodicSnapshot_ends (s : State) :
    Ends [.ksc, .evs0, .evs1] s (execKscPeriodicSnapshot s) := by
  unfold execKscPeriodicSnapshot
  exact Ends.next (Same.ite (Same.refl _ _) (Same.widen (by decide) (takeSnap_same _)))

theorem execKscSync_ends (s : State) :
    Ends [.ksc, .evs0, .evs1, .free] s (execKscSync s) := by
  unfold execKscSync
  exact Ends.next (Same.ite (Same.widen (by decide) (kscSyncPacket_same _)) (Same.refl _ _))

theorem kscSend_same (s : State) :
    Same [.ksc, .free, .out] s (kscSend s) := by
  unfold kscSend
  try dsimp only
  split
  · exact (Same.call (drawn_same _ _) (by decide)
      (Same.call (emit_same _ _) (by decide) (Same.put (Same.refl _ _) rfl)))
  · exact (Same.widen (by decide) (emit_same _ _))
  · exact (Same.refl _ _)

end Sys2Proof.Machine
end

