-- ==== Sys2Proof/Laws/FrameUnits.lean ====
section
/-! SUPPORT. Frames of the operations of Machine/Units.lean: the fields each of them can change. -/
namespace Sys2Proof.Machine

theorem unmaskEvent_same (t : Tag) (etype : Nat) (s : State) :
    Same [.fns] s (unmaskEvent t etype s) := by
  unfold unmaskEvent
  try dsimp only
  split
  · exact (Same.refl _ _)
  · exact (Same.widen (by decide) (modCtrl_same _ _ _))

theorem unitLog_same (t : Tag) (rae : Bool) (length : Nat) (offset : Nat) (s : State) :
    Same [.fns, .nvm, .ksc, .evs0, .evs1, .free, .out] s (unitLog t rae length offset s) := by
  unfold unitLog
  exact Same.call (logReply_same _ _ _ _ _) (by decide)
    (Same.call (drawn_same _ _) (by decide)
      (Same.ite (Same.refl _ _) (Same.widen (by decide) (unmaskEvent_same _ _ _))))

theorem execUnitStateTableLog_ends (tag : Tag) (rae : Bool) (length : Nat) (offset : Nat) (s : State) :
    Ends [.fns, .nvm, .mgt, .ksc, .evs0, .evs1, .free, .out] s (execUnitStateTableLog tag rae length offset s) := by
  unfold execUnitStateTableLog
  exact Ends.next
    (runAdmin_same _ _ _ _ _ _ _ _ _ (by decide) (fun _ => (Same.widen (by decide) (unitLog_same _ _ _ _ _))))

theorem noteMismatch_same (u : Nat) (s : State) :
    Same [.evr, .mgt, .ksc, .evs0, .evs1, .free] s (noteMismatch u s) := by
  unfold noteMismatch
  exact Same.call (event_same _ _ _ _) (by decide)
    (Same.call (evsSet_same _ _) (by decide) (Same.put (Same.refl _ _) rfl))

theorem execSnapshotCopy_ends (s : State) :
    Ends [.evr, .mgt, .ksc, .evs0, .evs1, .free] s (execSnapshotCopy s) := by
  unfold execSnapshotCopy
  exact Ends.next
    (Same.ite (Same.refl _ _)
      (Same.fold (fun _ _ => (Same.widen (by decide) (noteMismatch_same _ _))) _ (Same.put (Same.refl _ _) rfl)))

end Sys2Proof.Machine
end

