-- ==== Sys2Proof/Laws/FrameUpdate.lean ====
section
/-! SUPPORT. Frames of the operations of Machine/Update.lean: the fields each of them can change. -/
namespace Sys2Proof.Machine

theorem closeUpd_same (s : State) :
    Same [.upd, .evs0, .evs1] s (closeUpd s) := by
  unfold closeUpd
  exact Same.ite (Same.call (evsSet_same _ _) (by decide) (Same.put (Same.refl _ _) rfl)) (Same.refl _ _)

theorem commitOn_same (t : Tag) (fs : BitVec 3) (k : Requester → SlotId → State → State) (s : State) {l : List Field}
    (hl : [.evr, .fns, .nvm, .ksc, .evs0, .evs1, .free, .out].all (fun f => l.contains f) = true) (h2 : ∀ b0 b1 t,
    Same l t (k b0 b1 t)) :
    Same l s (commitOn t fs k s) := by
  unfold commitOn
  try dsimp only
  split
  · exact (Same.refl _ _)
  · exact (Same.ite (Same.widen (sub_all (by decide) hl) (refuseCommit_same _ _ _ _))
      (Same.ite (Same.widen (sub_all (by decide) hl) (refuseCommit_same _ _ _ _)) (by
        try dsimp only
        split
        · exact (Same.widen (sub_all (by decide) hl) (refuseCommit_same _ _ _ _))
        · exact (Same.widen (sub_all (by decide) hl) (refuseCommit_same _ _ _ _))
        · exact (Same.ite (Same.widen (sub_all (by decide) hl) (refuseCommit_same _ _ _ _))
            (Same.trans (Same.refl _ _) (h2 _ _ _))))))

theorem commitRecord_same (t : Tag) (rec : BootRec) (root : Bytes) (stored : Bool) (s : State) :
    Same [.boot, .norMem, .norBanks, .nor, .cfg, .evr, .fns, .nvm, .ksc, .evs0, .evs1, .free, .out] s (commitRecord t
    rec root stored s) := by
  unfold commitRecord
  exact Same.ite
    (Same.call (finish_same _ _ _) (by decide)
      (Same.call (updEvent_same _ _ _ _) (by decide) (Same.widen (by decide) (storeRecord_same _ _ _))))
    (Same.call (refuseCommit_same _ _ _ _) (by decide) (Same.widen (by decide) (storeRecord_same _ _ _)))

theorem commitSession_same (t : Tag) (env : ImageEnv) (stored : Bool) (pend : Bool) (r : Requester) (i : SlotId) (s :
    State) :
    Same [.boot, .norMem, .norBanks, .nor, .cfg, .evr, .upd, .fns, .nvm, .ksc, .evs0, .evs1, .free, .out] s
    (commitSession t env stored pend r i s) := by
  unfold commitSession
  exact Same.ite (Same.widen (by decide) (refuseCommit_same _ _ _ _))
    (Same.ite (Same.call (refuseCommit_same _ _ _ _) (by decide) (Same.widen (by decide) (closeUpd_same _)))
      (Same.ite (Same.call (refuseCommit_same _ _ _ _) (by decide) (Same.widen (by decide) (closeUpd_same _)))
        (Same.ite (Same.call (commitRecord_same _ _ _ _ _) (by decide) (Same.widen (by decide) (closeUpd_same _)))
          (Same.call (commitRecord_same _ _ _ _ _) (by decide) (Same.widen (by decide) (closeUpd_same _))))))

theorem commitStaged_same (t : Tag) (env : ImageEnv) (stored : Bool) (r : Requester) (i : SlotId) (s : State) :
    Same [.boot, .norMem, .norBanks, .nor, .cfg, .evr, .fns, .nvm, .ksc, .evs0, .evs1, .free, .out] s (commitStaged t
    env stored r i s) := by
  unfold commitStaged
  exact Same.ite (Same.widen (by decide) (refuseCommit_same _ _ _ _))
    (Same.ite (Same.widen (by decide) (refuseCommit_same _ _ _ _))
      (Same.ite (Same.widen (by decide) (commitRecord_same _ _ _ _ _))
        (Same.call (refuseCommit_same _ _ _ _) (by decide) (Same.widen (by decide) (storeRecord_same _ _ _)))))

theorem refuseDownload_same (t : Tag) (st : Status) (s : State) :
    Same [.evr, .fns, .nvm, .ksc, .evs0, .evs1, .free, .out] s (refuseDownload t st s) := by
  unfold refuseDownload
  exact Same.call (finish_same _ _ _) (by decide) (Same.widen (by decide) (updEvent_same _ _ _ _))

theorem programData_same (t : Tag) (i : SlotId) (off : Nat) (data : Bytes) (ok : Bool) (s : State) :
    Same [.boot, .norMem, .norBanks, .nor, .cfg, .evr, .upd, .fns, .nvm, .ksc, .evs0, .evs1, .free, .out] s
    (programData t i off data ok s) := by
  unfold programData
  exact Same.ite (Same.call (finish_same _ _ _) (by decide) (Same.widen (by decide) (programRange_same _ _ _)))
    (Same.ite
      (Same.call (finish_same _ _ _) (by decide) (Same.put (Same.widen (by decide) (programRange_same _ _ _)) rfl))
      (Same.call (finish_same _ _ _) (by decide) (Same.widen (by decide) (slotProgramFails_same _ _ _))))

theorem programDownload_same (t : Tag) (i : SlotId) (off : Nat) (data : Bytes) (out : SlotWrite) (s : State) :
    Same [.boot, .norMem, .norBanks, .nor, .cfg, .evr, .upd, .fns, .nvm, .ksc, .evs0, .evs1, .free, .out] s
    (programDownload t i off data out s) := by
  unfold programDownload
  try dsimp only
  split
  · exact (Same.call (finish_same _ _ _) (by decide)
      (Same.put (Same.widen (by decide) (slotEraseFails_same _ _)) rfl))
  · exact (Same.call (programData_same _ _ _ _ _ _) (by decide)
      (Same.put (Same.widen (by decide) (eraseSectors_same _ _)) rfl))

theorem openUpd_same (r : Requester) (i : SlotId) (stored : Bool) (s : State) :
    Same [.boot, .norMem, .norBanks, .nor, .cfg, .evr, .upd, .ksc, .evs0, .evs1, .free] s (openUpd r i stored s) := by
  unfold openUpd
  exact Same.ite
    (Same.call (updEvent_same _ _ _ _) (by decide)
      (Same.call (evsSet_same _ _) (by decide) (Same.put (Same.widen (by decide) (storeRecord_same _ _ _)) rfl)))
    (Same.widen (by decide) (storeRecord_same _ _ _))

theorem downloadInto_same (t : Tag) (r : Requester) (off : Nat) (data : Bytes) (out : SlotWrite) (stored : Bool) (s :
    State) :
    Same [.boot, .norMem, .norBanks, .nor, .cfg, .evr, .upd, .fns, .nvm, .ksc, .evs0, .evs1, .free, .out] s
    (downloadInto t r off data out stored s) := by
  unfold downloadInto
  try dsimp only
  split
  · exact (Same.ite (Same.widen (by decide) (refuseDownload_same _ _ _))
      (Same.ite (Same.widen (by decide) (refuseDownload_same _ _ _))
        (Same.ite (Same.widen (by decide) (refuseDownload_same _ _ _))
          (Same.widen (by decide) (programDownload_same _ _ _ _ _ _)))))
  · exact (by
      try dsimp only
      split
      · exact (Same.widen (by decide) (refuseDownload_same _ _ _))
      · exact (Same.ite
          (Same.call (programDownload_same _ _ _ _ _ _) (by decide) (Same.widen (by decide) (openUpd_same _ _ _ _)))
          (Same.call (finish_same _ _ _) (by decide) (Same.widen (by decide) (openUpd_same _ _ _ _)))))

theorem download_same (t : Tag) (off : Nat) (data : Bytes) (out : SlotWrite) (stored : Bool) (s : State) :
    Same [.boot, .norMem, .norBanks, .nor, .cfg, .evr, .upd, .fns, .nvm, .ksc, .evs0, .evs1, .free, .out] s (download
    t off data out stored s) := by
  unfold download
  try dsimp only
  split
  · exact (Same.refl _ _)
  · exact (Same.ite (Same.widen (by decide) (refuseDownload_same _ _ _))
      (Same.ite (Same.widen (by decide) (refuseDownload_same _ _ _)) (by
        try dsimp only
        split
        · exact (Same.widen (by decide) (refuseDownload_same _ _ _))
        · exact (Same.widen (by decide) (downloadInto_same _ _ _ _ _ _ _)))))

theorem execFirmwareImageDownload_ends (tag : Tag) (offset : Nat) (data : Bytes) (out : SlotWrite) (stored : Bool) (s
    : State) :
    Ends [.boot, .norMem, .norBanks, .nor, .cfg, .evr, .upd, .fns, .nvm, .mgt, .ksc, .evs0, .evs1, .free, .out] s
    (execFirmwareImageDownload tag offset data out stored s) := by
  unfold execFirmwareImageDownload
  exact Ends.next
    (runAdmin_same _ _ _ _ _ _ _ _ _ (by decide) (fun _ => (Same.widen (by decide) (download_same _ _ _ _ _ _))))

theorem execCommitActionStage_ends (tag : Tag) (slot : BitVec 3) (env : ImageEnv) (stored : Bool) (s : State) :
    Ends [.boot, .norMem, .norBanks, .nor, .cfg, .evr, .upd, .fns, .nvm, .mgt, .ksc, .evs0, .evs1, .free, .out] s
    (execCommitActionStage tag slot env stored s) := by
  unfold execCommitActionStage
  exact Ends.next
    (runAdmin_same _ _ _ _ _ _ _ _ _ (by decide)
      (fun _ =>
        (commitOn_same _ _ _ _ (by decide) (fun _ _ _ => (Same.widen (by decide) (commitSession_same _ _ _ _ _ _
        _))))))

theorem execCommitActionPending_ends (tag : Tag) (slot : BitVec 3) (env : ImageEnv) (stored : Bool) (s : State) :
    Ends [.boot, .norMem, .norBanks, .nor, .cfg, .evr, .upd, .fns, .nvm, .mgt, .ksc, .evs0, .evs1, .free, .out] s
    (execCommitActionPending tag slot env stored s) := by
  unfold execCommitActionPending
  exact Ends.next
    (runAdmin_same _ _ _ _ _ _ _ _ _ (by decide)
      (fun _ =>
        (commitOn_same _ _ _ _ (by decide) (fun _ _ _ => (Same.widen (by decide) (commitSession_same _ _ _ _ _ _
        _))))))

theorem execCommitActionActivateStaged_ends (tag : Tag) (slot : BitVec 3) (env : ImageEnv) (stored : Bool) (s : State)
    :
    Ends [.boot, .norMem, .norBanks, .nor, .cfg, .evr, .fns, .nvm, .mgt, .ksc, .evs0, .evs1, .free, .out] s
    (execCommitActionActivateStaged tag slot env stored s) := by
  unfold execCommitActionActivateStaged
  exact Ends.next
    (runAdmin_same _ _ _ _ _ _ _ _ _ (by decide)
      (fun _ =>
        (commitOn_same _ _ _ _ (by decide) (fun _ _ _ => (Same.widen (by decide) (commitStaged_same _ _ _ _ _ _))))))

theorem execUpdateGateQuery_ends (tag : Tag) (length : W16) (s : State) :
    Ends [.fns, .nvm, .mgt, .ksc, .evs0, .evs1, .out] s (execUpdateGateQuery tag length s) := by
  unfold execUpdateGateQuery
  exact Ends.next
    (runAdmin_same _ _ _ _ _ _ _ _ _ (by decide)
      (fun _ =>
        (Same.ite (Same.widen (by decide) (finish_same _ _ _)) (Same.widen (by decide) (finishData_same _ _ _)))))

theorem execUpdateGateRefresh_ends (s : State) :
    Ends [.upd, .evs0, .evs1] s (execUpdateGateRefresh s) := by
  unfold execUpdateGateRefresh
  exact Ends.next
    (Same.ite (Same.refl _ _) (Same.call (evsSetIf_same _ _ _) (by decide) (Same.put (Same.refl _ _) rfl)))

end Sys2Proof.Machine
end

