-- ==== Sys2Proof/Laws/FrameLogs.lean ====
section
/-! SUPPORT. Frames of the operations of Machine/Logs.lean: the fields each of them can change. -/
namespace Sys2Proof.Machine

theorem logRead_same (t : Tag) (lid : W8) (rae : Bool) (s : State) :
    Same [.fns] s (logRead t lid rae s) := by
  unfold logRead
  try dsimp only
  split
  · exact (Same.call (modCtrl_same _ _ _) (by decide) (by
      try dsimp only
      split
      · exact (Same.widen (by decide) (unmaskEvent_same _ _ _))
      · exact (Same.refl _ _)))
  · exact (by (try dsimp only); split; exact (Same.widen (by decide) (unmaskEvent_same _ _ _)); exact (Same.refl _ _))

theorem execGetLogPage_ends (tag : Tag) (lid : W8) (length : Nat) (offset : Nat) (rae : Bool) (s : State) :
    Ends [.fns, .nvm, .mgt, .ksc, .evs0, .evs1, .free, .out] s (execGetLogPage tag lid length offset rae s) := by
  unfold execGetLogPage
  exact Ends.next
    (runAdmin_same _ _ _ _ _ _ _ _ _ (by decide)
      (fun _ =>
        (onCtrl_same _ _ _ _ (by decide)
          (fun _ =>
            (Same.ite (Same.widen (by decide) (finish_same _ _ _))
              (Same.ite (Same.widen (by decide) (finish_same _ _ _))
                (Same.call (logReply_same _ _ _ _ _) (by decide)
                  (Same.call (drawn_same _ _) (by decide) (Same.widen (by decide) (logRead_same _ _ _ _))))))))))

end Sys2Proof.Machine
end

