-- ==== Sys2Proof/Laws/FrameRecovery.lean ====
section
/-! SUPPORT. Frames of the operations of Machine/Recovery.lean: the fields each of them can change. -/
namespace Sys2Proof.Machine

theorem rcvDone_same (p : RcvPath) (code : Nat) (s : State) :
    Same [.rcv, .out] s (rcvDone p code s) := by
  unfold rcvDone
  exact Same.ite (Same.call (mgtRespond_same _ _) (by decide) (Same.put (Same.refl _ _) rfl))
    (Same.call (emit_same _ _) (by decide) (Same.put (Same.refl _ _) rfl))

theorem rcvUnlisted_same (p : RcvPath) (code : Nat) (s : State) :
    Same [.rcv, .out] s (rcvUnlisted p code s) := by
  unfold rcvUnlisted
  exact Same.ite (Same.refl _ _) (Same.widen (by decide) (rcvDone_same _ _ _))

theorem rcvCommand_same (p : RcvPath) (inFault : Bool) (a0 : W32) (a1 : W32) (a2 : W32) (k : State → State) (s :
    State) {l : List Field} (hl : [.rcv, .out].all (fun f => l.contains f) = true) (h5 : ∀ t, Same l t (k t)) :
    Same l s (rcvCommand p inFault a0 a1 a2 k s) := by
  unfold rcvCommand
  exact Same.ite (Same.refl _ _)
    (Same.ite
      (Same.call (rcvDone_same _ _ _) (sub_all (by decide) hl)
        (Same.ite (Same.trans (Same.refl _ _) (Same.widen hl (Same.put (Same.refl _ _) rfl))) (Same.refl _ _)))
      (Same.trans
        (Same.ite (Same.trans (Same.refl _ _) (Same.widen hl (Same.put (Same.refl _ _) rfl))) (Same.refl _ _))
        (h5 _)))

theorem execRcvStatus_ends (path : RcvPath) (s : State) :
    Ends [.rcv, .out] s (execRcvStatus path s) := by
  unfold execRcvStatus
  exact Ends.next
    (rcvCommand_same _ _ _ _ _ _ _ (by decide) (fun _ => (Same.widen (by decide) (rcvDone_same _ _ _))))

theorem newSession_same (p : Option RcvPath) (s : State) :
    Same [.rcv] s (newSession p s) := by
  unfold newSession
  exact Same.put (Same.refl _ _) rfl

theorem execRcvOpen_ends (path : RcvPath) (s : State) :
    Ends [.rcv, .out] s (execRcvOpen path s) := by
  unfold execRcvOpen
  exact Ends.next
    (rcvCommand_same _ _ _ _ _ _ _ (by decide)
      (fun _ =>
        (Same.ite (Same.call (rcvDone_same _ _ _) (by decide) (Same.widen (by decide) (newSession_same _ _)))
          (Same.ite (Same.widen (by decide) (rcvDone_same _ _ _)) (Same.widen (by decide) (rcvDone_same _ _ _))))))

theorem withSession_same (p : RcvPath) (k : State → State) (s : State) {l : List Field} (hl : [.rcv, .out].all (fun f
    => l.contains f) = true) (h1 : ∀ t, Same l t (k t)) :
    Same l s (withSession p k s) := by
  unfold withSession
  exact Same.ite (Same.trans (Same.refl _ _) (h1 _)) (Same.widen (sub_all (by decide) hl) (rcvDone_same _ _ _))

theorem onSlot_same (p : RcvPath) (a0 : W32) (k : SlotId → State → State) (s : State) {l : List Field} (hl : [.rcv,
    .out].all (fun f => l.contains f) = true) (h2 : ∀ b0 t, Same l t (k b0 t)) :
    Same l s (onSlot p a0 k s) := by
  unfold onSlot
  try dsimp only
  split
  · exact (Same.trans (Same.refl _ _) (h2 _ _))
  · exact (Same.widen (sub_all (by decide) hl) (rcvDone_same _ _ _))

theorem rcvErase_same (p : RcvPath) (ok : Bool) (i : SlotId) (s : State) :
    Same [.boot, .rcv, .norMem, .norBanks, .nor, .cfg, .evr, .ksc, .evs0, .evs1, .free, .out] s (rcvErase p ok i s) :=
    by
  unfold rcvErase
  exact Same.ite (Same.call (rcvDone_same _ _ _) (by decide) (Same.put (Same.refl _ _) rfl))
    (Same.ite
      (Same.call (rcvDone_same _ _ _) (by decide)
        (Same.put (Same.call (eraseSectors_same _ _) (by decide) (Same.put (Same.refl _ _) rfl)) rfl))
      (Same.call (rcvDone_same _ _ _) (by decide)
        (Same.call (slotEraseFails_same _ _) (by decide) (Same.put (Same.refl _ _) rfl))))

theorem execRcvEraseSlot_ends (path : RcvPath) (arg0 : W32) (ok : Bool) (s : State) :
    Ends [.boot, .rcv, .norMem, .norBanks, .nor, .cfg, .evr, .ksc, .evs0, .evs1, .free, .out] s (execRcvEraseSlot path
    arg0 ok s) := by
  unfold execRcvEraseSlot
  exact Ends.next
    (rcvCommand_same _ _ _ _ _ _ _ (by decide)
      (fun _ =>
        (withSession_same _ _ _ (by decide)
          (fun _ => (onSlot_same _ _ _ _ (by decide) (fun _ _ => (Same.widen (by decide) (rcvErase_same _ _ _
          _))))))))

theorem rcvWrite_same (p : RcvPath) (off : Nat) (n : Nat) (data : Bytes) (ok : Bool) (i : SlotId) (s : State) :
    Same [.boot, .rcv, .norMem, .norBanks, .nor, .cfg, .evr, .ksc, .evs0, .evs1, .free, .out] s (rcvWrite p off n data
    ok i s) := by
  unfold rcvWrite
  exact Same.ite (Same.widen (by decide) (rcvDone_same _ _ _))
    (Same.ite (Same.widen (by decide) (rcvDone_same _ _ _))
      (Same.ite (Same.widen (by decide) (rcvDone_same _ _ _))
        (Same.ite
          (Same.call (rcvDone_same _ _ _) (by decide)
            (Same.call (programRange_same _ _ _) (by decide) (Same.put (Same.refl _ _) rfl)))
          (Same.call (rcvDone_same _ _ _) (by decide)
            (Same.call (slotProgramFails_same _ _ _) (by decide) (Same.put (Same.refl _ _) rfl))))))

theorem fillBuffer_same (p : RcvPath) (data : Bytes) (s : State) :
    Same [.rcv] s (fillBuffer p data s) := by
  unfold fillBuffer
  exact Same.ite (Same.put (Same.refl _ _) rfl) (Same.refl _ _)

theorem execRcvWriteChunk_ends (path : RcvPath) (arg0 : W32) (arg1 : W32) (arg2 : W32) (data : Bytes) (ok : Bool) (s :
    State) :
    Ends [.boot, .rcv, .norMem, .norBanks, .nor, .cfg, .evr, .ksc, .evs0, .evs1, .free, .out] s (execRcvWriteChunk
    path arg0 arg1 arg2 data ok s) := by
  unfold execRcvWriteChunk
  exact Ends.next
    (rcvCommand_same _ _ _ _ _ _ _ (by decide)
      (fun _ =>
        (Same.trans (Same.widen (by decide) (fillBuffer_same _ _ _))
          (withSession_same _ _ _ (by decide)
            (fun _ =>
              (onSlot_same _ _ _ _ (by decide) (fun _ _ => (Same.widen (by decide) (rcvWrite_same _ _ _ _ _ _
              _)))))))))

theorem rcvVerify_same (p : RcvPath) (env : ImageEnv) (i : SlotId) (s : State) :
    Same [.rcv, .out] s (rcvVerify p env i s) := by
  unfold rcvVerify
  exact Same.ite (Same.call (rcvDone_same _ _ _) (by decide) (Same.put (Same.put (Same.refl _ _) rfl) rfl))
    (Same.call (rcvDone_same _ _ _) (by decide) (Same.put (Same.refl _ _) rfl))

theorem execRcvVerify_ends (path : RcvPath) (arg0 : W32) (env : ImageEnv) (s : State) :
    Ends [.rcv, .out] s (execRcvVerify path arg0 env s) := by
  unfold execRcvVerify
  exact Ends.next
    (rcvCommand_same _ _ _ _ _ _ _ (by decide)
      (fun _ =>
        (withSession_same _ _ _ (by decide)
          (fun _ => (onSlot_same _ _ _ _ (by decide) (fun _ _ => (Same.widen (by decide) (rcvVerify_same _ _ _
          _))))))))

theorem rcvRefused_same (s : State) :
    Same [.boot, .norMem, .norBanks, .nor, .cfg, .evr, .ksc, .evs0, .evs1, .free] s (rcvRefused s) := by
  unfold rcvRefused
  exact Same.via (fun x => { x with boot.bootIndex := s.boot.bootIndex }) (fun _ => Same.put (Same.refl _ _) rfl)
    (Same.call (writeOut_same _ _ _) (by decide)
      (Same.call (event_same _ _ _ _) (by decide) (Same.put (Same.refl _ _) rfl)))

theorem rcvCommit_same (p : RcvPath) (sig : DualVerdict) (stored : Bool) (i : SlotId) (s : State) :
    Same [.boot, .rcv, .norMem, .norBanks, .nor, .cfg, .evr, .ksc, .evs0, .evs1, .free, .out] s (rcvCommit p sig
    stored i s) := by
  unfold rcvCommit
  exact Same.ite (Same.widen (by decide) (rcvDone_same _ _ _))
    (Same.ite (Same.call (rcvDone_same _ _ _) (by decide) (Same.widen (by decide) (rcvRefused_same _)))
      (Same.ite (Same.widen (by decide) (rcvDone_same _ _ _))
        (Same.call (rcvDone_same _ _ _) (by decide) (Same.widen (by decide) (storeRecord_same _ _ _)))))

theorem execRcvCommit_ends (path : RcvPath) (arg0 : W32) (auth : Bytes) (sig : DualVerdict) (stored : Bool) (s :
    State) :
    Ends [.boot, .rcv, .norMem, .norBanks, .nor, .cfg, .evr, .ksc, .evs0, .evs1, .free, .out] s (execRcvCommit path
    arg0 auth sig stored s) := by
  unfold execRcvCommit
  exact Ends.next
    (rcvCommand_same _ _ _ _ _ _ _ (by decide)
      (fun _ =>
        (withSession_same _ _ _ (by decide)
          (fun _ =>
            (Same.ite (Same.widen (by decide) (rcvDone_same _ _ _))
              (Same.trans (Same.put (Same.refl _ _) rfl)
                (onSlot_same _ _ _ _ (by decide) (fun _ _ => (Same.widen (by decide) (rcvCommit_same _ _ _ _
                _))))))))))

theorem execRcvReboot_ends (path : RcvPath) (r : FlushResult) (s : State) :
    Ends [.pwr, .fuses, .boot, .vault, .rcv, .norMem, .norOps, .norBanks, .nor, .cfg, .trust, .evr, .upd, .port0,
    .port1, .ctoMs, .ctoBad, .ctoOverride, .bmlRid, .bmlPort, .bmlCount, .timeouts, .unexpected, .fns, .nvm, .tabMap,
    .tabNss, .tabKeys, .tabDies, .tab, .media, .ftlData, .ftl, .flash, .arm, .hold, .mqt, .mgt, .ksc, .evs0, .evs1,
    .latch, .free, .out] s (execRcvReboot path r s) := by
  unfold execRcvReboot
  exact Ends.next
    (rcvCommand_same _ _ _ _ _ _ _ (by decide)
      (fun _ =>
        (withSession_same _ _ _ (by decide)
          (fun _ => (Same.call (fundamental_same _ _ _) (by decide) (Same.widen (by decide) (rcvDone_same _ _ _)))))))

theorem execRcvClose_ends (path : RcvPath) (s : State) :
    Ends [.rcv, .out] s (execRcvClose path s) := by
  unfold execRcvClose
  exact Ends.next
    (rcvCommand_same _ _ _ _ _ _ _ (by decide)
      (fun _ =>
        (Same.ite (Same.call (rcvDone_same _ _ _) (by decide) (Same.widen (by decide) (newSession_same _ _)))
          (Same.widen (by decide) (rcvDone_same _ _ _)))))

theorem windowRead_same (a : Nat) (uncorrectable : Bool) (s : State) :
    Same [.rcv, .norOps, .norBanks, .out] s (windowRead a uncorrectable s) := by
  unfold windowRead
  exact Same.ite (Same.widen (by decide) (emit_same _ _)) (by
    try dsimp only
    split
    · exact (Same.put (Same.ite (Same.refl _ _) (Same.widen (by decide) (seqError_same _ _))) rfl)
    · exact (Same.call (emit_same _ _) (by decide)
        (Same.ite (Same.refl _ _) (Same.widen (by decide) (seqError_same _ _)))))

theorem mailboxRead_same (o : Nat) (s : State) :
    Same [.out] s (mailboxRead o s) := by
  unfold mailboxRead
  exact Same.ite (Same.widen (by decide) (emit_same _ _))
    (Same.ite (Same.widen (by decide) (emit_same _ _))
      (Same.ite (Same.widen (by decide) (emit_same _ _))
        (Same.ite (Same.widen (by decide) (emit_same _ _))
          (Same.ite (Same.widen (by decide) (emit_same _ _)) (Same.widen (by decide) (emit_same _ _))))))

theorem execRecoveryWindowRead_ends (offset : Nat) (uncorrectable : Bool) (s : State) :
    Ends [.rcv, .norOps, .norBanks, .out] s (execRecoveryWindowRead offset uncorrectable s) := by
  unfold execRecoveryWindowRead
  exact Ends.ite trivial
    (Ends.next
      (Same.ite (Same.refl _ _)
        (Same.ite (Same.widen (by decide) (windowRead_same _ _ _)) (Same.widen (by decide) (mailboxRead_same _ _)))))

theorem mailboxWrite_same (o : Nat) (size : Nat) (v : W32) (s : State) :
    Same [.rcv, .out] s (mailboxWrite o size v s) := by
  unfold mailboxWrite
  exact Same.ite (Same.widen (by decide) (rcvUnlisted_same _ _ _))
    (Same.ite (Same.put (Same.refl _ _) rfl)
      (Same.ite (Same.put (Same.refl _ _) rfl)
        (Same.ite (Same.put (Same.refl _ _) rfl) (Same.ite (Same.put (Same.refl _ _) rfl) (Same.refl _ _)))))

end Sys2Proof.Machine
end

