-- ==== Sys2Proof/Laws/FrameMgmt.lean ====
section
/-! SUPPORT. Frames of the operations of Machine/Mgmt.lean: the fields each of them can change. -/
namespace Sys2Proof.Machine

theorem refusePathCode_same (slot : Nat) (op : W8) (s : State) :
    Same [.trust, .evr, .fns, .nvm, .ksc, .evs0, .evs1, .free, .out] s (refusePathCode slot op s) := by
  unfold refusePathCode
  exact Same.ite
    (Same.call (refuseCommit_same _ _ _ _) (by decide) (Same.ite (Same.put (Same.refl _ _) rfl) (Same.refl _ _)))
    (Same.call (finish_same _ _ _) (by decide) (Same.ite (Same.put (Same.refl _ _) rfl) (Same.refl _ _)))

theorem refuseMi_same (head : Bytes) (s : State) :
    Same [.trust, .evr, .fns, .nvm, .mgt, .ksc, .evs0, .evs1, .free, .out] s (refuseMi head s) := by
  unfold refuseMi
  exact Same.ite (Same.refl _ _)
    (Same.ite
      (Same.ite
        (mgtRequest_same _ _ _ _ _ (by decide) (fun _ => (Same.widen (by decide) (mgtRespond_same _ _)))
          (fun _ => (Same.widen (by decide) (refusePathCode_same _ _ _)))) (Same.refl _ _))
      (Same.widen (by decide) (mgtRespond_same _ _)))

theorem answerMsg_same (t : MctpType) (head : Bytes) (s : State) :
    Same [.rcv, .trust, .evr, .fns, .nvm, .mgt, .ksc, .evs0, .evs1, .free, .out] s (answerMsg t head s) := by
  unfold answerMsg
  try dsimp only
  split
  · exact (Same.ite (Same.refl _ _) (Same.widen (by decide) (mgtRespond_same _ _)))
  · exact (Same.ite (Same.refl _ _) (Same.widen (by decide) (refuseMi_same _ _)))
  · exact (Same.ite (Same.refl _ _) (Same.widen (by decide) (spdmUnsupported_same _ _ _)))
  · exact (Same.ite (Same.refl _ _) (Same.widen (by decide) (spdmUnsupported_same _ _ _)))
  · exact (Same.ite (Same.widen (by decide) (rcvUnlisted_same _ _ _)) (Same.refl _ _))
  · exact (Same.refl _ _)

theorem breakMsg_same (p : MctpPkt) (s : State) :
    Same [.mgt, .evs0, .evs1] s (breakMsg p s) := by
  unfold breakMsg
  try dsimp only
  split
  · exact (Same.ite (Same.put (Same.refl _ _) rfl) (Same.put (Same.widen (by decide) (mctpDrop_same _)) rfl))
  · exact (Same.put (Same.widen (by decide) (mctpDrop_same _)) rfl)

theorem miReply_same (slot : Nat) (status : W8) (b : Bytes) (s : State) :
    Same [.out] s (miReply slot status b s) := by
  unfold miReply
  exact Same.widen (by decide) (mgtRespond_same _ _)

theorem configSet_same (slot : Nat) (id : W8) (v : W32) (s : State) :
    Same [.mgt, .out] s (configSet slot id v s) := by
  unfold configSet
  exact Same.ite (by
    try dsimp only
    split
    · exact (Same.call (miReply_same _ _ _ _) (by decide) (Same.put (Same.refl _ _) rfl))
    · exact (Same.widen (by decide) (miReply_same _ _ _ _)))
    (Same.ite
      (Same.call (miReply_same _ _ _ _) (by decide)
        (Same.call (alertFollow_same _ _) (by decide) (Same.put (Same.refl _ _) rfl)))
      (Same.ite
        (Same.ite (Same.call (miReply_same _ _ _ _) (by decide) (Same.put (Same.refl _ _) rfl))
          (Same.widen (by decide) (miReply_same _ _ _ _))) (Same.widen (by decide) (miReply_same _ _ _ _))))

theorem control_same (b : State → Bytes) (s : State) :
    Same [.out] s (control b s) := by
  unfold control
  exact Same.ite (Same.widen (by decide) (mgtRespond_same _ _)) (Same.refl _ _)

theorem dropUnfinished_same (s : State) :
    Same [.mgt, .evs0, .evs1] s (dropUnfinished s) := by
  unfold dropUnfinished
  try dsimp only
  split
  · exact (Same.ite (Same.put (Same.refl _ _) rfl) (Same.widen (by decide) (mctpDrop_same _)))
  · exact (Same.refl _ _)

theorem joinMsg_same (p : MctpPkt) (len : Nat) (t : MctpType) (head : Bytes) (s : State) :
    Same [.rcv, .trust, .evr, .fns, .nvm, .mgt, .ksc, .evs0, .evs1, .free, .out] s (joinMsg p len t head s) := by
  unfold joinMsg
  exact Same.ite (Same.widen (by decide) (breakMsg_same _ _))
    (Same.ite (Same.call (answerMsg_same _ _ _) (by decide) (Same.put (Same.refl _ _) rfl))
      (Same.put (Same.refl _ _) rfl))

theorem takePacket_same (p : MctpPkt) (s : State) :
    Same [.rcv, .trust, .evr, .fns, .nvm, .mgt, .ksc, .evs0, .evs1, .free, .out] s (takePacket p s) := by
  unfold takePacket
  exact Same.ite (Same.call (joinMsg_same _ _ _ _ _) (by decide) (Same.widen (by decide) (dropUnfinished_same _))) (by
    try dsimp only
    split
    · exact (Same.widen (by decide) (breakMsg_same _ _))
    · exact (Same.ite (Same.widen (by decide) (breakMsg_same _ _)) (Same.widen (by decide) (joinMsg_same _ _ _ _ _))))

theorem execMctpPacket_ends (pkt : MctpPkt) (s : State) :
    Ends [.rcv, .trust, .evr, .fns, .nvm, .mgt, .ksc, .evs0, .evs1, .free, .out] s (execMctpPacket pkt s) := by
  unfold execMctpPacket
  exact Ends.next
    (Same.ite (Same.refl _ _)
      (Same.ite
        (Same.call (breakMsg_same _ _) (by decide)
          (Same.call (evsSet_same _ _) (by decide) (Same.put (Same.refl _ _) rfl)))
        (Same.ite (Same.refl _ _) (Same.widen (by decide) (takePacket_same _ _)))))

theorem execMctpSetEndpointId_ends (op : BitVec 2) (eid : W8) (s : State) :
    Ends [.mgt, .out] s (execMctpSetEndpointId op eid s) := by
  unfold execMctpSetEndpointId
  exact Ends.next
    (Same.ite (Same.refl _ _)
      (Same.ite (Same.call (control_same _ _) (by decide) (Same.put (Same.refl _ _) rfl))
        (Same.widen (by decide) (control_same _ _))))

theorem execMctpGetEndpointId_ends (s : State) :
    Ends [.out] s (execMctpGetEndpointId s) := by
  unfold execMctpGetEndpointId
  exact Ends.next (Same.widen (by decide) (control_same _ _))

theorem execMctpGetEndpointUuid_ends (s : State) :
    Ends [.out] s (execMctpGetEndpointUuid s) := by
  unfold execMctpGetEndpointUuid
  exact Ends.next (Same.widen (by decide) (control_same _ _))

theorem execMctpGetVersionSupport_ends (type : W8) (s : State) :
    Ends [.out] s (execMctpGetVersionSupport type s) := by
  unfold execMctpGetVersionSupport
  exact Ends.next (Same.widen (by decide) (control_same _ _))

theorem execMctpGetMessageTypeSupport_ends (s : State) :
    Ends [.out] s (execMctpGetMessageTypeSupport s) := by
  unfold execMctpGetMessageTypeSupport
  exact Ends.next (Same.widen (by decide) (control_same _ _))

theorem takeAddress_same (addr : BitVec 7) (s : State) :
    Same [.mgt, .evs0, .evs1, .out] s (takeAddress addr s) := by
  unfold takeAddress
  exact Same.ite (Same.put (Same.widen (by decide) (busMode_same _ _)) rfl) (Same.refl _ _)

theorem execI3cEntdaa_ends (addr : BitVec 7) (s : State) :
    Ends [.mgt, .evs0, .evs1, .out] s (execI3cEntdaa addr s) := by
  unfold execI3cEntdaa
  exact Ends.next (Same.widen (by decide) (takeAddress_same _ _))

theorem execI3cSetdasa_ends (addr : BitVec 7) (s : State) :
    Ends [.mgt, .evs0, .evs1, .out] s (execI3cSetdasa addr s) := by
  unfold execI3cSetdasa
  exact Ends.next (Same.ite (Same.refl _ _) (Same.widen (by decide) (takeAddress_same _ _)))

theorem execI3cRstdaa_ends (s : State) :
    Ends [.mgt, .evs0, .evs1, .out] s (execI3cRstdaa s) := by
  unfold execI3cRstdaa
  exact Ends.next (Same.ite (Same.put (Same.widen (by decide) (busMode_same _ _)) rfl) (Same.refl _ _))

theorem inI3c_same (k : State → State) (s : State) {l : List Field} (hl : [].all (fun f => l.contains f) = true) (h0 :
    ∀ t, Same l t (k t)) :
    Same l s (inI3c k s) := by
  unfold inI3c
  exact Same.ite (Same.trans (Same.refl _ _) (h0 _)) (Same.refl _ _)

theorem execI3cEnec_ends (events : W8) (s : State) :
    Ends [.mgt] s (execI3cEnec events s) := by
  unfold execI3cEnec
  exact Ends.next (inI3c_same _ _ (by decide) (fun _ => (Same.put (Same.refl _ _) rfl)))

theorem execI3cDisec_ends (events : W8) (s : State) :
    Ends [.mgt] s (execI3cDisec events s) := by
  unfold execI3cDisec
  exact Ends.next (inI3c_same _ _ (by decide) (fun _ => (Same.put (Same.refl _ _) rfl)))

theorem execI3cGetpid_ends (s : State) :
    Ends [.out] s (execI3cGetpid s) := by
  unfold execI3cGetpid
  exact Ends.next (inI3c_same _ _ (by decide) (fun _ => (Same.widen (by decide) (emit_same _ _))))

theorem execI3cGetbcr_ends (s : State) :
    Ends [.free, .out] s (execI3cGetbcr s) := by
  unfold execI3cGetbcr
  exact Ends.next
    (inI3c_same _ _ (by decide)
      (fun _ => (Same.call (emit_same _ _) (by decide) (Same.widen (by decide) (drawn_same _ _)))))

theorem execI3cGetdcr_ends (s : State) :
    Ends [.free, .out] s (execI3cGetdcr s) := by
  unfold execI3cGetdcr
  exact Ends.next
    (inI3c_same _ _ (by decide)
      (fun _ => (Same.call (emit_same _ _) (by decide) (Same.widen (by decide) (drawn_same _ _)))))

theorem execI3cGetmrl_ends (s : State) :
    Ends [.out] s (execI3cGetmrl s) := by
  unfold execI3cGetmrl
  exact Ends.next (inI3c_same _ _ (by decide) (fun _ => (Same.widen (by decide) (emit_same _ _))))

theorem execI3cGetmwl_ends (s : State) :
    Ends [.out] s (execI3cGetmwl s) := by
  unfold execI3cGetmwl
  exact Ends.next (inI3c_same _ _ (by decide) (fun _ => (Same.widen (by decide) (emit_same _ _))))

theorem execI3cSetmrl_ends (value : W16) (s : State) :
    Ends [.mgt] s (execI3cSetmrl value s) := by
  unfold execI3cSetmrl
  exact Ends.next (inI3c_same _ _ (by decide) (fun _ => (Same.ite (Same.put (Same.refl _ _) rfl) (Same.refl _ _))))

theorem execI3cSetmwl_ends (value : W16) (s : State) :
    Ends [.mgt] s (execI3cSetmwl value s) := by
  unfold execI3cSetmwl
  exact Ends.next (inI3c_same _ _ (by decide) (fun _ => (Same.ite (Same.put (Same.refl _ _) rfl) (Same.refl _ _))))

theorem execI3cGetstatus_ends (s : State) :
    Ends [.free, .out] s (execI3cGetstatus s) := by
  unfold execI3cGetstatus
  exact Ends.next
    (inI3c_same _ _ (by decide)
      (fun _ => (Same.call (emit_same _ _) (by decide) (Same.widen (by decide) (drawn_same _ _)))))

theorem execMiReadDataStructure_ends (slot : Nat) (dtyp : W8) (portId : W8) (ctrl : W16) (s : State) :
    Ends [.out] s (execMiReadDataStructure slot dtyp portId ctrl s) := by
  unfold execMiReadDataStructure
  exact Ends.next
    (Same.ite (Same.refl _ _) (by
      try dsimp only
      split
      · exact (Same.widen (by decide) (miReply_same _ _ _ _))
      · exact (Same.widen (by decide) (miReply_same _ _ _ _))))

theorem execMiSubsystemHealthPoll_ends (slot : Nat) (clear : Bool) (s : State) :
    Ends [.mgt, .free, .out] s (execMiSubsystemHealthPoll slot clear s) := by
  unfold execMiSubsystemHealthPoll
  exact Ends.next
    (Same.ite (Same.refl _ _)
      (Same.ite
        (Same.call (alertFollow_same _ _) (by decide)
          (Same.put (Same.call (miReply_same _ _ _ _) (by decide) (Same.widen (by decide) (drawn_same _ _))) rfl))
        (Same.call (miReply_same _ _ _ _) (by decide) (Same.widen (by decide) (drawn_same _ _)))))

theorem miPlain_same (slot : Nat) (k : State → State) (s : State) {l : List Field} (hl : [.out].all (fun f =>
    l.contains f) = true) (h1 : ∀ t, Same l t (k t)) :
    Same l s (miPlain slot k s) := by
  unfold miPlain
  exact Same.ite (Same.refl _ _)
    (Same.ite (Same.widen (sub_all (by decide) hl) (miReply_same _ _ _ _)) (Same.trans (Same.refl _ _) (h1 _)))

theorem execMiControllerHealthPoll_ends (slot : Nat) (start : W16) (maxEntries : Nat) (s : State) :
    Ends [.free, .out] s (execMiControllerHealthPoll slot start maxEntries s) := by
  unfold execMiControllerHealthPoll
  exact Ends.next
    (miPlain_same _ _ _ (by decide)
      (fun _ => (Same.call (miReply_same _ _ _ _) (by decide) (Same.widen (by decide) (drawn_same _ _)))))

theorem execMiConfigurationSet_ends (slot : Nat) (cfgId : W8) (value : W32) (s : State) :
    Ends [.mgt, .out] s (execMiConfigurationSet slot cfgId value s) := by
  unfold execMiConfigurationSet
  exact Ends.next (miPlain_same _ _ _ (by decide) (fun _ => (Same.widen (by decide) (configSet_same _ _ _ _))))

theorem execMiConfigurationGet_ends (slot : Nat) (cfgId : W8) (s : State) :
    Ends [.out] s (execMiConfigurationGet slot cfgId s) := by
  unfold execMiConfigurationGet
  exact Ends.next
    (miPlain_same _ _ _ (by decide)
      (fun _ => (by
        try dsimp only
        split
        · exact (Same.widen (by decide) (miReply_same _ _ _ _))
        · exact (Same.widen (by decide) (miReply_same _ _ _ _)))))

theorem vpdRead_same (slot : Nat) (off : Nat) (len : Nat) (s : State) :
    Same [.out] s (vpdRead slot off len s) := by
  unfold vpdRead
  exact Same.ite (Same.widen (by decide) (miReply_same _ _ _ _))
    (Same.ite (Same.widen (by decide) (miReply_same _ _ _ _)) (Same.widen (by decide) (miReply_same _ _ _ _)))

theorem execVpdRead_ends (slot : Nat) (dofst : W16) (dlen : W16) (s : State) :
    Ends [.mgt, .out] s (execVpdRead slot dofst dlen s) := by
  unfold execVpdRead
  exact Ends.next
    (mgtRequest_same _ _ _ _ _ (by decide) (fun _ => (Same.widen (by decide) (miReply_same _ _ _ _)))
      (fun _ => (Same.widen (by decide) (vpdRead_same _ _ _ _))))

theorem vpdWrite_same (slot : Nat) (off : Nat) (len : Nat) (data : Bytes) (stored : Bool) (s : State) :
    Same [.boot, .norMem, .norBanks, .nor, .cfg, .evr, .ksc, .evs0, .evs1, .free, .out] s (vpdWrite slot off len data
    stored s) := by
  unfold vpdWrite
  exact Same.ite (Same.widen (by decide) (miReply_same _ _ _ _))
    (Same.ite (Same.widen (by decide) (miReply_same _ _ _ _))
      (Same.ite (Same.widen (by decide) (miReply_same _ _ _ _))
        (Same.ite (Same.widen (by decide) (miReply_same _ _ _ _))
          (Same.call (miReply_same _ _ _ _) (by decide) (Same.widen (by decide) (storeRecord_same _ _ _))))))

theorem execVpdWrite_ends (slot : Nat) (dofst : W16) (dlen : W16) (data : Bytes) (stored : Bool) (s : State) :
    Ends [.boot, .norMem, .norBanks, .nor, .cfg, .evr, .mgt, .ksc, .evs0, .evs1, .free, .out] s (execVpdWrite slot
    dofst dlen data stored s) := by
  unfold execVpdWrite
  exact Ends.next
    (mgtRequest_same _ _ _ _ _ (by decide) (fun _ => (Same.widen (by decide) (miReply_same _ _ _ _)))
      (fun _ => (Same.widen (by decide) (vpdWrite_same _ _ _ _ _ _))))

theorem execMiReset_ends (slot : Nat) (s : State) :
    Ends [.trust, .evr, .upd, .fns, .nvm, .tabMap, .tabNss, .tabKeys, .ftlData, .hold, .mqt, .mgt, .ksc, .evs0, .evs1,
    .free, .out] s (execMiReset slot s) := by
  unfold execMiReset
  exact Ends.next
    (mgtRequest_same _ _ _ _ _ (by decide) (fun _ => (Same.widen (by decide) (miReply_same _ _ _ _)))
      (fun _ => (Same.call (subsystemResetOf_same _) (by decide) (Same.widen (by decide) (miReply_same _ _ _ _)))))

end Sys2Proof.Machine
end

