-- ==== Sys2Proof/Laws/FrameRegisters.lean ====
section
/-! SUPPORT. Frames of the operations of Machine/Registers.lean: the fields each of them can change. -/
namespace Sys2Proof.Machine

theorem noteMessage_same (pf : Pf) (s : State) :
    Same [.evs0, .evs1] s (noteMessage pf s) := by
  unfold noteMessage
  exact Same.widen (by decide) (setEvs_same _ _ _)

theorem evsSignal_same (pf : Pf) (s : State) :
    Same [.fns, .nvm, .ksc, .evs0, .evs1, .out] s (evsSignal pf s) := by
  unfold evsSignal
  exact Same.ite
    (Same.call (asyncEvent_same _ _ _) (by decide)
      (Same.ite
        (Same.call (signalVector_same _ _ _) (by decide)
          (Same.ite (Same.widen (by decide) (noteMessage_same _ _)) (Same.refl _ _))) (Same.refl _ _)))
    (Same.ite
      (Same.call (signalVector_same _ _ _) (by decide)
        (Same.ite (Same.widen (by decide) (noteMessage_same _ _)) (Same.refl _ _))) (Same.refl _ _))

theorem evsFollow_same (pf : Pf) (s : State) :
    Same [.fns, .nvm, .ksc, .evs0, .evs1, .out] s (evsFollow pf s) := by
  unfold evsFollow
  exact Same.call (intxFollow_same _ _) (by decide)
    (Same.ite (Same.call (evsSignal_same _ _) (by decide) (Same.widen (by decide) (setEvs_same _ _ _)))
      (Same.widen (by decide) (setEvs_same _ _ _)))

theorem execEvsSummarySignal_ends (pf : Pf) (s : State) :
    Ends [.fns, .nvm, .ksc, .evs0, .evs1, .out] s (execEvsSummarySignal pf s) := by
  unfold execEvsSummarySignal
  exact Ends.next (Same.ite (Same.widen (by decide) (evsFollow_same _ _)) (Same.refl _ _))

theorem writePend_same (pf : Pf) (k : Nat) (v : W32) (s : State) :
    Same [.evs0, .evs1] s (writePend pf k v s) := by
  unfold writePend
  exact Same.widen (by decide) (setEvs_same _ _ _)

theorem execEvsPendingWrite_ends (pf : Pf) (k : BitVec 7) (value : W32) (s : State) :
    Ends [.evs0, .evs1] s (execEvsPendingWrite pf k value s) := by
  unfold execEvsPendingWrite
  exact Ends.next (Same.ite (Same.widen (by decide) (writePend_same _ _ _ _)) (Same.refl _ _))

theorem writeEnable_same (pf : Pf) (k : Nat) (v : W32) (s : State) :
    Same [.evs0, .evs1] s (writeEnable pf k v s) := by
  unfold writeEnable
  exact Same.widen (by decide) (setEvs_same _ _ _)

theorem execEvsEnableWrite_ends (pf : Pf) (k : BitVec 7) (value : W32) (s : State) :
    Ends [.evs0, .evs1] s (execEvsEnableWrite pf k value s) := by
  unfold execEvsEnableWrite
  exact Ends.next (Same.ite (Same.widen (by decide) (writeEnable_same _ _ _ _)) (Same.refl _ _))

theorem writeEvsCtrl_same (pf : Pf) (v : W32) (s : State) :
    Same [.fns, .nvm, .ksc, .evs0, .evs1, .out] s (writeEvsCtrl pf v s) := by
  unfold writeEvsCtrl
  exact Same.call (intxFollow_same _ _) (by decide)
    (Same.ite (Same.call (evsSignal_same _ _) (by decide) (Same.widen (by decide) (setEvs_same _ _ _)))
      (Same.widen (by decide) (setEvs_same _ _ _)))

theorem execEvsRearm_ends (pf : Pf) (value : W32) (s : State) :
    Ends [.fns, .nvm, .ksc, .evs0, .evs1, .out] s (execEvsRearm pf value s) := by
  unfold execEvsRearm
  exact Ends.next (Same.ite (Same.widen (by decide) (writeEvsCtrl_same _ _ _)) (Same.refl _ _))

theorem writePkg_same (o : Nat) (v : W32) (s : State) :
    Same [.pwr] s (writePkg o v s) := by
  unfold writePkg
  exact Same.ite (Same.put (Same.refl _ _) rfl) (Same.refl _ _)

theorem writeTru_same (pf : Pf) (o : Nat) (v : W32) (s : State) :
    Same [.trust, .fns, .nvm, .tabKeys, .ftlData, .mqt, .ksc, .evs0, .evs1, .free, .out] s (writeTru pf o v s) := by
  unfold writeTru
  exact Same.ite (Same.put (Same.refl _ _) rfl)
    (Same.ite (Same.ite (Same.widen (by decide) (ksGo_same _ _ _ _)) (Same.widen (by decide) (setKs_same _ _ _)))
      (Same.ite (Same.widen (by decide) (setKs_same _ _ _)) (Same.refl _ _)))

theorem writePci_same (o : Nat) (v : W32) (s : State) :
    Same [.evr, .port0, .port1, .ctoMs, .ctoBad, .ctoOverride, .bmlCount, .timeouts, .unexpected] s (writePci o v s)
    := by
  unfold writePci
  exact Same.ite (Same.put (Same.refl _ _) rfl)
    (Same.ite (Same.put (Same.refl _ _) rfl)
      (Same.ite (Same.put (Same.refl _ _) rfl)
        (Same.ite (Same.ite (Same.put (Same.refl _ _) rfl) (Same.put (Same.refl _ _) rfl))
          (Same.ite (Same.put (Same.refl _ _) rfl) (Same.ite (Same.put (Same.refl _ _) rfl) (Same.refl _ _))))))

theorem writeNvm_same (pf : Pf) (o : Nat) (v : W32) (s : State) :
    Same [.trust, .nvm, .tabKeys] s (writeNvm pf o v s) := by
  unfold writeNvm
  exact Same.ite (Same.put (Same.refl _ _) rfl)
    (Same.ite (Same.widen (by decide) (writeKsplit_same _ _ _))
      (Same.ite (Same.put (Same.refl _ _) rfl) (Same.ite (Same.put (Same.refl _ _) rfl) (Same.refl _ _))))

theorem writeFch_same (o : Nat) (v : W32) (s : State) :
    Same [.flash, .evs0, .evs1] s (writeFch o v s) := by
  unfold writeFch
  exact Same.ite (Same.ite (Same.put (Same.refl _ _) rfl) (Same.put (Same.refl _ _) rfl))
    (Same.ite (Same.put (Same.refl _ _) rfl)
      (Same.ite
        (Same.ite (Same.widen (by decide) (setChan_same _ _ _))
          (Same.ite (Same.widen (by decide) (writeRetrain_same _ _ _)) (Same.refl _ _))) (Same.refl _ _)))

theorem writeFtl_same (o : Nat) (v : W32) (s : State) :
    Same [.tab, .ftl, .hold] s (writeFtl o v s) := by
  unfold writeFtl
  exact Same.ite (Same.widen (by decide) (policyWrite_same _ _ _))
    (Same.ite (Same.put (Same.refl _ _) rfl)
      (Same.ite (Same.widen (by decide) (policyWrite_same _ _ _))
        (Same.ite (Same.put (Same.refl _ _) rfl)
          (Same.ite (Same.put (Same.refl _ _) rfl)
            (Same.ite (Same.put (Same.refl _ _) rfl)
              (Same.ite (Same.call (markDelta_same _) (by decide) (Same.put (Same.refl _ _) rfl))
                (Same.ite (Same.ite (Same.put (Same.refl _ _) rfl) (Same.put (Same.refl _ _) rfl))
                  (Same.ite (Same.put (Same.refl _ _) rfl) (Same.ite (Same.put (Same.refl _ _) rfl) (Same.refl _
                  _))))))))))

theorem writeHold_same (o : Nat) (v : W32) (s : State) :
    Same [.boot, .norMem, .norBanks, .nor, .cfg, .evr, .ftl, .arm, .hold, .ksc, .evs0, .evs1, .free] s (writeHold o v
    s) := by
  unfold writeHold
  exact Same.ite (Same.put (Same.refl _ _) rfl)
    (Same.ite (Same.put (Same.refl _ _) rfl)
      (Same.ite (Same.put (Same.refl _ _) rfl)
        (Same.ite (Same.put (Same.refl _ _) rfl)
          (Same.ite (Same.put (Same.refl _ _) rfl)
            (Same.ite (Same.widen (by decide) (policyWrite_same _ _ _))
              (Same.ite
                (Same.ite
                  (Same.call (cfgStageCommit_same _ _) (by decide) (Same.widen (by decide) (drawn_same _ _)))
                  (Same.refl _ _)) (Same.ite (Same.put (Same.refl _ _) rfl) (Same.refl _ _))))))))

theorem writeKscCtrl_same (v : W32) (s : State) :
    Same [.ksc, .evs0, .evs1, .free] s (writeKscCtrl v s) := by
  unfold writeKscCtrl
  exact Same.ite (Same.put (Same.refl _ _) rfl)
    (Same.ite
      (Same.call (takeSnap_same _) (by decide)
        (Same.call (setKscEnable_same _ _) (by decide) (Same.put (Same.put (Same.refl _ _) rfl) rfl)))
      (Same.call (setKscEnable_same _ _) (by decide) (Same.put (Same.put (Same.refl _ _) rfl) rfl)))

theorem writeMgt_same (o : Nat) (v : W32) (s : State) :
    Same [.mqt, .mgt, .ksc, .evs0, .evs1, .free] s (writeMgt o v s) := by
  unfold writeMgt
  exact Same.ite (Same.put (Same.refl _ _) rfl)
    (Same.ite (Same.put (Same.refl _ _) rfl)
      (Same.ite (Same.put (Same.refl _ _) rfl)
        (Same.ite (Same.widen (by decide) (writeKscCtrl_same _ _))
          (Same.ite (Same.put (Same.refl _ _) rfl) (Same.refl _ _)))))

theorem writeEvs_same (pf : Pf) (o : Nat) (v : W32) (s : State) :
    Same [.fns, .nvm, .ksc, .evs0, .evs1, .out] s (writeEvs pf o v s) := by
  unfold writeEvs
  exact Same.ite (Same.widen (by decide) (writePend_same _ _ _ _))
    (Same.ite (Same.widen (by decide) (writeEnable_same _ _ _ _))
      (Same.ite (Same.widen (by decide) (writeEvsCtrl_same _ _ _))
        (Same.ite (Same.widen (by decide) (setEvs_same _ _ _)) (Same.refl _ _))))

theorem writeReg_same (pf : Pf) (o : Nat) (v : W32) (s : State) :
    Same [.pwr, .boot, .norMem, .norBanks, .nor, .cfg, .trust, .evr, .port0, .port1, .ctoMs, .ctoBad, .ctoOverride,
    .bmlCount, .timeouts, .unexpected, .fns, .nvm, .tabKeys, .tab, .ftlData, .ftl, .flash, .arm, .hold, .mqt, .mgt,
    .ksc, .evs0, .evs1, .free, .out] s (writeReg pf o v s) := by
  unfold writeReg
  exact Same.ite (Same.widen (by decide) (writePkg_same _ _ _))
    (Same.ite (Same.widen (by decide) (writeTru_same _ _ _ _))
      (Same.ite (Same.widen (by decide) (writePci_same _ _ _))
        (Same.ite (Same.widen (by decide) (writeNvm_same _ _ _ _))
          (Same.ite (Same.widen (by decide) (writeFch_same _ _ _))
            (Same.ite (Same.widen (by decide) (writeFtl_same _ _ _))
              (Same.ite (Same.widen (by decide) (writeHold_same _ _ _))
                (Same.ite (Same.widen (by decide) (writeMgt_same _ _ _))
                  (Same.ite (Same.widen (by decide) (writeEvs_same _ _ _ _)) (Same.refl _ _)))))))))

end Sys2Proof.Machine
end

