-- ==== Sys2Proof/Laws/FrameRegRead.lean ====
section
/-! SUPPORT. Frames of the operations of Machine/RegRead.lean: the fields each of them can change. -/
namespace Sys2Proof.Machine

theorem setLatch_same (pf : Pf) (uptime : Bool) (v : Option W32) (s : State) :
    Same [.latch] s (setLatch pf uptime v s) := by
  unfold setLatch
  try dsimp only
  split
  · exact (Same.put (Same.refl _ _) rfl)
  · exact (Same.put (Same.refl _ _) rfl)
  · exact (Same.put (Same.refl _ _) rfl)
  · exact (Same.put (Same.refl _ _) rfl)

theorem counterRead_same (pf : Pf) (uptime : Bool) (hi : Bool) (s : State) :
    Same [.latch] s (counterRead pf uptime hi s) := by
  unfold counterRead
  exact Same.widen (by decide) (setLatch_same _ _ _ _)

theorem barRead_same (pf : Pf) (o : Nat) (s : State) :
    Same [.latch, .free] s (barRead pf o s) := by
  unfold barRead
  try dsimp only
  split
  · exact (Same.call (drawn_same _ _) (by decide) (Same.widen (by decide) (counterRead_same _ _ _ _)))
  · exact (Same.widen (by decide) (drawn_same _ _))

/-- Reading words one after another. -/
theorem readWords_same (pf : Pf) : ∀ (n o : Nat) (s : State), Same [.latch, .free] s (readWords pf n o s).2
  | 0, _, _ => Same.refl _ _
  | n + 1, o, s => Same.trans (Same.widen (by decide) (barRead_same _ _ _)) (readWords_same pf n (o + 4) _)

theorem readReg_same (r : RegRead) (s : State) :
    Same [.latch, .free, .out] s (readReg r s) := by
  unfold readReg
  exact Same.call (emit_same _ _) (by decide) (Same.widen (by decide) (readWords_same _ _ _ _))

theorem execUpperWordLatchRead_ends (pf : Pf) (offset : Nat) (size : Nat) (s : State) :
    Ends [.latch, .free, .out] s (execUpperWordLatchRead pf offset size s) := by
  unfold execUpperWordLatchRead
  exact Ends.next (Same.ite (Same.widen (by decide) (readReg_same _ _)) (Same.refl _ _))

theorem execRegisterWrite_ends (pf : Pf) (offset : Nat) (size : Nat) (value : W32) (s : State) (reads : optParam (List
    RegRead) []) :
    Ends [.pwr, .boot, .rcv, .norMem, .norBanks, .nor, .cfg, .trust, .evr, .port0, .port1, .ctoMs, .ctoBad,
    .ctoOverride, .bmlCount, .timeouts, .unexpected, .fns, .nvm, .tabKeys, .tab, .ftlData, .ftl, .flash, .arm, .hold,
    .mqt, .mgt, .ksc, .evs0, .evs1, .latch, .free, .out] s (execRegisterWrite pf offset size value s reads) := by
  unfold execRegisterWrite
  exact Ends.next
    (Same.ite (Same.widen (by decide) (mailboxWrite_same _ _ _ _))
      (Same.ite (Same.refl _ _)
        (Same.ite (Same.fold (fun _ _ => (Same.widen (by decide) (readReg_same _ _))) _ (Same.refl _ _))
          (Same.call (writeReg_same _ _ _ _) (by decide)
            (Same.fold (fun _ _ => (Same.widen (by decide) (readReg_same _ _))) _ (Same.refl _ _))))))

end Sys2Proof.Machine
end

