-- ==== Sys2Proof/Laws/FrameRng.lean ====
section
/-! SUPPORT. Frames of the operations of Machine/Rng.lean: the fields each of them can change. -/
namespace Sys2Proof.Machine

theorem reseedFailed_same (s : State) :
    Same [.trust] s (reseedFailed s) := by
  unfold reseedFailed
  exact Same.put (Same.refl _ _) rfl

theorem nextOr_same {l : List Field} {s : State} {o : Host.Outcome State Fault Refusal} (h : Ends l s o) :
    Same l s (nextOr s o) := by
  cases o <;> first | exact h | exact Same.refl _ _

theorem serveWaiting_same (i : Instr) (s : State) :
    Same [.trust, .evr, .fns, .nvm, .tabNss, .tabKeys, .hold, .mqt, .mgt, .ksc, .evs0, .evs1, .free,
    .out] s (serveWaiting i s) := by
  unfold serveWaiting
  split
  · split
    · exact Same.ite (Same.call (giveNonce_same _ _ _) (by decide) (Same.widen (by decide) (drbgUse_same _)))
        (Same.widen (by decide) (finish_same _ _ _))
    · exact Same.refl _ _
  · exact Same.ite (Same.call (runGenerate_same _ _ _) (by decide) (Same.widen (by decide) (drbgUse_same _)))
      (Same.widen (by decide) (ksResult_same _ _ _))
  · exact Same.ite (nextOr_same (Ends.call (execFormatNvm_ends _ _ _ _ _) (by decide) (Same.refl _ _))) (Same.refl
      _ _)
  · exact Same.ite (nextOr_same (Ends.call (execSanitize_ends _ _ _ _) (by decide) (Same.refl _ _))) (Same.refl _ _)
  · exact Same.ite (nextOr_same (Ends.call (execExportStart_ends _ _ _ _ _ _) (by decide) (Same.refl _ _)))
      (Same.refl _ _)
  · exact nextOr_same (Ends.call (execSpdmChallenge_ends _ _ _ _ _) (by decide) (Same.refl _ _))
  · exact nextOr_same (Ends.call (execSpdmGetMeasurements_ends _ _ _ _ _) (by decide) (Same.refl _ _))
  · exact nextOr_same (Ends.call (execSpdmKeyExchange_ends _ _ _ _ _) (by decide) (Same.refl _ _))
  · exact Same.refl _ _

theorem serveAll_same (s : State) :
    Same [.trust, .evr, .fns, .nvm, .tabNss, .tabKeys, .hold, .mqt, .mgt, .ksc, .evs0, .evs1, .free, .out] s (serveAll
    s) := by
  unfold serveAll
  exact Same.fold (fun _ _ => (Same.widen (by decide) (serveWaiting_same _ _))) _ (Same.put (Same.refl _ _) rfl)

theorem rngEvent_same (code : Nat) (s : State) :
    Same [.boot, .evr, .ksc, .evs0, .evs1, .free] s (rngEvent code s) := by
  unfold rngEvent
  exact Same.widen (by decide) (eventDue_same _ _ _ _)

theorem attemptFailed_same (s : State) :
    Same [.boot, .trust, .evr, .fns, .nvm, .tabNss, .tabKeys, .hold, .mqt, .mgt, .ksc, .evs0, .evs1, .free, .out] s
    (attemptFailed s) := by
  unfold attemptFailed
  exact Same.ite (Same.widen (by decide) (reseedFailed_same _))
    (Same.call (serveAll_same _) (by decide)
      (Same.call (rngEvent_same _ _) (by decide)
        (Same.call (setRng_same _ _) (by decide) (Same.put (Same.widen (by decide) (reseedFailed_same _)) rfl))))

theorem healthFail_same (s : State) :
    Same [.boot, .trust, .evr, .ksc, .evs0, .evs1, .free] s (healthFail s) := by
  unfold healthFail
  exact Same.call (rngEvent_same _ _) (by decide)
    (Same.call (setRng_same _ _) (by decide) (Same.call (evsSet_same _ _) (by decide) (Same.put (Same.refl _ _) rfl)))

theorem execTrngHealthFail_ends (s : State) (samples : optParam (List Nat) []) :
    Ends [.boot, .trust, .evr, .ksc, .evs0, .evs1, .free] s (execTrngHealthFail s samples) := by
  unfold execTrngHealthFail
  exact Ends.next
    (Same.ite
      (Same.ite (Same.call (healthFail_same _) (by decide) (Same.put (Same.refl _ _) rfl))
        (Same.put (Same.refl _ _) rfl)) (Same.refl _ _))

theorem rngHealthy_same (s : State) :
    Same [.trust, .evs0, .evs1] s (rngHealthy s) := by
  unfold rngHealthy
  exact Same.call (setRng_same _ _) (by decide) (Same.put (Same.refl _ _) rfl)

theorem startedUp_same (h : Health) (s : State) :
    Same [.trust, .evs0, .evs1] s (startedUp h s) := by
  unfold startedUp
  exact Same.call (rngHealthy_same _) (by decide) (Same.put (Same.refl _ _) rfl)

theorem execTrngReseedAttempt_ends (samples : List Nat) (s : State) :
    Ends [.boot, .trust, .evr, .fns, .nvm, .tabNss, .tabKeys, .hold, .mqt, .mgt, .ksc, .evs0, .evs1, .free, .out] s
    (execTrngReseedAttempt samples s) := by
  unfold execTrngReseedAttempt
  exact Ends.next
    (Same.ite (Same.refl _ _) (by
      try dsimp only
      split
      · exact (Same.call (serveAll_same _) (by decide) (Same.widen (by decide) (startedUp_same _ _)))
      · exact (Same.call (healthFail_same _) (by decide) (Same.put (Same.refl _ _) rfl))
      · exact (Same.call (serveAll_same _) (by decide)
          (Same.call (rngEvent_same _ _) (by decide) (Same.widen (by decide) (startedUp_same _ _))))
      · exact (Same.call (attemptFailed_same _) (by decide) (Same.put (Same.refl _ _) rfl))
      · exact (Same.refl _ _)))

theorem execTrngPeriodicRestart_ends (samples : List Nat) (s : State) :
    Ends [.boot, .trust, .evr, .fns, .nvm, .tabNss, .tabKeys, .hold, .mqt, .mgt, .ksc, .evs0, .evs1, .free, .out] s
    (execTrngPeriodicRestart samples s) := by
  unfold execTrngPeriodicRestart
  exact Ends.next
    (Same.ite (Same.refl _ _) (by
      try dsimp only
      split
      · exact (Same.call (serveAll_same _) (by decide)
          (Same.call (rngEvent_same _ _) (by decide) (Same.widen (by decide) (startedUp_same _ _))))
      · exact (Same.put (Same.refl _ _) rfl)
      · exact (Same.refl _ _)))

end Sys2Proof.Machine
end

