-- ==== Sys2Proof/Laws/FrameDispatch.lean ====
section
/-! SUPPORT. Frames of the operations of Machine/Dispatch.lean: the fields each of them can change. -/
namespace Sys2Proof.Machine

/-- No command touches the queue. -/
theorem exec_ends : (i : Instr) → (s : State) →
    Ends [.pwr, .fuseBits, .fuses, .boot, .vault, .rcv, .norMem, .norOps, .norBanks, .nor, .cfg, .trust, .evr, .upd,
    .port0, .port1, .ctoMs, .ctoBad, .ctoOverride, .bmlRid, .bmlPort, .bmlCount, .timeouts, .unexpected, .fns, .nvm,
    .tabMap, .tabNss, .tabKeys, .tabDies, .tab, .media, .ftlData, .ftl, .flash, .arm, .hold, .mqt, .mgt, .ksc, .evs0,
    .evs1, .latch, .free, .out] s (exec i s)
  | .coldReset, s => Ends.call (execColdReset_ends s) (by decide) (Same.refl _ _)
  | .powerOnReset, s => Ends.call (execPowerOnReset_ends s) (by decide) (Same.refl _ _)
  | .internalResetRelease pwrfailHigh, s => Ends.call (execInternalResetRelease_ends pwrfailHigh s) (by decide)
      (Same.refl _ _)
  | .strapSample levels, s => Ends.call (execStrapSample_ends levels s) (by decide) (Same.refl _ _)
  | .pwrfailReleaseWait, s => Ends.call (execPwrfailReleaseWait_ends s) (by decide) (Same.refl _ _)
  | .fundamentalReset cause r, s => Ends.call (execFundamentalReset_ends cause r s) (by decide) (Same.refl _ _)
  | .linkReset port, s => Ends.call (execLinkReset_ends port s) (by decide) (Same.refl _ _)
  | .subsystemReset value, s => Ends.call (execSubsystemReset_ends value s) (by decide) (Same.refl _ _)
  | .flr f, s => Ends.call (execFlr_ends f s) (by decide) (Same.refl _ _)
  | .vfEnableClear pf, s => Ends.call (execVfEnableClear_ends pf s) (by decide) (Same.refl _ _)
  | .controllerReset f, s => Ends.call (execControllerReset_ends f s) (by decide) (Same.refl _ _)
  | .shutdownNotification f, s => Ends.call (execShutdownNotification_ends f s) (by decide) (Same.refl _ _)
  | .brownOut, s => Ends.call (execBrownOut_ends s) (by decide) (Same.refl _ _)
  | .pwrfailFall r, s => Ends.call (execPwrfailFall_ends r s) (by decide) (Same.refl _ _)
  | .flushComplete pwrfailHigh, s => Ends.call (execFlushComplete_ends pwrfailHigh s) (by decide) (Same.refl _ _)
  | .thermalTrip r, s => Ends.call (execThermalTrip_ends r s) (by decide) (Same.refl _ _)
  | .sysrefLoss r, s => Ends.call (execSysrefLoss_ends r s) (by decide) (Same.refl _ _)
  | .armrefLoss, s => Ends.call (execArmrefLoss_ends s) (by decide) (Same.refl _ _)
  | .xt32Loss, s => Ends.call (execXt32Loss_ends s) (by decide) (Same.refl _ _)
  | .optionLoadAttempt fuses, s => Ends.call (execOptionLoadAttempt_ends fuses s) (by decide) (Same.refl _ _)
  | .plinthBoot env, s => Ends.call (execPlinthBoot_ends env s) (by decide) (Same.refl _ _)
  | .configSpaceBuild, s => Ends.call (execConfigSpaceBuild_ends s) (by decide) (Same.refl _ _)
  | .trialWatchdogExpiry r, s => Ends.call (execTrialWatchdogExpiry_ends r s) (by decide) (Same.refl _ _)
  | .trialConfirm prev stored, s => Ends.call (execTrialConfirm_ends prev stored s) (by decide) (Same.refl _ _)
  | .deepSleepArm entryTime, s => Ends.call (execDeepSleepArm_ends entryTime s) (by decide) (Same.refl _ _)
  | .rcvStatus path, s => Ends.call (execRcvStatus_ends path s) (by decide) (Same.refl _ _)
  | .rcvOpen path, s => Ends.call (execRcvOpen_ends path s) (by decide) (Same.refl _ _)
  | .rcvEraseSlot path arg0 ok, s => Ends.call (execRcvEraseSlot_ends path arg0 ok s) (by decide) (Same.refl _ _)
  | .rcvWriteChunk path arg0 arg1 arg2 data ok, s => Ends.call (execRcvWriteChunk_ends path arg0 arg1 arg2 data ok
      s) (by decide) (Same.refl _ _)
  | .rcvVerify path arg0 env, s => Ends.call (execRcvVerify_ends path arg0 env s) (by decide) (Same.refl _ _)
  | .rcvCommit path arg0 auth sig stored, s => Ends.call (execRcvCommit_ends path arg0 auth sig stored s) (by
      decide) (Same.refl _ _)
  | .rcvReboot path r, s => Ends.call (execRcvReboot_ends path r s) (by decide) (Same.refl _ _)
  | .rcvClose path, s => Ends.call (execRcvClose_ends path s) (by decide) (Same.refl _ _)
  | .recoveryWindowRead offset uncorrectable, s => Ends.call (execRecoveryWindowRead_ends offset uncorrectable s)
      (by decide) (Same.refl _ _)
  | .iaProgram page len first words sent, s => Ends.call (execIaProgram_ends page len first words sent s) (by
      decide) (Same.refl _ _)
  | .iaSectorErase sector sent, s => Ends.call (execIaSectorErase_ends sector sent s) (by decide) (Same.refl _ _)
  | .iaRemap sector sent, s => Ends.call (execIaRemap_ends sector sent s) (by decide) (Same.refl _ _)
  | .iaLockClear sector sent, s => Ends.call (execIaLockClear_ends sector sent s) (by decide) (Same.refl _ _)
  | .iaLockSet sector sent, s => Ends.call (execIaLockSet_ends sector sent s) (by decide) (Same.refl _ _)
  | .iaInfo bank sent, s => Ends.call (execIaInfo_ends bank sent s) (by decide) (Same.refl _ _)
  | .iaSuspend bank early, s => Ends.call (execIaSuspend_ends bank early s) (by decide) (Same.refl _ _)
  | .iaSuspendTakesEffect bank, s => Ends.call (execIaSuspendTakesEffect_ends bank s) (by decide) (Same.refl _ _)
  | .iaResume bank, s => Ends.call (execIaResume_ends bank s) (by decide) (Same.refl _ _)
  | .iaClearStatus bank, s => Ends.call (execIaClearStatus_ends bank s) (by decide) (Same.refl _ _)
  | .iaReadArray bank, s => Ends.call (execIaReadArray_ends bank s) (by decide) (Same.refl _ _)
  | .iaBankRead offset uncorrectable, s => Ends.call (execIaBankRead_ends offset uncorrectable s) (by decide)
      (Same.refl _ _)
  | .iaOperationComplete bank ok, s => Ends.call (execIaOperationComplete_ends bank ok s) (by decide) (Same.refl _ _)
  | .getNonce tag length part, s => Ends.call (execGetNonce_ends tag length part s) (by decide) (Same.refl _ _)
  | .ownerInstall tag length part data sig stored, s => Ends.call (execOwnerInstall_ends tag length part data sig
      stored s) (by decide) (Same.refl _ _)
  | .ownerLock tag length part data sig stored, s => Ends.call (execOwnerLock_ends tag length part data sig stored
      s) (by decide) (Same.refl _ _)
  | .ownerUnlock tag length part data sig stored, s => Ends.call (execOwnerUnlock_ends tag length part data sig
      stored s) (by decide) (Same.refl _ _)
  | .ownerReplace tag length part data sig stored, s => Ends.call (execOwnerReplace_ends tag length part data sig
      stored s) (by decide) (Same.refl _ _)
  | .ownerRelease tag length part data sig stored, s => Ends.call (execOwnerRelease_ends tag length part data sig
      stored s) (by decide) (Same.refl _ _)
  | .ownerKscDisable tag length part data sig stored, s => Ends.call (execOwnerKscDisable_ends tag length part data
      sig stored s) (by decide) (Same.refl _ _)
  | .ownerKscEnable tag length part data sig stored, s => Ends.call (execOwnerKscEnable_ends tag length part data
      sig stored s) (by decide) (Same.refl _ _)
  | .splitPartTimeout, s => Ends.call (execSplitPartTimeout_ends s) (by decide) (Same.refl _ _)
  | .trngHealthFail samples, s => Ends.call (execTrngHealthFail_ends s samples) (by decide) (Same.refl _ _)
  | .trngReseedAttempt samples, s => Ends.call (execTrngReseedAttempt_ends samples s) (by decide) (Same.refl _ _)
  | .trngPeriodicRestart samples, s => Ends.call (execTrngPeriodicRestart_ends samples s) (by decide) (Same.refl _ _)
  | .drbgReseed, s => Ends.call (execDrbgReseed_ends s) (by decide) (Same.refl _ _)
  | .keySlotGenerate pf slot, s => Ends.call (execKeySlotGenerate_ends pf slot s) (by decide) (Same.refl _ _)
  | .keySlotErase pf slot, s => Ends.call (execKeySlotErase_ends pf slot s) (by decide) (Same.refl _ _)
  | .oldKeyZeroise slot, s => Ends.call (execOldKeyZeroise_ends slot s) (by decide) (Same.refl _ _)
  | .keyTableStoreCommit ok, s => Ends.call (execKeyTableStoreCommit_ends ok s) (by decide) (Same.refl _ _)
  | .ksplitWrite pf value, s => Ends.call (execKsplitWrite_ends pf value s) (by decide) (Same.refl _ _)
  | .ideKmQuery port session, s => Ends.call (execIdeKmQuery_ends port session s) (by decide) (Same.refl _ _)
  | .ideKmKeyProg port session key value, s => Ends.call (execIdeKmKeyProg_ends port session key s value) (by
      decide) (Same.refl _ _)
  | .ideKmKSetGo port session key, s => Ends.call (execIdeKmKSetGo_ends port session key s) (by decide) (Same.refl
      _ _)
  | .ideKmKSetStop port session key, s => Ends.call (execIdeKmKSetStop_ends port session key s) (by decide)
      (Same.refl _ _)
  | .spdmGetVersion inst, s => Ends.call (execSpdmGetVersion_ends inst s) (by decide) (Same.refl _ _)
  | .spdmGetCapabilities inst body, s => Ends.call (execSpdmGetCapabilities_ends inst s body) (by decide)
      (Same.refl _ _)
  | .spdmNegotiateAlgorithms inst offers body, s => Ends.call (execSpdmNegotiateAlgorithms_ends inst offers s body)
      (by decide) (Same.refl _ _)
  | .spdmGetDigests inst, s => Ends.call (execSpdmGetDigests_ends inst s) (by decide) (Same.refl _ _)
  | .spdmGetCertificate inst slot offset length, s => Ends.call (execSpdmGetCertificate_ends inst slot offset
      length s) (by decide) (Same.refl _ _)
  | .spdmChallenge inst slot summary body, s => Ends.call (execSpdmChallenge_ends inst slot s summary body) (by
      decide) (Same.refl _ _)
  | .spdmGetMeasurements inst index signed body, s => Ends.call (execSpdmGetMeasurements_ends inst index signed s
      body) (by decide) (Same.refl _ _)
  | .spdmKeyExchange inst slot summary body, s => Ends.call (execSpdmKeyExchange_ends inst slot s summary body) (by
      decide) (Same.refl _ _)
  | .spdmFinish inst session mac, s => Ends.call (execSpdmFinish_ends inst session mac s) (by decide) (Same.refl _ _)
  | .spdmKeyUpdate inst session op mark, s => Ends.call (execSpdmKeyUpdate_ends inst session s op mark) (by decide)
      (Same.refl _ _)
  | .spdmHeartbeat inst session, s => Ends.call (execSpdmHeartbeat_ends inst session s) (by decide) (Same.refl _ _)
  | .spdmEndSession inst session, s => Ends.call (execSpdmEndSession_ends inst session s) (by decide) (Same.refl _ _)
  | .spdmChunkGet inst handle seq, s => Ends.call (execSpdmChunkGet_ends inst handle seq s) (by decide) (Same.refl
      _ _)
  | .spdmVendorDefined inst session msg, s => Ends.call (execSpdmVendorDefined_ends inst session msg s) (by decide)
      (Same.refl _ _)
  | .ledgerSign signs, s => Ends.call (execLedgerSign_ends signs s) (by decide) (Same.refl _ _)
  | .evrPageProgram part ok, s => Ends.call (execEvrPageProgram_ends part ok s) (by decide) (Same.refl _ _)
  | .droppedEventReport, s => Ends.call (execDroppedEventReport_ends s) (by decide) (Same.refl _ _)
  | .evrRead tag part startSeq count, s => Ends.call (execEvrRead_ends tag part startSeq count s) (by decide)
      (Same.refl _ _)
  | .evrAck tag part seq hash ok, s => Ends.call (execEvrAck_ends tag part seq hash ok s) (by decide) (Same.refl _ _)
  | .evrClear tag part uptoSeq length data sig ok, s => Ends.call (execEvrClear_ends tag part uptoSeq length data
      sig ok s) (by decide) (Same.refl _ _)
  | .firmwareImageDownload tag offset data out stored, s => Ends.call (execFirmwareImageDownload_ends tag offset
      data out stored s) (by decide) (Same.refl _ _)
  | .commitActionStage tag slot env stored, s => Ends.call (execCommitActionStage_ends tag slot env stored s) (by
      decide) (Same.refl _ _)
  | .commitActionPending tag slot env stored, s => Ends.call (execCommitActionPending_ends tag slot env stored s)
      (by decide) (Same.refl _ _)
  | .commitActionActivateStaged tag slot env stored, s => Ends.call (execCommitActionActivateStaged_ends tag slot
      env stored s) (by decide) (Same.refl _ _)
  | .updateGateQuery tag length, s => Ends.call (execUpdateGateQuery_ends tag length s) (by decide) (Same.refl _ _)
  | .linkTraining port partner, s => Ends.call (execLinkTraining_ends port partner s) (by decide) (Same.refl _ _)
  | .laneFailure port, s => Ends.call (execLaneFailure_ends port s) (by decide) (Same.refl _ _)
  | .configRequest f req, s => Ends.call (execConfigRequest_ends f req s) (by decide) (Same.refl _ _)
  | .busMasterEnableClear f, s => Ends.call (execBusMasterEnableClear_ends f s) (by decide) (Same.refl _ _)
  | .interruptModeChange f inputs, s => Ends.call (execInterruptModeChange_ends f inputs s) (by decide) (Same.refl
      _ _)
  | .atsEnableChange f enable, s => Ends.call (execAtsEnableChange_ends f enable s) (by decide) (Same.refl _ _)
  | .atsTranslationCompletion f page readOk writeOk needWrite tag, s => Ends.call
      (execAtsTranslationCompletion_ends f page readOk writeOk needWrite tag s) (by decide) (Same.refl _ _)
  | .invalidateRequest f itag lo hi, s => Ends.call (execInvalidateRequest_ends f itag lo hi s) (by decide)
      (Same.refl _ _)
  | .invalidateCompletion f itag, s => Ends.call (execInvalidateCompletion_ends f itag s) (by decide) (Same.refl _ _)
  | .completionTimeout tag, s => Ends.call (execCompletionTimeout_ends tag s) (by decide) (Same.refl _ _)
  | .unexpectedCompletion f, s => Ends.call (execUnexpectedCompletion_ends f s) (by decide) (Same.refl _ _)
  | .linkDown port, s => Ends.call (execLinkDown_ends port s) (by decide) (Same.refl _ _)
  | .doeObject port protocol dwords head, s => Ends.call (execDoeObject_ends port protocol dwords s head) (by
      decide) (Same.refl _ _)
  | .ideCheckFailure port stream sub, s => Ends.call (execIdeCheckFailure_ends port stream sub s) (by decide)
      (Same.refl _ _)
  | .dmaErrorCompletion tag kind, s => Ends.call (execDmaErrorCompletion_ends tag kind s) (by decide) (Same.refl _ _)
  | .mmioDoorbellWrite f qid isCq value, s => Ends.call (execMmioDoorbellWrite_ends f qid isCq value s) (by decide)
      (Same.refl _ _)
  | .shadowSweep f qid shadowTail, s => Ends.call (execShadowSweep_ends f qid shadowTail s) (by decide) (Same.refl
      _ _)
  | .parkTimeout f qid, s => Ends.call (execParkTimeout_ends f qid s) (by decide) (Same.refl _ _)
  | .cqHeadReread f qid head, s => Ends.call (execCqHeadReread_ends f qid head s) (by decide) (Same.refl _ _)
  | .commandFetch f sqe, s => Ends.call (execCommandFetch_ends f sqe s) (by decide) (Same.refl _ _)
  | .fetchResume f, s => Ends.call (execFetchResume_ends f s) (by decide) (Same.refl _ _)
  | .deleteIoSq tag qid, s => Ends.call (execDeleteIoSq_ends tag qid s) (by decide) (Same.refl _ _)
  | .deleteIoCq tag qid, s => Ends.call (execDeleteIoCq_ends tag qid s) (by decide) (Same.refl _ _)
  | .createIoSq tag q, s => Ends.call (execCreateIoSq_ends tag q s) (by decide) (Same.refl _ _)
  | .createIoCq tag q, s => Ends.call (execCreateIoCq_ends tag q s) (by decide) (Same.refl _ _)
  | .getLogPage tag lid length offset rae, s => Ends.call (execGetLogPage_ends tag lid length offset rae s) (by
      decide) (Same.refl _ _)
  | .bootLedgerLog tag length offset, s => Ends.call (execBootLedgerLog_ends tag length offset s) (by decide)
      (Same.refl _ _)
  | .dieHealthLog tag length offset, s => Ends.call (execDieHealthLog_ends tag length offset s) (by decide)
      (Same.refl _ _)
  | .armatureTraceLog tag lsp length offset, s => Ends.call (execArmatureTraceLog_ends tag lsp length offset s) (by
      decide) (Same.refl _ _)
  | .unitStateTableLog tag rae length offset, s => Ends.call (execUnitStateTableLog_ends tag rae length offset s)
      (by decide) (Same.refl _ _)
  | .parityStatusLog tag length offset, s => Ends.call (execParityStatusLog_ends tag length offset s) (by decide)
      (Same.refl _ _)
  | .identify tag cns nsid, s => Ends.call (execIdentify_ends tag cns nsid s) (by decide) (Same.refl _ _)
  | .abort tag sqid cid, s => Ends.call (execAbort_ends tag sqid cid s) (by decide) (Same.refl _ _)
  | .setFeatures tag fid sv nsid cdw11 data, s => Ends.call (execSetFeatures_ends tag fid sv nsid cdw11 data s) (by
      decide) (Same.refl _ _)
  | .getFeatures tag fid nsid cdw11, s => Ends.call (execGetFeatures_ends tag fid nsid cdw11 s) (by decide)
      (Same.refl _ _)
  | .namespaceKeyBinding tag sv nsid cdw11, s => Ends.call (execNamespaceKeyBinding_ends tag sv nsid cdw11 s) (by
      decide) (Same.refl _ _)
  | .packagePowerLimit tag sv cdw11, s => Ends.call (execPackagePowerLimit_ends tag sv cdw11 s) (by decide)
      (Same.refl _ _)
  | .asynchronousEventRequest tag, s => Ends.call (execAsynchronousEventRequest_ends tag s) (by decide) (Same.refl
      _ _)
  | .namespaceCreate tag ns, s => Ends.call (execNamespaceCreate_ends tag ns s) (by decide) (Same.refl _ _)
  | .namespaceDelete tag nsid, s => Ends.call (execNamespaceDelete_ends tag nsid s) (by decide) (Same.refl _ _)
  | .namespaceDeleteComplete nsid, s => Ends.call (execNamespaceDeleteComplete_ends nsid s) (by decide) (Same.refl
      _ _)
  | .namespaceAttachment tag nsid attach ctrls, s => Ends.call (execNamespaceAttachment_ends tag nsid attach ctrls
      s) (by decide) (Same.refl _ _)
  | .virtualizationManagement tag act, s => Ends.call (execVirtualizationManagement_ends tag act s) (by decide)
      (Same.refl _ _)
  | .doorbellBufferConfig tag shadow eventIdx, s => Ends.call (execDoorbellBufferConfig_ends tag shadow eventIdx s)
      (by decide) (Same.refl _ _)
  | .deviceSelfTest tag code, s => Ends.call (execDeviceSelfTest_ends tag code s) (by decide) (Same.refl _ _)
  | .formatNvm tag nsid lbaf ses, s => Ends.call (execFormatNvm_ends tag nsid lbaf ses s) (by decide) (Same.refl _ _)
  | .sanitize tag action noDealloc, s => Ends.call (execSanitize_ends tag action noDealloc s) (by decide)
      (Same.refl _ _)
  | .sanitizeComplete ok, s => Ends.call (execSanitizeComplete_ends ok s) (by decide) (Same.refl _ _)
  | .ioFlush tag nsid, s => Ends.call (execIoFlush_ends tag nsid s) (by decide) (Same.refl _ _)
  | .ioWrite tag io fua sgl data host badLines, s => Ends.call (execIoWrite_ends tag io fua sgl data host badLines
      s) (by decide) (Same.refl _ _)
  | .ioRead tag io limited sgl media, s => Ends.call (execIoRead_ends tag io limited sgl media s) (by decide)
      (Same.refl _ _)
  | .writeUncorrectable tag io, s => Ends.call (execWriteUncorrectable_ends tag io s) (by decide) (Same.refl _ _)
  | .ioCompare tag io data media, s => Ends.call (execIoCompare_ends tag io data media s) (by decide) (Same.refl _ _)
  | .writeZeroes tag io deac, s => Ends.call (execWriteZeroes_ends tag io deac s) (by decide) (Same.refl _ _)
  | .datasetManagement tag nsid ad ranges, s => Ends.call (execDatasetManagement_ends tag nsid ad ranges s) (by
      decide) (Same.refl _ _)
  | .ioVerify tag io media, s => Ends.call (execIoVerify_ends tag io media s) (by decide) (Same.refl _ _)
  | .reservationRegister tag nsid r, s => Ends.call (execReservationRegister_ends tag nsid r s) (by decide)
      (Same.refl _ _)
  | .reservationReport tag nsid, s => Ends.call (execReservationReport_ends tag nsid s) (by decide) (Same.refl _ _)
  | .reservationAcquire tag nsid r, s => Ends.call (execReservationAcquire_ends tag nsid r s) (by decide)
      (Same.refl _ _)
  | .reservationRelease tag nsid r, s => Ends.call (execReservationRelease_ends tag nsid r s) (by decide)
      (Same.refl _ _)
  | .salvageRead tag nsid slba count cont failedDies media, s => Ends.call (execSalvageRead_ends tag nsid slba
      count cont failedDies media s) (by decide) (Same.refl _ _)
  | .channelTraining ch dies eyes failTries, s => Ends.call (execChannelTraining_ends ch dies eyes failTries s) (by
      decide) (Same.refl _ _)
  | .retrainTrigger ch why, s => Ends.call (execRetrainTrigger_ends ch why s) (by decide) (Same.refl _ _)
  | .retrainReq ch value, s => Ends.call (execRetrainReq_ends ch value s) (by decide) (Same.refl _ _)
  | .retrainIdleWindow ch eyes us, s => Ends.call (execRetrainIdleWindow_ends ch eyes us s) (by decide) (Same.refl
      _ _)
  | .retrainForceTimeout ch us, s => Ends.call (execRetrainForceTimeout_ends ch us s) (by decide) (Same.refl _ _)
  | .dllLockLoss ch eyes us, s => Ends.call (execDllLockLoss_ends ch eyes us s) (by decide) (Same.refl _ _)
  | .dieOpIssue die, s => Ends.call (execDieOpIssue_ends die s) (by decide) (Same.refl _ _)
  | .dieOpComplete die res, s => Ends.call (execDieOpComplete_ends die res s) (by decide) (Same.refl _ _)
  | .dieSuspend die minRun, s => Ends.call (execDieSuspend_ends die minRun s) (by decide) (Same.refl _ _)
  | .dieResume die timeUp, s => Ends.call (execDieResume_ends die timeUp s) (by decide) (Same.refl _ _)
  | .dieBusyTimeout die, s => Ends.call (execDieBusyTimeout_ends die s) (by decide) (Same.refl _ _)
  | .dieResetComplete die ok, s => Ends.call (execDieResetComplete_ends die ok s) (by decide) (Same.refl _ _)
  | .stripeRowPack group ius, s => Ends.call (execStripeRowPack_ends group ius s) (by decide) (Same.refl _ _)
  | .stripeRowCommit group band row, s => Ends.call (execStripeRowCommit_ends group band row s) (by decide)
      (Same.refl _ _)
  | .stripeRowProgramFail group band row die, s => Ends.call (execStripeRowProgramFail_ends group band row die s)
      (by decide) (Same.refl _ _)
  | .mergeReadDone key media, s => Ends.call (execMergeReadDone_ends key media s) (by decide) (Same.refl _ _)
  | .fold group, s => Ends.call (execFold_ends group s) (by decide) (Same.refl _ _)
  | .foldIdleTimeout group, s => Ends.call (execFoldIdleTimeout_ends group s) (by decide) (Same.refl _ _)
  | .garbageCollection group, s => Ends.call (execGarbageCollection_ends group s) (by decide) (Same.refl _ _)
  | .staticWearMove die, s => Ends.call (execStaticWearMove_ends die s) (by decide) (Same.refl _ _)
  | .patrolScan die band corrected level, s => Ends.call (execPatrolScan_ends die band corrected level s) (by
      decide) (Same.refl _ _)
  | .refresh media, s => Ends.call (execRefresh_ends media s) (by decide) (Same.refl _ _)
  | .rebuildBand media, s => Ends.call (execRebuildBand_ends media s) (by decide) (Same.refl _ _)
  | .resyncComplete rows, s => Ends.call (execResyncComplete_ends rows s) (by decide) (Same.refl _ _)
  | .slotFrame slot meas, s => Ends.call (execSlotFrame_ends slot meas s) (by decide) (Same.refl _ _)
  | .armSyncEdge meas, s => Ends.call (execArmSyncEdge_ends meas s) (by decide) (Same.refl _ _)
  | .indexPulseMissing slot meas, s => Ends.call (execIndexPulseMissing_ends slot meas s) (by decide) (Same.refl _ _)
  | .tokenRefill, s => Ends.call (execTokenRefill_ends s) (by decide) (Same.refl _ _)
  | .injectDone slot, s => Ends.call (execInjectDone_ends slot s) (by decide) (Same.refl _ _)
  | .tuningWindowExpiry, s => Ends.call (execTuningWindowExpiry_ends s) (by decide) (Same.refl _ _)
  | .armReadConfig tag slot length, s => Ends.call (execArmReadConfig_ends tag slot length s) (by decide)
      (Same.refl _ _)
  | .armWriteConfig tag slot length block, s => Ends.call (execArmWriteConfig_ends tag slot length block s) (by
      decide) (Same.refl _ _)
  | .armSetModeNormal tag slot traceDiv, s => Ends.call (execArmSetModeNormal_ends tag slot traceDiv s) (by decide)
      (Same.refl _ _)
  | .armSetModeTrace tag slot traceStop traceDiv, s => Ends.call (execArmSetModeTrace_ends tag slot traceStop
      traceDiv s) (by decide) (Same.refl _ _)
  | .armSetModeInject tag slot traceDiv cdw13 cdw14 cdw15, s => Ends.call (execArmSetModeInject_ends tag slot
      traceDiv cdw13 cdw14 cdw15 s) (by decide) (Same.refl _ _)
  | .armSetWindow tag mask seconds, s => Ends.call (execArmSetWindow_ends tag mask seconds s) (by decide)
      (Same.refl _ _)
  | .armSetPolicy tag throttle, s => Ends.call (execArmSetPolicy_ends tag throttle s) (by decide) (Same.refl _ _)
  | .cfgStageCommit stored, s => Ends.call (execCfgStageCommit_ends stored s) (by decide) (Same.refl _ _)
  | .policyRegisterWrite reg value, s => Ends.call (execPolicyRegisterWrite_ends reg value s) (by decide)
      (Same.refl _ _)
  | .configRecordUpdate stored, s => Ends.call (execConfigRecordUpdate_ends stored s) (by decide) (Same.refl _ _)
  | .chargerBankCheck vholdMv, s => Ends.call (execChargerBankCheck_ends vholdMv s) (by decide) (Same.refl _ _)
  | .chargerCharged vholdMv, s => Ends.call (execChargerCharged_ends vholdMv s) (by decide) (Same.refl _ _)
  | .chargerStallTimeout riseMv, s => Ends.call (execChargerStallTimeout_ends riseMv s) (by decide) (Same.refl _ _)
  | .chargerMeasureStart, s => Ends.call (execChargerMeasureStart_ends s) (by decide) (Same.refl _ _)
  | .chargerMeasureDone vholdMv riseMv capUf, s => Ends.call (execChargerMeasureDone_ends vholdMv riseMv capUf s)
      (by decide) (Same.refl _ _)
  | .chargerMeasureTimeout, s => Ends.call (execChargerMeasureTimeout_ends s) (by decide) (Same.refl _ _)
  | .vholdUndervolt vholdMv, s => Ends.call (execVholdUndervolt_ends vholdMv s) (by decide) (Same.refl _ _)
  | .vholdOvervolt vholdMv, s => Ends.call (execVholdOvervolt_ends vholdMv s) (by decide) (Same.refl _ _)
  | .restart env, s => Ends.call (execRestart_ends env s) (by decide) (Same.refl _ _)
  | .checkpointStart why, s => Ends.call (execCheckpointStart_ends why s) (by decide) (Same.refl _ _)
  | .checkpointCommit ok, s => Ends.call (execCheckpointCommit_ends ok s) (by decide) (Same.refl _ _)
  | .segmentWrite why, s => Ends.call (execSegmentWrite_ends why s) (by decide) (Same.refl _ _)
  | .segmentCommit ok, s => Ends.call (execSegmentCommit_ends ok s) (by decide) (Same.refl _ _)
  | .exportStart tag vf delta length certs, s => Ends.call (execExportStart_ends tag vf delta length certs s) (by
      decide) (Same.refl _ _)
  | .exportRound tag session, s => Ends.call (execExportRound_ends tag session s) (by decide) (Same.refl _ _)
  | .exportStop tag session, s => Ends.call (execExportStop_ends tag session s) (by decide) (Same.refl _ _)
  | .exportRead tag session length index media, s => Ends.call (execExportRead_ends tag session length index media
      s) (by decide) (Same.refl _ _)
  | .closeResume tag session keepTracking, s => Ends.call (execCloseResume_ends tag session keepTracking s) (by
      decide) (Same.refl _ _)
  | .closeRetire tag session, s => Ends.call (execCloseRetire_ends tag session s) (by decide) (Same.refl _ _)
  | .importBegin tag vf length hdr, s => Ends.call (execImportBegin_ends tag vf length hdr s) (by decide)
      (Same.refl _ _)
  | .importWrite tag session length shard, s => Ends.call (execImportWrite_ends tag session length shard s) (by
      decide) (Same.refl _ _)
  | .importFinish tag session length manifest, s => Ends.call (execImportFinish_ends tag session length manifest s)
      (by decide) (Same.refl _ _)
  | .importActivate tag session, s => Ends.call (execImportActivate_ends tag session s) (by decide) (Same.refl _ _)
  | .importAbort tag session, s => Ends.call (execImportAbort_ends tag session s) (by decide) (Same.refl _ _)
  | .mctpPacket pkt, s => Ends.call (execMctpPacket_ends pkt s) (by decide) (Same.refl _ _)
  | .mctpSetEndpointId op eid, s => Ends.call (execMctpSetEndpointId_ends op eid s) (by decide) (Same.refl _ _)
  | .mctpGetEndpointId, s => Ends.call (execMctpGetEndpointId_ends s) (by decide) (Same.refl _ _)
  | .mctpGetEndpointUuid, s => Ends.call (execMctpGetEndpointUuid_ends s) (by decide) (Same.refl _ _)
  | .mctpGetVersionSupport type, s => Ends.call (execMctpGetVersionSupport_ends type s) (by decide) (Same.refl _ _)
  | .mctpGetMessageTypeSupport, s => Ends.call (execMctpGetMessageTypeSupport_ends s) (by decide) (Same.refl _ _)
  | .i3cEntdaa addr, s => Ends.call (execI3cEntdaa_ends addr s) (by decide) (Same.refl _ _)
  | .i3cSetdasa addr, s => Ends.call (execI3cSetdasa_ends addr s) (by decide) (Same.refl _ _)
  | .i3cRstdaa, s => Ends.call (execI3cRstdaa_ends s) (by decide) (Same.refl _ _)
  | .i3cEnec events, s => Ends.call (execI3cEnec_ends events s) (by decide) (Same.refl _ _)
  | .i3cDisec events, s => Ends.call (execI3cDisec_ends events s) (by decide) (Same.refl _ _)
  | .i3cGetpid, s => Ends.call (execI3cGetpid_ends s) (by decide) (Same.refl _ _)
  | .i3cGetbcr, s => Ends.call (execI3cGetbcr_ends s) (by decide) (Same.refl _ _)
  | .i3cGetdcr, s => Ends.call (execI3cGetdcr_ends s) (by decide) (Same.refl _ _)
  | .i3cGetmrl, s => Ends.call (execI3cGetmrl_ends s) (by decide) (Same.refl _ _)
  | .i3cGetmwl, s => Ends.call (execI3cGetmwl_ends s) (by decide) (Same.refl _ _)
  | .i3cSetmrl value, s => Ends.call (execI3cSetmrl_ends value s) (by decide) (Same.refl _ _)
  | .i3cSetmwl value, s => Ends.call (execI3cSetmwl_ends value s) (by decide) (Same.refl _ _)
  | .i3cGetstatus, s => Ends.call (execI3cGetstatus_ends s) (by decide) (Same.refl _ _)
  | .miReadDataStructure slot dtyp portId ctrl, s => Ends.call (execMiReadDataStructure_ends slot dtyp portId ctrl
      s) (by decide) (Same.refl _ _)
  | .miSubsystemHealthPoll slot clear, s => Ends.call (execMiSubsystemHealthPoll_ends slot clear s) (by decide)
      (Same.refl _ _)
  | .miControllerHealthPoll slot start maxEntries, s => Ends.call (execMiControllerHealthPoll_ends slot start
      maxEntries s) (by decide) (Same.refl _ _)
  | .miConfigurationSet slot cfgId value, s => Ends.call (execMiConfigurationSet_ends slot cfgId value s) (by
      decide) (Same.refl _ _)
  | .miConfigurationGet slot cfgId, s => Ends.call (execMiConfigurationGet_ends slot cfgId s) (by decide)
      (Same.refl _ _)
  | .vpdRead slot dofst dlen, s => Ends.call (execVpdRead_ends slot dofst dlen s) (by decide) (Same.refl _ _)
  | .vpdWrite slot dofst dlen data stored, s => Ends.call (execVpdWrite_ends slot dofst dlen data stored s) (by
      decide) (Same.refl _ _)
  | .miReset slot, s => Ends.call (execMiReset_ends slot s) (by decide) (Same.refl _ _)
  | .snapshotCopy, s => Ends.call (execSnapshotCopy_ends s) (by decide) (Same.refl _ _)
  | .kscEnableChange enable, s => Ends.call (execKscEnableChange_ends enable s) (by decide) (Same.refl _ _)
  | .snapNow, s => Ends.call (execSnapNow_ends s) (by decide) (Same.refl _ _)
  | .kscPeriodicSnapshot, s => Ends.call (execKscPeriodicSnapshot_ends s) (by decide) (Same.refl _ _)
  | .kscSync, s => Ends.call (execKscSync_ends s) (by decide) (Same.refl _ _)
  | .evsSummarySignal pf, s => Ends.call (execEvsSummarySignal_ends pf s) (by decide) (Same.refl _ _)
  | .evsPendingWrite pf k value, s => Ends.call (execEvsPendingWrite_ends pf k value s) (by decide) (Same.refl _ _)
  | .evsEnableWrite pf k value, s => Ends.call (execEvsEnableWrite_ends pf k value s) (by decide) (Same.refl _ _)
  | .evsRearm pf value, s => Ends.call (execEvsRearm_ends pf value s) (by decide) (Same.refl _ _)
  | .upperWordLatchRead pf offset size, s => Ends.call (execUpperWordLatchRead_ends pf offset size s) (by decide)
      (Same.refl _ _)
  | .registerWrite pf offset size value reads, s => Ends.call (execRegisterWrite_ends pf offset size value s reads)
      (by decide) (Same.refl _ _)
  | .armrefReturn, s => Ends.call (execArmrefReturn_ends s) (by decide) (Same.refl _ _)
  | .xt32Return, s => Ends.call (execXt32Return_ends s) (by decide) (Same.refl _ _)
  | .vauxLoss, s => Ends.call (execVauxLoss_ends s) (by decide) (Same.refl _ _)
  | .controllerEnable f cc aqa, s => Ends.call (execControllerEnable_ends f cc aqa s) (by decide) (Same.refl _ _)
  | .msixVectorUnmask f vector, s => Ends.call (execMsixVectorUnmask_ends f vector s) (by decide) (Same.refl _ _)
  | .interruptMaskWrite f set value, s => Ends.call (execInterruptMaskWrite_ends f set value s) (by decide)
      (Same.refl _ _)
  | .interruptCoalescingTimeout f, s => Ends.call (execInterruptCoalescingTimeout_ends f s) (by decide) (Same.refl
      _ _)
  | .deviceSelfTestComplete result, s => Ends.call (execDeviceSelfTestComplete_ends result s) (by decide)
      (Same.refl _ _)
  | .formatNvmComplete nsid ok, s => Ends.call (execFormatNvmComplete_ends nsid ok s) (by decide) (Same.refl _ _)
  | .updateGateRefresh, s => Ends.call (execUpdateGateRefresh_ends s) (by decide) (Same.refl _ _)
  | .aspmL1Entry port, s => Ends.call (execAspmL1Entry_ends port s) (by decide) (Same.refl _ _)
  | .l1Exit port, s => Ends.call (execL1Exit_ends port s) (by decide) (Same.refl _ _)
  | .l0pWidthChange port width, s => Ends.call (execL0pWidthChange_ends port width s) (by decide) (Same.refl _ _)

end Sys2Proof.Machine
end

