-- ==== Sys2Proof/Laws/FrameIdle.lean ====
section
/-! SUPPORT. Frames of the operations of Machine/Idle.lean: the fields each of them can change. -/
namespace Sys2Proof.Machine

theorem keepHeld_same (r : List Held) (s : State) :
    Same [.mgt] s (keepHeld r s) := by
  unfold keepHeld
  exact Same.put (Same.refl _ _) rfl

theorem idleTick_same (s : State) :
    Same [.ksc, .free, .out] s (idleTick s) := by
  unfold idleTick
  exact Same.widen (by decide) (kscSend_same _)

end Sys2Proof.Machine
end

