-- ==== Sys2Proof/Laws/Memory.lean ====
section
/-! SUPPORT. Sparse tables: what a read gives after a write, and that every operation over them keeps their canonical
form. The Image Array's bytes are such a table (Memory.wf). -/
namespace Sys2Proof.Machine

variable {α : Type}

/-- Every key is above `j`. -/
def Sparse.above (j : Nat) (t : Sparse α) : Prop := ∀ e ∈ t, j < e.1

theorem Sparse.rising_cons {j : Nat} {v : α} {t : Sparse α} :
    Sparse.rising ((j, v) :: t) = true ↔ Sparse.above j t ∧ Sparse.rising t = true := by
  induction t generalizing j v with
  | nil => simp [Sparse.rising, Sparse.above]
  | cons a r ih =>
    obtain ⟨k, w⟩ := a
    rw [Sparse.rising, Bool.and_eq_true, decide_eq_true_eq, ih]
    simp only [Sparse.above, List.mem_cons, forall_eq_or_imp]
    exact ⟨fun h => ⟨⟨h.1, fun e m => Nat.lt_trans h.1 (h.2.1 e m)⟩, h.2⟩, fun h => ⟨h.1.1, h.2⟩⟩

theorem Sparse.rising_sublist {t u : Sparse α} (h : t.Sublist u) (k : Sparse.rising u = true) : Sparse.rising t = true := by
  induction h with
  | slnil => exact k
  | cons a _ ih => exact ih ((Sparse.rising_cons (v := a.2)).mp k).2
  | cons_cons a h ih =>
    have k := (Sparse.rising_cons (v := a.2)).mp k
    exact (Sparse.rising_cons (v := a.2)).mpr ⟨fun e m => k.1 e (h.subset m), ih k.2⟩

theorem Sparse.erase_sublist (t : Sparse α) (k : Nat) : (Sparse.erase t k).Sublist t := by
  induction t with
  | nil => exact List.Sublist.slnil
  | cons a r ih =>
    obtain ⟨j, v⟩ := a
    rw [Sparse.erase]
    split
    · exact ih.cons _
    · exact ih.cons_cons _

theorem Sparse.mem_set {t : Sparse α} {k : Nat} {v : α} {e : Nat × α} (h : e ∈ Sparse.set t k v) : e = (k, v) ∨ e ∈ t := by
  induction t with
  | nil => simpa [Sparse.set] using h
  | cons a r ih =>
    obtain ⟨j, w⟩ := a
    simp only [Sparse.set] at h
    split at h
    · simpa using h
    · split at h
      · rcases List.mem_cons.mp h with h | h
        · exact .inl h
        · exact .inr (List.mem_cons_of_mem _ h)
      · rcases List.mem_cons.mp h with h | h
        · exact .inr (h ▸ List.mem_cons_self)
        · exact (ih h).imp id (List.mem_cons_of_mem _)

theorem Sparse.rising_set {t : Sparse α} (h : Sparse.rising t = true) (k : Nat) (v : α) :
    Sparse.rising (Sparse.set t k v) = true := by
  induction t with
  | nil => rfl
  | cons a r ih =>
    obtain ⟨j, w⟩ := a
    have hr := Sparse.rising_cons.mp h
    simp only [Sparse.set]
    split
    · rename_i lt
      refine Sparse.rising_cons.mpr ⟨?_, h⟩
      intro e m
      rcases List.mem_cons.mp m with m | m
      · exact m ▸ lt
      · exact Nat.lt_trans lt (hr.1 e m)
    · split
      · rename_i e
        subst e
        exact Sparse.rising_cons.mpr hr
      · refine Sparse.rising_cons.mpr ⟨?_, ih hr.2⟩
        intro e m
        rcases Sparse.mem_set m with m | m
        · subst m
          show j < k
          omega
        · exact hr.1 e m

theorem Sparse.look_set {t : Sparse α} (k : Nat) (v : α) (i : Nat) :
    Sparse.look (Sparse.set t k v) i = if i = k then some v else Sparse.look t i := by
  induction t with
  | nil => simp [Sparse.set, Sparse.look, eq_comm]
  | cons a r ih =>
    obtain ⟨j, w⟩ := a
    simp only [Sparse.set]
    split
    · simp only [Sparse.look, eq_comm]
    · split
      · rename_i e
        subst e
        simp only [Sparse.look]
        by_cases h : j = i
        · simp [h]
        · simp [h, Ne.symm h]
      · simp only [Sparse.look, ih]
        by_cases h : j = i
        · subst h
          simp only [if_true]
          rw [if_neg (by assumption)]
        · simp [h]

theorem Sparse.look_erase {t : Sparse α} (k i : Nat) :
    Sparse.look (Sparse.erase t k) i = if i = k then none else Sparse.look t i := by
  induction t with
  | nil => simp [Sparse.erase, Sparse.look]
  | cons a r ih =>
    obtain ⟨j, w⟩ := a
    simp only [Sparse.erase]
    split
    · rename_i e
      subst e
      rw [ih]
      by_cases h : i = j
      · simp [h]
      · simp [Sparse.look, h, Ne.symm h]
    · simp only [Sparse.look, ih]
      by_cases h : j = i
      · subst h
        simp only [if_true]
        rw [if_neg (by assumption)]
      · simp [h]

/-- A read after a write: the written value at its key, every other key as before. -/
theorem Sparse.read_put [DecidableEq α] (d : α) (t : Sparse α) (k : Nat) (v : α) (i : Nat) :
    Sparse.read d (Sparse.put d t k v) i = if i = k then v else Sparse.read d t i := by
  simp only [Sparse.read, Sparse.put]
  split
  · rename_i e
    rw [Sparse.look_erase]
    split
    · exact e.symm
    · rfl
  · rw [Sparse.look_set]
    split <;> rfl

/-- Taking entries out keeps the canonical form. -/
theorem Sparse.wf_sublist [DecidableEq α] {d : α} {t u : Sparse α} (h : t.Sublist u) (k : Sparse.wf d u = true) :
    Sparse.wf d t = true := by
  simp only [Sparse.wf, Bool.and_eq_true, List.all_eq_true] at k ⊢
  exact ⟨Sparse.rising_sublist h k.1, fun e m => k.2 e (h.subset m)⟩

theorem Sparse.wf_put [DecidableEq α] {d : α} {t : Sparse α} (h : Sparse.wf d t = true) (k : Nat) (v : α) :
    Sparse.wf d (Sparse.put d t k v) = true := by
  unfold Sparse.put
  split
  · exact Sparse.wf_sublist (Sparse.erase_sublist t k) h
  · simp only [Sparse.wf, Bool.and_eq_true, List.all_eq_true, decide_eq_true_eq] at h ⊢
    refine ⟨Sparse.rising_set h.1 k v, fun e m => ?_⟩
    rcases Sparse.mem_set m with m | m
    · subst m
      assumption
    · exact h.2 e m

theorem Sparse.wf_putBytes {d : Byte} (b : Bytes) :
    ∀ {t : Sparse Byte} (a : Nat), Sparse.wf d t = true → Sparse.wf d (Sparse.putBytes d t a b) = true := by
  induction b with
  | nil => exact fun _ h => h
  | cons x r ih => exact fun a h => ih (a + 1) (Sparse.wf_put h a x)

theorem Sparse.wf_clear [DecidableEq α] {d : α} {t : Sparse α} (h : Sparse.wf d t = true) (lo hi : Nat) :
    Sparse.wf d (Sparse.clear t lo hi) = true :=
  Sparse.wf_sublist List.filter_sublist h

/-- A read after bytes are written from `a` on. -/
theorem Sparse.read_putBytes (d : Byte) (b : Bytes) (i : Nat) :
    ∀ (t : Sparse Byte) (a : Nat), Sparse.read d (Sparse.putBytes d t a b) i =
      if a ≤ i ∧ i < a + b.length then b.getD (i - a) d else Sparse.read d t i := by
  induction b with
  | nil =>
    intro t a
    rw [Sparse.putBytes, if_neg (by simp only [List.length_nil]; omega)]
  | cons x r ih =>
    intro t a
    rw [Sparse.putBytes, ih, Sparse.read_put]
    simp only [List.length_cons]
    by_cases e : i = a
    · subst e
      rw [if_neg (by omega), if_pos rfl, if_pos (by omega), Nat.sub_self]
      rfl
    · rw [if_neg e]
      by_cases k : a + 1 ≤ i ∧ i < a + 1 + r.length
      · rw [if_pos k, if_pos (by omega)]
        obtain ⟨j, rfl⟩ : ∃ j, i = a + 1 + j := ⟨i - (a + 1), by omega⟩
        rw [show a + 1 + j - (a + 1) = j by omega, show a + 1 + j - a = j + 1 by omega]
        rfl
      · rw [if_neg k, if_neg (by omega)]

theorem Sparse.look_clear (lo hi i : Nat) :
    ∀ t : Sparse α, Sparse.look (Sparse.clear t lo hi) i = if lo ≤ i ∧ i < hi then none else Sparse.look t i
  | [] => by simp [Sparse.clear, Sparse.look]
  | (j, v) :: r => by
    have ih := Sparse.look_clear lo hi i r
    unfold Sparse.clear at ih ⊢
    rw [List.filter_cons]
    by_cases e : j = i
    · subst e
      by_cases c : lo ≤ j ∧ j < hi
      · rw [if_neg (by simp only [decide_eq_true_eq]; omega), ih]
        simp only [c, and_self, if_true]
      · rw [if_pos (by simp only [decide_eq_true_eq]; omega)]
        simp [Sparse.look, c]
    · split <;> simp only [Sparse.look, e, if_false, ih]

end Sys2Proof.Machine
end

