-- ==== Sys2Proof/Laws/Array.lean ====
section
/-! SUPPORT. The Image Array: what its operations leave of the invariant and of the permanently locked sectors. -/
namespace Sys2Proof.Machine

/-- What the array's cells hold at an offset, records and the ledger apart: the seed of an undefined unit, and the byte. -/
def cell (s : State) (a : Nat) : Option Nat × Byte :=
  ((s.nor.undef.find? fun r => decide (r.first ≤ a / 32 ∧ a / 32 < r.first + r.count)).map (·.seed),
    Sparse.read 0xFF s.nor.mem a)

/-- In a permanently locked sector stand slot G, which no record touches, or the factory's certificates. -/
theorem storedByte_locked {s t : State} {a : Nat} (h : permLocked (sectorOf a) = true) (f : Field.same s t .fuseFixed) :
    storedByte t a = storedByte s a := by
  obtain ⟨-, d, e⟩ := f
  simp only [permLocked, Bool.or_eq_true, decide_eq_true_eq] at h
  unfold storedByte
  generalize sectorOf a = n at h ⊢
  rcases h with (h | rfl) | rfl
  · dsimp only
    rw [if_pos (by omega), if_pos (by omega)]
  · simp [cfgByte, factoryByte, devidCert, d, e]
  · simp [cfgByte, factoryByte, devidCert, d, e]

/-- A byte of a permanently locked sector reads as before where the array's cells do. -/
theorem norByte_locked {s t : State} {a : Nat} (h : permLocked (sectorOf a) = true) (f : Field.same s t .fuseFixed)
    (c : cell t a = cell s a) : norByte t a = norByte s a := by
  obtain ⟨c, m⟩ := Prod.mk.inj c
  unfold norByte
  rw [storedByte_locked h f, m]
  generalize List.find? _ t.nor.undef = x at c ⊢
  generalize List.find? _ s.nor.undef = y at c ⊢
  cases x <;> cases y <;> simp_all

/-- From a state with the invariant: the invariant holds again and no byte of a permanently locked sector changed. -/
def Keeps (s t : State) : Prop :=
  Safety.Inv s → Safety.Inv t ∧ ∀ a, permLocked (sectorOf a) = true → cell t a = cell s a

theorem Keeps.refl (s : State) : Keeps s s := fun h => ⟨h, fun _ _ => rfl⟩

theorem Keeps.trans {s t u : State} (h : Keeps s t) (k : Keeps t u) : Keeps s u := fun i =>
  ⟨(k (h i).1).1, fun a l => ((k (h i).1).2 a l).trans ((h i).2 a l)⟩

theorem Keeps.ite {c : Prop} [Decidable c] {s t u : State} (h : Keeps s t) (k : Keeps s u) :
    Keeps s (if c then t else u) := by
  split <;> assumption

theorem Keeps.fold {α : Type} {g : State → α → State} (h : ∀ s a, Keeps s (g s a)) :
    ∀ (x : List α) (t : State), Keeps t (x.foldl g t)
  | [], t => Keeps.refl t
  | a :: x, t => (h t a).trans (Keeps.fold h x (g t a))

/-- What touches neither the array's contents, nor its banks' operations, nor the download session. -/
theorem Same.keeps {l : List Field} {s t : State} (h : Same l s t)
    (k : !l.contains .norMem && !l.contains .norOps && !l.contains .upd) : Keeps s t := by
  have hk : Field.norMem ∉ l ∧ Field.norOps ∉ l ∧ Field.upd ∉ l := by simpa [and_assoc] using k
  obtain ⟨m1, m2, m3⟩ := h _ hk.1
  obtain ⟨o1, o2, o3, o4, o5, o6, o7, o8⟩ := h _ hk.2.1
  have u : t.upd = s.upd := h _ hk.2.2
  intro i
  refine ⟨?_, fun a _ => by simp only [cell, m1, m3]⟩
  simpa only [Safety.Inv, Safety.bankOk, m1, m2, o1, o2, o3, o4, o5, o6, o7, o8, u] using i

/-! ## Undefined units -/

/-- The undefined range that holds a unit. -/
def undefAt (l : List UndefRange) (u : Nat) : Option UndefRange :=
  l.find? fun r => decide (r.first ≤ u ∧ u < r.first + r.count)

theorem without_covers (r : UndefRange) (lo hi u : Nat) (h : u < lo ∨ hi ≤ u) :
    ((r.without lo hi).find? fun x => decide (x.first ≤ u ∧ u < x.first + x.count)).map (·.seed)
      = if r.first ≤ u ∧ u < r.first + r.count then some r.seed else none := by
  have seed : ∀ x ∈ r.without lo hi, x.seed = r.seed ∧ (x.first ≤ u ∧ u < x.first + x.count → r.first ≤ u ∧ u < r.first + r.count) := by
    intro x hx
    simp only [UndefRange.without, List.mem_append] at hx
    rcases hx with hx | hx <;> split at hx
    · obtain rfl := List.mem_singleton.mp hx
      exact ⟨rfl, fun k => ⟨k.1, by have := k.2; dsimp only at this; omega⟩⟩
    · cases hx
    · obtain rfl := List.mem_singleton.mp hx
      refine ⟨rfl, fun k => ?_⟩
      dsimp only at k
      omega
    · cases hx
  split
  · rename_i c
    have : ∃ x ∈ r.without lo hi, x.first ≤ u ∧ u < x.first + x.count := by
      simp only [UndefRange.without]
      rcases h with h | h
      · refine ⟨{ r with count := min (lo - r.first) r.count }, ?_, ?_⟩
        · rw [if_pos (by omega : r.first < lo)]
          exact List.mem_append_left _ (List.mem_singleton.mpr rfl)
        · dsimp only
          omega
      · refine ⟨{ r with first := max hi r.first, count := r.first + r.count - max hi r.first }, ?_, ?_⟩
        · rw [if_pos (by omega : hi < r.first + r.count)]
          exact List.mem_append_right _ (List.mem_singleton.mpr rfl)
        · dsimp only
          omega
    obtain ⟨x, hx, k⟩ := this
    cases e : (r.without lo hi).find? fun x => decide (x.first ≤ u ∧ u < x.first + x.count) with
    | none => exact absurd k (by simpa using List.find?_eq_none.mp e x hx)
    | some y => rw [Option.map_some, (seed y (List.mem_of_find?_eq_some e)).1]
  · rename_i c
    rw [List.find?_eq_none.mpr]
    · rfl
    · intro x hx k
      exact c ((seed x hx).2 (by simpa using k))

theorem undefAt_define (lo hi u : Nat) (h : u < lo ∨ hi ≤ u) : ∀ l : List UndefRange,
    (undefAt (l.flatMap fun r => if hi ≤ r.first ∨ r.first + r.count ≤ lo then [r] else r.without lo hi) u).map (·.seed)
      = (undefAt l u).map (·.seed)
  | [] => rfl
  | r :: l => by
    have ih := undefAt_define lo hi u h l
    have one : ((if hi ≤ r.first ∨ r.first + r.count ≤ lo then [r] else r.without lo hi).find?
        fun x => decide (x.first ≤ u ∧ u < x.first + x.count)).map (·.seed)
        = if r.first ≤ u ∧ u < r.first + r.count then some r.seed else none := by
      split
      · simp only [List.find?_cons, List.find?_nil]
        split <;> split <;> simp_all
      · exact without_covers r lo hi u h
    simp only [undefAt, List.flatMap_cons, List.find?_append, Option.map_or, List.find?_cons] at ih ⊢
    rw [one, ih]
    by_cases c : r.first ≤ u ∧ u < r.first + r.count
    · rw [if_pos c, decide_eq_true c]
      rfl
    · rw [if_neg c, decide_eq_false c]
      rfl

/-- Bytes outside the units keep what they read as. -/
theorem cell_define (lo hi : Nat) (s : State) (a : Nat) (h : a / 32 < lo ∨ hi ≤ a / 32) :
    cell (defineUnits lo hi s) a = cell s a :=
  Prod.ext (undefAt_define lo hi (a / 32) h s.nor.undef) rfl

theorem cell_undefine (lo hi : Nat) (s : State) (a : Nat) (h : a / 32 < lo ∨ hi ≤ a / 32) :
    cell (undefineUnits lo hi s) a = cell s a := by
  rw [← cell_define lo hi s a h]
  unfold cell undefineUnits drawn
  dsimp only
  rw [List.find?_append]
  cases List.find? _ (defineUnits lo hi s).nor.undef with
  | some x => rfl
  | none =>
    rw [Option.none_or, List.find?_cons, List.find?_nil, decide_eq_false (by dsimp only; omega)]

/-! ## Sectors -/

theorem permLocked_ne {n a : Nat} (h : permLocked n = false) (k : permLocked (sectorOf a) = true) :
    a / 0x40000 ≠ n := by
  intro e
  rw [sectorOf, sectorBytes, e, h] at k
  cases k

/-- Sectors of slots A and B carry no permanent lock bit (R142, R165). -/
theorem permLocked_slot {n : Nat} (h : 192 ≤ n ∧ n ≤ 383 ∨ 512 ≤ n ∧ n ≤ 703) : permLocked n = false := by
  simp only [permLocked, Bool.or_eq_false_iff, decide_eq_false_iff_not]
  omega

/-- Units that lie in sectors without a permanent lock bit. -/
def unlockedUnits (lo hi : Nat) : Prop := ∀ u, lo ≤ u → u < hi → permLocked (u / 8192) = false

theorem unlockedUnits.out {lo hi a : Nat} (h : unlockedUnits lo hi) (k : permLocked (sectorOf a) = true) :
    a / 32 < lo ∨ hi ≤ a / 32 := by
  by_cases c : lo ≤ a / 32 ∧ a / 32 < hi
  · have e := h _ c.1 c.2
    rw [show a / 32 / 8192 = sectorOf a by rw [sectorOf, sectorBytes, Nat.div_div_eq_div_mul], k] at e
    cases e
  · omega

theorem unlockedUnits.sector {n : Nat} (h : permLocked n = false) : unlockedUnits (n * sectorBytes / 32) ((n * sectorBytes + sectorBytes) / 32) := by
  intro u a b
  rw [sectorBytes] at a b
  rwa [show u / 8192 = n by omega]

theorem undefineUnits_keeps {lo hi : Nat} (h : unlockedUnits lo hi) (s : State) : Keeps s (undefineUnits lo hi s) :=
  fun i => ⟨i, fun a k => cell_undefine lo hi s a (h.out k)⟩

/-- Marks of programmed units replaced in canonical form. -/
theorem marks_keeps (s : State) (m : Sparse Bool) (h : Sparse.wf false s.nor.programmed = true → Sparse.wf false m = true) :
    Keeps s { s with nor.programmed := m } :=
  fun i => ⟨⟨i.1, h i.2.1, i.2.2⟩, fun _ _ => rfl⟩

theorem bumpGen_keeps (n : Nat) (s : State) : Keeps s (bumpGen n s) := (bumpGen_same n s).keeps (by decide)

theorem programUnit_keeps {u : Nat} {d : Bytes} (h : permLocked (u / 8192) = false) (k : d.length ≤ 32) (s : State) :
    Keeps s (programUnit u d s) := by
  intro i
  refine ⟨⟨Sparse.wf_putBytes d _ i.1, Sparse.wf_put i.2.1 u true, i.2.2⟩, fun a l => ?_⟩
  have e := permLocked_ne h l
  unfold cell programUnit
  dsimp only
  rw [Sparse.read_putBytes, if_neg (by omega)]

/-! ## Banks -/

theorem inv_bank {s : State} (h : Safety.Inv s) (b : Pf) : Safety.bankOk (bankOf s b) = true := by
  cases b
  · exact h.2.2.1
  · exact h.2.2.2.1

theorem setBank_keeps (b : Pf) {x : Bank} {s : State} (h : Safety.Inv s → Safety.bankOk x = true) : Keeps s (setBank b x s) := by
  intro i
  cases b
  · exact ⟨⟨i.1, i.2.1, h i, i.2.2.2⟩, fun _ _ => rfl⟩
  · exact ⟨⟨i.1, i.2.1, i.2.2.1, h i, i.2.2.2.2⟩, fun _ _ => rfl⟩

theorem modBank_keeps (b : Pf) {g : Bank → Bank} (h : ∀ x, Safety.bankOk x = true → Safety.bankOk (g x) = true) (s : State) :
    Keeps s (modBank b g s) := setBank_keeps b fun i => h _ (inv_bank i b)

/-- A change of a bank that leaves its cycles and operations. -/
theorem modBank_quiet_keeps (b : Pf) {g : Bank → Bank}
    (h : ∀ x : Bank, (g x).seq = x.seq ∧ (g x).run = x.run ∧ (g x).suspErase = x.suspErase ∧ (g x).suspProg = x.suspProg)
    (s : State) : Keeps s (modBank b g s) :=
  modBank_keeps b (fun x k => by simpa only [Safety.bankOk, h x] using k) s

theorem bankOk_iff {x : Bank} : Safety.bankOk x = true ↔ Safety.seqOk x.seq = true ∧ (∀ o, x.run = some o → Safety.opOk o = true) ∧
    (∀ o, x.suspProg = some o → Safety.opOk o = true) ∧ ∀ n, x.suspErase = some n → permLocked n = false := by
  obtain ⟨seq, _, _, _, _, _, _, _, run, se, sp, _, _, _, _⟩ := x
  cases run <;> cases sp <;> cases se <;> simp [Safety.bankOk, and_assoc]

theorem eraseUnits_keeps {n : Nat} (h : permLocked n = false) (s : State) : Keeps s (eraseUnits n s) := by
  unfold eraseUnits
  refine Keeps.trans ?_ (modBank_quiet_keeps _ ?_ _)
  · intro i
    refine ⟨⟨Sparse.wf_clear i.1 _ _, Sparse.wf_clear i.2.1 _ _, i.2.2⟩, fun a l => ?_⟩
    rw [← cell_define (n * sectorBytes / 32) ((n * sectorBytes + sectorBytes) / 32) s a ((unlockedUnits.sector h).out l)]
    have e := permLocked_ne h l
    refine Prod.ext rfl ?_
    unfold cell Sparse.read
    dsimp only
    rw [Sparse.look_clear, if_neg]
    rw [sectorBytes]
    omega
  · exact fun _ => ⟨rfl, rfl, rfl, rfl⟩

theorem loseStores_keeps (n : Nat) (s : State) : Keeps s (loseStores n s) := (loseStores_same n s).keeps (by decide)

theorem eraseContents_keeps {n : Nat} (h : permLocked n = false) (s : State) : Keeps s (eraseContents n s) :=
  (eraseUnits_keeps h s).trans (loseStores_keeps n _)

/-! ## Records -/

/-- The sectors of pair logs carry no permanent lock bit (R143, R165). -/
theorem activeSector_unlocked (c : CfgStore) (one : Bool) (k : RecKind) : permLocked (c.activeSector one k) = false := by
  unfold CfgStore.activeSector cfgFirst
  split <;> split <;> cases k <;> rfl

theorem readySector_keeps {n : Nat} (h : permLocked n = false) (pages : Nat) (s : State) : Keeps s (readySector n pages s) := by
  unfold readySector
  exact Keeps.ite ((eraseUnits_keeps h s).trans (bumpGen_keeps _ _)) (Keeps.refl s)

theorem storeCopy_keeps (b : RecBody) (ok : Bool) (s : State) : Keeps s (storeCopy b ok s) := by
  unfold storeCopy
  dsimp only
  have k : Keeps s (putRecord b ok (readySector (s.cfg.activeSector (s.cfg.target b.kind) b.kind)
      (((s.cfg.part (s.cfg.target b.kind)).log b.kind).active.pages) s)) :=
    (readySector_keeps (activeSector_unlocked _ _ _) _ s).trans ((putRecord_same _ _ _).keeps (by decide))
  exact Keeps.ite (k.trans (eraseUnits_keeps (activeSector_unlocked _ _ _) _)) k

theorem retireSector_keeps (n : Nat) (s : State) : Keeps s (retireSector n s) := by
  have k : ∀ u : State, Keeps u (if 192 ≤ n ∧ n ≤ 383 then storeCopy (.boot ((bootRecBase u).setState .a .failed)) true u
      else if 512 ≤ n ∧ n ≤ 703 then storeCopy (.boot ((bootRecBase u).setState .b .failed)) true u
      else if 384 ≤ n ∧ n ≤ 423 then { u with evr.boot.usable := u.evr.boot.usable - 1 }
      else if 704 ≤ n ∧ n ≤ 839 then { u with evr.gen.usable := u.evr.gen.usable - 1 }
      else if 424 ≤ n ∧ n ≤ 431 then { u with cfg.cfg0 := u.cfg.cfg0.lose (n - 424) }
      else if 840 ≤ n ∧ n ≤ 847 then { u with cfg.cfg1 := u.cfg.cfg1.lose (n - 840) }
      else u) := by
    intro u
    have a := storeCopy_keeps (.boot ((bootRecBase u).setState .a .failed)) true u
    have b := storeCopy_keeps (.boot ((bootRecBase u).setState .b .failed)) true u
    generalize storeCopy (.boot ((bootRecBase u).setState .a .failed)) true u = x at a ⊢
    generalize storeCopy (.boot ((bootRecBase u).setState .b .failed)) true u = y at b ⊢
    repeat' split
    · exact a
    · exact b
    · exact Same.keeps (l := [.evr]) (Same.put (Same.refl _ _) rfl) (by decide)
    · exact Same.keeps (l := [.evr]) (Same.put (Same.refl _ _) rfl) (by decide)
    · exact Same.keeps (l := [.cfg]) (Same.put (Same.refl _ _) rfl) (by decide)
    · exact Same.keeps (l := [.cfg]) (Same.put (Same.refl _ _) rfl) (by decide)
    · exact Keeps.refl _
  unfold retireSector
  refine Keeps.ite (Keeps.refl s) (Keeps.trans ?_ ((evsSet_same _ _).keeps (by decide) |>.trans
    ((eventDue_same _ _ _ _).keeps (by decide))))
  exact Keeps.trans (t := { s with nor.retired := insertNew n s.nor.retired }) (fun i => ⟨i, fun _ _ => rfl⟩) (k _)

theorem replaceBad_keeps (n pages : Nat) (s : State) : Keeps s (replaceBad n pages s) := by
  unfold replaceBad
  refine Keeps.ite (retireSector_keeps n s) (Keeps.trans (modBank_quiet_keeps _ ?_ s) ((bumpGen_keeps _ _).trans
    ((evsSet_same _ _).keeps (by decide) |>.trans ((eventDue_same _ _ _ _).keeps (by decide)))))
  exact fun _ => ⟨rfl, rfl, rfl, rfl⟩

theorem storeRecord_keeps (b : RecBody) (ok : Bool) (s : State) : Keeps s (storeRecord b ok s) := by
  have k := storeCopy_keeps b ok s
  unfold storeRecord
  dsimp only
  refine Keeps.ite k (Keeps.ite k (Keeps.trans ?_ (replaceBad_keeps _ _ _)))
  refine Keeps.trans (k.trans ?_) (fun i => ⟨i, fun _ _ => rfl⟩)
  refine Keeps.ite (undefineUnits_keeps ?_ _) (Keeps.refl _)
  intro u p q
  have h := activeSector_unlocked (storeCopy b ok s).cfg (s.cfg.target b.kind) b.kind
  generalize (storeCopy b ok s).cfg.activeSector _ _ = n at h p q
  rw [sectorBytes] at p q
  rwa [show u / 8192 = n by omega]

/-- The sectors of an EVR partition carry no permanent lock bit (R142, R165). -/
theorem evrSectorAt_unlocked (part : EvrPart) (place : Nat) : permLocked (evrSectorAt part place) = false := by
  have range : 384 ≤ evrSectorAt part place ∧ evrSectorAt part place < 424 ∨
      704 ≤ evrSectorAt part place ∧ evrSectorAt part place < 840 := by
    cases part
    · have := Nat.mod_lt place (by decide : 0 < 40)
      exact .inl ⟨Nat.le_add_right .., by show 384 + place % 40 < 424; omega⟩
    · have := Nat.mod_lt place (by decide : 0 < 136)
      exact .inr ⟨Nat.le_add_right .., by show 704 + place % 136 < 840; omega⟩
  simp only [permLocked, Bool.or_eq_false_iff, decide_eq_false_iff_not]
  omega

theorem openSector_keeps (part : EvrPart) (s : State) : Keeps s (openSector part s) := by
  unfold openSector
  dsimp only
  refine Keeps.trans ?_ (readySector_keeps (evrSectorAt_unlocked _ _) _ _)
  refine Keeps.trans ?_ (bumpGen_keeps _ _)
  refine Keeps.trans ?_ ((setLedger_same _ _ _).keeps (by decide))
  exact ((formSummaries_same _ _).keeps (by decide)).trans (Keeps.fold (fun s x =>
    ((dropSector_same _ _ s).keeps (by decide)).trans (eraseUnits_keeps (evrSectorAt_unlocked _ _) _)) _ _)

theorem failPage_keeps (part : EvrPart) (s : State) : Keeps s (failPage part s) := by
  unfold failPage
  dsimp only
  have t : Keeps s (tearSector part s) := (tearSector_same part s).keeps (by decide)
  refine Keeps.ite t (Keeps.trans (Keeps.trans (t.trans (Keeps.ite (undefineUnits_keeps ?_ _) (Keeps.refl _))) (bumpGen_keeps _ _))
    (replaceBad_keeps _ _ _))
  intro u p q
  have h := evrSectorAt_unlocked part (ledger s part).pos
  unfold evrSectorNo at p q
  generalize evrSectorAt part (ledger s part).pos = n at h p q
  unfold pageCount at q
  rw [sectorBytes] at p q
  rwa [show u / 8192 = n by omega]

theorem programPage_keeps (part : EvrPart) (ok : Bool) (s : State) : Keeps s (programPage part ok s) := by
  unfold programPage
  refine Keeps.ite (Keeps.refl s) ?_
  dsimp only
  have o : Keeps s (if (ledger s part).used = 2048 then openSector part s else s) :=
    Keeps.ite (openSector_keeps part s) (Keeps.refl s)
  exact Keeps.ite (o.trans (((setLedger_same _ _ _).keeps (by decide)).trans ((bumpGen_keeps _ _).trans
    ((noteSigned_same _ _).keeps (by decide))))) (o.trans (failPage_keeps part _))

theorem drainQueue_keeps (part : EvrPart) : ∀ (n : Nat) (s : State), Keeps s (drainQueue part n s)
  | 0, s => Keeps.refl s
  | n + 1, s => (programPage_keeps part true s).trans (drainQueue_keeps part n _)

theorem writeOut_keeps (part : EvrPart) (ok : Bool) (s : State) : Keeps s (writeOut part ok s) := by
  unfold writeOut
  exact Keeps.trans (Keeps.ite (Keeps.refl s) (programPage_keeps part false s)) (drainQueue_keeps _ _ _)

/-! ## Slots -/

theorem eraseSectors_keeps (l : List Nat) (h : ∀ n ∈ l, permLocked n = false) (s : State) : Keeps s (eraseSectors l s) := by
  refine Keeps.trans ?_ (bumpGen_keeps _ _)
  induction l generalizing s with
  | nil => exact Keeps.refl s
  | cons n l ih => exact (eraseContents_keeps (h n (List.mem_cons_self ..)) s).trans (ih (fun m k => h m (List.mem_cons_of_mem _ k)) _)

theorem slotSectors_unlocked (i : SlotId) : ∀ n ∈ slotSectors i, permLocked n = false := by
  intro n h
  cases i <;> simp only [slotSectors, List.mem_map, List.mem_range, List.not_mem_nil] at h
  all_goals
    obtain ⟨k, hk, rfl⟩ := h
    exact permLocked_slot (by omega)

/-- Bytes from an aligned offset within unlocked units. -/
theorem programRange_keeps {a : Nat} (d : Bytes) (h : unlockedUnits (a / 32) (a / 32 + (d.length + 31) / 32)) (s : State) :
    Keeps s (programRange a d s) := by
  refine Keeps.trans ?_ (bumpGen_keeps _ _)
  have go : ∀ (l : List Nat), (∀ i ∈ l, i < (d.length + 31) / 32) → ∀ s,
      Keeps s (l.foldl (fun s i => if unitDone s (a / 32 + i) then s else programUnit (a / 32 + i) (slice d (32 * i) 32) s) s) := by
    intro l
    induction l with
    | nil => exact fun _ s => Keeps.refl s
    | cons i l ih =>
      intro hl s
      have hi := hl i (List.mem_cons_self ..)
      exact (Keeps.ite (Keeps.refl s) (programUnit_keeps (h _ (by omega) (by omega)) (by simp [slice]) s)).trans
        (ih (fun j k => hl j (List.mem_cons_of_mem _ k)) _)
  exact go _ (fun i k => List.mem_range.mp k) s

theorem programFails_keeps {a n : Nat} (h : unlockedUnits (a / 32) ((a + n) / 32)) (s : State) :
    Keeps s (programFails a n s) := by
  unfold programFails
  dsimp only
  refine (bumpGen_keeps 1 s).trans ((undefineUnits_keeps (fun u p q => h u p (by omega)) _).trans (marks_keeps _ _ ?_))
  intro w
  have go : ∀ (l : List Nat) (m : Sparse Bool), Sparse.wf false m = true →
      Sparse.wf false (l.foldl (fun m i => Sparse.put false m (a / 32 + i) true) m) = true := by
    intro l
    induction l with
    | nil => exact fun _ h => h
    | cons i l ih => exact fun m h => ih _ (Sparse.wf_put h _ _)
  exact go _ _ w

/-! ## Commands of a bank -/

/-- A bank that goes to another cycle of its sequence. -/
theorem modBank_seq_keeps (b : Pf) {q : SeqState} {g : Bank → Bank} (h : ∀ x : Bank, (g x).seq = q ∧ (g x).run = x.run ∧
    (g x).suspErase = x.suspErase ∧ (g x).suspProg = x.suspProg) {s : State} (k : Safety.Inv s → Safety.seqOk q = true) :
    Keeps s (modBank b g s) := by
  refine setBank_keeps b fun i => ?_
  have e := inv_bank i b
  obtain ⟨h1, h2, h3, h4⟩ := h (bankOf s b)
  simp only [Safety.bankOk, Bool.and_eq_true] at e
  simp only [Safety.bankOk, h1, h2, h3, h4, k i, Bool.true_and, Bool.and_eq_true]
  exact ⟨⟨e.1.1.2, e.1.2⟩, e.2⟩

/-- A refused command, or one that ends a sequence with other status bits. -/
theorem modBank_idle_keeps (b : Pf) {g : Bank → Bank} (h : ∀ x : Bank, (g x).seq = .idle ∧ (g x).run = x.run ∧
    (g x).suspErase = x.suspErase ∧ (g x).suspProg = x.suspProg) (s : State) : Keeps s (modBank b g s) :=
  modBank_seq_keeps b h fun _ => rfl

theorem seqError_keeps (b : Pf) (s : State) : Keeps s (seqError b s) := by
  unfold seqError
  refine modBank_idle_keeps b ?_ s
  exact fun _ => ⟨rfl, rfl, rfl, rfl⟩

theorem acceptOp_keeps (b : Pf) {op : NorOp} (h : Safety.opOk op = true) (s : State) : Keeps s (acceptOp b op s) := by
  refine (modBank_keeps b (fun x k => ?_) s).trans (bumpGen_keeps 1 _)
  rw [bankOk_iff] at k ⊢
  dsimp only
  refine ⟨rfl, ?_, k.2.2⟩
  rintro o ⟨⟩
  exact h

theorem startProgram_keeps (b : Pf) {first : Nat} {bytes : Bytes} (h : first % 512 + bytes.length ≤ 512) (s : State) :
    Keeps s (startProgram b first bytes s) := by
  unfold startProgram
  dsimp only
  refine Keeps.ite (seqError_keeps b s) ?_
  split
  · refine modBank_idle_keeps b ?_ s
    exact fun _ => ⟨rfl, rfl, rfl, rfl⟩
  · rename_i l
    refine acceptOp_keeps b ?_ s
    simp only [sectorLocked, Bool.or_eq_true, not_or, Bool.not_eq_true] at l
    simp only [Safety.opOk, l.1, Bool.not_false, Bool.true_and, decide_eq_true_eq]
    exact h

theorem startErase_keeps (b : Pf) (n : Nat) (remap : Bool) (s : State) : Keeps s (startErase b n remap s) := by
  unfold startErase
  dsimp only
  refine Keeps.ite (seqError_keeps b s) ?_
  split
  · refine modBank_idle_keeps b ?_ s
    exact fun _ => ⟨rfl, rfl, rfl, rfl⟩
  · rename_i l
    simp only [sectorLocked, Bool.or_eq_true, not_or, Bool.not_eq_true] at l
    split
    · refine Keeps.trans ?_ (retireSector_keeps _ _)
      refine modBank_idle_keeps b ?_ s
      exact fun _ => ⟨rfl, rfl, rfl, rfl⟩
    · exact acceptOp_keeps b (by split <;> simp [Safety.opOk, l.1]) s

theorem changeLock_keeps (b : Pf) (n : Nat) (set : Bool) (s : State) : Keeps s (changeLock b n set s) := by
  unfold changeLock
  refine Keeps.ite (seqError_keeps b s) ?_
  refine Keeps.trans (t := { s with nor.unlocked := if set then s.nor.unlocked.erase n else insertNew n s.nor.unlocked })
    (fun i => ⟨i, fun _ _ => rfl⟩) (modBank_idle_keeps b ?_ _)
  exact fun _ => ⟨rfl, rfl, rfl, rfl⟩

theorem suspendNow_keeps (b : Pf) (s : State) : Keeps s (suspendNow b s) := by
  refine modBank_keeps b (fun x k => ?_) s
  rw [bankOk_iff] at k
  obtain ⟨k1, k2, k3, k4⟩ := k
  split
  · rename_i n e
    rw [bankOk_iff]
    dsimp only
    refine ⟨k1, ?_, k3, ?_⟩
    · rintro o ⟨⟩
    · rintro m ⟨⟩
      simpa [Safety.opOk] using k2 _ e
  · rename_i f d r e
    rw [bankOk_iff]
    dsimp only
    refine ⟨k1, ?_, ?_, k4⟩
    · rintro o ⟨⟩
    · rintro o ⟨⟩
      exact k2 _ e
  · exact bankOk_iff.mpr ⟨k1, k2, k3, k4⟩

theorem suspendCmd_keeps (b : Pf) (early : Bool) (s : State) : Keeps s (suspendCmd b early s) := by
  have p : Keeps s (modBank b (fun x => { x with suspPend := true }) s) := by
    refine modBank_quiet_keeps b ?_ s
    exact fun _ => ⟨rfl, rfl, rfl, rfl⟩
  unfold suspendCmd
  refine Keeps.ite (seqError_keeps b s) ?_
  split
  · exact Keeps.ite p (suspendNow_keeps b s)
  · exact Keeps.ite p (suspendNow_keeps b s)
  · exact Keeps.refl s

theorem resumeCmd_keeps (b : Pf) (s : State) : Keeps s (resumeCmd b s) := by
  refine modBank_keeps b (fun x k => ?_) s
  have k' := bankOk_iff.mp k
  obtain ⟨k1, k2, k3, k4⟩ := k'
  split
  · exact k
  · split
    · rename_i p e
      rw [bankOk_iff]
      dsimp only
      refine ⟨k1, ?_, ?_, k4⟩
      · rintro o ⟨⟩
        exact k3 _ e
      · rintro o ⟨⟩
    · rename_i n e1 e
      rw [bankOk_iff]
      dsimp only
      refine ⟨k1, ?_, k3, ?_⟩
      · rintro o ⟨⟩
        simp only [Safety.opOk, k4 _ e, Bool.not_false]
      · rintro o ⟨⟩
    · exact k

theorem clearStatus_keeps (b : Pf) (s : State) : Keeps s (clearStatus b s) := by
  unfold clearStatus
  refine modBank_quiet_keeps b ?_ s
  exact fun _ => ⟨rfl, rfl, rfl, rfl⟩

theorem readArray_keeps (b : Pf) (s : State) : Keeps s (readArray b s) := by
  unfold readArray
  refine modBank_quiet_keeps b ?_ s
  exact fun _ => ⟨rfl, rfl, rfl, rfl⟩

@[simp] theorem leBytes_length : ∀ n v : Nat, (leBytes n v).length = n
  | 0, _ => rfl
  | n + 1, v => by rw [leBytes, List.length_cons, leBytes_length]

theorem norWrite_keeps (early : Bool) (a : Nat) (v : W32) (s : State) : Keeps s (norWrite early a v s) := by
  have err := seqError_keeps (bankOfOffset a) s
  have goto (q : SeqState) (h : Safety.Inv s → Safety.seqOk q = true) :
      Keeps s (modBank (bankOfOffset a) (fun x => { x with seq := q }) s) := by
    refine modBank_seq_keeps _ ?_ h
    exact fun _ => ⟨rfl, rfl, rfl, rfl⟩
  have seq (i : Safety.Inv s) : Safety.seqOk (bankOf s (bankOfOffset a)).seq = true := (bankOk_iff.mp (inv_bank i _)).1
  unfold norWrite
  dsimp only
  split
  · exact Keeps.ite (goto _ fun _ => rfl) (Keeps.ite (suspendCmd_keeps _ _ s) (Keeps.ite (resumeCmd_keeps _ s) (Keeps.ite
      (clearStatus_keeps _ s) (Keeps.ite (readArray_keeps _ s) err))))
  · exact Keeps.ite (goto _ fun _ => rfl) err
  · refine Keeps.ite ?_ err
    split
    · refine Keeps.ite err (modBank_idle_keeps _ ?_ s)
      exact fun _ => ⟨rfl, rfl, rfl, rfl⟩
    · exact goto _ fun _ => rfl
    · exact err
  · split
    · rename_i h
      exact goto _ fun _ => by simp only [Safety.seqOk, h.1, h.2, decide_true, Bool.and_self]
    · exact err
  · refine Keeps.ite ?_ err
    split
    · exact startErase_keeps _ _ _ s
    · exact startErase_keeps _ _ _ s
    · exact changeLock_keeps _ _ _ s
    · exact changeLock_keeps _ _ _ s
  · rename_i page len e
    split
    · rename_i h
      refine goto _ fun i => ?_
      have k := seq i
      rw [e] at k
      simp only [Safety.seqOk, lenOk, Bool.and_eq_true, decide_eq_true_eq, leBytes_length, true_and] at k ⊢
      omega
    · exact err
  · rename_i page first next left bytes e
    split
    · split
      · rename_i l
        refine goto _ fun i => ?_
        have k := seq i
        rw [e] at k
        simp only [Safety.seqOk, decide_eq_true_eq, leBytes_length, List.length_append] at k ⊢
        omega
      · rename_i l
        refine goto _ fun i => ?_
        have k := seq i
        rw [e] at k
        simp only [Safety.seqOk, decide_eq_true_eq, leBytes_length, List.length_append] at k ⊢
        omega
    · exact err
  · rename_i page first bytes e
    split
    · intro i
      have k := seq i
      rw [e] at k
      simp only [Safety.seqOk, decide_eq_true_eq] at k
      exact startProgram_keeps _ (by omega) s i
    · exact err

theorem norCycles_keeps (l : List (Nat × W32)) (sent : Nat) (s : State) : Keeps s (norCycles l sent s) := by
  unfold norCycles
  exact Keeps.ite (Keeps.fold (fun _ _ => norWrite_keeps _ _ _ _) _ _) (Keeps.refl s)

/-! ## Operations that end -/

/-- The page of an accepted PROGRAM. -/
theorem opOk_program {f : Nat} {d : Bytes} {r : List Nat} (h : Safety.opOk (.program f d r) = true) (hi : Nat)
    (k : hi ≤ f / 512 * 16 + 16) : unlockedUnits (f / 512 * 16) hi := by
  intro u a b
  simp only [Safety.opOk, Bool.and_eq_true, Bool.not_eq_true'] at h
  rw [show u / 8192 = sectorOf f by rw [sectorOf, sectorBytes]; omega]
  exact h.1

theorem freshUnits_mem {f : Nat} {d : Bytes} {r : List Nat} {u : Nat × Bytes} (h : u ∈ freshUnits f d r) :
    f / 32 ≤ u.1 ∧ u.1 < f / 32 + d.length / 32 ∧ u.2.length ≤ 32 := by
  simp only [freshUnits, List.mem_filterMap, List.mem_range] at h
  obtain ⟨i, hi, h⟩ := h
  split at h
  · cases h
  · cases h
    exact ⟨by omega, by omega, by simp [slice]⟩

theorem relock_keeps (n : Nat) (s : State) : Keeps s { s with nor.unlocked := s.nor.unlocked.erase n } :=
  fun i => ⟨i, fun _ _ => rfl⟩

theorem Keeps.foldMem {α : Type} {g : State → α → State} :
    ∀ (x : List α), (∀ a ∈ x, ∀ s, Keeps s (g s a)) → ∀ t : State, Keeps t (x.foldl g t)
  | [], _, t => Keeps.refl t
  | a :: x, h, t => (h a (List.mem_cons_self ..) t).trans (Keeps.foldMem x (fun b k => h b (List.mem_cons_of_mem _ k)) (g t a))

theorem opComplete_keeps (b : Pf) (ok : Bool) (s : State) : Keeps s (opComplete b ok s) := by
  intro i
  have k := (bankOk_iff.mp (inv_bank i b)).2.1
  have idle : Keeps s (modBank b (fun x => { x with run := none, suspPend := false }) s) := by
    refine modBank_keeps b (fun x k => ?_) s
    rw [bankOk_iff] at k ⊢
    dsimp only
    refine ⟨k.1, ?_, k.2.2⟩
    rintro o ⟨⟩
  unfold opComplete
  dsimp only
  split
  · exact Keeps.refl s i
  · rename_i first d refused e
    have o := k _ e
    have o' := o
    simp only [Safety.opOk, Bool.and_eq_true, Bool.not_eq_true', decide_eq_true_eq] at o'
    have page : ∀ u, first / 32 ≤ u → u < first / 32 + d.length / 32 → permLocked (u / 8192) = false := fun u p q =>
      opOk_program o _ (Nat.le_refl _) u (by omega) (by omega)
    refine (idle.trans (Keeps.trans ?_ (Keeps.trans (modBank_quiet_keeps b ?_ _) (relock_keeps _ _)))) i
    · split
      · exact Keeps.foldMem _ (fun u m s => programUnit_keeps (page _ (freshUnits_mem m).1 (freshUnits_mem m).2.1)
          (freshUnits_mem m).2.2 s) _
      · refine Keeps.foldMem _ (fun u m s => ?_) _
        have q := freshUnits_mem m
        refine (undefineUnits_keeps (lo := u.1) (hi := u.1 + 1) (fun v x y => page v (by omega) (by omega)) s).trans
          (marks_keeps (undefineUnits u.1 (u.1 + 1) s) _ fun w => Sparse.wf_put w _ _)
    · exact fun _ => ⟨rfl, rfl, rfl, rfl⟩
  · rename_i n e
    have o : permLocked n = false := by simpa [Safety.opOk] using k _ e
    refine (idle.trans (Keeps.trans (Keeps.ite (eraseContents_keeps o _) ?_) (relock_keeps _ _))) i
    refine (loseStores_keeps n _).trans ((undefineUnits_keeps ?_ _).trans (modBank_quiet_keeps b ?_ _))
    · have := unlockedUnits.sector o
      rw [Nat.add_div_of_dvd_left (by decide : 32 ∣ sectorBytes)] at this
      exact this
    · exact fun _ => ⟨rfl, rfl, rfl, rfl⟩
  · rename_i n e
    have o : permLocked n = false := by simpa [Safety.opOk] using k _ e
    refine (idle.trans (Keeps.trans (Keeps.trans ?_ (relock_keeps _ _)) ((serveWindow_same _ _).keeps (by decide)))) i
    refine (eraseContents_keeps o _).trans (Keeps.trans (modBank_quiet_keeps b ?_ _) (Keeps.trans
      (Same.keeps (evsSet_same _ _) (by decide)) (Same.keeps (eventDue_same _ _ _ _) (by decide))))
    exact fun _ => ⟨rfl, rfl, rfl, rfl⟩

theorem resetBank_keeps (b : Pf) (s : State) : Keeps s (resetBank b s) := by
  intro i
  obtain ⟨-, k2, k3, k4⟩ := bankOk_iff.mp (inv_bank i b)
  have oE : ∀ n, (bankOf s b).erasing = some n → permLocked n = false := by
    intro n e
    unfold Bank.erasing at e
    split at e
    · cases e
      rename_i h
      simpa [Safety.opOk] using k2 _ h
    · exact k4 _ e
  have oP : ∀ f, (bankOf s b).progging = some f → ∃ d r, Safety.opOk (.program f d r) = true := by
    intro f e
    unfold Bank.progging at e
    split at e
    · cases e
      rename_i h
      exact ⟨_, _, k2 _ h⟩
    · split at e
      · cases e
        rename_i h
        exact ⟨_, _, k3 _ h⟩
      · cases e
  unfold resetBank
  dsimp only
  generalize (bankOf s b).erasing = E at oE ⊢
  generalize (bankOf s b).progging = P at oP ⊢
  have kE (n : Nat) (e : E = some n) : Keeps s (undefineUnits (n * sectorBytes / 32) ((n + 1) * sectorBytes / 32) (loseStores n s)) := by
    have h := unlockedUnits.sector (oE n e)
    rw [← Nat.succ_mul] at h
    exact (loseStores_keeps n s).trans (undefineUnits_keeps h _)
  have kP (f : Nat) (e : P = some f) (u : State) : Keeps u (undefineUnits (f / 512 * 16) (f / 512 * 16 + 16) u) := by
    obtain ⟨d, r, o⟩ := oP f e
    exact undefineUnits_keeps (opOk_program o _ (Nat.le_refl _)) u
  cases E with
  | none =>
    cases P with
    | none => exact setBank_keeps b (fun _ => rfl) i
    | some f => exact ((kP f rfl s).trans (setBank_keeps b fun _ => rfl)) i
  | some n =>
    cases P with
    | none =>
      refine Keeps.trans (kE n rfl) ?_ i
      exact setBank_keeps b fun _ => rfl
    | some f =>
      refine Keeps.trans ((kE n rfl).trans (kP f rfl _)) ?_ i
      exact setBank_keeps b fun _ => rfl

theorem dieReset_keeps (s : State) : Keeps s (dieReset s) :=
  (resetBank_keeps .p0 s).trans ((resetBank_keeps .p1 _).trans fun i => ⟨i, fun _ _ => rfl⟩)

/-! ## Slots -/

/-- The units of a range of slot A or B. -/
theorem slot_units {i : SlotId} {off n : Nat} (h : i ≠ .g) (a : off % 32 = 0) (k : off + n ≤ slotBytes) :
    unlockedUnits ((slotBase i + off) / 32) ((slotBase i + off) / 32 + (n + 31) / 32) := by
  intro u p q
  refine permLocked_slot ?_
  cases i
  · exact absurd rfl h
  · simp only [slotBase, slotBytes, sectorBytes] at p q k
    omega
  · simp only [slotBase, slotBytes, sectorBytes] at p q k
    omega

theorem rcvDone_keeps (p : RcvPath) (code : Nat) (s : State) : Keeps s (rcvDone p code s) :=
  Same.keeps (rcvDone_same _ _ _) (by decide)

end Sys2Proof.Machine
end

