-- ==== Sys2Proof/Laws/PerInstr.lean ====
section
/-! SUPPORT. For every command: a well-formed command names a well-formed function as the one it is confined to. -/
namespace Sys2Proof.Laws.Naming
open Sys2Proof.Machine

/-- The function that a well-formed command is confined to is a function of the device (R278). -/
def Statement (i : Instr) : Prop := i.wf = true → ∀ f, onlyFunction i = some f → f.wf = true

/-- A command confined to no function. -/
theorem of_none {i : Instr} (h : onlyFunction i = none) : Statement i := by
  intro _ f e
  rw [h] at e
  cases e

/-- A command that names its function. -/
theorem of_some {i : Instr} {f : Func} (h : onlyFunction i = some f) (w : i.wf = true → f.wf = true) :
    Statement i := by
  intro a g e
  rw [h] at e
  cases e
  exact w a

/-- A command confined to its tag's function. -/
theorem of_tag {i : Instr} {t : Tag} (h : onlyFunction i = onlyFunction.fnOfTag t) (w : i.wf = true → t.wf = true) :
    Statement i := by
  intro a f e
  have k := w a
  rw [h] at e
  obtain ⟨src, q, c⟩ := t
  cases src with
  | mgt => cases e
  | fn g => cases e; exact (Bool.and_eq_true _ _ ▸ k).1

theorem coldReset : Statement .coldReset := of_none rfl
theorem powerOnReset : Statement .powerOnReset := of_none rfl
theorem internalResetRelease (a0 : Bool) : Statement (.internalResetRelease a0) := of_none rfl
theorem strapSample (a0 : Straps) : Statement (.strapSample a0) := of_none rfl
theorem pwrfailReleaseWait : Statement .pwrfailReleaseWait := of_none rfl
theorem fundamentalReset (a0 : FundCause) (a1 : FlushResult) : Statement (.fundamentalReset a0 a1) := of_none rfl
theorem linkReset (a0 : Pf) : Statement (.linkReset a0) := of_none rfl
theorem subsystemReset (a0 : W32) : Statement (.subsystemReset a0) := of_none rfl
theorem flr (a0 : Func) : Statement (.flr a0) := of_none rfl
theorem vfEnableClear (a0 : Pf) : Statement (.vfEnableClear a0) := of_none rfl
theorem controllerReset (a0 : Func) : Statement (.controllerReset a0) := of_none rfl
theorem shutdownNotification (a0 : Func) : Statement (.shutdownNotification a0) := of_none rfl
theorem brownOut : Statement .brownOut := of_none rfl
theorem pwrfailFall (a0 : FlushResult) : Statement (.pwrfailFall a0) := of_none rfl
theorem flushComplete (a0 : Bool) : Statement (.flushComplete a0) := of_none rfl
theorem thermalTrip (a0 : FlushResult) : Statement (.thermalTrip a0) := of_none rfl
theorem sysrefLoss (a0 : FlushResult) : Statement (.sysrefLoss a0) := of_none rfl
theorem armrefLoss : Statement .armrefLoss := of_none rfl
theorem xt32Loss : Statement .xt32Loss := of_none rfl
theorem optionLoadAttempt (a0 : StaticFuses) : Statement (.optionLoadAttempt a0) := of_none rfl
theorem plinthBoot (a0 : BootEnv) : Statement (.plinthBoot a0) := of_none rfl
theorem configSpaceBuild : Statement .configSpaceBuild := of_none rfl
theorem trialWatchdogExpiry (a0 : FlushResult) : Statement (.trialWatchdogExpiry a0) := of_none rfl
theorem trialConfirm (a0 : ImageEnv) (a1 : Bool) : Statement (.trialConfirm a0 a1) := of_none rfl
theorem deepSleepArm (a0 : W64) : Statement (.deepSleepArm a0) := of_none rfl
theorem rcvStatus (a0 : RcvPath) : Statement (.rcvStatus a0) := of_none rfl
theorem rcvOpen (a0 : RcvPath) : Statement (.rcvOpen a0) := of_none rfl
theorem rcvEraseSlot (a0 : RcvPath) (a1 : W32) (a2 : Bool) : Statement (.rcvEraseSlot a0 a1 a2) := of_none rfl
theorem rcvWriteChunk (a0 : RcvPath) (a1 : W32) (a2 : W32) (a3 : W32) (a4 : Bytes) (a5 : Bool) :
    Statement (.rcvWriteChunk a0 a1 a2 a3 a4 a5) := of_none rfl
theorem rcvVerify (a0 : RcvPath) (a1 : W32) (a2 : ImageEnv) : Statement (.rcvVerify a0 a1 a2) := of_none rfl
theorem rcvCommit (a0 : RcvPath) (a1 : W32) (a2 : Bytes) (a3 : DualVerdict) (a4 : Bool) :
    Statement (.rcvCommit a0 a1 a2 a3 a4) := of_none rfl
theorem rcvReboot (a0 : RcvPath) (a1 : FlushResult) : Statement (.rcvReboot a0 a1) := of_none rfl
theorem rcvClose (a0 : RcvPath) : Statement (.rcvClose a0) := of_none rfl
theorem recoveryWindowRead (a0 : Nat) (a1 : Bool) : Statement (.recoveryWindowRead a0 a1) := of_none rfl
theorem iaProgram (a0 : Nat) (a1 : W32) (a2 : Nat) (a3 : List W32) (a4 : Nat) :
    Statement (.iaProgram a0 a1 a2 a3 a4) := of_none rfl
theorem iaSectorErase (a0 : Nat) (a1 : Nat) : Statement (.iaSectorErase a0 a1) := of_none rfl
theorem iaRemap (a0 : Nat) (a1 : Nat) : Statement (.iaRemap a0 a1) := of_none rfl
theorem iaLockClear (a0 : Nat) (a1 : Nat) : Statement (.iaLockClear a0 a1) := of_none rfl
theorem iaLockSet (a0 : Nat) (a1 : Nat) : Statement (.iaLockSet a0 a1) := of_none rfl
theorem iaInfo (a0 : Pf) (a1 : Nat) : Statement (.iaInfo a0 a1) := of_none rfl
theorem iaSuspend (a0 : Pf) (a1 : Bool) : Statement (.iaSuspend a0 a1) := of_none rfl
theorem iaSuspendTakesEffect (a0 : Pf) : Statement (.iaSuspendTakesEffect a0) := of_none rfl
theorem iaResume (a0 : Pf) : Statement (.iaResume a0) := of_none rfl
theorem iaClearStatus (a0 : Pf) : Statement (.iaClearStatus a0) := of_none rfl
theorem iaReadArray (a0 : Pf) : Statement (.iaReadArray a0) := of_none rfl
theorem iaBankRead (a0 : Nat) (a1 : Bool) : Statement (.iaBankRead a0 a1) := of_none rfl
theorem iaOperationComplete (a0 : Pf) (a1 : Bool) : Statement (.iaOperationComplete a0 a1) := of_none rfl
theorem getNonce (a0 : Tag) (a1 : W16) (a2 : BitVec 2) : Statement (.getNonce a0 a1 a2) := of_none rfl
theorem ownerInstall (a0 : Tag) (a1 : W16) (a2 : BitVec 2) (a3 : Bytes) (a4 : DualVerdict) (a5 : Bool) :
    Statement (.ownerInstall a0 a1 a2 a3 a4 a5) := of_none rfl
theorem ownerLock (a0 : Tag) (a1 : W16) (a2 : BitVec 2) (a3 : Bytes) (a4 : DualVerdict) (a5 : Bool) :
    Statement (.ownerLock a0 a1 a2 a3 a4 a5) := of_none rfl
theorem ownerUnlock (a0 : Tag) (a1 : W16) (a2 : BitVec 2) (a3 : Bytes) (a4 : DualVerdict) (a5 : Bool) :
    Statement (.ownerUnlock a0 a1 a2 a3 a4 a5) := of_none rfl
theorem ownerReplace (a0 : Tag) (a1 : W16) (a2 : BitVec 2) (a3 : Bytes) (a4 : DualVerdict) (a5 : Bool) :
    Statement (.ownerReplace a0 a1 a2 a3 a4 a5) := of_none rfl
theorem ownerRelease (a0 : Tag) (a1 : W16) (a2 : BitVec 2) (a3 : Bytes) (a4 : DualVerdict) (a5 : Bool) :
    Statement (.ownerRelease a0 a1 a2 a3 a4 a5) := of_none rfl
theorem ownerKscDisable (a0 : Tag) (a1 : W16) (a2 : BitVec 2) (a3 : Bytes) (a4 : DualVerdict) (a5 : Bool) :
    Statement (.ownerKscDisable a0 a1 a2 a3 a4 a5) := of_none rfl
theorem ownerKscEnable (a0 : Tag) (a1 : W16) (a2 : BitVec 2) (a3 : Bytes) (a4 : DualVerdict) (a5 : Bool) :
    Statement (.ownerKscEnable a0 a1 a2 a3 a4 a5) := of_none rfl
theorem splitPartTimeout : Statement .splitPartTimeout := of_none rfl
theorem trngHealthFail (a0 : List Nat) : Statement (.trngHealthFail a0) := of_none rfl
theorem trngReseedAttempt (a0 : List Nat) : Statement (.trngReseedAttempt a0) := of_none rfl
theorem trngPeriodicRestart (a0 : List Nat) : Statement (.trngPeriodicRestart a0) := of_none rfl
theorem drbgReseed : Statement .drbgReseed := of_none rfl
theorem keySlotGenerate (a0 : Pf) (a1 : BitVec 11) : Statement (.keySlotGenerate a0 a1) := of_none rfl
theorem keySlotErase (a0 : Pf) (a1 : BitVec 11) : Statement (.keySlotErase a0 a1) := of_none rfl
theorem oldKeyZeroise (a0 : Nat) : Statement (.oldKeyZeroise a0) := of_none rfl
theorem keyTableStoreCommit (a0 : Bool) : Statement (.keyTableStoreCommit a0) := of_none rfl
theorem ksplitWrite (a0 : Pf) (a1 : W32) : Statement (.ksplitWrite a0 a1) := of_none rfl
theorem ideKmQuery (a0 : Pf) (a1 : Nat) : Statement (.ideKmQuery a0 a1) := of_none rfl
theorem ideKmKeyProg (a0 : Pf) (a1 : Nat) (a2 : IdeKeyRef) (a3 : BitVec 256) :
    Statement (.ideKmKeyProg a0 a1 a2 a3) := of_none rfl
theorem ideKmKSetGo (a0 : Pf) (a1 : Nat) (a2 : IdeKeyRef) : Statement (.ideKmKSetGo a0 a1 a2) := of_none rfl
theorem ideKmKSetStop (a0 : Pf) (a1 : Nat) (a2 : IdeKeyRef) : Statement (.ideKmKSetStop a0 a1 a2) := of_none rfl
theorem spdmGetVersion (a0 : SpdmInst) : Statement (.spdmGetVersion a0) := of_none rfl
theorem spdmGetCapabilities (a0 : SpdmInst) (a1 : Bytes) : Statement (.spdmGetCapabilities a0 a1) := of_none rfl
theorem spdmNegotiateAlgorithms (a0 : SpdmInst) (a1 : SpdmOffer) (a2 : Bytes) :
    Statement (.spdmNegotiateAlgorithms a0 a1 a2) := of_none rfl
theorem spdmGetDigests (a0 : SpdmInst) : Statement (.spdmGetDigests a0) := of_none rfl
theorem spdmGetCertificate (a0 : SpdmInst) (a1 : Nat) (a2 : Nat) (a3 : Nat) :
    Statement (.spdmGetCertificate a0 a1 a2 a3) := of_none rfl
theorem spdmChallenge (a0 : SpdmInst) (a1 : Nat) (a2 : W8) (a3 : Bytes) :
    Statement (.spdmChallenge a0 a1 a2 a3) := of_none rfl
theorem spdmGetMeasurements (a0 : SpdmInst) (a1 : Nat) (a2 : Bool) (a3 : Bytes) :
    Statement (.spdmGetMeasurements a0 a1 a2 a3) := of_none rfl
theorem spdmKeyExchange (a0 : SpdmInst) (a1 : Nat) (a2 : W8) (a3 : Bytes) :
    Statement (.spdmKeyExchange a0 a1 a2 a3) := of_none rfl
theorem spdmFinish (a0 : SpdmInst) (a1 : Nat) (a2 : Digest) : Statement (.spdmFinish a0 a1 a2) := of_none rfl
theorem spdmKeyUpdate (a0 : SpdmInst) (a1 : Nat) (a2 : W8) (a3 : W8) :
    Statement (.spdmKeyUpdate a0 a1 a2 a3) := of_none rfl
theorem spdmHeartbeat (a0 : SpdmInst) (a1 : Nat) : Statement (.spdmHeartbeat a0 a1) := of_none rfl
theorem spdmEndSession (a0 : SpdmInst) (a1 : Nat) : Statement (.spdmEndSession a0 a1) := of_none rfl
theorem spdmChunkGet (a0 : SpdmInst) (a1 : Nat) (a2 : Nat) : Statement (.spdmChunkGet a0 a1 a2) := of_none rfl
theorem spdmVendorDefined (a0 : SpdmInst) (a1 : Option Nat) (a2 : IdeKmMsg) :
    Statement (.spdmVendorDefined a0 a1 a2) := of_none rfl
theorem ledgerSign (a0 : Bool) : Statement (.ledgerSign a0) := of_none rfl
theorem evrPageProgram (a0 : EvrPart) (a1 : Bool) : Statement (.evrPageProgram a0 a1) := of_none rfl
theorem droppedEventReport : Statement .droppedEventReport := of_none rfl
theorem evrRead (a0 : Tag) (a1 : BitVec 2) (a2 : W32) (a3 : BitVec 14) :
    Statement (.evrRead a0 a1 a2 a3) := of_none rfl
theorem evrAck (a0 : Tag) (a1 : BitVec 2) (a2 : W32) (a3 : BitVec 128) (a4 : Bool) :
    Statement (.evrAck a0 a1 a2 a3 a4) := of_none rfl
theorem evrClear (a0 : Tag) (a1 : BitVec 1) (a2 : W32) (a3 : W16) (a4 : Bytes) (a5 : DualVerdict) (a6 : Bool) :
    Statement (.evrClear a0 a1 a2 a3 a4 a5 a6) := of_none rfl
theorem firmwareImageDownload (a0 : Tag) (a1 : Nat) (a2 : Bytes) (a3 : SlotWrite) (a4 : Bool) :
    Statement (.firmwareImageDownload a0 a1 a2 a3 a4) := of_none rfl
theorem commitActionStage (a0 : Tag) (a1 : BitVec 3) (a2 : ImageEnv) (a3 : Bool) :
    Statement (.commitActionStage a0 a1 a2 a3) := of_none rfl
theorem commitActionPending (a0 : Tag) (a1 : BitVec 3) (a2 : ImageEnv) (a3 : Bool) :
    Statement (.commitActionPending a0 a1 a2 a3) := of_none rfl
theorem commitActionActivateStaged (a0 : Tag) (a1 : BitVec 3) (a2 : ImageEnv) (a3 : Bool) :
    Statement (.commitActionActivateStaged a0 a1 a2 a3) := of_none rfl
theorem updateGateQuery (a0 : Tag) (a1 : W16) : Statement (.updateGateQuery a0 a1) := of_none rfl
theorem linkTraining (a0 : Pf) (a1 : LinkPartner) : Statement (.linkTraining a0 a1) := of_none rfl
theorem laneFailure (a0 : Pf) : Statement (.laneFailure a0) := of_none rfl
theorem configRequest (a0 : Func) (a1 : CfgReq) : Statement (.configRequest a0 a1) := of_none rfl
theorem busMasterEnableClear (a0 : Func) : Statement (.busMasterEnableClear a0) := of_none rfl
theorem interruptModeChange (a0 : Func) (a1 : IntInputs) : Statement (.interruptModeChange a0 a1) := of_none rfl
theorem atsEnableChange (a0 : Func) (a1 : Bool) : Statement (.atsEnableChange a0 a1) := of_none rfl
theorem atsTranslationCompletion (a0 : Func) (a1 : Nat) (a2 : Bool) (a3 : Bool) (a4 : Bool) (a5 : Tag) :
    Statement (.atsTranslationCompletion a0 a1 a2 a3 a4 a5) := of_none rfl
theorem invalidateRequest (a0 : Func) (a1 : Nat) (a2 : Nat) (a3 : Nat) :
    Statement (.invalidateRequest a0 a1 a2 a3) := of_none rfl
theorem invalidateCompletion (a0 : Func) (a1 : Nat) : Statement (.invalidateCompletion a0 a1) := of_none rfl
theorem completionTimeout (a0 : Tag) : Statement (.completionTimeout a0) := of_none rfl
theorem unexpectedCompletion (a0 : Func) : Statement (.unexpectedCompletion a0) := of_none rfl
theorem linkDown (a0 : Pf) : Statement (.linkDown a0) := of_none rfl
theorem doeObject (a0 : Pf) (a1 : DoeProtocol) (a2 : Nat) (a3 : Bytes) :
    Statement (.doeObject a0 a1 a2 a3) := of_none rfl
theorem ideCheckFailure (a0 : Pf) (a1 : Nat) (a2 : IdeSub) : Statement (.ideCheckFailure a0 a1 a2) := of_none rfl
theorem dmaErrorCompletion (a0 : Tag) (a1 : DmaError) : Statement (.dmaErrorCompletion a0 a1) := of_none rfl
theorem mmioDoorbellWrite (a0 : Func) (a1 : Nat) (a2 : Bool) (a3 : W32) :
    Statement (.mmioDoorbellWrite a0 a1 a2 a3) := of_some rfl fun h => by simp_all [Instr.wf]
theorem shadowSweep (a0 : Func) (a1 : Nat) (a2 : Nat) :
    Statement (.shadowSweep a0 a1 a2) := of_some rfl fun h => by simp_all [Instr.wf]
theorem parkTimeout (a0 : Func) (a1 : Nat) :
    Statement (.parkTimeout a0 a1) := of_some rfl fun h => by simp_all [Instr.wf]
theorem cqHeadReread (a0 : Func) (a1 : Nat) (a2 : Nat) :
    Statement (.cqHeadReread a0 a1 a2) := of_some rfl fun h => by simp_all [Instr.wf]
theorem commandFetch (a0 : Func) (a1 : Sqe) :
    Statement (.commandFetch a0 a1) := of_some rfl fun h => by simp_all [Instr.wf]
theorem fetchResume (a0 : Func) : Statement (.fetchResume a0) := of_some rfl fun h => by simp_all [Instr.wf]
theorem deleteIoSq (a0 : Tag) (a1 : Nat) : Statement (.deleteIoSq a0 a1) := of_tag rfl fun h => by simp_all [Instr.wf]
theorem deleteIoCq (a0 : Tag) (a1 : Nat) : Statement (.deleteIoCq a0 a1) := of_tag rfl fun h => by simp_all [Instr.wf]
theorem createIoSq (a0 : Tag) (a1 : NewSq) : Statement (.createIoSq a0 a1) := of_none rfl
theorem createIoCq (a0 : Tag) (a1 : NewCq) : Statement (.createIoCq a0 a1) := of_none rfl
theorem getLogPage (a0 : Tag) (a1 : W8) (a2 : Nat) (a3 : Nat) (a4 : Bool) :
    Statement (.getLogPage a0 a1 a2 a3 a4) := of_none rfl
theorem bootLedgerLog (a0 : Tag) (a1 : Nat) (a2 : Nat) : Statement (.bootLedgerLog a0 a1 a2) := of_none rfl
theorem dieHealthLog (a0 : Tag) (a1 : Nat) (a2 : Nat) : Statement (.dieHealthLog a0 a1 a2) := of_none rfl
theorem armatureTraceLog (a0 : Tag) (a1 : BitVec 7) (a2 : Nat) (a3 : Nat) :
    Statement (.armatureTraceLog a0 a1 a2 a3) := of_none rfl
theorem unitStateTableLog (a0 : Tag) (a1 : Bool) (a2 : Nat) (a3 : Nat) :
    Statement (.unitStateTableLog a0 a1 a2 a3) := of_none rfl
theorem parityStatusLog (a0 : Tag) (a1 : Nat) (a2 : Nat) : Statement (.parityStatusLog a0 a1 a2) := of_none rfl
theorem identify (a0 : Tag) (a1 : W8) (a2 : W32) : Statement (.identify a0 a1 a2) := of_none rfl
theorem abort (a0 : Tag) (a1 : Nat) (a2 : W16) :
    Statement (.abort a0 a1 a2) := of_tag rfl fun h => by simp_all [Instr.wf]
theorem setFeatures (a0 : Tag) (a1 : W8) (a2 : Bool) (a3 : W32) (a4 : W32) (a5 : BitVec 128) :
    Statement (.setFeatures a0 a1 a2 a3 a4 a5) := of_none rfl
theorem getFeatures (a0 : Tag) (a1 : W8) (a2 : W32) (a3 : W32) : Statement (.getFeatures a0 a1 a2 a3) := of_none rfl
theorem namespaceKeyBinding (a0 : Tag) (a1 : Bool) (a2 : W32) (a3 : W32) :
    Statement (.namespaceKeyBinding a0 a1 a2 a3) := of_none rfl
theorem packagePowerLimit (a0 : Tag) (a1 : Bool) (a2 : W32) : Statement (.packagePowerLimit a0 a1 a2) := of_none rfl
theorem asynchronousEventRequest (a0 : Tag) : Statement (.asynchronousEventRequest a0) := of_none rfl
theorem namespaceCreate (a0 : Tag) (a1 : NewNs) : Statement (.namespaceCreate a0 a1) := of_none rfl
theorem namespaceDelete (a0 : Tag) (a1 : W32) : Statement (.namespaceDelete a0 a1) := of_none rfl
theorem namespaceDeleteComplete (a0 : W32) : Statement (.namespaceDeleteComplete a0) := of_none rfl
theorem namespaceAttachment (a0 : Tag) (a1 : W32) (a2 : Bool) (a3 : List Nat) :
    Statement (.namespaceAttachment a0 a1 a2 a3) := of_none rfl
theorem virtualizationManagement (a0 : Tag) (a1 : VirtAct) :
    Statement (.virtualizationManagement a0 a1) := of_none rfl
theorem doorbellBufferConfig (a0 : Tag) (a1 : W64) (a2 : W64) :
    Statement (.doorbellBufferConfig a0 a1 a2) := of_tag rfl fun h => by simp_all [Instr.wf]
theorem deviceSelfTest (a0 : Tag) (a1 : BitVec 4) : Statement (.deviceSelfTest a0 a1) := of_none rfl
theorem formatNvm (a0 : Tag) (a1 : W32) (a2 : BitVec 4) (a3 : BitVec 3) :
    Statement (.formatNvm a0 a1 a2 a3) := of_none rfl
theorem sanitize (a0 : Tag) (a1 : BitVec 3) (a2 : Bool) : Statement (.sanitize a0 a1 a2) := of_none rfl
theorem sanitizeComplete (a0 : Bool) : Statement (.sanitizeComplete a0) := of_none rfl
theorem ioFlush (a0 : Tag) (a1 : W32) : Statement (.ioFlush a0 a1) := of_none rfl
theorem ioWrite (a0 : Tag) (a1 : Io) (a2 : Bool) (a3 : List SglDesc) (a4 : Bytes) (a5 : Bytes) (a6 : List Nat) :
    Statement (.ioWrite a0 a1 a2 a3 a4 a5 a6) := of_none rfl
theorem ioRead (a0 : Tag) (a1 : Io) (a2 : Bool) (a3 : List SglDesc) (a4 : MediaEnv) :
    Statement (.ioRead a0 a1 a2 a3 a4) := of_none rfl
theorem writeUncorrectable (a0 : Tag) (a1 : Io) : Statement (.writeUncorrectable a0 a1) := of_none rfl
theorem ioCompare (a0 : Tag) (a1 : Io) (a2 : Bytes) (a3 : MediaEnv) :
    Statement (.ioCompare a0 a1 a2 a3) := of_none rfl
theorem writeZeroes (a0 : Tag) (a1 : Io) (a2 : Bool) : Statement (.writeZeroes a0 a1 a2) := of_none rfl
theorem datasetManagement (a0 : Tag) (a1 : W32) (a2 : Bool) (a3 : List DsmRange) :
    Statement (.datasetManagement a0 a1 a2 a3) := of_none rfl
theorem ioVerify (a0 : Tag) (a1 : Io) (a2 : MediaEnv) : Statement (.ioVerify a0 a1 a2) := of_none rfl
theorem reservationRegister (a0 : Tag) (a1 : W32) (a2 : RsvRegister) :
    Statement (.reservationRegister a0 a1 a2) := of_none rfl
theorem reservationReport (a0 : Tag) (a1 : W32) : Statement (.reservationReport a0 a1) := of_none rfl
theorem reservationAcquire (a0 : Tag) (a1 : W32) (a2 : RsvAcquire) :
    Statement (.reservationAcquire a0 a1 a2) := of_none rfl
theorem reservationRelease (a0 : Tag) (a1 : W32) (a2 : RsvRelease) :
    Statement (.reservationRelease a0 a1 a2) := of_none rfl
theorem salvageRead (a0 : Tag) (a1 : W32) (a2 : W64) (a3 : W16) (a4 : Bool) (a5 : Bool) (a6 : MediaEnv) :
    Statement (.salvageRead a0 a1 a2 a3 a4 a5 a6) := of_none rfl
theorem channelTraining (a0 : Nat) (a1 : List DieProbe) (a2 : List (List Eye)) (a3 : Nat) :
    Statement (.channelTraining a0 a1 a2 a3) := of_none rfl
theorem retrainTrigger (a0 : Nat) (a1 : RetrainWhy) : Statement (.retrainTrigger a0 a1) := of_none rfl
theorem retrainReq (a0 : Nat) (a1 : W32) : Statement (.retrainReq a0 a1) := of_none rfl
theorem retrainIdleWindow (a0 : Nat) (a1 : List (List Eye)) (a2 : W16) :
    Statement (.retrainIdleWindow a0 a1 a2) := of_none rfl
theorem retrainForceTimeout (a0 : Nat) (a1 : W16) : Statement (.retrainForceTimeout a0 a1) := of_none rfl
theorem dllLockLoss (a0 : Nat) (a1 : List (List Eye)) (a2 : W16) : Statement (.dllLockLoss a0 a1 a2) := of_none rfl
theorem dieOpIssue (a0 : Nat) : Statement (.dieOpIssue a0) := of_none rfl
theorem dieOpComplete (a0 : Nat) (a1 : DieResult) : Statement (.dieOpComplete a0 a1) := of_none rfl
theorem dieSuspend (a0 : Nat) (a1 : Bool) : Statement (.dieSuspend a0 a1) := of_none rfl
theorem dieResume (a0 : Nat) (a1 : Bool) : Statement (.dieResume a0 a1) := of_none rfl
theorem dieBusyTimeout (a0 : Nat) : Statement (.dieBusyTimeout a0) := of_none rfl
theorem dieResetComplete (a0 : Nat) (a1 : Bool) : Statement (.dieResetComplete a0 a1) := of_none rfl
theorem stripeRowPack (a0 : Nat) (a1 : List Nat) : Statement (.stripeRowPack a0 a1) := of_none rfl
theorem stripeRowCommit (a0 : Nat) (a1 : Nat) (a2 : Nat) : Statement (.stripeRowCommit a0 a1 a2) := of_none rfl
theorem stripeRowProgramFail (a0 : Nat) (a1 : Nat) (a2 : Nat) (a3 : Nat) :
    Statement (.stripeRowProgramFail a0 a1 a2 a3) := of_none rfl
theorem mergeReadDone (a0 : Nat) (a1 : MediaEnv) : Statement (.mergeReadDone a0 a1) := of_none rfl
theorem fold (a0 : Nat) : Statement (.fold a0) := of_none rfl
theorem foldIdleTimeout (a0 : Nat) : Statement (.foldIdleTimeout a0) := of_none rfl
theorem garbageCollection (a0 : Nat) : Statement (.garbageCollection a0) := of_none rfl
theorem staticWearMove (a0 : Nat) : Statement (.staticWearMove a0) := of_none rfl
theorem patrolScan (a0 : Nat) (a1 : Nat) (a2 : Nat) (a3 : Nat) : Statement (.patrolScan a0 a1 a2 a3) := of_none rfl
theorem refresh (a0 : MediaEnv) : Statement (.refresh a0) := of_none rfl
theorem rebuildBand (a0 : MediaEnv) : Statement (.rebuildBand a0) := of_none rfl
theorem resyncComplete (a0 : List ResyncRow) : Statement (.resyncComplete a0) := of_none rfl
theorem slotFrame (a0 : Nat) (a1 : Meas) : Statement (.slotFrame a0 a1) := of_none rfl
theorem armSyncEdge (a0 : Meas) : Statement (.armSyncEdge a0) := of_none rfl
theorem indexPulseMissing (a0 : Nat) (a1 : Meas) : Statement (.indexPulseMissing a0 a1) := of_none rfl
theorem tokenRefill : Statement .tokenRefill := of_none rfl
theorem injectDone (a0 : Nat) : Statement (.injectDone a0) := of_none rfl
theorem tuningWindowExpiry : Statement .tuningWindowExpiry := of_none rfl
theorem armReadConfig (a0 : Tag) (a1 : BitVec 3) (a2 : W16) : Statement (.armReadConfig a0 a1 a2) := of_none rfl
theorem armWriteConfig (a0 : Tag) (a1 : BitVec 3) (a2 : W16) (a3 : Bytes) :
    Statement (.armWriteConfig a0 a1 a2 a3) := of_none rfl
theorem armSetModeNormal (a0 : Tag) (a1 : BitVec 3) (a2 : BitVec 9) :
    Statement (.armSetModeNormal a0 a1 a2) := of_none rfl
theorem armSetModeTrace (a0 : Tag) (a1 : BitVec 3) (a2 : Bool) (a3 : BitVec 9) :
    Statement (.armSetModeTrace a0 a1 a2 a3) := of_none rfl
theorem armSetModeInject (a0 : Tag) (a1 : BitVec 3) (a2 : BitVec 9) (a3 : W32) (a4 : W32) (a5 : W32) :
    Statement (.armSetModeInject a0 a1 a2 a3 a4 a5) := of_none rfl
theorem armSetWindow (a0 : Tag) (a1 : W8) (a2 : W16) : Statement (.armSetWindow a0 a1 a2) := of_none rfl
theorem armSetPolicy (a0 : Tag) (a1 : BitVec 11) : Statement (.armSetPolicy a0 a1) := of_none rfl
theorem cfgStageCommit (a0 : Bool) : Statement (.cfgStageCommit a0) := of_none rfl
theorem policyRegisterWrite (a0 : PolicyReg) (a1 : W32) : Statement (.policyRegisterWrite a0 a1) := of_none rfl
theorem configRecordUpdate (a0 : Bool) : Statement (.configRecordUpdate a0) := of_none rfl
theorem chargerBankCheck (a0 : Nat) : Statement (.chargerBankCheck a0) := of_none rfl
theorem chargerCharged (a0 : Nat) : Statement (.chargerCharged a0) := of_none rfl
theorem chargerStallTimeout (a0 : Nat) : Statement (.chargerStallTimeout a0) := of_none rfl
theorem chargerMeasureStart : Statement .chargerMeasureStart := of_none rfl
theorem chargerMeasureDone (a0 : Nat) (a1 : Nat) (a2 : Nat) : Statement (.chargerMeasureDone a0 a1 a2) := of_none rfl
theorem chargerMeasureTimeout : Statement .chargerMeasureTimeout := of_none rfl
theorem vholdUndervolt (a0 : Nat) : Statement (.vholdUndervolt a0) := of_none rfl
theorem vholdOvervolt (a0 : Nat) : Statement (.vholdOvervolt a0) := of_none rfl
theorem restart (a0 : RestartEnv) : Statement (.restart a0) := of_none rfl
theorem checkpointStart (a0 : CkptWhy) : Statement (.checkpointStart a0) := of_none rfl
theorem checkpointCommit (a0 : Bool) : Statement (.checkpointCommit a0) := of_none rfl
theorem segmentWrite (a0 : SegWhy) : Statement (.segmentWrite a0) := of_none rfl
theorem segmentCommit (a0 : Bool) : Statement (.segmentCommit a0) := of_none rfl
theorem exportStart (a0 : Tag) (a1 : BitVec 7) (a2 : Bool) (a3 : W32) (a4 : TargetCerts) :
    Statement (.exportStart a0 a1 a2 a3 a4) := of_none rfl
theorem exportRound (a0 : Tag) (a1 : BitVec 3) : Statement (.exportRound a0 a1) := of_none rfl
theorem exportStop (a0 : Tag) (a1 : BitVec 3) : Statement (.exportStop a0 a1) := of_none rfl
theorem exportRead (a0 : Tag) (a1 : BitVec 3) (a2 : W32) (a3 : W32) (a4 : MediaEnv) :
    Statement (.exportRead a0 a1 a2 a3 a4) := of_none rfl
theorem closeResume (a0 : Tag) (a1 : BitVec 3) (a2 : Bool) : Statement (.closeResume a0 a1 a2) := of_none rfl
theorem closeRetire (a0 : Tag) (a1 : BitVec 3) : Statement (.closeRetire a0 a1) := of_none rfl
theorem importBegin (a0 : Tag) (a1 : BitVec 7) (a2 : W32) (a3 : SessionHeader) :
    Statement (.importBegin a0 a1 a2 a3) := of_none rfl
theorem importWrite (a0 : Tag) (a1 : BitVec 3) (a2 : W32) (a3 : Shard) :
    Statement (.importWrite a0 a1 a2 a3) := of_none rfl
theorem importFinish (a0 : Tag) (a1 : BitVec 3) (a2 : W32) (a3 : Manifest) :
    Statement (.importFinish a0 a1 a2 a3) := of_none rfl
theorem importActivate (a0 : Tag) (a1 : BitVec 3) : Statement (.importActivate a0 a1) := of_none rfl
theorem importAbort (a0 : Tag) (a1 : BitVec 3) : Statement (.importAbort a0 a1) := of_none rfl
theorem mctpPacket (a0 : MctpPkt) : Statement (.mctpPacket a0) := of_none rfl
theorem mctpSetEndpointId (a0 : BitVec 2) (a1 : W8) : Statement (.mctpSetEndpointId a0 a1) := of_none rfl
theorem mctpGetEndpointId : Statement .mctpGetEndpointId := of_none rfl
theorem mctpGetEndpointUuid : Statement .mctpGetEndpointUuid := of_none rfl
theorem mctpGetVersionSupport (a0 : W8) : Statement (.mctpGetVersionSupport a0) := of_none rfl
theorem mctpGetMessageTypeSupport : Statement .mctpGetMessageTypeSupport := of_none rfl
theorem i3cEntdaa (a0 : BitVec 7) : Statement (.i3cEntdaa a0) := of_none rfl
theorem i3cSetdasa (a0 : BitVec 7) : Statement (.i3cSetdasa a0) := of_none rfl
theorem i3cRstdaa : Statement .i3cRstdaa := of_none rfl
theorem i3cEnec (a0 : W8) : Statement (.i3cEnec a0) := of_none rfl
theorem i3cDisec (a0 : W8) : Statement (.i3cDisec a0) := of_none rfl
theorem i3cGetpid : Statement .i3cGetpid := of_none rfl
theorem i3cGetbcr : Statement .i3cGetbcr := of_none rfl
theorem i3cGetdcr : Statement .i3cGetdcr := of_none rfl
theorem i3cGetmrl : Statement .i3cGetmrl := of_none rfl
theorem i3cGetmwl : Statement .i3cGetmwl := of_none rfl
theorem i3cSetmrl (a0 : W16) : Statement (.i3cSetmrl a0) := of_none rfl
theorem i3cSetmwl (a0 : W16) : Statement (.i3cSetmwl a0) := of_none rfl
theorem i3cGetstatus : Statement .i3cGetstatus := of_none rfl
theorem miReadDataStructure (a0 : Nat) (a1 : W8) (a2 : W8) (a3 : W16) :
    Statement (.miReadDataStructure a0 a1 a2 a3) := of_none rfl
theorem miSubsystemHealthPoll (a0 : Nat) (a1 : Bool) : Statement (.miSubsystemHealthPoll a0 a1) := of_none rfl
theorem miControllerHealthPoll (a0 : Nat) (a1 : W16) (a2 : Nat) :
    Statement (.miControllerHealthPoll a0 a1 a2) := of_none rfl
theorem miConfigurationSet (a0 : Nat) (a1 : W8) (a2 : W32) : Statement (.miConfigurationSet a0 a1 a2) := of_none rfl
theorem miConfigurationGet (a0 : Nat) (a1 : W8) : Statement (.miConfigurationGet a0 a1) := of_none rfl
theorem vpdRead (a0 : Nat) (a1 : W16) (a2 : W16) : Statement (.vpdRead a0 a1 a2) := of_none rfl
theorem vpdWrite (a0 : Nat) (a1 : W16) (a2 : W16) (a3 : Bytes) (a4 : Bool) :
    Statement (.vpdWrite a0 a1 a2 a3 a4) := of_none rfl
theorem miReset (a0 : Nat) : Statement (.miReset a0) := of_none rfl
theorem snapshotCopy : Statement .snapshotCopy := of_none rfl
theorem kscEnableChange (a0 : Bool) : Statement (.kscEnableChange a0) := of_none rfl
theorem snapNow : Statement .snapNow := of_none rfl
theorem kscPeriodicSnapshot : Statement .kscPeriodicSnapshot := of_none rfl
theorem kscSync : Statement .kscSync := of_none rfl
theorem evsSummarySignal (a0 : Pf) : Statement (.evsSummarySignal a0) := of_none rfl
theorem evsPendingWrite (a0 : Pf) (a1 : BitVec 7) (a2 : W32) : Statement (.evsPendingWrite a0 a1 a2) := of_none rfl
theorem evsEnableWrite (a0 : Pf) (a1 : BitVec 7) (a2 : W32) : Statement (.evsEnableWrite a0 a1 a2) := of_none rfl
theorem evsRearm (a0 : Pf) (a1 : W32) : Statement (.evsRearm a0 a1) := of_none rfl
theorem upperWordLatchRead (a0 : Pf) (a1 : Nat) (a2 : Nat) : Statement (.upperWordLatchRead a0 a1 a2) := of_none rfl
theorem registerWrite (a0 : Pf) (a1 : Nat) (a2 : Nat) (a3 : W32) (a4 : List RegRead) :
    Statement (.registerWrite a0 a1 a2 a3 a4) := of_none rfl
theorem armrefReturn : Statement .armrefReturn := of_none rfl
theorem xt32Return : Statement .xt32Return := of_none rfl
theorem vauxLoss : Statement .vauxLoss := of_none rfl
theorem controllerEnable (a0 : Func) (a1 : W32) (a2 : W32) : Statement (.controllerEnable a0 a1 a2) := of_none rfl
theorem msixVectorUnmask (a0 : Func) (a1 : Option Nat) :
    Statement (.msixVectorUnmask a0 a1) := of_some rfl fun h => by simp_all [Instr.wf]
theorem interruptMaskWrite (a0 : Func) (a1 : Bool) (a2 : W32) :
    Statement (.interruptMaskWrite a0 a1 a2) := of_some rfl fun h => by simp_all [Instr.wf]
theorem interruptCoalescingTimeout (a0 : Func) :
    Statement (.interruptCoalescingTimeout a0) := of_some rfl fun h => by simp_all [Instr.wf]
theorem deviceSelfTestComplete (a0 : BitVec 4) : Statement (.deviceSelfTestComplete a0) := of_none rfl
theorem formatNvmComplete (a0 : W32) (a1 : Bool) : Statement (.formatNvmComplete a0 a1) := of_none rfl
theorem updateGateRefresh : Statement .updateGateRefresh := of_none rfl
theorem aspmL1Entry (a0 : Pf) : Statement (.aspmL1Entry a0) := of_none rfl
theorem l1Exit (a0 : Pf) : Statement (.l1Exit a0) := of_none rfl
theorem l0pWidthChange (a0 : Pf) (a1 : Nat) : Statement (.l0pWidthChange a0 a1) := of_none rfl

end Sys2Proof.Laws.Naming
end

