-- ==== Sys2Proof/Laws/State.lean ====
section
/-! SUPPORT. The named updates of the state: for each, what every field of the state is afterwards. A proof rewrites with
these instead of unfolding a record update. -/
namespace Sys2Proof.Machine

/-! ## `emit` -/

@[simp] theorem emit_pwr (o : Output) (s : State) : (emit o s).pwr = s.pwr := rfl
@[simp] theorem emit_fuses (o : Output) (s : State) : (emit o s).fuses = s.fuses := rfl
@[simp] theorem emit_boot (o : Output) (s : State) : (emit o s).boot = s.boot := rfl
@[simp] theorem emit_vault (o : Output) (s : State) : (emit o s).vault = s.vault := rfl
@[simp] theorem emit_rcv (o : Output) (s : State) : (emit o s).rcv = s.rcv := rfl
@[simp] theorem emit_nor (o : Output) (s : State) : (emit o s).nor = s.nor := rfl
@[simp] theorem emit_cfg (o : Output) (s : State) : (emit o s).cfg = s.cfg := rfl
@[simp] theorem emit_trust (o : Output) (s : State) : (emit o s).trust = s.trust := rfl
@[simp] theorem emit_evr (o : Output) (s : State) : (emit o s).evr = s.evr := rfl
@[simp] theorem emit_upd (o : Output) (s : State) : (emit o s).upd = s.upd := rfl
@[simp] theorem emit_port0 (o : Output) (s : State) : (emit o s).port0 = s.port0 := rfl
@[simp] theorem emit_port1 (o : Output) (s : State) : (emit o s).port1 = s.port1 := rfl
@[simp] theorem emit_ctoMs (o : Output) (s : State) : (emit o s).ctoMs = s.ctoMs := rfl
@[simp] theorem emit_ctoBad (o : Output) (s : State) : (emit o s).ctoBad = s.ctoBad := rfl
@[simp] theorem emit_ctoOverride (o : Output) (s : State) : (emit o s).ctoOverride = s.ctoOverride := rfl
@[simp] theorem emit_bmlRid (o : Output) (s : State) : (emit o s).bmlRid = s.bmlRid := rfl
@[simp] theorem emit_bmlPort (o : Output) (s : State) : (emit o s).bmlPort = s.bmlPort := rfl
@[simp] theorem emit_bmlCount (o : Output) (s : State) : (emit o s).bmlCount = s.bmlCount := rfl
@[simp] theorem emit_timeouts (o : Output) (s : State) : (emit o s).timeouts = s.timeouts := rfl
@[simp] theorem emit_unexpected (o : Output) (s : State) : (emit o s).unexpected = s.unexpected := rfl
@[simp] theorem emit_fns (o : Output) (s : State) : (emit o s).fns = s.fns := rfl
@[simp] theorem emit_nvm (o : Output) (s : State) : (emit o s).nvm = s.nvm := rfl
@[simp] theorem emit_tab (o : Output) (s : State) : (emit o s).tab = s.tab := rfl
@[simp] theorem emit_media (o : Output) (s : State) : (emit o s).media = s.media := rfl
@[simp] theorem emit_ftl (o : Output) (s : State) : (emit o s).ftl = s.ftl := rfl
@[simp] theorem emit_flash (o : Output) (s : State) : (emit o s).flash = s.flash := rfl
@[simp] theorem emit_arm (o : Output) (s : State) : (emit o s).arm = s.arm := rfl
@[simp] theorem emit_hold (o : Output) (s : State) : (emit o s).hold = s.hold := rfl
@[simp] theorem emit_mqt (o : Output) (s : State) : (emit o s).mqt = s.mqt := rfl
@[simp] theorem emit_mgt (o : Output) (s : State) : (emit o s).mgt = s.mgt := rfl
@[simp] theorem emit_ksc (o : Output) (s : State) : (emit o s).ksc = s.ksc := rfl
@[simp] theorem emit_evs0 (o : Output) (s : State) : (emit o s).evs0 = s.evs0 := rfl
@[simp] theorem emit_evs1 (o : Output) (s : State) : (emit o s).evs1 = s.evs1 := rfl
@[simp] theorem emit_latch (o : Output) (s : State) : (emit o s).latch = s.latch := rfl
@[simp] theorem emit_free (o : Output) (s : State) : (emit o s).free = s.free := rfl
@[simp] theorem emit_out (o : Output) (s : State) : (emit o s).out = s.out ++ [o] := rfl
@[simp] theorem emit_pending (o : Output) (s : State) : (emit o s).pending = s.pending := rfl

/-! ## `drawn` -/

@[simp] theorem drawn_pwr (n : Nat) (s : State) : (drawn n s).pwr = s.pwr := rfl
@[simp] theorem drawn_fuses (n : Nat) (s : State) : (drawn n s).fuses = s.fuses := rfl
@[simp] theorem drawn_boot (n : Nat) (s : State) : (drawn n s).boot = s.boot := rfl
@[simp] theorem drawn_vault (n : Nat) (s : State) : (drawn n s).vault = s.vault := rfl
@[simp] theorem drawn_rcv (n : Nat) (s : State) : (drawn n s).rcv = s.rcv := rfl
@[simp] theorem drawn_nor (n : Nat) (s : State) : (drawn n s).nor = s.nor := rfl
@[simp] theorem drawn_cfg (n : Nat) (s : State) : (drawn n s).cfg = s.cfg := rfl
@[simp] theorem drawn_trust (n : Nat) (s : State) : (drawn n s).trust = s.trust := rfl
@[simp] theorem drawn_evr (n : Nat) (s : State) : (drawn n s).evr = s.evr := rfl
@[simp] theorem drawn_upd (n : Nat) (s : State) : (drawn n s).upd = s.upd := rfl
@[simp] theorem drawn_port0 (n : Nat) (s : State) : (drawn n s).port0 = s.port0 := rfl
@[simp] theorem drawn_port1 (n : Nat) (s : State) : (drawn n s).port1 = s.port1 := rfl
@[simp] theorem drawn_ctoMs (n : Nat) (s : State) : (drawn n s).ctoMs = s.ctoMs := rfl
@[simp] theorem drawn_ctoBad (n : Nat) (s : State) : (drawn n s).ctoBad = s.ctoBad := rfl
@[simp] theorem drawn_ctoOverride (n : Nat) (s : State) : (drawn n s).ctoOverride = s.ctoOverride := rfl
@[simp] theorem drawn_bmlRid (n : Nat) (s : State) : (drawn n s).bmlRid = s.bmlRid := rfl
@[simp] theorem drawn_bmlPort (n : Nat) (s : State) : (drawn n s).bmlPort = s.bmlPort := rfl
@[simp] theorem drawn_bmlCount (n : Nat) (s : State) : (drawn n s).bmlCount = s.bmlCount := rfl
@[simp] theorem drawn_timeouts (n : Nat) (s : State) : (drawn n s).timeouts = s.timeouts := rfl
@[simp] theorem drawn_unexpected (n : Nat) (s : State) : (drawn n s).unexpected = s.unexpected := rfl
@[simp] theorem drawn_fns (n : Nat) (s : State) : (drawn n s).fns = s.fns := rfl
@[simp] theorem drawn_nvm (n : Nat) (s : State) : (drawn n s).nvm = s.nvm := rfl
@[simp] theorem drawn_tab (n : Nat) (s : State) : (drawn n s).tab = s.tab := rfl
@[simp] theorem drawn_media (n : Nat) (s : State) : (drawn n s).media = s.media := rfl
@[simp] theorem drawn_ftl (n : Nat) (s : State) : (drawn n s).ftl = s.ftl := rfl
@[simp] theorem drawn_flash (n : Nat) (s : State) : (drawn n s).flash = s.flash := rfl
@[simp] theorem drawn_arm (n : Nat) (s : State) : (drawn n s).arm = s.arm := rfl
@[simp] theorem drawn_hold (n : Nat) (s : State) : (drawn n s).hold = s.hold := rfl
@[simp] theorem drawn_mqt (n : Nat) (s : State) : (drawn n s).mqt = s.mqt := rfl
@[simp] theorem drawn_mgt (n : Nat) (s : State) : (drawn n s).mgt = s.mgt := rfl
@[simp] theorem drawn_ksc (n : Nat) (s : State) : (drawn n s).ksc = s.ksc := rfl
@[simp] theorem drawn_evs0 (n : Nat) (s : State) : (drawn n s).evs0 = s.evs0 := rfl
@[simp] theorem drawn_evs1 (n : Nat) (s : State) : (drawn n s).evs1 = s.evs1 := rfl
@[simp] theorem drawn_latch (n : Nat) (s : State) : (drawn n s).latch = s.latch := rfl
@[simp] theorem drawn_free (n : Nat) (s : State) : (drawn n s).free = s.free + n := rfl
@[simp] theorem drawn_out (n : Nat) (s : State) : (drawn n s).out = s.out := rfl
@[simp] theorem drawn_pending (n : Nat) (s : State) : (drawn n s).pending = s.pending := rfl

/-! ## `evsSet` -/

@[simp] theorem evsSet_pwr (n : Nat) (s : State) : (evsSet n s).pwr = s.pwr := rfl
@[simp] theorem evsSet_fuses (n : Nat) (s : State) : (evsSet n s).fuses = s.fuses := rfl
@[simp] theorem evsSet_boot (n : Nat) (s : State) : (evsSet n s).boot = s.boot := rfl
@[simp] theorem evsSet_vault (n : Nat) (s : State) : (evsSet n s).vault = s.vault := rfl
@[simp] theorem evsSet_rcv (n : Nat) (s : State) : (evsSet n s).rcv = s.rcv := rfl
@[simp] theorem evsSet_nor (n : Nat) (s : State) : (evsSet n s).nor = s.nor := rfl
@[simp] theorem evsSet_cfg (n : Nat) (s : State) : (evsSet n s).cfg = s.cfg := rfl
@[simp] theorem evsSet_trust (n : Nat) (s : State) : (evsSet n s).trust = s.trust := rfl
@[simp] theorem evsSet_evr (n : Nat) (s : State) : (evsSet n s).evr = s.evr := rfl
@[simp] theorem evsSet_upd (n : Nat) (s : State) : (evsSet n s).upd = s.upd := rfl
@[simp] theorem evsSet_port0 (n : Nat) (s : State) : (evsSet n s).port0 = s.port0 := rfl
@[simp] theorem evsSet_port1 (n : Nat) (s : State) : (evsSet n s).port1 = s.port1 := rfl
@[simp] theorem evsSet_ctoMs (n : Nat) (s : State) : (evsSet n s).ctoMs = s.ctoMs := rfl
@[simp] theorem evsSet_ctoBad (n : Nat) (s : State) : (evsSet n s).ctoBad = s.ctoBad := rfl
@[simp] theorem evsSet_ctoOverride (n : Nat) (s : State) : (evsSet n s).ctoOverride = s.ctoOverride := rfl
@[simp] theorem evsSet_bmlRid (n : Nat) (s : State) : (evsSet n s).bmlRid = s.bmlRid := rfl
@[simp] theorem evsSet_bmlPort (n : Nat) (s : State) : (evsSet n s).bmlPort = s.bmlPort := rfl
@[simp] theorem evsSet_bmlCount (n : Nat) (s : State) : (evsSet n s).bmlCount = s.bmlCount := rfl
@[simp] theorem evsSet_timeouts (n : Nat) (s : State) : (evsSet n s).timeouts = s.timeouts := rfl
@[simp] theorem evsSet_unexpected (n : Nat) (s : State) : (evsSet n s).unexpected = s.unexpected := rfl
@[simp] theorem evsSet_fns (n : Nat) (s : State) : (evsSet n s).fns = s.fns := rfl
@[simp] theorem evsSet_nvm (n : Nat) (s : State) : (evsSet n s).nvm = s.nvm := rfl
@[simp] theorem evsSet_tab (n : Nat) (s : State) : (evsSet n s).tab = s.tab := rfl
@[simp] theorem evsSet_media (n : Nat) (s : State) : (evsSet n s).media = s.media := rfl
@[simp] theorem evsSet_ftl (n : Nat) (s : State) : (evsSet n s).ftl = s.ftl := rfl
@[simp] theorem evsSet_flash (n : Nat) (s : State) : (evsSet n s).flash = s.flash := rfl
@[simp] theorem evsSet_arm (n : Nat) (s : State) : (evsSet n s).arm = s.arm := rfl
@[simp] theorem evsSet_hold (n : Nat) (s : State) : (evsSet n s).hold = s.hold := rfl
@[simp] theorem evsSet_mqt (n : Nat) (s : State) : (evsSet n s).mqt = s.mqt := rfl
@[simp] theorem evsSet_mgt (n : Nat) (s : State) : (evsSet n s).mgt = s.mgt := rfl
@[simp] theorem evsSet_ksc (n : Nat) (s : State) : (evsSet n s).ksc = s.ksc := rfl
@[simp] theorem evsSet_evs0 (n : Nat) (s : State) :
    (evsSet n s).evs0 = { s.evs0 with pend := s.evs0.pend ||| ((1 : BitVec 4096) <<< n) } := rfl
@[simp] theorem evsSet_evs1 (n : Nat) (s : State) :
    (evsSet n s).evs1 = { s.evs1 with pend := s.evs1.pend ||| ((1 : BitVec 4096) <<< n) } := rfl
@[simp] theorem evsSet_latch (n : Nat) (s : State) : (evsSet n s).latch = s.latch := rfl
@[simp] theorem evsSet_free (n : Nat) (s : State) : (evsSet n s).free = s.free := rfl
@[simp] theorem evsSet_out (n : Nat) (s : State) : (evsSet n s).out = s.out := rfl
@[simp] theorem evsSet_pending (n : Nat) (s : State) : (evsSet n s).pending = s.pending := rfl

/-! ## `setEvs` -/

@[simp] theorem setEvs_pwr (pf : Pf) (e : Evs) (s : State) : (setEvs pf e s).pwr = s.pwr := by cases pf <;> rfl
@[simp] theorem setEvs_fuses (pf : Pf) (e : Evs) (s : State) : (setEvs pf e s).fuses = s.fuses := by cases pf <;> rfl
@[simp] theorem setEvs_boot (pf : Pf) (e : Evs) (s : State) : (setEvs pf e s).boot = s.boot := by cases pf <;> rfl
@[simp] theorem setEvs_vault (pf : Pf) (e : Evs) (s : State) : (setEvs pf e s).vault = s.vault := by cases pf <;> rfl
@[simp] theorem setEvs_rcv (pf : Pf) (e : Evs) (s : State) : (setEvs pf e s).rcv = s.rcv := by cases pf <;> rfl
@[simp] theorem setEvs_nor (pf : Pf) (e : Evs) (s : State) : (setEvs pf e s).nor = s.nor := by cases pf <;> rfl
@[simp] theorem setEvs_cfg (pf : Pf) (e : Evs) (s : State) : (setEvs pf e s).cfg = s.cfg := by cases pf <;> rfl
@[simp] theorem setEvs_trust (pf : Pf) (e : Evs) (s : State) : (setEvs pf e s).trust = s.trust := by cases pf <;> rfl
@[simp] theorem setEvs_evr (pf : Pf) (e : Evs) (s : State) : (setEvs pf e s).evr = s.evr := by cases pf <;> rfl
@[simp] theorem setEvs_upd (pf : Pf) (e : Evs) (s : State) : (setEvs pf e s).upd = s.upd := by cases pf <;> rfl
@[simp] theorem setEvs_port0 (pf : Pf) (e : Evs) (s : State) : (setEvs pf e s).port0 = s.port0 := by cases pf <;> rfl
@[simp] theorem setEvs_port1 (pf : Pf) (e : Evs) (s : State) : (setEvs pf e s).port1 = s.port1 := by cases pf <;> rfl
@[simp] theorem setEvs_ctoMs (pf : Pf) (e : Evs) (s : State) : (setEvs pf e s).ctoMs = s.ctoMs := by cases pf <;> rfl
@[simp] theorem setEvs_ctoBad (pf : Pf) (e : Evs) (s : State) :
    (setEvs pf e s).ctoBad = s.ctoBad := by cases pf <;> rfl
@[simp] theorem setEvs_ctoOverride (pf : Pf) (e : Evs) (s : State) :
    (setEvs pf e s).ctoOverride = s.ctoOverride := by cases pf <;> rfl
@[simp] theorem setEvs_bmlRid (pf : Pf) (e : Evs) (s : State) :
    (setEvs pf e s).bmlRid = s.bmlRid := by cases pf <;> rfl
@[simp] theorem setEvs_bmlPort (pf : Pf) (e : Evs) (s : State) :
    (setEvs pf e s).bmlPort = s.bmlPort := by cases pf <;> rfl
@[simp] theorem setEvs_bmlCount (pf : Pf) (e : Evs) (s : State) :
    (setEvs pf e s).bmlCount = s.bmlCount := by cases pf <;> rfl
@[simp] theorem setEvs_timeouts (pf : Pf) (e : Evs) (s : State) :
    (setEvs pf e s).timeouts = s.timeouts := by cases pf <;> rfl
@[simp] theorem setEvs_unexpected (pf : Pf) (e : Evs) (s : State) :
    (setEvs pf e s).unexpected = s.unexpected := by cases pf <;> rfl
@[simp] theorem setEvs_fns (pf : Pf) (e : Evs) (s : State) : (setEvs pf e s).fns = s.fns := by cases pf <;> rfl
@[simp] theorem setEvs_nvm (pf : Pf) (e : Evs) (s : State) : (setEvs pf e s).nvm = s.nvm := by cases pf <;> rfl
@[simp] theorem setEvs_tab (pf : Pf) (e : Evs) (s : State) : (setEvs pf e s).tab = s.tab := by cases pf <;> rfl
@[simp] theorem setEvs_media (pf : Pf) (e : Evs) (s : State) : (setEvs pf e s).media = s.media := by cases pf <;> rfl
@[simp] theorem setEvs_ftl (pf : Pf) (e : Evs) (s : State) : (setEvs pf e s).ftl = s.ftl := by cases pf <;> rfl
@[simp] theorem setEvs_flash (pf : Pf) (e : Evs) (s : State) : (setEvs pf e s).flash = s.flash := by cases pf <;> rfl
@[simp] theorem setEvs_arm (pf : Pf) (e : Evs) (s : State) : (setEvs pf e s).arm = s.arm := by cases pf <;> rfl
@[simp] theorem setEvs_hold (pf : Pf) (e : Evs) (s : State) : (setEvs pf e s).hold = s.hold := by cases pf <;> rfl
@[simp] theorem setEvs_mqt (pf : Pf) (e : Evs) (s : State) : (setEvs pf e s).mqt = s.mqt := by cases pf <;> rfl
@[simp] theorem setEvs_mgt (pf : Pf) (e : Evs) (s : State) : (setEvs pf e s).mgt = s.mgt := by cases pf <;> rfl
@[simp] theorem setEvs_ksc (pf : Pf) (e : Evs) (s : State) : (setEvs pf e s).ksc = s.ksc := by cases pf <;> rfl
@[simp] theorem setEvs_latch (pf : Pf) (e : Evs) (s : State) : (setEvs pf e s).latch = s.latch := by cases pf <;> rfl
@[simp] theorem setEvs_free (pf : Pf) (e : Evs) (s : State) : (setEvs pf e s).free = s.free := by cases pf <;> rfl
@[simp] theorem setEvs_out (pf : Pf) (e : Evs) (s : State) : (setEvs pf e s).out = s.out := by cases pf <;> rfl
@[simp] theorem setEvs_pending (pf : Pf) (e : Evs) (s : State) :
    (setEvs pf e s).pending = s.pending := by cases pf <;> rfl

/-! ## `setLedger` -/

@[simp] theorem setLedger_pwr (part : EvrPart) (l : EvrLedger) (s : State) :
    (setLedger part l s).pwr = s.pwr := by cases part <;> rfl
@[simp] theorem setLedger_fuses (part : EvrPart) (l : EvrLedger) (s : State) :
    (setLedger part l s).fuses = s.fuses := by cases part <;> rfl
@[simp] theorem setLedger_boot (part : EvrPart) (l : EvrLedger) (s : State) :
    (setLedger part l s).boot = s.boot := by cases part <;> rfl
@[simp] theorem setLedger_vault (part : EvrPart) (l : EvrLedger) (s : State) :
    (setLedger part l s).vault = s.vault := by cases part <;> rfl
@[simp] theorem setLedger_rcv (part : EvrPart) (l : EvrLedger) (s : State) :
    (setLedger part l s).rcv = s.rcv := by cases part <;> rfl
@[simp] theorem setLedger_nor (part : EvrPart) (l : EvrLedger) (s : State) :
    (setLedger part l s).nor = s.nor := by cases part <;> rfl
@[simp] theorem setLedger_cfg (part : EvrPart) (l : EvrLedger) (s : State) :
    (setLedger part l s).cfg = s.cfg := by cases part <;> rfl
@[simp] theorem setLedger_trust (part : EvrPart) (l : EvrLedger) (s : State) :
    (setLedger part l s).trust = s.trust := by cases part <;> rfl
@[simp] theorem setLedger_upd (part : EvrPart) (l : EvrLedger) (s : State) :
    (setLedger part l s).upd = s.upd := by cases part <;> rfl
@[simp] theorem setLedger_port0 (part : EvrPart) (l : EvrLedger) (s : State) :
    (setLedger part l s).port0 = s.port0 := by cases part <;> rfl
@[simp] theorem setLedger_port1 (part : EvrPart) (l : EvrLedger) (s : State) :
    (setLedger part l s).port1 = s.port1 := by cases part <;> rfl
@[simp] theorem setLedger_ctoMs (part : EvrPart) (l : EvrLedger) (s : State) :
    (setLedger part l s).ctoMs = s.ctoMs := by cases part <;> rfl
@[simp] theorem setLedger_ctoBad (part : EvrPart) (l : EvrLedger) (s : State) :
    (setLedger part l s).ctoBad = s.ctoBad := by cases part <;> rfl
@[simp] theorem setLedger_ctoOverride (part : EvrPart) (l : EvrLedger) (s : State) :
    (setLedger part l s).ctoOverride = s.ctoOverride := by cases part <;> rfl
@[simp] theorem setLedger_bmlRid (part : EvrPart) (l : EvrLedger) (s : State) :
    (setLedger part l s).bmlRid = s.bmlRid := by cases part <;> rfl
@[simp] theorem setLedger_bmlPort (part : EvrPart) (l : EvrLedger) (s : State) :
    (setLedger part l s).bmlPort = s.bmlPort := by cases part <;> rfl
@[simp] theorem setLedger_bmlCount (part : EvrPart) (l : EvrLedger) (s : State) :
    (setLedger part l s).bmlCount = s.bmlCount := by cases part <;> rfl
@[simp] theorem setLedger_timeouts (part : EvrPart) (l : EvrLedger) (s : State) :
    (setLedger part l s).timeouts = s.timeouts := by cases part <;> rfl
@[simp] theorem setLedger_unexpected (part : EvrPart) (l : EvrLedger) (s : State) :
    (setLedger part l s).unexpected = s.unexpected := by cases part <;> rfl
@[simp] theorem setLedger_fns (part : EvrPart) (l : EvrLedger) (s : State) :
    (setLedger part l s).fns = s.fns := by cases part <;> rfl
@[simp] theorem setLedger_nvm (part : EvrPart) (l : EvrLedger) (s : State) :
    (setLedger part l s).nvm = s.nvm := by cases part <;> rfl
@[simp] theorem setLedger_tab (part : EvrPart) (l : EvrLedger) (s : State) :
    (setLedger part l s).tab = s.tab := by cases part <;> rfl
@[simp] theorem setLedger_media (part : EvrPart) (l : EvrLedger) (s : State) :
    (setLedger part l s).media = s.media := by cases part <;> rfl
@[simp] theorem setLedger_ftl (part : EvrPart) (l : EvrLedger) (s : State) :
    (setLedger part l s).ftl = s.ftl := by cases part <;> rfl
@[simp] theorem setLedger_flash (part : EvrPart) (l : EvrLedger) (s : State) :
    (setLedger part l s).flash = s.flash := by cases part <;> rfl
@[simp] theorem setLedger_arm (part : EvrPart) (l : EvrLedger) (s : State) :
    (setLedger part l s).arm = s.arm := by cases part <;> rfl
@[simp] theorem setLedger_hold (part : EvrPart) (l : EvrLedger) (s : State) :
    (setLedger part l s).hold = s.hold := by cases part <;> rfl
@[simp] theorem setLedger_mqt (part : EvrPart) (l : EvrLedger) (s : State) :
    (setLedger part l s).mqt = s.mqt := by cases part <;> rfl
@[simp] theorem setLedger_mgt (part : EvrPart) (l : EvrLedger) (s : State) :
    (setLedger part l s).mgt = s.mgt := by cases part <;> rfl
@[simp] theorem setLedger_ksc (part : EvrPart) (l : EvrLedger) (s : State) :
    (setLedger part l s).ksc = s.ksc := by cases part <;> rfl
@[simp] theorem setLedger_evs0 (part : EvrPart) (l : EvrLedger) (s : State) :
    (setLedger part l s).evs0 = s.evs0 := by cases part <;> rfl
@[simp] theorem setLedger_evs1 (part : EvrPart) (l : EvrLedger) (s : State) :
    (setLedger part l s).evs1 = s.evs1 := by cases part <;> rfl
@[simp] theorem setLedger_latch (part : EvrPart) (l : EvrLedger) (s : State) :
    (setLedger part l s).latch = s.latch := by cases part <;> rfl
@[simp] theorem setLedger_free (part : EvrPart) (l : EvrLedger) (s : State) :
    (setLedger part l s).free = s.free := by cases part <;> rfl
@[simp] theorem setLedger_out (part : EvrPart) (l : EvrLedger) (s : State) :
    (setLedger part l s).out = s.out := by cases part <;> rfl
@[simp] theorem setLedger_pending (part : EvrPart) (l : EvrLedger) (s : State) :
    (setLedger part l s).pending = s.pending := by cases part <;> rfl

/-! ## `ustChange` -/

@[simp] theorem ustChange_pwr (unit : Nat) (s : State) : (ustChange unit s).pwr = s.pwr := rfl
@[simp] theorem ustChange_fuses (unit : Nat) (s : State) : (ustChange unit s).fuses = s.fuses := rfl
@[simp] theorem ustChange_boot (unit : Nat) (s : State) : (ustChange unit s).boot = s.boot := rfl
@[simp] theorem ustChange_vault (unit : Nat) (s : State) : (ustChange unit s).vault = s.vault := rfl
@[simp] theorem ustChange_rcv (unit : Nat) (s : State) : (ustChange unit s).rcv = s.rcv := rfl
@[simp] theorem ustChange_nor (unit : Nat) (s : State) : (ustChange unit s).nor = s.nor := rfl
@[simp] theorem ustChange_cfg (unit : Nat) (s : State) : (ustChange unit s).cfg = s.cfg := rfl
@[simp] theorem ustChange_trust (unit : Nat) (s : State) : (ustChange unit s).trust = s.trust := rfl
@[simp] theorem ustChange_evr (unit : Nat) (s : State) : (ustChange unit s).evr = s.evr := rfl
@[simp] theorem ustChange_upd (unit : Nat) (s : State) : (ustChange unit s).upd = s.upd := rfl
@[simp] theorem ustChange_port0 (unit : Nat) (s : State) : (ustChange unit s).port0 = s.port0 := rfl
@[simp] theorem ustChange_port1 (unit : Nat) (s : State) : (ustChange unit s).port1 = s.port1 := rfl
@[simp] theorem ustChange_ctoMs (unit : Nat) (s : State) : (ustChange unit s).ctoMs = s.ctoMs := rfl
@[simp] theorem ustChange_ctoBad (unit : Nat) (s : State) : (ustChange unit s).ctoBad = s.ctoBad := rfl
@[simp] theorem ustChange_ctoOverride (unit : Nat) (s : State) : (ustChange unit s).ctoOverride = s.ctoOverride := rfl
@[simp] theorem ustChange_bmlRid (unit : Nat) (s : State) : (ustChange unit s).bmlRid = s.bmlRid := rfl
@[simp] theorem ustChange_bmlPort (unit : Nat) (s : State) : (ustChange unit s).bmlPort = s.bmlPort := rfl
@[simp] theorem ustChange_bmlCount (unit : Nat) (s : State) : (ustChange unit s).bmlCount = s.bmlCount := rfl
@[simp] theorem ustChange_timeouts (unit : Nat) (s : State) : (ustChange unit s).timeouts = s.timeouts := rfl
@[simp] theorem ustChange_unexpected (unit : Nat) (s : State) : (ustChange unit s).unexpected = s.unexpected := rfl
@[simp] theorem ustChange_fns (unit : Nat) (s : State) : (ustChange unit s).fns = s.fns := rfl
@[simp] theorem ustChange_tab (unit : Nat) (s : State) : (ustChange unit s).tab = s.tab := rfl
@[simp] theorem ustChange_media (unit : Nat) (s : State) : (ustChange unit s).media = s.media := rfl
@[simp] theorem ustChange_ftl (unit : Nat) (s : State) : (ustChange unit s).ftl = s.ftl := rfl
@[simp] theorem ustChange_flash (unit : Nat) (s : State) : (ustChange unit s).flash = s.flash := rfl
@[simp] theorem ustChange_arm (unit : Nat) (s : State) : (ustChange unit s).arm = s.arm := rfl
@[simp] theorem ustChange_hold (unit : Nat) (s : State) : (ustChange unit s).hold = s.hold := rfl
@[simp] theorem ustChange_mqt (unit : Nat) (s : State) : (ustChange unit s).mqt = s.mqt := rfl
@[simp] theorem ustChange_mgt (unit : Nat) (s : State) : (ustChange unit s).mgt = s.mgt := rfl
@[simp] theorem ustChange_ksc (unit : Nat) (s : State) : (ustChange unit s).ksc = s.ksc := rfl
@[simp] theorem ustChange_evs0 (unit : Nat) (s : State) : (ustChange unit s).evs0 = s.evs0 := rfl
@[simp] theorem ustChange_evs1 (unit : Nat) (s : State) : (ustChange unit s).evs1 = s.evs1 := rfl
@[simp] theorem ustChange_latch (unit : Nat) (s : State) : (ustChange unit s).latch = s.latch := rfl
@[simp] theorem ustChange_free (unit : Nat) (s : State) : (ustChange unit s).free = s.free := rfl
@[simp] theorem ustChange_out (unit : Nat) (s : State) : (ustChange unit s).out = s.out := rfl
@[simp] theorem ustChange_pending (unit : Nat) (s : State) : (ustChange unit s).pending = s.pending := rfl

/-! ## `setFn` -/

@[simp] theorem setFn_pwr (f : Func) (x : Fn) (s : State) : (setFn f x s).pwr = s.pwr := rfl
@[simp] theorem setFn_fuses (f : Func) (x : Fn) (s : State) : (setFn f x s).fuses = s.fuses := rfl
@[simp] theorem setFn_boot (f : Func) (x : Fn) (s : State) : (setFn f x s).boot = s.boot := rfl
@[simp] theorem setFn_vault (f : Func) (x : Fn) (s : State) : (setFn f x s).vault = s.vault := rfl
@[simp] theorem setFn_rcv (f : Func) (x : Fn) (s : State) : (setFn f x s).rcv = s.rcv := rfl
@[simp] theorem setFn_nor (f : Func) (x : Fn) (s : State) : (setFn f x s).nor = s.nor := rfl
@[simp] theorem setFn_cfg (f : Func) (x : Fn) (s : State) : (setFn f x s).cfg = s.cfg := rfl
@[simp] theorem setFn_trust (f : Func) (x : Fn) (s : State) : (setFn f x s).trust = s.trust := rfl
@[simp] theorem setFn_evr (f : Func) (x : Fn) (s : State) : (setFn f x s).evr = s.evr := rfl
@[simp] theorem setFn_upd (f : Func) (x : Fn) (s : State) : (setFn f x s).upd = s.upd := rfl
@[simp] theorem setFn_port0 (f : Func) (x : Fn) (s : State) : (setFn f x s).port0 = s.port0 := rfl
@[simp] theorem setFn_port1 (f : Func) (x : Fn) (s : State) : (setFn f x s).port1 = s.port1 := rfl
@[simp] theorem setFn_ctoMs (f : Func) (x : Fn) (s : State) : (setFn f x s).ctoMs = s.ctoMs := rfl
@[simp] theorem setFn_ctoBad (f : Func) (x : Fn) (s : State) : (setFn f x s).ctoBad = s.ctoBad := rfl
@[simp] theorem setFn_ctoOverride (f : Func) (x : Fn) (s : State) : (setFn f x s).ctoOverride = s.ctoOverride := rfl
@[simp] theorem setFn_bmlRid (f : Func) (x : Fn) (s : State) : (setFn f x s).bmlRid = s.bmlRid := rfl
@[simp] theorem setFn_bmlPort (f : Func) (x : Fn) (s : State) : (setFn f x s).bmlPort = s.bmlPort := rfl
@[simp] theorem setFn_bmlCount (f : Func) (x : Fn) (s : State) : (setFn f x s).bmlCount = s.bmlCount := rfl
@[simp] theorem setFn_timeouts (f : Func) (x : Fn) (s : State) : (setFn f x s).timeouts = s.timeouts := rfl
@[simp] theorem setFn_unexpected (f : Func) (x : Fn) (s : State) : (setFn f x s).unexpected = s.unexpected := rfl
@[simp] theorem setFn_fns (f : Func) (x : Fn) (s : State) :
    (setFn f x s).fns = Sparse.put Fn.reset s.fns (unitOf f) x := rfl
@[simp] theorem setFn_nvm (f : Func) (x : Fn) (s : State) : (setFn f x s).nvm = s.nvm := rfl
@[simp] theorem setFn_tab (f : Func) (x : Fn) (s : State) : (setFn f x s).tab = s.tab := rfl
@[simp] theorem setFn_media (f : Func) (x : Fn) (s : State) : (setFn f x s).media = s.media := rfl
@[simp] theorem setFn_ftl (f : Func) (x : Fn) (s : State) : (setFn f x s).ftl = s.ftl := rfl
@[simp] theorem setFn_flash (f : Func) (x : Fn) (s : State) : (setFn f x s).flash = s.flash := rfl
@[simp] theorem setFn_arm (f : Func) (x : Fn) (s : State) : (setFn f x s).arm = s.arm := rfl
@[simp] theorem setFn_hold (f : Func) (x : Fn) (s : State) : (setFn f x s).hold = s.hold := rfl
@[simp] theorem setFn_mqt (f : Func) (x : Fn) (s : State) : (setFn f x s).mqt = s.mqt := rfl
@[simp] theorem setFn_mgt (f : Func) (x : Fn) (s : State) : (setFn f x s).mgt = s.mgt := rfl
@[simp] theorem setFn_ksc (f : Func) (x : Fn) (s : State) : (setFn f x s).ksc = s.ksc := rfl
@[simp] theorem setFn_evs0 (f : Func) (x : Fn) (s : State) : (setFn f x s).evs0 = s.evs0 := rfl
@[simp] theorem setFn_evs1 (f : Func) (x : Fn) (s : State) : (setFn f x s).evs1 = s.evs1 := rfl
@[simp] theorem setFn_latch (f : Func) (x : Fn) (s : State) : (setFn f x s).latch = s.latch := rfl
@[simp] theorem setFn_free (f : Func) (x : Fn) (s : State) : (setFn f x s).free = s.free := rfl
@[simp] theorem setFn_out (f : Func) (x : Fn) (s : State) : (setFn f x s).out = s.out := rfl
@[simp] theorem setFn_pending (f : Func) (x : Fn) (s : State) : (setFn f x s).pending = s.pending := rfl

/-! ## `modFn` -/

@[simp] theorem modFn_pwr (f : Func) (g : Fn → Fn) (s : State) : (modFn f g s).pwr = s.pwr := rfl
@[simp] theorem modFn_fuses (f : Func) (g : Fn → Fn) (s : State) : (modFn f g s).fuses = s.fuses := rfl
@[simp] theorem modFn_boot (f : Func) (g : Fn → Fn) (s : State) : (modFn f g s).boot = s.boot := rfl
@[simp] theorem modFn_vault (f : Func) (g : Fn → Fn) (s : State) : (modFn f g s).vault = s.vault := rfl
@[simp] theorem modFn_rcv (f : Func) (g : Fn → Fn) (s : State) : (modFn f g s).rcv = s.rcv := rfl
@[simp] theorem modFn_nor (f : Func) (g : Fn → Fn) (s : State) : (modFn f g s).nor = s.nor := rfl
@[simp] theorem modFn_cfg (f : Func) (g : Fn → Fn) (s : State) : (modFn f g s).cfg = s.cfg := rfl
@[simp] theorem modFn_trust (f : Func) (g : Fn → Fn) (s : State) : (modFn f g s).trust = s.trust := rfl
@[simp] theorem modFn_evr (f : Func) (g : Fn → Fn) (s : State) : (modFn f g s).evr = s.evr := rfl
@[simp] theorem modFn_upd (f : Func) (g : Fn → Fn) (s : State) : (modFn f g s).upd = s.upd := rfl
@[simp] theorem modFn_port0 (f : Func) (g : Fn → Fn) (s : State) : (modFn f g s).port0 = s.port0 := rfl
@[simp] theorem modFn_port1 (f : Func) (g : Fn → Fn) (s : State) : (modFn f g s).port1 = s.port1 := rfl
@[simp] theorem modFn_ctoMs (f : Func) (g : Fn → Fn) (s : State) : (modFn f g s).ctoMs = s.ctoMs := rfl
@[simp] theorem modFn_ctoBad (f : Func) (g : Fn → Fn) (s : State) : (modFn f g s).ctoBad = s.ctoBad := rfl
@[simp] theorem modFn_ctoOverride (f : Func) (g : Fn → Fn) (s : State) :
    (modFn f g s).ctoOverride = s.ctoOverride := rfl
@[simp] theorem modFn_bmlRid (f : Func) (g : Fn → Fn) (s : State) : (modFn f g s).bmlRid = s.bmlRid := rfl
@[simp] theorem modFn_bmlPort (f : Func) (g : Fn → Fn) (s : State) : (modFn f g s).bmlPort = s.bmlPort := rfl
@[simp] theorem modFn_bmlCount (f : Func) (g : Fn → Fn) (s : State) : (modFn f g s).bmlCount = s.bmlCount := rfl
@[simp] theorem modFn_timeouts (f : Func) (g : Fn → Fn) (s : State) : (modFn f g s).timeouts = s.timeouts := rfl
@[simp] theorem modFn_unexpected (f : Func) (g : Fn → Fn) (s : State) : (modFn f g s).unexpected = s.unexpected := rfl
@[simp] theorem modFn_nvm (f : Func) (g : Fn → Fn) (s : State) : (modFn f g s).nvm = s.nvm := rfl
@[simp] theorem modFn_tab (f : Func) (g : Fn → Fn) (s : State) : (modFn f g s).tab = s.tab := rfl
@[simp] theorem modFn_media (f : Func) (g : Fn → Fn) (s : State) : (modFn f g s).media = s.media := rfl
@[simp] theorem modFn_ftl (f : Func) (g : Fn → Fn) (s : State) : (modFn f g s).ftl = s.ftl := rfl
@[simp] theorem modFn_flash (f : Func) (g : Fn → Fn) (s : State) : (modFn f g s).flash = s.flash := rfl
@[simp] theorem modFn_arm (f : Func) (g : Fn → Fn) (s : State) : (modFn f g s).arm = s.arm := rfl
@[simp] theorem modFn_hold (f : Func) (g : Fn → Fn) (s : State) : (modFn f g s).hold = s.hold := rfl
@[simp] theorem modFn_mqt (f : Func) (g : Fn → Fn) (s : State) : (modFn f g s).mqt = s.mqt := rfl
@[simp] theorem modFn_mgt (f : Func) (g : Fn → Fn) (s : State) : (modFn f g s).mgt = s.mgt := rfl
@[simp] theorem modFn_ksc (f : Func) (g : Fn → Fn) (s : State) : (modFn f g s).ksc = s.ksc := rfl
@[simp] theorem modFn_evs0 (f : Func) (g : Fn → Fn) (s : State) : (modFn f g s).evs0 = s.evs0 := rfl
@[simp] theorem modFn_evs1 (f : Func) (g : Fn → Fn) (s : State) : (modFn f g s).evs1 = s.evs1 := rfl
@[simp] theorem modFn_latch (f : Func) (g : Fn → Fn) (s : State) : (modFn f g s).latch = s.latch := rfl
@[simp] theorem modFn_free (f : Func) (g : Fn → Fn) (s : State) : (modFn f g s).free = s.free := rfl
@[simp] theorem modFn_out (f : Func) (g : Fn → Fn) (s : State) : (modFn f g s).out = s.out := rfl
@[simp] theorem modFn_pending (f : Func) (g : Fn → Fn) (s : State) : (modFn f g s).pending = s.pending := rfl

/-! ## `modCtrl` -/

@[simp] theorem modCtrl_pwr (f : Func) (g : Ctrl → Ctrl) (s : State) : (modCtrl f g s).pwr = s.pwr := rfl
@[simp] theorem modCtrl_fuses (f : Func) (g : Ctrl → Ctrl) (s : State) : (modCtrl f g s).fuses = s.fuses := rfl
@[simp] theorem modCtrl_boot (f : Func) (g : Ctrl → Ctrl) (s : State) : (modCtrl f g s).boot = s.boot := rfl
@[simp] theorem modCtrl_vault (f : Func) (g : Ctrl → Ctrl) (s : State) : (modCtrl f g s).vault = s.vault := rfl
@[simp] theorem modCtrl_rcv (f : Func) (g : Ctrl → Ctrl) (s : State) : (modCtrl f g s).rcv = s.rcv := rfl
@[simp] theorem modCtrl_nor (f : Func) (g : Ctrl → Ctrl) (s : State) : (modCtrl f g s).nor = s.nor := rfl
@[simp] theorem modCtrl_cfg (f : Func) (g : Ctrl → Ctrl) (s : State) : (modCtrl f g s).cfg = s.cfg := rfl
@[simp] theorem modCtrl_trust (f : Func) (g : Ctrl → Ctrl) (s : State) : (modCtrl f g s).trust = s.trust := rfl
@[simp] theorem modCtrl_evr (f : Func) (g : Ctrl → Ctrl) (s : State) : (modCtrl f g s).evr = s.evr := rfl
@[simp] theorem modCtrl_upd (f : Func) (g : Ctrl → Ctrl) (s : State) : (modCtrl f g s).upd = s.upd := rfl
@[simp] theorem modCtrl_port0 (f : Func) (g : Ctrl → Ctrl) (s : State) : (modCtrl f g s).port0 = s.port0 := rfl
@[simp] theorem modCtrl_port1 (f : Func) (g : Ctrl → Ctrl) (s : State) : (modCtrl f g s).port1 = s.port1 := rfl
@[simp] theorem modCtrl_ctoMs (f : Func) (g : Ctrl → Ctrl) (s : State) : (modCtrl f g s).ctoMs = s.ctoMs := rfl
@[simp] theorem modCtrl_ctoBad (f : Func) (g : Ctrl → Ctrl) (s : State) : (modCtrl f g s).ctoBad = s.ctoBad := rfl
@[simp] theorem modCtrl_ctoOverride (f : Func) (g : Ctrl → Ctrl) (s : State) :
    (modCtrl f g s).ctoOverride = s.ctoOverride := rfl
@[simp] theorem modCtrl_bmlRid (f : Func) (g : Ctrl → Ctrl) (s : State) : (modCtrl f g s).bmlRid = s.bmlRid := rfl
@[simp] theorem modCtrl_bmlPort (f : Func) (g : Ctrl → Ctrl) (s : State) : (modCtrl f g s).bmlPort = s.bmlPort := rfl
@[simp] theorem modCtrl_bmlCount (f : Func) (g : Ctrl → Ctrl) (s : State) :
    (modCtrl f g s).bmlCount = s.bmlCount := rfl
@[simp] theorem modCtrl_timeouts (f : Func) (g : Ctrl → Ctrl) (s : State) :
    (modCtrl f g s).timeouts = s.timeouts := rfl
@[simp] theorem modCtrl_unexpected (f : Func) (g : Ctrl → Ctrl) (s : State) :
    (modCtrl f g s).unexpected = s.unexpected := rfl
@[simp] theorem modCtrl_nvm (f : Func) (g : Ctrl → Ctrl) (s : State) : (modCtrl f g s).nvm = s.nvm := rfl
@[simp] theorem modCtrl_tab (f : Func) (g : Ctrl → Ctrl) (s : State) : (modCtrl f g s).tab = s.tab := rfl
@[simp] theorem modCtrl_media (f : Func) (g : Ctrl → Ctrl) (s : State) : (modCtrl f g s).media = s.media := rfl
@[simp] theorem modCtrl_ftl (f : Func) (g : Ctrl → Ctrl) (s : State) : (modCtrl f g s).ftl = s.ftl := rfl
@[simp] theorem modCtrl_flash (f : Func) (g : Ctrl → Ctrl) (s : State) : (modCtrl f g s).flash = s.flash := rfl
@[simp] theorem modCtrl_arm (f : Func) (g : Ctrl → Ctrl) (s : State) : (modCtrl f g s).arm = s.arm := rfl
@[simp] theorem modCtrl_hold (f : Func) (g : Ctrl → Ctrl) (s : State) : (modCtrl f g s).hold = s.hold := rfl
@[simp] theorem modCtrl_mqt (f : Func) (g : Ctrl → Ctrl) (s : State) : (modCtrl f g s).mqt = s.mqt := rfl
@[simp] theorem modCtrl_mgt (f : Func) (g : Ctrl → Ctrl) (s : State) : (modCtrl f g s).mgt = s.mgt := rfl
@[simp] theorem modCtrl_ksc (f : Func) (g : Ctrl → Ctrl) (s : State) : (modCtrl f g s).ksc = s.ksc := rfl
@[simp] theorem modCtrl_evs0 (f : Func) (g : Ctrl → Ctrl) (s : State) : (modCtrl f g s).evs0 = s.evs0 := rfl
@[simp] theorem modCtrl_evs1 (f : Func) (g : Ctrl → Ctrl) (s : State) : (modCtrl f g s).evs1 = s.evs1 := rfl
@[simp] theorem modCtrl_latch (f : Func) (g : Ctrl → Ctrl) (s : State) : (modCtrl f g s).latch = s.latch := rfl
@[simp] theorem modCtrl_free (f : Func) (g : Ctrl → Ctrl) (s : State) : (modCtrl f g s).free = s.free := rfl
@[simp] theorem modCtrl_out (f : Func) (g : Ctrl → Ctrl) (s : State) : (modCtrl f g s).out = s.out := rfl
@[simp] theorem modCtrl_pending (f : Func) (g : Ctrl → Ctrl) (s : State) : (modCtrl f g s).pending = s.pending := rfl

/-! ## `bumpGen` -/

@[simp] theorem bumpGen_pwr (n : Nat) (s : State) : (bumpGen n s).pwr = s.pwr := rfl
@[simp] theorem bumpGen_fuses (n : Nat) (s : State) : (bumpGen n s).fuses = s.fuses := rfl
@[simp] theorem bumpGen_boot (n : Nat) (s : State) : (bumpGen n s).boot = s.boot := rfl
@[simp] theorem bumpGen_vault (n : Nat) (s : State) : (bumpGen n s).vault = s.vault := rfl
@[simp] theorem bumpGen_rcv (n : Nat) (s : State) : (bumpGen n s).rcv = s.rcv := rfl
@[simp] theorem bumpGen_nor (n : Nat) (s : State) :
    (bumpGen n s).nor = { s.nor with writeGen := s.nor.writeGen + BitVec.ofNat 64 n } := rfl
@[simp] theorem bumpGen_cfg (n : Nat) (s : State) : (bumpGen n s).cfg = s.cfg := rfl
@[simp] theorem bumpGen_trust (n : Nat) (s : State) : (bumpGen n s).trust = s.trust := rfl
@[simp] theorem bumpGen_evr (n : Nat) (s : State) : (bumpGen n s).evr = s.evr := rfl
@[simp] theorem bumpGen_upd (n : Nat) (s : State) : (bumpGen n s).upd = s.upd := rfl
@[simp] theorem bumpGen_port0 (n : Nat) (s : State) : (bumpGen n s).port0 = s.port0 := rfl
@[simp] theorem bumpGen_port1 (n : Nat) (s : State) : (bumpGen n s).port1 = s.port1 := rfl
@[simp] theorem bumpGen_ctoMs (n : Nat) (s : State) : (bumpGen n s).ctoMs = s.ctoMs := rfl
@[simp] theorem bumpGen_ctoBad (n : Nat) (s : State) : (bumpGen n s).ctoBad = s.ctoBad := rfl
@[simp] theorem bumpGen_ctoOverride (n : Nat) (s : State) : (bumpGen n s).ctoOverride = s.ctoOverride := rfl
@[simp] theorem bumpGen_bmlRid (n : Nat) (s : State) : (bumpGen n s).bmlRid = s.bmlRid := rfl
@[simp] theorem bumpGen_bmlPort (n : Nat) (s : State) : (bumpGen n s).bmlPort = s.bmlPort := rfl
@[simp] theorem bumpGen_bmlCount (n : Nat) (s : State) : (bumpGen n s).bmlCount = s.bmlCount := rfl
@[simp] theorem bumpGen_timeouts (n : Nat) (s : State) : (bumpGen n s).timeouts = s.timeouts := rfl
@[simp] theorem bumpGen_unexpected (n : Nat) (s : State) : (bumpGen n s).unexpected = s.unexpected := rfl
@[simp] theorem bumpGen_fns (n : Nat) (s : State) : (bumpGen n s).fns = s.fns := rfl
@[simp] theorem bumpGen_nvm (n : Nat) (s : State) : (bumpGen n s).nvm = s.nvm := rfl
@[simp] theorem bumpGen_tab (n : Nat) (s : State) : (bumpGen n s).tab = s.tab := rfl
@[simp] theorem bumpGen_media (n : Nat) (s : State) : (bumpGen n s).media = s.media := rfl
@[simp] theorem bumpGen_ftl (n : Nat) (s : State) : (bumpGen n s).ftl = s.ftl := rfl
@[simp] theorem bumpGen_flash (n : Nat) (s : State) : (bumpGen n s).flash = s.flash := rfl
@[simp] theorem bumpGen_arm (n : Nat) (s : State) : (bumpGen n s).arm = s.arm := rfl
@[simp] theorem bumpGen_hold (n : Nat) (s : State) : (bumpGen n s).hold = s.hold := rfl
@[simp] theorem bumpGen_mqt (n : Nat) (s : State) : (bumpGen n s).mqt = s.mqt := rfl
@[simp] theorem bumpGen_mgt (n : Nat) (s : State) : (bumpGen n s).mgt = s.mgt := rfl
@[simp] theorem bumpGen_ksc (n : Nat) (s : State) : (bumpGen n s).ksc = s.ksc := rfl
@[simp] theorem bumpGen_evs0 (n : Nat) (s : State) : (bumpGen n s).evs0 = s.evs0 := rfl
@[simp] theorem bumpGen_evs1 (n : Nat) (s : State) : (bumpGen n s).evs1 = s.evs1 := rfl
@[simp] theorem bumpGen_latch (n : Nat) (s : State) : (bumpGen n s).latch = s.latch := rfl
@[simp] theorem bumpGen_free (n : Nat) (s : State) : (bumpGen n s).free = s.free := rfl
@[simp] theorem bumpGen_out (n : Nat) (s : State) : (bumpGen n s).out = s.out := rfl
@[simp] theorem bumpGen_pending (n : Nat) (s : State) : (bumpGen n s).pending = s.pending := rfl

/-! ## `markDelta` -/

@[simp] theorem markDelta_pwr (s : State) : (markDelta s).pwr = s.pwr := rfl
@[simp] theorem markDelta_fuses (s : State) : (markDelta s).fuses = s.fuses := rfl
@[simp] theorem markDelta_boot (s : State) : (markDelta s).boot = s.boot := rfl
@[simp] theorem markDelta_vault (s : State) : (markDelta s).vault = s.vault := rfl
@[simp] theorem markDelta_rcv (s : State) : (markDelta s).rcv = s.rcv := rfl
@[simp] theorem markDelta_nor (s : State) : (markDelta s).nor = s.nor := rfl
@[simp] theorem markDelta_cfg (s : State) : (markDelta s).cfg = s.cfg := rfl
@[simp] theorem markDelta_trust (s : State) : (markDelta s).trust = s.trust := rfl
@[simp] theorem markDelta_evr (s : State) : (markDelta s).evr = s.evr := rfl
@[simp] theorem markDelta_upd (s : State) : (markDelta s).upd = s.upd := rfl
@[simp] theorem markDelta_port0 (s : State) : (markDelta s).port0 = s.port0 := rfl
@[simp] theorem markDelta_port1 (s : State) : (markDelta s).port1 = s.port1 := rfl
@[simp] theorem markDelta_ctoMs (s : State) : (markDelta s).ctoMs = s.ctoMs := rfl
@[simp] theorem markDelta_ctoBad (s : State) : (markDelta s).ctoBad = s.ctoBad := rfl
@[simp] theorem markDelta_ctoOverride (s : State) : (markDelta s).ctoOverride = s.ctoOverride := rfl
@[simp] theorem markDelta_bmlRid (s : State) : (markDelta s).bmlRid = s.bmlRid := rfl
@[simp] theorem markDelta_bmlPort (s : State) : (markDelta s).bmlPort = s.bmlPort := rfl
@[simp] theorem markDelta_bmlCount (s : State) : (markDelta s).bmlCount = s.bmlCount := rfl
@[simp] theorem markDelta_timeouts (s : State) : (markDelta s).timeouts = s.timeouts := rfl
@[simp] theorem markDelta_unexpected (s : State) : (markDelta s).unexpected = s.unexpected := rfl
@[simp] theorem markDelta_fns (s : State) : (markDelta s).fns = s.fns := rfl
@[simp] theorem markDelta_nvm (s : State) : (markDelta s).nvm = s.nvm := rfl
@[simp] theorem markDelta_tab (s : State) : (markDelta s).tab = s.tab := rfl
@[simp] theorem markDelta_media (s : State) : (markDelta s).media = s.media := rfl
@[simp] theorem markDelta_ftl (s : State) : (markDelta s).ftl = s.ftl := rfl
@[simp] theorem markDelta_flash (s : State) : (markDelta s).flash = s.flash := rfl
@[simp] theorem markDelta_arm (s : State) : (markDelta s).arm = s.arm := rfl
@[simp] theorem markDelta_hold (s : State) : (markDelta s).hold = { s.hold with dirtyDelta := true } := rfl
@[simp] theorem markDelta_mqt (s : State) : (markDelta s).mqt = s.mqt := rfl
@[simp] theorem markDelta_mgt (s : State) : (markDelta s).mgt = s.mgt := rfl
@[simp] theorem markDelta_ksc (s : State) : (markDelta s).ksc = s.ksc := rfl
@[simp] theorem markDelta_evs0 (s : State) : (markDelta s).evs0 = s.evs0 := rfl
@[simp] theorem markDelta_evs1 (s : State) : (markDelta s).evs1 = s.evs1 := rfl
@[simp] theorem markDelta_latch (s : State) : (markDelta s).latch = s.latch := rfl
@[simp] theorem markDelta_free (s : State) : (markDelta s).free = s.free := rfl
@[simp] theorem markDelta_out (s : State) : (markDelta s).out = s.out := rfl
@[simp] theorem markDelta_pending (s : State) : (markDelta s).pending = s.pending := rfl

/-! ## `nextSeq` -/

@[simp] theorem nextSeq_pwr (s : State) : (nextSeq s).pwr = s.pwr := rfl
@[simp] theorem nextSeq_fuses (s : State) : (nextSeq s).fuses = s.fuses := rfl
@[simp] theorem nextSeq_boot (s : State) : (nextSeq s).boot = s.boot := rfl
@[simp] theorem nextSeq_vault (s : State) : (nextSeq s).vault = s.vault := rfl
@[simp] theorem nextSeq_rcv (s : State) : (nextSeq s).rcv = s.rcv := rfl
@[simp] theorem nextSeq_nor (s : State) : (nextSeq s).nor = s.nor := rfl
@[simp] theorem nextSeq_cfg (s : State) : (nextSeq s).cfg = s.cfg := rfl
@[simp] theorem nextSeq_trust (s : State) : (nextSeq s).trust = s.trust := rfl
@[simp] theorem nextSeq_evr (s : State) : (nextSeq s).evr = s.evr := rfl
@[simp] theorem nextSeq_upd (s : State) : (nextSeq s).upd = s.upd := rfl
@[simp] theorem nextSeq_port0 (s : State) : (nextSeq s).port0 = s.port0 := rfl
@[simp] theorem nextSeq_port1 (s : State) : (nextSeq s).port1 = s.port1 := rfl
@[simp] theorem nextSeq_ctoMs (s : State) : (nextSeq s).ctoMs = s.ctoMs := rfl
@[simp] theorem nextSeq_ctoBad (s : State) : (nextSeq s).ctoBad = s.ctoBad := rfl
@[simp] theorem nextSeq_ctoOverride (s : State) : (nextSeq s).ctoOverride = s.ctoOverride := rfl
@[simp] theorem nextSeq_bmlRid (s : State) : (nextSeq s).bmlRid = s.bmlRid := rfl
@[simp] theorem nextSeq_bmlPort (s : State) : (nextSeq s).bmlPort = s.bmlPort := rfl
@[simp] theorem nextSeq_bmlCount (s : State) : (nextSeq s).bmlCount = s.bmlCount := rfl
@[simp] theorem nextSeq_timeouts (s : State) : (nextSeq s).timeouts = s.timeouts := rfl
@[simp] theorem nextSeq_unexpected (s : State) : (nextSeq s).unexpected = s.unexpected := rfl
@[simp] theorem nextSeq_fns (s : State) : (nextSeq s).fns = s.fns := rfl
@[simp] theorem nextSeq_nvm (s : State) : (nextSeq s).nvm = s.nvm := rfl
@[simp] theorem nextSeq_tab (s : State) : (nextSeq s).tab = { s.tab with writeSeq := s.tab.writeSeq + 1 } := rfl
@[simp] theorem nextSeq_media (s : State) : (nextSeq s).media = s.media := rfl
@[simp] theorem nextSeq_ftl (s : State) : (nextSeq s).ftl = s.ftl := rfl
@[simp] theorem nextSeq_flash (s : State) : (nextSeq s).flash = s.flash := rfl
@[simp] theorem nextSeq_arm (s : State) : (nextSeq s).arm = s.arm := rfl
@[simp] theorem nextSeq_hold (s : State) : (nextSeq s).hold = s.hold := rfl
@[simp] theorem nextSeq_mqt (s : State) : (nextSeq s).mqt = s.mqt := rfl
@[simp] theorem nextSeq_mgt (s : State) : (nextSeq s).mgt = s.mgt := rfl
@[simp] theorem nextSeq_ksc (s : State) : (nextSeq s).ksc = s.ksc := rfl
@[simp] theorem nextSeq_evs0 (s : State) : (nextSeq s).evs0 = s.evs0 := rfl
@[simp] theorem nextSeq_evs1 (s : State) : (nextSeq s).evs1 = s.evs1 := rfl
@[simp] theorem nextSeq_latch (s : State) : (nextSeq s).latch = s.latch := rfl
@[simp] theorem nextSeq_free (s : State) : (nextSeq s).free = s.free := rfl
@[simp] theorem nextSeq_out (s : State) : (nextSeq s).out = s.out := rfl
@[simp] theorem nextSeq_pending (s : State) : (nextSeq s).pending = s.pending := rfl

/-! ## `setMap` -/

@[simp] theorem setMap_pwr (k : Nat) (e : BitVec 40) (seq : Nat) (s : State) : (setMap k e seq s).pwr = s.pwr := rfl
@[simp] theorem setMap_fuses (k : Nat) (e : BitVec 40) (seq : Nat) (s : State) :
    (setMap k e seq s).fuses = s.fuses := rfl
@[simp] theorem setMap_boot (k : Nat) (e : BitVec 40) (seq : Nat) (s : State) :
    (setMap k e seq s).boot = s.boot := rfl
@[simp] theorem setMap_vault (k : Nat) (e : BitVec 40) (seq : Nat) (s : State) :
    (setMap k e seq s).vault = s.vault := rfl
@[simp] theorem setMap_rcv (k : Nat) (e : BitVec 40) (seq : Nat) (s : State) : (setMap k e seq s).rcv = s.rcv := rfl
@[simp] theorem setMap_nor (k : Nat) (e : BitVec 40) (seq : Nat) (s : State) : (setMap k e seq s).nor = s.nor := rfl
@[simp] theorem setMap_cfg (k : Nat) (e : BitVec 40) (seq : Nat) (s : State) : (setMap k e seq s).cfg = s.cfg := rfl
@[simp] theorem setMap_trust (k : Nat) (e : BitVec 40) (seq : Nat) (s : State) :
    (setMap k e seq s).trust = s.trust := rfl
@[simp] theorem setMap_evr (k : Nat) (e : BitVec 40) (seq : Nat) (s : State) : (setMap k e seq s).evr = s.evr := rfl
@[simp] theorem setMap_upd (k : Nat) (e : BitVec 40) (seq : Nat) (s : State) : (setMap k e seq s).upd = s.upd := rfl
@[simp] theorem setMap_port0 (k : Nat) (e : BitVec 40) (seq : Nat) (s : State) :
    (setMap k e seq s).port0 = s.port0 := rfl
@[simp] theorem setMap_port1 (k : Nat) (e : BitVec 40) (seq : Nat) (s : State) :
    (setMap k e seq s).port1 = s.port1 := rfl
@[simp] theorem setMap_ctoMs (k : Nat) (e : BitVec 40) (seq : Nat) (s : State) :
    (setMap k e seq s).ctoMs = s.ctoMs := rfl
@[simp] theorem setMap_ctoBad (k : Nat) (e : BitVec 40) (seq : Nat) (s : State) :
    (setMap k e seq s).ctoBad = s.ctoBad := rfl
@[simp] theorem setMap_ctoOverride (k : Nat) (e : BitVec 40) (seq : Nat) (s : State) :
    (setMap k e seq s).ctoOverride = s.ctoOverride := rfl
@[simp] theorem setMap_bmlRid (k : Nat) (e : BitVec 40) (seq : Nat) (s : State) :
    (setMap k e seq s).bmlRid = s.bmlRid := rfl
@[simp] theorem setMap_bmlPort (k : Nat) (e : BitVec 40) (seq : Nat) (s : State) :
    (setMap k e seq s).bmlPort = s.bmlPort := rfl
@[simp] theorem setMap_bmlCount (k : Nat) (e : BitVec 40) (seq : Nat) (s : State) :
    (setMap k e seq s).bmlCount = s.bmlCount := rfl
@[simp] theorem setMap_timeouts (k : Nat) (e : BitVec 40) (seq : Nat) (s : State) :
    (setMap k e seq s).timeouts = s.timeouts := rfl
@[simp] theorem setMap_unexpected (k : Nat) (e : BitVec 40) (seq : Nat) (s : State) :
    (setMap k e seq s).unexpected = s.unexpected := rfl
@[simp] theorem setMap_fns (k : Nat) (e : BitVec 40) (seq : Nat) (s : State) : (setMap k e seq s).fns = s.fns := rfl
@[simp] theorem setMap_nvm (k : Nat) (e : BitVec 40) (seq : Nat) (s : State) : (setMap k e seq s).nvm = s.nvm := rfl
@[simp] theorem setMap_media (k : Nat) (e : BitVec 40) (seq : Nat) (s : State) :
    (setMap k e seq s).media = s.media := rfl
@[simp] theorem setMap_ftl (k : Nat) (e : BitVec 40) (seq : Nat) (s : State) : (setMap k e seq s).ftl = s.ftl := rfl
@[simp] theorem setMap_flash (k : Nat) (e : BitVec 40) (seq : Nat) (s : State) :
    (setMap k e seq s).flash = s.flash := rfl
@[simp] theorem setMap_arm (k : Nat) (e : BitVec 40) (seq : Nat) (s : State) : (setMap k e seq s).arm = s.arm := rfl
@[simp] theorem setMap_hold (k : Nat) (e : BitVec 40) (seq : Nat) (s : State) :
    (setMap k e seq s).hold = s.hold := rfl
@[simp] theorem setMap_mqt (k : Nat) (e : BitVec 40) (seq : Nat) (s : State) : (setMap k e seq s).mqt = s.mqt := rfl
@[simp] theorem setMap_mgt (k : Nat) (e : BitVec 40) (seq : Nat) (s : State) : (setMap k e seq s).mgt = s.mgt := rfl
@[simp] theorem setMap_ksc (k : Nat) (e : BitVec 40) (seq : Nat) (s : State) : (setMap k e seq s).ksc = s.ksc := rfl
@[simp] theorem setMap_evs0 (k : Nat) (e : BitVec 40) (seq : Nat) (s : State) :
    (setMap k e seq s).evs0 = s.evs0 := rfl
@[simp] theorem setMap_evs1 (k : Nat) (e : BitVec 40) (seq : Nat) (s : State) :
    (setMap k e seq s).evs1 = s.evs1 := rfl
@[simp] theorem setMap_latch (k : Nat) (e : BitVec 40) (seq : Nat) (s : State) :
    (setMap k e seq s).latch = s.latch := rfl
@[simp] theorem setMap_free (k : Nat) (e : BitVec 40) (seq : Nat) (s : State) :
    (setMap k e seq s).free = s.free := rfl
@[simp] theorem setMap_out (k : Nat) (e : BitVec 40) (seq : Nat) (s : State) : (setMap k e seq s).out = s.out := rfl
@[simp] theorem setMap_pending (k : Nat) (e : BitVec 40) (seq : Nat) (s : State) :
    (setMap k e seq s).pending = s.pending := rfl

/-! ## `setLine` -/

@[simp] theorem setLine_pwr (k : Nat) (l : Line) (s : State) : (setLine k l s).pwr = s.pwr := rfl
@[simp] theorem setLine_fuses (k : Nat) (l : Line) (s : State) : (setLine k l s).fuses = s.fuses := rfl
@[simp] theorem setLine_boot (k : Nat) (l : Line) (s : State) : (setLine k l s).boot = s.boot := rfl
@[simp] theorem setLine_vault (k : Nat) (l : Line) (s : State) : (setLine k l s).vault = s.vault := rfl
@[simp] theorem setLine_rcv (k : Nat) (l : Line) (s : State) : (setLine k l s).rcv = s.rcv := rfl
@[simp] theorem setLine_nor (k : Nat) (l : Line) (s : State) : (setLine k l s).nor = s.nor := rfl
@[simp] theorem setLine_cfg (k : Nat) (l : Line) (s : State) : (setLine k l s).cfg = s.cfg := rfl
@[simp] theorem setLine_trust (k : Nat) (l : Line) (s : State) : (setLine k l s).trust = s.trust := rfl
@[simp] theorem setLine_evr (k : Nat) (l : Line) (s : State) : (setLine k l s).evr = s.evr := rfl
@[simp] theorem setLine_upd (k : Nat) (l : Line) (s : State) : (setLine k l s).upd = s.upd := rfl
@[simp] theorem setLine_port0 (k : Nat) (l : Line) (s : State) : (setLine k l s).port0 = s.port0 := rfl
@[simp] theorem setLine_port1 (k : Nat) (l : Line) (s : State) : (setLine k l s).port1 = s.port1 := rfl
@[simp] theorem setLine_ctoMs (k : Nat) (l : Line) (s : State) : (setLine k l s).ctoMs = s.ctoMs := rfl
@[simp] theorem setLine_ctoBad (k : Nat) (l : Line) (s : State) : (setLine k l s).ctoBad = s.ctoBad := rfl
@[simp] theorem setLine_ctoOverride (k : Nat) (l : Line) (s : State) :
    (setLine k l s).ctoOverride = s.ctoOverride := rfl
@[simp] theorem setLine_bmlRid (k : Nat) (l : Line) (s : State) : (setLine k l s).bmlRid = s.bmlRid := rfl
@[simp] theorem setLine_bmlPort (k : Nat) (l : Line) (s : State) : (setLine k l s).bmlPort = s.bmlPort := rfl
@[simp] theorem setLine_bmlCount (k : Nat) (l : Line) (s : State) : (setLine k l s).bmlCount = s.bmlCount := rfl
@[simp] theorem setLine_timeouts (k : Nat) (l : Line) (s : State) : (setLine k l s).timeouts = s.timeouts := rfl
@[simp] theorem setLine_unexpected (k : Nat) (l : Line) (s : State) : (setLine k l s).unexpected = s.unexpected := rfl
@[simp] theorem setLine_fns (k : Nat) (l : Line) (s : State) : (setLine k l s).fns = s.fns := rfl
@[simp] theorem setLine_nvm (k : Nat) (l : Line) (s : State) : (setLine k l s).nvm = s.nvm := rfl
@[simp] theorem setLine_tab (k : Nat) (l : Line) (s : State) : (setLine k l s).tab = s.tab := rfl
@[simp] theorem setLine_media (k : Nat) (l : Line) (s : State) : (setLine k l s).media = s.media := rfl
@[simp] theorem setLine_ftl (k : Nat) (l : Line) (s : State) :
    (setLine k l s).ftl = { s.ftl with cache := Sparse.set s.ftl.cache k l } := rfl
@[simp] theorem setLine_flash (k : Nat) (l : Line) (s : State) : (setLine k l s).flash = s.flash := rfl
@[simp] theorem setLine_arm (k : Nat) (l : Line) (s : State) : (setLine k l s).arm = s.arm := rfl
@[simp] theorem setLine_hold (k : Nat) (l : Line) (s : State) : (setLine k l s).hold = s.hold := rfl
@[simp] theorem setLine_mqt (k : Nat) (l : Line) (s : State) : (setLine k l s).mqt = s.mqt := rfl
@[simp] theorem setLine_mgt (k : Nat) (l : Line) (s : State) : (setLine k l s).mgt = s.mgt := rfl
@[simp] theorem setLine_ksc (k : Nat) (l : Line) (s : State) : (setLine k l s).ksc = s.ksc := rfl
@[simp] theorem setLine_evs0 (k : Nat) (l : Line) (s : State) : (setLine k l s).evs0 = s.evs0 := rfl
@[simp] theorem setLine_evs1 (k : Nat) (l : Line) (s : State) : (setLine k l s).evs1 = s.evs1 := rfl
@[simp] theorem setLine_latch (k : Nat) (l : Line) (s : State) : (setLine k l s).latch = s.latch := rfl
@[simp] theorem setLine_free (k : Nat) (l : Line) (s : State) : (setLine k l s).free = s.free := rfl
@[simp] theorem setLine_out (k : Nat) (l : Line) (s : State) : (setLine k l s).out = s.out := rfl
@[simp] theorem setLine_pending (k : Nat) (l : Line) (s : State) : (setLine k l s).pending = s.pending := rfl

/-! ## `setDie` -/

@[simp] theorem setDie_pwr (d : Nat) (x : Die) (s : State) : (setDie d x s).pwr = s.pwr := rfl
@[simp] theorem setDie_fuses (d : Nat) (x : Die) (s : State) : (setDie d x s).fuses = s.fuses := rfl
@[simp] theorem setDie_boot (d : Nat) (x : Die) (s : State) : (setDie d x s).boot = s.boot := rfl
@[simp] theorem setDie_vault (d : Nat) (x : Die) (s : State) : (setDie d x s).vault = s.vault := rfl
@[simp] theorem setDie_rcv (d : Nat) (x : Die) (s : State) : (setDie d x s).rcv = s.rcv := rfl
@[simp] theorem setDie_nor (d : Nat) (x : Die) (s : State) : (setDie d x s).nor = s.nor := rfl
@[simp] theorem setDie_cfg (d : Nat) (x : Die) (s : State) : (setDie d x s).cfg = s.cfg := rfl
@[simp] theorem setDie_trust (d : Nat) (x : Die) (s : State) : (setDie d x s).trust = s.trust := rfl
@[simp] theorem setDie_evr (d : Nat) (x : Die) (s : State) : (setDie d x s).evr = s.evr := rfl
@[simp] theorem setDie_upd (d : Nat) (x : Die) (s : State) : (setDie d x s).upd = s.upd := rfl
@[simp] theorem setDie_port0 (d : Nat) (x : Die) (s : State) : (setDie d x s).port0 = s.port0 := rfl
@[simp] theorem setDie_port1 (d : Nat) (x : Die) (s : State) : (setDie d x s).port1 = s.port1 := rfl
@[simp] theorem setDie_ctoMs (d : Nat) (x : Die) (s : State) : (setDie d x s).ctoMs = s.ctoMs := rfl
@[simp] theorem setDie_ctoBad (d : Nat) (x : Die) (s : State) : (setDie d x s).ctoBad = s.ctoBad := rfl
@[simp] theorem setDie_ctoOverride (d : Nat) (x : Die) (s : State) : (setDie d x s).ctoOverride = s.ctoOverride := rfl
@[simp] theorem setDie_bmlRid (d : Nat) (x : Die) (s : State) : (setDie d x s).bmlRid = s.bmlRid := rfl
@[simp] theorem setDie_bmlPort (d : Nat) (x : Die) (s : State) : (setDie d x s).bmlPort = s.bmlPort := rfl
@[simp] theorem setDie_bmlCount (d : Nat) (x : Die) (s : State) : (setDie d x s).bmlCount = s.bmlCount := rfl
@[simp] theorem setDie_timeouts (d : Nat) (x : Die) (s : State) : (setDie d x s).timeouts = s.timeouts := rfl
@[simp] theorem setDie_unexpected (d : Nat) (x : Die) (s : State) : (setDie d x s).unexpected = s.unexpected := rfl
@[simp] theorem setDie_fns (d : Nat) (x : Die) (s : State) : (setDie d x s).fns = s.fns := rfl
@[simp] theorem setDie_nvm (d : Nat) (x : Die) (s : State) : (setDie d x s).nvm = s.nvm := rfl
@[simp] theorem setDie_tab (d : Nat) (x : Die) (s : State) : (setDie d x s).tab = s.tab := rfl
@[simp] theorem setDie_media (d : Nat) (x : Die) (s : State) : (setDie d x s).media = s.media := rfl
@[simp] theorem setDie_ftl (d : Nat) (x : Die) (s : State) : (setDie d x s).ftl = s.ftl := rfl
@[simp] theorem setDie_flash (d : Nat) (x : Die) (s : State) :
    (setDie d x s).flash = { s.flash with dies := Sparse.put Die.reset s.flash.dies d x } := rfl
@[simp] theorem setDie_arm (d : Nat) (x : Die) (s : State) : (setDie d x s).arm = s.arm := rfl
@[simp] theorem setDie_hold (d : Nat) (x : Die) (s : State) : (setDie d x s).hold = s.hold := rfl
@[simp] theorem setDie_mqt (d : Nat) (x : Die) (s : State) : (setDie d x s).mqt = s.mqt := rfl
@[simp] theorem setDie_mgt (d : Nat) (x : Die) (s : State) : (setDie d x s).mgt = s.mgt := rfl
@[simp] theorem setDie_ksc (d : Nat) (x : Die) (s : State) : (setDie d x s).ksc = s.ksc := rfl
@[simp] theorem setDie_evs0 (d : Nat) (x : Die) (s : State) : (setDie d x s).evs0 = s.evs0 := rfl
@[simp] theorem setDie_evs1 (d : Nat) (x : Die) (s : State) : (setDie d x s).evs1 = s.evs1 := rfl
@[simp] theorem setDie_latch (d : Nat) (x : Die) (s : State) : (setDie d x s).latch = s.latch := rfl
@[simp] theorem setDie_free (d : Nat) (x : Die) (s : State) : (setDie d x s).free = s.free := rfl
@[simp] theorem setDie_out (d : Nat) (x : Die) (s : State) : (setDie d x s).out = s.out := rfl
@[simp] theorem setDie_pending (d : Nat) (x : Die) (s : State) : (setDie d x s).pending = s.pending := rfl

/-! ## `setDieTab` -/

@[simp] theorem setDieTab_pwr (d : Nat) (x : DieTab) (s : State) : (setDieTab d x s).pwr = s.pwr := rfl
@[simp] theorem setDieTab_fuses (d : Nat) (x : DieTab) (s : State) : (setDieTab d x s).fuses = s.fuses := rfl
@[simp] theorem setDieTab_boot (d : Nat) (x : DieTab) (s : State) : (setDieTab d x s).boot = s.boot := rfl
@[simp] theorem setDieTab_vault (d : Nat) (x : DieTab) (s : State) : (setDieTab d x s).vault = s.vault := rfl
@[simp] theorem setDieTab_rcv (d : Nat) (x : DieTab) (s : State) : (setDieTab d x s).rcv = s.rcv := rfl
@[simp] theorem setDieTab_nor (d : Nat) (x : DieTab) (s : State) : (setDieTab d x s).nor = s.nor := rfl
@[simp] theorem setDieTab_cfg (d : Nat) (x : DieTab) (s : State) : (setDieTab d x s).cfg = s.cfg := rfl
@[simp] theorem setDieTab_trust (d : Nat) (x : DieTab) (s : State) : (setDieTab d x s).trust = s.trust := rfl
@[simp] theorem setDieTab_evr (d : Nat) (x : DieTab) (s : State) : (setDieTab d x s).evr = s.evr := rfl
@[simp] theorem setDieTab_upd (d : Nat) (x : DieTab) (s : State) : (setDieTab d x s).upd = s.upd := rfl
@[simp] theorem setDieTab_port0 (d : Nat) (x : DieTab) (s : State) : (setDieTab d x s).port0 = s.port0 := rfl
@[simp] theorem setDieTab_port1 (d : Nat) (x : DieTab) (s : State) : (setDieTab d x s).port1 = s.port1 := rfl
@[simp] theorem setDieTab_ctoMs (d : Nat) (x : DieTab) (s : State) : (setDieTab d x s).ctoMs = s.ctoMs := rfl
@[simp] theorem setDieTab_ctoBad (d : Nat) (x : DieTab) (s : State) : (setDieTab d x s).ctoBad = s.ctoBad := rfl
@[simp] theorem setDieTab_ctoOverride (d : Nat) (x : DieTab) (s : State) :
    (setDieTab d x s).ctoOverride = s.ctoOverride := rfl
@[simp] theorem setDieTab_bmlRid (d : Nat) (x : DieTab) (s : State) : (setDieTab d x s).bmlRid = s.bmlRid := rfl
@[simp] theorem setDieTab_bmlPort (d : Nat) (x : DieTab) (s : State) : (setDieTab d x s).bmlPort = s.bmlPort := rfl
@[simp] theorem setDieTab_bmlCount (d : Nat) (x : DieTab) (s : State) : (setDieTab d x s).bmlCount = s.bmlCount := rfl
@[simp] theorem setDieTab_timeouts (d : Nat) (x : DieTab) (s : State) : (setDieTab d x s).timeouts = s.timeouts := rfl
@[simp] theorem setDieTab_unexpected (d : Nat) (x : DieTab) (s : State) :
    (setDieTab d x s).unexpected = s.unexpected := rfl
@[simp] theorem setDieTab_fns (d : Nat) (x : DieTab) (s : State) : (setDieTab d x s).fns = s.fns := rfl
@[simp] theorem setDieTab_nvm (d : Nat) (x : DieTab) (s : State) : (setDieTab d x s).nvm = s.nvm := rfl
@[simp] theorem setDieTab_media (d : Nat) (x : DieTab) (s : State) : (setDieTab d x s).media = s.media := rfl
@[simp] theorem setDieTab_ftl (d : Nat) (x : DieTab) (s : State) : (setDieTab d x s).ftl = s.ftl := rfl
@[simp] theorem setDieTab_flash (d : Nat) (x : DieTab) (s : State) : (setDieTab d x s).flash = s.flash := rfl
@[simp] theorem setDieTab_arm (d : Nat) (x : DieTab) (s : State) : (setDieTab d x s).arm = s.arm := rfl
@[simp] theorem setDieTab_hold (d : Nat) (x : DieTab) (s : State) : (setDieTab d x s).hold = s.hold := rfl
@[simp] theorem setDieTab_mqt (d : Nat) (x : DieTab) (s : State) : (setDieTab d x s).mqt = s.mqt := rfl
@[simp] theorem setDieTab_mgt (d : Nat) (x : DieTab) (s : State) : (setDieTab d x s).mgt = s.mgt := rfl
@[simp] theorem setDieTab_ksc (d : Nat) (x : DieTab) (s : State) : (setDieTab d x s).ksc = s.ksc := rfl
@[simp] theorem setDieTab_evs0 (d : Nat) (x : DieTab) (s : State) : (setDieTab d x s).evs0 = s.evs0 := rfl
@[simp] theorem setDieTab_evs1 (d : Nat) (x : DieTab) (s : State) : (setDieTab d x s).evs1 = s.evs1 := rfl
@[simp] theorem setDieTab_latch (d : Nat) (x : DieTab) (s : State) : (setDieTab d x s).latch = s.latch := rfl
@[simp] theorem setDieTab_free (d : Nat) (x : DieTab) (s : State) : (setDieTab d x s).free = s.free := rfl
@[simp] theorem setDieTab_out (d : Nat) (x : DieTab) (s : State) : (setDieTab d x s).out = s.out := rfl
@[simp] theorem setDieTab_pending (d : Nat) (x : DieTab) (s : State) : (setDieTab d x s).pending = s.pending := rfl

/-! ## `setBand` -/

@[simp] theorem setBand_pwr (b : Nat) (x : Band) (s : State) : (setBand b x s).pwr = s.pwr := rfl
@[simp] theorem setBand_fuses (b : Nat) (x : Band) (s : State) : (setBand b x s).fuses = s.fuses := rfl
@[simp] theorem setBand_boot (b : Nat) (x : Band) (s : State) : (setBand b x s).boot = s.boot := rfl
@[simp] theorem setBand_vault (b : Nat) (x : Band) (s : State) : (setBand b x s).vault = s.vault := rfl
@[simp] theorem setBand_rcv (b : Nat) (x : Band) (s : State) : (setBand b x s).rcv = s.rcv := rfl
@[simp] theorem setBand_nor (b : Nat) (x : Band) (s : State) : (setBand b x s).nor = s.nor := rfl
@[simp] theorem setBand_cfg (b : Nat) (x : Band) (s : State) : (setBand b x s).cfg = s.cfg := rfl
@[simp] theorem setBand_trust (b : Nat) (x : Band) (s : State) : (setBand b x s).trust = s.trust := rfl
@[simp] theorem setBand_evr (b : Nat) (x : Band) (s : State) : (setBand b x s).evr = s.evr := rfl
@[simp] theorem setBand_upd (b : Nat) (x : Band) (s : State) : (setBand b x s).upd = s.upd := rfl
@[simp] theorem setBand_port0 (b : Nat) (x : Band) (s : State) : (setBand b x s).port0 = s.port0 := rfl
@[simp] theorem setBand_port1 (b : Nat) (x : Band) (s : State) : (setBand b x s).port1 = s.port1 := rfl
@[simp] theorem setBand_ctoMs (b : Nat) (x : Band) (s : State) : (setBand b x s).ctoMs = s.ctoMs := rfl
@[simp] theorem setBand_ctoBad (b : Nat) (x : Band) (s : State) : (setBand b x s).ctoBad = s.ctoBad := rfl
@[simp] theorem setBand_ctoOverride (b : Nat) (x : Band) (s : State) :
    (setBand b x s).ctoOverride = s.ctoOverride := rfl
@[simp] theorem setBand_bmlRid (b : Nat) (x : Band) (s : State) : (setBand b x s).bmlRid = s.bmlRid := rfl
@[simp] theorem setBand_bmlPort (b : Nat) (x : Band) (s : State) : (setBand b x s).bmlPort = s.bmlPort := rfl
@[simp] theorem setBand_bmlCount (b : Nat) (x : Band) (s : State) : (setBand b x s).bmlCount = s.bmlCount := rfl
@[simp] theorem setBand_timeouts (b : Nat) (x : Band) (s : State) : (setBand b x s).timeouts = s.timeouts := rfl
@[simp] theorem setBand_unexpected (b : Nat) (x : Band) (s : State) : (setBand b x s).unexpected = s.unexpected := rfl
@[simp] theorem setBand_fns (b : Nat) (x : Band) (s : State) : (setBand b x s).fns = s.fns := rfl
@[simp] theorem setBand_nvm (b : Nat) (x : Band) (s : State) : (setBand b x s).nvm = s.nvm := rfl
@[simp] theorem setBand_media (b : Nat) (x : Band) (s : State) : (setBand b x s).media = s.media := rfl
@[simp] theorem setBand_ftl (b : Nat) (x : Band) (s : State) : (setBand b x s).ftl = s.ftl := rfl
@[simp] theorem setBand_flash (b : Nat) (x : Band) (s : State) : (setBand b x s).flash = s.flash := rfl
@[simp] theorem setBand_arm (b : Nat) (x : Band) (s : State) : (setBand b x s).arm = s.arm := rfl
@[simp] theorem setBand_hold (b : Nat) (x : Band) (s : State) : (setBand b x s).hold = s.hold := rfl
@[simp] theorem setBand_mqt (b : Nat) (x : Band) (s : State) : (setBand b x s).mqt = s.mqt := rfl
@[simp] theorem setBand_mgt (b : Nat) (x : Band) (s : State) : (setBand b x s).mgt = s.mgt := rfl
@[simp] theorem setBand_ksc (b : Nat) (x : Band) (s : State) : (setBand b x s).ksc = s.ksc := rfl
@[simp] theorem setBand_evs0 (b : Nat) (x : Band) (s : State) : (setBand b x s).evs0 = s.evs0 := rfl
@[simp] theorem setBand_evs1 (b : Nat) (x : Band) (s : State) : (setBand b x s).evs1 = s.evs1 := rfl
@[simp] theorem setBand_latch (b : Nat) (x : Band) (s : State) : (setBand b x s).latch = s.latch := rfl
@[simp] theorem setBand_free (b : Nat) (x : Band) (s : State) : (setBand b x s).free = s.free := rfl
@[simp] theorem setBand_out (b : Nat) (x : Band) (s : State) : (setBand b x s).out = s.out := rfl
@[simp] theorem setBand_pending (b : Nat) (x : Band) (s : State) : (setBand b x s).pending = s.pending := rfl

/-! ## `setKey` -/

@[simp] theorem setKey_pwr (i : Nat) (k : KeySlot) (s : State) : (setKey i k s).pwr = s.pwr := rfl
@[simp] theorem setKey_fuses (i : Nat) (k : KeySlot) (s : State) : (setKey i k s).fuses = s.fuses := rfl
@[simp] theorem setKey_boot (i : Nat) (k : KeySlot) (s : State) : (setKey i k s).boot = s.boot := rfl
@[simp] theorem setKey_vault (i : Nat) (k : KeySlot) (s : State) : (setKey i k s).vault = s.vault := rfl
@[simp] theorem setKey_rcv (i : Nat) (k : KeySlot) (s : State) : (setKey i k s).rcv = s.rcv := rfl
@[simp] theorem setKey_nor (i : Nat) (k : KeySlot) (s : State) : (setKey i k s).nor = s.nor := rfl
@[simp] theorem setKey_cfg (i : Nat) (k : KeySlot) (s : State) : (setKey i k s).cfg = s.cfg := rfl
@[simp] theorem setKey_trust (i : Nat) (k : KeySlot) (s : State) : (setKey i k s).trust = s.trust := rfl
@[simp] theorem setKey_evr (i : Nat) (k : KeySlot) (s : State) : (setKey i k s).evr = s.evr := rfl
@[simp] theorem setKey_upd (i : Nat) (k : KeySlot) (s : State) : (setKey i k s).upd = s.upd := rfl
@[simp] theorem setKey_port0 (i : Nat) (k : KeySlot) (s : State) : (setKey i k s).port0 = s.port0 := rfl
@[simp] theorem setKey_port1 (i : Nat) (k : KeySlot) (s : State) : (setKey i k s).port1 = s.port1 := rfl
@[simp] theorem setKey_ctoMs (i : Nat) (k : KeySlot) (s : State) : (setKey i k s).ctoMs = s.ctoMs := rfl
@[simp] theorem setKey_ctoBad (i : Nat) (k : KeySlot) (s : State) : (setKey i k s).ctoBad = s.ctoBad := rfl
@[simp] theorem setKey_ctoOverride (i : Nat) (k : KeySlot) (s : State) :
    (setKey i k s).ctoOverride = s.ctoOverride := rfl
@[simp] theorem setKey_bmlRid (i : Nat) (k : KeySlot) (s : State) : (setKey i k s).bmlRid = s.bmlRid := rfl
@[simp] theorem setKey_bmlPort (i : Nat) (k : KeySlot) (s : State) : (setKey i k s).bmlPort = s.bmlPort := rfl
@[simp] theorem setKey_bmlCount (i : Nat) (k : KeySlot) (s : State) : (setKey i k s).bmlCount = s.bmlCount := rfl
@[simp] theorem setKey_timeouts (i : Nat) (k : KeySlot) (s : State) : (setKey i k s).timeouts = s.timeouts := rfl
@[simp] theorem setKey_unexpected (i : Nat) (k : KeySlot) (s : State) :
    (setKey i k s).unexpected = s.unexpected := rfl
@[simp] theorem setKey_fns (i : Nat) (k : KeySlot) (s : State) : (setKey i k s).fns = s.fns := rfl
@[simp] theorem setKey_nvm (i : Nat) (k : KeySlot) (s : State) : (setKey i k s).nvm = s.nvm := rfl
@[simp] theorem setKey_media (i : Nat) (k : KeySlot) (s : State) : (setKey i k s).media = s.media := rfl
@[simp] theorem setKey_ftl (i : Nat) (k : KeySlot) (s : State) : (setKey i k s).ftl = s.ftl := rfl
@[simp] theorem setKey_flash (i : Nat) (k : KeySlot) (s : State) : (setKey i k s).flash = s.flash := rfl
@[simp] theorem setKey_arm (i : Nat) (k : KeySlot) (s : State) : (setKey i k s).arm = s.arm := rfl
@[simp] theorem setKey_hold (i : Nat) (k : KeySlot) (s : State) : (setKey i k s).hold = s.hold := rfl
@[simp] theorem setKey_mqt (i : Nat) (k : KeySlot) (s : State) : (setKey i k s).mqt = s.mqt := rfl
@[simp] theorem setKey_mgt (i : Nat) (k : KeySlot) (s : State) : (setKey i k s).mgt = s.mgt := rfl
@[simp] theorem setKey_ksc (i : Nat) (k : KeySlot) (s : State) : (setKey i k s).ksc = s.ksc := rfl
@[simp] theorem setKey_evs0 (i : Nat) (k : KeySlot) (s : State) : (setKey i k s).evs0 = s.evs0 := rfl
@[simp] theorem setKey_evs1 (i : Nat) (k : KeySlot) (s : State) : (setKey i k s).evs1 = s.evs1 := rfl
@[simp] theorem setKey_latch (i : Nat) (k : KeySlot) (s : State) : (setKey i k s).latch = s.latch := rfl
@[simp] theorem setKey_free (i : Nat) (k : KeySlot) (s : State) : (setKey i k s).free = s.free := rfl
@[simp] theorem setKey_out (i : Nat) (k : KeySlot) (s : State) : (setKey i k s).out = s.out := rfl
@[simp] theorem setKey_pending (i : Nat) (k : KeySlot) (s : State) : (setKey i k s).pending = s.pending := rfl

/-! ## `setKs` -/

@[simp] theorem setKs_pwr (pf : Pf) (k : KsRegs) (s : State) : (setKs pf k s).pwr = s.pwr := by cases pf <;> rfl
@[simp] theorem setKs_fuses (pf : Pf) (k : KsRegs) (s : State) : (setKs pf k s).fuses = s.fuses := by cases pf <;> rfl
@[simp] theorem setKs_boot (pf : Pf) (k : KsRegs) (s : State) : (setKs pf k s).boot = s.boot := by cases pf <;> rfl
@[simp] theorem setKs_vault (pf : Pf) (k : KsRegs) (s : State) : (setKs pf k s).vault = s.vault := by cases pf <;> rfl
@[simp] theorem setKs_rcv (pf : Pf) (k : KsRegs) (s : State) : (setKs pf k s).rcv = s.rcv := by cases pf <;> rfl
@[simp] theorem setKs_nor (pf : Pf) (k : KsRegs) (s : State) : (setKs pf k s).nor = s.nor := by cases pf <;> rfl
@[simp] theorem setKs_cfg (pf : Pf) (k : KsRegs) (s : State) : (setKs pf k s).cfg = s.cfg := by cases pf <;> rfl
@[simp] theorem setKs_evr (pf : Pf) (k : KsRegs) (s : State) : (setKs pf k s).evr = s.evr := by cases pf <;> rfl
@[simp] theorem setKs_upd (pf : Pf) (k : KsRegs) (s : State) : (setKs pf k s).upd = s.upd := by cases pf <;> rfl
@[simp] theorem setKs_port0 (pf : Pf) (k : KsRegs) (s : State) : (setKs pf k s).port0 = s.port0 := by cases pf <;> rfl
@[simp] theorem setKs_port1 (pf : Pf) (k : KsRegs) (s : State) : (setKs pf k s).port1 = s.port1 := by cases pf <;> rfl
@[simp] theorem setKs_ctoMs (pf : Pf) (k : KsRegs) (s : State) : (setKs pf k s).ctoMs = s.ctoMs := by cases pf <;> rfl
@[simp] theorem setKs_ctoBad (pf : Pf) (k : KsRegs) (s : State) :
    (setKs pf k s).ctoBad = s.ctoBad := by cases pf <;> rfl
@[simp] theorem setKs_ctoOverride (pf : Pf) (k : KsRegs) (s : State) :
    (setKs pf k s).ctoOverride = s.ctoOverride := by cases pf <;> rfl
@[simp] theorem setKs_bmlRid (pf : Pf) (k : KsRegs) (s : State) :
    (setKs pf k s).bmlRid = s.bmlRid := by cases pf <;> rfl
@[simp] theorem setKs_bmlPort (pf : Pf) (k : KsRegs) (s : State) :
    (setKs pf k s).bmlPort = s.bmlPort := by cases pf <;> rfl
@[simp] theorem setKs_bmlCount (pf : Pf) (k : KsRegs) (s : State) :
    (setKs pf k s).bmlCount = s.bmlCount := by cases pf <;> rfl
@[simp] theorem setKs_timeouts (pf : Pf) (k : KsRegs) (s : State) :
    (setKs pf k s).timeouts = s.timeouts := by cases pf <;> rfl
@[simp] theorem setKs_unexpected (pf : Pf) (k : KsRegs) (s : State) :
    (setKs pf k s).unexpected = s.unexpected := by cases pf <;> rfl
@[simp] theorem setKs_fns (pf : Pf) (k : KsRegs) (s : State) : (setKs pf k s).fns = s.fns := by cases pf <;> rfl
@[simp] theorem setKs_nvm (pf : Pf) (k : KsRegs) (s : State) : (setKs pf k s).nvm = s.nvm := by cases pf <;> rfl
@[simp] theorem setKs_tab (pf : Pf) (k : KsRegs) (s : State) : (setKs pf k s).tab = s.tab := by cases pf <;> rfl
@[simp] theorem setKs_media (pf : Pf) (k : KsRegs) (s : State) : (setKs pf k s).media = s.media := by cases pf <;> rfl
@[simp] theorem setKs_ftl (pf : Pf) (k : KsRegs) (s : State) : (setKs pf k s).ftl = s.ftl := by cases pf <;> rfl
@[simp] theorem setKs_flash (pf : Pf) (k : KsRegs) (s : State) : (setKs pf k s).flash = s.flash := by cases pf <;> rfl
@[simp] theorem setKs_arm (pf : Pf) (k : KsRegs) (s : State) : (setKs pf k s).arm = s.arm := by cases pf <;> rfl
@[simp] theorem setKs_hold (pf : Pf) (k : KsRegs) (s : State) : (setKs pf k s).hold = s.hold := by cases pf <;> rfl
@[simp] theorem setKs_mqt (pf : Pf) (k : KsRegs) (s : State) : (setKs pf k s).mqt = s.mqt := by cases pf <;> rfl
@[simp] theorem setKs_mgt (pf : Pf) (k : KsRegs) (s : State) : (setKs pf k s).mgt = s.mgt := by cases pf <;> rfl
@[simp] theorem setKs_ksc (pf : Pf) (k : KsRegs) (s : State) : (setKs pf k s).ksc = s.ksc := by cases pf <;> rfl
@[simp] theorem setKs_evs0 (pf : Pf) (k : KsRegs) (s : State) : (setKs pf k s).evs0 = s.evs0 := by cases pf <;> rfl
@[simp] theorem setKs_evs1 (pf : Pf) (k : KsRegs) (s : State) : (setKs pf k s).evs1 = s.evs1 := by cases pf <;> rfl
@[simp] theorem setKs_latch (pf : Pf) (k : KsRegs) (s : State) : (setKs pf k s).latch = s.latch := by cases pf <;> rfl
@[simp] theorem setKs_free (pf : Pf) (k : KsRegs) (s : State) : (setKs pf k s).free = s.free := by cases pf <;> rfl
@[simp] theorem setKs_out (pf : Pf) (k : KsRegs) (s : State) : (setKs pf k s).out = s.out := by cases pf <;> rfl
@[simp] theorem setKs_pending (pf : Pf) (k : KsRegs) (s : State) :
    (setKs pf k s).pending = s.pending := by cases pf <;> rfl

/-! ## `setSpdm` -/

@[simp] theorem setSpdm_pwr (i : SpdmInst) (x : Spdm) (s : State) :
    (setSpdm i x s).pwr = s.pwr := by rcases i with (_ | _) | _ <;> rfl
@[simp] theorem setSpdm_fuses (i : SpdmInst) (x : Spdm) (s : State) :
    (setSpdm i x s).fuses = s.fuses := by rcases i with (_ | _) | _ <;> rfl
@[simp] theorem setSpdm_boot (i : SpdmInst) (x : Spdm) (s : State) :
    (setSpdm i x s).boot = s.boot := by rcases i with (_ | _) | _ <;> rfl
@[simp] theorem setSpdm_vault (i : SpdmInst) (x : Spdm) (s : State) :
    (setSpdm i x s).vault = s.vault := by rcases i with (_ | _) | _ <;> rfl
@[simp] theorem setSpdm_rcv (i : SpdmInst) (x : Spdm) (s : State) :
    (setSpdm i x s).rcv = s.rcv := by rcases i with (_ | _) | _ <;> rfl
@[simp] theorem setSpdm_nor (i : SpdmInst) (x : Spdm) (s : State) :
    (setSpdm i x s).nor = s.nor := by rcases i with (_ | _) | _ <;> rfl
@[simp] theorem setSpdm_cfg (i : SpdmInst) (x : Spdm) (s : State) :
    (setSpdm i x s).cfg = s.cfg := by rcases i with (_ | _) | _ <;> rfl
@[simp] theorem setSpdm_evr (i : SpdmInst) (x : Spdm) (s : State) :
    (setSpdm i x s).evr = s.evr := by rcases i with (_ | _) | _ <;> rfl
@[simp] theorem setSpdm_upd (i : SpdmInst) (x : Spdm) (s : State) :
    (setSpdm i x s).upd = s.upd := by rcases i with (_ | _) | _ <;> rfl
@[simp] theorem setSpdm_port0 (i : SpdmInst) (x : Spdm) (s : State) :
    (setSpdm i x s).port0 = s.port0 := by rcases i with (_ | _) | _ <;> rfl
@[simp] theorem setSpdm_port1 (i : SpdmInst) (x : Spdm) (s : State) :
    (setSpdm i x s).port1 = s.port1 := by rcases i with (_ | _) | _ <;> rfl
@[simp] theorem setSpdm_ctoMs (i : SpdmInst) (x : Spdm) (s : State) :
    (setSpdm i x s).ctoMs = s.ctoMs := by rcases i with (_ | _) | _ <;> rfl
@[simp] theorem setSpdm_ctoBad (i : SpdmInst) (x : Spdm) (s : State) :
    (setSpdm i x s).ctoBad = s.ctoBad := by rcases i with (_ | _) | _ <;> rfl
@[simp] theorem setSpdm_ctoOverride (i : SpdmInst) (x : Spdm) (s : State) :
    (setSpdm i x s).ctoOverride = s.ctoOverride := by rcases i with (_ | _) | _ <;> rfl
@[simp] theorem setSpdm_bmlRid (i : SpdmInst) (x : Spdm) (s : State) :
    (setSpdm i x s).bmlRid = s.bmlRid := by rcases i with (_ | _) | _ <;> rfl
@[simp] theorem setSpdm_bmlPort (i : SpdmInst) (x : Spdm) (s : State) :
    (setSpdm i x s).bmlPort = s.bmlPort := by rcases i with (_ | _) | _ <;> rfl
@[simp] theorem setSpdm_bmlCount (i : SpdmInst) (x : Spdm) (s : State) :
    (setSpdm i x s).bmlCount = s.bmlCount := by rcases i with (_ | _) | _ <;> rfl
@[simp] theorem setSpdm_timeouts (i : SpdmInst) (x : Spdm) (s : State) :
    (setSpdm i x s).timeouts = s.timeouts := by rcases i with (_ | _) | _ <;> rfl
@[simp] theorem setSpdm_unexpected (i : SpdmInst) (x : Spdm) (s : State) :
    (setSpdm i x s).unexpected = s.unexpected := by rcases i with (_ | _) | _ <;> rfl
@[simp] theorem setSpdm_fns (i : SpdmInst) (x : Spdm) (s : State) :
    (setSpdm i x s).fns = s.fns := by rcases i with (_ | _) | _ <;> rfl
@[simp] theorem setSpdm_nvm (i : SpdmInst) (x : Spdm) (s : State) :
    (setSpdm i x s).nvm = s.nvm := by rcases i with (_ | _) | _ <;> rfl
@[simp] theorem setSpdm_tab (i : SpdmInst) (x : Spdm) (s : State) :
    (setSpdm i x s).tab = s.tab := by rcases i with (_ | _) | _ <;> rfl
@[simp] theorem setSpdm_media (i : SpdmInst) (x : Spdm) (s : State) :
    (setSpdm i x s).media = s.media := by rcases i with (_ | _) | _ <;> rfl
@[simp] theorem setSpdm_ftl (i : SpdmInst) (x : Spdm) (s : State) :
    (setSpdm i x s).ftl = s.ftl := by rcases i with (_ | _) | _ <;> rfl
@[simp] theorem setSpdm_flash (i : SpdmInst) (x : Spdm) (s : State) :
    (setSpdm i x s).flash = s.flash := by rcases i with (_ | _) | _ <;> rfl
@[simp] theorem setSpdm_arm (i : SpdmInst) (x : Spdm) (s : State) :
    (setSpdm i x s).arm = s.arm := by rcases i with (_ | _) | _ <;> rfl
@[simp] theorem setSpdm_hold (i : SpdmInst) (x : Spdm) (s : State) :
    (setSpdm i x s).hold = s.hold := by rcases i with (_ | _) | _ <;> rfl
@[simp] theorem setSpdm_mqt (i : SpdmInst) (x : Spdm) (s : State) :
    (setSpdm i x s).mqt = s.mqt := by rcases i with (_ | _) | _ <;> rfl
@[simp] theorem setSpdm_mgt (i : SpdmInst) (x : Spdm) (s : State) :
    (setSpdm i x s).mgt = s.mgt := by rcases i with (_ | _) | _ <;> rfl
@[simp] theorem setSpdm_ksc (i : SpdmInst) (x : Spdm) (s : State) :
    (setSpdm i x s).ksc = s.ksc := by rcases i with (_ | _) | _ <;> rfl
@[simp] theorem setSpdm_evs0 (i : SpdmInst) (x : Spdm) (s : State) :
    (setSpdm i x s).evs0 = s.evs0 := by rcases i with (_ | _) | _ <;> rfl
@[simp] theorem setSpdm_evs1 (i : SpdmInst) (x : Spdm) (s : State) :
    (setSpdm i x s).evs1 = s.evs1 := by rcases i with (_ | _) | _ <;> rfl
@[simp] theorem setSpdm_latch (i : SpdmInst) (x : Spdm) (s : State) :
    (setSpdm i x s).latch = s.latch := by rcases i with (_ | _) | _ <;> rfl
@[simp] theorem setSpdm_free (i : SpdmInst) (x : Spdm) (s : State) :
    (setSpdm i x s).free = s.free := by rcases i with (_ | _) | _ <;> rfl
@[simp] theorem setSpdm_out (i : SpdmInst) (x : Spdm) (s : State) :
    (setSpdm i x s).out = s.out := by rcases i with (_ | _) | _ <;> rfl
@[simp] theorem setSpdm_pending (i : SpdmInst) (x : Spdm) (s : State) :
    (setSpdm i x s).pending = s.pending := by rcases i with (_ | _) | _ <;> rfl

/-! ## `setBank` -/

@[simp] theorem setBank_pwr (b : Pf) (x : Bank) (s : State) : (setBank b x s).pwr = s.pwr := by cases b <;> rfl
@[simp] theorem setBank_fuses (b : Pf) (x : Bank) (s : State) : (setBank b x s).fuses = s.fuses := by cases b <;> rfl
@[simp] theorem setBank_boot (b : Pf) (x : Bank) (s : State) : (setBank b x s).boot = s.boot := by cases b <;> rfl
@[simp] theorem setBank_vault (b : Pf) (x : Bank) (s : State) : (setBank b x s).vault = s.vault := by cases b <;> rfl
@[simp] theorem setBank_rcv (b : Pf) (x : Bank) (s : State) : (setBank b x s).rcv = s.rcv := by cases b <;> rfl
@[simp] theorem setBank_cfg (b : Pf) (x : Bank) (s : State) : (setBank b x s).cfg = s.cfg := by cases b <;> rfl
@[simp] theorem setBank_trust (b : Pf) (x : Bank) (s : State) : (setBank b x s).trust = s.trust := by cases b <;> rfl
@[simp] theorem setBank_evr (b : Pf) (x : Bank) (s : State) : (setBank b x s).evr = s.evr := by cases b <;> rfl
@[simp] theorem setBank_upd (b : Pf) (x : Bank) (s : State) : (setBank b x s).upd = s.upd := by cases b <;> rfl
@[simp] theorem setBank_port0 (b : Pf) (x : Bank) (s : State) : (setBank b x s).port0 = s.port0 := by cases b <;> rfl
@[simp] theorem setBank_port1 (b : Pf) (x : Bank) (s : State) : (setBank b x s).port1 = s.port1 := by cases b <;> rfl
@[simp] theorem setBank_ctoMs (b : Pf) (x : Bank) (s : State) : (setBank b x s).ctoMs = s.ctoMs := by cases b <;> rfl
@[simp] theorem setBank_ctoBad (b : Pf) (x : Bank) (s : State) :
    (setBank b x s).ctoBad = s.ctoBad := by cases b <;> rfl
@[simp] theorem setBank_ctoOverride (b : Pf) (x : Bank) (s : State) :
    (setBank b x s).ctoOverride = s.ctoOverride := by cases b <;> rfl
@[simp] theorem setBank_bmlRid (b : Pf) (x : Bank) (s : State) :
    (setBank b x s).bmlRid = s.bmlRid := by cases b <;> rfl
@[simp] theorem setBank_bmlPort (b : Pf) (x : Bank) (s : State) :
    (setBank b x s).bmlPort = s.bmlPort := by cases b <;> rfl
@[simp] theorem setBank_bmlCount (b : Pf) (x : Bank) (s : State) :
    (setBank b x s).bmlCount = s.bmlCount := by cases b <;> rfl
@[simp] theorem setBank_timeouts (b : Pf) (x : Bank) (s : State) :
    (setBank b x s).timeouts = s.timeouts := by cases b <;> rfl
@[simp] theorem setBank_unexpected (b : Pf) (x : Bank) (s : State) :
    (setBank b x s).unexpected = s.unexpected := by cases b <;> rfl
@[simp] theorem setBank_fns (b : Pf) (x : Bank) (s : State) : (setBank b x s).fns = s.fns := by cases b <;> rfl
@[simp] theorem setBank_nvm (b : Pf) (x : Bank) (s : State) : (setBank b x s).nvm = s.nvm := by cases b <;> rfl
@[simp] theorem setBank_tab (b : Pf) (x : Bank) (s : State) : (setBank b x s).tab = s.tab := by cases b <;> rfl
@[simp] theorem setBank_media (b : Pf) (x : Bank) (s : State) : (setBank b x s).media = s.media := by cases b <;> rfl
@[simp] theorem setBank_ftl (b : Pf) (x : Bank) (s : State) : (setBank b x s).ftl = s.ftl := by cases b <;> rfl
@[simp] theorem setBank_flash (b : Pf) (x : Bank) (s : State) : (setBank b x s).flash = s.flash := by cases b <;> rfl
@[simp] theorem setBank_arm (b : Pf) (x : Bank) (s : State) : (setBank b x s).arm = s.arm := by cases b <;> rfl
@[simp] theorem setBank_hold (b : Pf) (x : Bank) (s : State) : (setBank b x s).hold = s.hold := by cases b <;> rfl
@[simp] theorem setBank_mqt (b : Pf) (x : Bank) (s : State) : (setBank b x s).mqt = s.mqt := by cases b <;> rfl
@[simp] theorem setBank_mgt (b : Pf) (x : Bank) (s : State) : (setBank b x s).mgt = s.mgt := by cases b <;> rfl
@[simp] theorem setBank_ksc (b : Pf) (x : Bank) (s : State) : (setBank b x s).ksc = s.ksc := by cases b <;> rfl
@[simp] theorem setBank_evs0 (b : Pf) (x : Bank) (s : State) : (setBank b x s).evs0 = s.evs0 := by cases b <;> rfl
@[simp] theorem setBank_evs1 (b : Pf) (x : Bank) (s : State) : (setBank b x s).evs1 = s.evs1 := by cases b <;> rfl
@[simp] theorem setBank_latch (b : Pf) (x : Bank) (s : State) : (setBank b x s).latch = s.latch := by cases b <;> rfl
@[simp] theorem setBank_free (b : Pf) (x : Bank) (s : State) : (setBank b x s).free = s.free := by cases b <;> rfl
@[simp] theorem setBank_out (b : Pf) (x : Bank) (s : State) : (setBank b x s).out = s.out := by cases b <;> rfl
@[simp] theorem setBank_pending (b : Pf) (x : Bank) (s : State) :
    (setBank b x s).pending = s.pending := by cases b <;> rfl

/-! ## `modBank` -/

@[simp] theorem modBank_pwr (b : Pf) (g : Bank → Bank) (s : State) : (modBank b g s).pwr = s.pwr := by cases b <;> rfl
@[simp] theorem modBank_fuses (b : Pf) (g : Bank → Bank) (s : State) :
    (modBank b g s).fuses = s.fuses := by cases b <;> rfl
@[simp] theorem modBank_boot (b : Pf) (g : Bank → Bank) (s : State) :
    (modBank b g s).boot = s.boot := by cases b <;> rfl
@[simp] theorem modBank_vault (b : Pf) (g : Bank → Bank) (s : State) :
    (modBank b g s).vault = s.vault := by cases b <;> rfl
@[simp] theorem modBank_rcv (b : Pf) (g : Bank → Bank) (s : State) : (modBank b g s).rcv = s.rcv := by cases b <;> rfl
@[simp] theorem modBank_cfg (b : Pf) (g : Bank → Bank) (s : State) : (modBank b g s).cfg = s.cfg := by cases b <;> rfl
@[simp] theorem modBank_trust (b : Pf) (g : Bank → Bank) (s : State) :
    (modBank b g s).trust = s.trust := by cases b <;> rfl
@[simp] theorem modBank_evr (b : Pf) (g : Bank → Bank) (s : State) : (modBank b g s).evr = s.evr := by cases b <;> rfl
@[simp] theorem modBank_upd (b : Pf) (g : Bank → Bank) (s : State) : (modBank b g s).upd = s.upd := by cases b <;> rfl
@[simp] theorem modBank_port0 (b : Pf) (g : Bank → Bank) (s : State) :
    (modBank b g s).port0 = s.port0 := by cases b <;> rfl
@[simp] theorem modBank_port1 (b : Pf) (g : Bank → Bank) (s : State) :
    (modBank b g s).port1 = s.port1 := by cases b <;> rfl
@[simp] theorem modBank_ctoMs (b : Pf) (g : Bank → Bank) (s : State) :
    (modBank b g s).ctoMs = s.ctoMs := by cases b <;> rfl
@[simp] theorem modBank_ctoBad (b : Pf) (g : Bank → Bank) (s : State) :
    (modBank b g s).ctoBad = s.ctoBad := by cases b <;> rfl
@[simp] theorem modBank_ctoOverride (b : Pf) (g : Bank → Bank) (s : State) :
    (modBank b g s).ctoOverride = s.ctoOverride := by cases b <;> rfl
@[simp] theorem modBank_bmlRid (b : Pf) (g : Bank → Bank) (s : State) :
    (modBank b g s).bmlRid = s.bmlRid := by cases b <;> rfl
@[simp] theorem modBank_bmlPort (b : Pf) (g : Bank → Bank) (s : State) :
    (modBank b g s).bmlPort = s.bmlPort := by cases b <;> rfl
@[simp] theorem modBank_bmlCount (b : Pf) (g : Bank → Bank) (s : State) :
    (modBank b g s).bmlCount = s.bmlCount := by cases b <;> rfl
@[simp] theorem modBank_timeouts (b : Pf) (g : Bank → Bank) (s : State) :
    (modBank b g s).timeouts = s.timeouts := by cases b <;> rfl
@[simp] theorem modBank_unexpected (b : Pf) (g : Bank → Bank) (s : State) :
    (modBank b g s).unexpected = s.unexpected := by cases b <;> rfl
@[simp] theorem modBank_fns (b : Pf) (g : Bank → Bank) (s : State) : (modBank b g s).fns = s.fns := by cases b <;> rfl
@[simp] theorem modBank_nvm (b : Pf) (g : Bank → Bank) (s : State) : (modBank b g s).nvm = s.nvm := by cases b <;> rfl
@[simp] theorem modBank_tab (b : Pf) (g : Bank → Bank) (s : State) : (modBank b g s).tab = s.tab := by cases b <;> rfl
@[simp] theorem modBank_media (b : Pf) (g : Bank → Bank) (s : State) :
    (modBank b g s).media = s.media := by cases b <;> rfl
@[simp] theorem modBank_ftl (b : Pf) (g : Bank → Bank) (s : State) : (modBank b g s).ftl = s.ftl := by cases b <;> rfl
@[simp] theorem modBank_flash (b : Pf) (g : Bank → Bank) (s : State) :
    (modBank b g s).flash = s.flash := by cases b <;> rfl
@[simp] theorem modBank_arm (b : Pf) (g : Bank → Bank) (s : State) : (modBank b g s).arm = s.arm := by cases b <;> rfl
@[simp] theorem modBank_hold (b : Pf) (g : Bank → Bank) (s : State) :
    (modBank b g s).hold = s.hold := by cases b <;> rfl
@[simp] theorem modBank_mqt (b : Pf) (g : Bank → Bank) (s : State) : (modBank b g s).mqt = s.mqt := by cases b <;> rfl
@[simp] theorem modBank_mgt (b : Pf) (g : Bank → Bank) (s : State) : (modBank b g s).mgt = s.mgt := by cases b <;> rfl
@[simp] theorem modBank_ksc (b : Pf) (g : Bank → Bank) (s : State) : (modBank b g s).ksc = s.ksc := by cases b <;> rfl
@[simp] theorem modBank_evs0 (b : Pf) (g : Bank → Bank) (s : State) :
    (modBank b g s).evs0 = s.evs0 := by cases b <;> rfl
@[simp] theorem modBank_evs1 (b : Pf) (g : Bank → Bank) (s : State) :
    (modBank b g s).evs1 = s.evs1 := by cases b <;> rfl
@[simp] theorem modBank_latch (b : Pf) (g : Bank → Bank) (s : State) :
    (modBank b g s).latch = s.latch := by cases b <;> rfl
@[simp] theorem modBank_free (b : Pf) (g : Bank → Bank) (s : State) :
    (modBank b g s).free = s.free := by cases b <;> rfl
@[simp] theorem modBank_out (b : Pf) (g : Bank → Bank) (s : State) : (modBank b g s).out = s.out := by cases b <;> rfl
@[simp] theorem modBank_pending (b : Pf) (g : Bank → Bank) (s : State) :
    (modBank b g s).pending = s.pending := by cases b <;> rfl

/-! ## `setSlot` -/

@[simp] theorem setSlot_pwr (i : Nat) (x : ArmSlot) (s : State) : (setSlot i x s).pwr = s.pwr := rfl
@[simp] theorem setSlot_fuses (i : Nat) (x : ArmSlot) (s : State) : (setSlot i x s).fuses = s.fuses := rfl
@[simp] theorem setSlot_boot (i : Nat) (x : ArmSlot) (s : State) : (setSlot i x s).boot = s.boot := rfl
@[simp] theorem setSlot_vault (i : Nat) (x : ArmSlot) (s : State) : (setSlot i x s).vault = s.vault := rfl
@[simp] theorem setSlot_rcv (i : Nat) (x : ArmSlot) (s : State) : (setSlot i x s).rcv = s.rcv := rfl
@[simp] theorem setSlot_nor (i : Nat) (x : ArmSlot) (s : State) : (setSlot i x s).nor = s.nor := rfl
@[simp] theorem setSlot_cfg (i : Nat) (x : ArmSlot) (s : State) : (setSlot i x s).cfg = s.cfg := rfl
@[simp] theorem setSlot_trust (i : Nat) (x : ArmSlot) (s : State) : (setSlot i x s).trust = s.trust := rfl
@[simp] theorem setSlot_evr (i : Nat) (x : ArmSlot) (s : State) : (setSlot i x s).evr = s.evr := rfl
@[simp] theorem setSlot_upd (i : Nat) (x : ArmSlot) (s : State) : (setSlot i x s).upd = s.upd := rfl
@[simp] theorem setSlot_port0 (i : Nat) (x : ArmSlot) (s : State) : (setSlot i x s).port0 = s.port0 := rfl
@[simp] theorem setSlot_port1 (i : Nat) (x : ArmSlot) (s : State) : (setSlot i x s).port1 = s.port1 := rfl
@[simp] theorem setSlot_ctoMs (i : Nat) (x : ArmSlot) (s : State) : (setSlot i x s).ctoMs = s.ctoMs := rfl
@[simp] theorem setSlot_ctoBad (i : Nat) (x : ArmSlot) (s : State) : (setSlot i x s).ctoBad = s.ctoBad := rfl
@[simp] theorem setSlot_ctoOverride (i : Nat) (x : ArmSlot) (s : State) :
    (setSlot i x s).ctoOverride = s.ctoOverride := rfl
@[simp] theorem setSlot_bmlRid (i : Nat) (x : ArmSlot) (s : State) : (setSlot i x s).bmlRid = s.bmlRid := rfl
@[simp] theorem setSlot_bmlPort (i : Nat) (x : ArmSlot) (s : State) : (setSlot i x s).bmlPort = s.bmlPort := rfl
@[simp] theorem setSlot_bmlCount (i : Nat) (x : ArmSlot) (s : State) : (setSlot i x s).bmlCount = s.bmlCount := rfl
@[simp] theorem setSlot_timeouts (i : Nat) (x : ArmSlot) (s : State) : (setSlot i x s).timeouts = s.timeouts := rfl
@[simp] theorem setSlot_unexpected (i : Nat) (x : ArmSlot) (s : State) :
    (setSlot i x s).unexpected = s.unexpected := rfl
@[simp] theorem setSlot_fns (i : Nat) (x : ArmSlot) (s : State) : (setSlot i x s).fns = s.fns := rfl
@[simp] theorem setSlot_nvm (i : Nat) (x : ArmSlot) (s : State) : (setSlot i x s).nvm = s.nvm := rfl
@[simp] theorem setSlot_tab (i : Nat) (x : ArmSlot) (s : State) : (setSlot i x s).tab = s.tab := rfl
@[simp] theorem setSlot_media (i : Nat) (x : ArmSlot) (s : State) : (setSlot i x s).media = s.media := rfl
@[simp] theorem setSlot_ftl (i : Nat) (x : ArmSlot) (s : State) : (setSlot i x s).ftl = s.ftl := rfl
@[simp] theorem setSlot_flash (i : Nat) (x : ArmSlot) (s : State) : (setSlot i x s).flash = s.flash := rfl
@[simp] theorem setSlot_hold (i : Nat) (x : ArmSlot) (s : State) : (setSlot i x s).hold = s.hold := rfl
@[simp] theorem setSlot_mqt (i : Nat) (x : ArmSlot) (s : State) : (setSlot i x s).mqt = s.mqt := rfl
@[simp] theorem setSlot_mgt (i : Nat) (x : ArmSlot) (s : State) : (setSlot i x s).mgt = s.mgt := rfl
@[simp] theorem setSlot_ksc (i : Nat) (x : ArmSlot) (s : State) : (setSlot i x s).ksc = s.ksc := rfl
@[simp] theorem setSlot_evs0 (i : Nat) (x : ArmSlot) (s : State) : (setSlot i x s).evs0 = s.evs0 := rfl
@[simp] theorem setSlot_evs1 (i : Nat) (x : ArmSlot) (s : State) : (setSlot i x s).evs1 = s.evs1 := rfl
@[simp] theorem setSlot_latch (i : Nat) (x : ArmSlot) (s : State) : (setSlot i x s).latch = s.latch := rfl
@[simp] theorem setSlot_free (i : Nat) (x : ArmSlot) (s : State) : (setSlot i x s).free = s.free := rfl
@[simp] theorem setSlot_out (i : Nat) (x : ArmSlot) (s : State) : (setSlot i x s).out = s.out := rfl
@[simp] theorem setSlot_pending (i : Nat) (x : ArmSlot) (s : State) : (setSlot i x s).pending = s.pending := rfl

/-! ## `setSess` -/

@[simp] theorem setSess_pwr (x : MqSess) (s : State) : (setSess x s).pwr = s.pwr := rfl
@[simp] theorem setSess_fuses (x : MqSess) (s : State) : (setSess x s).fuses = s.fuses := rfl
@[simp] theorem setSess_boot (x : MqSess) (s : State) : (setSess x s).boot = s.boot := rfl
@[simp] theorem setSess_vault (x : MqSess) (s : State) : (setSess x s).vault = s.vault := rfl
@[simp] theorem setSess_rcv (x : MqSess) (s : State) : (setSess x s).rcv = s.rcv := rfl
@[simp] theorem setSess_nor (x : MqSess) (s : State) : (setSess x s).nor = s.nor := rfl
@[simp] theorem setSess_cfg (x : MqSess) (s : State) : (setSess x s).cfg = s.cfg := rfl
@[simp] theorem setSess_trust (x : MqSess) (s : State) : (setSess x s).trust = s.trust := rfl
@[simp] theorem setSess_evr (x : MqSess) (s : State) : (setSess x s).evr = s.evr := rfl
@[simp] theorem setSess_upd (x : MqSess) (s : State) : (setSess x s).upd = s.upd := rfl
@[simp] theorem setSess_port0 (x : MqSess) (s : State) : (setSess x s).port0 = s.port0 := rfl
@[simp] theorem setSess_port1 (x : MqSess) (s : State) : (setSess x s).port1 = s.port1 := rfl
@[simp] theorem setSess_ctoMs (x : MqSess) (s : State) : (setSess x s).ctoMs = s.ctoMs := rfl
@[simp] theorem setSess_ctoBad (x : MqSess) (s : State) : (setSess x s).ctoBad = s.ctoBad := rfl
@[simp] theorem setSess_ctoOverride (x : MqSess) (s : State) : (setSess x s).ctoOverride = s.ctoOverride := rfl
@[simp] theorem setSess_bmlRid (x : MqSess) (s : State) : (setSess x s).bmlRid = s.bmlRid := rfl
@[simp] theorem setSess_bmlPort (x : MqSess) (s : State) : (setSess x s).bmlPort = s.bmlPort := rfl
@[simp] theorem setSess_bmlCount (x : MqSess) (s : State) : (setSess x s).bmlCount = s.bmlCount := rfl
@[simp] theorem setSess_timeouts (x : MqSess) (s : State) : (setSess x s).timeouts = s.timeouts := rfl
@[simp] theorem setSess_unexpected (x : MqSess) (s : State) : (setSess x s).unexpected = s.unexpected := rfl
@[simp] theorem setSess_fns (x : MqSess) (s : State) : (setSess x s).fns = s.fns := rfl
@[simp] theorem setSess_nvm (x : MqSess) (s : State) : (setSess x s).nvm = s.nvm := rfl
@[simp] theorem setSess_tab (x : MqSess) (s : State) : (setSess x s).tab = s.tab := rfl
@[simp] theorem setSess_media (x : MqSess) (s : State) : (setSess x s).media = s.media := rfl
@[simp] theorem setSess_ftl (x : MqSess) (s : State) : (setSess x s).ftl = s.ftl := rfl
@[simp] theorem setSess_flash (x : MqSess) (s : State) : (setSess x s).flash = s.flash := rfl
@[simp] theorem setSess_arm (x : MqSess) (s : State) : (setSess x s).arm = s.arm := rfl
@[simp] theorem setSess_hold (x : MqSess) (s : State) : (setSess x s).hold = s.hold := rfl
@[simp] theorem setSess_mgt (x : MqSess) (s : State) : (setSess x s).mgt = s.mgt := rfl
@[simp] theorem setSess_ksc (x : MqSess) (s : State) : (setSess x s).ksc = s.ksc := rfl
@[simp] theorem setSess_evs0 (x : MqSess) (s : State) : (setSess x s).evs0 = s.evs0 := rfl
@[simp] theorem setSess_evs1 (x : MqSess) (s : State) : (setSess x s).evs1 = s.evs1 := rfl
@[simp] theorem setSess_latch (x : MqSess) (s : State) : (setSess x s).latch = s.latch := rfl
@[simp] theorem setSess_free (x : MqSess) (s : State) : (setSess x s).free = s.free := rfl
@[simp] theorem setSess_out (x : MqSess) (s : State) : (setSess x s).out = s.out := rfl
@[simp] theorem setSess_pending (x : MqSess) (s : State) : (setSess x s).pending = s.pending := rfl

/-! ## `drbgUse` -/

@[simp] theorem drbgUse_pwr (s : State) : (drbgUse s).pwr = s.pwr := rfl
@[simp] theorem drbgUse_fuses (s : State) : (drbgUse s).fuses = s.fuses := rfl
@[simp] theorem drbgUse_boot (s : State) : (drbgUse s).boot = s.boot := rfl
@[simp] theorem drbgUse_vault (s : State) : (drbgUse s).vault = s.vault := rfl
@[simp] theorem drbgUse_rcv (s : State) : (drbgUse s).rcv = s.rcv := rfl
@[simp] theorem drbgUse_nor (s : State) : (drbgUse s).nor = s.nor := rfl
@[simp] theorem drbgUse_cfg (s : State) : (drbgUse s).cfg = s.cfg := rfl
@[simp] theorem drbgUse_evr (s : State) : (drbgUse s).evr = s.evr := rfl
@[simp] theorem drbgUse_upd (s : State) : (drbgUse s).upd = s.upd := rfl
@[simp] theorem drbgUse_port0 (s : State) : (drbgUse s).port0 = s.port0 := rfl
@[simp] theorem drbgUse_port1 (s : State) : (drbgUse s).port1 = s.port1 := rfl
@[simp] theorem drbgUse_ctoMs (s : State) : (drbgUse s).ctoMs = s.ctoMs := rfl
@[simp] theorem drbgUse_ctoBad (s : State) : (drbgUse s).ctoBad = s.ctoBad := rfl
@[simp] theorem drbgUse_ctoOverride (s : State) : (drbgUse s).ctoOverride = s.ctoOverride := rfl
@[simp] theorem drbgUse_bmlRid (s : State) : (drbgUse s).bmlRid = s.bmlRid := rfl
@[simp] theorem drbgUse_bmlPort (s : State) : (drbgUse s).bmlPort = s.bmlPort := rfl
@[simp] theorem drbgUse_bmlCount (s : State) : (drbgUse s).bmlCount = s.bmlCount := rfl
@[simp] theorem drbgUse_timeouts (s : State) : (drbgUse s).timeouts = s.timeouts := rfl
@[simp] theorem drbgUse_unexpected (s : State) : (drbgUse s).unexpected = s.unexpected := rfl
@[simp] theorem drbgUse_fns (s : State) : (drbgUse s).fns = s.fns := rfl
@[simp] theorem drbgUse_nvm (s : State) : (drbgUse s).nvm = s.nvm := rfl
@[simp] theorem drbgUse_tab (s : State) : (drbgUse s).tab = s.tab := rfl
@[simp] theorem drbgUse_media (s : State) : (drbgUse s).media = s.media := rfl
@[simp] theorem drbgUse_ftl (s : State) : (drbgUse s).ftl = s.ftl := rfl
@[simp] theorem drbgUse_flash (s : State) : (drbgUse s).flash = s.flash := rfl
@[simp] theorem drbgUse_arm (s : State) : (drbgUse s).arm = s.arm := rfl
@[simp] theorem drbgUse_hold (s : State) : (drbgUse s).hold = s.hold := rfl
@[simp] theorem drbgUse_mqt (s : State) : (drbgUse s).mqt = s.mqt := rfl
@[simp] theorem drbgUse_mgt (s : State) : (drbgUse s).mgt = s.mgt := rfl
@[simp] theorem drbgUse_ksc (s : State) : (drbgUse s).ksc = s.ksc := rfl
@[simp] theorem drbgUse_evs0 (s : State) : (drbgUse s).evs0 = s.evs0 := rfl
@[simp] theorem drbgUse_evs1 (s : State) : (drbgUse s).evs1 = s.evs1 := rfl
@[simp] theorem drbgUse_latch (s : State) : (drbgUse s).latch = s.latch := rfl
@[simp] theorem drbgUse_free (s : State) : (drbgUse s).free = s.free := rfl
@[simp] theorem drbgUse_out (s : State) : (drbgUse s).out = s.out := rfl
@[simp] theorem drbgUse_pending (s : State) : (drbgUse s).pending = s.pending := rfl

/-! ## `replaceStores` -/

@[simp] theorem replaceStores_pwr (gone : Store → Bool) (x : List Store) (s : State) :
    (replaceStores gone x s).pwr = s.pwr := rfl
@[simp] theorem replaceStores_fuses (gone : Store → Bool) (x : List Store) (s : State) :
    (replaceStores gone x s).fuses = s.fuses := rfl
@[simp] theorem replaceStores_boot (gone : Store → Bool) (x : List Store) (s : State) :
    (replaceStores gone x s).boot = s.boot := rfl
@[simp] theorem replaceStores_vault (gone : Store → Bool) (x : List Store) (s : State) :
    (replaceStores gone x s).vault = s.vault := rfl
@[simp] theorem replaceStores_rcv (gone : Store → Bool) (x : List Store) (s : State) :
    (replaceStores gone x s).rcv = s.rcv := rfl
@[simp] theorem replaceStores_nor (gone : Store → Bool) (x : List Store) (s : State) :
    (replaceStores gone x s).nor = s.nor := rfl
@[simp] theorem replaceStores_cfg (gone : Store → Bool) (x : List Store) (s : State) :
    (replaceStores gone x s).cfg = s.cfg := rfl
@[simp] theorem replaceStores_trust (gone : Store → Bool) (x : List Store) (s : State) :
    (replaceStores gone x s).trust = s.trust := rfl
@[simp] theorem replaceStores_evr (gone : Store → Bool) (x : List Store) (s : State) :
    (replaceStores gone x s).evr = s.evr := rfl
@[simp] theorem replaceStores_upd (gone : Store → Bool) (x : List Store) (s : State) :
    (replaceStores gone x s).upd = s.upd := rfl
@[simp] theorem replaceStores_port0 (gone : Store → Bool) (x : List Store) (s : State) :
    (replaceStores gone x s).port0 = s.port0 := rfl
@[simp] theorem replaceStores_port1 (gone : Store → Bool) (x : List Store) (s : State) :
    (replaceStores gone x s).port1 = s.port1 := rfl
@[simp] theorem replaceStores_ctoMs (gone : Store → Bool) (x : List Store) (s : State) :
    (replaceStores gone x s).ctoMs = s.ctoMs := rfl
@[simp] theorem replaceStores_ctoBad (gone : Store → Bool) (x : List Store) (s : State) :
    (replaceStores gone x s).ctoBad = s.ctoBad := rfl
@[simp] theorem replaceStores_ctoOverride (gone : Store → Bool) (x : List Store) (s : State) :
    (replaceStores gone x s).ctoOverride = s.ctoOverride := rfl
@[simp] theorem replaceStores_bmlRid (gone : Store → Bool) (x : List Store) (s : State) :
    (replaceStores gone x s).bmlRid = s.bmlRid := rfl
@[simp] theorem replaceStores_bmlPort (gone : Store → Bool) (x : List Store) (s : State) :
    (replaceStores gone x s).bmlPort = s.bmlPort := rfl
@[simp] theorem replaceStores_bmlCount (gone : Store → Bool) (x : List Store) (s : State) :
    (replaceStores gone x s).bmlCount = s.bmlCount := rfl
@[simp] theorem replaceStores_timeouts (gone : Store → Bool) (x : List Store) (s : State) :
    (replaceStores gone x s).timeouts = s.timeouts := rfl
@[simp] theorem replaceStores_unexpected (gone : Store → Bool) (x : List Store) (s : State) :
    (replaceStores gone x s).unexpected = s.unexpected := rfl
@[simp] theorem replaceStores_fns (gone : Store → Bool) (x : List Store) (s : State) :
    (replaceStores gone x s).fns = s.fns := rfl
@[simp] theorem replaceStores_nvm (gone : Store → Bool) (x : List Store) (s : State) :
    (replaceStores gone x s).nvm = s.nvm := rfl
@[simp] theorem replaceStores_tab (gone : Store → Bool) (x : List Store) (s : State) :
    (replaceStores gone x s).tab = s.tab := rfl
@[simp] theorem replaceStores_media (gone : Store → Bool) (x : List Store) (s : State) :
    (replaceStores gone x s).media = { s.media with stores := (s.media.stores.filter fun y => !gone y) ++ x } := rfl
@[simp] theorem replaceStores_ftl (gone : Store → Bool) (x : List Store) (s : State) :
    (replaceStores gone x s).ftl = s.ftl := rfl
@[simp] theorem replaceStores_flash (gone : Store → Bool) (x : List Store) (s : State) :
    (replaceStores gone x s).flash = s.flash := rfl
@[simp] theorem replaceStores_arm (gone : Store → Bool) (x : List Store) (s : State) :
    (replaceStores gone x s).arm = s.arm := rfl
@[simp] theorem replaceStores_hold (gone : Store → Bool) (x : List Store) (s : State) :
    (replaceStores gone x s).hold = s.hold := rfl
@[simp] theorem replaceStores_mqt (gone : Store → Bool) (x : List Store) (s : State) :
    (replaceStores gone x s).mqt = s.mqt := rfl
@[simp] theorem replaceStores_mgt (gone : Store → Bool) (x : List Store) (s : State) :
    (replaceStores gone x s).mgt = s.mgt := rfl
@[simp] theorem replaceStores_ksc (gone : Store → Bool) (x : List Store) (s : State) :
    (replaceStores gone x s).ksc = s.ksc := rfl
@[simp] theorem replaceStores_evs0 (gone : Store → Bool) (x : List Store) (s : State) :
    (replaceStores gone x s).evs0 = s.evs0 := rfl
@[simp] theorem replaceStores_evs1 (gone : Store → Bool) (x : List Store) (s : State) :
    (replaceStores gone x s).evs1 = s.evs1 := rfl
@[simp] theorem replaceStores_latch (gone : Store → Bool) (x : List Store) (s : State) :
    (replaceStores gone x s).latch = s.latch := rfl
@[simp] theorem replaceStores_free (gone : Store → Bool) (x : List Store) (s : State) :
    (replaceStores gone x s).free = s.free := rfl
@[simp] theorem replaceStores_out (gone : Store → Bool) (x : List Store) (s : State) :
    (replaceStores gone x s).out = s.out := rfl
@[simp] theorem replaceStores_pending (gone : Store → Bool) (x : List Store) (s : State) :
    (replaceStores gone x s).pending = s.pending := rfl

/-! ## `modSession` -/

@[simp] theorem modSession_pwr (i : SpdmInst) (id : Nat) (g : SpdmSess → SpdmSess) (s : State) :
    (modSession i id g s).pwr = s.pwr := by rcases i with (_ | _) | _ <;> rfl
@[simp] theorem modSession_fuses (i : SpdmInst) (id : Nat) (g : SpdmSess → SpdmSess) (s : State) :
    (modSession i id g s).fuses = s.fuses := by rcases i with (_ | _) | _ <;> rfl
@[simp] theorem modSession_boot (i : SpdmInst) (id : Nat) (g : SpdmSess → SpdmSess) (s : State) :
    (modSession i id g s).boot = s.boot := by rcases i with (_ | _) | _ <;> rfl
@[simp] theorem modSession_vault (i : SpdmInst) (id : Nat) (g : SpdmSess → SpdmSess) (s : State) :
    (modSession i id g s).vault = s.vault := by rcases i with (_ | _) | _ <;> rfl
@[simp] theorem modSession_rcv (i : SpdmInst) (id : Nat) (g : SpdmSess → SpdmSess) (s : State) :
    (modSession i id g s).rcv = s.rcv := by rcases i with (_ | _) | _ <;> rfl
@[simp] theorem modSession_nor (i : SpdmInst) (id : Nat) (g : SpdmSess → SpdmSess) (s : State) :
    (modSession i id g s).nor = s.nor := by rcases i with (_ | _) | _ <;> rfl
@[simp] theorem modSession_cfg (i : SpdmInst) (id : Nat) (g : SpdmSess → SpdmSess) (s : State) :
    (modSession i id g s).cfg = s.cfg := by rcases i with (_ | _) | _ <;> rfl
@[simp] theorem modSession_evr (i : SpdmInst) (id : Nat) (g : SpdmSess → SpdmSess) (s : State) :
    (modSession i id g s).evr = s.evr := by rcases i with (_ | _) | _ <;> rfl
@[simp] theorem modSession_upd (i : SpdmInst) (id : Nat) (g : SpdmSess → SpdmSess) (s : State) :
    (modSession i id g s).upd = s.upd := by rcases i with (_ | _) | _ <;> rfl
@[simp] theorem modSession_port0 (i : SpdmInst) (id : Nat) (g : SpdmSess → SpdmSess) (s : State) :
    (modSession i id g s).port0 = s.port0 := by rcases i with (_ | _) | _ <;> rfl
@[simp] theorem modSession_port1 (i : SpdmInst) (id : Nat) (g : SpdmSess → SpdmSess) (s : State) :
    (modSession i id g s).port1 = s.port1 := by rcases i with (_ | _) | _ <;> rfl
@[simp] theorem modSession_ctoMs (i : SpdmInst) (id : Nat) (g : SpdmSess → SpdmSess) (s : State) :
    (modSession i id g s).ctoMs = s.ctoMs := by rcases i with (_ | _) | _ <;> rfl
@[simp] theorem modSession_ctoBad (i : SpdmInst) (id : Nat) (g : SpdmSess → SpdmSess) (s : State) :
    (modSession i id g s).ctoBad = s.ctoBad := by rcases i with (_ | _) | _ <;> rfl
@[simp] theorem modSession_ctoOverride (i : SpdmInst) (id : Nat) (g : SpdmSess → SpdmSess) (s : State) :
    (modSession i id g s).ctoOverride = s.ctoOverride := by rcases i with (_ | _) | _ <;> rfl
@[simp] theorem modSession_bmlRid (i : SpdmInst) (id : Nat) (g : SpdmSess → SpdmSess) (s : State) :
    (modSession i id g s).bmlRid = s.bmlRid := by rcases i with (_ | _) | _ <;> rfl
@[simp] theorem modSession_bmlPort (i : SpdmInst) (id : Nat) (g : SpdmSess → SpdmSess) (s : State) :
    (modSession i id g s).bmlPort = s.bmlPort := by rcases i with (_ | _) | _ <;> rfl
@[simp] theorem modSession_bmlCount (i : SpdmInst) (id : Nat) (g : SpdmSess → SpdmSess) (s : State) :
    (modSession i id g s).bmlCount = s.bmlCount := by rcases i with (_ | _) | _ <;> rfl
@[simp] theorem modSession_timeouts (i : SpdmInst) (id : Nat) (g : SpdmSess → SpdmSess) (s : State) :
    (modSession i id g s).timeouts = s.timeouts := by rcases i with (_ | _) | _ <;> rfl
@[simp] theorem modSession_unexpected (i : SpdmInst) (id : Nat) (g : SpdmSess → SpdmSess) (s : State) :
    (modSession i id g s).unexpected = s.unexpected := by rcases i with (_ | _) | _ <;> rfl
@[simp] theorem modSession_fns (i : SpdmInst) (id : Nat) (g : SpdmSess → SpdmSess) (s : State) :
    (modSession i id g s).fns = s.fns := by rcases i with (_ | _) | _ <;> rfl
@[simp] theorem modSession_nvm (i : SpdmInst) (id : Nat) (g : SpdmSess → SpdmSess) (s : State) :
    (modSession i id g s).nvm = s.nvm := by rcases i with (_ | _) | _ <;> rfl
@[simp] theorem modSession_tab (i : SpdmInst) (id : Nat) (g : SpdmSess → SpdmSess) (s : State) :
    (modSession i id g s).tab = s.tab := by rcases i with (_ | _) | _ <;> rfl
@[simp] theorem modSession_media (i : SpdmInst) (id : Nat) (g : SpdmSess → SpdmSess) (s : State) :
    (modSession i id g s).media = s.media := by rcases i with (_ | _) | _ <;> rfl
@[simp] theorem modSession_ftl (i : SpdmInst) (id : Nat) (g : SpdmSess → SpdmSess) (s : State) :
    (modSession i id g s).ftl = s.ftl := by rcases i with (_ | _) | _ <;> rfl
@[simp] theorem modSession_flash (i : SpdmInst) (id : Nat) (g : SpdmSess → SpdmSess) (s : State) :
    (modSession i id g s).flash = s.flash := by rcases i with (_ | _) | _ <;> rfl
@[simp] theorem modSession_arm (i : SpdmInst) (id : Nat) (g : SpdmSess → SpdmSess) (s : State) :
    (modSession i id g s).arm = s.arm := by rcases i with (_ | _) | _ <;> rfl
@[simp] theorem modSession_hold (i : SpdmInst) (id : Nat) (g : SpdmSess → SpdmSess) (s : State) :
    (modSession i id g s).hold = s.hold := by rcases i with (_ | _) | _ <;> rfl
@[simp] theorem modSession_mqt (i : SpdmInst) (id : Nat) (g : SpdmSess → SpdmSess) (s : State) :
    (modSession i id g s).mqt = s.mqt := by rcases i with (_ | _) | _ <;> rfl
@[simp] theorem modSession_mgt (i : SpdmInst) (id : Nat) (g : SpdmSess → SpdmSess) (s : State) :
    (modSession i id g s).mgt = s.mgt := by rcases i with (_ | _) | _ <;> rfl
@[simp] theorem modSession_ksc (i : SpdmInst) (id : Nat) (g : SpdmSess → SpdmSess) (s : State) :
    (modSession i id g s).ksc = s.ksc := by rcases i with (_ | _) | _ <;> rfl
@[simp] theorem modSession_evs0 (i : SpdmInst) (id : Nat) (g : SpdmSess → SpdmSess) (s : State) :
    (modSession i id g s).evs0 = s.evs0 := by rcases i with (_ | _) | _ <;> rfl
@[simp] theorem modSession_evs1 (i : SpdmInst) (id : Nat) (g : SpdmSess → SpdmSess) (s : State) :
    (modSession i id g s).evs1 = s.evs1 := by rcases i with (_ | _) | _ <;> rfl
@[simp] theorem modSession_latch (i : SpdmInst) (id : Nat) (g : SpdmSess → SpdmSess) (s : State) :
    (modSession i id g s).latch = s.latch := by rcases i with (_ | _) | _ <;> rfl
@[simp] theorem modSession_free (i : SpdmInst) (id : Nat) (g : SpdmSess → SpdmSess) (s : State) :
    (modSession i id g s).free = s.free := by rcases i with (_ | _) | _ <;> rfl
@[simp] theorem modSession_out (i : SpdmInst) (id : Nat) (g : SpdmSess → SpdmSess) (s : State) :
    (modSession i id g s).out = s.out := by rcases i with (_ | _) | _ <;> rfl
@[simp] theorem modSession_pending (i : SpdmInst) (id : Nat) (g : SpdmSess → SpdmSess) (s : State) :
    (modSession i id g s).pending = s.pending := by rcases i with (_ | _) | _ <;> rfl

/-! ## What the updates leave where they wrote -/

@[simp] theorem evsOf_setEvs (pf : Pf) (e : Evs) (s : State) : evsOf (setEvs pf e s) pf = e := by cases pf <;> rfl
@[simp] theorem ledger_setLedger (part : EvrPart) (l : EvrLedger) (s : State) : ledger (setLedger part l s) part = l := by
  cases part <;> rfl
@[simp] theorem ksOf_setKs (pf : Pf) (k : KsRegs) (s : State) : ksOf (setKs pf k s) pf = k := by cases pf <;> rfl
@[simp] theorem bankOf_setBank (b : Pf) (x : Bank) (s : State) : bankOf (setBank b x s) b = x := by cases b <;> rfl
@[simp] theorem spdmOf_setSpdm (i : SpdmInst) (x : Spdm) (s : State) : spdmOf (setSpdm i x s) i = x := by
  rcases i with (_ | _) | _ <;> rfl
@[simp] theorem fnOf_setFn (f : Func) (x : Fn) (s : State) : fnOf (setFn f x s) f = x := by
  simp [fnOf, setFn, Sparse.read_put]
@[simp] theorem fnOf_modFn (f : Func) (g : Fn → Fn) (s : State) : fnOf (modFn f g s) f = g (fnOf s f) := fnOf_setFn f _ s
@[simp] theorem fnOf_modCtrl (f : Func) (g : Ctrl → Ctrl) (s : State) :
    fnOf (modCtrl f g s) f = { fnOf s f with ctrl := g (fnOf s f).ctrl } := fnOf_modFn f _ s
@[simp] theorem dieOf_setDie (d : Nat) (x : Die) (s : State) : dieOf (setDie d x s) d = x := by
  simp [dieOf, setDie, Sparse.read_put]
@[simp] theorem keySlot_setKey (i : Nat) (k : KeySlot) (s : State) : keySlot (setKey i k s) i = k := by
  simp [keySlot, setKey, Sparse.read_put]
@[simp] theorem lineOf_setLine (k : Nat) (l : Line) (s : State) : lineOf (setLine k l s) k = some l := by
  simp [lineOf, setLine, Sparse.look_set]
@[simp] theorem mapOf_setMap (k : Nat) (e : BitVec 40) (n : Nat) (s : State) : mapOf (setMap k e n s) k = e := by
  simp [mapOf, setMap, Sparse.read_put]

/-- Two functions with numbers of their own do not share an entry. -/
theorem fnOf_setFn_other {f g : Func} (h : unitOf g ≠ unitOf f) (x : Fn) (s : State) : fnOf (setFn f x s) g = fnOf s g := by
  simp [fnOf, setFn, Sparse.read_put, h]

/-- What leaves the function table alone leaves every function alone. -/
theorem fnOf_congr {s t : State} (h : t.fns = s.fns) (f : Func) : fnOf t f = fnOf s f := by
  simp only [fnOf, h]

end Sys2Proof.Machine
end

