-- ==== Sys2Proof/Tests/Slice0.lean ====
section
/-! SUPPORT. Tests: ill-formed commands, the worked examples of the spec, and for every obligation with hypotheses states
and operands that meet them. -/
namespace Sys2Proof.Tests

open Sys2Proof.Machine

set_option Elab.async false
set_option linter.unusedVariables false

/-- Physical function 0 of port 0. -/
def f0 : Func := ⟨.p0, 0⟩
/-- Its first virtual function. -/
def v1 : Func := ⟨.p0, 1⟩
/-- A command of the path that names controller 1. -/
def t0 : Tag := ⟨.mgt, 0, 1⟩
/-- An admin command in flight. -/
def ta : Tag := ⟨.fn f0, 0, 7⟩
/-- An I/O command in flight. -/
def ti : Tag := ⟨.fn f0, 1, 9⟩
/-- An admin command of the virtual function. -/
def tv : Tag := ⟨.fn v1, 0, 7⟩
/-- Both signature components verify. -/
def dv : DualVerdict := ⟨true, true⟩
/-- A flush that goes well. -/
def fr : FlushResult := ⟨5, true, true, true⟩
/-- An admin submission queue. -/
def sq0 : Sq := ⟨0, 8, 0, 0, 0, 0, 1, .plain, 0⟩
/-- An I/O submission queue with one entry waiting. -/
def sq1 : Sq := ⟨1, 8, 0, 1, 0, 0, 1, .plain, 0⟩
/-- The admin completion queue. -/
def cq0 : Cq := ⟨0, 8, 0, 0, true, 0, 0, 0, [], 0⟩
/-- An I/O completion queue. -/
def cq1 : Cq := ⟨1, 8, 0, 1, true, 0, 0, 0, [], 0⟩
/-- The admin command `ta`. -/
def ea : Inflight := ⟨0, 7, 0, 0, none, .fetched⟩
/-- The I/O command `ti`. -/
def ei : Inflight := ⟨1, 9, 1, 1, none, .fetched⟩
/-- An enabled controller with both commands in flight. -/
def ctrl0 : Ctrl := { Ctrl.reset with
  cc := 0x00460001, en := true, rdy := true, sqs := [sq0, sq1], cqs := [cq0, cq1], inflight := [ea, ei] }
/-- A physical function on the bus. -/
def fn0 : Fn := { Fn.reset with
  cfg := { CfgSpace.reset with memSpace := true, bme := true, vfEn := true, vfMse := true, numVfs := 4 }, ctrl := ctrl0 }
/-- A virtual function online. -/
def fnv : Fn := { Fn.reset with
  cfg := { CfgSpace.reset with bme := true }, vq := 2, vi := 1, online := true,
  ctrl := { Ctrl.reset with
    cc := 0x00460001, en := true, rdy := true, sqs := [sq0, sq1], cqs := [cq0, cq1], inflight := [ea, ei] } }
/-- A virtual function online with its controller disabled. -/
def fnw : Fn := { fnv with ctrl := Ctrl.reset, cfg := { fnv.cfg with msixEn := true } }
/-- A namespace of 1,024 blocks. -/
def ns1 : Ns := ⟨0, 1024, 1024, 1, 0, false, [1], .active, none, Rsv.none, 0, 0, none⟩
/-- The rails are up and nothing is booted. -/
def rel : State := { State.reset with pwr.phase := .released }
/-- A configuration record within its limits. -/
def conf0 : ConfRec := ⟨8000, 900, 20000, 1000, 50000, 0, 0, 1000, 6, 70, 40, 8, 250, 300, 30⟩
/-- A device that is up: one controller, one virtual function, one namespace, the bank held, room for dirty data. -/
def up : State := { rel with
  boot.phase := .firmware, boot.cfgBuilt := true, hold.restarted := true, hold.restartDone := true,
  hold.chg := .holding, hold.dumpCapMib := 4096, arm.eLimit := 1000, hold.confInForce := some conf0,
  trust.rng := .healthy, evr.placed := true, fns := [(1, fn0), (3, fnv)], tab.nss := [(1, ns1)] }
/-- Recovery is presented. -/
def rcv : State := { rel with boot.phase := .recovery }
/-- Recovery with a session of the path. -/
def rcvOpen : State := { rcv with rcv.session := some .mgt }
/-- A die page program under way in bank 0. -/
def prog : NorOp := .program 0x3000000 (List.replicate 32 0) []
/-- Static fuses with one vendor root. -/
def fuses0 : StaticFuses := ⟨[5], 0, 0, 0, 0⟩
/-- What an attempt senses over the array of a fresh device where nothing differs. -/
def plain0 : StaticFuses := sensed State.reset.fuses.array ⟨[], 0, 0, 0, 0⟩
/-- Bits sensed so that the digest matches. -/
def flips0 : StaticFuses := ⟨[], 0, 0, 0, sha (staticBytes plain0)⟩
/-- Bits sensed so that the digest does not match. -/
def flipsBad : StaticFuses := ⟨[], 0, 0, 0, sha (staticBytes plain0) + 1⟩
/-- A signature that verifies, of a context and a key. -/
def sigAns (ctx : W32) (key : Digest) : SigAnswer := ⟨⟨0x53445A54, 1, ctx, key⟩, dv⟩
/-- An image that verifies. -/
def img : ImageEnv := ⟨dv, dv, []⟩
/-- What Plinth finds. -/
def bootEnv : BootEnv := ⟨true, false, 0, img, img, img, true, true, false, false, 500⟩
/-- Clean media. -/
def env0 : MediaEnv := MediaEnv.clean
/-- One block from block 0 of namespace 1. -/
def io0 : Io := ⟨1, 0, 0, []⟩
/-- One block beyond the namespace. -/
def ioFar : Io := ⟨1, 1024, 0, []⟩
/-- An SPDM session key of a stream. -/
def ide0 : IdeKeyRef := ⟨0, false, .pr, true⟩
/-- The owner record in a state. -/
def owned (n : W8) (s : State) : State := storeRecord (.owner ⟨n, false, 0, List.replicate 2064 0⟩) true s
/-- `up` with the nonce 0 outstanding for PF0 and an owner state. -/
def ownerUp (n : W8) : State := owned n { up with trust.noncePf0 := some 0 }
/-- The digest of the all-zero key. -/
def key0 : Digest := keyDigest (List.replicate 2064 0)
/-- The head of an authorisation for an action. -/
def authHd (code : Nat) : Bytes := leBytes 4 0x414F5A54 ++ leBytes 2 1 ++ leBytes 2 code
/-- The head of its signature, by a key. -/
def authSig (key : Digest) : Bytes := leBytes 4 0x53445A54 ++ leBytes 4 1 ++ leBytes 4 5 ++ digestBytes key
/-- An authorisation signed by the all-zero key. -/
def authBytes (code : Nat) : Bytes := authHd code ++ List.replicate 184 0 ++ authSig key0
/-- An authorisation that carries the all-zero key. -/
def authKey (code : Nat) : Bytes := authHd code ++ List.replicate 136 0 ++ digestBytes key0 ++ authSig key0
/-- An authorisation to clear a target. -/
def authClear (target : Bytes) : Bytes := authHd 0x11 ++ List.replicate 88 0 ++ target ++ List.replicate 48 0 ++ authSig key0
/-- An event record. -/
def rec0 : EvrRec := ⟨0x0005, 0, 1, 0, 0, 0, []⟩
/-- A ledger with one record on the die. -/
def led0 : EvrLedger := { EvrLedger.fresh 40 with sectors := [⟨0, [rec0], false⟩], lastSeq := 1 }
/-- A DOE instance with a session up and one about to finish. -/
def spdm0 : Spdm := { Spdm.reset with
  version := true, caps := true, algs := true, kex := true, sessions := [⟨1, true, [], 0, 0, 0⟩, ⟨2, false, [], 0, 0, 0⟩], chunk := some (3, 0, [], 0) }
/-- `up` with that instance on port 0. -/
def spdmUp0 : State := { up with trust.spdmDoe0 := spdm0, trust.ide0 := ⟨[(ide0, 0)], [ide0], [(0, .secure)]⟩ }
/-- An open round of an export. -/
def sess0 : MqSess :=
  ⟨0, false, .p0, 1, .openRound, false, 0, 0, 1, [], [], [], 0, 0, 0, none, true, 0, [], 0, 0, 0, 0, 0, [1], [], [], 0⟩
/-- An import that receives. -/
def imp0 : MqSess := { sess0 with imp := true, state := .receiving, stage := 4, nss := [] }
/-- `up` with the export. -/
def exUp : State := { up with mqt.sess := [sess0] }
/-- `up` with the import. -/
def imUp : State := { up with mqt.sess := [imp0] }
/-- A port trained. -/
def port0 : Port := { Port.reset with up := true, rate := 6, width := 16, flit := true, trained := true }
/-- A line of the cache. -/
def line0 : Line := ⟨.dirty, ⟨1, []⟩⟩
/-- An open G0 band of group 0 on channel 0. -/
def band0 : Band := ⟨0, 0, [0], [(0, [0])], 0, false, 0, false⟩
/-- A closed native band of group 0. -/
def bandC : Band := ⟨0, 3, [0], [(0, [0])], 4, true, 1, false⟩
/-- A row under way in band 0. -/
def row0 : Row := ⟨0, 0, 0, [(iuKey 1 0, 0, ⟨1, []⟩)], none, 1, 0, none, [], false⟩
/-- A die's tables. -/
def dtab0 : DieTab := { DieTab.reset with scanned := true, planes := 1, blocks := 16, pages := 64, topMode := 3 }
/-- Group 0 in use with an open band, a dirty line and a die. -/
def grp0 : State := { up with
  tab.groups := [(0, { Grp.reset with state := .normal, n := 1 })], tab.bands := [(0, band0)],
  tab.dies := [(0, dtab0)], ftl.cache := [(iuKey 1 0, line0)] }
/-- A die operation. -/
def rd0 : DieOp := ⟨.hostRead, 0, 0, 0, .other, []⟩
/-- A program on a die. -/
def pg0 : DieOp := ⟨.program, 0, 0, 0, .other, []⟩
/-- A program that runs. -/
def run0 : RunOp := ⟨pg0, 0, 0⟩
/-- Channel 0 online with one die. -/
def die0 (x : Die) : State := { up with
  flash.chans := [(0, { Chan.reset with state := .online, accepted := [0] })],
  flash.dies := [(0, { x with state := .online })], tab.dies := [(0, dtab0)] }
/-- A probe that answers. -/
def probe0 : DieProbe := ⟨0, true, true, true, 1, 16, 64, 16384, 2048, 3, [], false⟩
/-- A slot of the Armature in use. -/
def slot0 (n : Nat) : ArmSlot := { ArmSlot.start ArmCfg.disabled n with mode := .normal }
/-- `up` with slot 5 in use. -/
def armUp : State := { up with arm.slots := [(5, slot0 5)] }
/-- Measurements without a fault. -/
def meas0 : Meas := ⟨300, 20000, 20000, 0, []⟩
/-- The bytes of `conf0` as software stages them. -/
def conf0Bytes : Bytes := List.replicate 8 0 ++ leBytes 4 8000 ++ leBytes 2 900 ++ leBytes 2 20000 ++ leBytes 4 1000 ++
  leBytes 4 50000 ++ leBytes 4 0 ++ leBytes 2 1000 ++ leBytes 4 0x08284606 ++ leBytes 2 250 ++ leBytes 2 300 ++
  leBytes 2 30
/-- A packet that the endpoint accepts. -/
def pkt0 : MctpPkt := ⟨true, true, true, 0, 0, .nvmeMi, 64, []⟩
/-- A slot configuration that is all zero, with its check. -/
def armBytes : Bytes := List.replicate 252 0 ++ leBytes 4 (crc32c (List.replicate 252 0)).toNat
/-- A slot configuration that slot 5 takes, without its check. -/
def armBody : Bytes := [33, 0, 0, 0] ++ leBytes 4 1000 ++ [1, 0, 0, 0] ++ List.replicate 4 0 ++ leBytes 4 1 ++
  List.replicate 232 0
/-- A slot configuration that slot 5 takes. -/
def armGood : Bytes := armBody ++ leBytes 4 (crc32c armBody).toNat
/-- A slot configuration whose check is wrong. -/
def armBad : Bytes := List.replicate 252 0 ++ leBytes 4 (crc32c (List.replicate 252 0) + 1).toNat

/-- A named controller that is named. -/
theorem namesCtrl_of {t : Tag} {u : State} (h : t.src = .mgt → ctrlNamed u t.cid.toNat = true) : Safety.namesCtrl t u := h

/-- A digest differs from its successor. -/
theorem digest_ne (a : Digest) : a ≠ a + 1 := by
  intro h
  have := congrArg BitVec.toNat h
  rw [BitVec.toNat_add] at this
  simp at this
  omega

/-- The parts of an authorisation bind it. -/
theorem binds_of {s : State} {a : Bytes} {n : BitVec 256} {x y : Bytes}
    (h1 : leVal (slice a 0x08 4) = (ownerEpoch s).toNat) (h2 : slice a 0x10 48 = digestBytes s.trust.devidKeyId)
    (h3 : slice a 0x40 32 = beBytes 32 n.toNat) (h4 : slice a 0x60 48 = x) (h5 : slice a 0x90 48 = y) :
    authBinds s a (some n) x y = true := by
  simp [authBinds, h1, h2, h3, h4, h5]

/-- The first half of a digest's bytes. -/
theorem hash_head (d : Digest) :
    (digestBytes d).take 16 = beBytes 16 (BitVec.ofNat 128 (d.toNat / 256 ^ 32)).toNat := by
  have := d.isLt
  simp only [digestBytes, beBytes, leBytes, BitVec.toNat_ofNat, List.reverse_cons, List.reverse_nil, List.nil_append,
    List.cons_append, List.take_succ_cons, List.take_zero, Nat.div_div_eq_div_mul]
  rw [Nat.mod_eq_of_lt (by omega)]
  norm_num [Nat.div_div_eq_div_mul]

/-- A block of 252 bytes and its check word fill 256 bytes. -/
theorem block_parts (b : Bytes) (n : Nat) (h : b.length = 252) :
    (padTo 256 (b ++ leBytes 4 n)).take 252 = b ∧ slice (padTo 256 (b ++ leBytes 4 n)) 252 4 = leBytes 4 n := by
  have e : padTo 256 (b ++ leBytes 4 n) = b ++ leBytes 4 n := by
    rw [padTo, List.length_append, h, leBytes_length]
    simp [List.take_of_length_le, h]
  rw [e, slice, List.drop_left' h, List.take_left' h]
  exact ⟨rfl, List.take_of_length_le (by simp)⟩

/-- The last word of a block is its CRC. -/
theorem crc_word (b : Bytes) (h : b.length = 252) : let c := padTo 256 (b ++ leBytes 4 (crc32c b).toNat)
    crc32c (c.take 252) = BitVec.ofNat 32 (leVal (slice c 252 4)) := by
  have := (crc32c b).isLt
  intro c
  rw [(block_parts b _ h).1, (block_parts b _ h).2]
  apply BitVec.eq_of_toNat_eq
  simp [leVal, leBytes]
  omega

/-- The last word of a block is not its CRC. -/
theorem crc_other (b : Bytes) (h : b.length = 252) : let c := padTo 256 (b ++ leBytes 4 (crc32c b + 1).toNat)
    crc32c (c.take 252) ≠ BitVec.ofNat 32 (leVal (slice c 252 4)) := by
  have := (crc32c b).isLt
  intro c e
  rw [(block_parts b _ h).1, (block_parts b _ h).2] at e
  have e := congrArg BitVec.toNat e
  simp [leVal, leBytes] at e
  omega

/-- The invariant holds after reset. -/
theorem reset_inv : Safety.Inv State.reset := ⟨rfl, rfl, rfl, rfl, fun h => absurd rfl h⟩


/-- Little-endian bytes hold the number they are of. -/
theorem leVal_leBytes : ∀ n v : Nat, leVal (leBytes n v) = v % 256 ^ n
  | 0, v => by simp [leBytes, leVal, Nat.mod_one]
  | n + 1, v => by
    rw [leBytes, leVal, leVal_leBytes n, BitVec.toNat_ofNat, show 256 ^ (n + 1) = 256 * 256 ^ n from Nat.pow_succ', Nat.mod_mul (a := 256)]

/-- A digest is read back from its bytes. -/
theorem digest_back (d : Digest) : BitVec.ofNat 384 (beVal (digestBytes d)) = d := by
  have := d.isLt
  rw [beVal, digestBytes, beBytes, List.reverse_reverse, leVal_leBytes, Nat.mod_eq_of_lt (by omega)]
  simp

/-- A signature whose head names its context and key verifies. -/
theorem signed_of {a : Bytes} {k : Digest} (h1 : leVal (slice (slice a 0xC0 0xD90) 0 4) = 0x53445A54)
    (h2 : leVal (slice (slice a 0xC0 0xD90) 4 2) = 1) (h3 : leVal (slice (slice a 0xC0 0xD90) 8 4) = 5)
    (h4 : slice (slice a 0xC0 0xD90) 0x0C 48 = digestBytes k) : authSigned a dv k = true := by
  simp [authSigned, sigOk, sigHead, h1, h2, h3, h4, digest_back, dv]

/-- The bits sensed make the static digest match. -/
theorem flips_ok : sha (staticBytes (sensed State.reset.fuses.array flips0)) =
    (sensed State.reset.fuses.array flips0).digest := (BitVec.zero_xor).symm

/-- The bits sensed leave the static digest wrong. -/
theorem flips_bad : sha (staticBytes (sensed State.reset.fuses.array flipsBad)) ≠
    (sensed State.reset.fuses.array flipsBad).digest := fun h => digest_ne _ (h.trans BitVec.zero_xor)

/-- The certificate chain is not empty. -/
theorem cert_pos {s : State} : 0 < (certChain s).length := by simp [certChain, le16]

/-- No REMAP runs in the bank of the first sector. -/
theorem rcv_idle (n : Nat) : (bankOf rcv (bankOfOffset (0 / 4 * 4))).run ≠ some (.remap n) := by intro h; cases h
/-! ## Commands that are not well formed: one for each check -/

theorem test_wf_vf : (Instr.flr ⟨.p0, 128⟩).wf = false := by decide
theorem test_wf_queue : (Instr.mmioDoorbellWrite f0 4096 false 0).wf = false := by decide
theorem test_wf_tag_queue : (Instr.ioFlush ⟨.fn f0, 4096, 0⟩ 1).wf = false := by decide
theorem test_wf_tag_source : (Instr.identify ⟨.fn ⟨.p1, 200⟩, 0, 0⟩ 1 0).wf = false := by decide
theorem test_wf_channel : (Instr.retrainReq 24 0).wf = false := by decide
theorem test_wf_die : (Instr.dieBusyTimeout 384).wf = false := by decide
theorem test_wf_group : (Instr.fold 16).wf = false := by decide
theorem test_wf_row_die : (Instr.stripeRowProgramFail 0 0 0 384).wf = false := by decide
theorem test_wf_slot : (Instr.injectDone 8).wf = false := by decide
theorem test_wf_mi_slot : (Instr.miReset 2).wf = false := by decide
theorem test_wf_sector : (Instr.iaSectorErase 1024 4).wf = false := by decide
theorem test_wf_key_slot : (Instr.oldKeyZeroise 2048).wf = false := by decide
theorem test_wf_good : (Instr.ioFlush ti 1).wf = true := by decide

/-! ## The worked examples of spec/, at the end of its chapters -/

/-- Chapter 13: slot 0 at 112,300 m°C with an integrator of −9,800 and UMAX 35,000 puts out 25,951 mW. -/
theorem test_law_example : (let r := law { ArmCfg.default 20000 1000 1100 35 0 with umax := 35000 } (-9800) 112300 110000 0 false
    (r.out, r.integ, r.g)) = (25951, -9954, 5427) := by decide +kernel
/-- Chapters 02 and 07: 26.4 mF at 36 V and η 0.90 give 13,686 mJ. -/
theorem test_energy_example : energyOf 900 26400 36000 = 13686 := by decide
/-- Chapters 02 and 14: the limit at 34 W and 88 data positions is 2,732 MiB, at the end of life 2.115 GiB. -/
theorem test_limit_example : (limitFor 34000 88 13686, limitFor 34000 88 10949) = (2732, 2165) := by decide
/-- Chapter 07: with 2 GiB dirty E_REQ_MJ is 12,946. -/
theorem test_need_example : (34000 * (3168 * (96 * 88 * 2 ^ 20) + 144000 * 2 ^ 31)
    + 100000 * (96 * 88 * 2 ^ 20) / 2) / (100000 * (96 * 88 * 2 ^ 20)) = 12946 := by decide +kernel
/-- Chapter 08: VF 12 of PF0 has routing ID 13 in x16 mode and UNIT 14. -/
theorem test_unit_example : (routingId false ⟨.p0, 12⟩, unitOf ⟨.p0, 12⟩) = (13, 14) := by decide
/-- Chapter 10: 131 bits corrected at level 0 make the block a refresh candidate. -/
theorem test_refresh_example : (readReports 0 131, readReports 0 112) = (true, false) := by decide
/-- Chapter 18: die 181 is bit 21 of pending word 29, group 5 bit 29 of word 36. -/
theorem test_source_example : (evsWord (evsSet (768 + 181) rel).evs0.pend 29, evsWord (evsSet (1176 + 5) rel).evs1.pend 36)
    = (0x00200000, 0x20000000) := by decide +kernel
/-- Chapter 04: an erase and a program each raise WRITE_GEN. -/
theorem test_write_gen_example : (match exec (.iaSectorErase 530 4) { rel with nor.unlocked := [530], nor.writeGen := 2310 } with
    | .next t => t.nor.writeGen | _ => 0) = 2311 := by decide +kernel
/-- Chapter 09: an attachment that meets a Deleting namespace completes with State Conflict. -/
theorem test_conflict_example : (match exec (.namespaceAttachment ta 1 true [6]) { up with tab.nss := [(1, { ns1 with state := .deleting })] } with
    | .next t => (t.nvm.conflicts, t.out.any fun o => match o with | .completion _ st _ => decide (st = .stateConflict) | _ => false)
    | _ => (0, false)) = (1, true) := by decide +kernel
/-- Chapter 16: a function last reported Enabled that is Fatal in the new snapshot is one mismatch. -/
theorem test_mismatch_example : (match exec .snapshotCopy { up with
      mgt.snapTaken := true, mgt.snap := unitEntries up, fns := [(1, { fn0 with fatal := true }), (3, fnv)] } with
    | .next t => t.mgt.mismatches | _ => 0) = 1 := by decide +kernel
/-- Chapter 10: the erase that was suspended once counts suspend 1 of 12. -/
theorem test_suspend_example : (match exec (.dieSuspend 0 true) (die0 { Die.reset with
      run := some { run0 with op := { pg0 with cls := .erase } }, queue := [rd0] }) with
    | .next t => (dieOf t 0).susp.map (·.suspends) | _ => none) = some 1 := by decide +kernel
/-- The check value of CRC-32C over the digits 1 to 9, of the standard that R5's list names. -/
theorem test_crc32c : crc32c [0x31, 0x32, 0x33, 0x34, 0x35, 0x36, 0x37, 0x38, 0x39] = 0xE3069283 := by decide +kernel
/-- The check value of the CRC-8 of R592 over the same digits. -/
theorem test_crc8 : crc8 [0x31, 0x32, 0x33, 0x34, 0x35, 0x36, 0x37, 0x38, 0x39] = 0xF4 := by decide +kernel
/-- The field of R438: x^8 is x^4 + x^3 + x^2 + 1, by hand from 0x11D. -/
theorem test_field : (gfDouble 0x80, gfMul 0x80 0x80, gfMul 0x53 (gfInv 0x53)) = (0x1D, 0x13, 1) := by decide +kernel
/-- R440: two lost data pages of three come back from P and Q. -/
theorem test_two_losses : (let l : List (Nat × Sparse Byte) := [(0, [(0, 0x05), (9, 0x80)]), (1, [(0, 0x42)]), (2, [(1, 0xFF), (9, 0x33)])]
    ([0, 2].map fun x => recoverPage x [0, 2] [(1, [(0, 0x42)])] (some (pPage l)) (some (qPage l)))) =
    [some [(0, 0x05), (9, 0x80)], some [(1, 0xFF), (9, 0x33)]] := by decide +kernel
/-- R617: PART reads 0x2400, and R604's upper word without a latch is live. -/
theorem test_part_read : (setupWord State.reset .p0 0).setWidth 16 = 0x2400 := by decide +kernel
/-- An empty queue: the block idles. -/
theorem test_idle : step State.reset = .next State.reset := rfl

/-! ## The hypotheses of the obligations are met -/

/-- States and operands that meet the hypotheses of each clause of `WideResetsClearRegisters`. -/
theorem meets_WideResetsClearRegisters :
    ∃ (s : State) (r : FlushResult), s.pwr.phase = .released ∧ s.pwr.flush = none :=
  ⟨up, fr, by decide +kernel⟩

/-- States and operands that meet the hypotheses of each clause of `ReleaseSamplesStraps`. -/
theorem meets_ReleaseSamplesStraps :
    (∃ (s : State), s.pwr.phase = .inReset) ∧
    (∃ (s : State), s.pwr.phase = .inReset) ∧
    (∃ (s : State), s.pwr.phase = .heldByPwrfail) ∧
    (∃ (s : State) (l : Straps), s.pwr.strapDue = true ∧ s.pwr.phase = .released) :=
  ⟨⟨State.reset, by decide +kernel⟩,
   ⟨State.reset, by decide +kernel⟩,
   ⟨{ State.reset with pwr.phase := .heldByPwrfail }, by decide +kernel⟩,
   ⟨{ rel with pwr.strapDue := true }, Straps.openLevels, by decide +kernel⟩⟩

/-- States and operands that meet the hypotheses of each clause of `PowerFailFlushesThenStops`. -/
theorem meets_PowerFailFlushesThenStops :
    (∃ (s : State) (r : FlushResult), s.pwr.phase = .released ∧ s.pwr.flush = none) ∧
    (∃ (s : State) (r : FlushResult), s.pwr.phase = .released ∧ s.pwr.flush = none) ∧
    (∃ (s : State) (r : FlushResult), s.pwr.phase = .released ∧ s.pwr.flush = none) ∧
    (∃ (s : State) (f : Flush) (high : Bool), s.pwr.flush = some f ∧ (f.cause ≠ 1 ∨ f.tripped = true)) ∧
    (∃ (s : State) (f : Flush), s.pwr.flush = some f ∧ f.cause = 1 ∧ f.tripped = false) ∧
    (∃ (s : State) (f : Flush) (high : Bool), s.pwr.flush = some f ∧ s.boot.phase ≠ .optionFault ∧ (high = true →
      f.cause ≠ 1 ∨ f.tripped = true)) ∧
    (∃ (s : State), s.pwr.phase = .released) :=
  ⟨⟨up, fr, by decide +kernel⟩,
   ⟨up, fr, by decide +kernel⟩,
   ⟨up, fr, by decide +kernel⟩,
   ⟨{ up with pwr.flush := some ⟨2, 0, 0, true, false⟩ }, ⟨2, 0, 0, true, false⟩, true, by decide +kernel⟩,
   ⟨{ up with pwr.flush := some ⟨1, 0, 0, true, false⟩ }, ⟨1, 0, 0, true, false⟩, by decide +kernel⟩,
   ⟨{ up with pwr.flush := some ⟨2, 0, 0, true, false⟩ }, ⟨2, 0, 0, true, false⟩, true, by decide +kernel⟩,
   ⟨up, by decide +kernel⟩⟩

/-- States and operands that meet the hypotheses of each clause of `ClockLossesLatch`. -/
theorem meets_ClockLossesLatch :
    (∃ (s : State), s.pwr.armrefOk = true) ∧
    (∃ (s : State), s.pwr.armrefOk = false) ∧
    (∃ (s : State), s.pwr.xt32Ok = true) :=
  ⟨⟨up, by decide +kernel⟩,
   ⟨{ up with pwr.armrefOk := false }, by decide +kernel⟩,
   ⟨up, by decide +kernel⟩⟩

/-- States and operands that meet the hypotheses of each clause of `FunctionResetsClearControllers`. -/
theorem meets_FunctionResetsClearControllers :
    (∃ (s : State) (f : Func), mmioOk s f = true ∧ (fnOf s f).frozen = false ∧ (fnOf s f).ctrl.en = true) ∧
    (∃ (s : State) (f : Func), mmioOk s f = true ∧ (fnOf s f).frozen = true) ∧
    (∃ (s : State) (f : Func), running s = true ∧ fnPresent s f = true ∧ f.vf < 128) ∧
    (∃ (s : State) (pf : Pf), running s = true ∧ (fnOf s ⟨pf, 0⟩).cfg.vfEn = true) ∧
    (∃ (s : State) (p : Pf), s.pwr.phase = .released) ∧
    (∃ (s : State), running s = true) ∧
    (∃ (s : State) (v : W32), v ≠ 0x4E564D65) ∧
    (∃ (s : State) (f : Func), mmioOk s f = true ∧ (fnOf s f).frozen = false ∧ s.hold.restarted = true ∧ (fnOf s
      f).ctrl.en = true) :=
  ⟨⟨up, f0, by decide +kernel⟩,
   ⟨{ up with fns := [(1, { fn0 with frozen := true })] }, f0, by decide +kernel⟩,
   ⟨up, f0, by decide +kernel⟩,
   ⟨up, .p0, by decide +kernel⟩,
   ⟨up, .p0, by decide +kernel⟩,
   ⟨up, by decide +kernel⟩,
   ⟨up, 0, by decide +kernel⟩,
   ⟨up, f0, by decide +kernel⟩⟩

/-- States and operands that meet the hypotheses of each clause of `BootReachesFirmwareOrRecovery`. -/
theorem meets_BootReachesFirmwareOrRecovery :
    (∃ (s : State) (x : StaticFuses), s.pwr.phase = .released ∧ s.boot.phase = .optionLoad ∧ s.pwr.flush = none ∧
      sha (staticBytes (sensed s.fuses.array x)) = (sensed s.fuses.array x).digest) ∧
    (∃ (s : State) (x : StaticFuses), s.pwr.phase = .released ∧ s.boot.phase = .optionLoad ∧ s.pwr.flush = none ∧
      sha (staticBytes (sensed s.fuses.array x)) ≠ (sensed s.fuses.array x).digest ∧ s.fuses.attempts + 1 < 3) ∧
    (∃ (s : State) (x : StaticFuses), s.pwr.phase = .released ∧ s.boot.phase = .optionLoad ∧ s.pwr.flush = none ∧
      sha (staticBytes (sensed s.fuses.array x)) ≠ (sensed s.fuses.array x).digest ∧ 3 ≤ s.fuses.attempts + 1) ∧
    (∃ (s : State) (e : BootEnv), s.pwr.phase = .released ∧ s.boot.phase = .plinth ∧ s.pwr.flush = none ∧ e.ddrOk =
      false) ∧
    (∃ (s : State) (e : BootEnv), s.pwr.phase = .released ∧ s.boot.phase = .plinth ∧ s.pwr.flush = none ∧ e.ddrOk =
      true) ∧
    (∃ (s : State), running s = true ∧ s.boot.cfgBuilt = false) :=
  ⟨⟨rel, flips0, by decide +kernel, by decide +kernel, by decide +kernel, flips_ok⟩,
   ⟨rel, flipsBad, by decide +kernel, by decide +kernel, by decide +kernel, flips_bad, by decide +kernel⟩,
   ⟨{ rel with fuses.attempts := 2 }, flipsBad, by decide +kernel, by decide +kernel, by decide +kernel, flips_bad,
     by decide +kernel⟩,
   ⟨{ rel with boot.phase := .plinth }, { bootEnv with ddrOk := false }, by decide +kernel⟩,
   ⟨{ rel with boot.phase := .plinth }, bootEnv, by decide +kernel⟩,
   ⟨{ up with boot.cfgBuilt := false }, by decide +kernel⟩⟩

/-- States and operands that meet the hypotheses of each clause of `TrialBootIsConfirmedOrRestarted`. -/
theorem meets_TrialBootIsConfirmedOrRestarted :
    (∃ (s : State) (r : FlushResult), running s = true ∧ s.boot.armed = true) ∧
    (∃ (s : State) (e : ImageEnv) (i : SlotId), running s = true ∧ s.boot.trial = true ∧ s.boot.armed = true ∧
      s.boot.confirmed = false ∧ mayConfirm s = true ∧ slotOfCode s.boot.slot.toNat = some i ∧ canStore .boot s =
      true) ∧
    (∃ (s : State) (e : ImageEnv) (i : SlotId), running s = true ∧ s.boot.trial = true ∧ s.boot.armed = true ∧
      s.boot.confirmed = false ∧ mayConfirm s = true ∧ slotOfCode s.boot.slot.toNat = some i) ∧
    (∃ (s : State) (w : W64), running s = true ∧ s.boot.shutdownDone = true ∧ dirtyBytes s = 0 ∧ s.pwr.xt32Ok = true
      ∧ s.pwr.vauxOk = true) :=
  ⟨⟨{ up with boot.trial := true, boot.armed := true, boot.slot := 1, evr.signed := true, arm.slots := (List.range 5).map (fun i => (i, slot0 i)), flash.chans := (List.range 24).map fun c => (c, { Chan.reset with tried := true }) },
     fr, by decide +kernel⟩,
   ⟨{ up with boot.trial := true, boot.armed := true, boot.slot := 1, evr.signed := true, arm.slots := (List.range 5).map (fun i => (i, slot0 i)), flash.chans := (List.range 24).map fun c => (c, { Chan.reset with tried := true }) },
     img, .a, by decide +kernel⟩,
   ⟨{ up with boot.trial := true, boot.armed := true, boot.slot := 1, evr.signed := true, arm.slots := (List.range 5).map (fun i => (i, slot0 i)), flash.chans := (List.range 24).map fun c => (c, { Chan.reset with tried := true }) },
     img, .a, by decide +kernel⟩,
   ⟨{ up with boot.shutdownDone := true }, 0, by decide +kernel⟩⟩

/-- States and operands that meet the hypotheses of each clause of `RecoveryCommandsComplete`. -/
theorem meets_RecoveryCommandsComplete :
    (∃ (s : State) (p : RcvPath), rcvPresented s = true) ∧
    (∃ (s : State) (p : RcvPath), rcvPresented s = true ∧ s.rcv.session = none) ∧
    (∃ (s : State) (p : RcvPath) (q : RcvPath), rcvPresented s = true ∧ s.rcv.session = some q ∧ q ≠ p) ∧
    (∃ (s : State) (p : RcvPath), rcvPresented s = true ∧ s.rcv.session = some p) ∧
    (∃ (s : State) (p : RcvPath) (a : W32) (i : SlotId), rcvPresented s = true ∧ s.rcv.optFault = false ∧
      s.rcv.session = some p ∧ rcvSlot a = some i ∧ slotRetired s i = false) ∧
    (∃ (s : State) (p : RcvPath) (a : W32) (i : SlotId) (ok : Bool), rcvPresented s = true ∧ s.rcv.optFault = false
      ∧ s.rcv.session = some p ∧ rcvSlot a = some i ∧ (ok = false ∨ slotRetired s i = true)) ∧
    (∃ (s : State) (a0 : W32) (a1 : W32) (a2 : W32) (i : SlotId) (d : Bytes), rcvPresented s = true ∧ s.rcv.optFault
      = false ∧ s.rcv.session = some .mgt ∧ rcvSlot a0 = some i ∧ a1.toNat % 64 = 0 ∧ a2.toNat % 64 = 0 ∧ 0 <
      a2.toNat ∧ a2.toNat ≤ 1024 ∧ a1.toNat + a2.toNat ≤ slotBytes ∧ d.length = a2.toNat ∧ i ∈ s.rcv.erased ∧ (∀ u ∈
      chunkUnits a1.toNat a2.toNat, (i, u) ∉ s.rcv.written)) ∧
    (∃ (s : State) (p : RcvPath) (a : W32) (e : ImageEnv) (i : SlotId), rcvPresented s = true ∧ s.rcv.optFault =
      false ∧ s.rcv.session = some p ∧ rcvSlot a = some i) ∧
    (∃ (s : State) (p : RcvPath) (a : W32) (g : DualVerdict) (i : SlotId), rcvPresented s = true ∧ s.rcv.optFault =
      false ∧ s.rcv.session = some p ∧ rcvSlot a = some i ∧ i ∈ s.rcv.verified ∧ ownerLocked s = false ∧ canStore
      .boot s = true) ∧
    (∃ (s : State) (p : RcvPath) (a : W32) (b : W32) (c : W32) (d : Bytes) (e : ImageEnv) (g : DualVerdict) (r :
      FlushResult) (ok : Bool) (i : Instr), rcvPresented s = true ∧ s.rcv.session ≠ some p ∧ i ∈ [Instr.rcvEraseSlot
      p a ok, .rcvWriteChunk p a b c d ok, .rcvVerify p a e, .rcvCommit p a d g ok, .rcvReboot p r] ∧
      (s.rcv.optFault = false ∨ i = .rcvReboot p r)) ∧
    (∃ (s : State) (p : RcvPath) (a : W32) (b : W32) (c : W32) (d : Bytes) (e : ImageEnv) (g : DualVerdict) (ok :
      Bool) (i : Instr), rcvPresented s = true ∧ s.rcv.optFault = false ∧ s.rcv.session = some p ∧ rcvSlot a = none
      ∧ i ∈ [Instr.rcvEraseSlot p a ok, .rcvWriteChunk p a b c d ok, .rcvVerify p a e, .rcvCommit p a d g ok]) ∧
    (∃ (s : State) (p : RcvPath) (r : FlushResult), rcvPresented s = true ∧ s.rcv.session = some p) ∧
    (∃ (s : State) (o : Nat) (u : Bool), o < dieBytes ∧ rcvPresented s = true ∧ spareSector (sectorOf (o / 4 * 4)) =
      false ∧ (∀ n, (bankOf s (bankOfOffset (o / 4 * 4))).run ≠ some (.remap n))) ∧
    (∃ (s : State) (o : Nat) (u : Bool) (n : Nat), o < dieBytes ∧ rcvPresented s = true ∧ spareSector (sectorOf (o /
      4 * 4)) = false ∧ (bankOf s (bankOfOffset (o / 4 * 4))).run = some (.remap n) ∧ (bankOf s (bankOfOffset (o / 4
      * 4))).seq = .idle) ∧
    (∃ (s : State) (o : Nat) (u : Bool), o < dieBytes ∧ rcvPresented s = true ∧ spareSector (sectorOf (o / 4 * 4)) =
      true) ∧
    (∃ (s : State) (u : Bool) (x : Nat × W32), rcvPresented s = true ∧ x ∈ [(0x10000000, 0), (0x10000004,
      s.rcv.arg0), (0x10000008, s.rcv.arg1), (0x1000000C, s.rcv.arg2), (0x10000010, rcvWord s), (0x10010000, 0)]) ∧
    (∃ (s : State) (o : Nat) (u : Bool), rcvBarBytes ≤ o) :=
  ⟨⟨rcvOpen, .mgt, by decide +kernel⟩,
   ⟨rcv, .mgt, by decide +kernel⟩,
   ⟨rcvOpen, .pcie, .mgt, by decide +kernel⟩,
   ⟨rcvOpen, .mgt, by decide +kernel⟩,
   ⟨rcvOpen, .mgt, 1, .a, by decide +kernel⟩,
   ⟨rcvOpen, .mgt, 1, .a, false, by decide +kernel⟩,
   ⟨{ rcvOpen with rcv.erased := [.a] }, 1, 0, 64, .a, List.replicate 64 0, by decide +kernel⟩,
   ⟨rcvOpen, .mgt, 1, img, .a, by decide +kernel⟩,
   ⟨{ rcvOpen with rcv.verified := [.a] }, .mgt, 1, dv, .a, by decide +kernel⟩,
   ⟨rcv, .mgt, 1, 0, 0, [], img, dv, fr, true, .rcvReboot .mgt fr, by decide +kernel⟩,
   ⟨rcvOpen, .mgt, 7, 0, 0, [], img, dv, true, .rcvEraseSlot .mgt 7 true, by decide +kernel⟩,
   ⟨rcvOpen, .mgt, fr, by decide +kernel⟩,
   ⟨rcv, 0, false, by decide +kernel, by decide +kernel, by decide +kernel, rcv_idle⟩,
   ⟨{ rcv with nor.bank0 := { Bank.fresh 80 with run := some (.remap 0) } }, 0, false, 0, by decide +kernel⟩,
   ⟨rcv, 432 * 0x40000, false, by decide +kernel⟩,
   ⟨rcv, false, (0x10000000, 0), by decide +kernel⟩,
   ⟨rcvOpen, 0x20000000, false, by decide +kernel⟩⟩

/-- States and operands that meet the hypotheses of each clause of `ArraySequencesStartOperations`. -/
theorem meets_ArraySequencesStartOperations :
    (∃ (s : State) (u : State) (page : Nat) (len : W32) (first : Nat) (words : List W32) (sent : Nat), ledgerFirst
      (bankOfOffset page) s = u ∧ norReachable u = true ∧ (bankOf u (bankOfOffset page)).seq = .idle ∧ bankBusy
      (bankOf u (bankOfOffset page)) = false ∧ page % 512 = 0 ∧ lenOk len.toNat = true ∧ first % 32 = 0 ∧ page ≤
      first ∧ first + len.toNat ≤ page + 512 ∧ 4 * words.length = len.toNat ∧ words.length + 5 ≤ sent ∧ spareSector
      (sectorOf first) = false ∧ (bankOf u (bankOfOffset page)).suspErase ≠ some (sectorOf first) ∧ sectorLocked u
      (sectorOf first) = false) ∧
    (∃ (s : State) (n : Nat) (sent : Nat), norReachable s = true ∧ (bankOf s (bankOfOffset (n * sectorBytes))).seq =
      .idle ∧ bankBusy (bankOf s (bankOfOffset (n * sectorBytes))) = false ∧ spareSector n = false ∧ (bankOf s
      (bankOfOffset (n * sectorBytes))).suspErase = none ∧ sectorLocked s n = false ∧ 4 ≤ sent) ∧
    (∃ (s : State) (n : Nat) (sent : Nat), norReachable s = true ∧ (bankOf s (bankOfOffset (n * sectorBytes))).seq =
      .idle ∧ bankBusy (bankOf s (bankOfOffset (n * sectorBytes))) = false ∧ spareSector n = false ∧ (bankOf s
      (bankOfOffset (n * sectorBytes))).suspErase = none ∧ sectorLocked s n = false ∧ (bankOf s (bankOfOffset (n *
      sectorBytes))).spare ≠ 0 ∧ 4 ≤ sent) ∧
    (∃ (s : State) (n : Nat) (sent : Nat) (i : Instr), norReachable s = true ∧ (bankOf s (bankOfOffset (n *
      sectorBytes))).seq = .idle ∧ bankBusy (bankOf s (bankOfOffset (n * sectorBytes))) = false ∧ spareSector n =
      false ∧ (bankOf s (bankOfOffset (n * sectorBytes))).suspErase = none ∧ (permLocked n = true ∨ n ∉
      s.nor.unlocked) ∧ 4 ≤ sent ∧ (i = .iaSectorErase n sent ∨ i = .iaRemap n sent)) ∧
    (∃ (s : State) (u : State) (page : Nat) (len : W32) (first : Nat) (words : List W32) (sent : Nat), ledgerFirst
      (bankOfOffset page) s = u ∧ norReachable u = true ∧ (bankOf u (bankOfOffset page)).seq = .idle ∧ bankBusy
      (bankOf u (bankOfOffset page)) = false ∧ page % 512 = 0 ∧ lenOk len.toNat = true ∧ first % 32 = 0 ∧ page ≤
      first ∧ first + len.toNat ≤ page + 512 ∧ 4 * words.length = len.toNat ∧ words.length + 5 ≤ sent ∧ spareSector
      (sectorOf first) = false ∧ (bankOf u (bankOfOffset page)).suspErase ≠ some (sectorOf first) ∧ (permLocked
      (sectorOf first) = true ∨ sectorOf first ∉ u.nor.unlocked)) ∧
    (∃ (s : State) (n : Nat) (sent : Nat), norReachable s = true ∧ (bankOf s (bankOfOffset (n * sectorBytes))).seq =
      .idle ∧ bankBusy (bankOf s (bankOfOffset (n * sectorBytes))) = false ∧ spareSector n = false ∧ 4 ≤ sent) ∧
    (∃ (s : State) (n : Nat) (sent : Nat), norReachable s = true ∧ (bankOf s (bankOfOffset (n * sectorBytes))).seq =
      .idle ∧ bankBusy (bankOf s (bankOfOffset (n * sectorBytes))) = false ∧ spareSector n = false ∧ 4 ≤ sent) ∧
    (∃ (s : State) (b : Pf) (sent : Nat), norReachable s = true ∧ (bankOf s b).seq = .idle ∧ (bankOf s b).suspended
      = false ∧ 3 ≤ sent) ∧
    (∃ (s : State) (b : Pf) (sent : Nat), norReachable s = true ∧ (bankOf s b).seq = .idle ∧ (bankOf s b).suspended
      = true ∧ 3 ≤ sent) :=
  ⟨⟨{ rel with nor.unlocked := [192] }, ledgerFirst .p0 { rel with nor.unlocked := [192] }, 0x3000000, 32,
     0x3000000, List.replicate 8 0, 13, rfl, by decide +kernel⟩,
   ⟨{ rel with nor.unlocked := [192] }, 192, 13, by decide +kernel⟩,
   ⟨{ rel with nor.unlocked := [192] }, 192, 13, by decide +kernel⟩,
   ⟨rel, 192, 13, .iaSectorErase 192 13, by decide +kernel⟩,
   ⟨rel, ledgerFirst .p0 rel, 0x3000000, 32, 0x3000000, List.replicate 8 0, 13, rfl, by decide +kernel⟩,
   ⟨rel, 192, 13, by decide +kernel⟩,
   ⟨rel, 192, 13, by decide +kernel⟩,
   ⟨rel, .p0, 13, by decide +kernel⟩,
   ⟨{ rel with nor.bank0 := { Bank.fresh 80 with suspErase := some 192 } }, .p0, 13, by decide +kernel⟩⟩

/-- States and operands that meet the hypotheses of each clause of `ArrayBanksSuspendAndRead`. -/
theorem meets_ArrayBanksSuspendAndRead :
    (∃ (s : State) (b : Pf) (n : Nat), norReachable s = true ∧ (bankOf s b).seq = .idle ∧ (bankOf s b).suspended =
      false ∧ (bankOf s b).run = some (.erase n)) ∧
    (∃ (s : State) (b : Pf) (n : Nat), norReachable s = true ∧ (bankOf s b).seq = .idle ∧ (bankOf s b).suspended =
      false ∧ (bankOf s b).run = some (.erase n)) ∧
    (∃ (s : State) (b : Pf) (f : Nat) (d : Bytes) (r : List Nat), norReachable s = true ∧ (bankOf s b).seq = .idle ∧
      (bankOf s b).suspended = false ∧ (bankOf s b).run = some (.program f d r)) ∧
    (∃ (s : State) (b : Pf) (early : Bool), norReachable s = true ∧ (bankOf s b).seq = .idle ∧ (bankOf s
      b).suspended = true) ∧
    (∃ (s : State) (b : Pf) (f : Nat) (d : Bytes) (r : List Nat), powered s = true ∧ (bankOf s b).suspPend = true ∧
      (bankOf s b).run = some (.program f d r)) ∧
    (∃ (s : State) (u : State) (b : Pf) (p : NorOp), ledgerFirst b s = u ∧ norReachable u = true ∧ (bankOf u b).seq
      = .idle ∧ (bankOf u b).run = none ∧ (bankOf u b).suspProg = some p) ∧
    (∃ (s : State) (b : Pf), norReachable s = true ∧ (bankOf s b).seq = .idle) ∧
    (∃ (s : State) (b : Pf), norReachable s = true ∧ (bankOf s b).seq = .idle ∧ (bankOf s b).run = none) ∧
    (∃ (s : State) (o : Nat), powered s = true ∧ o < dieBytes ∧ (bankOf s (bankOfOffset (o / 4 * 4))).seq = .idle ∧
      statusReads (bankOf s (bankOfOffset (o / 4 * 4))) = false ∧ (bankOf s (bankOfOffset (o / 4 * 4))).info = false
      ∧ underSuspend (bankOf s (bankOfOffset (o / 4 * 4))) (o / 4 * 4) = false) ∧
    (∃ (s : State) (o : Nat) (u : Bool), powered s = true ∧ o < dieBytes ∧ (bankOf s (bankOfOffset (o / 4 * 4))).seq
      = .idle ∧ statusReads (bankOf s (bankOfOffset (o / 4 * 4))) = true) ∧
    (∃ (s : State) (o : Nat) (u : Bool), powered s = true ∧ o < dieBytes ∧ (bankOf s (bankOfOffset (o / 4 * 4))).seq
      = .idle ∧ statusReads (bankOf s (bankOfOffset (o / 4 * 4))) = false ∧ (bankOf s (bankOfOffset (o / 4 *
      4))).info = false ∧ ((bankOf s (bankOfOffset (o / 4 * 4))).suspErase = some (o / 0x40000) ∨ (∃ f d r, (bankOf
      s (bankOfOffset (o / 4 * 4))).suspProg = some (.program f d r) ∧ f / 512 = o / 512))) ∧
    (∃ (s : State) (o : Nat) (u : Bool), dieBytes ≤ o) :=
  ⟨⟨{ rel with nor.bank0 := { Bank.fresh 80 with run := some (.erase 192) } }, .p0, 192, by decide +kernel⟩,
   ⟨{ rel with nor.bank0 := { Bank.fresh 80 with run := some (.erase 192) } }, .p0, 192, by decide +kernel⟩,
   ⟨{ rel with nor.bank0 := { Bank.fresh 80 with run := some prog } }, .p0, 0x3000000, List.replicate 32 0, [],
     by decide +kernel⟩,
   ⟨{ rel with nor.bank0 := { Bank.fresh 80 with suspErase := some 192 } }, .p0, true, by decide +kernel⟩,
   ⟨{ rel with nor.bank0 := { Bank.fresh 80 with suspPend := true, run := some prog } }, .p0, 0x3000000,
     List.replicate 32 0, [], by decide +kernel⟩,
   ⟨{ rel with nor.bank0 := { Bank.fresh 80 with suspProg := some prog } }, ledgerFirst .p0
     ({ rel with nor.bank0 := { Bank.fresh 80 with suspProg := some prog } }), .p0, prog, rfl, by decide +kernel⟩,
   ⟨rel, .p0, by decide +kernel⟩,
   ⟨rel, .p0, by decide +kernel⟩,
   ⟨rel, 0x3000000, by decide +kernel⟩,
   ⟨{ rel with nor.bank0 := { Bank.fresh 80 with run := some (.erase 192) } }, 0x3000000, false, by decide +kernel⟩,
   ⟨{ rel with nor.bank0 := { Bank.fresh 80 with suspErase := some 192 } }, 0x3000000, false, by decide +kernel,
     by decide +kernel, by decide +kernel, by decide +kernel, by decide +kernel, Or.inl (by decide +kernel)⟩,
   ⟨rel, 0x10000000, false, by decide +kernel⟩⟩

/-- States and operands that meet the hypotheses of each clause of `ArrayOperationsWriteTheirUnits`. -/
theorem meets_ArrayOperationsWriteTheirUnits :
    (∃ (s : State) (b : Pf) (f : Nat) (d : Bytes), powered s = true ∧ (bankOf s b).run = some (.program f d []) ∧ f
      % 32 = 0 ∧ d.length % 32 = 0 ∧ (∀ u ∈ s.nor.undef, u.first + u.count ≤ f / 32 ∨ (f + d.length) / 32 ≤ u.first)
      ∧ (∀ i, i < d.length → storedByte s (f + i) = none)) ∧
    (∃ (s : State) (b : Pf) (f : Nat) (d : Bytes) (r : List Nat), powered s = true ∧ (bankOf s b).run = some
      (.program f d r) ∧ r ≠ []) ∧
    (∃ (s : State) (b : Pf) (n : Nat), powered s = true ∧ (bankOf s b).run = some (.erase n) ∧ permLocked n = false) ∧
    (∃ (s : State) (b : Pf) (n : Nat), powered s = true ∧ (bankOf s b).run = some (.erase n)) :=
  ⟨⟨{ rel with nor.bank0 := { Bank.fresh 80 with run := some prog } }, .p0, 0x3000000, List.replicate 32 0,
     by decide +kernel⟩,
   ⟨{ rel with nor.bank0 := { Bank.fresh 80 with run := some (.program 0x3000000 (List.replicate 32 0) [0]) } },
     .p0, 0x3000000, List.replicate 32 0, [0], by decide +kernel⟩,
   ⟨{ rel with nor.bank0 := { Bank.fresh 80 with run := some (.erase 192) } }, .p0, 192, by decide +kernel⟩,
   ⟨{ rel with nor.bank0 := { Bank.fresh 80 with run := some (.erase 192) } }, .p0, 192, by decide +kernel⟩⟩

set_option maxRecDepth 20000 in
/-- States and operands that meet the hypotheses of each clause of `OwnerCommandsComplete`. -/
theorem meets_OwnerCommandsComplete :
    (∃ (t : Tag) (r : Requester) (s : State) (u : State) (length : W16), Safety.startOf t 0xC4 0 s = some u ∧
      requesterOf t.src = some r ∧ 40 ≤ length.toNat ∧ u.trust.rng = .healthy) ∧
    (∃ (t : Tag) (r : Requester) (s : State) (u : State) (n : W16) (d : Bytes) (g : DualVerdict), Safety.startOf t
      0xC4 0 s = some u ∧ Safety.ownerPasses t r .install n d g u) ∧
    (∃ (t : Tag) (r : Requester) (s : State) (u : State) (n : W16) (d : Bytes) (g : DualVerdict), Safety.startOf t
      0xC4 0 s = some u ∧ Safety.ownerPasses t r .lock n d g u) ∧
    (∃ (t : Tag) (r : Requester) (s : State) (u : State) (n : W16) (d : Bytes) (g : DualVerdict), Safety.startOf t
      0xC4 0 s = some u ∧ Safety.ownerPasses t r .unlock n d g u) ∧
    (∃ (t : Tag) (r : Requester) (s : State) (u : State) (n : W16) (d : Bytes) (g : DualVerdict), Safety.startOf t
      0xC4 0 s = some u ∧ Safety.ownerPasses t r .replace n d g u) ∧
    (∃ (t : Tag) (r : Requester) (s : State) (u : State) (n : W16) (d : Bytes) (g : DualVerdict), Safety.startOf t
      0xC4 0 s = some u ∧ Safety.ownerPasses t r .release n d g u) ∧
    (∃ (t : Tag) (r : Requester) (s : State) (u : State) (n : W16) (d : Bytes) (g : DualVerdict), Safety.startOf t
      0xC4 0 s = some u ∧ Safety.ownerPasses t r .kscDisable n d g u) ∧
    (∃ (t : Tag) (r : Requester) (s : State) (u : State) (n : W16) (d : Bytes) (g : DualVerdict), Safety.startOf t
      0xC4 0 s = some u ∧ Safety.ownerPasses t r .kscEnable n d g u) ∧
    (∃ (s : State), powered s = true) :=
  ⟨⟨t0, .mgt, up, up, 40, rfl, by decide +kernel⟩,
   ⟨ta, .pf0, ownerUp 0, ownerUp 0, 5728, authKey 1, dv, rfl, ⟨rfl, by decide, by decide +kernel, by decide +kernel,
     by decide +kernel, binds_of rfl rfl rfl rfl rfl, signed_of rfl rfl rfl rfl, by decide +kernel⟩⟩,
   ⟨ta, .pf0, ownerUp 1, ownerUp 1, 3664, authBytes 2, dv, rfl, ⟨rfl, by decide, by decide +kernel,
     by decide +kernel, by decide +kernel, by decide +kernel, signed_of rfl rfl rfl rfl, by decide +kernel⟩⟩,
   ⟨ta, .pf0, ownerUp 2, ownerUp 2, 3664, authBytes 3, dv, rfl, ⟨rfl, by decide, by decide +kernel,
     by decide +kernel, by decide +kernel, by decide +kernel, signed_of rfl rfl rfl rfl, by decide +kernel⟩⟩,
   ⟨ta, .pf0, ownerUp 2, ownerUp 2, 5728, authKey 4, dv, rfl, ⟨rfl, by decide, by decide +kernel, by decide +kernel,
     by decide +kernel, binds_of rfl rfl rfl rfl rfl, signed_of rfl rfl rfl rfl, by decide +kernel⟩⟩,
   ⟨ta, .pf0, ownerUp 1, ownerUp 1, 3664, authBytes 5, dv, rfl, ⟨rfl, by decide, by decide +kernel,
     by decide +kernel, by decide +kernel, by decide +kernel, signed_of rfl rfl rfl rfl, by decide +kernel⟩⟩,
   ⟨ta, .pf0, ownerUp 1, ownerUp 1, 3664, authBytes 6, dv, rfl, ⟨rfl, by decide, by decide +kernel,
     by decide +kernel, by decide +kernel, by decide +kernel, signed_of rfl rfl rfl rfl, by decide +kernel⟩⟩,
   ⟨ta, .pf0, ownerUp 2, ownerUp 2, 3664, authBytes 7, dv, rfl, ⟨rfl, by decide, by decide +kernel,
     by decide +kernel, by decide +kernel, by decide +kernel, signed_of rfl rfl rfl rfl, by decide +kernel⟩⟩,
   ⟨up, by decide +kernel⟩⟩

/-- States and operands that meet the hypotheses of each clause of `EntropySourceChangesState`. -/
theorem meets_EntropySourceChangesState :
    (∃ (s : State) (l : List Nat), s.pwr.phase = .released ∧ (s.trust.rng = .healthy ∨ s.trust.rng = .starting) ∧
      (Health.over s.trust.health l).2 = true) ∧
    (∃ (s : State) (l : List Nat), s.pwr.phase = .released ∧ (s.trust.rng = .healthy ∨ s.trust.rng = .starting) ∧
      (Health.over s.trust.health l).2 = false) ∧
    (∃ (s : State) (l : List Nat) (h : Health), s.pwr.phase = .released ∧ s.trust.waiting = [] ∧ (s.trust.rng =
      .starting ∨ s.trust.rng = .stalled) ∧ startUpTest l = .pass h) ∧
    (∃ (s : State) (l : List Nat) (h : Health), s.pwr.phase = .released ∧ s.trust.rng = .starting ∧ startUpTest l =
      .fail h) ∧
    (∃ (s : State) (l : List Nat) (h : Health), s.pwr.phase = .released ∧ s.trust.rng = .stalled ∧ startUpTest l =
      .fail h ∧ s.trust.reseedTries + 1 < 3) ∧
    (∃ (s : State) (l : List Nat) (h : Health), s.pwr.phase = .released ∧ s.trust.waiting = [] ∧ s.trust.rng =
      .stalled ∧ startUpTest l = .fail h ∧ 3 ≤ s.trust.reseedTries + 1) ∧
    (∃ (s : State) (l : List Nat) (h : Health), s.pwr.phase = .released ∧ s.trust.waiting = [] ∧ s.trust.rng =
      .unavailable ∧ startUpTest l = .pass h) ∧
    (∃ (s : State) (l : List Nat) (h : Health), s.pwr.phase = .released ∧ s.trust.rng = .unavailable ∧ startUpTest l
      = .fail h) ∧
    (∃ (s : State), powered s = true ∧ s.trust.rng = .healthy) :=
  ⟨⟨up, List.replicate 42 0, by decide +kernel⟩,
   ⟨up, [0], by decide +kernel⟩,
   ⟨{ up with trust.rng := .starting }, List.range 1024, (Health.over Health.reset (List.range 1024)).1,
     by decide +kernel⟩,
   ⟨{ up with trust.rng := .starting }, List.replicate 1024 0, (Health.over Health.reset (List.replicate 1024 0)).1,
     by decide +kernel⟩,
   ⟨{ up with trust.rng := .stalled }, List.replicate 1024 0, (Health.over Health.reset (List.replicate 1024 0)).1,
     by decide +kernel⟩,
   ⟨{ up with trust.rng := .stalled, trust.reseedTries := 2 }, List.replicate 1024 0, (Health.over Health.reset
     (List.replicate 1024 0)).1, by decide +kernel⟩,
   ⟨{ up with trust.rng := .unavailable }, List.range 1024, (Health.over Health.reset (List.range 1024)).1,
     by decide +kernel⟩,
   ⟨{ up with trust.rng := .unavailable }, List.replicate 1024 0, (Health.over Health.reset (List.replicate 1024
     0)).1, by decide +kernel⟩,
   ⟨up, by decide +kernel⟩⟩

/-- States and operands that meet the hypotheses of each clause of `KeySlotCommandsComplete`. -/
theorem meets_KeySlotCommandsComplete :
    (∃ (s : State) (pf : Pf) (i : BitVec 11), fullyUp s = true ∧ (ksOf s pf).busy = false ∧ (ksOf s .p0).busy =
      false ∧ (ksOf s .p1).busy = false ∧ slotOwner s i.toNat = pf ∧ boundNs s i.toNat = none ∧ s.trust.rng =
      .healthy ∧ (keySlot s i.toNat).old = none) ∧
    (∃ (s : State) (pf : Pf) (i : BitVec 11), fullyUp s = true ∧ (ksOf s .p0).busy = false ∧ (ksOf s .p1).busy =
      false ∧ slotOwner s i.toNat = pf ∧ (keySlot s i.toNat).key ≠ none) ∧
    (∃ (s : State) (i : Nat) (g : W32) (k : BitVec 512), powered s = true ∧ (keySlot s i).old = some (g, k) ∧
      genInUse s i g = false ∧ (ksOf s .p0).busy = false ∧ (ksOf s .p1).busy = false) ∧
    (∃ (s : State), powered s = true ∧ s.trust.stores ≠ []) ∧
    (∃ (s : State) (pf : Pf) (i : Nat) (p : KeySlot), powered s = true ∧ s.trust.stores =
      [{ why := .generate pf, slot := i, prev := p }]) ∧
    (∃ (s : State) (v : W32), running s = true ∧ (fieldOf 0 12 v).toNat ≤ 2048 ∧ ksplitLocked s = false) :=
  ⟨⟨up, .p0, 5, by decide +kernel⟩,
   ⟨{ up with tab.keys := [(5, ⟨1, some 0, none⟩)] }, .p0, 5, by decide +kernel⟩,
   ⟨{ up with tab.keys := [(5, ⟨2, some 0, some (1, 0)⟩)] }, 5, 1, 0, by decide +kernel⟩,
   ⟨{ up with trust.stores := [⟨.generate .p0, 5, KeySlot.empty⟩] }, by decide +kernel⟩,
   ⟨{ up with trust.stores := [⟨.generate .p0, 5, KeySlot.empty⟩] }, .p0, 5, KeySlot.empty, by decide +kernel⟩,
   ⟨up, 100, by decide +kernel⟩⟩

/-- States and operands that meet the hypotheses of each clause of `IdeKeyManagementCompletes`. -/
theorem meets_IdeKeyManagementCompletes :
    (∃ (s : State) (p : Pf) (i : Nat), spdmUp s (.doe p) = true ∧ sessionUp (spdmOf s (.doe p)) i = true) ∧
    (∃ (s : State) (p : Pf) (i : Nat) (k : IdeKeyRef) (v : BitVec 256), spdmUp s (.doe p) = true ∧ sessionUp (spdmOf
      s (.doe p)) i = true ∧ k.stream ≤ 4 ∧ k ∉ (ideOf s p).active) ∧
    (∃ (s : State) (p : Pf) (i : Nat) (k : IdeKeyRef) (v : BitVec 256), spdmUp s (.doe p) = true ∧ sessionUp (spdmOf
      s (.doe p)) i = true ∧ k ∈ (ideOf s p).active) ∧
    (∃ (s : State) (p : Pf) (i : Nat) (k : IdeKeyRef), spdmUp s (.doe p) = true ∧ sessionUp (spdmOf s (.doe p)) i =
      true ∧ (ideOf s p).holds k = true) ∧
    (∃ (s : State) (p : Pf) (i : Nat) (k : IdeKeyRef), spdmUp s (.doe p) = true ∧ sessionUp (spdmOf s (.doe p)) i =
      true) ∧
    (∃ (s : State) (p : Pf) (i : Nat) (k : IdeKeyRef) (v : BitVec 256), spdmUp s (.doe p) = true ∧ sessionUp (spdmOf
      s (.doe p)) i = true ∧ k.stream ≤ 4 ∧ k ∉ (ideOf s p).active) ∧
    (∃ (s : State) (p : Pf) (i : Nat), spdmUp s (.doe p) = true ∧ sessionUp (spdmOf s (.doe p)) i = true) ∧
    (∃ (s : State) (m : IdeKmMsg), fullyUp s = true) :=
  ⟨⟨spdmUp0, .p0, 1, by decide +kernel⟩,
   ⟨spdmUp0, .p0, 1, { ide0 with stream := 1 }, 0, by decide +kernel⟩,
   ⟨spdmUp0, .p0, 1, ide0, 0, by decide +kernel⟩,
   ⟨spdmUp0, .p0, 1, ide0, by decide +kernel⟩,
   ⟨spdmUp0, .p0, 1, ide0, by decide +kernel⟩,
   ⟨spdmUp0, .p0, 1, { ide0 with stream := 1 }, 0, by decide +kernel⟩,
   ⟨spdmUp0, .p0, 1, by decide +kernel⟩,
   ⟨spdmUp0, .query, by decide +kernel⟩⟩

/-- States and operands that meet the hypotheses of each clause of `SpdmRequestsComplete`. -/
theorem meets_SpdmRequestsComplete :
    (∃ (s : State) (i : SpdmInst), spdmUp s i = true) ∧
    (∃ (s : State) (i : SpdmInst) (b : Bytes), spdmUp s i = true ∧ (spdmOf s i).version = true) ∧
    (∃ (s : State) (i : SpdmInst) (o : SpdmOffer) (b : Bytes) (k : Bool), spdmUp s i = true ∧ (spdmOf s i).caps =
      true ∧ o.ecdsaP384 = true ∧ o.sha384 = true ∧ k = (o.secp384r1 && o.aes256gcm)) ∧
    (∃ (s : State) (i : SpdmInst) (r : Bytes), spdmUp s i = true ∧ (spdmOf s i).algs = true ∧ r = spdmMsg 0x01 1 1
      (digestBytes (sha (certChain s)))) ∧
    (∃ (s : State) (i : SpdmInst) (o : Nat) (n : Nat) (b : Bytes) (r : Bytes), spdmUp s i = true ∧ (spdmOf s i).algs
      = true ∧ o < (certChain s).length ∧ b = slice (certChain s) o (min n ((certChain s).length - o)) ∧ r = spdmMsg
      0x02 0 0 (le16 b.length ++ le16 ((certChain s).length - o - b.length) ++ b)) ∧
    (∃ (s : State) (u : State) (i : SpdmInst) (m : W8) (b : Bytes), spdmUp s i = true ∧ (spdmOf s i).algs = true ∧
      s.trust.rng = .healthy ∧ u = drawn 1 (drbgUse s)) ∧
    (∃ (s : State) (u : State) (i : SpdmInst) (k : Nat) (b : Bytes) (l : List Nat) (n : Bytes) (r : Bytes), spdmUp s
      i = true ∧ (spdmOf s i).algs = true ∧ s.trust.rng = .healthy ∧ u = drawn 1 (drbgUse s) ∧ measIndices k = some
      l ∧ n = beBytes 32 (draw 256 s).toNat ∧ r = spdmMsg 0x60 (if k = 0 then 9 else 0) 0 (leBytes 1 l.length ++
      leBytes 3 (l.flatMap (measBytes (drbgUse s))).length ++ l.flatMap (measBytes (drbgUse s)) ++ n ++ le16 0 ++
      slice b 0 8)) ∧
    (∃ (s : State) (u : State) (i : SpdmInst) (k : Nat) (b : Bytes) (l : List Nat), spdmUp s i = true ∧ (spdmOf s
      i).algs = true ∧ s.trust.rng = .healthy ∧ u = drawn 1 (drbgUse s) ∧ measIndices k = some l) ∧
    (∃ (s : State) (i : SpdmInst) (m : W8) (b : Bytes), spdmUp s i = true ∧ (spdmOf s i).algs = true ∧ (spdmOf s
      i).kex = true ∧ s.trust.rng = .healthy ∧ (spdmOf s i).sessions.length < 2 ∧ spdmSessions s < 4) ∧
    (∃ (s : State) (i : SpdmInst) (n : Nat) (e : SpdmSess), spdmUp s i = true ∧ ((spdmOf s i).sessions.find? fun x
      => decide (x.id = n)) = some e ∧ e.done = false) ∧
    (∃ (s : State) (i : SpdmInst) (n : Nat) (m : Digest) (e : SpdmSess), spdmUp s i = true ∧ ((spdmOf s
      i).sessions.find? fun x => decide (x.id = n)) = some e ∧ e.done = false ∧ m ≠ verifyData e.reqSecret
      (e.transcript ++ spdmMsg 0xE5 0 0 [])) ∧
    (∃ (s : State) (i : SpdmInst) (n : Nat) (o : W8) (m : W8), spdmUp s i = true ∧ sessionUp (spdmOf s i) n = true ∧
      (o = 1 ∨ o = 2 ∨ o = 3)) ∧
    (∃ (s : State) (i : SpdmInst) (n : Nat), spdmUp s i = true ∧ sessionUp (spdmOf s i) n = true) ∧
    (∃ (s : State) (i : SpdmInst) (n : Nat), spdmUp s i = true ∧ sessionUp (spdmOf s i) n = true) ∧
    (∃ (s : State) (i : SpdmInst) (h : Nat) (n : Nat) (b : Bytes) (w : Nat), spdmUp s i = true ∧ (spdmOf s i).chunk
      = some (h, n, b, w)) :=
  ⟨⟨spdmUp0, .doe .p0, by decide +kernel⟩,
   ⟨spdmUp0, .doe .p0, [], by decide +kernel⟩,
   ⟨spdmUp0, .doe .p0, ⟨true, true, true, true⟩, [], true, by decide +kernel⟩,
   ⟨spdmUp0, .doe .p0, spdmMsg 0x01 1 1 (digestBytes (sha (certChain spdmUp0))), by decide +kernel,
     by decide +kernel, rfl⟩,
   ⟨spdmUp0, .doe .p0, 0, 0, slice (certChain spdmUp0) 0 (min 0 ((certChain spdmUp0).length - 0)), spdmMsg 0x02 0 0
     (le16 (slice (certChain spdmUp0) 0 (min 0 ((certChain spdmUp0).length - 0))).length ++ le16 ((certChain
     spdmUp0).length - 0 - (slice (certChain spdmUp0) 0 (min 0 ((certChain spdmUp0).length - 0))).length) ++ (slice
     (certChain spdmUp0) 0 (min 0 ((certChain spdmUp0).length - 0)))), by decide +kernel, by decide +kernel,
     cert_pos, rfl, rfl⟩,
   ⟨spdmUp0, drawn 1 (drbgUse spdmUp0), .doe .p0, 0, [], by decide +kernel, by decide +kernel, by decide +kernel,
     rfl⟩,
   ⟨spdmUp0, drawn 1 (drbgUse spdmUp0), .doe .p0, 0, [], [], beBytes 32 (draw 256 spdmUp0).toNat, spdmMsg 0x60 (if 0
     = 0 then 9 else 0) 0 (leBytes 1 0 ++ leBytes 3 0 ++ [] ++ beBytes 32 (draw 256 spdmUp0).toNat ++ le16 0 ++
     slice [] 0 8), by decide +kernel, by decide +kernel, by decide +kernel, rfl, by decide +kernel, rfl, rfl⟩,
   ⟨spdmUp0, drawn 1 (drbgUse spdmUp0), .doe .p0, 0, [], [], by decide +kernel, by decide +kernel,
     by decide +kernel, rfl, by decide +kernel⟩,
   ⟨{ spdmUp0 with trust.spdmDoe0.sessions := [] }, .doe .p0, 0, [], by decide +kernel⟩,
   ⟨spdmUp0, .doe .p0, 2, ⟨2, false, [], 0, 0, 0⟩, by decide +kernel⟩,
   ⟨spdmUp0, .doe .p0, 2, verifyData 0 ([] ++ spdmMsg 0xE5 0 0 []) + 1, ⟨2, false, [], 0, 0, 0⟩, by decide +kernel,
     by decide +kernel, by decide +kernel, fun h => digest_ne _ h.symm⟩,
   ⟨spdmUp0, .doe .p0, 1, 1, 0, by decide +kernel⟩,
   ⟨spdmUp0, .doe .p0, 1, by decide +kernel⟩,
   ⟨spdmUp0, .doe .p0, 1, by decide +kernel⟩,
   ⟨spdmUp0, .doe .p0, 3, 0, [], 0, by decide +kernel⟩⟩

set_option maxRecDepth 20000 in
/-- States and operands that meet the hypotheses of each clause of `LedgerCommandsComplete`. -/
theorem meets_LedgerCommandsComplete :
    (∃ (s : State) (p : EvrPart), running s = true ∧ s.evr.placed = true ∧ (ledger s p).queue ≠ [] ∧ (ledger s
      p).used ≠ 2048 ∧ (ledger s p).sectors ≠ [] ∧ evrSectorNo p (ledger s p) ∉ s.nor.retired) ∧
    (∃ (s : State) (p : EvrPart), running s = true ∧ s.evr.placed = true ∧ (ledger s p).queue ≠ [] ∧ (ledger s
      p).used ≠ 2048) ∧
    (∃ (s : State), running s = true ∧ s.evr.dropPending ≠ 0 ∧ s.evr.gen.queue.length + recsDue .gen s.evr.gen ≤
      256) ∧
    (∃ (s : State), running s = true ∧ s.evr.placed = true) ∧
    (∃ (s : State), running s = true ∧ s.evr.placed = true ∧ signStarted s = true) ∧
    (∃ (s : State) (b : Bool), running s = true ∧ s.evr.placed = false) ∧
    (∃ (t : Tag) (s : State) (u : State) (part : BitVec 2) (p : EvrPart) (q : W32) (n : BitVec 14), Safety.startOf t
      0xC1 0 s = some u ∧ partOf part.toNat = some p ∧ (isVf t.src = true → p = .boot) ∧ n.toNat ≤ 8192 ∧ (t.src =
      .mgt → 128 + 128 * n.toNat ≤ 4096)) ∧
    (∃ (t : Tag) (s : State) (u : State) (part : BitVec 2) (p : EvrPart) (q : W32) (h : BitVec 128) (ok : Bool),
      Safety.startOf t 0xC1 0 s = some u ∧ partOf part.toNat = some p ∧ isVf t.src = false ∧ seqFollows q (ledger u
      p).ackedSeq = false) ∧
    (∃ (t : Tag) (s : State) (u : State) (part : BitVec 2) (p : EvrPart) (r : EvrRec) (h : BitVec 128),
      Safety.startOf t 0xC1 0 s = some u ∧ partOf part.toNat = some p ∧ isVf t.src = false ∧ seqFollows r.seq
      (ledger u p).ackedSeq = true ∧ (ledger u p).held.find? (fun x => decide (x.seq = r.seq)) = some r ∧
      (digestBytes (chainHash r)).take 16 = beBytes 16 h.toNat) ∧
    (∃ (t : Tag) (s : State) (u : State) (n : Nat) (o : Nat), Safety.startOf t 0x02 0 s = some u ∧ (t.src = .mgt → n
      ≤ 4096) ∧ o ≤ (bootLedgerPage u).length) ∧
    (∃ (t : Tag) (s : State) (u : State) (q : Requester) (part : BitVec 1) (r : EvrRec) (d : Bytes) (g :
      DualVerdict), Safety.startOf t 0xC2 0 s = some u ∧ requesterOf t.src = some q ∧ (ledger u (if part = 0 then
      .boot else .gen)).held.find? (fun x => decide (x.seq = r.seq)) = some r ∧ authHead (padTo 3664 d) 0x0011 =
      true ∧ ownerState u ≠ 0 ∧ clearBeyond (if part = 0 then .boot else .gen) (ledger u (if part = 0 then .boot
      else .gen)) r.seq = false ∧ authBinds u (padTo 3664 d) (nonceOf u q) (clearTarget (if part = 0 then .boot else
      .gen) r) noDigest = true ∧ authSigned (padTo 3664 d) g (ownerKey u) = true) :=
  ⟨⟨{ up with evr.boot := { led0 with queue := [rec0] } }, .boot, by decide +kernel⟩,
   ⟨{ up with evr.boot := { led0 with queue := [rec0] } }, .boot, by decide +kernel⟩,
   ⟨{ up with evr.dropPending := 1 }, by decide +kernel⟩,
   ⟨{ up with evr.boot := led0 }, by decide +kernel⟩,
   ⟨{ up with evr.boot := led0, evr.signed := true }, by decide +kernel⟩,
   ⟨{ up with evr.placed := false }, true, by decide +kernel⟩,
   ⟨ta, up, up, 0, .boot, 0, 0, rfl, by decide +kernel⟩,
   ⟨ta, up, up, 0, .boot, 0, 0, true, rfl, by decide +kernel⟩,
   ⟨ta, { up with evr.boot := led0 }, { up with evr.boot := led0 }, 0, .boot, rec0, BitVec.ofNat 128 ((chainHash
     rec0).toNat / 256 ^ 32), rfl, by decide +kernel, by decide +kernel, by decide +kernel, by decide +kernel,
     hash_head _⟩,
   ⟨ta, up, up, 0, 0, rfl, by decide +kernel⟩,
   ⟨ta, owned 1 { up with evr.boot := led0, evr.gen := led0, trust.noncePf0 := some 0 }, owned 1
     { up with evr.boot := led0, evr.gen := led0, trust.noncePf0 := some 0 }, .pf0, 1, rec0, authClear (clearTarget
     .gen rec0), dv, rfl, by decide +kernel, by decide +kernel, by decide +kernel, by decide +kernel,
     by decide +kernel, binds_of rfl rfl rfl rfl rfl, signed_of rfl rfl rfl rfl⟩⟩

/-- States and operands that meet the hypotheses of each clause of `UpdateCommandsComplete`. -/
theorem meets_UpdateCommandsComplete :
    (∃ (t : Tag) (s : State) (u : State) (w : State) (r : Requester) (off : Nat) (d : Bytes) (i : SlotId),
      Safety.startOf t 0x11 0 s = some u ∧ requesterOf t.src = some r ∧ u.nvm.sanitize = none ∧ downloadFields
      (decide (t.src = .mgt)) off d.length = true ∧ gate u = none ∧ u.upd.holder = some r ∧ u.upd.slot = some i ∧
      slotRetired u i = false ∧ (∀ k ∈ kib4Units off d.length, k ∉ u.upd.written) ∧ w = eraseSectors (newSectors u
      (slotBase i + off) d.length) u ∧ rangeDone w (slotBase i + off) (keepBytes w i off d).length = false) ∧
    (∃ (t : Tag) (s : State) (u : State) (x : State) (w : State) (r : Requester) (off : Nat) (d : Bytes) (i :
      SlotId), Safety.startOf t 0x11 0 s = some u ∧ requesterOf t.src = some r ∧ u.nvm.sanitize = none ∧
      downloadFields (decide (t.src = .mgt)) off d.length = true ∧ gate u = none ∧ u.upd.holder = none ∧
      inactiveSlot u = some i ∧ canStore .boot u = true ∧ x = openUpd r i true u ∧ w = eraseSectors (newSectors x
      (slotBase i + off) d.length) x ∧ rangeDone w (slotBase i + off) (keepBytes w i off d).length = false) ∧
    (∃ (t : Tag) (s : State) (u : State) (r : Requester) (off : Nat) (d : Bytes) (i : SlotId) (stored : Bool),
      Safety.startOf t 0x11 0 s = some u ∧ requesterOf t.src = some r ∧ u.nvm.sanitize = none ∧ downloadFields
      (decide (t.src = .mgt)) off d.length = true ∧ gate u = none ∧ u.upd.holder = some r ∧ u.upd.slot = some i ∧
      slotRetired u i = false ∧ (∀ k ∈ kib4Units off d.length, k ∉ u.upd.written) ∧ newSectors u (slotBase i + off)
      d.length ≠ []) ∧
    (∃ (t : Tag) (s : State) (u : State) (r : Requester) (off : Nat) (d : Bytes) (st : Status) (o : SlotWrite)
      (stored : Bool), Safety.startOf t 0x11 0 s = some u ∧ requesterOf t.src = some r ∧ u.nvm.sanitize = none ∧
      downloadFields (decide (t.src = .mgt)) off d.length = true ∧ gate u = some st) ∧
    (∃ (t : Tag) (s : State) (u : State) (r : Requester) (i : SlotId) (e : ImageEnv), Safety.startOf t 0x10 0 s =
      some u ∧ requesterOf t.src = some r ∧ u.nvm.sanitize = none ∧ gate u = none ∧ inactiveSlot u = some i ∧
      u.upd.holder = some r ∧ u.upd.slot = some i ∧ canStore .boot (closeUpd u) = true) ∧
    (∃ (t : Tag) (s : State) (u : State) (r : Requester) (i : SlotId) (e : ImageEnv), Safety.startOf t 0x10 0 s =
      some u ∧ requesterOf t.src = some r ∧ u.nvm.sanitize = none ∧ gate u = none ∧ inactiveSlot u = some i ∧
      u.upd.holder = some r ∧ u.upd.slot = some i ∧ canStore .boot (closeUpd u) = true) ∧
    (∃ (t : Tag) (s : State) (u : State) (r : Requester) (i : SlotId) (e : ImageEnv), Safety.startOf t 0x10 0 s =
      some u ∧ requesterOf t.src = some r ∧ u.nvm.sanitize = none ∧ gate u = none ∧ inactiveSlot u = some i ∧
      u.upd.holder = none ∧ stagedEmpty u i = true ∧ canStore .boot u = true) ∧
    (∃ (t : Tag) (s : State) (u : State) (n : W16), Safety.startOf t 0xCB 0 s = some u ∧ Safety.allowed true false
      true t = true ∧ 64 ≤ n.toNat) ∧
    (∃ (s : State), running s = true) :=
  ⟨⟨t0,
     { up with upd.holder := some .mgt, upd.slot := some .a, arm.eAvail := 2 ^ 60, hold.dumpCapMib := 4096, tab.groups := [(0, { Grp.reset with state := .normal, n := 12 })], flash.chans := (List.range 12).map fun c => (c, { Chan.reset with state := .online, mode := 7, accepted := [0] }) },
     { up with upd.holder := some .mgt, upd.slot := some .a, arm.eAvail := 2 ^ 60, hold.dumpCapMib := 4096, tab.groups := [(0, { Grp.reset with state := .normal, n := 12 })], flash.chans := (List.range 12).map fun c => (c, { Chan.reset with state := .online, mode := 7, accepted := [0] }) },
     eraseSectors (newSectors
     ({ up with upd.holder := some .mgt, upd.slot := some .a, arm.eAvail := 2 ^ 60, hold.dumpCapMib := 4096, tab.groups := [(0, { Grp.reset with state := .normal, n := 12 })], flash.chans := (List.range 12).map fun c => (c, { Chan.reset with state := .online, mode := 7, accepted := [0] }) })
     (slotBase .a + 0) (List.replicate 4096 0).length)
     ({ up with upd.holder := some .mgt, upd.slot := some .a, arm.eAvail := 2 ^ 60, hold.dumpCapMib := 4096, tab.groups := [(0, { Grp.reset with state := .normal, n := 12 })], flash.chans := (List.range 12).map fun c => (c, { Chan.reset with state := .online, mode := 7, accepted := [0] }) }),
     .mgt, 0, List.replicate 4096 0, .a, rfl, by decide +kernel, by decide +kernel, by decide +kernel,
     by decide +kernel, by decide +kernel, by decide +kernel, by decide +kernel, by decide +kernel, rfl,
     by decide +kernel⟩,
   ⟨t0,
     { up with arm.eAvail := 2 ^ 60, hold.dumpCapMib := 4096, tab.groups := [(0, { Grp.reset with state := .normal, n := 12 })], flash.chans := (List.range 12).map fun c => (c, { Chan.reset with state := .online, mode := 7, accepted := [0] }) },
     { up with arm.eAvail := 2 ^ 60, hold.dumpCapMib := 4096, tab.groups := [(0, { Grp.reset with state := .normal, n := 12 })], flash.chans := (List.range 12).map fun c => (c, { Chan.reset with state := .online, mode := 7, accepted := [0] }) },
     openUpd .mgt .a true
     ({ up with arm.eAvail := 2 ^ 60, hold.dumpCapMib := 4096, tab.groups := [(0, { Grp.reset with state := .normal, n := 12 })], flash.chans := (List.range 12).map fun c => (c, { Chan.reset with state := .online, mode := 7, accepted := [0] }) }),
     eraseSectors (newSectors (openUpd .mgt .a true
     ({ up with arm.eAvail := 2 ^ 60, hold.dumpCapMib := 4096, tab.groups := [(0, { Grp.reset with state := .normal, n := 12 })], flash.chans := (List.range 12).map fun c => (c, { Chan.reset with state := .online, mode := 7, accepted := [0] }) }))
     (slotBase .a + 0) (List.replicate 4096 0).length) (openUpd .mgt .a true
     ({ up with arm.eAvail := 2 ^ 60, hold.dumpCapMib := 4096, tab.groups := [(0, { Grp.reset with state := .normal, n := 12 })], flash.chans := (List.range 12).map fun c => (c, { Chan.reset with state := .online, mode := 7, accepted := [0] }) })),
     .mgt, 0, List.replicate 4096 0, .a, rfl, by decide +kernel, by decide +kernel, by decide +kernel,
     by decide +kernel, by decide +kernel, by decide +kernel, by decide +kernel, rfl, rfl, by decide +kernel⟩,
   ⟨t0,
     { up with upd.holder := some .mgt, upd.slot := some .a, arm.eAvail := 2 ^ 60, hold.dumpCapMib := 4096, tab.groups := [(0, { Grp.reset with state := .normal, n := 12 })], flash.chans := (List.range 12).map fun c => (c, { Chan.reset with state := .online, mode := 7, accepted := [0] }) },
     { up with upd.holder := some .mgt, upd.slot := some .a, arm.eAvail := 2 ^ 60, hold.dumpCapMib := 4096, tab.groups := [(0, { Grp.reset with state := .normal, n := 12 })], flash.chans := (List.range 12).map fun c => (c, { Chan.reset with state := .online, mode := 7, accepted := [0] }) },
     .mgt, 0, List.replicate 4096 0, .a, true, rfl, by decide +kernel⟩,
   ⟨t0, owned 2 up, owned 2 up, .mgt, 0, List.replicate 4096 0, .ownerLocked, .done, true, rfl, by decide +kernel⟩,
   ⟨t0,
     { up with upd.holder := some .mgt, upd.slot := some .a, arm.eAvail := 2 ^ 60, hold.dumpCapMib := 4096, tab.groups := [(0, { Grp.reset with state := .normal, n := 12 })], flash.chans := (List.range 12).map fun c => (c, { Chan.reset with state := .online, mode := 7, accepted := [0] }) },
     { up with upd.holder := some .mgt, upd.slot := some .a, arm.eAvail := 2 ^ 60, hold.dumpCapMib := 4096, tab.groups := [(0, { Grp.reset with state := .normal, n := 12 })], flash.chans := (List.range 12).map fun c => (c, { Chan.reset with state := .online, mode := 7, accepted := [0] }) },
     .mgt, .a, img, rfl, by decide +kernel⟩,
   ⟨t0,
     { up with upd.holder := some .mgt, upd.slot := some .a, arm.eAvail := 2 ^ 60, hold.dumpCapMib := 4096, tab.groups := [(0, { Grp.reset with state := .normal, n := 12 })], flash.chans := (List.range 12).map fun c => (c, { Chan.reset with state := .online, mode := 7, accepted := [0] }) },
     { up with upd.holder := some .mgt, upd.slot := some .a, arm.eAvail := 2 ^ 60, hold.dumpCapMib := 4096, tab.groups := [(0, { Grp.reset with state := .normal, n := 12 })], flash.chans := (List.range 12).map fun c => (c, { Chan.reset with state := .online, mode := 7, accepted := [0] }) },
     .mgt, .a, img, rfl, by decide +kernel⟩,
   ⟨t0, storeRecord (.boot ⟨.empty, .active, 1, 0, 0⟩) true
     ({ up with arm.eAvail := 2 ^ 60, hold.dumpCapMib := 4096, tab.groups := [(0, { Grp.reset with state := .normal, n := 12 })], flash.chans := (List.range 12).map fun c => (c, { Chan.reset with state := .online, mode := 7, accepted := [0] }) }),
     storeRecord (.boot ⟨.empty, .active, 1, 0, 0⟩) true
     ({ up with arm.eAvail := 2 ^ 60, hold.dumpCapMib := 4096, tab.groups := [(0, { Grp.reset with state := .normal, n := 12 })], flash.chans := (List.range 12).map fun c => (c, { Chan.reset with state := .online, mode := 7, accepted := [0] }) }),
     .mgt, .a, img, rfl, by decide +kernel⟩,
   ⟨t0, up, up, 64, rfl, by decide +kernel⟩,
   ⟨up, by decide +kernel⟩⟩

/-- States and operands that meet the hypotheses of each clause of `LinkCommandsComplete`. -/
theorem meets_LinkCommandsComplete :
    (∃ (s : State) (p : Pf) (x : LinkPartner) (w : Nat), s.pwr.phase = .released ∧ s.boot.phase ≠ .optionLoad ∧
      portLanes s p ≠ 0 ∧ x.present = true ∧ x.rate ≠ 0 ∧ w = widthUpTo (min x.width (portLanes s p)) ∧ w ≠ 0) ∧
    (∃ (s : State) (p : Pf) (w : Nat), (portState s p).up = true ∧ w = (portState s p).width ∧ 1 < w) ∧
    (∃ (s : State) (p : Pf), s.pwr.phase = .released ∧ (portState s p).up = true) ∧
    (∃ (s : State) (p : Pf), (portState s p).up = true ∧ ((portState s p).flit = false ∨ anySecure s p = false)) ∧
    (∃ (s : State) (p : Pf), (portState s p).flit = true ∧ anySecure s p = true) ∧
    (∃ (s : State) (p : Pf) (w : Nat), (portState s p).up = true ∧ (portState s p).flit = true ∧ 1 ≤ w ∧ w ≤
      (portState s p).width ∧ widthUpTo w = w) :=
  ⟨⟨up, .p0, ⟨true, 6, 16, true⟩, 16, by decide +kernel⟩,
   ⟨{ up with port0 := port0 }, .p0, 16, by decide +kernel⟩,
   ⟨{ up with port0 := port0 }, .p0, by decide +kernel⟩,
   ⟨{ up with port0 := port0 }, .p0, by decide +kernel⟩,
   ⟨{ spdmUp0 with port0 := port0 }, .p0, by decide +kernel⟩,
   ⟨{ up with port0 := port0 }, .p0, 8, by decide +kernel⟩⟩

/-- States and operands that meet the hypotheses of each clause of `ConfigurationRequestsComplete`. -/
theorem meets_ConfigurationRequestsComplete :
    (∃ (s : State) (f : Func) (fld : CfgField), s.pwr.phase = .released ∧ s.boot.phase = .firmware ∧ s.boot.cfgBuilt
      = true ∧ (fnOf s f).resetting = false ∧ fnPresent s f = true) ∧
    (∃ (s : State) (f : Func) (r : CfgReq), s.pwr.phase = .released ∧ s.boot.phase = .firmware ∧ s.boot.cfgBuilt =
      false) ∧
    (∃ (s : State) (f : Func) (r : CfgReq), s.pwr.phase = .released ∧ s.boot.phase = .firmware ∧ s.boot.cfgBuilt =
      true ∧ (fnOf s f).resetting = false ∧ fnPresent s f = false) ∧
    (∃ (s : State) (fld : CfgField), s.pwr.phase = .released ∧ (s.boot.phase = .recovery ∨ s.boot.phase =
      .optionFault)) ∧
    (∃ (s : State) (v : W32), s.pwr.phase = .released ∧ (s.boot.phase = .recovery ∨ s.boot.phase = .optionFault)) ∧
    (∃ (s : State) (f : Func) (v : W32), s.pwr.phase = .released ∧ s.boot.phase = .firmware ∧ s.boot.cfgBuilt = true
      ∧ f.vf = 0 ∧ (fnOf s f).resetting = false ∧ fnPresent s f = true) ∧
    (∃ (s : State) (f : Func), running s = true ∧ fnPresent s f = true ∧ (fnOf s f).cfg.bme = true ∧ (fnOf s
      f).ctrl.en = true ∧ (fnOf s f).fatal = false) ∧
    (∃ (s : State) (f : Func), running s = true ∧ fnPresent s f = true ∧ (fnOf s f).cfg.bme = true ∧ (fnOf s
      f).ctrl.en = false) :=
  ⟨⟨up, f0, .vendorDevice, by decide +kernel⟩,
   ⟨{ up with boot.cfgBuilt := false }, f0, .read .vendorDevice, by decide +kernel⟩,
   ⟨up, ⟨.p0, 100⟩, .read .vendorDevice, by decide +kernel⟩,
   ⟨rcv, .vendorDevice, by decide +kernel⟩,
   ⟨rcv, 0, by decide +kernel⟩,
   ⟨up, f0, 1, by decide +kernel⟩,
   ⟨up, f0, by decide +kernel⟩,
   ⟨{ up with fns := [(1, { fn0 with ctrl := Ctrl.reset })] }, f0, by decide +kernel⟩⟩

/-- States and operands that meet the hypotheses of each clause of `InterruptCommandsComplete`. -/
theorem meets_InterruptCommandsComplete :
    (∃ (s : State) (f : Func) (i : IntInputs), running s = true ∧ fnPresent s f = true) ∧
    (∃ (s : State) (f : Func) (v : Nat), running s = true ∧ fnPresent s f = true ∧ v < msixSize f ∧ v < viCount s f
      ∧ v ∈ (fnOf s f).pba ∧ (fnOf s f).cfg.msixEn = true ∧ (fnOf s f).cfg.msixMask = false ∧ (fnOf s f).cfg.bme =
      true) ∧
    (∃ (s : State) (f : Func) (v : Nat), running s = true ∧ fnPresent s f = true ∧ v < msixSize f ∧ v ∉ (fnOf s
      f).pba) ∧
    (∃ (s : State) (f : Func), running s = true ∧ fnPresent s f = true) ∧
    (∃ (s : State) (f : Func) (v : W32), mmioOk s f = true ∧ (fnOf s f).frozen = false) ∧
    (∃ (s : State) (f : Func) (v : W32), mmioOk s f = true ∧ (fnOf s f).frozen = false) ∧
    (∃ (s : State) (f : Func), running s = true) :=
  ⟨⟨up, f0, ⟨true, false, false⟩, by decide +kernel⟩,
   ⟨{ up with fns := [(1, { fn0 with pba := [3], cfg := { fn0.cfg with msixEn := true } })] }, f0, 3,
     by decide +kernel⟩,
   ⟨up, f0, 3, by decide +kernel⟩,
   ⟨up, f0, by decide +kernel⟩,
   ⟨up, f0, 0, by decide +kernel⟩,
   ⟨up, f0, 0, by decide +kernel⟩,
   ⟨up, f0, by decide +kernel⟩⟩

/-- States and operands that meet the hypotheses of each clause of `TranslationCommandsComplete`. -/
theorem meets_TranslationCommandsComplete :
    (∃ (s : State) (f : Func) (b : Bool), running s = true ∧ fnPresent s f = true) ∧
    (∃ (s : State) (f : Func) (g : Nat) (r : Bool) (w : Bool) (n : Bool) (tag : Tag), running s = true ∧ (fnOf s
      f).cfg.atsEn = true ∧ (fnOf s f).cfg.bme = true ∧ (if n = true then w else r) = true) ∧
    (∃ (s : State) (f : Func) (g : Nat) (r : Bool) (w : Bool) (n : Bool) (tag : Tag), running s = true ∧ (fnOf s
      f).cfg.atsEn = true ∧ (fnOf s f).cfg.bme = true ∧ (if n = true then w else r) = true ∧ (fnOf s
      f).ats.entries.length < atsShare s ∧ atsTotal s < 4096 ∧ (∀ x ∈ s.fns, x.2.ats.entries.length ≤ atsShare s) ∧
      (∀ e ∈ (fnOf s f).ats.entries, e.page ≠ g)) ∧
    (∃ (s : State) (f : Func) (g : Nat) (n : Bool) (tag : Tag) (e : Inflight), running s = true ∧ (fnOf s
      f).cfg.atsEn = true ∧ (fnOf s f).cfg.bme = true ∧ inflightOf s tag = some e ∧ e.phase = .fetched) ∧
    (∃ (s : State) (f : Func) (g : Nat) (lo : Nat) (hi : Nat), running s = true ∧ fnPresent s f = true ∧ (fnOf s
      f).ats.pending.length < 32) ∧
    (∃ (s : State) (f : Func) (g : Nat) (l : List Tag), (fnOf s f).ats.pending.find? (fun e => decide (e.1 = g)) =
      some (g, l) ∧ powered s = true ∧ (∀ x ∈ l, inflightOf s x = none)) ∧
    (∃ (s : State) (f : Func) (g : Nat) (l : List Tag) (x : Tag), (fnOf s f).ats.pending.find? (fun e => decide (e.1
      = g)) = some (g, l) ∧ x ∈ l ∧ inflightOf s x ≠ none) :=
  ⟨⟨up, f0, true, by decide +kernel⟩,
   ⟨{ up with fns := [(1, { fn0 with cfg := { fn0.cfg with atsEn := true } })] }, f0, 4, true, true, true, ta,
     by decide +kernel⟩,
   ⟨{ up with fns := [(1, { fn0 with cfg := { fn0.cfg with atsEn := true } })] }, f0, 4, true, true, true, ta,
     by decide +kernel⟩,
   ⟨{ up with fns := [(1, { fn0 with cfg := { fn0.cfg with atsEn := true } })] }, f0, 4, false, ta, ea,
     by decide +kernel⟩,
   ⟨up, f0, 4, 0, 1, by decide +kernel⟩,
   ⟨{ up with fns := [(1, { fn0 with ctrl := { ctrl0 with inflight := [] }, ats := ⟨[], [(4, [ta])]⟩ })] }, f0, 4,
     [ta], by decide +kernel⟩,
   ⟨{ up with fns := [(1, { fn0 with ats := ⟨[], [(4, [ta])]⟩ })] }, f0, 4, [ta], ta, by decide +kernel⟩⟩

/-- States and operands that meet the hypotheses of each clause of `PcieErrorsComplete`. -/
theorem meets_PcieErrorsComplete :
    (∃ (s : State) (f : Func) (q : Nat) (c : W16) (e : Inflight), running s = true ∧ inflightOf s ⟨.fn f, q, c⟩ =
      some e ∧ e.phase = .fetched) ∧
    (∃ (s : State) (f : Func), running s = true) ∧
    (∃ (s : State) (f : Func) (q : Nat) (c : W16) (e : Inflight) (k : DmaError), running s = true ∧ inflightOf s
      ⟨.fn f, q, c⟩ = some e ∧ e.phase = .fetched) ∧
    (∃ (s : State) (pr : DoeProtocol) (n : Nat) (h : Bytes), running s = true ∧ s.boot.cfgBuilt = true ∧ 0 < n ∧ n ≤
      8192 ∧ pr ≠ .unsupported ∧ pr ≠ .discovery ∧ (h.length < 2 ∨ spdmListed (h.getD 1 0).toNat = true)) ∧
    (∃ (s : State) (n : Nat) (h : Bytes), running s = true ∧ s.boot.cfgBuilt = true ∧ 0 < n ∧ n ≤ 8192) ∧
    (∃ (s : State) (pr : DoeProtocol) (n : Nat) (h : Bytes), running s = true ∧ s.boot.cfgBuilt = true ∧ 0 < n ∧ n ≤
      8192 ∧ pr ≠ .unsupported ∧ pr ≠ .discovery ∧ 2 ≤ h.length ∧ spdmListed (h.getD 1 0).toNat = false) ∧
    (∃ (s : State) (n : Nat) (h : Bytes), running s = true ∧ s.boot.cfgBuilt = true ∧ 0 < n ∧ n ≤ 8192) ∧
    (∃ (s : State) (pr : DoeProtocol) (n : Nat) (h : Bytes), running s = true ∧ s.boot.cfgBuilt = true ∧ (n = 0 ∨
      8192 < n)) ∧
    (∃ (s : State) (p : Pf) (n : Nat) (b : IdeSub), running s = true ∧ Sparse.read IdeState.insecure (ideOf s
      p).streams n = .secure) :=
  ⟨⟨up, f0, 0, 7, ea, by decide +kernel⟩,
   ⟨up, f0, by decide +kernel⟩,
   ⟨up, f0, 0, 7, ea, .poisoned, by decide +kernel⟩,
   ⟨up, .cmaSpdm, 12, [], by decide +kernel⟩,
   ⟨up, 12, [1], by decide +kernel⟩,
   ⟨up, .cmaSpdm, 12, [0x13, 0x01], by decide +kernel⟩,
   ⟨up, 12, [], by decide +kernel⟩,
   ⟨up, .discovery, 0, [], by decide +kernel⟩,
   ⟨spdmUp0, .p0, 0, .pr, by decide +kernel⟩⟩

/-- States and operands that meet the hypotheses of each clause of `DoorbellsMoveTails`. -/
theorem meets_DoorbellsMoveTails :
    (∃ (s : State) (f : Func) (n : Nat) (v : W32) (q : Sq), mmioOk s f = true ∧ (fnOf s f).frozen = false ∧ (fnOf s
      f).ctrl.en = true ∧ sqOf s f n = some q ∧ (fieldOf 0 16 v).toNat < q.size) ∧
    (∃ (s : State) (f : Func) (n : Nat) (v : W32) (q : Cq), mmioOk s f = true ∧ (fnOf s f).frozen = false ∧ (fnOf s
      f).ctrl.en = true ∧ cqOf s f n = some q ∧ headOk q (fieldOf 0 16 v).toNat = true) ∧
    (∃ (s : State) (f : Func) (n : Nat) (v : W32), mmioOk s f = true ∧ (fnOf s f).frozen = false ∧ (fnOf s
      f).ctrl.en = true ∧ sqOf s f n = none) ∧
    (∃ (s : State) (f : Func) (n : Nat) (v : W32) (q : Sq), mmioOk s f = true ∧ (fnOf s f).frozen = false ∧ (fnOf s
      f).ctrl.en = true ∧ sqOf s f n = some q ∧ q.size ≤ (fieldOf 0 16 v).toNat) ∧
    (∃ (s : State) (f : Func) (n : Nat) (c : Bool) (v : W32), mmioOk s f = true ∧ (fnOf s f).frozen = true) ∧
    (∃ (s : State) (f : Func) (n : Nat) (v : Nat) (q : Sq), fetchBlocked s f = false ∧ sqOf s f n = some q ∧
      (q.watch = .polled ∨ q.watch = .parking) ∧ v < q.size ∧ v ≠ q.tail) ∧
    (∃ (s : State) (f : Func) (n : Nat) (q : Sq), fetchBlocked s f = false ∧ sqOf s f n = some q ∧ q.watch =
      .parking ∧ q.tail < q.size) ∧
    (∃ (s : State) (f : Func) (n : Nat) (q : Sq), fetchBlocked s f = false ∧ sqOf s f n = some q ∧ q.watch =
      .polled) ∧
    (∃ (s : State) (f : Func) (n : Nat) (h : Nat) (q : Cq), running s = true ∧ (fnOf s f).cfg.bme = true ∧ (fnOf s
      f).ctrl.en = true ∧ (fnOf s f).fatal = false ∧ (fnOf s f).resetting = false ∧ (fnOf s f).frozen = false ∧
      (fnOf s f).ctrl.shadow ≠ none ∧ cqOf s f n = some q ∧ headOk q h = true) :=
  ⟨⟨up, f0, 1, 2, sq1, by decide +kernel⟩,
   ⟨up, f0, 1, 0, cq1, by decide +kernel⟩,
   ⟨up, f0, 9, 0, by decide +kernel⟩,
   ⟨up, f0, 1, 8, sq1, by decide +kernel⟩,
   ⟨{ up with fns := [(1, { fn0 with frozen := true })] }, f0, 1, true, 0, by decide +kernel⟩,
   ⟨{ up with fns := [(1, { fn0 with ctrl := { ctrl0 with sqs := [{ sq1 with watch := .polled }] } })] }, f0, 1, 2,
     { sq1 with watch := .polled }, by decide +kernel⟩,
   ⟨{ up with fns := [(1, { fn0 with ctrl := { ctrl0 with sqs := [{ sq1 with watch := .parking }] } })] }, f0, 1,
     { sq1 with watch := .parking }, by decide +kernel⟩,
   ⟨{ up with fns := [(1, { fn0 with ctrl := { ctrl0 with sqs := [{ sq1 with watch := .polled }] } })] }, f0, 1,
     { sq1 with watch := .polled }, by decide +kernel⟩,
   ⟨{ up with fns := [(1, { fn0 with ctrl := { ctrl0 with sqs := [{ sq1 with watch := .plain }], shadow := some (0, 0) } })] },
     f0, 1, 0, cq1, by decide +kernel⟩⟩

/-- States and operands that meet the hypotheses of each clause of `FetchTakesTheNextEntry`. -/
theorem meets_FetchTakesTheNextEntry :
    (∃ (s : State) (f : Func) (e : Sqe) (q : Sq), sqOf s f e.sqid = some q ∧ q.head ≠ q.tail ∧ fetchBlocked s f =
      false ∧ e.ctxOk = true ∧ (fnOf s f).ctrl.stalled = false ∧ budgetAllows s f = true ∧ turnOf s f = true ∧ (fnOf
      s f).ctrl.mayTake e.sqid = true ∧ e.fuse = 0 ∧ unlistedCode e.opcode e.cdw10 = false ∧ (if e.sqid = 0 then
      adminOpcode e.opcode else ioOpcode e.opcode) = true ∧ (e.sqid = 0 ∨ ioCheck s f e.opcode e.nsid = none)) ∧
    (∃ (s : State) (f : Func) (e : Sqe) (q : Sq) (st : Status), sqOf s f e.sqid = some q ∧ q.head ≠ q.tail ∧
      fetchBlocked s f = false ∧ e.ctxOk = true ∧ (fnOf s f).ctrl.stalled = false ∧ budgetAllows s f = true ∧ turnOf
      s f = true ∧ (fnOf s f).ctrl.mayTake e.sqid = true ∧ e.sqid ≠ 0 ∧ ioCheck s f e.opcode e.nsid = some st) ∧
    (∃ (s : State) (f : Func) (e : Sqe) (q : Sq), sqOf s f e.sqid = some q ∧ q.head ≠ q.tail ∧ fetchBlocked s f =
      false ∧ e.ctxOk = true ∧ (fnOf s f).ctrl.stalled = false ∧ budgetAllows s f = true ∧ turnOf s f = true ∧ (fnOf
      s f).ctrl.mayTake e.sqid = true ∧ (e.sqid = 0 ∨ ioCheck s f e.opcode e.nsid = none) ∧ (if e.sqid = 0 then
      adminOpcode e.opcode else ioOpcode e.opcode) = false) ∧
    (∃ (s : State) (f : Func) (e : Sqe) (q : Sq), sqOf s f e.sqid = some q ∧ q.head ≠ q.tail ∧ e.ctxOk = true ∧
      (fnOf s f).ctrl.stalled = false ∧ budgetAllows s f = true ∧ (turnOf s f && (fnOf s f).ctrl.mayTake e.sqid) =
      false) ∧
    (∃ (s : State) (f : Func) (e : Sqe) (q : Sq), sqOf s f e.sqid = some q ∧ q.head ≠ q.tail ∧ fetchBlocked s f =
      false ∧ e.ctxOk = true ∧ (fnOf s f).ctrl.stalled = false ∧ budgetAllows s f = false) ∧
    (∃ (s : State) (f : Func), running s = true ∧ (fnOf s f).ctrl.stalled = true ∧ budgetAllows s f = true) ∧
    (∃ (s : State) (f : Func), budgetAllows s f = false) ∧
    (∃ (s : State) (f : Func) (e : Sqe) (q : Sq), sqOf s f e.sqid = some q ∧ q.head ≠ q.tail ∧ fetchBlocked s f =
      false ∧ e.ctxOk = false) :=
  ⟨⟨up, f0, ⟨1, 20, 0x02, 1, 0, 0, true⟩, sq1, by decide +kernel⟩,
   ⟨up, f0, ⟨1, 20, 0x02, 77, 0, 0, true⟩, sq1, .invalidNamespaceOrFormat, by decide +kernel⟩,
   ⟨up, f0, ⟨1, 20, 0x7F, 1, 0, 0, true⟩, sq1, by decide +kernel⟩,
   ⟨{ up with nvm.turn := (1, 8) }, f0, ⟨1, 20, 0x02, 1, 0, 0, true⟩, sq1, by decide +kernel⟩,
   ⟨{ up with fns := [(1, { fn0 with ctrl := { ctrl0 with inflight := List.replicate 16384 ei } })] }, f0, ⟨1, 20,
     0x02, 1, 0, 0, true⟩, sq1, by decide +kernel⟩,
   ⟨{ up with fns := [(1, { fn0 with ctrl := { ctrl0 with stalled := true } })] }, f0, by decide +kernel⟩,
   ⟨{ up with fns := [(1, { fn0 with ctrl := { ctrl0 with inflight := List.replicate 16384 ei } })] }, f0,
     by decide +kernel⟩,
   ⟨up, f0, ⟨1, 20, 0x02, 1, 0, 0, false⟩, sq1, by decide +kernel⟩⟩

/-- States and operands that meet the hypotheses of each clause of `QueueCommandsComplete`. -/
theorem meets_QueueCommandsComplete :
    (∃ (s : State) (f : Func) (q : Nat) (c : W16) (u : State) (n : Nat), Safety.startOf ⟨.fn f, q, c⟩ 0x00 0 s =
      some u ∧ n ≠ 0 ∧ sqOf u f n ≠ none) ∧
    (∃ (s : State) (f : Func) (q : Nat) (c : W16) (u : State) (n : Nat), Safety.startOf ⟨.fn f, q, c⟩ 0x04 0 s =
      some u ∧ n ≠ 0 ∧ cqOf u f n ≠ none ∧ (∀ x ∈ (fnOf u f).ctrl.sqs, x.cqid ≠ n)) ∧
    (∃ (s : State) (f : Func) (q : Nat) (c : W16) (u : State) (n : NewSq), Safety.startOf ⟨.fn f, q, c⟩ 0x01 0 s =
      some u ∧ n.qid ≠ 0 ∧ n.qid < vqCount u f ∧ sqOf u f n.qid = none ∧ 1 ≤ n.size ∧ n.size ≤ 0xFFFF ∧ n.contiguous
      = true ∧ fieldOf 16 4 (fnOf u f).ctrl.cc = 6 ∧ n.base.toNat % 4096 = 0 ∧ n.cqid ≠ 0 ∧ n.cqid < vqCount u f ∧
      cqOf u f n.cqid ≠ none) ∧
    (∃ (s : State) (f : Func) (q : Nat) (c : W16) (u : State) (n : NewCq), Safety.startOf ⟨.fn f, q, c⟩ 0x05 0 s =
      some u ∧ n.qid ≠ 0 ∧ n.qid < vqCount u f ∧ cqOf u f n.qid = none ∧ 1 ≤ n.size ∧ n.size ≤ 0xFFFF ∧ n.contiguous
      = true ∧ fieldOf 20 4 (fnOf u f).ctrl.cc = 4 ∧ n.base.toNat % 4096 = 0 ∧ n.iv < viCount u f ∧ n.iv < msixSize
      f) ∧
    (∃ (s : State) (f : Func) (c : W32) (a : W32), mmioOk s f = true ∧ (fnOf s f).frozen = false ∧ (fnOf s
      f).ctrl.en = false ∧ c.getLsbD 0 = true ∧ enableOk c a = true ∧ s.hold.restartDone = true ∧ (f.vf = 0 ∨ (fnOf
      s f).online = true)) ∧
    (∃ (s : State) (f : Func) (c : W32) (a : W32), mmioOk s f = true ∧ (fnOf s f).frozen = false ∧ (fnOf s
      f).ctrl.en = false ∧ c.getLsbD 0 = true ∧ enableOk c a = true ∧ s.hold.restartDone = false) ∧
    (∃ (s : State) (f : Func) (q : Nat) (c : W16) (u : State) (a : W64) (b : W64), Safety.startOf ⟨.fn f, q, c⟩ 0x7C
      0 s = some u ∧ a.toNat % 4096 = 0 ∧ b.toNat % 4096 = 0) ∧
    (∃ (s : State) (f : Func) (q : Nat) (c : W16) (u : State) (n : Nat) (i : W16) (e : Inflight), Safety.startOf
      ⟨.fn f, q, c⟩ 0x08 0 s = some u ∧ (⟨.fn f, n, i⟩ : Tag) ≠ ⟨.fn f, q, c⟩ ∧ inflightOf u ⟨.fn f, n, i⟩ = some e
      ∧ begun u f e = false) ∧
    (∃ (s : State) (f : Func) (q : Nat) (c : W16) (u : State) (n : Nat) (i : W16), Safety.startOf ⟨.fn f, q, c⟩ 0x08
      0 s = some u ∧ inflightOf u ⟨.fn f, n, i⟩ = none) ∧
    (∃ (s : State) (f : Func) (q : Nat) (c : W16) (u : State), Safety.startOf ⟨.fn f, q, c⟩ 0x0C 0 s = some u ∧
      (⟨.fn f, q, c⟩ : Tag) ∉ (fnOf u f).ctrl.aers ∧ (fnOf u f).ctrl.aers.length < 16 ∧ (fnOf u f).ctrl.events = []) ∧
    (∃ (s : State) (f : Func) (q : Nat) (c : W16) (u : State), Safety.startOf ⟨.fn f, q, c⟩ 0x0C 0 s = some u ∧
      (⟨.fn f, q, c⟩ : Tag) ∉ (fnOf u f).ctrl.aers ∧ 16 ≤ (fnOf u f).ctrl.aers.length) :=
  ⟨⟨up, f0, 0, 7, up, 1, rfl, by decide +kernel⟩,
   ⟨{ up with fns := [(1, { fn0 with ctrl := { ctrl0 with sqs := [sq0] } })] }, f0, 0, 7,
     { up with fns := [(1, { fn0 with ctrl := { ctrl0 with sqs := [sq0] } })] }, 1, rfl, by decide +kernel⟩,
   ⟨up, f0, 0, 7, up, ⟨2, 7, 0, 1, 0, true⟩, rfl, by decide +kernel⟩,
   ⟨up, f0, 0, 7, up, ⟨2, 7, 0, 1, true, true⟩, rfl, by decide +kernel⟩,
   ⟨{ up with fns := [(1, { fn0 with ctrl := Ctrl.reset })] }, f0, 0x00460001, 0x00070007, by decide +kernel⟩,
   ⟨{ up with hold.restartDone := false, fns := [(1, { fn0 with ctrl := Ctrl.reset })] }, f0, 0x00460001,
     0x00070007, by decide +kernel⟩,
   ⟨up, f0, 0, 7, up, 0, 0x1000, rfl, by decide +kernel⟩,
   ⟨up, f0, 0, 7, up, 1, 9, ei, rfl, by decide +kernel⟩,
   ⟨up, f0, 0, 7, up, 1, 77, rfl, by decide +kernel⟩,
   ⟨up, f0, 0, 7, up, rfl, by decide +kernel⟩,
   ⟨{ up with fns := [(1, { fn0 with ctrl := { ctrl0 with aers := List.replicate 16 ti } })] }, f0, 0, 7,
     { up with fns := [(1, { fn0 with ctrl := { ctrl0 with aers := List.replicate 16 ti } })] }, rfl,
     by decide +kernel⟩⟩

/-- States and operands that meet the hypotheses of each clause of `LogPagesAnswer`. -/
theorem meets_LogPagesAnswer :
    (∃ (t : Tag) (s : State) (u : State) (i : W8) (n : Nat) (o : Nat) (r : Bool), Safety.startOf t 0x02 0 s = some u
      ∧ Safety.namesCtrl t u ∧ logKnown i = true ∧ logAllowed t.src i = true ∧ (t.src = .mgt → n ≤ 4096) ∧ o ≤
      (logPage u t i).length) ∧
    (∃ (t : Tag) (s : State) (u : State) (i : W8) (n : Nat) (o : Nat) (r : Bool), Safety.startOf t 0x02 0 s = some u
      ∧ Safety.namesCtrl t u ∧ (logKnown i = false ∨ logAllowed t.src i = false)) ∧
    (∃ (t : Tag) (s : State) (u : State) (n : Nat) (o : Nat), Safety.startOf t 0x02 0 s = some u ∧ isVf t.src =
      false ∧ (t.src = .mgt → n ≤ 4096) ∧ o ≤ (diePage u).length) ∧
    (∃ (t : Tag) (s : State) (u : State) (k : BitVec 7) (n : Nat) (o : Nat), Safety.startOf t 0x02 0 s = some u ∧
      isVf t.src = false ∧ (t.src = .mgt → n ≤ 4096) ∧ o ≤ (tracePage u (k.toNat % 8)).length) ∧
    (∃ (t : Tag) (s : State) (u : State) (n : Nat) (o : Nat), Safety.startOf t 0x02 0 s = some u ∧ (t.src = .mgt → n
      ≤ 4096) ∧ o ≤ (unitPage u t.src).length) ∧
    (∃ (t : Tag) (s : State) (u : State) (n : Nat) (o : Nat), Safety.startOf t 0x02 0 s = some u ∧ isVf t.src =
      false ∧ (t.src = .mgt → n ≤ 4096) ∧ o ≤ (parityPage u).length) ∧
    (∃ (t : Tag) (s : State) (u : State) (n : Nat) (o : Nat), Safety.startOf t 0x02 0 s = some u ∧ isVf t.src =
      true) ∧
    (∃ (t : Tag) (s : State) (u : State) (i : W8) (k : W32) (b : Bytes), Safety.startOf t 0x06 k s = some u ∧
      Safety.namesCtrl t u ∧ cnsKnown i = true ∧ identifyData u (featFunc t) i k = some b) ∧
    (∃ (t : Tag) (s : State) (u : State) (i : W8) (k : W32), Safety.startOf t 0x06 k s = some u ∧ Safety.namesCtrl t
      u ∧ cnsKnown i = false) :=
  ⟨⟨ta, up, up, 0x01, 0, 0, false, rfl, namesCtrl_of (by decide +kernel), by decide +kernel⟩,
   ⟨ta, up, up, 0x99, 0, 0, false, rfl, namesCtrl_of (by decide +kernel), by decide +kernel⟩,
   ⟨ta, up, up, 0, 0, rfl, by decide +kernel⟩,
   ⟨ta, up, up, 0, 0, 0, rfl, by decide +kernel⟩,
   ⟨ta, up, up, 0, 0, rfl, by decide +kernel⟩,
   ⟨ta, up, up, 0, 0, rfl, by decide +kernel⟩,
   ⟨tv, up, up, 0, 0, rfl, by decide +kernel⟩,
   ⟨ta, up, up, 0x10, 0, nsList (visibleList up) 0, rfl, namesCtrl_of (by decide +kernel), by decide +kernel, rfl⟩,
   ⟨ta, up, up, 0x77, 0, rfl, namesCtrl_of (by decide +kernel), by decide +kernel⟩⟩

/-- States and operands that meet the hypotheses of each clause of `FeaturesAreSetAndRead`. -/
theorem meets_FeaturesAreSetAndRead :
    (∃ (t : Tag) (s : State) (u : State) (v : W32) (d : BitVec 128), Safety.startOf t 0x09 0 s = some u ∧
      Safety.namesCtrl t u) ∧
    (∃ (t : Tag) (s : State) (u : State) (v : W32) (d : BitVec 128), Safety.startOf t 0x09 0 s = some u ∧
      Safety.namesCtrl t u) ∧
    (∃ (t : Tag) (s : State) (u : State) (v : W32) (d : BitVec 128), Safety.startOf t 0x09 0 s = some u ∧
      Safety.namesCtrl t u ∧ v.getLsbD 0 = true) ∧
    (∃ (t : Tag) (s : State) (u : State) (v : W32) (d : BitVec 128), Safety.startOf t 0x09 0 s = some u ∧ isVf t.src
      = false ∧ fieldOf 16 4 v = 0 ∧ fieldOf 20 2 v = 0) ∧
    (∃ (t : Tag) (s : State) (u : State) (i : W8) (k : W32) (v : W32) (d : BitVec 128), Safety.startOf t 0x09 k s =
      some u ∧ Safety.namesCtrl t u ∧ featKnown i = true) ∧
    (∃ (t : Tag) (s : State) (u : State) (i : W8) (k : W32) (v : W32) (d : BitVec 128), Safety.startOf t 0x09 k s =
      some u ∧ Safety.namesCtrl t u ∧ featDevice i = true ∧ isVf t.src = true) ∧
    (∃ (t : Tag) (s : State) (u : State) (v : W32), Safety.startOf t 0x0A 0 s = some u ∧ Safety.namesCtrl t u) ∧
    (∃ (t : Tag) (s : State) (u : State) (v : W32), Safety.startOf t 0x0A 0 s = some u) ∧
    (∃ (t : Tag) (s : State) (u : State) (k : W32) (v : W32) (n : Ns), Safety.startOf t 0x0A k s = some u ∧
      visibleNs u k.toNat = some n) ∧
    (∃ (t : Tag) (s : State) (u : State) (v : W32), Safety.startOf t 0x09 0 s = some u ∧ isVf t.src = false ∧ 12 ≤
      (fieldOf 0 6 v).toNat ∧ (fieldOf 0 6 v).toNat ≤ 42) ∧
    (∃ (t : Tag) (s : State) (u : State) (v : W32), Safety.startOf t 0x09 0 s = some u ∧ isVf t.src = false ∧
      ((fieldOf 0 6 v).toNat < 12 ∨ 42 < (fieldOf 0 6 v).toNat)) ∧
    (∃ (t : Tag) (s : State) (u : State) (k : W32) (v : W32) (n : Ns), Safety.startOf t 0x09 k s = some u ∧ isVf
      t.src = false ∧ visibleNs u k.toNat = some n ∧ n.state ≠ .deleting ∧ nsInExport u k.toNat = false ∧ v.getLsbD
      31 = true ∧ (fieldOf 0 12 v).toNat < 2048 ∧ mayBind u t.src (fieldOf 0 12 v).toNat = true ∧ (keySlot u
      (fieldOf 0 12 v).toNat).gen ≠ 0 ∧ (∀ e ∈ u.tab.nss, e.1 ≠ k.toNat → e.2.slot ≠ some (fieldOf 0 12 v).toNat) ∧
      nsHoldsData u k.toNat = false) :=
  ⟨⟨ta, up, up, 0, 0, rfl, namesCtrl_of (by decide +kernel)⟩,
   ⟨ta, up, up, 0, 0, rfl, namesCtrl_of (by decide +kernel)⟩,
   ⟨ta, up, up, 1, 0, rfl, namesCtrl_of (by decide +kernel), by decide +kernel⟩,
   ⟨ta, up, up, 0, 0, rfl, by decide +kernel⟩,
   ⟨ta, up, up, 0x0B, 0, 0, 0, rfl, namesCtrl_of (by decide +kernel), by decide +kernel⟩,
   ⟨tv, up, up, 0x04, 0, 0, 0, rfl, namesCtrl_of (by decide +kernel), by decide +kernel⟩,
   ⟨ta, up, up, 0, rfl, namesCtrl_of (by decide +kernel)⟩,
   ⟨ta, up, up, 0, rfl⟩,
   ⟨ta, up, up, 1, 0, ns1, rfl, by decide +kernel⟩,
   ⟨ta, up, up, 20, rfl, by decide +kernel⟩,
   ⟨ta, up, up, 0, rfl, by decide +kernel⟩,
   ⟨ta, { up with tab.keys := [(5, ⟨1, some 0, none⟩)] }, { up with tab.keys := [(5, ⟨1, some 0, none⟩)] }, 1,
     0x80000005, ns1, rfl, by decide +kernel⟩⟩

/-- States and operands that meet the hypotheses of each clause of `NamespaceCommandsComplete`. -/
theorem meets_NamespaceCommandsComplete :
    (∃ (t : Tag) (s : State) (u : State) (c : NewNs) (i : Nat) (x : Nat), Safety.startOf t 0x0D 0 s = some u ∧
      Safety.allowed true false true t = true ∧ u.nvm.sanitize = none ∧ c.iuCode.toNat ≤ 2 ∧ c.lbaf.toNat ≤ 3 ∧
      lbaBytes c.lbaf.toNat ≤ iuBytes c.iuCode.toNat ∧ c.nsze ≠ 0 ∧ c.ncap.toNat ≤ c.nsze.toNat ∧ (c.iuCode.toNat =
      1 → cap4k u + c.nsze.toNat * lbaBytes c.lbaf.toNat ≤ 2 ^ 44) ∧ (c.nsze.toNat * lbaBytes c.lbaf.toNat + iuBytes
      c.iuCode.toNat - 1) / iuBytes c.iuCode.toNat * iuBytes c.iuCode.toNat ≤ unallocated u ∧ lowestFree 1 1024
      (u.tab.nss.map (·.1)) = some i ∧ lowestFree 0 1024 (u.tab.nss.map fun e => e.2.index) = some x) ∧
    (∃ (t : Tag) (s : State) (u : State) (k : W32) (n : Ns), Safety.startOf t 0x0D k s = some u ∧ Safety.allowed
      true false true t = true ∧ u.nvm.sanitize = none ∧ k ≠ 0xFFFFFFFF ∧ visibleNs u k.toNat = some n ∧ n.state ≠
      .deleting ∧ nsInExport u k.toNat = false) ∧
    (∃ (t : Tag) (s : State) (u : State) (k : W32), Safety.startOf t 0x0D k s = some u ∧ Safety.allowed true false
      true t = true ∧ u.nvm.sanitize = none ∧ k ≠ 0xFFFFFFFF ∧ visibleNs u k.toNat = none) ∧
    (∃ (s : State) (k : W32) (n : Ns) (t : Tag), running s = true ∧ nsOf s k.toNat = some n ∧ n.job = some (.delete
      t) ∧ nsBusy s k.toNat = false) ∧
    (∃ (s : State) (k : W32) (n : Ns) (t : Tag), nsOf s k.toNat = some n ∧ n.job = some (.delete t) ∧ nsBusy s
      k.toNat = true) ∧
    (∃ (t : Tag) (s : State) (u : State) (k : W32) (n : Ns) (l : List Nat), Safety.startOf t 0x15 k s = some u ∧
      Safety.allowed true false true t = true ∧ u.nvm.sanitize = none ∧ visibleNs u k.toNat = some n ∧ n.state ≠
      .deleting ∧ nsInExport u k.toNat = false ∧ l ≠ [] ∧ (∀ c ∈ l, 1 ≤ c ∧ c ≤ 256 ∧ c ∉ n.attached) ∧ n.priv =
      false) ∧
    (∃ (t : Tag) (s : State) (u : State) (k : W32) (n : Ns) (l : List Nat), Safety.startOf t 0x15 k s = some u ∧
      Safety.allowed true false true t = true ∧ u.nvm.sanitize = none ∧ visibleNs u k.toNat = some n ∧ n.state ≠
      .deleting ∧ nsInExport u k.toNat = false ∧ l ≠ [] ∧ (∀ c ∈ l, 1 ≤ c ∧ c ≤ 256 ∧ c ∈ n.attached)) :=
  ⟨⟨ta, { up with tab.tnvmcap := 2 ^ 40 }, { up with tab.tnvmcap := 2 ^ 40 }, ⟨8, 8, 1, 0, false⟩, 2, 1, rfl,
     by decide +kernel⟩,
   ⟨ta, up, up, 1, ns1, rfl, by decide +kernel⟩,
   ⟨ta, up, up, 9, rfl, by decide +kernel⟩,
   ⟨{ up with tab.nss := [(1, { ns1 with job := some (.delete t0) })], fns := [] }, 1,
     { ns1 with job := some (.delete t0) }, t0, by decide +kernel⟩,
   ⟨{ up with tab.nss := [(1, { ns1 with job := some (.delete t0) })] }, 1, { ns1 with job := some (.delete t0) },
     t0, by decide +kernel⟩,
   ⟨ta, up, up, 1, ns1, [3], rfl, by decide +kernel⟩,
   ⟨ta, up, up, 1, ns1, [1], rfl, by decide +kernel⟩⟩

/-- States and operands that meet the hypotheses of each clause of `DeviceOperationsComplete`. -/
theorem meets_DeviceOperationsComplete :
    (∃ (t : Tag) (s : State) (u : State) (f : Func) (n : Nat), Safety.startOf t 0x1C 0 s = some u ∧ Safety.allowed
      true false true t = true ∧ f.vf ≠ 0 ∧ f.vf ≤ 127 ∧ manages t.src f = true ∧ (fnOf u f).online = false ∧ 2 ≤ n
      ∧ n ≤ 64 ∧ vqTaken u f + n ≤ 1792) ∧
    (∃ (t : Tag) (s : State) (u : State) (f : Func) (n : Nat), Safety.startOf t 0x1C 0 s = some u ∧ Safety.allowed
      true false true t = true ∧ f.vf ≠ 0 ∧ f.vf ≤ 127 ∧ manages t.src f = true ∧ (fnOf u f).online = false ∧ 1 ≤ n
      ∧ n ≤ 64 ∧ viTaken u f + n ≤ 2048) ∧
    (∃ (t : Tag) (s : State) (u : State) (f : Func), Safety.startOf t 0x1C 0 s = some u ∧ Safety.allowed true false
      true t = true ∧ f.vf ≠ 0 ∧ f.vf ≤ 127 ∧ manages t.src f = true ∧ fnPresent u f = true ∧ 2 ≤ (fnOf u f).vq ∧ 1
      ≤ (fnOf u f).vi ∧ (fnOf u f).retired = false) ∧
    (∃ (t : Tag) (s : State) (u : State) (f : Func), Safety.startOf t 0x1C 0 s = some u ∧ Safety.allowed true false
      true t = true ∧ f.vf ≠ 0 ∧ f.vf ≤ 127 ∧ manages t.src f = true) ∧
    (∃ (t : Tag) (s : State) (u : State) (c : BitVec 4), Safety.startOf t 0x14 0 s = some u ∧ Safety.allowed true
      false true t = true ∧ u.nvm.sanitize = none ∧ (c = 1 ∨ c = 2) ∧ u.nvm.selfTest = none) ∧
    (∃ (s : State) (r : BitVec 4) (t : Tag) (c : BitVec 4), running s = true ∧ s.nvm.selfTest = some (t, c)) ∧
    (∃ (t : Tag) (s : State) (u : State) (k : W32) (n : Ns) (b : BitVec 4), Safety.startOf t 0x80 k s = some u ∧
      u.nvm.sanitize = none ∧ k ≠ 0xFFFFFFFF ∧ visibleNs u k.toNat = some n ∧ formatCheck u t.src k.toNat b.toNat 1
      n = none) ∧
    (∃ (s : State) (k : W32) (n : Ns) (t : Tag) (b : Nat), running s = true ∧ nsOf s k.toNat = some n ∧ n.job = some
      (.format t b 1) ∧ nsBusy s k.toNat = false) ∧
    (∃ (s : State) (k : W32) (n : Ns) (t : Tag) (b : Nat) (i : Nat), nsOf s k.toNat = some n ∧ n.job = some (.format
      t b 2) ∧ n.slot = some i ∧ entropyWaits s = true) ∧
    (∃ (t : Tag) (s : State) (u : State), Safety.startOf t 0x84 0 s = some u ∧ Safety.allowed true false true t =
      true ∧ u.nvm.sanitize = none ∧ (∀ x ∈ u.mqt.sess, x.imp = true) ∧ (∀ e ∈ u.tab.nss, e.2.job = none)) ∧
    (∃ (s : State) (z : Sanitize), running s = true ∧ s.nvm.sanitize = some z ∧ z.crypto = false) ∧
    (∃ (s : State) (z : Sanitize), running s = true ∧ s.nvm.sanitize = some z ∧ (z.crypto = false ∨ entropyWaits s =
      false)) ∧
    (∃ (s : State) (z : Sanitize) (i : Nat) (r : Bool), s.nvm.sanitize = some z ∧ z.crypto = true ∧ (∃ e ∈
      s.tab.nss, e.2.slot = some i) ∧ entropyWaits s = true) :=
  ⟨⟨ta, up, up, ⟨.p0, 2⟩, 4, rfl, by decide +kernel⟩,
   ⟨ta, up, up, ⟨.p0, 2⟩, 4, rfl, by decide +kernel⟩,
   ⟨ta, up, up, v1, rfl, by decide +kernel⟩,
   ⟨ta, up, up, v1, rfl, by decide +kernel⟩,
   ⟨ta, up, up, 1, rfl, by decide +kernel⟩,
   ⟨{ up with nvm.selfTest := some (ta, 1) }, 0, ta, 1, by decide +kernel⟩,
   ⟨ta, up, up, 1, ns1, 1, rfl, by decide +kernel⟩,
   ⟨{ up with tab.nss := [(1, { ns1 with job := some (.format ta 1 1) })], fns := [] }, 1,
     { ns1 with job := some (.format ta 1 1) }, ta, 1, by decide +kernel⟩,
   ⟨{ up with trust.rng := .stalled, tab.nss := [(1, { ns1 with slot := some 5, job := some (.format ta 1 2) })] },
     1, { ns1 with slot := some 5, job := some (.format ta 1 2) }, ta, 1, 5, by decide +kernel⟩,
   ⟨ta, up, up, rfl, by decide +kernel⟩,
   ⟨{ up with nvm.sanitize := some ⟨false, ta⟩ }, ⟨false, ta⟩, by decide +kernel⟩,
   ⟨{ up with nvm.sanitize := some ⟨false, ta⟩ }, ⟨false, ta⟩, by decide +kernel, by decide +kernel, Or.inl rfl⟩,
   ⟨{ up with nvm.sanitize := some ⟨true, ta⟩, trust.rng := .stalled, tab.nss := [(1, { ns1 with slot := some 5 })] },
     ⟨true, ta⟩, 5, true, by decide +kernel, by decide +kernel, ⟨(1, { ns1 with slot := some 5 }),
     by decide +kernel, rfl⟩, by decide +kernel⟩⟩

/-- States and operands that meet the hypotheses of each clause of `AdmittedWritesAreReadBack`. -/
theorem meets_AdmittedWritesAreReadBack :
    ∃ (t : Tag) (io : Io) (sgl : List SglDesc) (d : Bytes) (h : Bytes) (bad : List Nat) (s : State) (u : State) (n :
      Ns) (e : Inflight), Safety.ioReady t 0x01 io.nsid true s u n e ∧ xferCheck n io sgl = none ∧ admitted u
      ((iusOf n io.slba.toNat (ioBlocks io)).map (iuKey io.nsid.toNat)) = true ∧ (∀ x ∈ iusOf n io.slba.toNat
      (ioBlocks io), ∀ w ∈ u.ftl.wt, w.key ≠ iuKey io.nsid.toNat x) :=
  ⟨ti, io0, [], [], [], [], up, up, ns1, ei, ⟨by decide, by decide, rfl, rfl, rfl, rfl, rfl⟩, by decide +kernel⟩

/-- States and operands that meet the hypotheses of each clause of `WritesCompleteOrWait`. -/
theorem meets_WritesCompleteOrWait :
    (∃ (t : Tag) (io : Io) (sgl : List SglDesc) (d : Bytes) (h : Bytes) (bad : List Nat) (s : State) (u : State) (n
      : Ns) (e : Inflight) (st : Status) (fua : Bool), Safety.ioReady t 0x01 io.nsid true s u n e ∧ xferCheck n io
      sgl = some st) ∧
    (∃ (t : Tag) (f : Func) (io : Io) (sgl : List SglDesc) (d : Bytes) (h : Bytes) (bad : List Nat) (s : State) (u :
      State) (n : Ns) (e : Inflight) (fua : Bool), t.src = .fn f ∧ Safety.ioReady t 0x01 io.nsid true s u n e ∧
      xferCheck n io sgl = none ∧ admitted u ((iusOf n io.slba.toNat (ioBlocks io)).map (iuKey io.nsid.toNat)) =
      false) ∧
    (∃ (t : Tag) (io : Io) (sgl : List SglDesc) (d : Bytes) (h : Bytes) (bad : List Nat) (s : State) (u : State) (n
      : Ns) (e : Inflight), Safety.ioReady t 0x01 io.nsid true s u n e ∧ xferCheck n io sgl = none ∧ admitted u
      ((iusOf n io.slba.toNat (ioBlocks io)).map (iuKey io.nsid.toNat)) = true) ∧
    (∃ (t : Tag) (s : State) (f : Func) (u : State) (k : W32), t.src = .fn f ∧ t.sqid ≠ 0 ∧ Safety.startOf t 0x00 k
      s = some u ∧ nsOf u k.toNat = none ∧ hasAhead u f t = false) ∧
    (∃ (t : Tag) (s : State) (f : Func) (u : State) (k : W32), t.src = .fn f ∧ t.sqid ≠ 0 ∧ Safety.startOf t 0x00 k
      s = some u ∧ nsOf u k.toNat = none ∧ hasAhead u f t = true) ∧
    (∃ (t : Tag) (s : State) (u : State) (k : W32) (n : Ns) (e : Inflight), Safety.ioReady t 0x00 k true s u n e ∧
      (∀ f, t.src = .fn f → hasAhead u f t = false)) :=
  ⟨⟨ti, ioFar, [], [], [], [], up, up, ns1, ei, .lbaOutOfRange, false, ⟨by decide, by decide, rfl, rfl, rfl, rfl,
     rfl⟩, by decide +kernel⟩,
   ⟨ti, f0, io0, [], [], [], [], { up with arm.eLimit := 0 }, { up with arm.eLimit := 0 }, ns1, ei, false,
     by decide +kernel, ⟨by decide, by decide, rfl, rfl, rfl, rfl, rfl⟩, by decide +kernel⟩,
   ⟨ti, io0, [], [], [], [], up, up, ns1, ei, ⟨by decide, by decide, rfl, rfl, rfl, rfl, rfl⟩, by decide +kernel⟩,
   ⟨ti, up, f0, up, 9, by decide +kernel, by decide +kernel, rfl, by decide +kernel⟩,
   ⟨ti, { up with fns := [(1, { fn0 with ctrl := { ctrl0 with inflight := [ea, { ei with cid := 8 }, ei] } })] },
     f0, { up with fns := [(1, { fn0 with ctrl := { ctrl0 with inflight := [ea, { ei with cid := 8 }, ei] } })] },
     9, by decide +kernel, by decide +kernel, rfl, by decide +kernel⟩,
   ⟨ti, up, up, 1, ns1, ei, ⟨by decide, by decide, rfl, rfl, rfl, rfl, rfl⟩, by intro f h; cases h; rfl⟩⟩

/-- States and operands that meet the hypotheses of each clause of `SpecialUnitsTakeEffectAtOnce`. -/
theorem meets_SpecialUnitsTakeEffectAtOnce :
    (∃ (t : Tag) (io : Io) (s : State) (u : State) (n : Ns) (e : Inflight), Safety.ioReady t 0x04 io.nsid true s u n
      e ∧ inRange n io.slba.toNat (ioBlocks io) = true) ∧
    (∃ (t : Tag) (io : Io) (s : State) (u : State) (n : Ns) (e : Inflight), Safety.ioReady t 0x08 io.nsid true s u n
      e ∧ inRange n io.slba.toNat (ioBlocks io) = true) ∧
    (∃ (t : Tag) (io : Io) (s : State) (u : State) (n : Ns) (e : Inflight), Safety.ioReady t 0x08 io.nsid true s u n
      e ∧ inRange n io.slba.toNat (ioBlocks io) = true) ∧
    (∃ (t : Tag) (k : W32) (s : State) (u : State) (n : Ns) (e : Inflight) (l : List DsmRange), Safety.ioReady t
      0x09 k true s u n e) ∧
    (∃ (t : Tag) (k : W32) (s : State) (u : State) (n : Ns) (e : Inflight) (r : DsmRange), Safety.ioReady t 0x09 k
      true s u n e ∧ inRange n r.slba.toNat r.len.toNat = true) ∧
    (∃ (t : Tag) (io : Io) (s : State) (u : State) (n : Ns) (e : Inflight), Safety.ioReady t 0x04 io.nsid true s u n
      e ∧ inRange n io.slba.toNat (ioBlocks io) = false) :=
  ⟨⟨ti, io0, up, up, ns1, ei, ⟨by decide, by decide, rfl, rfl, rfl, rfl, rfl⟩, by decide +kernel⟩,
   ⟨ti, io0, up, up, ns1, ei, ⟨by decide, by decide, rfl, rfl, rfl, rfl, rfl⟩, by decide +kernel⟩,
   ⟨ti, io0, up, up, ns1, ei, ⟨by decide, by decide, rfl, rfl, rfl, rfl, rfl⟩, by decide +kernel⟩,
   ⟨ti, 1, up, up, ns1, ei, [], ⟨by decide, by decide, rfl, rfl, rfl, rfl, rfl⟩⟩,
   ⟨ti, 1, up, up, ns1, ei, ⟨0, 1⟩, ⟨by decide, by decide, rfl, rfl, rfl, rfl, rfl⟩, by decide +kernel⟩,
   ⟨ti, ioFar, up, up, ns1, ei, ⟨by decide, by decide, rfl, rfl, rfl, rfl, rfl⟩, by decide +kernel⟩⟩

/-- States and operands that meet the hypotheses of each clause of `ReadsAnswerWithTheBlocks`. -/
theorem meets_ReadsAnswerWithTheBlocks :
    (∃ (t : Tag) (f : Func) (io : Io) (lim : Bool) (sgl : List SglDesc) (env : MediaEnv) (s : State) (u : State) (n
      : Ns) (e : Inflight), t.src = .fn f ∧ Safety.ioReady t 0x02 io.nsid false s u n e ∧ xferCheck n io sgl = none
      ∧ readWaits u io.nsid.toNat n io.slba.toNat (ioBlocks io) = false ∧ readStatus (readRange u env lim
      io.nsid.toNat n io.slba.toNat (ioBlocks io)) = none) ∧
    (∃ (t : Tag) (io : Io) (lim : Bool) (sgl : List SglDesc) (env : MediaEnv) (s : State) (u : State) (n : Ns) (e :
      Inflight) (st : Status), Safety.ioReady t 0x02 io.nsid false s u n e ∧ xferCheck n io sgl = none ∧ readWaits u
      io.nsid.toNat n io.slba.toNat (ioBlocks io) = false ∧ readStatus (readRange u env lim io.nsid.toNat n
      io.slba.toNat (ioBlocks io)) = some st) ∧
    (∃ (t : Tag) (f : Func) (io : Io) (d : Bytes) (env : MediaEnv) (s : State) (u : State) (n : Ns) (e : Inflight),
      t.src = .fn f ∧ Safety.ioReady t 0x05 io.nsid false s u n e ∧ xferCheck n io [] = none ∧ readWaits u
      io.nsid.toNat n io.slba.toNat (ioBlocks io) = false ∧ readStatus (readRange u env false io.nsid.toNat n
      io.slba.toNat (ioBlocks io)) = none) ∧
    (∃ (t : Tag) (io : Io) (env : MediaEnv) (s : State) (u : State) (n : Ns) (e : Inflight), Safety.ioReady t 0x0C
      io.nsid false s u n e ∧ inRange n io.slba.toNat (ioBlocks io) = true ∧ readWaits u io.nsid.toNat n
      io.slba.toNat (ioBlocks io) = false) ∧
    (∃ (t : Tag) (k : W32) (a : W64) (c : W16) (m : Bool) (b : Bool) (env : MediaEnv) (s : State) (u : State) (n :
      Ns) (e : Inflight), Safety.ioReady t 0x84 k false s u n e ∧ c ≠ 0 ∧ inMdts n c.toNat = true ∧ inRange n
      a.toNat c.toNat = true ∧ readWaits u k.toNat n a.toNat c.toNat = false ∧ firstLost (readRange u
      { env with answering := if b then env.answering else [] } false k.toNat n a.toNat c.toNat) = none) ∧
    (∃ (t : Tag) (k : W32) (a : W64) (c : W16) (b : Bool) (env : MediaEnv) (s : State) (u : State) (n : Ns) (e :
      Inflight) (i : Nat), Safety.ioReady t 0x84 k false s u n e ∧ c ≠ 0 ∧ inMdts n c.toNat = true ∧ inRange n
      a.toNat c.toNat = true ∧ readWaits u k.toNat n a.toNat c.toNat = false ∧ firstLost (readRange u
      { env with answering := if b then env.answering else [] } false k.toNat n a.toNat c.toNat) = some i) ∧
    (∃ (t : Tag) (io : Io) (lim : Bool) (sgl : List SglDesc) (env : MediaEnv) (s : State) (u : State) (n : Ns) (e :
      Inflight), Safety.ioReady t 0x02 io.nsid false s u n e ∧ xferCheck n io sgl = none ∧ readWaits u io.nsid.toNat
      n io.slba.toNat (ioBlocks io) = true) ∧
    (∃ (t : Tag) (io : Io) (d : Bytes) (env : MediaEnv) (s : State) (u : State) (n : Ns) (e : Inflight),
      Safety.ioReady t 0x05 io.nsid false s u n e ∧ xferCheck n io [] = none ∧ readWaits u io.nsid.toNat n
      io.slba.toNat (ioBlocks io) = true) ∧
    (∃ (t : Tag) (io : Io) (env : MediaEnv) (s : State) (u : State) (n : Ns) (e : Inflight), Safety.ioReady t 0x0C
      io.nsid false s u n e ∧ inRange n io.slba.toNat (ioBlocks io) = true ∧ readWaits u io.nsid.toNat n
      io.slba.toNat (ioBlocks io) = true) ∧
    (∃ (t : Tag) (k : W32) (a : W64) (c : W16) (m : Bool) (b : Bool) (env : MediaEnv) (s : State) (u : State) (n :
      Ns) (e : Inflight), Safety.ioReady t 0x84 k false s u n e ∧ c ≠ 0 ∧ inMdts n c.toNat = true ∧ inRange n
      a.toNat c.toNat = true ∧ readWaits u k.toNat n a.toNat c.toNat = true) :=
  ⟨⟨ti, f0, io0, false, [], env0, up, up, ns1, ei, by decide +kernel, ⟨by decide, by decide, rfl, rfl, rfl, rfl,
     rfl⟩, by decide +kernel⟩,
   ⟨ti, io0, false, [], env0, { up with hold.lostKeys := [iuKey 1 0] }, { up with hold.lostKeys := [iuKey 1 0] },
     ns1, ei, .digestMismatch, ⟨by decide, by decide, rfl, rfl, rfl, rfl, rfl⟩, by decide +kernel⟩,
   ⟨ti, f0, io0, [], env0, up, up, ns1, ei, by decide +kernel, ⟨by decide, by decide, rfl, rfl, rfl, rfl, rfl⟩,
     by decide +kernel⟩,
   ⟨ti, io0, env0, up, up, ns1, ei, ⟨by decide, by decide, rfl, rfl, rfl, rfl, rfl⟩, by decide +kernel⟩,
   ⟨ti, 1, 0, 1, false, false, env0, up, up, ns1, ei, ⟨by decide, by decide, rfl, rfl, rfl, rfl, rfl⟩,
     by decide +kernel⟩,
   ⟨ti, 1, 0, 1, false, env0, { up with hold.lostKeys := [iuKey 1 0] }, { up with hold.lostKeys := [iuKey 1 0] },
     ns1, ei, 0, ⟨by decide, by decide, rfl, rfl, rfl, rfl, rfl⟩, by decide +kernel⟩,
   ⟨ti, io0, false, [], env0,
     { up with ftl.resync := true, hold.sync.bands := [⟨0, 0, 1⟩], tab.bands := [(0, band0)], tab.map := [(iuKey 1 0, 0)] },
     { up with ftl.resync := true, hold.sync.bands := [⟨0, 0, 1⟩], tab.bands := [(0, band0)], tab.map := [(iuKey 1 0, 0)] },
     ns1, ei, ⟨by decide, by decide, rfl, rfl, rfl, rfl, rfl⟩, by decide +kernel⟩,
   ⟨ti, io0, [], env0,
     { up with ftl.resync := true, hold.sync.bands := [⟨0, 0, 1⟩], tab.bands := [(0, band0)], tab.map := [(iuKey 1 0, 0)] },
     { up with ftl.resync := true, hold.sync.bands := [⟨0, 0, 1⟩], tab.bands := [(0, band0)], tab.map := [(iuKey 1 0, 0)] },
     ns1, ei, ⟨by decide, by decide, rfl, rfl, rfl, rfl, rfl⟩, by decide +kernel⟩,
   ⟨ti, io0, env0,
     { up with ftl.resync := true, hold.sync.bands := [⟨0, 0, 1⟩], tab.bands := [(0, band0)], tab.map := [(iuKey 1 0, 0)] },
     { up with ftl.resync := true, hold.sync.bands := [⟨0, 0, 1⟩], tab.bands := [(0, band0)], tab.map := [(iuKey 1 0, 0)] },
     ns1, ei, ⟨by decide, by decide, rfl, rfl, rfl, rfl, rfl⟩, by decide +kernel⟩,
   ⟨ti, 1, 0, 1, false, false, env0,
     { up with ftl.resync := true, hold.sync.bands := [⟨0, 0, 1⟩], tab.bands := [(0, band0)], tab.map := [(iuKey 1 0, 0)] },
     { up with ftl.resync := true, hold.sync.bands := [⟨0, 0, 1⟩], tab.bands := [(0, band0)], tab.map := [(iuKey 1 0, 0)] },
     ns1, ei, ⟨by decide, by decide, rfl, rfl, rfl, rfl, rfl⟩, by decide +kernel⟩⟩

/-- States and operands that meet the hypotheses of each clause of `ReservationCommandsComplete`. -/
theorem meets_ReservationCommandsComplete :
    (∃ (t : Tag) (k : W32) (c : RsvRegister) (s : State) (u : State) (n : Ns) (e : Inflight), Safety.ioReady t 0x0D
      k false s u n e ∧ c.action = 0 ∧ rsvKey u n.rsv t.src = none) ∧
    (∃ (t : Tag) (k : W32) (c : RsvRegister) (s : State) (u : State) (n : Ns) (e : Inflight), Safety.ioReady t 0x0D
      k false s u n e ∧ c.action = 1 ∧ rsvKey u n.rsv t.src = none) ∧
    (∃ (t : Tag) (k : W32) (s : State) (u : State) (n : Ns) (e : Inflight), Safety.ioReady t 0x0E k false s u n e) ∧
    (∃ (t : Tag) (k : W32) (c : RsvAcquire) (s : State) (u : State) (n : Ns) (e : Inflight), Safety.ioReady t 0x11 k
      false s u n e ∧ c.ignoreKey = false ∧ 1 ≤ c.rtype.toNat ∧ c.rtype.toNat ≤ 6 ∧ c.action = 0 ∧ rsvKey u n.rsv
      t.src = some c.curKey ∧ n.rsv.holder = none) ∧
    (∃ (t : Tag) (k : W32) (c : RsvAcquire) (s : State) (u : State) (n : Ns) (e : Inflight), Safety.ioReady t 0x11 k
      false s u n e ∧ c.ignoreKey = false ∧ 1 ≤ c.rtype.toNat ∧ c.rtype.toNat ≤ 6 ∧ c.action.toNat ≤ 2 ∧ rsvKey u
      n.rsv t.src ≠ some c.curKey) ∧
    (∃ (t : Tag) (k : W32) (c : RsvRelease) (s : State) (u : State) (n : Ns) (e : Inflight), Safety.ioReady t 0x15 k
      false s u n e ∧ c.ignoreKey = false ∧ c.action = 0 ∧ rsvKey u n.rsv t.src = some c.curKey ∧ holds u n.rsv
      t.src = true ∧ c.rtype = n.rsv.rtype) :=
  ⟨⟨ti, 1, ⟨0, false, 0, 0, 7⟩, up, up, ns1, ei, ⟨by decide, by decide, rfl, rfl, rfl, rfl, rfl⟩, by decide +kernel⟩,
   ⟨ti, 1, ⟨1, false, 0, 0, 7⟩, up, up, ns1, ei, ⟨by decide, by decide, rfl, rfl, rfl, rfl, rfl⟩, by decide +kernel⟩,
   ⟨ti, 1, up, up, ns1, ei, ⟨by decide, by decide, rfl, rfl, rfl, rfl, rfl⟩⟩,
   ⟨ti, 1, ⟨0, false, 1, 7, 0⟩,
     { up with tab.nss := [(1, { ns1 with rsv := { Rsv.none with regs := [(.fn f0, 7)] } })] },
     { up with tab.nss := [(1, { ns1 with rsv := { Rsv.none with regs := [(.fn f0, 7)] } })] },
     { ns1 with rsv := { Rsv.none with regs := [(.fn f0, 7)] } }, ei, ⟨by decide, by decide, rfl, rfl, rfl, rfl,
     rfl⟩, by decide +kernel⟩,
   ⟨ti, 1, ⟨0, false, 1, 8, 0⟩,
     { up with tab.nss := [(1, { ns1 with rsv := { Rsv.none with regs := [(.fn f0, 7)] } })] },
     { up with tab.nss := [(1, { ns1 with rsv := { Rsv.none with regs := [(.fn f0, 7)] } })] },
     { ns1 with rsv := { Rsv.none with regs := [(.fn f0, 7)] } }, ei, ⟨by decide, by decide, rfl, rfl, rfl, rfl,
     rfl⟩, by decide +kernel⟩,
   ⟨ti, 1, ⟨0, false, 1, 7⟩,
     { up with tab.nss := [(1, { ns1 with rsv := { Rsv.none with rtype := 1, holder := some (.fn f0), regs := [(.fn f0, 7)] } })] },
     { up with tab.nss := [(1, { ns1 with rsv := { Rsv.none with rtype := 1, holder := some (.fn f0), regs := [(.fn f0, 7)] } })] },
     { ns1 with rsv := { Rsv.none with rtype := 1, holder := some (.fn f0), regs := [(.fn f0, 7)] } }, ei, ⟨by
     decide, by decide, rfl, rfl, rfl, rfl, rfl⟩, by decide +kernel⟩⟩

/-- States and operands that meet the hypotheses of each clause of `ChannelsTrainAndRetrain`. -/
theorem meets_ChannelsTrainAndRetrain :
    (∃ (s : State) (c : Nat) (l : List DieProbe) (ok : List (List Eye)) (n : Nat) (w : State) (u : State) (m : Nat)
      (k : Nat), powered s = true ∧ s.boot.phase ≠ .optionFault ∧ ((chanOf s c).state = .unpopulated ∨ (chanOf s
      c).state = .training) ∧ w = (allProbes l).foldl (fun s p => identifyDie c p s) s ∧ u = setChan c
      { chanOf w c with accepted := ((allProbes l).filter fun p => p.answers && decide (probeReason p = 0)).map (·.die), tried := true }
      w ∧ (chanOf u c).accepted ≠ [] ∧ trainModes (modesPass ok) n (topMode u c) = (some m, k)) ∧
    (∃ (s : State) (c : Nat) (ok : List (List Eye)) (n : Nat), powered s = true ∧ s.boot.phase ≠ .optionFault ∧
      (chanOf s c).state = .unpopulated) ∧
    (∃ (s : State) (c : Nat) (l : List DieProbe) (ok : List (List Eye)) (n : Nat), s.boot.phase = .optionFault) ∧
    (∃ (s : State) (c : Nat) (l : List DieProbe) (ok : List (List Eye)) (n : Nat) (m : Nat) (k : Nat), powered s =
      true ∧ s.boot.phase ≠ .optionFault ∧ (chanOf s c).state = .retraining ∧ trainModes (modesPass ok) n (chanOf s
      c).trainTop = (some m, k)) ∧
    (∃ (s : State) (c : Nat), powered s = true ∧ (chanOf s c).state = .online) ∧
    (∃ (s : State) (c : Nat) (n : Nat) (k : Nat), powered s = true ∧ (chanOf s c).state = .online) ∧
    (∃ (s : State) (c : Nat) (v : W32), running s = true) ∧
    (∃ (s : State) (c : Nat) (ok : List (List Eye)) (us : W16) (m : Nat) (k : Nat), powered s = true ∧ (chanOf s
      c).pending = true ∧ (chanOf s c).state = .online ∧ noReads s c = true ∧ trainModes (modesPass ok) (if
      (modesPass ok).getD 1 false then 0 else 3) (topMode s c) = (some m, k)) ∧
    (∃ (s : State) (c : Nat) (us : W16), powered s = true ∧ (chanOf s c).pending = true ∧ (chanOf s c).state =
      .online ∧ anyRebuilding s = false) ∧
    (∃ (s : State) (c : Nat) (us : W16), anyRebuilding s = true) ∧
    (∃ (s : State) (c : Nat) (ok : List (List Eye)) (us : W16) (m : Nat) (k : Nat), powered s = true ∧ (chanOf s
      c).state = .online ∧ trainModes (modesPass ok) (if (modesPass ok).getD 1 false then 0 else 3) (topMode s c) =
      (some m, k)) ∧
    (∃ (s : State) (c : Nat) (ok : List (List Eye)) (us : W16) (k : Nat), powered s = true ∧ (chanOf s c).state =
      .online ∧ trainModes (modesPass ok) (if (modesPass ok).getD 1 false then 0 else 3) (topMode s c) = (none, k)) :=
  ⟨⟨up, 0, [probe0], List.replicate 8 [⟨350, 60⟩], 0, (allProbes [probe0]).foldl (fun s p => identifyDie 0 p s) up,
     setChan 0
     { chanOf ((allProbes [probe0]).foldl (fun s p => identifyDie 0 p s) up) 0 with accepted := ((allProbes [probe0]).filter fun p => p.answers && decide (probeReason p = 0)).map (·.die), tried := true }
     ((allProbes [probe0]).foldl (fun s p => identifyDie 0 p s) up), 3, 0, by decide +kernel, by decide +kernel,
     by decide +kernel, rfl, rfl, by decide +kernel⟩,
   ⟨up, 0, List.replicate 8 [⟨350, 60⟩], 0, by decide +kernel⟩,
   ⟨{ up with boot.phase := .optionFault }, 0, [], List.replicate 8 [⟨350, 60⟩], 0, by decide +kernel⟩,
   ⟨{ up with flash.chans := [(0, { Chan.reset with state := .retraining, trainTop := 3, accepted := [0] })], tab.dies := [(0, dtab0)] },
     0, [], List.replicate 8 [⟨350, 60⟩], 0, 3, 0, by decide +kernel⟩,
   ⟨{ up with flash.chans := [(0, { Chan.reset with state := .online, accepted := [0] })], tab.dies := [(0, dtab0)] },
     0, by decide +kernel⟩,
   ⟨{ up with flash.chans := [(0, { Chan.reset with state := .online, accepted := [0] })], tab.dies := [(0, dtab0)] },
     0, 0, 0, by decide +kernel⟩,
   ⟨up, 0, 0, by decide +kernel⟩,
   ⟨{ up with flash.chans := [(0, { Chan.reset with state := .online, accepted := [0], pending := true })], tab.dies := [(0, dtab0)] },
     0, List.replicate 8 [⟨350, 60⟩], 0, 3, 0, by decide +kernel⟩,
   ⟨{ up with flash.chans := [(0, { Chan.reset with state := .online, accepted := [0], pending := true })], tab.dies := [(0, dtab0)] },
     0, 0, by decide +kernel⟩,
   ⟨{ up with tab.groups := [(0, { Grp.reset with state := .rebuilding })] }, 0, 0, by decide +kernel⟩,
   ⟨{ up with flash.chans := [(0, { Chan.reset with state := .online, accepted := [0] })], tab.dies := [(0, dtab0)] },
     0, List.replicate 8 [⟨350, 60⟩], 0, 3, 0, by decide +kernel⟩,
   ⟨{ up with flash.chans := [(0, { Chan.reset with state := .online, accepted := [0] })], tab.dies := [(0, dtab0)] },
     0, [], 0, 5, by decide +kernel⟩⟩

/-- States and operands that meet the hypotheses of each clause of `DieOperationsComplete`. -/
theorem meets_DieOperationsComplete :
    (∃ (s : State) (d : Nat) (o : DieOp), powered s = true ∧ issueOp s d = some o) ∧
    (∃ (s : State) (d : Nat) (o : DieOp), issueOp s d = some o) ∧
    (∃ (s : State) (d : Nat), (dieOf s d).state = .failed) ∧
    (∃ (s : State) (d : Nat) (r : RunOp) (x : DieResult), powered s = true ∧ (dieOf s d).run = some r) ∧
    (∃ (s : State) (d : Nat) (r : RunOp) (p : Nat) (b : Nat), powered s = true ∧ (dieOf s d).run = some r ∧ isRead
      r.op.cls = false ∧ (p, b) ∉ (dieTab s d).grown ∧ (dieTab s d).grown.length < 1024) ∧
    (∃ (s : State) (d : Nat) (r : RunOp), powered s = true ∧ (dieOf s d).run = some r ∧ isRead r.op.cls = false ∧
      (dieOf s d).susp = none ∧ r.suspends < 12 ∧ (dieOf s d).queue.any (fun o => isRead o.cls) = true) ∧
    (∃ (s : State) (d : Nat) (r : RunOp) (b : Bool), (dieOf s d).run = some r ∧ 12 ≤ r.suspends) ∧
    (∃ (s : State) (d : Nat) (r : RunOp) (b : Bool), powered s = true ∧ (dieOf s d).susp = some r ∧ (dieOf s d).run
      = none ∧ (b = true ∨ 8 ≤ r.served ∨ (dieOf s d).queue.any (fun o => isRead o.cls) = false)) ∧
    (∃ (s : State) (d : Nat) (r : RunOp), powered s = true ∧ (dieOf s d).run = some r ∧ (dieOf s d).state = .online) ∧
    (∃ (s : State) (d : Nat), powered s = true ∧ (dieOf s d).state = .suspect) ∧
    (∃ (s : State) (d : Nat), powered s = true ∧ (dieOf s d).state = .suspect) :=
  ⟨⟨die0 { Die.reset with queue := [rd0] }, 0, rd0, by decide +kernel⟩,
   ⟨die0 { Die.reset with queue := [rd0] }, 0, rd0, by decide +kernel⟩,
   ⟨{ up with flash.dies := [(0, { Die.reset with state := .failed })] }, 0, by decide +kernel⟩,
   ⟨die0 { Die.reset with run := some run0 }, 0, run0, .passed, by decide +kernel⟩,
   ⟨die0 { Die.reset with run := some run0 }, 0, run0, 0, 3, by decide +kernel⟩,
   ⟨die0 { Die.reset with run := some run0, queue := [rd0] }, 0, run0, by decide +kernel⟩,
   ⟨die0 { Die.reset with run := some { run0 with suspends := 12 } }, 0, { run0 with suspends := 12 }, false,
     by decide +kernel⟩,
   ⟨die0 { Die.reset with susp := some run0 }, 0, run0, true, by decide +kernel⟩,
   ⟨die0 { Die.reset with run := some run0 }, 0, run0, by decide +kernel⟩,
   ⟨{ up with flash.dies := [(0, { Die.reset with state := .suspect })] }, 0, by decide +kernel⟩,
   ⟨{ up with flash.dies := [(0, { Die.reset with state := .suspect })] }, 0, by decide +kernel⟩⟩

/-- States and operands that meet the hypotheses of each clause of `RowsMoveUnitsToMedia`. -/
theorem meets_RowsMoveUnitsToMedia :
    (∃ (s : State) (g : Nat) (l : List Nat) (u : State) (rest : List (Nat × IuVer)) (items : List (Nat × IuVer)),
      running s = true ∧ (grpOf s g).state ≠ .unused ∧ slcOpen s g = true ∧ items = l.eraseDups.filterMap (fun k =>
      (packable s k).map fun v => (k, v)) ∧ items ≠ [] ∧ packRow g 0 none .other items s = some (u, rest)) ∧
    (∃ (s : State) (g : Nat) (l : List Nat), running s = true ∧ slcOpen s g = false ∧ g ∈ s.ftl.nativeStop) ∧
    (∃ (s : State) (g : Nat) (b : Nat) (r : Nat) (q : Row) (x : Band) (k : Nat) (e : BitVec 40) (v : IuVer), running
      s = true ∧ rowAt s (bandKey g b) r = some q ∧ bandOf s (bandKey g b) = some x ∧ q.src = none ∧ q.items = [(k,
      e, v)] ∧ seqOf s k < v.seq) ∧
    (∃ (s : State) (g : Nat) (b : Nat) (r : Nat) (q : Row) (x : Band) (k : Nat) (e : BitVec 40) (v : IuVer), running
      s = true ∧ rowAt s (bandKey g b) r = some q ∧ bandOf s (bandKey g b) = some x ∧ q.src = none ∧ q.items = [(k,
      e, v)] ∧ v.seq ≤ seqOf s k) ∧
    (∃ (s : State) (g : Nat) (b : Nat) (r : Nat) (d : Nat) (q : Row) (x : Band), powered s = true ∧ rowAt s (bandKey
      g b) r = some q ∧ bandOf s (bandKey g b) = some x ∧ dieChan d ∈ x.chans ∧ dieGroup d = g) ∧
    (∃ (s : State) (k : Nat) (env : MediaEnv) (l : Line), running s = true ∧ lineOf s k = some l ∧ l.state =
      .merging) ∧
    (∃ (s : State) (n : Ns) (k : Nat) (v : IuVer) (j : Nat), nsOf s (iuNs k) = some n ∧ metaBytes n.lbaf ≠ 0 ∧
      iuShadow k = false ∧ seqOf s k < v.seq ∧ j < n.perIu) :=
  ⟨⟨grp0, 0, [iuKey 1 0], ((packRow 0 0 none .other [(iuKey 1 0, ⟨1, []⟩)] grp0).getD (up, [])).1, ((packRow 0 0
     none .other [(iuKey 1 0, ⟨1, []⟩)] grp0).getD (up, [])).2, [(iuKey 1 0, ⟨1, []⟩)], by decide +kernel⟩,
   ⟨{ grp0 with tab.bands := [], tab.dies := (List.range 24).map (fun c => (16 * c, dtab0)), ftl.nativeStop := [0] },
     0, [iuKey 1 0], by decide +kernel⟩,
   ⟨{ grp0 with ftl.rows := [row0] }, 0, 0, 0, row0, band0, iuKey 1 0, 0, ⟨1, []⟩, by decide +kernel⟩,
   ⟨{ grp0 with tab.seqs := [(iuKey 1 0, 5)], ftl.rows := [row0] }, 0, 0, 0, row0, band0, iuKey 1 0, 0, ⟨1, []⟩,
     by decide +kernel⟩,
   ⟨{ grp0 with ftl.rows := [row0] }, 0, 0, 0, 0, row0, band0, by decide +kernel⟩,
   ⟨{ grp0 with ftl.cache := [(iuKey 1 0, ⟨.merging, ⟨1, []⟩⟩)] }, iuKey 1 0, env0, ⟨.merging, ⟨1, []⟩⟩,
     by decide +kernel⟩,
   ⟨{ up with tab.nss := [(1, { ns1 with lbaf := 2 })] }, { ns1 with lbaf := 2 }, iuKey 1 0, ⟨5, []⟩, 0,
     by decide +kernel⟩⟩

/-- States and operands that meet the hypotheses of each clause of `MaintenanceKeepsItsThresholds`. -/
theorem meets_MaintenanceKeepsItsThresholds :
    (∃ (s : State) (g : Nat), maintains s = true ∧ g ∉ s.ftl.nativeStop ∧ foldRuns s g = true) ∧
    (∃ (s : State) (g : Nat), maintains s = true ∧ g ∉ s.ftl.nativeStop ∧ foldRuns s g = false) ∧
    (∃ (s : State) (g : Nat), maintains s = true ∧ g ∉ s.ftl.nativeStop ∧ s.ftl.foldLo < slcOccupancy s) ∧
    (∃ (s : State) (g : Nat), slcOccupancy s ≤ s.ftl.foldLo) ∧
    (∃ (s : State) (g : Nat) (b : Nat) (x : Band), maintains s = true ∧ freeBands s g < 8 ∧ gcVictim s g = some (b,
      x)) ∧
    (∃ (s : State) (g : Nat), 8 ≤ freeBands s g) ∧
    (∃ (s : State) (d : Nat) (n : Nat) (b : Nat), maintains s = true ∧ moveRuns s (dieGroup d) = false ∧
      s.ftl.spread < spreadOf (dieTab s d) ∧ leastBy (fun e : Nat × Nat => e.1) (validBlocks s d) = some (n, b) ∧
      refreshKey d b ∉ s.ftl.refresh ∧ bandBusy s b = false) ∧
    (∃ (s : State) (d : Nat), spreadOf (dieTab s d) ≤ s.ftl.spread) ∧
    (∃ (s : State) (d : Nat) (b : Nat) (c : Nat) (l : Nat) (x : Band), maintains s = true ∧ bandOf s (bandKey
      (dieGroup d) b) = some x ∧ x.closed = true ∧ dieChan d ∈ x.chans ∧ readReports l c = true ∧ refreshKey d
      (bandKey (dieGroup d) b) ∉ s.ftl.refresh ∧ s.ftl.refresh.length < 4096) ∧
    (∃ (s : State) (d : Nat) (b : Nat) (c : Nat) (l : Nat), readReports l c = false) ∧
    (∃ (s : State) (env : MediaEnv), maintains s = true) ∧
    (∃ (s : State) (env : MediaEnv), s.tab.offline = true) :=
  ⟨⟨{ grp0 with ftl.foldHi := 0 }, 0, by decide +kernel⟩,
   ⟨up, 0, by decide +kernel⟩,
   ⟨{ grp0 with ftl.foldLo := 0 }, 0, by decide +kernel⟩,
   ⟨up, 0, by decide +kernel⟩,
   ⟨{ grp0 with tab.bands := [(0, bandC)], tab.dies := (List.range 24).map fun c => (16 * c, { dtab0 with blocks := 8 }) },
     0, 0, bandC, by decide +kernel⟩,
   ⟨{ up with tab.dies := (List.range 24).map fun c => (16 * c, dtab0) }, 0, by decide +kernel⟩,
   ⟨{ grp0 with ftl.spread := 3, tab.bands := [(0, bandC)], tab.map := [(iuKey 1 0, 0)], tab.dies := [(0, { dtab0 with erases := [(1, 9)] })] },
     0, 0, 0, by decide +kernel⟩,
   ⟨up, 0, by decide +kernel⟩,
   ⟨{ grp0 with tab.bands := [(0, bandC)], tab.dies := (List.range 24).map fun c => (16 * c, { dtab0 with blocks := 8 }) },
     0, 0, 0, 5, bandC, by decide +kernel⟩,
   ⟨up, 0, 0, 0, 0, by decide +kernel⟩,
   ⟨up, env0, by decide +kernel⟩,
   ⟨{ up with tab.offline := true }, env0, by decide +kernel⟩⟩

/-- States and operands that meet the hypotheses of each clause of `RebuildAndResyncComplete`. -/
theorem meets_RebuildAndResyncComplete :
    (∃ (s : State) (env : MediaEnv) (g : Nat) (b : Nat) (l : List Nat), running s = true ∧ s.tab.offline = false ∧
      s.ftl.resync = false ∧ (List.range 16).find? (fun g => decide ((grpOf s g).state = .rebuilding)) = some g ∧
      (grpOf s g).queue = b :: l ∧ bandBusy s b = false ∧ movesLeft (relocate b
      (match bandOf s b with | some x => if x.gen = 0 then 1 else x.gen | none => 1) .rebuild env s) b = []) ∧
    (∃ (s : State) (env : MediaEnv), (s.tab.offline = true ∨ s.ftl.resync = true)) ∧
    (∃ (s : State) (q : List ResyncRow), running s = true ∧ s.ftl.resync = true) ∧
    (∃ (s : State) (q : List ResyncRow), running s = true ∧ s.ftl.resync = true ∧ (∀ x ∈ q, rowBroken s x = false)) ∧
    (∃ (s : State) (r : ResyncRow), running s = true ∧ s.ftl.resync = true ∧ rowBroken s r = true ∧ rowMends s r =
      false ∧ Sparse.rising s.tab.bands = true) ∧
    (∃ (s : State) (r : ResyncRow), running s = true ∧ s.ftl.resync = true ∧ rowBroken s r = true ∧ rowMends s r =
      true) ∧
    (∃ (s : State) (q : List ResyncRow), s.ftl.resync = false) :=
  ⟨⟨{ grp0 with tab.bands := [(0, bandC)], tab.groups := [(0, { Grp.reset with state := .rebuilding, n := 12, queue := [0] })] },
     env0, 0, 0, [], by decide +kernel⟩,
   ⟨{ up with tab.offline := true }, env0, by decide +kernel⟩,
   ⟨{ up with ftl.resync := true }, [], by decide +kernel⟩,
   ⟨{ up with ftl.resync := true }, [], by decide +kernel⟩,
   ⟨{ up with ftl.resync := true, hold.sync.bands := [⟨0, 0, 1⟩], tab.bands := [(0, band0)], tab.map := [(iuKey 1 0, 0)] },
     ⟨0, 0, 0, [0], true⟩, by decide +kernel⟩,
   ⟨{ up with ftl.resync := true, hold.sync.bands := [⟨0, 0, 1⟩], tab.bands := [(0, band0)], tab.map := [(iuKey 1 0, 0)], media.stripes := [(0, [(0, [])])] },
     ⟨0, 0, 0, [0], false⟩, by decide +kernel⟩,
   ⟨up, [], by decide +kernel⟩⟩

/-- States and operands that meet the hypotheses of each clause of `SlotFramesFollowTheLaw`. -/
theorem meets_SlotFramesFollowTheLaw :
    (∃ (s : State) (i : Nat) (m : Meas) (x : ArmSlot) (u : State) (c : ArmCfg), x = slotOf s i ∧ u =
      { s with arm := { s.arm with meas := m } } ∧ c = effCfg u i x.cfg ∧ armRuns s i = true ∧ x.mode = .normal ∧
      (x.cfg.role = 0 ∨ x.cfg.role = 1) ∧ outerOf u i = none ∧ x.next = none ∧ x.cfg.measSrc ∉ m.faulted) ∧
    (∃ (s : State) (i : Nat) (m : Meas) (x : ArmSlot) (u : State), x = slotOf s i ∧ u =
      { s with arm := { s.arm with meas := m } } ∧ armRuns s i = true ∧ x.mode = .normal ∧ x.cfg.role ≠ 2 ∧ outerOf
      u i = none ∧ x.next = none ∧ x.cfg.measSrc ∈ m.faulted ∧ i < 8) ∧
    (∃ (c : ArmCfg) (integ : ℤ) (meas : ℤ) (sp : ℤ) (inj : ℤ) (p : Bool), c.umin ≤ c.umax ∧ c.imin ≤ c.imax) ∧
    (∃ (s : State) (i : Nat) (m : Meas), (slotOf s i).mode = .disabled) ∧
    (∃ (s : State) (i : Nat) (m : Meas), armRuns s i = false) :=
  ⟨⟨armUp, 5, meas0, slotOf armUp 5, { armUp with arm := { armUp.arm with meas := meas0 } }, effCfg
     { armUp with arm := { armUp.arm with meas := meas0 } } 5 (slotOf armUp 5).cfg, by decide +kernel⟩,
   ⟨armUp, 5, { meas0 with faulted := [0] }, slotOf armUp 5,
     { armUp with arm := { armUp.arm with meas := { meas0 with faulted := [0] } } }, by decide +kernel⟩,
   ⟨ArmCfg.disabled, 0, 0, 0, 0, 0, by decide +kernel⟩,
   ⟨up, 7, meas0, by decide +kernel⟩,
   ⟨rel, 5, meas0, by decide +kernel⟩⟩

/-- States and operands that meet the hypotheses of each clause of `ArmatureEventsComplete`. -/
theorem meets_ArmatureEventsComplete :
    (∃ (s : State) (m : Meas), armRuns s 0 = true) ∧
    (∃ (s : State) (m : Meas), armRuns s 0 = true ∧ (∀ o, o < 8 → (slotOf s o).cfg.role ≠ 2)) ∧
    (∃ (s : State) (i : Nat) (m : Meas), armRuns s i = true ∧ (slotOf s i).mode ≠ .disabled ∧ (slotOf s i).cfg.role
      = 2 ∧ (slotOf s i).cfg.indexSrc = 1 ∧ 2 * (slotOf s i).cfg.div ≤ (slotOf s i).counter) ∧
    (∃ (s : State) (i : Nat) (m : Meas), (slotOf s i).counter < 2 * (slotOf s i).cfg.div) ∧
    (∃ (s : State), powered s = true) ∧
    (∃ (s : State) (i : Nat), powered s = true ∧ i < 8 ∧ (slotOf s i).mode = .inject ∧ (slotOf s i).cap.samples ≤
      (slotOf s i).cap.frame) ∧
    (∃ (s : State) (i : Nat), (slotOf s i).mode ≠ .inject) ∧
    (∃ (s : State), powered s = false) ∧
    (∃ (s : State), powered s = true) :=
  ⟨⟨up, meas0, by decide +kernel⟩,
   ⟨{ up with arm.slots := [] }, meas0, by decide +kernel⟩,
   ⟨{ up with arm.slots := [(5, { slot0 5 with cfg := { ArmCfg.disabled with role := 2, indexSrc := 1 } })] }, 5,
     meas0, by decide +kernel⟩,
   ⟨{ up with arm.slots := [(5, { slot0 5 with cfg := { ArmCfg.disabled with div := 1 } })] }, 5, meas0,
     by decide +kernel⟩,
   ⟨up, by decide +kernel⟩,
   ⟨{ up with arm.slots := [(5, { slot0 5 with mode := .inject })] }, 5, by decide +kernel⟩,
   ⟨armUp, 5, by decide +kernel⟩,
   ⟨State.reset, by decide +kernel⟩,
   ⟨up, by decide +kernel⟩⟩

set_option maxRecDepth 20000 in
/-- States and operands that meet the hypotheses of each clause of `ArmatureAccessCompletes`. -/
theorem meets_ArmatureAccessCompletes :
    (∃ (t : Tag) (s : State) (u : State) (i : BitVec 3), Safety.startOf t 0xCA 0 s = some u ∧ Safety.allowed true
      false true t = true) ∧
    (∃ (t : Tag) (s : State) (u : State) (i : BitVec 3) (b : Bytes), Safety.startOf t 0xCA 0 s = some u ∧
      Safety.allowed true false true t = true ∧ crc32c ((padTo 256 b).take 252) = BitVec.ofNat 32 (leVal (slice
      (padTo 256 b) 252 4)) ∧ (parseCfg (padTo 256 b)).points ≠ 0 ∧ cfgOk u i.toNat (parseCfg (padTo 256 b)) = true
      ∧ windowOk u i.toNat = true) ∧
    (∃ (t : Tag) (s : State) (u : State) (i : BitVec 3) (b : Bytes), Safety.startOf t 0xCA 0 s = some u ∧
      Safety.allowed true false true t = true ∧ crc32c ((padTo 256 b).take 252) = BitVec.ofNat 32 (leVal (slice
      (padTo 256 b) 252 4)) ∧ (parseCfg (padTo 256 b)).points = 0 ∧ windowOk u i.toNat = true) ∧
    (∃ (t : Tag) (s : State) (u : State) (i : BitVec 3) (b : Bytes), Safety.startOf t 0xCA 0 s = some u ∧
      Safety.allowed true false true t = true ∧ crc32c ((padTo 256 b).take 252) ≠ BitVec.ofNat 32 (leVal (slice
      (padTo 256 b) 252 4))) ∧
    (∃ (t : Tag) (s : State) (u : State) (i : BitVec 3) (d : BitVec 9), Safety.startOf t 0xCA 0 s = some u ∧
      Safety.allowed true false true t = true ∧ 1 ≤ d.toNat ∧ d.toNat ≤ 256 ∧ (slotOf u i.toNat).mode ≠ .disabled) ∧
    (∃ (t : Tag) (s : State) (u : State) (i : BitVec 3) (b : Bool) (d : BitVec 9), Safety.startOf t 0xCA 0 s = some
      u ∧ Safety.allowed true false true t = true ∧ 1 ≤ d.toNat ∧ d.toNat ≤ 256 ∧ ((slotOf u i.toNat).mode = .normal
      ∨ (slotOf u i.toNat).mode = .trace)) ∧
    (∃ (t : Tag) (s : State) (u : State) (i : BitVec 3) (d : BitVec 9) (a : W32) (b : W32) (c : W32), Safety.startOf
      t 0xCA 0 s = some u ∧ Safety.allowed true false true t = true ∧ injectOk d a c = true ∧ (slotOf u
      i.toNat).mode ≠ .disabled ∧ anyInject u = false ∧ windowOk u i.toNat = true) ∧
    (∃ (t : Tag) (s : State) (u : State) (m : W8) (n : W16), Safety.startOf t 0xCA 0 s = some u ∧ Safety.allowed
      true false true t = true ∧ m ≠ 0 ∧ 1 ≤ n.toNat ∧ n.toNat ≤ 3600) ∧
    (∃ (t : Tag) (s : State) (u : State) (n : W16), Safety.startOf t 0xCA 0 s = some u ∧ Safety.allowed true false
      true t = true ∧ 1 ≤ n.toNat ∧ n.toNat ≤ 3600) ∧
    (∃ (t : Tag) (s : State) (u : State) (k : BitVec 11), Safety.startOf t 0xCA 0 s = some u ∧ Safety.allowed true
      false true t = true ∧ 850 ≤ k.toNat ∧ k.toNat ≤ 1200) :=
  ⟨⟨ta, armUp, armUp, 5, rfl, by decide +kernel⟩,
   ⟨ta, armUp, armUp, 5, armGood, rfl, by decide +kernel, crc_word armBody rfl, by decide +kernel⟩,
   ⟨ta, armUp, armUp, 5, armBytes, rfl, by decide +kernel, crc_word (List.replicate 252 0) rfl, by decide +kernel⟩,
   ⟨ta, armUp, armUp, 5, armBad, rfl, by decide +kernel, crc_other (List.replicate 252 0) rfl⟩,
   ⟨ta, armUp, armUp, 5, 1, rfl, by decide +kernel⟩,
   ⟨ta, armUp, armUp, 5, true, 1, rfl, by decide +kernel⟩,
   ⟨ta, armUp, armUp, 5, 1, 0x00010000, 0, 0x00010001, rfl, by decide +kernel⟩,
   ⟨ta, armUp, armUp, 1, 60, rfl, by decide +kernel⟩,
   ⟨ta, armUp, armUp, 60, rfl, by decide +kernel⟩,
   ⟨ta, armUp, armUp, 1000, rfl, by decide +kernel⟩⟩

/-- States and operands that meet the hypotheses of each clause of `ConfigurationRecordCompletes`. -/
theorem meets_ConfigurationRecordCompletes :
    (∃ (s : State), running s = true ∧ s.hold.cfgBusy = false ∧ ownerLocked s = false ∧ confOk (parseConf
      s.hold.stage) = true ∧ canStore .conf s = true) ∧
    (∃ (s : State) (b : Bool), running s = true ∧ s.hold.cfgBusy = false ∧ ownerLocked s = true) ∧
    (∃ (s : State) (b : Bool), running s = true ∧ s.hold.cfgBusy = false ∧ ownerLocked s = false ∧ confOk (parseConf
      s.hold.stage) = false) ∧
    (∃ (s : State), running s = true ∧ s.hold.cfgBusy = false ∧ ownerLocked s = false ∧ confOk (parseConf
      s.hold.stage) = true) ∧
    (∃ (s : State) (v : W32), running s = true ∧ slcOk (fieldOf 0 4 v).toNat (fieldOf 4 7 v).toNat (fieldOf 11 7
      v).toNat = true) ∧
    (∃ (s : State) (v : W32), running s = true ∧ slcOk (fieldOf 0 4 v).toNat (fieldOf 4 7 v).toNat (fieldOf 11 7
      v).toNat = false) ∧
    (∃ (s : State) (v : W32), running s = true ∧ spreadOk (fieldOf 0 11 v).toNat = true) ∧
    (∃ (s : State) (v : W32), running s = true ∧ ckptPolicyOk (fieldOf 0 12 v).toNat (fieldOf 12 8 v).toNat = true) ∧
    (∃ (s : State) (r : ConfRec), running s = true ∧ s.hold.policyDue = true ∧ confRec? s = some r ∧ canStore .conf
      s = true) ∧
    (∃ (s : State) (r : ConfRec), running s = true ∧ s.hold.policyDue = true ∧ confRec? s = some r) :=
  ⟨⟨{ up with hold.stage := padTo 128 conf0Bytes }, by decide +kernel⟩,
   ⟨owned 2 up, true, by decide +kernel⟩,
   ⟨up, true, by decide +kernel⟩,
   ⟨{ up with hold.stage := padTo 128 conf0Bytes }, by decide +kernel⟩,
   ⟨up, 6 ||| (70 <<< 4) ||| (40 <<< 11), by decide +kernel⟩,
   ⟨up, 0, by decide +kernel⟩,
   ⟨up, 250, by decide +kernel⟩,
   ⟨up, 300 ||| (8 <<< 12), by decide +kernel⟩,
   ⟨storeRecord (.conf conf0) true { up with hold.policyDue := true }, conf0, by decide +kernel⟩,
   ⟨storeRecord (.conf conf0) true { up with hold.policyDue := true }, conf0, by decide +kernel⟩⟩

/-- States and operands that meet the hypotheses of each clause of `ChargerCommandsComplete`. -/
theorem meets_ChargerCommandsComplete :
    (∃ (s : State) (v : Nat), powered s = true ∧ s.hold.chg = .charging ∧ v < 1000) ∧
    (∃ (s : State) (v : Nat), powered s = true ∧ s.hold.chg = .charging ∧ 1000 ≤ v) ∧
    (∃ (s : State) (v : Nat), powered s = true ∧ s.hold.chg = .charging ∧ vChg s ≤ v + 250) ∧
    (∃ (s : State) (v : Nat), powered s = true ∧ s.hold.chg = .charging ∧ v < 500 ∧ chargerFull s = true) ∧
    (∃ (s : State), powered s = true ∧ s.hold.chg = .holding) ∧
    (∃ (s : State) (v : Nat) (r : Nat) (c : Nat), powered s = true ∧ s.hold.chg = .measuring ∧ v + 600 ≤ vChg s ∧
      500 ≤ r) ∧
    (∃ (s : State) (v : Nat) (r : Nat) (c : Nat), powered s = true ∧ s.hold.chg = .measuring ∧ v + 600 ≤ vChg s ∧ r
      < 500) ∧
    (∃ (s : State), powered s = true ∧ s.hold.chg = .measuring) ∧
    (∃ (s : State) (v : Nat), powered s = true ∧ (s.hold.chg = .holding ∨ s.hold.chg = .measuring) ∧ v < 12000) ∧
    (∃ (s : State) (v : Nat), powered s = true ∧ 37500 < v ∧ s.hold.chg ≠ .flush ∧ s.hold.chg ≠ .fault) ∧
    (∃ (s : State) (v : Nat), powered s = true ∧ 37500 < v ∧ s.hold.chg = .flush) ∧
    (∃ (s : State) (v : Nat), powered s = true ∧ 37500 < v) :=
  ⟨⟨{ up with hold.chg := .charging }, 0, by decide +kernel⟩,
   ⟨{ up with hold.chg := .charging }, 20000, by decide +kernel⟩,
   ⟨{ up with hold.chg := .charging }, 20000, by decide +kernel⟩,
   ⟨{ up with hold.chg := .charging, arm.slots := [] }, 0, by decide +kernel⟩,
   ⟨{ up with hold.chg := .holding }, by decide +kernel⟩,
   ⟨{ up with hold.chg := .measuring }, 19000, 600, 0, by decide +kernel⟩,
   ⟨{ up with hold.chg := .measuring }, 19000, 0, 0, by decide +kernel⟩,
   ⟨{ up with hold.chg := .measuring }, by decide +kernel⟩,
   ⟨{ up with hold.chg := .holding }, 0, by decide +kernel⟩,
   ⟨{ up with hold.chg := .charging }, 38000, by decide +kernel⟩,
   ⟨{ up with hold.chg := .flush }, 38000, by decide +kernel⟩,
   ⟨{ up with hold.chg := .off }, 38000, by decide +kernel⟩⟩

/-- States and operands that meet the hypotheses of each clause of `CheckpointsAndRestartComplete`. -/
theorem meets_CheckpointsAndRestartComplete :
    (∃ (s : State) (w : CkptWhy), running s = true ∧ s.hold.restarted = true ∧ s.hold.ckptRun = none) ∧
    (∃ (s : State) (w : CkptWhy), running s = true ∧ s.hold.restarted = true ∧ s.hold.ckptRun ≠ none) ∧
    (∃ (s : State) (c : Ckpt), running s = true ∧ s.hold.ckptRun = some c ∧ s.hold.ckptNext = false) ∧
    (∃ (s : State) (c : Ckpt), running s = true ∧ s.hold.ckptRun = some c) ∧
    (∃ (s : State) (w : SegWhy), running s = true ∧ s.hold.restarted = true ∧ s.hold.segRun = none ∧
      s.hold.dirtyDelta = true) ∧
    (∃ (s : State) (w : SegWhy), s.hold.dirtyDelta = false) ∧
    (∃ (s : State) (x : Tables), running s = true ∧ s.hold.segRun = some x) ∧
    (∃ (s : State) (x : Tables), running s = true ∧ s.hold.segRun = some x) ∧
    (∃ (s : State) (e : RestartEnv), running s = true ∧ s.hold.restarted = false) ∧
    (∃ (s : State) (e : RestartEnv), s.hold.restarted = true) :=
  ⟨⟨up, .interval, by decide +kernel⟩,
   ⟨{ up with hold.ckptRun := some ⟨1, up.tab, []⟩ }, .interval, by decide +kernel⟩,
   ⟨{ up with hold.ckptRun := some ⟨1, up.tab, []⟩ }, ⟨1, up.tab, []⟩, by decide +kernel⟩,
   ⟨{ up with hold.ckptRun := some ⟨1, up.tab, []⟩ }, ⟨1, up.tab, []⟩, by decide +kernel⟩,
   ⟨{ up with hold.dirtyDelta := true }, .full, by decide +kernel⟩,
   ⟨up, .full, by decide +kernel⟩,
   ⟨{ up with hold.segRun := some up.tab }, up.tab, by decide +kernel⟩,
   ⟨{ up with hold.segRun := some up.tab }, up.tab, by decide +kernel⟩,
   ⟨{ up with hold.restarted := false, hold.restartDone := false }, ⟨true, true, [], [], false, [], 5⟩,
     by decide +kernel⟩,
   ⟨up, ⟨true, true, [], [], false, [], 5⟩, by decide +kernel⟩⟩

set_option maxRecDepth 20000 in
/-- States and operands that meet the hypotheses of each clause of `ExportCommandsComplete`. -/
theorem meets_ExportCommandsComplete :
    (∃ (p : Pf) (q : Nat) (c : W16) (s : State) (u : State) (vf : BitVec 7) (b : Bool) (n : W32) (k : TargetCerts)
      (id : Nat), Safety.startOf ⟨.fn ⟨p, 0⟩, q, c⟩ 0xC8 0 s = some u ∧ vf ≠ 0 ∧ n ≠ 0 ∧ u.tab.offline = false ∧
      exportable u ⟨p, vf.toNat⟩ b = true ∧ certsOk u k.wellFormed k.rootDigest k.devidId k.devidSig k.aliasSig =
      true ∧ answerOk k.xportSig 7 k.aliasId = true ∧ u.trust.rng = .healthy ∧ freeSession u = some id) ∧
    (∃ (p : Pf) (q : Nat) (c : W16) (s : State) (u : State) (i : BitVec 3) (x : MqSess), Safety.startOf ⟨.fn ⟨p, 0⟩,
      q, c⟩ 0xC8 0 s = some u ∧ u.mqt.sess.find? (fun x => decide (x.id = i.toNat ∧ x.imp = false ∧ x.pf = p)) =
      some x ∧ x.state = .openRound ∧ x.exhausted = true ∧ x.round < 31) ∧
    (∃ (p : Pf) (q : Nat) (c : W16) (s : State) (u : State) (i : BitVec 3) (x : MqSess), Safety.startOf ⟨.fn ⟨p, 0⟩,
      q, c⟩ 0xC8 0 s = some u ∧ u.mqt.sess.find? (fun x => decide (x.id = i.toNat ∧ x.imp = false ∧ x.pf = p)) =
      some x ∧ x.state = .openRound) ∧
    (∃ (p : Pf) (q : Nat) (c : W16) (s : State) (u : State) (i : BitVec 3) (x : MqSess) (m : W32) (n : W32) (env :
      MediaEnv) (b : Bytes) (y : MqSess) (l : List Nat), Safety.startOf ⟨.fn ⟨p, 0⟩, q, c⟩ 0xC8 0 s = some u ∧
      u.mqt.sess.find? (fun x => decide (x.id = i.toNat ∧ x.imp = false ∧ x.pf = p)) = some x ∧ x.state ≠ .sealed ∧
      (∀ o, x.lastObj = some o → o.1 ≠ n.toNat) ∧ n.toNat = x.nextIdx ∧ m ≠ 0 ∧ nextObject u env x = some (b, y, l)
      ∧ b.length ≤ m.toNat) ∧
    (∃ (p : Pf) (q : Nat) (c : W16) (s : State) (u : State) (i : BitVec 3) (x : MqSess) (m : W32) (n : W32) (env :
      MediaEnv), Safety.startOf ⟨.fn ⟨p, 0⟩, q, c⟩ 0xC8 0 s = some u ∧ u.mqt.sess.find? (fun x => decide (x.id =
      i.toNat ∧ x.imp = false ∧ x.pf = p)) = some x ∧ x.state ≠ .sealed ∧ (∀ o, x.lastObj = some o → o.1 ≠ n.toNat)
      ∧ n.toNat = x.nextIdx ∧ m ≠ 0 ∧ nextObject u env x = none) ∧
    (∃ (p : Pf) (q : Nat) (c : W16) (s : State) (u : State) (i : BitVec 3) (x : MqSess) (b : Bool), Safety.startOf
      ⟨.fn ⟨p, 0⟩, q, c⟩ 0xC8 0 s = some u ∧ u.mqt.sess.find? (fun x => decide (x.id = i.toNat ∧ x.imp = false ∧
      x.pf = p)) = some x) ∧
    (∃ (p : Pf) (q : Nat) (c : W16) (s : State) (u : State) (i : BitVec 3) (x : MqSess), Safety.startOf ⟨.fn ⟨p, 0⟩,
      q, c⟩ 0xC8 0 s = some u ∧ u.mqt.sess.find? (fun x => decide (x.id = i.toNat ∧ x.imp = false ∧ x.pf = p)) =
      some x ∧ x.state = .sealed) ∧
    (∃ (p : Pf) (q : Nat) (c : W16) (s : State) (u : State) (i : BitVec 3) (x : MqSess), Safety.startOf ⟨.fn ⟨p, 0⟩,
      q, c⟩ 0xC8 0 s = some u ∧ u.mqt.sess.find? (fun x => decide (x.id = i.toNat ∧ x.imp = false ∧ x.pf = p)) =
      some x ∧ x.state ≠ .sealed) :=
  ⟨⟨.p0, 0, 7,
     { up with tab.nss := [(1, { ns1 with attached := [3], priv := true })], fuses.shadow := some fuses0 },
     { up with tab.nss := [(1, { ns1 with attached := [3], priv := true })], fuses.shadow := some fuses0 }, 1,
     false, 1, ⟨[], 5, 0, 0, sigAns 8 5, sigAns 4 0, sigAns 7 0, true⟩, 0, rfl, by decide +kernel⟩,
   ⟨.p0, 0, 7, exUp, exUp, 0, sess0, rfl, by decide +kernel⟩,
   ⟨.p0, 0, 7, exUp, exUp, 0, sess0, rfl, by decide +kernel⟩,
   ⟨.p0, 0, 7, exUp, exUp, 0, sess0, 0xFFFFFFFF, 0, env0, (sealShard sess0 1 0 1 [nsRecord 1 ns1].flatten).1,
     { (sealShard sess0 1 0 1 [nsRecord 1 ns1].flatten).2 with stage := 2 }, [], rfl, by decide +kernel,
     by decide +kernel, by decide +kernel, by decide +kernel, by decide +kernel, rfl,
     by simp [sealShard, padTo, le32, le16, le64, nsRecord, digestBytes, beBytes]; omega⟩,
   ⟨.p0, 0, 7, { up with mqt.sess := [{ sess0 with stage := 2 }] },
     { up with mqt.sess := [{ sess0 with stage := 2 }] }, 0, { sess0 with stage := 2 }, 0xFFFFFFFF, 0, env0, rfl,
     by decide +kernel⟩,
   ⟨.p0, 0, 7, exUp, exUp, 0, sess0, false, rfl, by decide +kernel⟩,
   ⟨.p0, 0, 7, { up with mqt.sess := [{ sess0 with state := .sealed }] },
     { up with mqt.sess := [{ sess0 with state := .sealed }] }, 0, { sess0 with state := .sealed }, rfl,
     by decide +kernel⟩,
   ⟨.p0, 0, 7, exUp, exUp, 0, sess0, rfl, by decide +kernel⟩⟩

/-- States and operands that meet the hypotheses of each clause of `ImportCommandsComplete`. -/
theorem meets_ImportCommandsComplete :
    (∃ (p : Pf) (q : Nat) (c : W16) (s : State) (u : State) (vf : BitVec 7) (n : W32) (h : SessionHeader) (id :
      Nat), Safety.startOf ⟨.fn ⟨p, 0⟩, q, c⟩ 0xC9 0 s = some u ∧ vf ≠ 0 ∧ n ≠ 0 ∧ h.devidCertLen ≠ 0 ∧
      h.devidCertLen ≤ 8192 ∧ n.toNat = 0x1CF0 + h.devidCertLen ∧ u.tab.offline = false ∧ u.tab.readOnly = false ∧
      u.upd.holder = none ∧ u.nvm.sanitize = none ∧ h.delta = false ∧ fullTarget u ⟨p, vf.toNat⟩ = true ∧
      h.targetXportId = u.trust.xportId ∧ certsOk u true h.rootDigest h.devidId h.devidSig h.aliasSig = true ∧
      freeSession u = some id) ∧
    (∃ (p : Pf) (q : Nat) (c : W16) (s : State) (u : State) (i : BitVec 3) (x : MqSess) (n : W32) (d : Shard) (y :
      MqSess) (w : State), Safety.startOf ⟨.fn ⟨p, 0⟩, q, c⟩ 0xC9 0 s = some u ∧ n ≠ 0 ∧ n.toNat ≤ 1048688 ∧
      u.mqt.sess.find? (fun x => decide (x.id = i.toNat ∧ x.imp = true ∧ x.pf = p)) = some x ∧ x.state = .receiving
      ∧ d.index = x.nextIdx ∧ d.intact = true ∧ d.round ≤ 32 ∧ kindAllowed x.stage d.kind = true ∧ (d.kind = 2 ∨
      d.nsid = 0) ∧ applyShard ⟨.fn ⟨p, 0⟩, q, c⟩ x d u = .inl (y, w)) ∧
    (∃ (p : Pf) (q : Nat) (c : W16) (s : State) (u : State) (i : BitVec 3) (x : MqSess) (n : W32) (d : Shard),
      Safety.startOf ⟨.fn ⟨p, 0⟩, q, c⟩ 0xC9 0 s = some u ∧ n ≠ 0 ∧ n.toNat ≤ 1048688 ∧ u.mqt.sess.find? (fun x =>
      decide (x.id = i.toNat ∧ x.imp = true ∧ x.pf = p)) = some x ∧ x.state = .receiving ∧ d.index = x.nextIdx ∧
      d.intact = false) ∧
    (∃ (p : Pf) (q : Nat) (c : W16) (s : State) (u : State) (i : BitVec 3) (x : MqSess) (m : Manifest),
      Safety.startOf ⟨.fn ⟨p, 0⟩, q, c⟩ 0xC9 0 s = some u ∧ u.mqt.sess.find? (fun x => decide (x.id = i.toNat ∧
      x.imp = true ∧ x.pf = p)) = some x ∧ x.state = .receiving ∧ manifestFields m = true ∧ manifestMatches u x m =
      true) ∧
    (∃ (p : Pf) (q : Nat) (c : W16) (s : State) (u : State) (i : BitVec 3) (x : MqSess), Safety.startOf ⟨.fn ⟨p, 0⟩,
      q, c⟩ 0xC9 0 s = some u ∧ u.mqt.sess.find? (fun x => decide (x.id = i.toNat ∧ x.imp = true ∧ x.pf = p)) = some
      x ∧ x.state = .staged ∧ u.tab.offline = false ∧ (fnOf u x.tenant).cfg.bme = true ∧ intMode u x.tenant ≠
      .polled ∧ (fnOf u x.tenant).online = true ∧ (fnOf u x.tenant).ctrl.en = false) ∧
    (∃ (p : Pf) (q : Nat) (c : W16) (s : State) (u : State) (i : BitVec 3) (x : MqSess), Safety.startOf ⟨.fn ⟨p, 0⟩,
      q, c⟩ 0xC9 0 s = some u ∧ u.mqt.sess.find? (fun x => decide (x.id = i.toNat ∧ x.imp = true ∧ x.pf = p)) = some
      x) :=
  ⟨⟨.p0, 0, 7, { up with fns := [(1, fn0), (3, fnw)], fuses.shadow := some fuses0 },
     { up with fns := [(1, fn0), (3, fnw)], fuses.shadow := some fuses0 }, 1, 0x1CF1, ⟨false, 0, 1, 0x1, 0, 5,
     sigAns 8 5, sigAns 4 0, 0, 0, 0, []⟩, 0, rfl, by decide +kernel⟩,
   ⟨.p0, 0, 7, imUp, imUp, 0, imp0, 0x1CF1, ⟨4, 1, 0, 0, 0, true, [.control 1 [1]]⟩,
     { imp0 with control := [(1, [1])] }, imUp, rfl, by decide +kernel⟩,
   ⟨.p0, 0, 7, imUp, imUp, 0, imp0, 0x1CF1, ⟨4, 1, 0, 0, 0, false, []⟩, rfl, by decide +kernel⟩,
   ⟨.p0, 0, 7, { up with mqt.sess := [{ imp0 with shards := 1 }] },
     { up with mqt.sess := [{ imp0 with shards := 1 }] }, 0, { imp0 with shards := 1 }, ⟨false, 1, 0, 0, 0, 1, 0, 0,
     1, 0, 0, 0, 0, 0, sigAns 6 0, []⟩, rfl, by decide +kernel⟩,
   ⟨.p0, 0, 7, { up with fns := [(1, fn0), (3, fnw)], mqt.sess := [{ imp0 with state := .staged }] },
     { up with fns := [(1, fn0), (3, fnw)], mqt.sess := [{ imp0 with state := .staged }] }, 0,
     { imp0 with state := .staged }, rfl, by decide +kernel⟩,
   ⟨.p0, 0, 7, imUp, imUp, 0, imp0, rfl, by decide +kernel⟩⟩

/-- States and operands that meet the hypotheses of each clause of `MctpCommandsComplete`. -/
theorem meets_MctpCommandsComplete :
    (∃ (s : State) (k : MctpPkt), mgtUp s = true ∧ k.integrityOk = true ∧ addressed s k = true ∧ k.som = true ∧
      k.eom = true ∧ k.length ≤ 4224 ∧ s.mgt.asm = none ∧ k.head.length < 2) ∧
    (∃ (s : State) (k : MctpPkt), mgtUp s = true ∧ k.integrityOk = true ∧ addressed s k = true ∧ k.som = true ∧
      k.eom = true ∧ k.length ≤ 4224 ∧ s.mgt.asm = none ∧ k.mtype = .control ∧ 2 ≤ k.head.length ∧ ((k.head.getD 1
      0).toNat = 0 ∨ 5 < (k.head.getD 1 0).toNat)) ∧
    (∃ (s : State) (k : MctpPkt), mgtUp s = true ∧ k.integrityOk = true ∧ addressed s k = true ∧ k.som = true ∧
      k.eom = true ∧ k.length ≤ 4224 ∧ s.mgt.asm = none ∧ k.mtype = .spdm ∧ 2 ≤ k.head.length ∧ fullyUp s = true ∧
      spdmListed (k.head.getD 1 0).toNat = false) ∧
    (∃ (s : State) (k : MctpPkt), mgtUp s = true ∧ k.integrityOk = true ∧ addressed s k = true ∧ k.som = true ∧
      k.eom = false ∧ k.length ≤ 4224 ∧ s.mgt.asm = none) ∧
    (∃ (s : State) (k : MctpPkt) (a : MctpAsm), mgtUp s = true ∧ k.integrityOk = true ∧ addressed s k = true ∧ k.som
      = false ∧ s.mgt.asm = some a ∧ a.broken = false ∧ k.seq ≠ a.seq + 1) ∧
    (∃ (s : State) (k : MctpPkt), mgtUp s = true ∧ k.integrityOk = false) ∧
    (∃ (s : State) (o : BitVec 2) (e : W8), mgtUp s = true ∧ o.toNat ≤ 1 ∧ e ≠ 0 ∧ e ≠ 0xFF) ∧
    (∃ (s : State), mgtUp s = true) ∧
    (∃ (s : State), mgtUp s = true) ∧
    (∃ (s : State) (y : W8), mgtUp s = true) ∧
    (∃ (s : State), mgtUp s = true) ∧
    (∃ (s : State), fullyUp s = true) ∧
    (∃ (s : State), rcvPresented s = true) :=
  ⟨⟨up, pkt0, by decide +kernel⟩,
   ⟨up, { pkt0 with mtype := .control, head := [0x80, 0x09] }, by decide +kernel⟩,
   ⟨up, { pkt0 with mtype := .spdm, head := [0x13, 0x01] }, by decide +kernel⟩,
   ⟨up, { pkt0 with eom := false }, by decide +kernel⟩,
   ⟨{ up with mgt.asm := some ⟨0, 64, .nvmeMi, [], false⟩ }, { pkt0 with som := false, seq := 3 }, ⟨0, 64, .nvmeMi,
     [], false⟩, by decide +kernel⟩,
   ⟨up, { pkt0 with integrityOk := false }, by decide +kernel⟩,
   ⟨up, 0, 9, by decide +kernel⟩,
   ⟨up, by decide +kernel⟩,
   ⟨up, by decide +kernel⟩,
   ⟨up, 0x7E, by decide +kernel⟩,
   ⟨up, by decide +kernel⟩,
   ⟨up, by decide +kernel⟩,
   ⟨rcv, by decide +kernel⟩⟩

/-- States and operands that meet the hypotheses of each clause of `BusCommandsComplete`. -/
theorem meets_BusCommandsComplete :
    (∃ (s : State) (a : BitVec 7), mgtUp s = true ∧ a ≠ 0) ∧
    (∃ (s : State) (a : BitVec 7), mgtUp s = true ∧ a ≠ 0) ∧
    (∃ (s : State), mgtUp s = true) ∧
    (∃ (s : State) (e : W8), mgtUp s = true ∧ s.mgt.i3c = true) ∧
    (∃ (s : State) (e : W8), mgtUp s = true ∧ s.mgt.i3c = true) ∧
    (∃ (s : State), mgtUp s = true ∧ s.mgt.i3c = true) ∧
    (∃ (s : State), mgtUp s = true ∧ s.mgt.i3c = true) ∧
    (∃ (s : State), mgtUp s = true ∧ s.mgt.i3c = true) ∧
    (∃ (s : State), mgtUp s = true ∧ s.mgt.i3c = true) ∧
    (∃ (s : State), mgtUp s = true ∧ s.mgt.i3c = true) ∧
    (∃ (s : State) (v : W16), mgtUp s = true ∧ s.mgt.i3c = true ∧ 64 ≤ v.toNat ∧ v.toNat ≤ 256) ∧
    (∃ (s : State) (e : W8), s.mgt.i3c = false) :=
  ⟨⟨{ up with mgt.i3c := true }, 9, by decide +kernel⟩,
   ⟨{ up with mgt.i3c := true }, 9, by decide +kernel⟩,
   ⟨{ up with mgt.i3c := true }, by decide +kernel⟩,
   ⟨{ up with mgt.i3c := true }, 0, by decide +kernel⟩,
   ⟨{ up with mgt.i3c := true }, 0, by decide +kernel⟩,
   ⟨{ up with mgt.i3c := true }, by decide +kernel⟩,
   ⟨{ up with mgt.i3c := true }, by decide +kernel⟩,
   ⟨{ up with mgt.i3c := true }, by decide +kernel⟩,
   ⟨{ up with mgt.i3c := true }, by decide +kernel⟩,
   ⟨{ up with mgt.i3c := true }, by decide +kernel⟩,
   ⟨{ up with mgt.i3c := true }, 100, by decide +kernel⟩,
   ⟨up, 0, by decide +kernel⟩⟩

/-- States and operands that meet the hypotheses of each clause of `MiCommandsComplete`. -/
theorem meets_MiCommandsComplete :
    (∃ (s : State) (n : Nat) (d : W8) (p : W8) (c : W16) (b : Bytes), mgtUp s = true ∧ miStructure s d p c = some b) ∧
    (∃ (s : State) (n : Nat), mgtUp s = true) ∧
    (∃ (s : State) (n : Nat), mgtUp s = true) ∧
    (∃ (s : State) (n : Nat) (a : W16) (m : Nat), mgtUp s = true ∧ rcvPresented s = false) ∧
    (∃ (s : State) (n : Nat) (v : W32) (k : Nat), mgtUp s = true ∧ rcvPresented s = false ∧ freqOf v = some k) ∧
    (∃ (s : State) (n : Nat) (v : W32), mgtUp s = true ∧ rcvPresented s = false) ∧
    (∃ (s : State) (n : Nat) (v : W32), mgtUp s = true ∧ rcvPresented s = false ∧ mtuAllowed s v = true) ∧
    (∃ (s : State) (n : Nat) (i : W8) (v : W32), mgtUp s = true ∧ rcvPresented s = false ∧ configValue s i = some v) ∧
    (∃ (s : State) (n : Nat) (o : W16) (k : W16), fullyUp s = true ∧ s.mgt.held = [] ∧ k ≠ 0 ∧ o.toNat + k.toNat ≤
      1024) ∧
    (∃ (s : State) (n : Nat) (o : W16) (k : W16) (d : Bytes), fullyUp s = true ∧ s.mgt.held = [] ∧ ownerLocked s =
      false ∧ k ≠ 0 ∧ o.toNat + k.toNat ≤ 1024 ∧ d.length = k.toNat ∧ canStore .vpd s = true) ∧
    (∃ (s : State) (n : Nat) (o : W16) (k : W16) (d : Bytes) (b : Bool), fullyUp s = true ∧ s.mgt.held = [] ∧
      ownerLocked s = true) ∧
    (∃ (s : State) (n : Nat), fullyUp s = true ∧ s.mgt.held = []) ∧
    (∃ (s : State) (n : Nat) (o : W16) (k : W16), restarting s = true) ∧
    (∃ (s : State) (n : Nat) (o : W16) (k : W16), rcvPresented s = true) ∧
    (∃ (s : State), fullyUp s = true ∧ s.mgt.snapTaken = false) ∧
    (∃ (s : State), fullyUp s = true) :=
  ⟨⟨up, 0, 4, 0, 0, le16 miAdminOpcodes.length ++ miAdminOpcodes.flatMap fun o => leBytes 1 0x10 ++ leBytes 1 o,
     by decide +kernel⟩,
   ⟨up, 0, by decide +kernel⟩,
   ⟨up, 0, by decide +kernel⟩,
   ⟨up, 0, 0, 0, by decide +kernel⟩,
   ⟨up, 0, 1, 100, by decide +kernel⟩,
   ⟨up, 0, 0, by decide +kernel⟩,
   ⟨up, 0, 64, by decide +kernel⟩,
   ⟨up, 0, 3, 64, by decide +kernel⟩,
   ⟨up, 0, 0, 16, by decide +kernel⟩,
   ⟨up, 0, 0, 16, List.replicate 16 0, by decide +kernel⟩,
   ⟨owned 2 up, 0, 0, 16, [], true, by decide +kernel⟩,
   ⟨up, 0, by decide +kernel⟩,
   ⟨{ up with hold.restartDone := false }, 0, 0, 16, by decide +kernel⟩,
   ⟨rcv, 0, 0, 16, by decide +kernel⟩,
   ⟨up, by decide +kernel⟩,
   ⟨up, by decide +kernel⟩⟩

/-- States and operands that meet the hypotheses of each clause of `KaleidoscopeCommandsComplete`. -/
theorem meets_KaleidoscopeCommandsComplete :
    (∃ (s : State), running s = true) ∧
    (∃ (s : State), running s = true ∧ kscAllowed { s with ksc := { s.ksc with enable := true } } = true ∧
      s.ksc.active = false ∧ s.ksc.lostRun = 0 ∧ s.ksc.fifo = []) ∧
    (∃ (s : State), running s = true ∧ s.pwr.straps.kscopeN = true) ∧
    (∃ (s : State), running s = true) ∧
    (∃ (s : State), running s = true) ∧
    (∃ (s : State), s.ksc.active = true ∧ s.ksc.lostRun = 0) ∧
    (∃ (s : State), s.ksc.active = false) :=
  ⟨⟨up, by decide +kernel⟩,
   ⟨{ up with pwr.straps := { Straps.openLevels with kscopeN := false } }, by decide +kernel⟩,
   ⟨up, by decide +kernel⟩,
   ⟨up, by decide +kernel⟩,
   ⟨up, by decide +kernel⟩,
   ⟨{ up with ksc.active := true, ksc.enable := true }, by decide +kernel⟩,
   ⟨up, by decide +kernel⟩⟩

/-- States and operands that meet the hypotheses of each clause of `EventSourceCommandsComplete`. -/
theorem meets_EventSourceCommandsComplete :
    (∃ (s : State) (p : Pf) (k : BitVec 7) (v : W32), running s = true) ∧
    (∃ (s : State) (p : Pf) (k : BitVec 7) (v : W32), running s = true) ∧
    (∃ (s : State) (p : Pf), running s = true) ∧
    (∃ (s : State) (p : Pf) (v : W32), running s = true ∧ v.getLsbD 31 = false) ∧
    (∃ (s : State) (p : Pf) (v : W32), running s = true ∧ v.getLsbD 31 = true ∧ v.getLsbD 11 = true ∧ v.getLsbD 12 =
      false ∧ (evsOf s p).sum ≠ 0 ∧ vectorOpen s ⟨p, 0⟩ (fieldOf 0 11 v).toNat = true) ∧
    (∃ (s : State) (p : Pf) (u : Bool), running s = true) ∧
    (∃ (s : State) (p : Pf) (u : Bool) (v : W32), running s = true ∧ latchOf s p u = some v) ∧
    (∃ (s : State) (p : Pf) (u : Bool), running s = true ∧ latchOf s p u = none) ∧
    (∃ (s : State) (p : Pf), running s = true) ∧
    (∃ (s : State) (p : Pf) (o : Nat), running s = true ∧ o % 4 = 0 ∧ 0x01000000 ≤ o ∧ counterAt (o - 0x01000000) =
      none) ∧
    (∃ (s : State) (p : Pf) (o : Nat), 0x2418 ≤ o) :=
  ⟨⟨up, .p0, 0, 0, by decide +kernel⟩,
   ⟨up, .p0, 0, 0, by decide +kernel⟩,
   ⟨up, .p0, by decide +kernel⟩,
   ⟨up, .p0, 0, by decide +kernel⟩,
   ⟨{ up with evs0 := { Evs.reset with sum := 1 }, fns := [(1, { fn0 with unmasked := [3], cfg := { fn0.cfg with msixEn := true } })] },
     .p0, 0x80000803, by decide +kernel⟩,
   ⟨up, .p0, false, by decide +kernel⟩,
   ⟨{ up with latch.gen0 := some 7 }, .p0, false, 7, by decide +kernel⟩,
   ⟨up, .p0, false, by decide +kernel⟩,
   ⟨up, .p0, by decide +kernel⟩,
   ⟨up, .p0, 0x01000000, by decide +kernel⟩,
   ⟨up, .p0, 0x2418, by decide +kernel⟩⟩

/-- States and operands that meet the hypotheses of each clause of `RegisterWritesFollowTheirCodes`. -/
theorem meets_RegisterWritesFollowTheirCodes :
    (∃ (s : State) (p : Pf) (o : Nat) (n : Nat) (v : W32), rcvPresented s = false ∧ (n ≠ 4 ∨ o % 4 ≠ 0 ∨ o <
      0x01000000 ∨ running s = false)) ∧
    (∃ (s : State) (p : Pf) (v : W32), running s = true) ∧
    (∃ (s : State) (p : Pf) (v : W32), running s = true) ∧
    (∃ (s : State) (p : Pf) (v : W32), running s = true ∧ 1 ≤ (fieldOf 0 12 v).toNat ∧ (fieldOf 0 12 v).toNat ≤
      4000) ∧
    (∃ (s : State) (p : Pf) (v : W32), running s = true ∧ ((fieldOf 0 12 v).toNat = 0 ∨ 4000 < (fieldOf 0 12
      v).toNat)) ∧
    (∃ (s : State) (p : Pf) (v : W32), running s = true) ∧
    (∃ (s : State) (p : Pf) (v : W32), running s = true) ∧
    (∃ (s : State) (p : Pf) (v : W32), running s = true ∧ 1 ≤ (fieldOf 0 3 v).toNat ∧ (fieldOf 0 3 v).toNat ≤ 4) ∧
    (∃ (s : State) (p : Pf) (v : W32), running s = true) ∧
    (∃ (s : State) (p : Pf) (v : W32), running s = true) ∧
    (∃ (s : State) (p : Pf) (v : W32), running s = true) ∧
    (∃ (s : State) (p : Pf) (o : Nat) (n : Nat) (v : W32) (l : List RegRead), running s = true) ∧
    (∃ (s : State) (p : Pf) (v : W32), rcvPresented s = true) :=
  ⟨⟨up, .p0, 0, 4, 0, by decide +kernel⟩,
   ⟨up, .p0, 0, by decide +kernel⟩,
   ⟨up, .p0, 0, by decide +kernel⟩,
   ⟨up, .p0, 50, by decide +kernel⟩,
   ⟨up, .p0, 0, by decide +kernel⟩,
   ⟨up, .p0, 0, by decide +kernel⟩,
   ⟨up, .p0, 0, by decide +kernel⟩,
   ⟨up, .p0, 2, by decide +kernel⟩,
   ⟨up, .p0, 0, by decide +kernel⟩,
   ⟨up, .p0, 0, by decide +kernel⟩,
   ⟨up, .p0, 0, by decide +kernel⟩,
   ⟨up, .p0, 0, 4, 0, [], by decide +kernel⟩,
   ⟨rcv, .p0, 0, by decide +kernel⟩⟩

/-- States and operands that meet the hypotheses of each clause of `CommandsChangeOnlyTheirParts`. -/
theorem meets_CommandsChangeOnlyTheirParts :
    (∃ (i : Instr) (s : State) (t : State), exec i s = .next t) ∧
    (∃ (i : Instr) (f : Func) (s : State) (t : State) (g : Func), onlyFunction i = some f ∧ (∀ r ∈ (fnOf s
      f).ctrl.aers, r.src = .fn f) ∧ exec i s = .next t ∧ unitOf g ≠ unitOf f) :=
  ⟨⟨.subsystemReset 0, up, up, rfl⟩,
   ⟨.fetchResume f0, f0, up, up, v1, by decide +kernel, by decide +kernel, rfl, by decide +kernel⟩⟩

/-- States and operands that meet the hypotheses of each clause of `StepRunsTheFrontCommand`. -/
theorem meets_StepRunsTheFrontCommand :
    (∃ (c : Instr) (r : List Instr) (s : State), s.pending = c :: r) ∧
    (∃ (s : State) (i : Instr) (r : List Held) (t : State), s.pending = [] ∧ fullyUp s = true ∧ s.mgt.held = .admin
      i :: r ∧ exec i { s with mgt := { s.mgt with held := [] } } = .next t) ∧
    (∃ (s : State) (p : KscPkt) (r : List KscPkt), s.pending = [] ∧ s.mgt.held = [] ∧ s.ksc.active = true ∧
      s.ksc.fifo = p :: r) ∧
    (∃ (s : State), s.pending = [] ∧ s.mgt.held = [] ∧ s.ksc.active = true ∧ s.ksc.fifo = []) ∧
    (∃ (s : State), s.pending = [] ∧ s.mgt.held = [] ∧ s.ksc.active = false) :=
  ⟨⟨.brownOut, [], { up with pending := [.brownOut] }, by decide +kernel⟩,
   ⟨{ up with mgt.held := [.admin (.fetchResume f0)] }, .fetchResume f0, [], up, by decide +kernel,
     by decide +kernel, by decide +kernel, rfl⟩,
   ⟨{ up with ksc.active := true, ksc.fifo := [⟨1, []⟩] }, ⟨1, []⟩, [], by decide +kernel⟩,
   ⟨{ up with ksc.active := true }, by decide +kernel⟩,
   ⟨up, by decide +kernel⟩⟩

/-- States and operands that meet the hypotheses of each clause of `StepsGoOnAndKeepTheInvariant`. -/
theorem meets_StepsGoOnAndKeepTheInvariant :
    ∃ (s : State), Safety.Inv s :=
  ⟨State.reset, reset_inv⟩

/-- States and operands that meet the hypotheses of each clause of `PermanentLocksHold`. -/
theorem meets_PermanentLocksHold :
    ∃ (s : State) (t : State) (a : Nat), Safety.Inv s ∧ permLocked (sectorOf a) = true ∧ step s = .next t :=
  ⟨State.reset, State.reset, 0, reset_inv, by decide +kernel, rfl⟩

/-- States and operands that meet the hypotheses of each clause of `FusesOnlyBurn`. -/
theorem meets_FusesOnlyBurn :
    ∃ (s : State) (t : State), step s = .next t :=
  ⟨State.reset, State.reset, rfl⟩

end Sys2Proof.Tests
end

section
/-! SUPPORT. What the option load and Plinth leave of boot state and of the key ladder (R89 to R98, R125, R177). -/
namespace Sys2Proof.Machine

/-! ## Boot state under the operations of the array and the ledger -/

/-- Boot state is as before, but for the events owed to firmware. -/
def OwesOnly (s t : State) : Prop := ∃ l, t.boot = { s.boot with owed := l }

namespace OwesOnly

variable {α : Type} {l : List Field} {s t u : State}

theorem of_boot_eq (h : t.boot = s.boot) : OwesOnly s t := ⟨s.boot.owed, h⟩

theorem refl (s : State) : OwesOnly s s := of_boot_eq rfl

theorem trans (h : OwesOnly s t) (k : OwesOnly t u) : OwesOnly s u := by
  obtain ⟨a, ha⟩ := h
  obtain ⟨b, hb⟩ := k
  exact ⟨b, by rw [hb, ha]⟩

/-- An operation whose frame leaves boot state out. -/
theorem of_same (h : Same l s t) (i : l.all (fun f => f ≠ .boot) = true) : OwesOnly s t :=
  of_boot_eq (h .boot fun m => by simpa using List.all_eq_true.mp i _ m)

theorem ite {c : Prop} [Decidable c] (h : OwesOnly s t) (k : OwesOnly s u) : OwesOnly s (if c then t else u) := by
  split <;> assumption

end OwesOnly

theorem eventDue_owesOnly (code d0 d1 : Nat) (s : State) : OwesOnly s (eventDue code d0 d1 s) := by
  unfold eventDue
  exact .ite (.of_same (event_same _ _ _ _) (by decide)) ⟨_, rfl⟩

theorem tearSector_owesOnly (part : EvrPart) (s : State) : OwesOnly s (tearSector part s) := by
  refine .trans (.of_same (l := [.evr, .evs0, .evs1]) ?_ (by decide)) (eventDue_owesOnly _ _ _ _)
  exact Same.call (evsSetIf_same _ _ _) (by decide) (Same.put (Same.widen (by decide) (setLedger_same _ _ _)) rfl)

theorem foundTear_owesOnly (part : EvrPart) (torn : Bool) (s : State) : OwesOnly s (foundTear part torn s) := by
  unfold foundTear
  exact .ite (tearSector_owesOnly _ _) (.refl _)

theorem retireSector_owesOnly (n : Nat) (s : State) : OwesOnly s (retireSector n s) := by
  unfold retireSector
  refine .ite (.refl _) (.trans ?_ (eventDue_owesOnly _ _ _ _))
  refine .trans (.trans (t := { s with nor.retired := insertNew n s.nor.retired }) (.of_boot_eq rfl) ?_)
    (.of_same (evsSet_same _ _) (by decide))
  exact .ite (.of_same (storeCopy_same _ _ _) (by decide)) (.ite (.of_same (storeCopy_same _ _ _) (by decide))
    (.ite (.of_boot_eq rfl) (.ite (.of_boot_eq rfl)
      (.ite (.of_boot_eq rfl) (.ite (.of_boot_eq rfl) (.of_boot_eq rfl))))))

theorem replaceBad_owesOnly (n pages : Nat) (s : State) : OwesOnly s (replaceBad n pages s) := by
  unfold replaceBad
  refine .ite (retireSector_owesOnly _ _) (.trans
    (.of_same (l := [.norOps, .norBanks, .nor, .evs0, .evs1]) ?_ (by decide)) (eventDue_owesOnly _ _ _ _))
  exact Same.call (evsSet_same _ _) (by decide) (Same.call (bumpGen_same _ _) (by decide)
    (Same.widen (by decide) (modBank_same _ _ _)))

theorem undefineIf_owesOnly (c : Prop) [Decidable c] (lo hi : Nat) (s : State) :
    OwesOnly s (if c then undefineUnits lo hi s else s) :=
  .ite (.of_same (undefineUnits_same _ _ _) (by decide)) (.refl s)

theorem storeRecord_owesOnly (b : RecBody) (ok : Bool) (s : State) : OwesOnly s (storeRecord b ok s) := by
  have moved (u : State) (c : CfgStore) : OwesOnly u { u with cfg := c } := .of_boot_eq rfl
  have copied : OwesOnly s (storeCopy b ok s) := .of_same (storeCopy_same _ _ _) (by decide)
  unfold storeRecord
  refine .ite copied (.ite copied (.trans (copied.trans ?_) (replaceBad_owesOnly _ _ _)))
  exact .trans (undefineIf_owesOnly _ _ _ _) (moved _ _)

theorem failPage_owesOnly (part : EvrPart) (s : State) : OwesOnly s (failPage part s) := by
  unfold failPage
  have torn := tearSector_owesOnly part s
  refine .ite torn (.trans (torn.trans ?_) (replaceBad_owesOnly _ _ _))
  exact .trans (undefineIf_owesOnly _ _ _ _) (.of_same (bumpGen_same _ _) (by decide))

theorem programPage_owesOnly (part : EvrPart) (ok : Bool) (s : State) : OwesOnly s (programPage part ok s) := by
  unfold programPage
  have opened : OwesOnly s (if (ledger s part).used = 2048 then openSector part s else s) :=
    .ite (.of_same (openSector_same _ _) (by decide)) (.refl _)
  refine .ite (.refl _) (.ite (opened.trans (.of_same (l := [.nor, .evr, .evs0, .evs1]) ?_ (by decide)))
    (opened.trans (failPage_owesOnly _ _)))
  exact Same.call (noteSigned_same _ _) (by decide) (Same.call (bumpGen_same _ _) (by decide)
    (Same.widen (by decide) (setLedger_same _ _ _)))

theorem drainQueue_owesOnly (part : EvrPart) : ∀ (n : Nat) (s : State), OwesOnly s (drainQueue part n s)
  | 0, s => .refl s
  | n + 1, s => .trans (programPage_owesOnly part true s) (drainQueue_owesOnly part n _)

theorem writeOut_owesOnly (part : EvrPart) (ok : Bool) (s : State) : OwesOnly s (writeOut part ok s) := by
  unfold writeOut
  exact .trans (.ite (.refl _) (programPage_owesOnly _ _ _)) (drainQueue_owesOnly _ _ _)

theorem plinthRecord_owesOnly (i : SlotId) (refused : List (SlotId × Nat)) (ok : Bool) (s : State) :
    OwesOnly s (plinthRecord i refused ok s) := by
  unfold plinthRecord
  split
  · exact .ite (storeRecord_owesOnly _ _ _) (.refl _)
  · exact .refl _

/-! ## The option load -/

theorem deriveDeviceKeys_boot (s : State) : (deriveDeviceKeys s).boot = s.boot :=
  deriveDeviceKeys_same s .boot (by decide)

theorem deriveDeviceKeys_fuses (s : State) : (deriveDeviceKeys s).fuses = s.fuses := by
  unfold deriveDeviceKeys
  split <;> rfl

theorem readUds_unlocked {s : State} {f : StaticFuses} (h : s.trust.ladderLocked = false)
    (k : s.fuses.shadow = some f) : readUds s = some (beBytes 64 f.uds.toNat) := by
  simp [readUds, h, k]

theorem deriveDeviceKeys_of_readUds {s : State} {u : Bytes} (h : readUds s = some u) :
    (deriveDeviceKeys s).trust.configKeys = true ∧
    (deriveDeviceKeys s).trust.keys.cfg = some (kdf u "TZ-CFG" []) := by
  simp [deriveDeviceKeys, h]

/-- The state that a load hands to the key ladder once the sensed bits `f` match their digest (R89, R94). -/
def loaded (f : StaticFuses) (s : State) : State :=
  { s with
    fuses.attempts := s.fuses.attempts + 1, fuses.shadow := some f,
    fuses.counters := some { svnMin := s.fuses.svnMin, keyRevoke := s.fuses.keyRevoke, kscOff := s.fuses.kscOff },
    boot.phase := .plinth }

theorem loaded_same (f : StaticFuses) (s : State) : Same [.fuses, .boot, .trust] s (loaded f s) :=
  Same.put (Same.refl _ _) rfl

section
variable {s : State} {x : StaticFuses}

theorem execOptionLoadAttempt_due (hr : s.pwr.phase = .released) (hb : s.boot.phase = .optionLoad)
    (hf : s.pwr.flush = none) : exec (.optionLoadAttempt x) s = .next (optionLoad x s) :=
  congrArg Host.Outcome.next (if_pos ⟨hr, hb, hf⟩)

theorem optionLoad_match (h : sha (staticBytes (sensed s.fuses.array x)) = (sensed s.fuses.array x).digest) :
    optionLoad x s = deriveDeviceKeys (loaded (sensed s.fuses.array x) s) :=
  if_pos h

theorem optionLoad_retry (h : sha (staticBytes (sensed s.fuses.array x)) ≠ (sensed s.fuses.array x).digest)
    (k : s.fuses.attempts + 1 < 3) : optionLoad x s = { s with fuses.attempts := s.fuses.attempts + 1 } :=
  (if_neg h).trans (if_neg (Nat.not_le.mpr k))

theorem optionLoad_fault (h : sha (staticBytes (sensed s.fuses.array x)) ≠ (sensed s.fuses.array x).digest)
    (k : 3 ≤ s.fuses.attempts + 1) :
    optionLoad x s = optionFault { s with fuses.attempts := s.fuses.attempts + 1 } :=
  (if_neg h).trans (if_pos k)

end

theorem evsSetIf_fuses (b : Bool) (n : Nat) (s : State) : (evsSetIf b n s).fuses = s.fuses := by
  cases b <;> rfl

theorem setChg_fuses (c : ChgState) (s : State) : (setChg c s).fuses = s.fuses :=
  (evsSetIf_fuses _ _ _).trans (evsSetIf_fuses _ _ _)

theorem setChg_hold (c : ChgState) (s : State) : (setChg c s).hold = { s.hold with chg := c } :=
  (noteLimit_same _ _ .hold (by decide)).trans (evsSetIf_same _ _ { s with hold.chg := c } .hold (by decide))

/-- Option Fault (R94 to R96). -/
theorem optionFault_spec (s : State) :
    (optionFault s).boot.phase = .optionFault ∧ (optionFault s).rcv.optFault = true ∧
    (optionFault s).pwr.chgGateHeld = true ∧ (optionFault s).nvm.watts = 12 ∧ (optionFault s).hold.chg = .off ∧
    (optionFault s).fuses = s.fuses := by
  have keep := setChg_same .off { s with boot.phase := .optionFault, rcv.optFault := true, nvm.watts := 12,
                                         pwr.chgGateHeld := true }
  refine ⟨congrArg Boot.phase (keep .boot (by decide)), congrArg Rcv.optFault (keep .rcv (by decide)),
    congrArg Pwr.chgGateHeld (keep .pwr (by decide)), congrArg Nvm.watts (keep .nvm (by decide)), ?_,
    setChg_fuses _ _⟩
  exact congrArg Hold.chg (setChg_hold _ _)

/-! ## Plinth -/

/-- The key ladder is locked, with CDI_0 and the DeviceID key gone (R177). -/
def LadderLocked (s : State) : Prop :=
  s.trust.ladderLocked = true ∧ s.trust.keys.cdi0 = none ∧ s.trust.keys.devidK = none

theorem LadderLocked.of_trust_eq {s t : State} (h : LadderLocked s) (k : t.trust = s.trust) : LadderLocked t := by
  unfold LadderLocked
  rw [k]
  exact h

theorem enterRecovery_locked (ddrOk : Bool) (refused : List (SlotId × Nat)) (s : State) :
    LadderLocked (enterRecovery ddrOk refused s) := ⟨rfl, rfl, rfl⟩

/-- Recovery (R125). -/
theorem enterRecovery_presented (ddrOk : Bool) (refused : List (SlotId × Nat)) (s : State) :
    (enterRecovery ddrOk refused s).boot.phase = .recovery ∧ (enterRecovery ddrOk refused s).rcv.dramFail = !ddrOk ∧
    (enterRecovery ddrOk refused s).boot.refused = refusedBits refused := ⟨rfl, rfl, rfl⟩

theorem plinthP7_locked (s : State) : LadderLocked (plinthP7 s) := ⟨rfl, rfl, rfl⟩

theorem signedOnce_identity (s : State) : (signedOnce s).trust.identity = s.trust.identity := by
  unfold signedOnce
  split <;> rfl

theorem plinthP7_identity (s : State) : (plinthP7 s).trust.identity = true := by
  simp only [plinthP7, lockLadder, signedOnce_identity]

theorem eventDue_evr (code d0 d1 : Nat) {s : State} (h : s.boot.phase ≠ .firmware) :
    (eventDue code d0 d1 s).evr = s.evr := by
  have idle : firmwareUp s = false := by simp [firmwareUp, h]
  simp [eventDue, idle]

/-- P3 records nothing itself: before firmware runs, an event that is due is owed. -/
theorem plinthP3_evr (e : BootEnv) {s : State} (h : s.boot.phase ≠ .firmware) : (plinthP3 e s).evr = s.evr := by
  unfold plinthP3
  dsimp only
  split
  · exact eventDue_evr _ _ _ h
  · rfl

theorem newestBootIndex_plinthP3 (e : BootEnv) {s : State} (h : s.boot.phase ≠ .firmware) :
    newestBootIndex (plinthP3 e s) = newestBootIndex s := by
  unfold newestBootIndex
  rw [plinthP3_evr e h]

theorem foldEvents_owesOnly (l : List Owed) (s : State) :
    OwesOnly s (l.foldl (fun s o => event o.code o.d0 o.d1 s) s) :=
  .of_same (Same.fold (fun _ _ => event_same _ _ _ _) l (Same.refl _ _)) (by decide)

/-- What firmware does first takes back the watchdog's mark, and of the rest of boot state touches only what is owed. -/
theorem firmwareStart_owesOnly (e : BootEnv) (s : State) :
    OwesOnly { s with boot.watchdogFired := false } (firmwareStart e s) := by
  have record : ∀ (c : Prop) [Decidable c] (code d0 d1 : Nat) (u : State),
      OwesOnly u (if c then event code d0 d1 u else u) :=
    fun c _ code d0 d1 u => .ite (.of_same (event_same code d0 d1 u) (by decide)) (.refl u)
  have stopped : ∀ (c : Prop) [Decidable c] (code d0 d1 : Nat) (u : State),
      OwesOnly u (if c then u else event code d0 d1 u) :=
    fun c _ code d0 d1 u => .ite (.refl u) (.of_same (event_same code d0 d1 u) (by decide))
  have burnt := OwesOnly.of_same (completeBurns_same { s with boot.watchdogFired := false }) (by decide)
  refine .trans ?_ (.of_same (kscFollow_same _) (by decide))
  refine .trans ?_ (.of_same (trimStops_same _) (by decide))
  refine .trans ?_ (record _ _ _ _ _)
  refine .trans ?_ (foundTear_owesOnly _ _ _)
  refine .trans ?_ (foldEvents_owesOnly _ _)
  exact .trans (burnt.trans (stopped _ _ _ _ _)) ⟨[], rfl⟩

section
variable (e : BootEnv) (c : SlotId × BootAs) (fast : Bool) (refused : List (SlotId × Nat)) (s : State)

/-- The state that P7 starts from, with what boot state then says of the chosen image (R98, R100, R138). -/
def chosen : State :=
  let u := { s with
    boot.path := bootPath c.2 fast, boot.slot := BitVec.ofNat 2 (slotCode c.1),
    boot.trial := decide (c.2 = BootAs.trial), boot.refused := refusedBits refused, boot.imageVersion := BitVec.ofNat 64 (slotHeader s c.1).version,
    boot.svn := BitVec.ofNat 32 (slotHeader s c.1).svn, boot.rootDigest := slotRoot s c.1,
    boot.bootIndex := newestBootIndex s + 1 }
  { u with boot.meas := measurements u c.1 refused }

/-- The state at the end of P8: the boot records are written and the boot control record follows (R98, R113, R224). -/
def afterP8 : State :=
  plinthRecord c.1 refused e.recordOk
    (writeOut .boot e.ledgerOk (formBootRecords e (foundTear .boot e.tornBoot (plinthP7 (chosen c fast refused s)))))

/-- The handover of P9 to firmware (R98, R115). -/
def handedOver : State :=
  { afterP8 e c fast refused s with
    boot.phase := .firmware, boot.handoffUs := e.handoffUs, boot.armed := decide (c.2 = BootAs.trial),
    boot.remainingS := if c.2 = BootAs.trial then BitVec.ofNat 16 (slotHeader s c.1).window else 0 }

theorem bootImage_eq : bootImage e c fast refused s = firmwareStart e (handedOver e c fast refused s) := rfl

theorem afterP8_owesOnly : OwesOnly (chosen c fast refused s) (afterP8 e c fast refused s) := by
  have identity := OwesOnly.of_same (plinthP7_same (chosen c fast refused s)) (by decide)
  refine .trans ?_ (plinthRecord_owesOnly _ _ _ _)
  refine .trans ?_ (writeOut_owesOnly _ _ _)
  refine .trans ?_ (.of_same (formBootRecords_same _ _) (by decide))
  exact identity.trans (foundTear_owesOnly _ _ _)

/-- Boot state once the chosen image has control: as it was chosen, with what the handover sets. -/
theorem bootImage_boot : ∃ l, (bootImage e c fast refused s).boot = { (chosen c fast refused s).boot with
    phase := .firmware, handoffUs := e.handoffUs, armed := decide (c.2 = BootAs.trial),
    remainingS := if c.2 = BootAs.trial then BitVec.ofNat 16 (slotHeader s c.1).window else 0,
    watchdogFired := false, owed := l } := by
  obtain ⟨_, written⟩ := afterP8_owesOnly e c fast refused s
  obtain ⟨owed, started⟩ := firmwareStart_owesOnly e (handedOver e c fast refused s)
  exact ⟨owed, by rw [bootImage_eq, started, handedOver, written]⟩

/-- Nothing after P7 touches the keys. -/
theorem bootImage_trust : (bootImage e c fast refused s).trust = (plinthP7 (chosen c fast refused s)).trust := by
  have written : (afterP8 e c fast refused s).trust = (plinthP7 (chosen c fast refused s)).trust :=
    (plinthRecord_same _ _ _ _ .trust (by decide)).trans <| (writeOut_same _ _ _ .trust (by decide)).trans <|
      (formBootRecords_same _ _ .trust (by decide)).trans (foundTear_same _ _ _ .trust (by decide))
  exact (firmwareStart_same e (handedOver e c fast refused s) .trust (by decide)).trans written

theorem bootImage_locked : LadderLocked (bootImage e c fast refused s) :=
  (plinthP7_locked _).of_trust_eq (bootImage_trust e c fast refused s)

theorem bootImage_identity : (bootImage e c fast refused s).trust.identity = true := by
  rw [bootImage_trust, plinthP7_identity]

end

section
variable {e : BootEnv} {s : State}

theorem execPlinthBoot_due (hr : s.pwr.phase = .released) (hb : s.boot.phase = .plinth) (hf : s.pwr.flush = none) :
    exec (.plinthBoot e) s = .next (plinth e s) :=
  congrArg Host.Outcome.next (if_pos ⟨hr, hb, hf⟩)

theorem plinth_dramFails (h : e.ddrOk = false) : plinth e s = enterRecovery false [] (plinthP3 e s) := by
  simp [plinth, h]

theorem plinth_noCandidate {r : List (SlotId × Nat)} (h : e.ddrOk = true)
    (k : chooseSlot (plinthP3 e s) e s.vault (candidates (plinthP3 e s)) [] = (none, r)) :
    plinth e s = enterRecovery true r (plinthP3 e s) := by
  simp [plinth, h, k]

theorem plinth_chosen {c : SlotId × BootAs} {fast : Bool} {r : List (SlotId × Nat)} (h : e.ddrOk = true)
    (k : chooseSlot (plinthP3 e s) e s.vault (candidates (plinthP3 e s)) [] = (some (c, fast), r)) :
    plinth e s = bootImage e c fast r (plinthP3 e s) := by
  simp [plinth, h, k]

end

end Sys2Proof.Machine

open Sys2Proof Sys2Proof.Machine

/-- Settles O6, by what each of the option load, Plinth's two ways out and the handover leaves of boot state and of the
key ladder. -/
theorem bootReachesFirmwareOrRecovery : Obligations.BootReachesFirmwareOrRecovery := by
  unfold Obligations.BootReachesFirmwareOrRecovery
  refine ⟨?load, ?retry, ?fault, ?dramFails, ?choice, ?build⟩
  case load =>
    intro s x hr hb hf digest
    refine ⟨_, (execOptionLoadAttempt_due hr hb hf).trans (congrArg _ (optionLoad_match digest)), ?_, ?_, ?_, ?_⟩
    · exact deriveDeviceKeys_boot _
    · exact deriveDeviceKeys_fuses _
    · exact fun unlocked => deriveDeviceKeys_of_readUds (readUds_unlocked unlocked rfl)
    · exact Same.call (deriveDeviceKeys_same _) (by decide) (loaded_same _ s)
  case retry =>
    intro s x hr hb hf digest few
    rw [execOptionLoadAttempt_due hr hb hf, optionLoad_retry digest few]
  case fault =>
    intro s x hr hb hf digest third
    rw [execOptionLoadAttempt_due hr hb hf, optionLoad_fault digest third]
    exact ⟨_, rfl, optionFault_spec _⟩
  case dramFails =>
    intro s e hr hb hf dram
    rw [execPlinthBoot_due hr hb hf, plinth_dramFails dram]
    obtain ⟨phase, failed, -⟩ := enterRecovery_presented false [] (plinthP3 e s)
    exact ⟨_, rfl, phase, failed, enterRecovery_locked _ _ _⟩
  case choice =>
    intro s e hr hb hf dram
    rw [execPlinthBoot_due hr hb hf]
    refine ⟨_, rfl, ?_⟩
    rcases found : chooseSlot (plinthP3 e s) e s.vault (candidates (plinthP3 e s)) [] with ⟨_ | ⟨c, fast⟩, r⟩
    · rw [plinth_noCandidate dram found]
      obtain ⟨locked, cdi0, devid⟩ := enterRecovery_locked true r (plinthP3 e s)
      exact ⟨locked, cdi0, devid, enterRecovery_presented true r _⟩
    · rw [plinth_chosen dram found]
      obtain ⟨locked, cdi0, devid⟩ := bootImage_locked e c fast r (plinthP3 e s)
      obtain ⟨owed, boot⟩ := bootImage_boot e c fast r (plinthP3 e s)
      have index := newestBootIndex_plinthP3 e (s := s) (by rw [hb]; decide)
      refine ⟨locked, cdi0, devid, ?_⟩
      dsimp only
      rw [boot]
      exact ⟨rfl, rfl, rfl, congrArg (· + 1) index, rfl, rfl, bootImage_identity _ _ _ _ _⟩
  case build =>
    intro s up once
    exact congrArg Host.Outcome.next (if_pos (by simp [up, once]))
end

section
/-! SUPPORT. What the reads of the Image Array rest on, and that neither the array nor the record logs look at the
registers of the recovery mailbox (R126, R142 to R144). -/
namespace Sys2Proof.Machine

/-! ## What array bytes rest on -/

section
variable {s t : State}

theorem cfgByte_congr (hf : t.fuses = s.fuses) : cfgByte t = cfgByte s := by
  have only : cfgByte t = cfgByte { s with fuses := t.fuses } := rfl
  rw [only, hf]

theorem storedByte_congr (hf : t.fuses = s.fuses) (he : t.evr = s.evr) (hc : t.cfg = s.cfg) :
    storedByte t = storedByte s := by
  unfold storedByte
  rw [cfgByte_congr hf, he, hc]

theorem norBytes_congr (hf : t.fuses = s.fuses) (he : t.evr = s.evr) (hc : t.cfg = s.cfg)
    (hm : t.nor.mem = s.nor.mem) (hu : t.nor.undef = s.nor.undef) : norBytes t = norBytes s := by
  unfold norBytes norByte
  rw [storedByte_congr hf he hc, hm, hu]

end

/-! ## The state with other mailbox registers -/

/-- The state with other mailbox registers. -/
def withRcv (r : Rcv) (s : State) : State := { s with rcv := r }

section
variable (r q : Rcv) (s : State)

@[simp] theorem withRcv_rcv : (withRcv r s).rcv = r := rfl
@[simp] theorem withRcv_nor : (withRcv r s).nor = s.nor := rfl
@[simp] theorem withRcv_cfg : (withRcv r s).cfg = s.cfg := rfl
@[simp] theorem withRcv_withRcv : withRcv q (withRcv r s) = withRcv q s := rfl

theorem withRcv_same : Same [.rcv] s (withRcv r s) := Same.put (Same.refl _ _) rfl

@[simp] theorem slotRetired_withRcv : slotRetired (withRcv r s) = slotRetired s := rfl
@[simp] theorem ownerLocked_withRcv : ownerLocked (withRcv r s) = ownerLocked s := rfl
@[simp] theorem canStore_withRcv (k : RecKind) : canStore k (withRcv r s) = canStore k s := rfl
@[simp] theorem bootRecBase_withRcv : bootRecBase (withRcv r s) = bootRecBase s := rfl

theorem unitDone_withRcv : unitDone (withRcv r s) = unitDone s := by
  have stored : storedByte (withRcv r s) = storedByte s := storedByte_congr rfl rfl rfl
  unfold unitDone
  rw [stored, withRcv_nor]

@[simp] theorem rangeDone_withRcv : rangeDone (withRcv r s) = rangeDone s := by
  unfold rangeDone
  rw [unitDone_withRcv]

theorem slotRead_withRcv : slotRead (withRcv r s) = slotRead s := by
  have bytes : norBytes (withRcv r s) = norBytes s := norBytes_congr rfl rfl rfl rfl rfl
  unfold slotRead
  rw [bytes]

theorem slotHeader_withRcv : slotHeader (withRcv r s) = slotHeader s := by
  unfold slotHeader
  rw [slotRead_withRcv]

theorem digestTable_withRcv : digestTable (withRcv r s) = digestTable s := by
  unfold digestTable
  rw [slotRead_withRcv]

theorem rangeBad_withRcv : rangeBad (withRcv r s) = rangeBad s := rfl

theorem checkP4_withRcv : checkP4 (withRcv r s) = checkP4 s := by
  unfold checkP4
  rw [rangeBad_withRcv, slotHeader_withRcv]

theorem checkP5_withRcv : checkP5 (withRcv r s) = checkP5 s := by
  have roots : rootKeyOk (withRcv r s) = rootKeyOk s := rfl
  have floor : svnMin (withRcv r s) = svnMin s := rfl
  unfold checkP5 endorseOk headerSigOk imageRootPub imageSignerPub signatureBlock
  rw [rangeBad_withRcv, slotHeader_withRcv, digestTable_withRcv, slotRead_withRcv, roots, floor]

theorem checkP6_withRcv : checkP6 (withRcv r s) = checkP6 s := by
  unfold checkP6 imageBlock
  rw [rangeBad_withRcv, slotHeader_withRcv, digestTable_withRcv, slotRead_withRcv]

@[simp] theorem imageOk_withRcv : imageOk (withRcv r s) = imageOk s := by
  unfold imageOk checkImage
  rw [checkP4_withRcv, checkP5_withRcv, checkP6_withRcv]

@[simp] theorem slotRoot_withRcv : slotRoot (withRcv r s) = slotRoot s := by
  unfold slotRoot
  rw [slotHeader_withRcv]

/-! ## Writes of the array and the record logs keep the mailbox apart -/

theorem modBank_withRcv (b : Pf) (g : Bank → Bank) : modBank b g (withRcv r s) = withRcv r (modBank b g s) := by
  cases b <;> rfl

theorem bumpGen_withRcv (n : Nat) : bumpGen n (withRcv r s) = withRcv r (bumpGen n s) := rfl

theorem eraseUnits_withRcv (n : Nat) : eraseUnits n (withRcv r s) = withRcv r (eraseUnits n s) := by
  unfold eraseUnits
  dsimp only
  generalize n * sectorBytes = lo
  generalize lo + sectorBytes = hi
  exact modBank_withRcv r { defineUnits (lo / 32) (hi / 32) s with nor.mem := _, nor.programmed := _ } _ _

theorem loseStores_withRcv (n : Nat) : loseStores n (withRcv r s) = withRcv r (loseStores n s) := by
  unfold loseStores
  split_ifs <;> rfl

theorem eraseContents_withRcv (n : Nat) : eraseContents n (withRcv r s) = withRcv r (eraseContents n s) := by
  rw [eraseContents, eraseUnits_withRcv, loseStores_withRcv, eraseContents]

theorem eraseSectors_withRcv (l : List Nat) : eraseSectors l (withRcv r s) = withRcv r (eraseSectors l s) := by
  unfold eraseSectors
  rw [List.foldl_hom (withRcv r) fun u n => eraseContents_withRcv r u n, bumpGen_withRcv]

theorem programRange_withRcv (a : Nat) (d : Bytes) :
    programRange a d (withRcv r s) = withRcv r (programRange a d s) := by
  unfold programRange
  rw [List.foldl_hom (withRcv r) fun u i => ?_]
  · exact bumpGen_withRcv r _ _
  · rw [unitDone_withRcv]
    split <;> rfl

theorem readySector_withRcv (n pages : Nat) :
    readySector n pages (withRcv r s) = withRcv r (readySector n pages s) := by
  unfold readySector
  rw [show bankOf (withRcv r s) = bankOf s from rfl, eraseUnits_withRcv, bumpGen_withRcv]
  split <;> rfl

theorem putRecord_withRcv (b : RecBody) (ok : Bool) :
    putRecord b ok (withRcv r s) = withRcv r (putRecord b ok s) := rfl

theorem storeCopy_withRcv (b : RecBody) (ok : Bool) :
    storeCopy b ok (withRcv r s) = withRcv r (storeCopy b ok s) := by
  unfold storeCopy
  dsimp only
  rw [withRcv_cfg, readySector_withRcv, putRecord_withRcv, withRcv_cfg, eraseUnits_withRcv]
  split <;> rfl

/-- A record that is stored with no failure is one copy (R144). -/
theorem storeRecord_stored (b : RecBody) : storeRecord b true s = storeCopy b true s := by
  unfold storeRecord
  exact if_pos rfl

end

end Sys2Proof.Machine
end

section
/-! SUPPORT. The recovery mailbox: how a command is taken, refused and answered (R127, R128, R130, R132). -/
namespace Sys2Proof.Machine

/-! ## The answer -/

section
variable (p : RcvPath) (code : Nat) (s : State)

@[simp] theorem rcvDone_rcv : (rcvDone p code s).rcv = { s.rcv with code := BitVec.ofNat 3 code, busy := false } := by
  unfold rcvDone
  dsimp only
  split
  · exact mgtRespond_same _ _ .rcv (by decide)
  · rfl

theorem mgtRespond_nor (o : Output) : (mgtRespond o s).nor = s.nor := by
  unfold mgtRespond
  split <;> rfl

@[simp] theorem rcvDone_nor : (rcvDone p code s).nor = s.nor := by
  unfold rcvDone
  dsimp only
  split
  · exact mgtRespond_nor _ _
  · rfl

@[simp] theorem rcvDone_cfg : (rcvDone p code s).cfg = s.cfg := rcvDone_same p code s .cfg (by decide)

@[simp] theorem rcvDone_pwr : (rcvDone p code s).pwr = s.pwr := rcvDone_same p code s .pwr (by decide)

end

/-! ## What the session has done -/

/-- The session and its marks of slots and units (R128, R129). -/
def marks (r : Rcv) : Option RcvPath × List SlotId × List (SlotId × Nat) × List SlotId :=
  (r.session, r.erased, r.written, r.verified)

/-- Registers with the arguments that a command over PCIe shows (R127). -/
def latchArgs (p : RcvPath) (a0 a1 a2 : W32) (r : Rcv) : Rcv :=
  if p = .pcie then { r with arg0 := a0, arg1 := a1, arg2 := a2 } else r

/-- Registers with bytes at the start of the chunk buffer (R126, R576). -/
def placed (data : Bytes) (r : Rcv) : Rcv := { r with buffer := Sparse.putBytes 0 r.buffer 0 (data.take 65536) }

/-- Registers with the bytes that the host wrote to the chunk buffer, over PCIe (R126). -/
def filled (p : RcvPath) (data : Bytes) (r : Rcv) : Rcv := if p = .pcie then placed data r else r

theorem marks_latchArgs (p : RcvPath) (a0 a1 a2 : W32) (r : Rcv) : marks (latchArgs p a0 a1 a2 r) = marks r := by
  cases p <;> rfl

theorem marks_placed (data : Bytes) (r : Rcv) : marks (placed data r) = marks r := rfl

theorem marks_filled (p : RcvPath) (data : Bytes) (r : Rcv) : marks (filled p data r) = marks r := by
  cases p <;> rfl

theorem fillBuffer_eq (p : RcvPath) (data : Bytes) (s : State) :
    fillBuffer p data s = withRcv (filled p data s.rcv) s := by
  cases p <;> rfl

section
variable {q r : Rcv} (h : marks r = marks q)
include h

theorem session_of_marks : r.session = q.session := congrArg (·.1) h
theorem verified_of_marks : r.verified = q.verified := congrArg (·.2.2.2) h

end

/-! ## How a command is taken -/

section
variable {p : RcvPath} {inFault : Bool} {a0 a1 a2 : W32} {s : State} {i : SlotId}

theorem rcvCommand_taken {k : State → State} (presented : rcvPresented s = true)
    (offered : s.rcv.optFault = false ∨ inFault = true) :
    rcvCommand p inFault a0 a1 a2 k s = k (withRcv (latchArgs p a0 a1 a2 s.rcv) s) := by
  have here : ∀ u : State, u.rcv.optFault = s.rcv.optFault →
      (if u.rcv.optFault && !inFault then rcvDone p 5 u else k u) = k u := fun u e => by
    rcases offered with h | h <;> simp [e, h]
  unfold rcvCommand
  rw [presented]
  cases p <;> exact here _ rfl

/-- A command that takes no arguments shows the ones that stand. -/
theorem rcvCommand_plain {k : State → State} (presented : rcvPresented s = true) :
    rcvCommand p true s.rcv.arg0 s.rcv.arg1 s.rcv.arg2 k s = k s := by
  have standing : withRcv (latchArgs p s.rcv.arg0 s.rcv.arg1 s.rcv.arg2 s.rcv) s = s := by cases p <;> rfl
  rw [rcvCommand_taken presented (.inr rfl), standing]

theorem withSession_held {k : State → State} (h : s.rcv.session = some p) : withSession p k s = k s := if_pos h

theorem withSession_other {k : State → State} (h : s.rcv.session ≠ some p) :
    withSession p k s = rcvDone p 6 s := if_neg h

theorem onSlot_named {k : SlotId → State → State} (h : rcvSlot a0 = some i) : onSlot p a0 k s = k i s := by
  simp [onSlot, h]

theorem onSlot_unnamed {k : SlotId → State → State} (h : rcvSlot a0 = none) :
    onSlot p a0 k s = rcvDone p 2 s := by
  simp [onSlot, h]

end

/-- The instruction completes with a code, and of the mailbox changes at most arguments and buffer. -/
def AnswersOnly (p : RcvPath) (code : Nat) (i : Instr) (s : State) : Prop :=
  ∃ r, marks r = marks s.rcv ∧ exec i s = .next (rcvDone p code (withRcv r s))

theorem AnswersOnly.completes {p : RcvPath} {code : Nat} {i : Instr} {s : State} (h : AnswersOnly p code i s) :
    ∃ t, exec i s = .next t ∧ t.rcv.code = BitVec.ofNat 3 code ∧ marks t.rcv = marks s.rcv ∧
    Same [.rcv, .out] s t := by
  obtain ⟨r, kept, answer⟩ := h
  have frame : Same [.rcv, .out] s (rcvDone p code (withRcv r s)) :=
    Same.call (rcvDone_same _ _ _) (by decide) (Same.widen (by decide) (withRcv_same r s))
  refine ⟨_, answer, by rw [rcvDone_rcv], ?_, frame⟩
  rw [rcvDone_rcv]
  exact kept

/-! ## Commands that are refused -/

section
variable {p : RcvPath} {s : State} (presented : rcvPresented s = true)
include presented

section
variable (other : s.rcv.session ≠ some p)
include other

/-- A command that needs the session, from another path. -/
theorem rcvCommand_noSession {inFault : Bool} {a0 a1 a2 : W32} {k : State → State}
    (offered : s.rcv.optFault = false ∨ inFault = true) :
    rcvCommand p inFault a0 a1 a2 (withSession p k) s = rcvDone p 6 (withRcv (latchArgs p a0 a1 a2 s.rcv) s) := by
  rw [rcvCommand_taken presented offered]
  exact withSession_other (by rwa [withRcv_rcv, session_of_marks (marks_latchArgs p a0 a1 a2 s.rcv)])

theorem AnswersOnly.of_noSession {inFault : Bool} {a0 a1 a2 : W32} {k : State → State} {i : Instr}
    (runs : exec i s = .next (rcvCommand p inFault a0 a1 a2 (withSession p k) s))
    (offered : s.rcv.optFault = false ∨ inFault = true) : AnswersOnly p 6 i s :=
  ⟨_, marks_latchArgs _ _ _ _ _, runs.trans (congrArg _ (rcvCommand_noSession presented other offered))⟩

theorem rcvWriteChunk_noSession (offered : s.rcv.optFault = false) (a b c : W32) (d : Bytes) (ok : Bool) :
    AnswersOnly p 6 (.rcvWriteChunk p a b c d ok) s := by
  have kept := (marks_filled p d _).trans (marks_latchArgs p a b c s.rcv)
  refine ⟨_, kept, congrArg Host.Outcome.next ((rcvCommand_taken presented (.inl offered)).trans ?_)⟩
  rw [fillBuffer_eq, withRcv_rcv, withRcv_withRcv]
  exact withSession_other (by rwa [withRcv_rcv, session_of_marks kept])

end

section
variable (held : s.rcv.session = some p) {inFault : Bool} {a0 a1 a2 : W32}
include held

/-- A command that needs the session, from the path that holds it. -/
theorem rcvCommand_inSession {k : State → State} (offered : s.rcv.optFault = false ∨ inFault = true) :
    rcvCommand p inFault a0 a1 a2 (withSession p k) s = k (withRcv (latchArgs p a0 a1 a2 s.rcv) s) := by
  rw [rcvCommand_taken presented offered]
  exact withSession_held (by rwa [withRcv_rcv, session_of_marks (marks_latchArgs p a0 a1 a2 s.rcv)])

variable (offered : s.rcv.optFault = false)
include offered

/-- A command on a slot, from the path that holds the session. -/
theorem rcvCommand_onSlot {k : SlotId → State → State} {i : SlotId} (named : rcvSlot a0 = some i) :
    rcvCommand p inFault a0 a1 a2 (withSession p (onSlot p a0 k)) s =
      k i (withRcv (latchArgs p a0 a1 a2 s.rcv) s) := by
  rw [rcvCommand_inSession presented held (.inl offered), onSlot_named named]

/-- WRITE_CHUNK, from the path that holds the session. -/
theorem rcvCommand_onSlotFilled {k : SlotId → State → State} (d : Bytes) :
    rcvCommand p inFault a0 a1 a2 (fun s => withSession p (onSlot p a0 k) (fillBuffer p d s)) s =
      onSlot p a0 k (withRcv (filled p d (latchArgs p a0 a1 a2 s.rcv)) s) := by
  rw [rcvCommand_taken presented (.inl offered), fillBuffer_eq, withRcv_rcv, withRcv_withRcv]
  exact withSession_held
    (by rwa [withRcv_rcv, session_of_marks ((marks_filled p d _).trans (marks_latchArgs p a0 a1 a2 s.rcv))])

/-- COMMIT, from the path that holds the session, with DATA of a length that R576 allows. -/
theorem execRcvCommit_placed {a : W32} {d : Bytes} {g : DualVerdict} {ok : Bool}
    (sized : ¬(p = .mgt ∧ d.length ≠ 0 ∧ d.length ≠ 3664)) :
    exec (.rcvCommit p a d g ok) s = .next (onSlot p a (Machine.rcvCommit p g ok)
      (withRcv (placed d (latchArgs p a s.rcv.arg1 s.rcv.arg2 s.rcv)) s)) :=
  congrArg Host.Outcome.next ((rcvCommand_inSession presented held (.inl offered)).trans (if_neg sized))

section
variable {a : W32} (unnamed : rcvSlot a = none)
include unnamed

theorem AnswersOnly.of_noSlot {k : SlotId → State → State} {i : Instr}
    (runs : exec i s = .next (rcvCommand p inFault a a1 a2 (withSession p (onSlot p a k)) s)) : AnswersOnly p 2 i s :=
  ⟨_, marks_latchArgs _ _ _ _ _, runs.trans
    (congrArg _ ((rcvCommand_inSession presented held (.inl offered)).trans (onSlot_unnamed unnamed)))⟩

theorem rcvWriteChunk_noSlot (b c : W32) (d : Bytes) (ok : Bool) : AnswersOnly p 2 (.rcvWriteChunk p a b c d ok) s :=
  ⟨_, (marks_filled p d _).trans (marks_latchArgs _ _ _ _ _), congrArg Host.Outcome.next
    ((rcvCommand_onSlotFilled presented held offered d).trans (onSlot_unnamed unnamed))⟩

/-- DATA of a wrong length is refused with the code of a slot that is not A or B (R576). -/
theorem rcvCommit_noSlot (d : Bytes) (g : DualVerdict) (ok : Bool) : AnswersOnly p 2 (.rcvCommit p a d g ok) s := by
  by_cases wrong : p = .mgt ∧ d.length ≠ 0 ∧ d.length ≠ 3664
  · exact ⟨_, marks_latchArgs _ _ _ _ _, congrArg Host.Outcome.next
      ((rcvCommand_inSession presented held (.inl offered)).trans (if_pos wrong))⟩
  · exact ⟨_, (marks_placed d _).trans (marks_latchArgs _ _ _ _ _),
      (execRcvCommit_placed presented held offered wrong).trans (congrArg _ (onSlot_unnamed unnamed))⟩

end

end

end

end Sys2Proof.Machine
end

section
/-! SUPPORT. What each recovery command leaves of the mailbox, the array and the record logs, and the reads of recovery
BAR0 (R126 to R133, R141, R169, R170). -/
namespace Sys2Proof.Machine

/-! ## What each command leaves -/

section
variable (p : RcvPath) (i : SlotId) (s : State)

/-- Registers with the marks of a slot taken back (R129, R130). -/
def unmarked (r : Rcv) : Rcv :=
  { r with erased := r.erased.filter (· ≠ i), verified := r.verified.filter (· ≠ i),
           written := r.written.filter (fun e => decide (e.1 ≠ i)) }

theorem not_mem_unmarked (r : Rcv) : i ∉ (unmarked i r).erased ∧ i ∉ (unmarked i r).verified := by
  simp [unmarked]

/-- The state with a slot marked as erased (R129). -/
def markErased (s : State) : State := withRcv { s.rcv with erased := s.rcv.erased ++ [i] } s

theorem rcvErase_eq (ok : Bool) : rcvErase p ok i s =
    let u := withRcv (unmarked i s.rcv) s
    if slotRetired u i = true then rcvDone p 7 u
    else if ok = true then rcvDone p 0 (markErased i (eraseSectors (slotSectors i) u))
    else rcvDone p 7 (slotEraseFails (slotBase i / sectorBytes) u) := rfl

/-- ERASE_SLOT of a slot that is not retired, no SECTOR ERASE failing. -/
theorem rcvErase_erased (kept : slotRetired s i = false) :
    rcvErase p true i s = rcvDone p 0
      (markErased i (withRcv (unmarked i s.rcv) (eraseSectors (slotSectors i) s))) := by
  rw [rcvErase_eq]
  simp only [slotRetired_withRcv, kept, eraseSectors_withRcv, Bool.false_eq_true, if_false, if_true]

/-- ERASE_SLOT of a retired slot, or with a SECTOR ERASE that fails (R161, R162). -/
theorem rcvErase_fails (ok : Bool) (h : ok = false ∨ slotRetired s i = true) :
    ∃ u, rcvErase p ok i s = rcvDone p 7 u ∧ u.rcv = unmarked i s.rcv := by
  rw [rcvErase_eq]
  by_cases retired : slotRetired (withRcv (unmarked i s.rcv) s) i = true
  · exact ⟨_, if_pos retired, rfl⟩
  · have failed : ok = false := h.resolve_right retired
    have kept (n : Nat) (u : State) : (slotEraseFails n u).rcv = u.rcv := slotEraseFails_same n u .rcv (by decide)
    exact ⟨_, (if_neg retired).trans (if_neg (by simp [failed])), kept _ _⟩

theorem padTo_length (d : Bytes) : padTo d.length d = d := by
  simp [padTo]

/-- Registers with a chunk's units written and the slot no longer verified (R129). -/
def chunkMarked (off n : Nat) (r : Rcv) : Rcv :=
  { r with written := r.written ++ (chunkUnits off n).map (fun u => (i, u)),
           verified := r.verified.filter (· ≠ i) }

/-- WRITE_CHUNK over the path of an aligned chunk into units of an erased slot that take it (R127, R129). -/
theorem rcvWrite_programs {off n : Nat} {d : Bytes} (hoff : off % 64 = 0) (hn : n % 64 = 0) (pos : 0 < n)
    (small : n ≤ 1024) (inside : off + n ≤ slotBytes) (len : d.length = n) (erased : i ∈ s.rcv.erased)
    (fresh : ∀ u ∈ chunkUnits off n, (i, u) ∉ s.rcv.written) :
    rcvWrite .mgt off n d true i s = rcvDone .mgt (if rangeDone s (slotBase i + off) n then 7 else 0)
      (withRcv (chunkMarked i off n s.rcv) (programRange (slotBase i + off) d s)) := by
  have shaped : ¬(off % 64 ≠ 0 ∨ n % 64 ≠ 0 ∨ 1024 < n ∨ slotBytes < off + n ∨
      (RcvPath.mgt = .mgt ∧ d.length ≠ n)) := by omega
  have takes : ¬((!(s.rcv.erased.contains i) ||
      ((chunkUnits off n).any fun u => s.rcv.written.contains (i, u))) = true) := by
    simpa [erased] using fresh
  unfold rcvWrite
  refine (if_neg shaped).trans ((if_neg pos.ne').trans ((if_neg takes).trans ?_))
  change rcvDone .mgt (if rangeDone (withRcv (chunkMarked i off n s.rcv) s) (slotBase i + off) n = true then 7 else 0)
    (programRange (slotBase i + off) (padTo n d) (withRcv (chunkMarked i off n s.rcv) s)) = _
  rw [rangeDone_withRcv, programRange_withRcv, ← len, padTo_length]

/-- Registers with a slot no longer verified. -/
def unverified (r : Rcv) : Rcv := { r with verified := r.verified.filter (· ≠ i) }

theorem rcvVerify_eq (e : ImageEnv) : rcvVerify p e i s =
    if imageOk (withRcv (unverified i s.rcv) s) i e = true then
      rcvDone p 0 (withRcv { s.rcv with verified := (unverified i s.rcv).verified ++ [i] } s)
    else rcvDone p 3 (withRcv (unverified i s.rcv) s) := rfl

/-- VERIFY (R127, R132). -/
theorem rcvVerify_spec (e : ImageEnv) :
    if imageOk s i e = true then (rcvVerify p e i s).rcv.code = 0 ∧ i ∈ (rcvVerify p e i s).rcv.verified
    else (rcvVerify p e i s).rcv.code = 3 ∧ i ∉ (rcvVerify p e i s).rcv.verified := by
  rw [rcvVerify_eq, imageOk_withRcv]
  split
  · simp
  · simp [unverified]

/-- COMMIT of a verified slot without the owner lock, while a record can be stored (R127, R131). -/
theorem rcvCommit_stores (g : DualVerdict) (verified : i ∈ s.rcv.verified) (unlocked : ownerLocked s = false)
    (room : canStore .boot s = true) : rcvCommit p g true i s =
      rcvDone p 0 (storeRecord (.boot ((bootRecBase s).pending i (slotRoot s i))) true s) := by
  simp [rcvCommit, verified, unlocked, room]

end

/-! ## REBOOT -/

theorem wideReset_restarts (kind : BootKind) (s : State) : (wideReset kind s).boot.phase = .optionLoad ∧
    (wideReset kind s).pwr.kind = kind ∧ (wideReset kind s).rcv = Rcv.reset := ⟨rfl, rfl, rfl⟩

/-- The state that an internal Fundamental reset finds once its flush is done (R82, R385). -/
def flushedFor (r : FlushResult) (s : State) : State :=
  let u := endSession (endExports s)
  programStop 2 r.flushMs (dumpedNow u) r.stopOk
    (dumpAll r (channelsFlush (emit (.pins true true) (armPowerFail u))))

/-- CHG_GATE after a Fundamental reset, and the pins that show it (R82). -/
def gateAfter (s : State) : State :=
  let held := !charging s.hold.chg || !s.pwr.armrefOk
  emit (.pins false held) { s with pwr.chgGateHeld := held }

theorem fundamental_internal (r : FlushResult) {s : State} (h : s.pwr.phase = .released) (k : s.pwr.flush = none) :
    fundamental true r s = gateAfter (wideReset .internalFundamental (flushedFor r s)) := by
  have idle : ¬(s.pwr.phase ≠ .released ∨ s.pwr.flush.isSome = true) := by simp [h, k]
  unfold fundamental flushedFor gateAfter
  rw [if_neg idle, if_pos rfl]

/-- An internal Fundamental reset with no flush under way (R37, R82). -/
theorem fundamental_restarts (r : FlushResult) {s : State} (h : s.pwr.phase = .released) (k : s.pwr.flush = none) :
    (fundamental true r s).boot.phase = .optionLoad ∧ (fundamental true r s).pwr.kind = .internalFundamental ∧
    (fundamental true r s).rcv = Rcv.reset := by
  rw [fundamental_internal r h k]
  exact wideReset_restarts .internalFundamental (flushedFor r s)

/-- The mailbox is presented only while the device runs without a flush (R125). -/
theorem rcvPresented_runs {s : State} (h : rcvPresented s = true) :
    s.pwr.phase = .released ∧ s.pwr.flush = none := by
  simp only [rcvPresented, Bool.and_eq_true, decide_eq_true_eq, Option.isNone_iff_eq_none] at h
  obtain ⟨⟨released, -⟩, calm⟩ := h
  exact ⟨released, calm⟩

/-! ## Recovery BAR0 -/

section
variable {s : State} {o a : Nat} {u : Bool}

theorem bankOf_seqError (b : Pf) (s : State) :
    bankOf (seqError b s) b = { bankOf s b with seq := .idle, seqErr := true, held := true } := by
  cases b <;> rfl

theorem underSuspend_paused_seqError (b : Pf) (s : State) (a : Nat) :
    underSuspend (bankOf (seqError b s) b).paused a = underSuspend (bankOf s b).paused a := by
  rw [bankOf_seqError]
  unfold Bank.paused
  dsimp only
  split <;> rfl

/-- The state after a window read broke the command sequence of its bank, if one was under way (R151). -/
def sequenceBroken (a : Nat) (s : State) : State :=
  if (bankOf s (bankOfOffset a)).seq = .idle then s else seqError (bankOfOffset a) s

theorem sequenceBroken_run (a : Nat) (s : State) :
    (bankOf (sequenceBroken a s) (bankOfOffset a)).run = (bankOf s (bankOfOffset a)).run := by
  unfold sequenceBroken
  split
  · rfl
  · rw [bankOf_seqError]

/-- A broken command sequence changes no array data that the window answers (R151, R169). -/
theorem windowAnswer_sequenceBroken (s : State) (a : Nat) (u : Bool) :
    windowAnswer (sequenceBroken a s) a u = windowAnswer s a u := by
  have bytes : norBytes (seqError (bankOfOffset a) s) = norBytes s := by
    cases bankOfOffset a <;> exact norBytes_congr rfl rfl rfl rfl rfl
  unfold sequenceBroken
  split
  · rfl
  · unfold windowAnswer
    rw [underSuspend_paused_seqError, bytes]

theorem windowRead_spare (h : spareSector (sectorOf a) = true) :
    windowRead a u s = emit (.access (.value 0xFFFFFFFF)) s := if_pos h

/-- A read while the bank runs a REMAP waits for it (R170). -/
theorem windowRead_held {n : Nat} (h : spareSector (sectorOf a) = false)
    (run : (bankOf s (bankOfOffset a)).run = some (.remap n)) (idle : (bankOf s (bankOfOffset a)).seq = .idle) :
    windowRead a u s = { s with rcv.windowHeld := s.rcv.windowHeld ++ [(a, u)] } := by
  simp [windowRead, h, idle, run]

/-- A read that no REMAP holds back is served; it breaks a command sequence of its bank (R151, R169, log 140). -/
theorem windowRead_served (h : spareSector (sectorOf a) = false)
    (run : ∀ n, (bankOf s (bankOfOffset a)).run ≠ some (.remap n)) :
    windowRead a u s = emit (.access (windowAnswer s a u)) (sequenceBroken a s) := by
  have kept := sequenceBroken_run a s
  have answer := windowAnswer_sequenceBroken s a u
  unfold windowRead
  rw [if_neg (by rw [h]; decide)]
  unfold sequenceBroken at kept answer ⊢
  dsimp only
  generalize (if (bankOf s (bankOfOffset a)).seq = .idle then s else seqError (bankOfOffset a) s) = t at kept answer ⊢
  split
  · next n remap => exact absurd (kept.symm.trans remap) (run n)
  · rw [answer]

theorem execRecoveryWindowRead_window (inside : o < dieBytes) (presented : rcvPresented s = true) :
    exec (.recoveryWindowRead o u) s = .next (windowRead (o / 4 * 4) u s) := by
  have bar : ¬rcvBarBytes ≤ o := by
    unfold dieBytes at inside
    unfold rcvBarBytes
    omega
  refine (if_neg bar).trans (congrArg Host.Outcome.next ?_)
  simp [presented, inside]

theorem execRecoveryWindowRead_mailbox (above : dieBytes ≤ o) (inside : o < rcvBarBytes)
    (presented : rcvPresented s = true) :
    exec (.recoveryWindowRead o u) s = .next (mailboxRead (o / 4 * 4) s) := by
  refine (if_neg (Nat.not_le.mpr inside)).trans (congrArg Host.Outcome.next ?_)
  simp [presented, Nat.not_lt.mpr above]

/-- The registers of R141, each at its offset; TZ_RCV_CMD and the chunk buffer read 0. -/
theorem mailboxRead_registers (s : State) :
    mailboxRead 0x10000000 s = emit (.access (.value 0)) s ∧
    mailboxRead 0x10000004 s = emit (.access (.value s.rcv.arg0)) s ∧
    mailboxRead 0x10000008 s = emit (.access (.value s.rcv.arg1)) s ∧
    mailboxRead 0x1000000C s = emit (.access (.value s.rcv.arg2)) s ∧
    mailboxRead 0x10000010 s = emit (.access (.value (rcvWord s))) s ∧
    mailboxRead 0x10010000 s = emit (.access (.value 0)) s := by
  simp [mailboxRead]

end

end Sys2Proof.Machine

open Sys2Proof Sys2Proof.Machine

/-- Settles O8: a command is taken or refused before its meaning runs, and each meaning leaves what its lemma says. -/
theorem recoveryCommandsComplete : Obligations.RecoveryCommandsComplete := by
  unfold Obligations.RecoveryCommandsComplete
  refine ⟨?status, ?openFree, ?openOther, ?close, ?erase, ?eraseFails, ?write, ?verify, ?commit, ?noSession, ?noSlot,
    ?slots, ?reboot, ?window, ?windowHeld, ?spare, ?registers, ?beyond⟩
  case status =>
    intro s p presented
    exact ⟨_, congrArg Host.Outcome.next (rcvCommand_plain presented), by simp⟩
  case openFree =>
    intro s p presented free
    exact ⟨_, congrArg Host.Outcome.next ((rcvCommand_plain presented).trans (if_pos free)), by simp [newSession]⟩
  case openOther =>
    intro s p q presented holder other
    have taken : ¬s.rcv.session = none := by simp [holder]
    have notMine : ¬s.rcv.session = some p := by simp [holder, other]
    refine ⟨_, congrArg Host.Outcome.next ((rcvCommand_plain presented).trans
      ((if_neg taken).trans (if_neg notMine))), ?_⟩
    simp [holder]
  case close =>
    intro s p presented held
    exact ⟨_, congrArg Host.Outcome.next ((rcvCommand_plain presented).trans (if_pos (.inr held))),
      by simp [newSession]⟩
  case erase =>
    intro s p a i presented offered held named kept
    refine ⟨_, congrArg Host.Outcome.next ((rcvCommand_onSlot presented held offered named).trans
      (rcvErase_erased p i _ kept)), ?_⟩
    simp [markErased, unmarked, eraseSectors_withRcv]
  case eraseFails =>
    intro s p a i ok presented offered held named bad
    obtain ⟨u, failed, left⟩ := rcvErase_fails p i (withRcv (latchArgs p a s.rcv.arg1 s.rcv.arg2 s.rcv) s) ok bad
    refine ⟨_, congrArg Host.Outcome.next ((rcvCommand_onSlot presented held offered named).trans failed), ?_⟩
    rw [rcvDone_rcv, left]
    exact ⟨rfl, not_mem_unmarked i _⟩
  case write =>
    intro s a0 a1 a2 i d presented offered held named aligned whole pos small inside len erased fresh
    refine ⟨_, congrArg Host.Outcome.next ((rcvCommand_onSlotFilled presented held offered d).trans
      ((onSlot_named named).trans (rcvWrite_programs i _ aligned whole pos small inside len erased fresh))), ?_⟩
    rw [rcvDone_rcv, rcvDone_nor, withRcv_rcv, withRcv_nor, rangeDone_withRcv, programRange_withRcv]
    refine ⟨?_, rfl, by simp [chunkMarked], rfl⟩
    split <;> rfl
  case verify =>
    intro s p a e i presented offered held named
    refine ⟨_, congrArg Host.Outcome.next (rcvCommand_onSlot presented held offered named), ?_⟩
    simpa using rcvVerify_spec p i (withRcv (latchArgs p a s.rcv.arg1 s.rcv.arg2 s.rcv) s) e
  case commit =>
    intro s p a g i presented offered held named verified unlocked room
    have sized : ¬(p = .mgt ∧ ([] : Bytes).length ≠ 0 ∧ ([] : Bytes).length ≠ 3664) := by simp
    have answered := (execRcvCommit_placed (a := a) (g := g) (ok := true) presented held offered sized).trans
      (congrArg Host.Outcome.next (onSlot_named named))
    have kept := verified_of_marks ((marks_placed [] _).trans (marks_latchArgs p a s.rcv.arg1 s.rcv.arg2 s.rcv))
    refine ⟨_, answered.trans (congrArg Host.Outcome.next
      (rcvCommit_stores p i _ g (by rw [withRcv_rcv, kept]; exact verified) unlocked room)), ?_⟩
    simp [storeRecord_stored, storeCopy_withRcv]
  case noSession =>
    intro s p a b c d e g r ok presented other i listed offered
    have refused : AnswersOnly p 6 i s := by
      simp only [List.mem_cons, List.not_mem_nil, or_false] at listed
      rcases listed with rfl | rfl | rfl | rfl | rfl
      · exact .of_noSession presented other rfl (.inl (offered.resolve_right nofun))
      · exact rcvWriteChunk_noSession presented other (offered.resolve_right nofun) a b c d ok
      · exact .of_noSession presented other rfl (.inl (offered.resolve_right nofun))
      · exact .of_noSession presented other rfl (.inl (offered.resolve_right nofun))
      · exact .of_noSession presented other rfl (.inr rfl)
    exact refused.completes
  case noSlot =>
    intro s p a b c d e g ok presented offered held unnamed i listed
    have refused : AnswersOnly p 2 i s := by
      simp only [List.mem_cons, List.not_mem_nil, or_false] at listed
      rcases listed with rfl | rfl | rfl | rfl
      · exact .of_noSlot presented held offered unnamed rfl
      · exact rcvWriteChunk_noSlot presented held offered unnamed b c d ok
      · exact .of_noSlot presented held offered unnamed rfl
      · exact rcvCommit_noSlot presented held offered unnamed d g ok
    obtain ⟨t, answered, code, kept, frame⟩ := refused.completes
    exact ⟨t, answered, code, congrArg Prod.snd kept, frame⟩
  case slots => exact fun a => rfl
  case reboot =>
    intro s p r presented held
    obtain ⟨phase, flush⟩ := rcvPresented_runs presented
    refine ⟨_, congrArg Host.Outcome.next ((rcvCommand_plain presented).trans (withSession_held held)),
      fundamental_restarts r ?_ ?_⟩
    · rwa [rcvDone_pwr]
    · rwa [rcvDone_pwr]
  case window =>
    intro s o u inside presented array run
    rw [execRecoveryWindowRead_window inside presented, windowRead_served array run]
    rfl
  case windowHeld =>
    intro s o u n inside presented array run idle
    rw [execRecoveryWindowRead_window inside presented, windowRead_held array run idle]
  case spare =>
    intro s o u inside presented spare
    rw [execRecoveryWindowRead_window inside presented, windowRead_spare spare]
  case registers =>
    intro s u presented x listed
    obtain ⟨cmd, arg0, arg1, arg2, status, buffer⟩ := mailboxRead_registers s
    have read : ∀ o v, dieBytes ≤ o → o < rcvBarBytes → o / 4 * 4 = o →
        mailboxRead o s = emit (.access (.value v)) s →
        exec (.recoveryWindowRead o u) s = .next (emit (.access (.value v)) s) := fun o v above inside aligned value => by
      rw [execRecoveryWindowRead_mailbox above inside presented, aligned, value]
    simp only [List.mem_cons, List.not_mem_nil, or_false] at listed
    rcases listed with rfl | rfl | rfl | rfl | rfl | rfl
    · exact read 0x10000000 _ (by decide) (by decide) rfl cmd
    · exact read 0x10000004 _ (by decide) (by decide) rfl arg0
    · exact read 0x10000008 _ (by decide) (by decide) rfl arg1
    · exact read 0x1000000C _ (by decide) (by decide) rfl arg2
    · exact read 0x10000010 _ (by decide) (by decide) rfl status
    · exact read 0x10010000 _ (by decide) (by decide) rfl buffer
  case beyond => exact fun s o u beyond => if_pos beyond
end

section
/-! SUPPORT. How a bank of the Image Array takes the cycles of a command (R145, R148, R149, R151). -/
namespace Sys2Proof.Machine

/-! ## One bank replaced -/

section
variable (b : Pf) (s : State)

@[simp] theorem setBank_mem (x : Bank) : (setBank b x s).nor.mem = s.nor.mem := by cases b <;> rfl
@[simp] theorem setBank_programmed (x : Bank) : (setBank b x s).nor.programmed = s.nor.programmed := by cases b <;> rfl
@[simp] theorem setBank_unlocked (x : Bank) : (setBank b x s).nor.unlocked = s.nor.unlocked := by cases b <;> rfl
@[simp] theorem setBank_writeGen (x : Bank) : (setBank b x s).nor.writeGen = s.nor.writeGen := by cases b <;> rfl
@[simp] theorem setBank_setBank (x y : Bank) : setBank b y (setBank b x s) = setBank b y s := by cases b <;> rfl

@[simp] theorem bankOf_modBank (g : Bank → Bank) : bankOf (modBank b g s) b = g (bankOf s b) := bankOf_setBank _ _ _
@[simp] theorem modBank_mem (g : Bank → Bank) : (modBank b g s).nor.mem = s.nor.mem := setBank_mem _ _ _
@[simp] theorem modBank_programmed (g : Bank → Bank) : (modBank b g s).nor.programmed = s.nor.programmed :=
  setBank_programmed _ _ _
@[simp] theorem modBank_unlocked (g : Bank → Bank) : (modBank b g s).nor.unlocked = s.nor.unlocked :=
  setBank_unlocked _ _ _
@[simp] theorem modBank_writeGen (g : Bank → Bank) : (modBank b g s).nor.writeGen = s.nor.writeGen :=
  setBank_writeGen _ _ _

theorem bankOf_bumpGen (n : Nat) : bankOf (bumpGen n s) = bankOf s := by
  funext c
  cases c <;> rfl

end

/-! ## Which bank an offset lies in (R142) -/

theorem bankOfOffset_base (b : Pf) {k : Nat} (h : k < 0x08000000) : bankOfOffset (bankBase b + k) = b := by
  cases b <;> simp [bankOfOffset, bankBase, h]

/-- A page does not cross the border of the banks. -/
theorem bankOfOffset_page {page a : Nat} (aligned : page % 512 = 0) (above : page ≤ a) (below : a < page + 512) :
    bankOfOffset a = bankOfOffset page := by
  have same : a < 0x08000000 ↔ page < 0x08000000 := by omega
  simp only [bankOfOffset, same]

/-! ## A bank within a command sequence -/

/-- The state with a bank at another cycle of its command sequence. -/
def atSeq (b : Pf) (q : SeqState) (s : State) : State := modBank b (fun x => { x with seq := q }) s

section
variable (b : Pf) (p q : SeqState) (s : State)

@[simp] theorem bankOf_atSeq : bankOf (atSeq b q s) b = { bankOf s b with seq := q } := bankOf_modBank _ _ _

theorem atSeq_unlocked : (atSeq b q s).nor.unlocked = s.nor.unlocked := modBank_unlocked _ _ _
theorem atSeq_mem : (atSeq b q s).nor.mem = s.nor.mem := modBank_mem _ _ _

/-- A change of a bank that does not look at where its sequence stands, and sets it. -/
theorem modBank_atSeq {g : Bank → Bank} (h : ∀ x : Bank, g { x with seq := q } = g x) :
    modBank b g (atSeq b q s) = modBank b g s := by
  rw [modBank, bankOf_atSeq, h, atSeq, modBank, setBank_setBank, modBank]

/-- A bank that goes on to another cycle of its sequence. -/
@[simp] theorem goto_atSeq : modBank b (fun x => { x with seq := q }) (atSeq b p s) = atSeq b q s :=
  modBank_atSeq b p s fun _ => rfl

@[simp] theorem seqError_atSeq : seqError b (atSeq b q s) = seqError b s := modBank_atSeq b q s fun _ => rfl

@[simp] theorem acceptOp_atSeq (op : NorOp) : acceptOp b op (atSeq b q s) = acceptOp b op s :=
  congrArg (bumpGen 1) (modBank_atSeq b q s fun _ => rfl)

@[simp] theorem sectorLocked_atSeq : sectorLocked (atSeq b q s) = sectorLocked s := by
  funext n
  simp [sectorLocked, atSeq_unlocked]

end

/-! ## The cycles that a command sends -/

/-- All of a list of cycles arrive. -/
def sendAll (l : List (Nat × W32)) (s : State) : State := l.foldl (fun s c => norWrite false c.1 c.2 s) s

theorem sendAll_nil (s : State) : sendAll [] s = s := rfl

theorem sendAll_cons (c : Nat × W32) (l : List (Nat × W32)) (s : State) :
    sendAll (c :: l) s = sendAll l (norWrite false c.1 c.2 s) := rfl

theorem sendAll_append (l m : List (Nat × W32)) (s : State) : sendAll (l ++ m) s = sendAll m (sendAll l s) :=
  List.foldl_append

theorem norCycles_all {l : List (Nat × W32)} {sent : Nat} {s : State} (reach : norReachable s = true)
    (enough : l.length ≤ sent) : norCycles l sent s = sendAll l s := by
  rw [norCycles, if_pos reach, List.take_of_length_le enough]
  rfl

section
variable {b : Pf} {s : State} {early : Bool}

section
variable (idle : (bankOf s b).seq = .idle)
include idle

/-- The command of one cycle at BASE, taken in an idle bank (R148). -/
theorem norWrite_base_idle : norWrite early (bankBase b) 0xB0 s = suspendCmd b early s ∧
    norWrite early (bankBase b) 0xD2 s = resumeCmd b s ∧ norWrite early (bankBase b) 0x50 s = clearStatus b s ∧
    norWrite early (bankBase b) 0xF0 s = readArray b s := by
  have home : bankOfOffset (bankBase b) = b := bankOfOffset_base b (k := 0) (by decide)
  simp [norWrite, home, idle]

/-- The first two cycles of every longer command (R148). -/
theorem sendAll_unlockCycles (c : W32) : sendAll (unlockCycles b c) s =
    norWrite false (bankBase b + 0xAAA8) c (atSeq b .cycle2 s) := by
  have outer : bankOfOffset (bankBase b + 0xAAA8) = b := bankOfOffset_base b (by decide)
  have inner : bankOfOffset (bankBase b + 0x5554) = b := bankOfOffset_base b (by decide)
  have first : norWrite false (bankBase b + 0xAAA8) 0x5C s = atSeq b .cycle1 s := by
    simp [norWrite, outer, idle, atSeq]
  have second : norWrite false (bankBase b + 0x5554) 0xA3 (atSeq b .cycle1 s) = atSeq b .cycle2 s := by
    simp [norWrite, inner]
  rw [unlockCycles, sendAll_cons, first, sendAll_cons, second, sendAll_cons, sendAll_nil]

/-- The third cycle names the command (R148). -/
theorem sendAll_unlockCycles_names {c : W32} {k : NorCmd} (named : norCmdOf (c.setWidth 8) = some k)
    (other : k ≠ .info) : sendAll (unlockCycles b c) s = atSeq b (.cycle3 k) s := by
  have home : bankOfOffset (bankBase b + 0xAAA8) = b := bankOfOffset_base b (by decide)
  rw [sendAll_unlockCycles idle]
  cases k <;> simp [norWrite, home, named] at other ⊢

/-- INFO is complete with its third cycle (R148, R152, R158). -/
theorem sendAll_unlockCycles_info : sendAll (unlockCycles b 0x98) s =
    if (bankOf s b).suspended then seqError b s else modBank b (fun x => { x with seq := .idle, info := true }) s := by
  have home : bankOfOffset (bankBase b + 0xAAA8) = b := bankOfOffset_base b (by decide)
  have shown := modBank_atSeq b .cycle2 s (g := fun x => { x with seq := .idle, info := true }) fun _ => rfl
  rw [sendAll_unlockCycles idle]
  simp [norWrite, home, norCmdOf, Bank.suspended, shown]

end

/-! ## Commands of a sector -/

/-- The final cycle of a command of a sector (R148). -/
theorem norWrite_confirm {n : Nat} (home : bankOfOffset (n * sectorBytes) = b) :
    norWrite early (n * sectorBytes) 0xD0 (atSeq b (.cycle3 .erase) s) =
      startErase b n false (atSeq b (.cycle3 .erase) s) ∧
    norWrite early (n * sectorBytes) 0xD0 (atSeq b (.cycle3 .remap) s) =
      startErase b n true (atSeq b (.cycle3 .remap) s) ∧
    norWrite early (n * sectorBytes) 0xD0 (atSeq b (.cycle3 .lockClear) s) =
      changeLock b n false (atSeq b (.cycle3 .lockClear) s) ∧
    norWrite early (n * sectorBytes) 0xD0 (atSeq b (.cycle3 .lockSet) s) =
      changeLock b n true (atSeq b (.cycle3 .lockSet) s) := by
  have start : n * sectorBytes % sectorBytes = 0 := Nat.mul_mod_left _ _
  have number : sectorOf (n * sectorBytes) = n := Nat.mul_div_cancel _ (by decide)
  simp [norWrite, home, start, number]

/-- A sector's command up to its final cycle. -/
theorem norCycles_sectorCycles {n sent : Nat} {c : W32} {k : NorCmd} (reach : norReachable s = true)
    (enough : 4 ≤ sent) (idle : (bankOf s (bankOfOffset (n * sectorBytes))).seq = .idle)
    (named : norCmdOf (c.setWidth 8) = some k) (other : k ≠ .info) : norCycles (sectorCycles n c) sent s =
      norWrite false (n * sectorBytes) 0xD0 (atSeq (bankOfOffset (n * sectorBytes)) (.cycle3 k) s) := by
  rw [norCycles_all reach enough, sectorCycles, sendAll_append, sendAll_unlockCycles_names idle named other,
    sendAll_cons, sendAll_nil]

section
variable {n sent : Nat} (reach : norReachable s = true) (idle : (bankOf s (bankOfOffset (n * sectorBytes))).seq = .idle)
  (enough : 4 ≤ sent)
include reach idle enough

theorem execIaSectorErase_complete : exec (.iaSectorErase n sent) s = .next
    (startErase (bankOfOffset (n * sectorBytes)) n false
      (atSeq (bankOfOffset (n * sectorBytes)) (.cycle3 .erase) s)) := by
  obtain ⟨erase, -⟩ := norWrite_confirm (s := s) (early := false) (n := n) rfl
  exact congrArg Host.Outcome.next ((norCycles_sectorCycles reach enough idle rfl (by decide)).trans erase)

theorem execIaRemap_complete : exec (.iaRemap n sent) s = .next
    (startErase (bankOfOffset (n * sectorBytes)) n true
      (atSeq (bankOfOffset (n * sectorBytes)) (.cycle3 .remap) s)) := by
  obtain ⟨-, remap, -⟩ := norWrite_confirm (s := s) (early := false) (n := n) rfl
  exact congrArg Host.Outcome.next ((norCycles_sectorCycles reach enough idle rfl (by decide)).trans remap)

theorem execIaLockClear_complete : exec (.iaLockClear n sent) s = .next
    (changeLock (bankOfOffset (n * sectorBytes)) n false
      (atSeq (bankOfOffset (n * sectorBytes)) (.cycle3 .lockClear) s)) := by
  obtain ⟨-, -, clear, -⟩ := norWrite_confirm (s := s) (early := false) (n := n) rfl
  exact congrArg Host.Outcome.next ((norCycles_sectorCycles reach enough idle rfl (by decide)).trans clear)

theorem execIaLockSet_complete : exec (.iaLockSet n sent) s = .next
    (changeLock (bankOfOffset (n * sectorBytes)) n true
      (atSeq (bankOfOffset (n * sectorBytes)) (.cycle3 .lockSet) s)) := by
  obtain ⟨-, -, -, set⟩ := norWrite_confirm (s := s) (early := false) (n := n) rfl
  exact congrArg Host.Outcome.next ((norCycles_sectorCycles reach enough idle rfl (by decide)).trans set)

end

theorem execIaInfo_complete {sent : Nat} (reach : norReachable s = true) (idle : (bankOf s b).seq = .idle)
    (enough : 3 ≤ sent) : exec (.iaInfo b sent) s = .next (if (bankOf s b).suspended then seqError b s
      else modBank b (fun x => { x with seq := .idle, info := true }) s) :=
  congrArg Host.Outcome.next ((norCycles_all reach enough).trans (sendAll_unlockCycles_info idle))

end

end Sys2Proof.Machine
end

section
/-! SUPPORT. What the final cycle of a command of the Image Array does (R145, R158, R164 to R167), and the cycles of
PROGRAM (R148, R149). -/
namespace Sys2Proof.Machine

/-! ## Operations that start, and refusals -/

/-- A command on a locked sector: LOCKED_ERR, and the bank then answers reads with its status (R167). -/
def lockRefused (b : Pf) (s : State) : State :=
  modBank b (fun x => { x with seq := .idle, lockedErr := true, held := true }) s

theorem mem_insertNew (n : Nat) (l : List Nat) : n ∈ insertNew n l := by
  by_cases known : n ∈ l <;> simp [insertNew, known]

section
variable {b : Pf} {s : State} {q : SeqState}

@[simp] theorem lockRefused_atSeq : lockRefused b (atSeq b q s) = lockRefused b s := modBank_atSeq b q s fun _ => rfl

@[simp] theorem bankBusy_seq (x : Bank) : bankBusy { x with seq := q } = bankBusy x := rfl

theorem sectorLocked_of {n : Nat} (h : permLocked n = true ∨ n ∉ s.nor.unlocked) : sectorLocked s n = true := by
  simpa [sectorLocked] using h

theorem lockRefused_spec (idle : (bankOf s b).seq = .idle) :
    bankOf (lockRefused b s) b = { bankOf s b with lockedErr := true, held := true } ∧
    (lockRefused b s).nor.mem = s.nor.mem ∧ (lockRefused b s).nor.writeGen = s.nor.writeGen := by
  simp [lockRefused, idle]

/-- An accepted operation runs, WRITE_GEN has advanced once, and the array is as it was (R164). -/
theorem acceptOp_spec (b : Pf) (op : NorOp) (s : State) : (bankOf (acceptOp b op s) b).run = some op ∧
    (bankOf (acceptOp b op s) b).seq = .idle ∧ (acceptOp b op s).nor.writeGen = s.nor.writeGen + 1 ∧
    (acceptOp b op s).nor.mem = s.nor.mem ∧ (acceptOp b op s).nor.programmed = s.nor.programmed := by
  simp [acceptOp, bankOf_bumpGen]

section
variable {n : Nat} (free : bankBusy (bankOf s b) = false) (array : spareSector n = false)
include free array

section
variable (noErase : (bankOf s b).suspErase = none)
include noErase

theorem startErase_locked (remap : Bool) (locked : sectorLocked s n = true) :
    startErase b n remap (atSeq b q s) = lockRefused b s :=
  (if_neg (by rw [bankOf_atSeq, bankBusy_seq]; simp [free, array, noErase])).trans
    ((if_pos (by simp [locked])).trans lockRefused_atSeq)

/-- SECTOR ERASE, and REMAP while the bank has a spare (R145, R162). -/
theorem startErase_accepted {remap : Bool} (unlocked : sectorLocked s n = false)
    (spare : remap = true → (bankOf s b).spare ≠ 0) :
    startErase b n remap (atSeq b q s) = acceptOp b (if remap then .remap n else .erase n) s :=
  (if_neg (by rw [bankOf_atSeq, bankBusy_seq]; simp [free, array, noErase])).trans
    ((if_neg (by simp [unlocked])).trans ((if_neg (by simpa using spare)).trans (acceptOp_atSeq b q s _)))

end

/-- LOCK CLEAR and LOCK SET change one volatile bit (R166). -/
theorem changeLock_spec (set : Bool) :
    (changeLock b n set (atSeq b q s)).nor.unlocked =
      (if set then s.nor.unlocked.erase n else insertNew n s.nor.unlocked) ∧
    (changeLock b n set (atSeq b q s)).nor.mem = s.nor.mem := by
  have unlocked := atSeq_unlocked b q s
  rw [changeLock, if_neg (by simp [free, array]), modBank_unlocked, modBank_mem]
  exact ⟨by cases set <;> simp [unlocked], atSeq_mem b q s⟩

end

section
variable {first : Nat} {bytes : Bytes} (free : bankBusy (bankOf s b) = false)
  (array : spareSector (sectorOf first) = false) (other : (bankOf s b).suspErase ≠ some (sectorOf first))
include free array other

theorem startProgram_locked (locked : sectorLocked s (sectorOf first) = true) :
    startProgram b first bytes (atSeq b q s) = lockRefused b s :=
  (if_neg (by simp [free, array, other])).trans ((if_pos (by simp [locked])).trans lockRefused_atSeq)

theorem startProgram_accepted (unlocked : sectorLocked s (sectorOf first) = false) :
    ∃ r, startProgram b first bytes (atSeq b q s) = acceptOp b (.program first bytes r) s :=
  ⟨_, (if_neg (by simp [free, array, other])).trans
    ((if_neg (by simp [unlocked])).trans (acceptOp_atSeq b q s _))⟩

end

end

/-! ## PROGRAM (R148, R149) -/

/-- The bytes of the data words of a PROGRAM. -/
def wordBytes (words : List W32) : Bytes := words.flatMap fun w => leBytes 4 w.toNat

section
variable {b : Pf} {s : State} {page first : Nat}

/-- LEN, the cycle after the third. -/
theorem norWrite_len {len : W32} (aligned : page % 512 = 0) (fits : lenOk len.toNat = true) :
    norWrite false page len (atSeq (bankOfOffset page) (.cycle3 .program) s) =
      atSeq (bankOfOffset page) (.lenAt page len.toNat) s := by
  simp [norWrite, aligned, fits]

/-- The first data word says where the bytes go. -/
theorem norWrite_firstWord {len : Nat} (w : W32) (home : bankOfOffset first = b) (aligned : first % 32 = 0)
    (above : page ≤ first) (below : first + len ≤ page + 512) :
    norWrite false first w (atSeq b (.lenAt page len) s) =
      atSeq b (.data page first (first + 4) (len - 4) (leBytes 4 w.toNat)) s := by
  simp [norWrite, home, aligned, above, below]

/-- A data word at the address after the one before it. -/
theorem norWrite_nextWord {next left : Nat} {bytes : Bytes} (w : W32) (home : bankOfOffset next = b) :
    norWrite false next w (atSeq b (.data page first next left bytes) s) =
      atSeq b (if left ≤ 4 then .confirm page first (bytes ++ leBytes 4 w.toNat)
        else .data page first (next + 4) (left - 4) (bytes ++ leBytes 4 w.toNat)) s := by
  by_cases last : left ≤ 4 <;> simp [norWrite, home, last]

/-- The data words after the first, as many as LEN asks for. -/
theorem sendAll_dataCycles (words : List W32) : ∀ {next : Nat} {bytes : Bytes}, words ≠ [] →
    (∀ i < 4 * words.length, bankOfOffset (next + i) = b) →
    sendAll (dataCycles next words) (atSeq b (.data page first next (4 * words.length) bytes) s) =
      atSeq b (.confirm page first (bytes ++ wordBytes words)) s := by
  induction words with
  | nil => exact fun some => absurd rfl some
  | cons w rest ih =>
    intro next bytes _ home
    have here : bankOfOffset next = b := home 0 (by simp)
    rw [dataCycles, sendAll_cons, norWrite_nextWord w here]
    rcases rest with _ | ⟨v, more⟩
    · simp [dataCycles, sendAll_nil, wordBytes]
    · have missing : 4 * (w :: v :: more).length - 4 = 4 * (v :: more).length := by simp only [List.length_cons]; omega
      rw [if_neg (by simp only [List.length_cons]; omega), missing, ih (by simp) fun i below => ?_]
      · simp [wordBytes]
      · rw [Nat.add_assoc]
        exact home _ (by simp only [List.length_cons] at below ⊢; omega)

/-- The final cycle of PROGRAM. -/
theorem norWrite_programConfirm {bytes : Bytes} :
    norWrite false page 0x29 (atSeq (bankOfOffset page) (.confirm page first bytes) s) =
      startProgram (bankOfOffset page) first bytes (atSeq (bankOfOffset page) (.confirm page first bytes) s) := by
  simp [norWrite]

end

/-- The operands of a PROGRAM that R148 and R149 accept: a whole number of units within one page, and a word for each
four bytes of them. -/
structure ProgramFits (page : Nat) (len : W32) (first : Nat) (words : List W32) : Prop where
  page_aligned : page % 512 = 0
  len_ok : lenOk len.toNat = true
  first_aligned : first % 32 = 0
  above : page ≤ first
  below : first + len.toNat ≤ page + 512
  filled : 4 * words.length = len.toNat

theorem dataCycles_length : ∀ (a : Nat) (words : List W32), (dataCycles a words).length = words.length
  | _, [] => rfl
  | a, _ :: rest => congrArg (· + 1) (dataCycles_length (a + 4) rest)

/-- A complete PROGRAM sequence reaches its final cycle with the bytes of all its data words. -/
theorem execIaProgram_complete {s : State} {page first sent : Nat} {len : W32} {words : List W32}
    (reach : norReachable (ledgerFirst (bankOfOffset page) s) = true)
    (idle : (bankOf (ledgerFirst (bankOfOffset page) s) (bankOfOffset page)).seq = .idle)
    (fits : ProgramFits page len first words) (enough : words.length + 5 ≤ sent) :
    exec (.iaProgram page len first words sent) s = .next (startProgram (bankOfOffset page) first (wordBytes words)
      (atSeq (bankOfOffset page) (.confirm page first (wordBytes words)) (ledgerFirst (bankOfOffset page) s))) := by
  obtain ⟨aligned, hlen, unit, above, below, filled⟩ := fits
  refine congrArg Host.Outcome.next ?_
  generalize ledgerFirst (bankOfOffset page) s = u at reach idle ⊢
  have home : ∀ a, page ≤ a → a < page + 512 → bankOfOffset a = bankOfOffset page :=
    fun _ => bankOfOffset_page aligned
  have long : 32 ≤ len.toNat := by
    simp only [lenOk, decide_eq_true_eq] at hlen
    exact hlen.1
  have data : sendAll (dataCycles first words) (atSeq (bankOfOffset page) (.lenAt page len.toNat) u) =
      atSeq (bankOfOffset page) (.confirm page first (wordBytes words)) u := by
    rcases words with _ | ⟨w, _ | ⟨v, rest⟩⟩
    · simp only [List.length_nil] at filled; omega
    · simp only [List.length_cons, List.length_nil] at filled; omega
    · have left : len.toNat - 4 = 4 * (v :: rest).length := by simp only [List.length_cons] at filled ⊢; omega
      rw [dataCycles, sendAll_cons, norWrite_firstWord w (home first above (by omega)) unit above below, left,
        sendAll_dataCycles (v :: rest) (by simp) fun i small => home _ (by omega) (by omega)]
      simp [wordBytes]
  have named : norCmdOf ((0x10 : W32).setWidth 8) = some .program := by decide
  rw [norCycles_all reach (by simp [unlockCycles, dataCycles_length]; omega)]
  simp only [sendAll_append, sendAll_cons, sendAll_nil]
  rw [sendAll_unlockCycles_names idle named (by decide), norWrite_len aligned hlen, data, norWrite_programConfirm]

end Sys2Proof.Machine
end

section
/-! SUPPORT. Reads of a bank of the Image Array, SUSPEND, and the commands of one cycle (R147, R151 to R153, R156 to
R159). -/
namespace Sys2Proof.Machine

/-! ## Reads -/

/-- What a read at `a` answers from a bank that is in no command sequence. -/
def bankAnswer (s : State) (a : Nat) (uncorrectable : Bool) : Answer :=
  let x := bankOf s (bankOfOffset a)
  if statusReads x then .value (BitVec.ofNat 32 (leVal (List.replicate 4 (statusByte x))))
  else if x.info then .value (infoWord s x (a - bankBase (bankOfOffset a)))
  else if underSuspend x a || uncorrectable then .poisoned
  else .value (BitVec.ofNat 32 (leVal (norBytes s a 4)))

section
variable {s : State} {o a : Nat} {u : Bool}

theorem execIaBankRead_idle (on : powered s = true) (inside : o < dieBytes)
    (idle : (bankOf s (bankOfOffset (o / 4 * 4))).seq = .idle) :
    exec (.iaBankRead o u) s = .next (emit (.access (bankAnswer s (o / 4 * 4) u)) s) := by
  have live : ¬(!powered s) = true := by simp [on]
  refine (if_neg (Nat.not_le.mpr inside)).trans ((if_neg live).trans (congrArg Host.Outcome.next ?_))
  rw [if_pos idle, bankAnswer]
  split_ifs <;> rfl

theorem bankAnswer_status (status : statusReads (bankOf s (bankOfOffset a)) = true) : bankAnswer s a u =
    .value (BitVec.ofNat 32 (leVal (List.replicate 4 (statusByte (bankOf s (bankOfOffset a)))))) :=
  if_pos status

section
variable (quiet : statusReads (bankOf s (bankOfOffset a)) = false) (array : (bankOf s (bankOfOffset a)).info = false)
include quiet array

theorem bankAnswer_poisoned (under : underSuspend (bankOf s (bankOfOffset a)) a = true) :
    bankAnswer s a u = .poisoned := by
  simp [bankAnswer, quiet, array, under]

theorem bankAnswer_array (under : underSuspend (bankOf s (bankOfOffset a)) a = false) :
    bankAnswer s a false = .value (BitVec.ofNat 32 (leVal (norBytes s a 4))) := by
  simp [bankAnswer, quiet, array, under]

end

/-- A word of four bytes lies in one sector and in one page. -/
theorem underSuspend_of_word {x : Bank} (h : x.suspErase = some (o / 0x40000) ∨
    ∃ f d r, x.suspProg = some (.program f d r) ∧ f / 512 = o / 512) : underSuspend x (o / 4 * 4) = true := by
  have sector : sectorOf (o / 4 * 4) = o / 0x40000 := by
    unfold sectorOf sectorBytes
    omega
  have page : o / 4 * 4 / 512 = o / 512 := by omega
  rcases h with erase | ⟨f, d, r, prog, same⟩
  · simp [underSuspend, erase, sector]
  · simp [underSuspend, prog, same, page]

end

/-! ## SUSPEND -/

section
variable {b : Pf} {s : State}

theorem bankOf_suspendNow_erase {n : Nat} (run : (bankOf s b).run = some (.erase n)) :
    bankOf (suspendNow b s) b = { bankOf s b with run := none, suspErase := some n, suspPend := false } := by
  simp [suspendNow, run]

theorem bankOf_suspendNow_program {f : Nat} {d : Bytes} {r : List Nat}
    (run : (bankOf s b).run = some (.program f d r)) : bankOf (suspendNow b s) b =
      { bankOf s b with run := none, suspProg := some (.program f d r), suspPend := false } := by
  simp [suspendNow, run]

section
variable (clear : (bankOf s b).suspended = false) (early : Bool)
include clear

/-- SUSPEND of a running erase or program waits for the minimum run time (R156). -/
theorem suspendCmd_erase {n : Nat} (run : (bankOf s b).run = some (.erase n)) : suspendCmd b early s =
    if early then modBank b (fun x => { x with suspPend := true }) s else suspendNow b s := by
  simp [suspendCmd, clear, run]

theorem suspendCmd_program {f : Nat} {d : Bytes} {r : List Nat} (run : (bankOf s b).run = some (.program f d r)) :
    suspendCmd b early s =
      if early then modBank b (fun x => { x with suspPend := true }) s else suspendNow b s := by
  simp [suspendCmd, clear, run]

end

/-! ## Commands of one cycle -/

section
variable (reach : norReachable s = true) (idle : (bankOf s b).seq = .idle)
include reach idle

theorem execIaSuspend_idle (early : Bool) : exec (.iaSuspend b early) s = .next (suspendCmd b early s) := by
  obtain ⟨suspend, -⟩ := norWrite_base_idle (early := early) idle
  exact congrArg Host.Outcome.next ((if_pos reach).trans suspend)

theorem execIaClearStatus_idle : exec (.iaClearStatus b) s = .next (clearStatus b s) := by
  obtain ⟨-, -, clear, -⟩ := norWrite_base_idle (early := false) idle
  exact congrArg Host.Outcome.next ((norCycles_all reach le_rfl).trans clear)

theorem execIaReadArray_idle : exec (.iaReadArray b) s = .next (readArray b s) := by
  obtain ⟨-, -, -, array⟩ := norWrite_base_idle (early := false) idle
  exact congrArg Host.Outcome.next ((norCycles_all reach le_rfl).trans array)

end

theorem execIaResume_idle (reach : norReachable (ledgerFirst b s) = true)
    (idle : (bankOf (ledgerFirst b s) b).seq = .idle) :
    exec (.iaResume b) s = .next (resumeCmd b (ledgerFirst b s)) := by
  obtain ⟨-, resume, -⟩ := norWrite_base_idle (early := false) idle
  exact congrArg Host.Outcome.next ((norCycles_all reach le_rfl).trans resume)

end

end Sys2Proof.Machine

open Sys2Proof Sys2Proof.Machine

/-- Settles O9: a complete sequence brings the bank to its final cycle, whose operation then starts, is refused, or
changes a lock. -/
theorem arraySequencesStartOperations : Obligations.ArraySequencesStartOperations := by
  unfold Obligations.ArraySequencesStartOperations
  refine ⟨?program, ?erase, ?remap, ?sectorLocked, ?programLocked, ?lockClear, ?lockSet, ?info, ?infoRefused⟩
  case program =>
    intro s u page len first words sent hu reach idle free aligned hlen unit above below filled enough array other
      unlocked
    subst hu
    have fits : ProgramFits page len first words := ⟨aligned, hlen, unit, above, below, filled⟩
    obtain ⟨r, started⟩ := startProgram_accepted (bytes := wordBytes words)
      (q := .confirm page first (wordBytes words)) free array other unlocked
    exact ⟨_, r, (execIaProgram_complete reach idle fits enough).trans (congrArg _ started), acceptOp_spec _ _ _⟩
  case erase =>
    intro s n sent reach idle free array noErase unlocked enough
    obtain ⟨run, -, gen, mem, -⟩ := acceptOp_spec (bankOfOffset (n * sectorBytes)) (.erase n) s
    exact ⟨_, (execIaSectorErase_complete reach idle enough).trans
      (congrArg _ (startErase_accepted free array noErase unlocked nofun)), run, gen, mem⟩
  case remap =>
    intro s n sent reach idle free array noErase unlocked spare enough
    obtain ⟨run, -, gen, mem, -⟩ := acceptOp_spec (bankOfOffset (n * sectorBytes)) (.remap n) s
    exact ⟨_, (execIaRemap_complete reach idle enough).trans
      (congrArg _ (startErase_accepted free array noErase unlocked fun _ => spare)), run, gen, mem⟩
  case sectorLocked =>
    intro s n sent i reach idle free array noErase locked enough which
    have refused := fun q remap => startErase_locked (q := q) free array noErase remap (sectorLocked_of locked)
    have answered : exec i s = .next (lockRefused (bankOfOffset (n * sectorBytes)) s) := by
      rcases which with rfl | rfl
      · exact (execIaSectorErase_complete reach idle enough).trans (congrArg _ (refused _ _))
      · exact (execIaRemap_complete reach idle enough).trans (congrArg _ (refused _ _))
    exact ⟨_, answered, lockRefused_spec idle⟩
  case programLocked =>
    intro s u page len first words sent hu reach idle free aligned hlen unit above below filled enough array other
      locked
    subst hu
    have fits : ProgramFits page len first words := ⟨aligned, hlen, unit, above, below, filled⟩
    exact ⟨_, (execIaProgram_complete reach idle fits enough).trans
      (congrArg _ (startProgram_locked free array other (sectorLocked_of locked))), lockRefused_spec idle⟩
  case lockClear =>
    intro s n sent reach idle free array enough
    obtain ⟨cleared, mem⟩ := changeLock_spec (q := .cycle3 .lockClear) free array false
    have listed := mem_insertNew n s.nor.unlocked
    rw [← show _ = insertNew n s.nor.unlocked from cleared] at listed
    exact ⟨_, execIaLockClear_complete reach idle enough, listed, by simp [sectorLocked, listed], mem⟩
  case lockSet =>
    intro s n sent reach idle free array enough
    exact ⟨_, execIaLockSet_complete reach idle enough, changeLock_spec free array true⟩
  case info =>
    intro s b sent reach idle clear enough
    refine ⟨_, (execIaInfo_complete reach idle enough).trans (congrArg _ (if_neg (by simp [clear]))), ?_⟩
    simp [idle]
  case infoRefused =>
    intro s b sent reach idle suspended enough
    refine ⟨_, (execIaInfo_complete reach idle enough).trans (congrArg _ (if_pos suspended)), ?_⟩
    simp [bankOf_seqError, idle]

/-- Settles O10, by what each command of one cycle does in an idle bank, and by what a bank answers to a read. -/
theorem arrayBanksSuspendAndRead : Obligations.ArrayBanksSuspendAndRead := by
  unfold Obligations.ArrayBanksSuspendAndRead
  refine ⟨?eraseSuspends, ?early, ?programSuspends, ?refused, ?takesEffect, ?resume, ?clearStatus, ?readArray, ?array,
    ?status, ?poisoned, ?beyond⟩
  case eraseSuspends =>
    intro s b n reach idle clear run
    exact ⟨_, (execIaSuspend_idle reach idle false).trans (congrArg _ (suspendCmd_erase clear false run)),
      bankOf_suspendNow_erase run⟩
  case early =>
    intro s b n reach idle clear run
    have waits := (suspendCmd_erase clear true run).trans (if_pos rfl)
    exact ⟨_, (execIaSuspend_idle reach idle true).trans (congrArg _ waits), bankOf_modBank _ _ _⟩
  case programSuspends =>
    intro s b f d r reach idle clear run
    exact ⟨_, (execIaSuspend_idle reach idle false).trans (congrArg _ (suspendCmd_program clear false run)),
      bankOf_suspendNow_program run⟩
  case refused =>
    intro s b early reach idle suspended
    exact (execIaSuspend_idle reach idle early).trans (congrArg _ (if_pos suspended))
  case takesEffect =>
    intro s b f d r on pending run
    exact ⟨_, congrArg Host.Outcome.next ((if_pos on).trans (if_pos pending)), bankOf_suspendNow_program run⟩
  case resume =>
    intro s u b p hu reach idle stopped prog
    subst hu
    refine ⟨_, execIaResume_idle reach idle, ?_⟩
    simp [resumeCmd, stopped, prog]
  case clearStatus =>
    intro s b reach idle
    exact ⟨_, execIaClearStatus_idle reach idle, bankOf_modBank _ _ _⟩
  case readArray =>
    intro s b reach idle stopped
    refine ⟨_, execIaReadArray_idle reach idle, ?_⟩
    simp [readArray, stopped]
  case array =>
    intro s o on inside idle quiet array under
    rw [execIaBankRead_idle on inside idle, bankAnswer_array quiet array under]
  case status =>
    intro s o u on inside idle status
    rw [execIaBankRead_idle on inside idle, bankAnswer_status status]
  case poisoned =>
    intro s o u on inside idle quiet array suspended
    rw [execIaBankRead_idle on inside idle, bankAnswer_poisoned quiet array (underSuspend_of_word suspended)]
  case beyond => exact fun s o u beyond => if_pos beyond
end

section
/-! SUPPORT. What a staging commit, a write to a policy register and the record update of chapter 14 answer (R500 to
R502, R605). -/
namespace Sys2Proof.Machine

/-! ## The staging commit (R500, R501) -/

section
variable {s : State}

theorem execCfgStageCommit_running (b : Bool) (up : running s = true) :
    exec (.cfgStageCommit b) s = .next (cfgStageCommit b s) :=
  congrArg Host.Outcome.next (if_pos up)

section
variable (idle : s.hold.cfgBusy = false)
include idle

theorem cfgStageCommit_locked (b : Bool) (locked : ownerLocked s = true) :
    cfgStageCommit b s = evsSet 227 { s with hold.cfgResult := 3 } :=
  (if_neg (by simp [idle])).trans (if_pos locked)

variable (unlocked : ownerLocked s = false)
include unlocked

theorem cfgStageCommit_outOfRange (b : Bool) (bad : confOk (parseConf s.hold.stage) = false) :
    cfgStageCommit b s = evsSet 227 { s with hold.cfgResult := 2 } := by
  simp [cfgStageCommit, idle, unlocked, bad]

variable (good : confOk (parseConf s.hold.stage) = true)
include good

theorem cfgStageCommit_stores (room : canStore .conf s = true) : cfgStageCommit true s =
    evsSet 227 { storeRecord (.conf (parseConf s.hold.stage)) true s with hold.cfgResult := 0 } := by
  simp [cfgStageCommit, idle, unlocked, good, room]

theorem cfgStageCommit_storeFails : cfgStageCommit false s =
    evsSet 227 { storeRecord (.conf (parseConf s.hold.stage)) false s with hold.cfgResult := 4 } := by
  simp [cfgStageCommit, idle, unlocked, good]

end

/-! ## The policy registers and their record (R502, R605) -/

theorem execPolicyRegisterWrite_running (g : PolicyReg) (v : W32) (up : running s = true) :
    exec (.policyRegisterWrite g v) s = .next (policyWrite g v s) :=
  congrArg Host.Outcome.next (if_pos up)

theorem execConfigRecordUpdate_due (b : Bool) {r : ConfRec} (up : running s = true) (due : s.hold.policyDue = true)
    (found : confRec? s = some r) : exec (.configRecordUpdate b) s = .next
      { storeRecord (.conf (withPolicy s r)) (b && canStore .conf s) s with
        hold.policyDue := !(b && canStore .conf s) } := by
  refine congrArg Host.Outcome.next ((if_neg (by simp [up, due])).trans ?_)
  rw [found]

end

end Sys2Proof.Machine

open Sys2Proof Sys2Proof.Machine

/-- Settles O44, by what the staging commit answers in each of its branches, by what a policy register takes or refuses,
and by what the record update stores. -/
theorem configurationRecordCompletes : Obligations.ConfigurationRecordCompletes := by
  unfold Obligations.ConfigurationRecordCompletes
  refine ⟨?stores, ?locked, ?outOfRange, ?storeFails, ?slc, ?slcRefused, ?wl, ?hold, ?record, ?recordFails⟩
  case stores =>
    intro s up idle unlocked good room
    rw [execCfgStageCommit_running true up, cfgStageCommit_stores idle unlocked good room]
    exact ⟨_, rfl, rfl, rfl⟩
  case locked =>
    intro s b up idle locked
    rw [execCfgStageCommit_running b up, cfgStageCommit_locked idle b locked]
    exact ⟨_, rfl, rfl, idle, rfl, Same.call (evsSet_same _ _) (by decide) (Same.put (Same.refl _ _) rfl)⟩
  case outOfRange =>
    intro s b up idle unlocked bad
    rw [execCfgStageCommit_running b up, cfgStageCommit_outOfRange idle unlocked b bad]
    exact ⟨_, rfl, rfl, rfl⟩
  case storeFails =>
    intro s up idle unlocked good
    rw [execCfgStageCommit_running false up, cfgStageCommit_storeFails idle unlocked good]
    exact ⟨_, rfl, rfl⟩
  case slc =>
    intro s v up inRange
    exact ⟨_, (execPolicyRegisterWrite_running .slc v up).trans (congrArg _ (if_pos inRange)), rfl, rfl, rfl, rfl,
      Same.put (Same.refl _ _) rfl⟩
  case slcRefused =>
    intro s v up outOfRange
    have refused := Bool.eq_false_iff.mp outOfRange
    exact ⟨_, (execPolicyRegisterWrite_running .slc v up).trans (congrArg _ (if_neg refused)), rfl,
      Same.put (Same.refl _ _) rfl⟩
  case wl =>
    intro s v up inRange
    exact ⟨_, (execPolicyRegisterWrite_running .wl v up).trans (congrArg _ (if_pos inRange)), rfl, rfl,
      Same.put (Same.refl _ _) rfl⟩
  case hold =>
    intro s v up inRange
    exact ⟨_, (execPolicyRegisterWrite_running .hold v up).trans (congrArg _ (if_pos inRange)), rfl, rfl, rfl,
      Same.put (Same.refl _ _) rfl⟩
  case record =>
    intro s r up due found room
    rw [execConfigRecordUpdate_due true up due found, room]
    exact ⟨_, rfl, rfl, rfl⟩
  case recordFails =>
    intro s r up due found
    exact ⟨_, execConfigRecordUpdate_due false up due found, rfl⟩
end

section
/-! SUPPORT. What the moves of the charger between its states leave of the charge gate, the bank's flags and the
capacitance table (R504 to R506). -/
namespace Sys2Proof.Machine

/-! ## A change of state -/

theorem setChg_pwr (c : ChgState) (s : State) : (setChg c s).pwr = s.pwr := setChg_same c s .pwr (by decide)

theorem setChg_arm (c : ChgState) (s : State) : (setChg c s).arm = s.arm := setChg_same c s .arm (by decide)

theorem evsSetIf_tab (b : Bool) (n : Nat) (s : State) : (evsSetIf b n s).tab = s.tab := by
  cases b <;> rfl

theorem setChg_tab (c : ChgState) (s : State) : (setChg c s).tab = s.tab :=
  (evsSetIf_tab _ _ _).trans (evsSetIf_tab _ _ _)

theorem setChg_chg (c : ChgState) (s : State) : (setChg c s).hold.chg = c := congrArg Hold.chg (setChg_hold c s)

/-! ## The announcement of a bank that cannot hold its charge -/

theorem noteShort_gate (s : State) : (noteShort s).pwr.chgGateHeld = s.pwr.chgGateHeld := by
  unfold noteShort
  split <;> rfl

theorem shortEvent_noteShort_hold (s : State) : (shortEvent (noteShort s)).hold = s.hold :=
  (shortEvent_same _ .hold (by decide)).trans (noteShort_same s .hold (by decide))

theorem shortEvent_noteShort_arm (s : State) : (shortEvent (noteShort s)).arm = s.arm :=
  (shortEvent_same _ .arm (by decide)).trans (noteShort_same s .arm (by decide))

theorem shortEvent_noteShort_gate (s : State) :
    (shortEvent (noteShort s)).pwr.chgGateHeld = s.pwr.chgGateHeld :=
  (congrArg Pwr.chgGateHeld (shortEvent_same _ .pwr (by decide))).trans (noteShort_gate s)

/-! ## Entry to Fault -/

/-- The charger is in Fault with its gate held and the bank's failure marked; the outputs and the event are still to
come (R504). -/
def faultMarked (s : State) : State :=
  let t := setChg .fault s
  evsSetIf (!t.hold.bankFault) 224 { t with pwr.chgGateHeld := true, hold.bankFault := true, hold.critBackup := true }

theorem faultMarked_hold (s : State) :
    (faultMarked s).hold = { s.hold with chg := .fault, bankFault := true, critBackup := true } := by
  refine (evsSetIf_same _ _ _ .hold (by decide)).trans ?_
  simp [setChg_hold]

theorem faultMarked_gate (s : State) : (faultMarked s).pwr.chgGateHeld = true :=
  congrArg Pwr.chgGateHeld (evsSetIf_same _ _ _ .pwr (by decide))

section
variable {s : State}

theorem chgFault_eq (sound : s.hold.chg ≠ .fault) : chgFault s =
    shortEvent (noteShort (hscMark 12 (emit (.pins (faultMarked s).pwr.holdEn true) (faultMarked s)))) :=
  if_neg sound

theorem chgFault_hold (sound : s.hold.chg ≠ .fault) :
    (chgFault s).hold = { s.hold with chg := .fault, bankFault := true, critBackup := true } := by
  rw [chgFault_eq sound, shortEvent_noteShort_hold]
  exact (hscMark_same _ _ .hold (by decide)).trans (faultMarked_hold s)

theorem chgFault_gate (sound : s.hold.chg ≠ .fault) : (chgFault s).pwr.chgGateHeld = true := by
  rw [chgFault_eq sound, shortEvent_noteShort_gate]
  exact (congrArg Pwr.chgGateHeld (hscMark_same _ _ .pwr (by decide))).trans (faultMarked_gate s)

theorem chgFault_spec (sound : s.hold.chg ≠ .fault) : (chgFault s).hold.chg = .fault ∧
    (chgFault s).pwr.chgGateHeld = true ∧ (chgFault s).hold.bankFault = true ∧
    (chgFault s).hold.critBackup = true :=
  have hold := chgFault_hold sound
  ⟨congrArg Hold.chg hold, chgFault_gate sound, congrArg Hold.bankFault hold, congrArg Hold.critBackup hold⟩

end

/-! ## The charger's commands on a powered device (R504, R505) -/

/-- The charger is in NoBank with its gate held; the outputs and the event are still to come. -/
def noBankMarked (v : Nat) (s : State) : State := setChg .noBank { sawVhold v s with pwr.chgGateHeld := true }

section
variable {s : State} {v r c : Nat} (on : powered s = true)
include on

theorem execChargerBankCheck_low (charging : s.hold.chg = .charging) (low : v < 1000) :
    exec (.chargerBankCheck v) s = .next
      (shortEvent (noteShort (emit (.pins (noBankMarked v s).pwr.holdEn true) (noBankMarked v s)))) :=
  congrArg Host.Outcome.next ((if_pos on).trans (if_pos ⟨charging, low⟩))

theorem execChargerBankCheck_found (found : 1000 ≤ v) :
    exec (.chargerBankCheck v) s = .next (sawVhold v s) :=
  congrArg Host.Outcome.next ((if_pos on).trans (if_neg fun low => Nat.not_lt.mpr found low.2))

theorem execChargerCharged_full (charging : s.hold.chg = .charging) (full : vChg s ≤ v + 250) :
    exec (.chargerCharged v) s = .next (setChg .measuring (setChg .holding (sawVhold v s))) :=
  congrArg Host.Outcome.next ((if_pos on).trans (if_pos ⟨charging, full⟩))

theorem execChargerStallTimeout_stalled (charging : s.hold.chg = .charging) (flat : v < 500)
    (full : chargerFull s = true) : exec (.chargerStallTimeout v) s = .next (chgFault s) :=
  congrArg Host.Outcome.next (if_pos ⟨on, charging, flat, full⟩)

theorem execChargerMeasureStart_holding (holding : s.hold.chg = .holding) :
    exec .chargerMeasureStart s = .next (setChg .measuring s) :=
  congrArg Host.Outcome.next (if_pos ⟨on, holding⟩)

theorem execChargerMeasureDone_fallen (measuring : s.hold.chg = .measuring) (fallen : v + 600 ≤ vChg s) :
    exec (.chargerMeasureDone v r c) s = .next
      (if 500 ≤ r then addCap c (setChg .holding (sawVhold v s)) else setChg .holding (sawVhold v s)) :=
  congrArg Host.Outcome.next ((if_pos on).trans (if_pos ⟨measuring, fallen⟩))

theorem execChargerMeasureTimeout_measuring (measuring : s.hold.chg = .measuring) :
    exec .chargerMeasureTimeout s = .next
      (setChg .holding { s with hold.measSkipped := satAdd s.hold.measSkipped 1 }) :=
  congrArg Host.Outcome.next (if_pos ⟨on, measuring⟩)

theorem execVholdUndervolt_low (charged : s.hold.chg = .holding ∨ s.hold.chg = .measuring) (low : v < 12000) :
    exec (.vholdUndervolt v) s = .next (chgFault (sawVhold v s)) :=
  congrArg Host.Outcome.next ((if_pos on).trans (if_pos ⟨charged, low⟩))

variable (high : 37500 < v)
include high

/-- A flush or a fault under way keeps its state and only has the gate closed (R505, log 54). -/
theorem execVholdOvervolt_stays (stays : s.hold.chg = .flush ∨ s.hold.chg = .fault) :
    exec (.vholdOvervolt v) s = .next { sawVhold v s with pwr.chgGateHeld := true } :=
  congrArg Host.Outcome.next ((if_pos on).trans ((if_neg (Nat.not_le.mpr high)).trans (if_pos stays)))

theorem execVholdOvervolt_faults (leaves : ¬(s.hold.chg = .flush ∨ s.hold.chg = .fault)) :
    exec (.vholdOvervolt v) s = .next (chgFault (sawVhold v s)) :=
  congrArg Host.Outcome.next ((if_pos on).trans ((if_neg (Nat.not_le.mpr high)).trans (if_neg leaves)))

end

end Sys2Proof.Machine

open Sys2Proof Sys2Proof.Machine

/-- Settles O45, by what a change of the charger's state and its entry to Fault leave, and by the branch each command
takes. -/
theorem chargerCommandsComplete : Obligations.ChargerCommandsComplete := by
  unfold Obligations.ChargerCommandsComplete
  refine ⟨?noBank, ?bankFound, ?charged, ?stall, ?measureStart, ?measured, ?tooSmall, ?measureTimeout, ?undervolt,
    ?overvolt, ?overvoltFlush, ?gate⟩
  case noBank =>
    intro s v on charging low
    refine ⟨_, execChargerBankCheck_low on charging low, ?_, ?_, ?_⟩
    · rw [shortEvent_noteShort_hold]
      exact setChg_chg _ _
    · rw [shortEvent_noteShort_gate]
      exact congrArg Pwr.chgGateHeld (setChg_pwr _ _)
    · rw [shortEvent_noteShort_arm]
      exact congrArg (·.meas.vhold) (setChg_arm _ _)
  case bankFound => exact fun s v on _ found => execChargerBankCheck_found on found
  case charged =>
    intro s v on charging full
    exact ⟨_, execChargerCharged_full on charging full, setChg_chg _ _, (setChg_pwr _ _).trans (setChg_pwr _ _)⟩
  case stall =>
    intro s v on charging flat full
    exact ⟨_, execChargerStallTimeout_stalled on charging flat full, chgFault_spec (by simp [charging])⟩
  case measureStart =>
    intro s on holding
    exact ⟨_, execChargerMeasureStart_holding on holding, setChg_chg _ _, setChg_same _ _⟩
  case measured =>
    intro s v r c on measuring fallen enough
    refine ⟨_, (execChargerMeasureDone_fallen on measuring fallen).trans (congrArg _ (if_pos enough)),
      setChg_chg _ _, ?_, ?_⟩
    · exact congrArg (fun t : Tables => (c :: t.caps).take 16) (setChg_tab _ _)
    · exact congrArg (·.meas.tj) (setChg_arm _ _)
  case tooSmall =>
    intro s v r c on measuring fallen small
    exact ⟨_, (execChargerMeasureDone_fallen on measuring fallen).trans (congrArg _ (if_neg (Nat.not_le.mpr small))),
      setChg_chg _ _, setChg_tab _ _⟩
  case measureTimeout =>
    intro s on measuring
    exact ⟨_, execChargerMeasureTimeout_measuring on measuring, setChg_chg _ _,
      congrArg Hold.measSkipped (setChg_hold _ _), setChg_tab _ _⟩
  case undervolt =>
    intro s v on charged low
    have sound : s.hold.chg ≠ .fault := by rcases charged with h | h <;> simp [h]
    obtain ⟨fault, gate, bank, -⟩ := chgFault_spec (s := sawVhold v s) sound
    exact ⟨_, execVholdUndervolt_low on charged low, fault, gate, bank⟩
  case overvolt =>
    intro s v on high notFlush sound
    obtain ⟨fault, gate, bank, -⟩ := chgFault_spec (s := sawVhold v s) sound
    exact ⟨_, execVholdOvervolt_faults on high (not_or.mpr ⟨notFlush, sound⟩), fault, gate, bank⟩
  case overvoltFlush =>
    intro s v on high flush
    exact ⟨_, execVholdOvervolt_stays on high (.inl flush), flush, rfl⟩
  case gate =>
    intro s v on high
    by_cases stays : s.hold.chg = .flush ∨ s.hold.chg = .fault
    · exact ⟨_, execVholdOvervolt_stays on high stays, rfl⟩
    · exact ⟨_, execVholdOvervolt_faults on high stays, chgFault_gate (not_or.mp stays).2⟩
end

section
/-! SUPPORT. The bus mode of the management path and what an I3C target answers to a common command (R566, R568,
R569). -/
namespace Sys2Proof.Machine

/-! ## The bus mode (R566) -/

theorem alertFollow_mgt (was : Bool) (s : State) : (alertFollow was s).mgt = s.mgt :=
  alertFollow_same was s .mgt (by decide)

theorem busMode_i3c (b : Bool) (s : State) : (busMode b s).mgt.i3c = b := by
  unfold busMode
  split
  · assumption
  · rw [alertFollow_mgt]
    cases b <;> rfl

/-- The transmission units of SMBus/I2C mode (R568). -/
theorem busMode_smbus_units {s : State} (target : s.mgt.i3c = true) :
    (busMode false s).mgt.mtu = 64 ∧ (busMode false s).mgt.mrl = 64 ∧ (busMode false s).mgt.mwl = 64 := by
  have leaves : s.mgt.i3c ≠ false := by simp [target]
  rw [busMode, if_neg leaves, alertFollow_mgt]
  exact ⟨rfl, rfl, rfl⟩

theorem takeAddress_spec {s : State} {a : BitVec 7} (up : mgtUp s = true) (named : a ≠ 0) :
    (takeAddress a s).mgt.da = a ∧ (takeAddress a s).mgt.i3c = true := by
  rw [takeAddress, if_pos (Bool.and_eq_true_iff.mpr ⟨up, decide_eq_true named⟩)]
  exact ⟨rfl, busMode_i3c true s⟩

theorem execI3cSetdasa_named {a : BitVec 7} (named : a ≠ 0) (s : State) :
    exec (.i3cSetdasa a) s = .next (takeAddress a s) :=
  congrArg Host.Outcome.next (if_neg fun zero => named (of_decide_eq_true zero))

theorem execI3cRstdaa_up {s : State} (up : mgtUp s = true) :
    exec .i3cRstdaa s = .next { busMode false s with mgt.da := 0 } :=
  congrArg Host.Outcome.next (if_pos up)

theorem wideReset_mgt_of_cold (s : State) : (wideReset .cold s).mgt = Mgt.reset := rfl

theorem wideReset_mgt_of_powerOn (s : State) : (wideReset .powerOn s).mgt = Mgt.reset := rfl

/-! ## Common commands (R568, R569) -/

theorem inI3c_smbus {s : State} (k : State → State) (smbus : s.mgt.i3c = false) : inI3c k s = s :=
  if_neg (by simp [smbus])

/-- The 48 bits of GETPID: those that are not given, above the low bits of the Device Serial Number. -/
def provisionalId (upper : BitVec 16) (serial : BitVec 32) : W64 := (upper.setWidth 64 <<< 32) ||| serial.setWidth 64

theorem provisionalId_lt (upper : BitVec 16) (serial : BitVec 32) : (provisionalId upper serial).toNat < 2 ^ 48 := by
  have low := serial.isLt
  have high := upper.isLt
  rw [provisionalId, BitVec.toNat_or]
  refine Nat.or_lt_two_pow ?_ ?_
  · rw [BitVec.toNat_shiftLeft, BitVec.toNat_setWidth]
    omega
  · rw [BitVec.toNat_setWidth]
    omega

theorem provisionalId_low (upper : BitVec 16) (serial : BitVec 32) :
    (provisionalId upper serial).setWidth 32 = serial := by
  unfold provisionalId
  ext i
  simp

section
variable {s : State} (up : mgtUp s = true) (target : s.mgt.i3c = true)
include up target

theorem inI3c_target (k : State → State) : inI3c k s = k s := if_pos (by simp [up, target])

theorem execI3cGetpid_target : exec .i3cGetpid s =
    .next (emit (.ccc (provisionalId (Config.freeBits 16 0) (s.fuses.dsn.setWidth 32))) s) :=
  congrArg Host.Outcome.next (inI3c_target up target _)

/-- A common command that answers `w` bits the spec does not give: they are fresh, and nothing else changes. -/
theorem freeCcc_answered (w : Nat) : ∃ t v,
    Host.Outcome.next (inI3c (fun s => emit (.ccc ((draw w s).setWidth 64)) (drawn 1 s)) s) =
      (.next t : Host.Outcome State Fault Refusal) ∧
    t.out = s.out ++ [.ccc v] ∧ v.toNat < 2 ^ w ∧ Same [.out, .free] s t := by
  refine ⟨_, _, congrArg _ (inI3c_target up target _), rfl, ?width, ?frame⟩
  case width =>
    rw [BitVec.toNat_setWidth]
    exact (Nat.mod_le _ _).trans_lt (draw w s).isLt
  case frame => exact (emit_same _ _).call (by decide) ((drawn_same 1 s).widen (by decide))

variable {v : W16} (low : 64 ≤ v.toNat) (high : v.toNat ≤ 256)
include low high

theorem execI3cSetmrl_inRange : exec (.i3cSetmrl v) s = .next { s with mgt.mrl := v } :=
  congrArg Host.Outcome.next ((inI3c_target up target _).trans (if_pos (decide_eq_true ⟨low, high⟩)))

theorem execI3cSetmwl_inRange : exec (.i3cSetmwl v) s = .next { s with mgt.mwl := v } :=
  congrArg Host.Outcome.next ((inI3c_target up target _).trans (if_pos (decide_eq_true ⟨low, high⟩)))

end

end Sys2Proof.Machine

open Sys2Proof Sys2Proof.Machine

/-- Settles O50, by what a change of the bus mode leaves, and by a common command having its meaning in an I3C target and
none in an SMBus/I2C target. -/
theorem busCommandsComplete : Obligations.BusCommandsComplete := by
  unfold Obligations.BusCommandsComplete
  refine ⟨?entdaa, ?setdasa, ?rstdaa, ?enec, ?disec, ?getpid, ?getbcr, ?getdcr, ?getstatus, ?getUnits, ?setUnits,
    ?smbus, ?resets⟩
  case entdaa =>
    intro s a up named
    obtain ⟨address, mode⟩ := takeAddress_spec up named
    exact ⟨_, rfl, address, mode, (takeAddress_same a s).widen (by decide)⟩
  case setdasa =>
    intro s a up named
    obtain ⟨address, mode⟩ := takeAddress_spec up named
    exact ⟨_, execI3cSetdasa_named named s, address, mode, (takeAddress_same a s).widen (by decide)⟩
  case rstdaa =>
    intro s up
    have done := execI3cRstdaa_up up
    exact ⟨_, done, rfl, busMode_i3c false s, busMode_smbus_units,
      ((execI3cRstdaa_ends s).of_next done).widen (by decide)⟩
  case enec => exact fun s e up target => congrArg _ (inI3c_target up target _)
  case disec => exact fun s e up target => congrArg _ (inI3c_target up target _)
  case getpid =>
    intro s up target
    exact ⟨_, _, execI3cGetpid_target up target, rfl, provisionalId_lt _ _, provisionalId_low _ _, emit_same _ _⟩
  case getbcr => exact fun s up target => freeCcc_answered up target 8
  case getdcr => exact fun s up target => freeCcc_answered up target 8
  case getstatus => exact fun s up target => freeCcc_answered up target 16
  case getUnits =>
    exact fun s up target => ⟨congrArg _ (inI3c_target up target _), congrArg _ (inI3c_target up target _)⟩
  case setUnits =>
    exact fun s v up target low high =>
      ⟨execI3cSetmrl_inRange up target low high, execI3cSetmwl_inRange up target low high⟩
  case smbus =>
    exact fun s e smbus => ⟨congrArg _ (inI3c_smbus _ smbus), congrArg _ (inI3c_smbus _ smbus)⟩
  case resets =>
    intro s
    exact ⟨_, _, rfl, rfl, congrArg Mgt.i3c (wideReset_mgt_of_cold s), congrArg Mgt.i3c (wideReset_mgt_of_powerOn s)⟩
end

section
/-! SUPPORT. The event source registers of a PF: words of the arrays, what signalling leaves of them, and what the
commands of R609 to R612 write. -/
namespace Sys2Proof.Machine

/-! ## Words of the pending and enable arrays (R609) -/

theorem getLsbD_evsWord (a : BitVec 4096) (k i : Nat) :
    (evsWord a k).getLsbD i = (decide (i < 32) && a.getLsbD (32 * k + i)) := by
  rw [evsWord, BitVec.getLsbD_setWidth, BitVec.getLsbD_ushiftRight]

theorem getLsbD_ones32 (i : Nat) : (0xFFFFFFFF : BitVec 4096).getLsbD i = decide (i < 32) := by
  have ones : (0xFFFFFFFF : BitVec 4096) = BitVec.ofNat 4096 (2 ^ 32 - 1) := rfl
  rw [ones, BitVec.getLsbD_ofNat, Nat.testBit_two_pow_sub_one, Bool.and_eq_right_iff_imp]
  intro low
  simp only [decide_eq_true_eq] at low ⊢
  omega

/-- Bit `i` of word `j`: the window of word `k` takes the new value, the bits outside it stay. -/
theorem evsWord_withWord (a : BitVec 4096) (k : Nat) (v : W32) {j : Nat} (listed : j < 128) :
    evsWord (withWord a k v) j = if j = k then v else evsWord a j := by
  apply BitVec.eq_of_getLsbD_eq
  intro i low
  have inside : 32 * j + i < 4096 := by omega
  simp only [getLsbD_evsWord, withWord, BitVec.getLsbD_or, BitVec.getLsbD_and, BitVec.getLsbD_not,
    BitVec.getLsbD_shiftLeft, BitVec.getLsbD_setWidth, getLsbD_ones32, low, inside, decide_true, Bool.true_and]
  rcases Nat.lt_trichotomy j k with before | same | after
  · have below : 32 * j + i < 32 * k := by omega
    rw [if_neg before.ne, getLsbD_evsWord]
    simp [below, low]
  · have fits : i < 4096 := by omega
    subst same
    simp [low, fits]
  · have above : ¬ 32 * j + i < 32 * k := by omega
    have beyond : ¬ 32 * j + i - 32 * k < 32 := by omega
    have unset : v.getLsbD (32 * j + i - 32 * k) = false := BitVec.getLsbD_of_ge v _ (not_lt.mp beyond)
    rw [if_neg after.ne', getLsbD_evsWord]
    simp [above, beyond, unset, low]

/-! ## What signalling leaves of the registers -/

/-- What changes no event register leaves those of either PF. -/
theorem evsOf_of_same {l : List Field} {s t : State} (h : Same l s t)
    (i : l.all (fun f => f ≠ .evs0 ∧ f ≠ .evs1) = true) (p : Pf) : evsOf t p = evsOf s p := by
  have out (f : Field) (m : f ∈ l) : f ≠ .evs0 ∧ f ≠ .evs1 := of_decide_eq_true (List.all_eq_true.mp i f m)
  cases p
  · exact h .evs0 fun m => (out _ m).1 rfl
  · exact h .evs1 fun m => (out _ m).2 rfl

@[simp] theorem evsOf_signalVector (f : Func) (v : Nat) (s : State) (p : Pf) :
    evsOf (signalVector f v s) p = evsOf s p :=
  evsOf_of_same (signalVector_same f v s) (by decide) p

@[simp] theorem evsOf_intxFollow (f : Func) (s : State) (p : Pf) : evsOf (intxFollow f s) p = evsOf s p :=
  evsOf_of_same (intxFollow_same f s) (by decide) p

@[simp] theorem evsOf_noteMessage (p : Pf) (s : State) :
    evsOf (noteMessage p s) p = { evsOf s p with messages := satAdd (evsOf s p).messages 1 } :=
  evsOf_setEvs _ _ _

theorem vectorOpen_setEvs (p : Pf) (e : Evs) (s : State) : vectorOpen (setEvs p e s) = vectorOpen s := by
  cases p <;> rfl

/-- With AEN_EN clear a signal counts its message and leaves the other registers (R611, R618). -/
theorem evsOf_evsSignal_noAen {p : Pf} {s : State} (off : (evsOf s p).aenEn = false) :
    evsOf (evsSignal p s) p = if (evsOf s p).vecEn ∧ vectorOpen s ⟨p, 0⟩ (evsOf s p).vector.toNat
      then { evsOf s p with messages := satAdd (evsOf s p).messages 1 } else evsOf s p := by
  rw [evsSignal, if_neg (by simp [off])]
  by_cases vec : (evsOf s p).vecEn <;> by_cases opened : vectorOpen s ⟨p, 0⟩ (evsOf s p).vector.toNat <;>
    simp [vec, opened]

/-- The summary and the enable bits of both PFs are as before. -/
def SummaryKept (s t : State) : Prop := ∀ p, (evsOf t p).sum = (evsOf s p).sum ∧ (evsOf t p).en = (evsOf s p).en

namespace SummaryKept

variable {l : List Field} {s t u : State}

theorem refl (s : State) : SummaryKept s s := fun _ => ⟨rfl, rfl⟩

theorem trans (h : SummaryKept s t) (k : SummaryKept t u) : SummaryKept s u := fun p =>
  ⟨(k p).1.trans (h p).1, (k p).2.trans (h p).2⟩

theorem of_same (h : Same l s t) (i : l.all (fun f => f ≠ .evs0 ∧ f ≠ .evs1) = true) : SummaryKept s t := fun p =>
  have e := evsOf_of_same h i p
  ⟨congrArg Evs.sum e, congrArg Evs.en e⟩

theorem ite {c : Prop} [Decidable c] (h : SummaryKept s t) (k : SummaryKept s u) :
    SummaryKept s (if c then t else u) := by
  split <;> assumption

end SummaryKept

theorem setEvs_summaryKept {p : Pf} {e : Evs} {s : State} (sum : e.sum = (evsOf s p).sum)
    (en : e.en = (evsOf s p).en) : SummaryKept s (setEvs p e s) := fun q => by
  cases p <;> cases q
  case p0.p0 | p1.p1 => exact ⟨sum, en⟩
  case p0.p1 | p1.p0 => exact ⟨rfl, rfl⟩

theorem evsSet_summaryKept (n : Nat) (s : State) : SummaryKept s (evsSet n s) := fun p => by
  cases p <;> exact ⟨rfl, rfl⟩

theorem kscPut_summaryKept (k : KscPkt) (s : State) : SummaryKept s (kscPut k s) := by
  have port (u : Ksc) : SummaryKept s { s with ksc := u } := fun p => by cases p <;> exact ⟨rfl, rfl⟩
  unfold kscPut
  exact .ite (.refl s) (.ite (.trans (port _) (evsSet_summaryKept 288 _)) (.ite (port _) (port _)))

theorem kscCommand_summaryKept (f : Func) (e : Inflight) (phase : Nat) (st : Status) (s : State) :
    SummaryKept s (kscCommand f e phase st s) := by
  unfold kscCommand kscPutClass
  exact .ite (kscPut_summaryKept _ _) (.refl s)

theorem deliverOne_summaryKept (f : Func) (t : Tag) (st : Status) (dw0 : W32) (s : State) :
    SummaryKept s (deliverOne f t st dw0 s) := by
  have retired (e : Inflight) : SummaryKept s (retire t (kscCommand f e 1 st s)) :=
    .trans (kscCommand_summaryKept f e 1 st s) (.of_same (retire_same _ _) (by decide))
  unfold deliverOne
  split
  case h_1 => exact .refl s
  case h_2 e _ =>
    refine .ite (retired e) ?_
    split
    case h_1 => exact retired e
    case h_2 =>
      split
      case h_1 => exact retired e
      case h_2 =>
        refine .ite (.refl s) (.ite ?waits ?posted)
        case waits => exact .trans (kscCommand_summaryKept f e 1 st s) (.of_same (modCtrl_same _ _ _) (by decide))
        case posted => exact .trans (retired e) (.of_same (postCqe_same _ _ _ _) (by decide))

theorem releaseFlushes_summaryKept (f : Func) (sqid : Nat) :
    ∀ (n : Nat) (s : State), SummaryKept s (releaseFlushes f sqid n s)
  | 0, s => .refl s
  | n + 1, s => by
    unfold releaseFlushes
    split
    · exact .trans (deliverOne_summaryKept _ _ _ _ _) (releaseFlushes_summaryKept f sqid n _)
    · exact .refl s

theorem deliver_summaryKept (f : Func) (t : Tag) (st : Status) (dw0 : W32) (s : State) :
    SummaryKept s (deliver f t st dw0 s) :=
  (deliverOne_summaryKept f t st dw0 s).trans (releaseFlushes_summaryKept _ _ _ _)

theorem complete_summaryKept (t : Tag) (st : Status) (dw0 : W32) (s : State) :
    SummaryKept s (complete t st dw0 s) := by
  have conflicts : SummaryKept s { s with nvm.conflicts := satAdd s.nvm.conflicts 1 } := fun p => by
    cases p <;> exact ⟨rfl, rfl⟩
  have started : SummaryKept s (if st = .stateConflict then
      evsSet 160 { s with nvm.conflicts := satAdd s.nvm.conflicts 1 } else s) :=
    .ite (.trans conflicts (evsSet_summaryKept 160 _)) (.refl s)
  unfold complete
  refine started.trans ?_
  cases t.src
  case mgt => exact .of_same (mgtRespond_same _ _) (by decide)
  case fn f => exact deliver_summaryKept f t st dw0 _

theorem noteAen_summaryKept (f : Func) (e : AsyncEvt) (s : State) : SummaryKept s (noteAen f e s) := by
  unfold noteAen
  exact .ite (setEvs_summaryKept rfl rfl) (.refl s)

theorem asyncEvent_summaryKept (f : Func) (e : AsyncEvt) (s : State) : SummaryKept s (asyncEvent f e s) := by
  have queued (u : State) (g : Ctrl → Ctrl) : SummaryKept u (modCtrl f g u) := .of_same (modCtrl_same _ _ _) (by decide)
  unfold asyncEvent
  refine .ite (.refl s) ?_
  split
  · exact .trans (.trans (.trans (queued s _) (.of_same (emit_same _ _) (by decide))) (noteAen_summaryKept _ _ _))
      (complete_summaryKept _ _ _ _)
  · exact .ite (.refl s) (queued s _)

theorem evsSignal_summaryKept (p : Pf) (s : State) : SummaryKept s (evsSignal p s) := by
  have noted : SummaryKept s (noteMessage p s) := setEvs_summaryKept rfl rfl
  have vector : SummaryKept s (if (evsOf s p).vecEn then
      signalVector ⟨p, 0⟩ (evsOf s p).vector.toNat
        (if vectorOpen s ⟨p, 0⟩ (evsOf s p).vector.toNat then noteMessage p s else s) else s) :=
    .ite (.trans (.ite noted (.refl s)) (.of_same (signalVector_same _ _ _) (by decide))) (.refl s)
  unfold evsSignal
  exact .ite (.trans vector (asyncEvent_summaryKept _ _ _)) vector

/-! ## The commands (R610, R611, R618) -/

@[simp] theorem evsOf_writePend (p : Pf) (k : Nat) (v : W32) (s : State) : evsOf (writePend p k v s) p =
    { evsOf s p with pend := withWord (evsOf s p).pend k (evsWord (evsOf s p).pend k &&& ~~~v) } :=
  evsOf_setEvs _ _ _

@[simp] theorem evsOf_writeEnable (p : Pf) (k : Nat) (v : W32) (s : State) : evsOf (writeEnable p k v s) p =
    { evsOf s p with en := withWord (evsOf s p).en k (v &&& evsMask k) } :=
  evsOf_setEvs _ _ _

/-- The summary follows; a signal changes neither it nor the enable bits, and without AEN_EN no pending bit. -/
theorem evsFollow_spec (p : Pf) (s : State) :
    (evsOf (evsFollow p s) p).sum = evsSummary (evsOf s p) ∧ (evsOf (evsFollow p s) p).en = (evsOf s p).en ∧
    ((evsOf s p).aenEn = false → (evsOf (evsFollow p s) p).pend = (evsOf s p).pend) := by
  rw [evsFollow, evsOf_intxFollow]
  split
  case isTrue =>
    obtain ⟨sum, en⟩ := evsSignal_summaryKept p (setEvs p { evsOf s p with sum := evsSummary (evsOf s p) } s) p
    rw [evsOf_setEvs] at sum en
    refine ⟨sum, en, fun off => ?_⟩
    rw [evsOf_evsSignal_noAen (by rw [evsOf_setEvs]; exact off), evsOf_setEvs]
    split <;> rfl
  case isFalse => simp

/-- The control fields of TZ_EVS_CTRL as a write gives them. -/
def controlled (v : W32) (e : Evs) : Evs :=
  { e with vector := fieldOf 0 11 v, vecEn := v.getLsbD 11, aenEn := v.getLsbD 12 }

theorem writeEvsCtrl_quiet {p : Pf} {v : W32} (s : State) (quiet : v.getLsbD 31 = false) :
    writeEvsCtrl p v s = intxFollow ⟨p, 0⟩ (setEvs p (controlled v (evsOf s p)) s) := by
  rw [writeEvsCtrl, if_neg (by rw [quiet]; exact Bool.false_ne_true)]
  rfl

theorem writeEvsCtrl_rearm {p : Pf} {v : W32} {s : State} (rearm : v.getLsbD 31 = true) (sum : (evsOf s p).sum ≠ 0) :
    writeEvsCtrl p v s = intxFollow ⟨p, 0⟩ (evsSignal p (setEvs p (controlled v (evsOf s p)) s)) := by
  have signals : (v.getLsbD 31 && decide ((evsOf s p).sum ≠ 0)) = true := by rw [rearm, decide_eq_true sum]; rfl
  rw [writeEvsCtrl, evsOf_setEvs, if_pos signals]
  rfl

theorem writeEvsCtrl_rearm_messages {p : Pf} {v : W32} {s : State} (rearm : v.getLsbD 31 = true)
    (vec : v.getLsbD 11 = true) (noAen : v.getLsbD 12 = false) (sum : (evsOf s p).sum ≠ 0)
    (opened : vectorOpen s ⟨p, 0⟩ (fieldOf 0 11 v).toNat = true) :
    (evsOf (writeEvsCtrl p v s) p).messages = satAdd (evsOf s p).messages 1 := by
  have signals : (controlled v (evsOf s p)).vecEn ∧
      vectorOpen s ⟨p, 0⟩ (controlled v (evsOf s p)).vector.toNat := ⟨vec, opened⟩
  have off : (controlled v (evsOf s p)).aenEn = false := noAen
  rw [writeEvsCtrl_rearm rearm sum, evsOf_intxFollow, evsOf_evsSignal_noAen (by rwa [evsOf_setEvs]), evsOf_setEvs,
    vectorOpen_setEvs, if_pos signals]
  rfl

end Sys2Proof.Machine
end

section
/-! SUPPORT. Reads of aligned words of the set-up block, and the counters with an upper-word latch (R598, R604). -/
namespace Sys2Proof.Machine

/-! ## Little-endian bytes (R10) -/

theorem leBytes_add : ∀ m n v : Nat, leBytes (m + n) v = leBytes m v ++ leBytes n (v / 256 ^ m)
  | 0, n, v => by simp [leBytes]
  | m + 1, n, v => by
    rw [Nat.add_right_comm, leBytes, leBytes, leBytes_add m n, Nat.div_div_eq_div_mul, ← Nat.pow_succ', List.cons_append]

theorem leBytes_mod : ∀ n v : Nat, leBytes n (v % 256 ^ n) = leBytes n v
  | 0, _ => rfl
  | n + 1, v => by
    have low : BitVec.ofNat 8 (v % 256 ^ (n + 1)) = BitVec.ofNat 8 v := by
      apply BitVec.eq_of_toNat_eq
      rw [BitVec.toNat_ofNat, BitVec.toNat_ofNat]
      exact Nat.mod_mod_of_dvd v (dvd_pow_self 256 n.succ_ne_zero)
    rw [leBytes, leBytes, low, Nat.pow_succ', Nat.mod_mul_right_div_self, leBytes_mod n (v / 256)]

/-- The bytes of a 64-bit register are those of its lower word and then those of its upper word. -/
theorem leBytes_words (w : W64) :
    leBytes 4 (w.setWidth 32).toNat ++ leBytes 4 ((w >>> 32).setWidth 32).toNat = leBytes 8 w.toNat := by
  rw [leBytes_add 4 4, BitVec.toNat_setWidth, BitVec.toNat_setWidth, BitVec.toNat_ushiftRight, Nat.shiftRight_eq_div_pow]
  exact congrArg₂ _ (leBytes_mod 4 _) (leBytes_mod 4 _)

/-! ## Aligned reads (R598) -/

@[simp] theorem readWords_length (p : Pf) : ∀ (n o : Nat) (s : State), (readWords p n o s).1.length = 4 * n
  | 0, _, _ => rfl
  | n + 1, o, s => by
    rw [readWords, List.length_append, leBytes_length, readWords_length p n, Nat.mul_succ, Nat.add_comm]

/-- A read of whole words answers all that it read. -/
theorem readReg_words (p : Pf) {o : Nat} (aligned : o % 4 = 0) (n : Nat) (s : State) :
    readReg ⟨p, o, 4 * n⟩ s = emit (.access (.bytes (readWords p n o s).1)) (readWords p n o s).2 := by
  have start : o / 4 * 4 = o := by omega
  have words : (o + 4 * n + 3) / 4 - o / 4 = n := by omega
  have whole : slice (readWords p n o s).1 0 (4 * n) = (readWords p n o s).1 :=
    List.take_of_length_le (readWords_length p n o s).le
  simp only [readReg, start, words, Nat.sub_self, whole]

theorem readReg_word (p : Pf) {o : Nat} (aligned : o % 4 = 0) (s : State) :
    readReg ⟨p, o, 4⟩ s = emit (.access (.bytes (leBytes 4 (barWord s p o).toNat))) (barRead p o s) := by
  rw [readReg_words p aligned 1 s]
  simp only [readWords, List.append_nil]

theorem execUpperWordLatchRead_up (p : Pf) (o n : Nat) {s : State} (up : running s = true) :
    exec (.upperWordLatchRead p o n) s = .next (readReg ⟨p, o, n⟩ s) :=
  congrArg Host.Outcome.next (if_pos up)

theorem execUpperWordLatchRead_same {p : Pf} {o n : Nat} {s t : State}
    (done : exec (.upperWordLatchRead p o n) s = .next t) : Same [.latch, .out, .free] s t :=
  ((execUpperWordLatchRead_ends p o n s).of_next done).widen (by decide)

/-! ## Words with and without a latch (R604) -/

theorem latchOf_setLatch (p : Pf) (u : Bool) (v : Option W32) (s : State) : latchOf (setLatch p u v s) p u = v := by
  cases u <;> cases p <;> rfl

section
variable {o : Nat} (inBlock : 0x01000000 ≤ o)
include inBlock

theorem barWord_setup (plain : counterAt (o - 0x01000000) = none) (s : State) (p : Pf) :
    barWord s p o = setupWord s p (o - 0x01000000) := by
  rw [barWord, if_neg (by omega), if_neg (by omega), plain]

theorem barRead_setup (plain : counterAt (o - 0x01000000) = none) (s : State) (p : Pf) : barRead p o s = drawn 1 s := by
  rw [barRead, if_neg (by omega), plain]

variable {u hi : Bool} (counter : counterAt (o - 0x01000000) = some (u, hi))
include counter

theorem barWord_counter (s : State) (p : Pf) : barWord s p o = counterWord s p u hi := by
  rw [barWord, if_neg (by omega), if_neg (by omega), counter]

theorem barRead_counter (s : State) (p : Pf) : barRead p o s = drawn 1 (counterRead p u hi s) := by
  rw [barRead, if_neg (by omega), counter]

theorem readReg_counter (aligned : o % 4 = 0) (s : State) (p : Pf) : readReg ⟨p, o, 4⟩ s =
    emit (.access (.bytes (leBytes 4 (counterWord s p u hi).toNat))) (drawn 1 (counterRead p u hi s)) := by
  rw [readReg_word p aligned, barWord_counter inBlock counter, barRead_counter inBlock counter]

end

section
variable {s : State} (up : running s = true) (p : Pf) (u : Bool)
include up

/-- A read of a word of a counter: its answer, what it leaves of the latch, and its frame. -/
theorem counterRead_completes {o : Nat} {hi : Bool} (inBlock : 0x01000000 ≤ o) (aligned : o % 4 = 0)
    (counter : counterAt (o - 0x01000000) = some (u, hi)) : ∃ t, exec (.upperWordLatchRead p o 4) s = .next t ∧
    t.out = s.out ++ [.access (.bytes (leBytes 4 (counterWord s p u hi).toNat))] ∧
    latchOf t p u = (if hi then none else some ((liveCounter s u >>> 32).setWidth 32)) ∧
    Same [.latch, .out, .free] s t := by
  have done := execUpperWordLatchRead_up p o 4 up
  have read := readReg_counter inBlock counter aligned s p
  have out : (counterRead p u hi s).out = s.out := counterRead_same p u hi s .out (by decide)
  refine ⟨_, done, ?_, ?_, execUpperWordLatchRead_same done⟩
  · rw [read, emit_out, drawn_out, out]
  · rw [read]
    exact latchOf_setLatch p u _ s

theorem lowerWord_completes : ∃ t,
    exec (.upperWordLatchRead p (if u = true then 0x01000010 else 0x01000420) 4) s = .next t ∧
    t.out = s.out ++ [.access (.bytes (leBytes 4 ((liveCounter s u).setWidth 32).toNat))] ∧
    latchOf t p u = some ((liveCounter s u >>> 32).setWidth 32) ∧ Same [.latch, .out, .free] s t :=
  counterRead_completes up p u (hi := false) (by split <;> decide) (by split <;> rfl) (by cases u <;> rfl)

theorem upperWord_completes : ∃ t,
    exec (.upperWordLatchRead p (if u = true then 0x01000014 else 0x01000424) 4) s = .next t ∧
    t.out = s.out ++ [.access (.bytes (leBytes 4
      ((latchOf s p u).getD ((liveCounter s u >>> 32).setWidth 32)).toNat))] ∧
    latchOf t p u = none ∧ Same [.latch, .out, .free] s t :=
  counterRead_completes up p u (hi := true) (by split <;> decide) (by split <;> rfl) (by cases u <;> rfl)

/-- The upper word of an 8-byte read is the one that its lower word has latched. -/
theorem writeGen_completes : ∃ t, exec (.upperWordLatchRead p 0x01000420 8) s = .next t ∧
    t.out = s.out ++ [.access (.bytes (leBytes 8 s.nor.writeGen.toNat))] ∧ Same [.latch, .out, .free] s t := by
  have done := execUpperWordLatchRead_up p 0x01000420 8 up
  have words : (readWords p 2 0x01000420 s).1 = leBytes 8 s.nor.writeGen.toNat := by
    have lower : counterAt (0x01000420 - 0x01000000) = some (false, false) := rfl
    have upper : counterAt (0x01000424 - 0x01000000) = some (false, true) := rfl
    have low : barWord s p 0x01000420 = s.nor.writeGen.setWidth 32 := barWord_counter (by decide) lower s p
    have high : barWord (barRead p 0x01000420 s) p 0x01000424 = (s.nor.writeGen >>> 32).setWidth 32 := by
      rw [barWord_counter (by decide) upper, barRead_counter (by decide) lower]
      exact congrArg (Option.getD · _) (latchOf_setLatch p false _ s)
    simp only [readWords, low, high, List.append_nil, leBytes_words]
  have out : (readWords p 2 0x01000420 s).2.out = s.out := readWords_same p 2 _ s .out (by decide)
  refine ⟨_, done, ?_, execUpperWordLatchRead_same done⟩
  rw [readReg_words p rfl 2, emit_out, out, words]

theorem setupWord_completes {o : Nat} (aligned : o % 4 = 0) (inBlock : 0x01000000 ≤ o)
    (plain : counterAt (o - 0x01000000) = none) : ∃ t, exec (.upperWordLatchRead p o 4) s = .next t ∧
    t.out = s.out ++ [.access (.bytes (leBytes 4 (setupWord s p (o - 0x01000000)).toNat))] ∧
    Same [.out, .free] s t := by
  refine ⟨_, execUpperWordLatchRead_up p o 4 up, ?_⟩
  rw [readReg_word p aligned, barWord_setup inBlock plain, barRead_setup inBlock plain]
  exact ⟨rfl, (emit_same _ _).call (by decide) ((drawn_same 1 s).widen (by decide))⟩

end

/-- The last register of the set-up block is below 0x2418. -/
theorem setupWord_beyond (s : State) (p : Pf) {o : Nat} (beyond : 0x2418 ≤ o) : setupWord s p o = 0 := by
  simp (disch := omega) only [setupWord, if_neg]

end Sys2Proof.Machine

open Sys2Proof Sys2Proof.Machine

/-- Settles O53, by the words of the pending and enable arrays, by a signal that keeps summary and enable bits, and by
the answer and the latch of each aligned read. -/
theorem eventSourceCommandsComplete : Obligations.EventSourceCommandsComplete := by
  unfold Obligations.EventSourceCommandsComplete
  refine ⟨?pending, ?enable, ?summary, ?control, ?rearm, ?lower, ?latched, ?live, ?whole, ?plain, ?beyond⟩
  case pending =>
    intro s p k v up
    have done : exec (.evsPendingWrite p k v) s = .next (writePend p k.toNat v s) :=
      congrArg Host.Outcome.next (if_pos up)
    refine ⟨_, done, ?_, fun j listed other => ?_, ?_, writePend_same p k.toNat v s⟩ <;> rw [evsOf_writePend]
    · exact (evsWord_withWord _ _ _ k.isLt).trans (if_pos rfl)
    · exact (evsWord_withWord _ _ _ listed).trans (if_neg other)
  case enable =>
    intro s p k v up
    have done : exec (.evsEnableWrite p k v) s = .next (writeEnable p k.toNat v s) :=
      congrArg Host.Outcome.next (if_pos up)
    refine ⟨_, done, ?_, fun j listed other => ?_, ?_, writeEnable_same p k.toNat v s⟩ <;> rw [evsOf_writeEnable]
    · exact (evsWord_withWord _ _ _ k.isLt).trans (if_pos rfl)
    · exact (evsWord_withWord _ _ _ listed).trans (if_neg other)
  case summary => exact fun s p up => ⟨_, congrArg Host.Outcome.next (if_pos up), evsFollow_spec p s⟩
  case control =>
    intro s p v up quiet
    have done : exec (.evsRearm p v) s = .next (writeEvsCtrl p v s) := congrArg Host.Outcome.next (if_pos up)
    refine ⟨_, done, ?_⟩
    rw [writeEvsCtrl_quiet s quiet, evsOf_intxFollow, evsOf_setEvs]
    exact ⟨rfl, rfl, rfl, rfl, (intxFollow_same _ _).call (by decide) ((setEvs_same _ _ _).widen (by decide))⟩
  case rearm =>
    intro s p v up rearm vec noAen sum opened
    exact ⟨_, congrArg Host.Outcome.next (if_pos up), writeEvsCtrl_rearm_messages rearm vec noAen sum opened⟩
  case lower => exact fun s p u up => lowerWord_completes up p u
  case latched =>
    intro s p u v up pending
    simpa only [pending, Option.getD_some] using upperWord_completes up p u
  case live =>
    intro s p u up idle
    simpa only [idle, Option.getD_none] using upperWord_completes up p u
  case whole => exact fun s p up => writeGen_completes up p
  case plain => exact fun s p o up aligned inBlock plain => setupWord_completes up p aligned inBlock plain
  case beyond => exact fun s p o beyond => setupWord_beyond s p beyond
end

section
/-! SUPPORT. Every command keeps to the frame that `mayChange` gives it. -/
namespace Sys2Proof.Machine

/-- An operation with a narrower frame. -/
theorem Ends.within {l m : List Field} {s : State} {o : Host.Outcome State Fault Refusal} (k : Ends m s o)
    (i : m.all (fun f => l.contains f) = true) : Ends l s o := Ends.call k i (Same.refl l s)

/-- Every command keeps to its frame. -/
theorem exec_frame : (i : Instr) → (s : State) → Ends (mayChange i) s (exec i s)
  | .coldReset, s => (execColdReset_ends s).within rfl
  | .powerOnReset, s => (execPowerOnReset_ends s).within rfl
  | .internalResetRelease pwrfailHigh, s => (execInternalResetRelease_ends pwrfailHigh s).within rfl
  | .strapSample levels, s => (execStrapSample_ends levels s).within rfl
  | .pwrfailReleaseWait, s => (execPwrfailReleaseWait_ends s).within rfl
  | .fundamentalReset cause r, s => (execFundamentalReset_ends cause r s).within rfl
  | .linkReset port, s => (execLinkReset_ends port s).within rfl
  | .subsystemReset value, s => (execSubsystemReset_ends value s).within rfl
  | .flr f, s => (execFlr_ends f s).within rfl
  | .vfEnableClear pf, s => (execVfEnableClear_ends pf s).within rfl
  | .controllerReset f, s => (execControllerReset_ends f s).within rfl
  | .shutdownNotification f, s => (execShutdownNotification_ends f s).within rfl
  | .brownOut, s => (execBrownOut_ends s).within rfl
  | .pwrfailFall r, s => (execPwrfailFall_ends r s).within rfl
  | .flushComplete pwrfailHigh, s => (execFlushComplete_ends pwrfailHigh s).within rfl
  | .thermalTrip r, s => (execThermalTrip_ends r s).within rfl
  | .sysrefLoss r, s => (execSysrefLoss_ends r s).within rfl
  | .armrefLoss, s => (execArmrefLoss_ends s).within rfl
  | .xt32Loss, s => (execXt32Loss_ends s).within rfl
  | .optionLoadAttempt fuses, s => (execOptionLoadAttempt_ends fuses s).within rfl
  | .plinthBoot env, s => (execPlinthBoot_ends env s).within rfl
  | .configSpaceBuild, s => (execConfigSpaceBuild_ends s).within rfl
  | .trialWatchdogExpiry r, s => (execTrialWatchdogExpiry_ends r s).within rfl
  | .trialConfirm prev stored, s => (execTrialConfirm_ends prev stored s).within rfl
  | .deepSleepArm entryTime, s => (execDeepSleepArm_ends entryTime s).within rfl
  | .rcvStatus path, s => (execRcvStatus_ends path s).within rfl
  | .rcvOpen path, s => (execRcvOpen_ends path s).within rfl
  | .rcvEraseSlot path arg0 ok, s => (execRcvEraseSlot_ends path arg0 ok s).within rfl
  | .rcvWriteChunk path arg0 arg1 arg2 data ok, s => (execRcvWriteChunk_ends path arg0 arg1 arg2 data ok s).within rfl
  | .rcvVerify path arg0 env, s => (execRcvVerify_ends path arg0 env s).within rfl
  | .rcvCommit path arg0 auth sig stored, s => (execRcvCommit_ends path arg0 auth sig stored s).within rfl
  | .rcvReboot path r, s => (execRcvReboot_ends path r s).within rfl
  | .rcvClose path, s => (execRcvClose_ends path s).within rfl
  | .recoveryWindowRead offset uncorrectable, s => (execRecoveryWindowRead_ends offset uncorrectable s).within rfl
  | .iaProgram page len first words sent, s => (execIaProgram_ends page len first words sent s).within rfl
  | .iaSectorErase sector sent, s => (execIaSectorErase_ends sector sent s).within rfl
  | .iaRemap sector sent, s => (execIaRemap_ends sector sent s).within rfl
  | .iaLockClear sector sent, s => (execIaLockClear_ends sector sent s).within rfl
  | .iaLockSet sector sent, s => (execIaLockSet_ends sector sent s).within rfl
  | .iaInfo bank sent, s => (execIaInfo_ends bank sent s).within rfl
  | .iaSuspend bank early, s => (execIaSuspend_ends bank early s).within rfl
  | .iaSuspendTakesEffect bank, s => (execIaSuspendTakesEffect_ends bank s).within rfl
  | .iaResume bank, s => (execIaResume_ends bank s).within rfl
  | .iaClearStatus bank, s => (execIaClearStatus_ends bank s).within rfl
  | .iaReadArray bank, s => (execIaReadArray_ends bank s).within rfl
  | .iaBankRead offset uncorrectable, s => (execIaBankRead_ends offset uncorrectable s).within rfl
  | .iaOperationComplete bank ok, s => (execIaOperationComplete_ends bank ok s).within rfl
  | .getNonce tag length part, s => (execGetNonce_ends tag length part s).within rfl
  | .ownerInstall tag length part data sig stored, s => (execOwnerInstall_ends tag length part data sig stored
      s).within rfl
  | .ownerLock tag length part data sig stored, s => (execOwnerLock_ends tag length part data sig stored s).within rfl
  | .ownerUnlock tag length part data sig stored, s => (execOwnerUnlock_ends tag length part data sig stored s).within
      rfl
  | .ownerReplace tag length part data sig stored, s => (execOwnerReplace_ends tag length part data sig stored
      s).within rfl
  | .ownerRelease tag length part data sig stored, s => (execOwnerRelease_ends tag length part data sig stored
      s).within rfl
  | .ownerKscDisable tag length part data sig stored, s => (execOwnerKscDisable_ends tag length part data sig stored
      s).within rfl
  | .ownerKscEnable tag length part data sig stored, s => (execOwnerKscEnable_ends tag length part data sig stored
      s).within rfl
  | .splitPartTimeout, s => (execSplitPartTimeout_ends s).within rfl
  | .trngHealthFail samples, s => (execTrngHealthFail_ends s samples).within rfl
  | .trngReseedAttempt samples, s => (execTrngReseedAttempt_ends samples s).within rfl
  | .trngPeriodicRestart samples, s => (execTrngPeriodicRestart_ends samples s).within rfl
  | .drbgReseed, s => (execDrbgReseed_ends s).within rfl
  | .keySlotGenerate pf slot, s => (execKeySlotGenerate_ends pf slot s).within rfl
  | .keySlotErase pf slot, s => (execKeySlotErase_ends pf slot s).within rfl
  | .oldKeyZeroise slot, s => (execOldKeyZeroise_ends slot s).within rfl
  | .keyTableStoreCommit ok, s => (execKeyTableStoreCommit_ends ok s).within rfl
  | .ksplitWrite pf value, s => (execKsplitWrite_ends pf value s).within rfl
  | .ideKmQuery port session, s => (execIdeKmQuery_ends port session s).within rfl
  | .ideKmKeyProg port session key value, s => (execIdeKmKeyProg_ends port session key s value).within rfl
  | .ideKmKSetGo port session key, s => (execIdeKmKSetGo_ends port session key s).within rfl
  | .ideKmKSetStop port session key, s => (execIdeKmKSetStop_ends port session key s).within rfl
  | .spdmGetVersion inst, s => (execSpdmGetVersion_ends inst s).within rfl
  | .spdmGetCapabilities inst body, s => (execSpdmGetCapabilities_ends inst s body).within rfl
  | .spdmNegotiateAlgorithms inst offers body, s => (execSpdmNegotiateAlgorithms_ends inst offers s body).within rfl
  | .spdmGetDigests inst, s => (execSpdmGetDigests_ends inst s).within rfl
  | .spdmGetCertificate inst slot offset length, s => (execSpdmGetCertificate_ends inst slot offset length s).within
      rfl
  | .spdmChallenge inst slot summary body, s => (execSpdmChallenge_ends inst slot s summary body).within rfl
  | .spdmGetMeasurements inst index signed body, s => (execSpdmGetMeasurements_ends inst index signed s body).within
      rfl
  | .spdmKeyExchange inst slot summary body, s => (execSpdmKeyExchange_ends inst slot s summary body).within rfl
  | .spdmFinish inst session mac, s => (execSpdmFinish_ends inst session mac s).within rfl
  | .spdmKeyUpdate inst session op mark, s => (execSpdmKeyUpdate_ends inst session s op mark).within rfl
  | .spdmHeartbeat inst session, s => (execSpdmHeartbeat_ends inst session s).within rfl
  | .spdmEndSession inst session, s => (execSpdmEndSession_ends inst session s).within rfl
  | .spdmChunkGet inst handle seq, s => (execSpdmChunkGet_ends inst handle seq s).within rfl
  | .spdmVendorDefined inst session msg, s => (execSpdmVendorDefined_ends inst session msg s).within rfl
  | .ledgerSign signs, s => (execLedgerSign_ends signs s).within rfl
  | .evrPageProgram part ok, s => (execEvrPageProgram_ends part ok s).within rfl
  | .droppedEventReport, s => (execDroppedEventReport_ends s).within rfl
  | .evrRead tag part startSeq count, s => (execEvrRead_ends tag part startSeq count s).within rfl
  | .evrAck tag part seq hash ok, s => (execEvrAck_ends tag part seq hash ok s).within rfl
  | .evrClear tag part uptoSeq length data sig ok, s => (execEvrClear_ends tag part uptoSeq length data sig ok
      s).within rfl
  | .firmwareImageDownload tag offset data out stored, s => (execFirmwareImageDownload_ends tag offset data out stored
      s).within rfl
  | .commitActionStage tag slot env stored, s => (execCommitActionStage_ends tag slot env stored s).within rfl
  | .commitActionPending tag slot env stored, s => (execCommitActionPending_ends tag slot env stored s).within rfl
  | .commitActionActivateStaged tag slot env stored, s => (execCommitActionActivateStaged_ends tag slot env stored
      s).within rfl
  | .updateGateQuery tag length, s => (execUpdateGateQuery_ends tag length s).within rfl
  | .linkTraining port partner, s => (execLinkTraining_ends port partner s).within rfl
  | .laneFailure port, s => (execLaneFailure_ends port s).within rfl
  | .configRequest f req, s => (execConfigRequest_ends f req s).within rfl
  | .busMasterEnableClear f, s => (execBusMasterEnableClear_ends f s).within rfl
  | .interruptModeChange f inputs, s => (execInterruptModeChange_ends f inputs s).within rfl
  | .atsEnableChange f enable, s => (execAtsEnableChange_ends f enable s).within rfl
  | .atsTranslationCompletion f page readOk writeOk needWrite tag, s => (execAtsTranslationCompletion_ends f page
      readOk writeOk needWrite tag s).within rfl
  | .invalidateRequest f itag lo hi, s => (execInvalidateRequest_ends f itag lo hi s).within rfl
  | .invalidateCompletion f itag, s => (execInvalidateCompletion_ends f itag s).within rfl
  | .completionTimeout tag, s => (execCompletionTimeout_ends tag s).within rfl
  | .unexpectedCompletion f, s => (execUnexpectedCompletion_ends f s).within rfl
  | .linkDown port, s => (execLinkDown_ends port s).within rfl
  | .doeObject port protocol dwords head, s => (execDoeObject_ends port protocol dwords s head).within rfl
  | .ideCheckFailure port stream sub, s => (execIdeCheckFailure_ends port stream sub s).within rfl
  | .dmaErrorCompletion tag kind, s => (execDmaErrorCompletion_ends tag kind s).within rfl
  | .mmioDoorbellWrite f qid isCq value, s => (execMmioDoorbellWrite_ends f qid isCq value s).within rfl
  | .shadowSweep f qid shadowTail, s => (execShadowSweep_ends f qid shadowTail s).within rfl
  | .parkTimeout f qid, s => (execParkTimeout_ends f qid s).within rfl
  | .cqHeadReread f qid head, s => (execCqHeadReread_ends f qid head s).within rfl
  | .commandFetch f sqe, s => (execCommandFetch_ends f sqe s).within rfl
  | .fetchResume f, s => (execFetchResume_ends f s).within rfl
  | .deleteIoSq tag qid, s => (execDeleteIoSq_ends tag qid s).within rfl
  | .deleteIoCq tag qid, s => (execDeleteIoCq_ends tag qid s).within rfl
  | .createIoSq tag q, s => (execCreateIoSq_ends tag q s).within rfl
  | .createIoCq tag q, s => (execCreateIoCq_ends tag q s).within rfl
  | .getLogPage tag lid length offset rae, s => (execGetLogPage_ends tag lid length offset rae s).within rfl
  | .bootLedgerLog tag length offset, s => (execBootLedgerLog_ends tag length offset s).within rfl
  | .dieHealthLog tag length offset, s => (execDieHealthLog_ends tag length offset s).within rfl
  | .armatureTraceLog tag lsp length offset, s => (execArmatureTraceLog_ends tag lsp length offset s).within rfl
  | .unitStateTableLog tag rae length offset, s => (execUnitStateTableLog_ends tag rae length offset s).within rfl
  | .parityStatusLog tag length offset, s => (execParityStatusLog_ends tag length offset s).within rfl
  | .identify tag cns nsid, s => (execIdentify_ends tag cns nsid s).within rfl
  | .abort tag sqid cid, s => (execAbort_ends tag sqid cid s).within rfl
  | .setFeatures tag fid sv nsid cdw11 data, s => (execSetFeatures_ends tag fid sv nsid cdw11 data s).within rfl
  | .getFeatures tag fid nsid cdw11, s => (execGetFeatures_ends tag fid nsid cdw11 s).within rfl
  | .namespaceKeyBinding tag sv nsid cdw11, s => (execNamespaceKeyBinding_ends tag sv nsid cdw11 s).within rfl
  | .packagePowerLimit tag sv cdw11, s => (execPackagePowerLimit_ends tag sv cdw11 s).within rfl
  | .asynchronousEventRequest tag, s => (execAsynchronousEventRequest_ends tag s).within rfl
  | .namespaceCreate tag ns, s => (execNamespaceCreate_ends tag ns s).within rfl
  | .namespaceDelete tag nsid, s => (execNamespaceDelete_ends tag nsid s).within rfl
  | .namespaceDeleteComplete nsid, s => (execNamespaceDeleteComplete_ends nsid s).within rfl
  | .namespaceAttachment tag nsid attach ctrls, s => (execNamespaceAttachment_ends tag nsid attach ctrls s).within rfl
  | .virtualizationManagement tag act, s => (execVirtualizationManagement_ends tag act s).within rfl
  | .doorbellBufferConfig tag shadow eventIdx, s => (execDoorbellBufferConfig_ends tag shadow eventIdx s).within rfl
  | .deviceSelfTest tag code, s => (execDeviceSelfTest_ends tag code s).within rfl
  | .formatNvm tag nsid lbaf ses, s => (execFormatNvm_ends tag nsid lbaf ses s).within rfl
  | .sanitize tag action noDealloc, s => (execSanitize_ends tag action noDealloc s).within rfl
  | .sanitizeComplete ok, s => (execSanitizeComplete_ends ok s).within rfl
  | .ioFlush tag nsid, s => (execIoFlush_ends tag nsid s).within rfl
  | .ioWrite tag io fua sgl data host badLines, s => (execIoWrite_ends tag io fua sgl data host badLines s).within rfl
  | .ioRead tag io limited sgl media, s => (execIoRead_ends tag io limited sgl media s).within rfl
  | .writeUncorrectable tag io, s => (execWriteUncorrectable_ends tag io s).within rfl
  | .ioCompare tag io data media, s => (execIoCompare_ends tag io data media s).within rfl
  | .writeZeroes tag io deac, s => (execWriteZeroes_ends tag io deac s).within rfl
  | .datasetManagement tag nsid ad ranges, s => (execDatasetManagement_ends tag nsid ad ranges s).within rfl
  | .ioVerify tag io media, s => (execIoVerify_ends tag io media s).within rfl
  | .reservationRegister tag nsid r, s => (execReservationRegister_ends tag nsid r s).within rfl
  | .reservationReport tag nsid, s => (execReservationReport_ends tag nsid s).within rfl
  | .reservationAcquire tag nsid r, s => (execReservationAcquire_ends tag nsid r s).within rfl
  | .reservationRelease tag nsid r, s => (execReservationRelease_ends tag nsid r s).within rfl
  | .salvageRead tag nsid slba count cont failedDies media, s => (execSalvageRead_ends tag nsid slba count cont
      failedDies media s).within rfl
  | .channelTraining ch dies eyes failTries, s => (execChannelTraining_ends ch dies eyes failTries s).within rfl
  | .retrainTrigger ch why, s => (execRetrainTrigger_ends ch why s).within rfl
  | .retrainReq ch value, s => (execRetrainReq_ends ch value s).within rfl
  | .retrainIdleWindow ch eyes us, s => (execRetrainIdleWindow_ends ch eyes us s).within rfl
  | .retrainForceTimeout ch us, s => (execRetrainForceTimeout_ends ch us s).within rfl
  | .dllLockLoss ch eyes us, s => (execDllLockLoss_ends ch eyes us s).within rfl
  | .dieOpIssue die, s => (execDieOpIssue_ends die s).within rfl
  | .dieOpComplete die res, s => (execDieOpComplete_ends die res s).within rfl
  | .dieSuspend die minRun, s => (execDieSuspend_ends die minRun s).within rfl
  | .dieResume die timeUp, s => (execDieResume_ends die timeUp s).within rfl
  | .dieBusyTimeout die, s => (execDieBusyTimeout_ends die s).within rfl
  | .dieResetComplete die ok, s => (execDieResetComplete_ends die ok s).within rfl
  | .stripeRowPack group ius, s => (execStripeRowPack_ends group ius s).within rfl
  | .stripeRowCommit group band row, s => (execStripeRowCommit_ends group band row s).within rfl
  | .stripeRowProgramFail group band row die, s => (execStripeRowProgramFail_ends group band row die s).within rfl
  | .mergeReadDone key media, s => (execMergeReadDone_ends key media s).within rfl
  | .fold group, s => (execFold_ends group s).within rfl
  | .foldIdleTimeout group, s => (execFoldIdleTimeout_ends group s).within rfl
  | .garbageCollection group, s => (execGarbageCollection_ends group s).within rfl
  | .staticWearMove die, s => (execStaticWearMove_ends die s).within rfl
  | .patrolScan die band corrected level, s => (execPatrolScan_ends die band corrected level s).within rfl
  | .refresh media, s => (execRefresh_ends media s).within rfl
  | .rebuildBand media, s => (execRebuildBand_ends media s).within rfl
  | .resyncComplete rows, s => (execResyncComplete_ends rows s).within rfl
  | .slotFrame slot meas, s => (execSlotFrame_ends slot meas s).within rfl
  | .armSyncEdge meas, s => (execArmSyncEdge_ends meas s).within rfl
  | .indexPulseMissing slot meas, s => (execIndexPulseMissing_ends slot meas s).within rfl
  | .tokenRefill, s => (execTokenRefill_ends s).within rfl
  | .injectDone slot, s => (execInjectDone_ends slot s).within rfl
  | .tuningWindowExpiry, s => (execTuningWindowExpiry_ends s).within rfl
  | .armReadConfig tag slot length, s => (execArmReadConfig_ends tag slot length s).within rfl
  | .armWriteConfig tag slot length block, s => (execArmWriteConfig_ends tag slot length block s).within rfl
  | .armSetModeNormal tag slot traceDiv, s => (execArmSetModeNormal_ends tag slot traceDiv s).within rfl
  | .armSetModeTrace tag slot traceStop traceDiv, s => (execArmSetModeTrace_ends tag slot traceStop traceDiv s).within
      rfl
  | .armSetModeInject tag slot traceDiv cdw13 cdw14 cdw15, s => (execArmSetModeInject_ends tag slot traceDiv cdw13
      cdw14 cdw15 s).within rfl
  | .armSetWindow tag mask seconds, s => (execArmSetWindow_ends tag mask seconds s).within rfl
  | .armSetPolicy tag throttle, s => (execArmSetPolicy_ends tag throttle s).within rfl
  | .cfgStageCommit stored, s => (execCfgStageCommit_ends stored s).within rfl
  | .policyRegisterWrite reg value, s => (execPolicyRegisterWrite_ends reg value s).within rfl
  | .configRecordUpdate stored, s => (execConfigRecordUpdate_ends stored s).within rfl
  | .chargerBankCheck vholdMv, s => (execChargerBankCheck_ends vholdMv s).within rfl
  | .chargerCharged vholdMv, s => (execChargerCharged_ends vholdMv s).within rfl
  | .chargerStallTimeout riseMv, s => (execChargerStallTimeout_ends riseMv s).within rfl
  | .chargerMeasureStart, s => (execChargerMeasureStart_ends s).within rfl
  | .chargerMeasureDone vholdMv riseMv capUf, s => (execChargerMeasureDone_ends vholdMv riseMv capUf s).within rfl
  | .chargerMeasureTimeout, s => (execChargerMeasureTimeout_ends s).within rfl
  | .vholdUndervolt vholdMv, s => (execVholdUndervolt_ends vholdMv s).within rfl
  | .vholdOvervolt vholdMv, s => (execVholdOvervolt_ends vholdMv s).within rfl
  | .restart env, s => (execRestart_ends env s).within rfl
  | .checkpointStart why, s => (execCheckpointStart_ends why s).within rfl
  | .checkpointCommit ok, s => (execCheckpointCommit_ends ok s).within rfl
  | .segmentWrite why, s => (execSegmentWrite_ends why s).within rfl
  | .segmentCommit ok, s => (execSegmentCommit_ends ok s).within rfl
  | .exportStart tag vf delta length certs, s => (execExportStart_ends tag vf delta length certs s).within rfl
  | .exportRound tag session, s => (execExportRound_ends tag session s).within rfl
  | .exportStop tag session, s => (execExportStop_ends tag session s).within rfl
  | .exportRead tag session length index media, s => (execExportRead_ends tag session length index media s).within rfl
  | .closeResume tag session keepTracking, s => (execCloseResume_ends tag session keepTracking s).within rfl
  | .closeRetire tag session, s => (execCloseRetire_ends tag session s).within rfl
  | .importBegin tag vf length hdr, s => (execImportBegin_ends tag vf length hdr s).within rfl
  | .importWrite tag session length shard, s => (execImportWrite_ends tag session length shard s).within rfl
  | .importFinish tag session length manifest, s => (execImportFinish_ends tag session length manifest s).within rfl
  | .importActivate tag session, s => (execImportActivate_ends tag session s).within rfl
  | .importAbort tag session, s => (execImportAbort_ends tag session s).within rfl
  | .mctpPacket pkt, s => (execMctpPacket_ends pkt s).within rfl
  | .mctpSetEndpointId op eid, s => (execMctpSetEndpointId_ends op eid s).within rfl
  | .mctpGetEndpointId, s => (execMctpGetEndpointId_ends s).within rfl
  | .mctpGetEndpointUuid, s => (execMctpGetEndpointUuid_ends s).within rfl
  | .mctpGetVersionSupport type, s => (execMctpGetVersionSupport_ends type s).within rfl
  | .mctpGetMessageTypeSupport, s => (execMctpGetMessageTypeSupport_ends s).within rfl
  | .i3cEntdaa addr, s => (execI3cEntdaa_ends addr s).within rfl
  | .i3cSetdasa addr, s => (execI3cSetdasa_ends addr s).within rfl
  | .i3cRstdaa, s => (execI3cRstdaa_ends s).within rfl
  | .i3cEnec events, s => (execI3cEnec_ends events s).within rfl
  | .i3cDisec events, s => (execI3cDisec_ends events s).within rfl
  | .i3cGetpid, s => (execI3cGetpid_ends s).within rfl
  | .i3cGetbcr, s => (execI3cGetbcr_ends s).within rfl
  | .i3cGetdcr, s => (execI3cGetdcr_ends s).within rfl
  | .i3cGetmrl, s => (execI3cGetmrl_ends s).within rfl
  | .i3cGetmwl, s => (execI3cGetmwl_ends s).within rfl
  | .i3cSetmrl value, s => (execI3cSetmrl_ends value s).within rfl
  | .i3cSetmwl value, s => (execI3cSetmwl_ends value s).within rfl
  | .i3cGetstatus, s => (execI3cGetstatus_ends s).within rfl
  | .miReadDataStructure slot dtyp portId ctrl, s => (execMiReadDataStructure_ends slot dtyp portId ctrl s).within rfl
  | .miSubsystemHealthPoll slot clear, s => (execMiSubsystemHealthPoll_ends slot clear s).within rfl
  | .miControllerHealthPoll slot start maxEntries, s => (execMiControllerHealthPoll_ends slot start maxEntries
      s).within rfl
  | .miConfigurationSet slot cfgId value, s => (execMiConfigurationSet_ends slot cfgId value s).within rfl
  | .miConfigurationGet slot cfgId, s => (execMiConfigurationGet_ends slot cfgId s).within rfl
  | .vpdRead slot dofst dlen, s => (execVpdRead_ends slot dofst dlen s).within rfl
  | .vpdWrite slot dofst dlen data stored, s => (execVpdWrite_ends slot dofst dlen data stored s).within rfl
  | .miReset slot, s => (execMiReset_ends slot s).within rfl
  | .snapshotCopy, s => (execSnapshotCopy_ends s).within rfl
  | .kscEnableChange enable, s => (execKscEnableChange_ends enable s).within rfl
  | .snapNow, s => (execSnapNow_ends s).within rfl
  | .kscPeriodicSnapshot, s => (execKscPeriodicSnapshot_ends s).within rfl
  | .kscSync, s => (execKscSync_ends s).within rfl
  | .evsSummarySignal pf, s => (execEvsSummarySignal_ends pf s).within rfl
  | .evsPendingWrite pf k value, s => (execEvsPendingWrite_ends pf k value s).within rfl
  | .evsEnableWrite pf k value, s => (execEvsEnableWrite_ends pf k value s).within rfl
  | .evsRearm pf value, s => (execEvsRearm_ends pf value s).within rfl
  | .upperWordLatchRead pf offset size, s => (execUpperWordLatchRead_ends pf offset size s).within rfl
  | .registerWrite pf offset size value reads, s => (execRegisterWrite_ends pf offset size value s reads).within rfl
  | .armrefReturn, s => (execArmrefReturn_ends s).within rfl
  | .xt32Return, s => (execXt32Return_ends s).within rfl
  | .vauxLoss, s => (execVauxLoss_ends s).within rfl
  | .controllerEnable f cc aqa, s => (execControllerEnable_ends f cc aqa s).within rfl
  | .msixVectorUnmask f vector, s => (execMsixVectorUnmask_ends f vector s).within rfl
  | .interruptMaskWrite f set value, s => (execInterruptMaskWrite_ends f set value s).within rfl
  | .interruptCoalescingTimeout f, s => (execInterruptCoalescingTimeout_ends f s).within rfl
  | .deviceSelfTestComplete result, s => (execDeviceSelfTestComplete_ends result s).within rfl
  | .formatNvmComplete nsid ok, s => (execFormatNvmComplete_ends nsid ok s).within rfl
  | .updateGateRefresh, s => (execUpdateGateRefresh_ends s).within rfl
  | .aspmL1Entry port, s => (execAspmL1Entry_ends port s).within rfl
  | .l1Exit port, s => (execL1Exit_ends port s).within rfl
  | .l0pWidthChange port width, s => (execL0pWidthChange_ends port width s).within rfl

end Sys2Proof.Machine
end

section
/-! SUPPORT. The operations of a controller's queues and interrupts leave every other function alone (R320 to R328). -/
namespace Sys2Proof.Machine

/-- Nothing but `f` changes among the functions. -/
def Beside (f : Func) (s t : State) : Prop := ∀ g, unitOf g ≠ unitOf f → fnOf t g = fnOf s g

namespace Beside

variable {f : Func} {s t u : State}

theorem refl (f : Func) (s : State) : Beside f s s := fun _ _ => rfl

theorem trans (h : Beside f s t) (k : Beside f t u) : Beside f s u := fun g other => (k g other).trans (h g other)

/-- An operation after others, the last one first. -/
theorem after (k : Beside f t u) (h : Beside f s t) : Beside f s u := h.trans k

theorem ite {c : Prop} [Decidable c] (h : Beside f s t) (k : Beside f s u) : Beside f s (if c then t else u) := by
  split <;> assumption

theorem fold {α : Type} {g : State → α → State} (h : ∀ s a, Beside f s (g s a)) :
    ∀ (x : List α) (s : State), Beside f s (x.foldl g s)
  | [], s => refl f s
  | a :: x, s => (h s a).trans (fold h x (g s a))

theorem setFn (f : Func) (x : Fn) (s : State) : Beside f s (setFn f x s) := fun _ other => fnOf_setFn_other other x s

theorem modFn (f : Func) (g : Fn → Fn) (s : State) : Beside f s (modFn f g s) := setFn f _ s

theorem modCtrl (f : Func) (g : Ctrl → Ctrl) (s : State) : Beside f s (modCtrl f g s) := modFn f _ s

end Beside

/-- What keeps the table of functions keeps every function. -/
theorem Same.beside {l : List Field} {f : Func} {s t : State} (h : Same l s t) (k : (!l.contains .fns) = true) :
    Beside f s t := fun g _ => fnOf_congr (h .fns (by simpa using k)) g

/-! ### Interrupts -/

theorem emit_beside (f : Func) (o : Output) (s : State) : Beside f s (emit o s) := (emit_same o s).beside rfl

theorem signalVector_beside (f : Func) (v : Nat) (s : State) : Beside f s (signalVector f v s) := by
  unfold signalVector
  refine .ite (.refl f s) ?_
  split
  · exact .ite (.refl f s) (.ite (.setFn f _ s) (emit_beside f _ s))
  · exact .ite (.setFn f _ s) (emit_beside f _ s)
  · exact .refl f s

theorem intxFollow_beside (f : Func) (s : State) : Beside f s (intxFollow f s) :=
  .ite (.refl f s) (.ite ((Beside.setFn f _ s).trans (emit_beside f _ _))
    ((Beside.setFn f _ s).trans (emit_beside f _ _)))

theorem signalCq_beside (f : Func) (q : Cq) (s : State) : Beside f s (signalCq f q s) := by
  unfold signalCq
  refine .ite (.refl f s) ?_
  split
  · exact .ite (.refl f s) (signalVector_beside f _ s)
  · exact (signalVector_beside f _ s).trans (intxFollow_beside f _)

/-! ### Completions -/

theorem retire_beside {f : Func} {t : Tag} (own : t.src = .fn f) (s : State) : Beside f s (retire t s) := by
  unfold retire
  rw [own]
  exact .modCtrl f _ s

theorem postCqe_beside (f : Func) (q : Cq) (e : Cqe) (s : State) : Beside f s (postCqe f q e s) :=
  have posted := (Beside.modCtrl f _ s).trans (emit_beside f _ _)
  .ite posted (posted.trans (signalCq_beside f _ _))

theorem deliverOne_beside {f : Func} {t : Tag} (own : t.src = .fn f) (st : Status) (dw0 : W32) (s : State) :
    Beside f s (deliverOne f t st dw0 s) := by
  have traced (e : Inflight) : Beside f s (kscCommand f e 1 st s) := (kscCommand_same f e 1 st s).beside rfl
  have retired (e : Inflight) := (traced e).trans (retire_beside own _)
  unfold deliverOne
  split
  · exact .refl f s
  · refine .ite (retired _) ?_
    split
    · exact retired _
    · split
      · exact retired _
      · exact .ite (.refl f s) (.ite ((traced _).trans (.modCtrl f _ _)) ((retired _).trans (postCqe_beside f _ _ _)))

theorem releaseFlushes_beside (f : Func) (sqid : Nat) : ∀ (n : Nat) (s : State), Beside f s (releaseFlushes f sqid n s)
  | 0, s => .refl f s
  | n + 1, s => by
    unfold releaseFlushes
    split
    · exact (deliverOne_beside rfl _ _ s).trans (releaseFlushes_beside f sqid n _)
    · exact .refl f s

theorem complete_beside {f : Func} {t : Tag} (own : t.src = .fn f) (st : Status) (dw0 : W32) (s : State) :
    Beside f s (complete t st dw0 s) := by
  have noted : Beside f s (if st = .stateConflict then evsSet 160 { s with nvm.conflicts := satAdd s.nvm.conflicts 1 }
      else s) :=
    .ite (fun g _ => rfl) (.refl f s)
  unfold complete
  rw [own]
  exact .after (releaseFlushes_beside f _ _ _) (.after (deliverOne_beside own st dw0 _) noted)

theorem finish_beside {f : Func} {t : Tag} (own : t.src = .fn f) (st : Status) (s : State) :
    Beside f s (finish t st s) := complete_beside own st 0 s

theorem enterFatal_beside (f : Func) (code : Nat) (s : State) : Beside f s (enterFatal f code s) := by
  have fatal : Beside f s (modFn f (fun x => { x with fatal := true, ctrl.cfs := true }) (endCommands f s)) :=
    .after (.modFn f _ _) (.after (.modCtrl f _ _) ((untagWt_same f s).beside rfl))
  exact .after ((event_same _ _ _ _).beside rfl) (.after ((hscMark_same _ _).beside rfl)
    (.after ((evsSet_same _ _).beside rfl) (.after ((ustChange_same _ _).beside rfl) fatal)))

/-- The outstanding Asynchronous Event Requests of a controller are its own. -/
def OwnAers (f : Func) (s : State) : Prop := ∀ r ∈ (fnOf s f).ctrl.aers, r.src = .fn f

theorem asyncEvent_beside {f : Func} {s : State} (own : OwnAers f s) (e : AsyncEvt) : Beside f s (asyncEvent f e s) :=
    by
  unfold asyncEvent
  refine .ite (.refl f s) ?_
  split
  · next t r listed =>
    exact .after (complete_beside (own t (listed ▸ List.mem_cons_self)) _ _ _)
      (.after ((noteAen_same f e _).beside rfl) (.after (emit_beside f _ _) (.modCtrl f _ s)))
  · exact .ite (.refl f s) (.modCtrl f _ s)

/-! ### Fetching -/

theorem fetchCmd_beside {f : Func} {t : Tag} (own : t.src = .fn f) {op : W8} {nsid : W32} {s u : State} {b : Bool}
    (fetched : fetchCmd f t op nsid s = some (u, b)) : Beside f s u := by
  have stalled : Beside f s (stall f s) := .ite (.refl f s) (.after (.modCtrl f _ _) (fun g _ => rfl))
  have taken (e : Inflight) : Beside f s (takeEntry f e s) :=
    .after ((kscCommand_same _ _ _ _ _).beside rfl) (.after (.modCtrl f _ _) (fun g _ => rfl))
  unfold fetchCmd at fetched
  split at fetched
  · cases fetched
  split at fetched
  · cases fetched; exact stalled
  split at fetched
  · cases fetched
  split at fetched
  · cases fetched; exact taken _
  split at fetched
  · cases fetched; exact taken _
  · cases fetched; exact (taken _).trans (finish_beside own _ _)

theorem runFn_beside {f : Func} {t : Tag} (own : t.src = .fn f) {k : State → State} (inside : ∀ s,
    Beside f s (k s)) (op : W8)
    (nsid : W32) (s : State) : Beside f s (runFn f t op nsid k s) := by
  unfold runFn
  split
  · exact inside s
  · split
    · next fetched => exact (fetchCmd_beside own fetched).trans (inside _)
    · next fetched => exact fetchCmd_beside own fetched
    · exact .refl f s

theorem runAdmin_beside {f : Func} {t : Tag} (own : t.src = .fn f) {k : State → State} (inside : ∀ s, Beside f s (k s))
    (i : Instr) (op : W8) (nsid : W32) (pf vf mgt : Bool) (s : State) :
    Beside f s (runAdmin i t op nsid pf vf mgt k s) := by
  unfold runAdmin
  rw [own]
  refine runFn_beside own (fun s => ?_) op nsid s
  unfold allowFrom
  rw [own]
  exact .ite (inside s) (finish_beside own _ s)

/-! ### Rings -/

theorem emitEventIdx_beside (f : Func) (qid v : Nat) (s : State) : Beside f s (emitEventIdx f qid v s) :=
    emit_beside f _ s

theorem setSq_beside (f : Func) (q : Sq) (s : State) : Beside f s (setSq f q s) := .modCtrl f _ s

theorem takeTail_beside (f : Func) (q : Sq) (v : Nat) (s : State) : Beside f s (takeTail f q v s) :=
  .ite (setSq_beside f _ s) ((setSq_beside f _ s).trans (emitEventIdx_beside f _ _ _))

theorem postWaiting_beside (f : Func) (qid : Nat) : ∀ (n : Nat) (s : State), Beside f s (postWaiting f qid n s)
  | 0, s => .refl f s
  | n + 1, s => by
    unfold postWaiting
    split
    · exact .refl f s
    · split
      · exact .refl f s
      · exact .ite (.refl f s) (((retire_beside rfl s).trans (postCqe_beside f _ _ _)).trans
          ((releaseFlushes_beside f _ _ _).trans (postWaiting_beside f qid n _)))

theorem takeHead_beside (f : Func) (q : Cq) (h : Nat) (s : State) : Beside f s (takeHead f q h s) :=
  (Beside.modCtrl f _ s).trans ((postWaiting_beside f _ _ _).trans (intxFollow_beside f _))

theorem doorbellError_beside {f : Func} {s : State} (own : OwnAers f s) (info : Nat) :
    Beside f s (doorbellError f info s) := asyncEvent_beside own _

theorem sqDoorbell_beside {f : Func} {s : State} (own : OwnAers f s) (qid v : Nat) : Beside f s
    (sqDoorbell f qid v s) := by
  unfold sqDoorbell
  split
  · exact doorbellError_beside own 0
  · refine .ite (doorbellError_beside own 1) (Beside.trans ?_ (takeTail_beside f _ _ _))
    exact .ite (fun g _ => rfl) (.refl f s)

theorem cqDoorbell_beside {f : Func} {s : State} (own : OwnAers f s) (qid v : Nat) : Beside f s
    (cqDoorbell f qid v s) := by
  unfold cqDoorbell
  split
  · exact doorbellError_beside own 0
  · exact .ite (takeHead_beside f _ _ s) (doorbellError_beside own 1)

end Sys2Proof.Machine
end

section
/-! SUPPORT. The commands of one controller's own queues and interrupts leave every other function alone. -/
namespace Sys2Proof.Machine

section
variable {f : Func} {t : Tag} (own : t.src = .fn f)
include own

theorem withFunc_beside {k : Func → State → State} (inside : ∀ s, Beside f s (k f s)) (s : State) :
    Beside f s (withFunc t k s) := by
  unfold withFunc
  rw [own]
  exact inside s

theorem deleteSq_beside (qid : Nat) (s : State) : Beside f s (deleteSq t qid f s) := by
  refine .ite (finish_beside own _ s) (.after (finish_beside own _ _)
      (.after (.modCtrl f _ _) (.fold (fun s e => ?_) _ s)))
  exact .after (finish_beside rfl _ _) (fun g _ => rfl)

theorem deleteCq_beside (qid : Nat) (s : State) : Beside f s (deleteCq t qid f s) :=
  .ite (finish_beside own _ s) (.ite (finish_beside own _ s)
    (.after (finish_beside own _ _) (.after (intxFollow_beside f _) (.modCtrl f _ s))))

theorem shadowConfig_beside (shadow eventIdx : W64) (s : State) : Beside f s (shadowConfig t shadow eventIdx f s) := by
  refine .ite (finish_beside own _ s) (.after (finish_beside own _ _) (.after (.fold (fun s q => ?_) _ _)
      (.modCtrl f _ s)))
  exact .after (emitEventIdx_beside f _ _ _) (setSq_beside f _ s)

theorem abortCmd_beside (sqid : Nat) (cid : W16) (s : State) : Beside f s (abortCmd t sqid cid f s) := by
  unfold abortCmd
  dsimp only
  split
  · exact complete_beside own _ _ s
  · exact .ite (complete_beside own _ _ s)
      (.after (complete_beside own _ _ _) (.after (finish_beside rfl _ _) (.modCtrl f _ s)))

end

theorem refuseUnlisted_beside (f : Func) (sqe : Sqe) (s : State) : Beside f s (refuseUnlisted f sqe s) := by
  have finishes (st : Status) (u : State) : Beside f u (finish ⟨.fn f, sqe.sqid, sqe.cid⟩ st u) :=
      finish_beside rfl st u
  refine .ite (finishes _ s) (.ite (finishes _ s) (.ite (.ite (finishes _ s) (.ite ?_ (finishes _ s))) (.refl f s)))
  exact .after (finishes _ _) ((eventWith_same _ _ _ _ _).beside rfl)

theorem commandFetch_beside (f : Func) (sqe : Sqe) {s t : State} (done : exec (.commandFetch f sqe) s = .next t) :
    Beside f s t := by
  cases done
  dsimp only
  split
  · exact .refl f s
  · refine .ite (.refl f s) (.ite (enterFatal_beside f _ s) ?_)
    split
    · exact .refl f s
    · next fetched => exact fetchCmd_beside rfl fetched
    · next fetched => exact .after (refuseUnlisted_beside f sqe _) (fetchCmd_beside rfl fetched)

theorem shadowSweep_beside {f : Func} (qid tail : Nat) {s t : State} (own : OwnAers f s)
    (done : exec (.shadowSweep f qid tail) s = .next t) : Beside f s t := by
  cases done
  refine .ite (.refl f s) ?_
  split
  · exact .refl f s
  · split
    · exact .refl f s
    · exact .refl f s
    · exact .ite (doorbellError_beside own 1) (.ite (.refl f s) (takeTail_beside f _ _ s))
    · exact .ite (doorbellError_beside own 1) (.ite (setSq_beside f _ s) (takeTail_beside f _ _ s))

theorem cqHeadReread_beside {f : Func} (qid head : Nat) {s t : State} (own : OwnAers f s)
    (done : exec (.cqHeadReread f qid head) s = .next t) : Beside f s t := by
  cases done
  refine .ite (.refl f s) ?_
  split
  · exact .refl f s
  · exact .ite (doorbellError_beside own 1) (.after (emitEventIdx_beside f _ _ _) (takeHead_beside f _ _ s))

theorem parkTimeout_beside (f : Func) (qid : Nat) {s t : State} (done : exec (.parkTimeout f qid) s = .next t) :
    Beside f s t := by
  cases done
  refine .ite (.refl f s) ?_
  split
  · exact .refl f s
  · exact .ite (.after (emitEventIdx_beside f _ _ _) (setSq_beside f _ s)) (.refl f s)

theorem releaseVector_beside (f : Func) (v : Nat) (s : State) : Beside f s (releaseVector f v s) :=
  .ite (.after (signalVector_beside f v _) (.setFn f _ s)) (.refl f s)

theorem msixVectorUnmask_beside (f : Func) (v : Option Nat) {s t : State}
    (done : exec (.msixVectorUnmask f v) s = .next t) : Beside f s t := by
  cases done
  refine .ite (.refl f s) ?_
  split
  · exact .ite (.refl f s) (.after (releaseVector_beside f _ _) (.modFn f _ s))
  · exact .after (.fold (fun s v => releaseVector_beside f v s) _ _) (.modFn f _ s)

theorem writeIntMask_beside (f : Func) (set : Bool) (v : W32) (s : State) : Beside f s (writeIntMask f set v s) := by
  unfold writeIntMask
  dsimp only
  split
  · exact .after (.fold (fun s q => .ite (signalCq_beside f q s) (.refl f s)) _ _) (.modCtrl f _ s)
  · exact .after (intxFollow_beside f _) (.modCtrl f _ s)

theorem fnWrite_beside {f : Func} {k : State → State} (inside : ∀ s, Beside f s (k s)) (s : State) :
    Beside f s (fnWrite f k s) :=
  .ite (.refl f s) (.ite ((frozenWrite_same s).beside rfl) (inside s))

theorem interruptCoalescingTimeout_beside (f : Func) {s t : State}
    (done : exec (.interruptCoalescingTimeout f) s = .next t) : Beside f s t := by
  cases done
  refine .ite (.refl f s) (.fold (fun s q => ?_) _ s)
  exact .ite (.refl f s) (.after (signalCq_beside f _ _) (.modCtrl f _ s))

/-- A command of one controller's own queues and interrupts leaves every other function alone. -/
theorem exec_beside {i : Instr} {f : Func} {s t : State} (only : onlyFunction i = some f) (own : OwnAers f s)
    (done : exec i s = .next t) : Beside f s t := by
  have source {tag : Tag} (h : onlyFunction.fnOfTag tag = some f) : tag.src = .fn f := by
    unfold onlyFunction.fnOfTag at h
    split at h <;> simp_all
  unfold onlyFunction at only
  split at only
  case h_1 qid isCq v =>
    cases only; cases done
    exact .ite (.refl f s) (.ite (fun g _ => rfl)
        (.ite (.refl f s) (.ite (cqDoorbell_beside own _ _) (sqDoorbell_beside own _ _))))
  case h_2 => cases only; exact shadowSweep_beside _ _ own done
  case h_3 => cases only; exact parkTimeout_beside _ _ done
  case h_4 => cases only; exact cqHeadReread_beside _ _ own done
  case h_5 => cases only; exact commandFetch_beside _ _ done
  case h_6 => cases only; cases done; exact .ite (.modCtrl f _ s) (.refl f s)
  case h_7 => cases only; cases done; exact fnWrite_beside (writeIntMask_beside f _ _) s
  case h_8 => cases only; exact msixVectorUnmask_beside _ _ done
  case h_9 => cases only; exact interruptCoalescingTimeout_beside _ done
  case h_10 =>
    cases done
    exact runAdmin_beside (source only) (withFunc_beside (source only) (deleteSq_beside (source only) _)) _ _ _ _ _ _ s
  case h_11 =>
    cases done
    exact runAdmin_beside (source only) (withFunc_beside (source only) (deleteCq_beside (source only) _)) _ _ _ _ _ _ s
  case h_12 =>
    cases done
    exact runAdmin_beside (source only) (withFunc_beside (source only) (abortCmd_beside (source only) _ _)) _ _ _ _ _
        _ s
  case h_13 =>
    cases done
    exact runAdmin_beside (source only) (withFunc_beside (source only) (shadowConfig_beside (source only) _ _)) _ _ _
        _ _ _ s
  case h_14 => cases only

end Sys2Proof.Machine

open Sys2Proof Sys2Proof.Machine

/-- Settles O55, by the frame of each command, and by the operations of one controller's queues changing its function
only. -/
theorem commandsChangeOnlyTheirParts : Obligations.CommandsChangeOnlyTheirParts :=
  ⟨fun i s _ done => (exec_frame i s).of_next done, fun _ _ _ _ g only own done => exec_beside only own done g⟩
end

section
/-! SUPPORT. What a step is with a command waiting, and with none (R585, R591, R594; log 14). -/
namespace Sys2Proof.Machine

theorem step_cons {c : Instr} {r : List Instr} {s : State} (waiting : s.pending = c :: r) :
    step s = exec c { s with pending := r } := by
  simp only [step, waiting]

theorem step_nil {s : State} (quiet : s.pending = []) : step s = idleStep s := by
  simp only [step, quiet]

/-- What a step that goes on did. -/
theorem step_cases {s t : State} (done : step s = .next t) :
    (∃ c r, exec c { s with pending := r } = .next t) ∨
    (∃ h r u, runHeld h { s with mgt.held := [] } = .next u ∧ t = keepHeld r u) ∨ t = idleTick s := by
  unfold step at done
  split at done
  · unfold idleStep at done
    split at done
    · next h r _ _ =>
      split at done
      · next u ran => cases done; exact .inr (.inl ⟨h, r, u, ran, rfl⟩)
      · next stops => exact absurd done (stops t)
    · cases done; exact .inr (.inr rfl)
  · next c r _ => exact .inl ⟨c, r, done⟩

/-- The oldest held request runs once DEVICE_MODE is Running, and those behind it go on waiting. -/
theorem idleStep_held {s : State} {h : Held} {r : List Held} (up : fullyUp s = true) (held : s.mgt.held = h :: r)
    {t : State} (runs : runHeld h { s with mgt.held := [] } = .next t) : idleStep s = .next (keepHeld r t) := by
  simp only [idleStep, up, held, runs]

theorem idleStep_unheld {s : State} (held : s.mgt.held = []) : idleStep s = .next (kscSend s) := by
  unfold idleStep
  rw [held]
  cases fullyUp s <;> rfl

theorem kscSend_packet {s : State} {p : KscPkt} {r : List KscPkt} (active : s.ksc.active = true)
    (queued : s.ksc.fifo = p :: r) : kscSend s =
      drawn 1 (emit (.ksc ((kscBytes (draw 16 s) p).map kscClock)) { s with ksc.fifo := r }) := by
  simp only [kscSend, active, queued]

theorem kscSend_fill {s : State} (active : s.ksc.active = true) (empty : s.ksc.fifo = []) :
    kscSend s = emit (.ksc [(0, 0)]) s := by
  simp only [kscSend, active, empty]
  rfl

theorem kscSend_inactive {s : State} (stopped : s.ksc.active = false) : kscSend s = s := by
  simp only [kscSend, stopped]

end Sys2Proof.Machine

open Sys2Proof Sys2Proof.Machine

/-- Settles O56, by the definition of a step with a command waiting and by the branches of the idle step. -/
theorem stepRunsTheFrontCommand : Obligations.StepRunsTheFrontCommand := by
  unfold Obligations.StepRunsTheFrontCommand
  refine ⟨?front, ?queue, ?held, ?packet, ?fill, ?quiet, ?words⟩
  case front => exact fun c s => step_cons rfl
  case queue => exact fun c r s waiting => step_cons waiting
  case held =>
    intro s i r none up held t done
    rw [step_nil none]
    exact idleStep_held up held done
  case packet =>
    intro s p r none held active queued
    rw [step_nil none, idleStep_unheld held, kscSend_packet active queued]
  case fill =>
    intro s none held active empty
    rw [step_nil none, idleStep_unheld held, kscSend_fill active empty]
  case quiet =>
    intro s none held stopped
    rw [step_nil none, idleStep_unheld held, kscSend_inactive stopped]
  case words => exact fun s n w => ⟨rfl, rfl⟩

/-- Settles O57: each register holds its Reset column by definition, and the tables of the array are empty at reset. -/
theorem resetHoldsTheStatedValues : Obligations.ResetHoldsTheStatedValues := by
  have inv : Safety.Inv State.reset := ⟨rfl, rfl, rfl, rfl, fun held => absurd rfl held⟩
  refine ⟨inv, rfl, rfl, rfl, rfl, rfl, rfl, rfl, rfl, rfl, rfl, rfl, rfl, rfl, rfl, rfl, rfl, rfl, rfl, rfl, ?_, rfl⟩
  exact fun f => rfl
end

section
/-! SUPPORT. Fuses only burn: two commands write the counter region, and both only add to what is blown (R91, R267,
R268). -/
namespace Sys2Proof.Machine

open Safety (blown)

/-! ## One field of three fuses -/

theorem blown_refl {w : Nat} (x : Triple w) : blown x x :=
  ⟨BitVec.and_self, BitVec.and_self, BitVec.and_self⟩

theorem blown_or {w : Nat} (x : Triple w) (u v z : BitVec w) : blown x ⟨x.a ||| u, x.b ||| v, x.c ||| z⟩ := by
  refine ⟨?_, ?_, ?_⟩ <;> ext i <;> simp +contextual

theorem blown_trans {w : Nat} {x y z : Triple w} (h : blown x y) (k : blown y z) : blown x z := by
  have step {a b c : BitVec w} (h : a &&& b = a) (k : b &&& c = b) : a &&& c = a := by
    rw [← h, BitVec.and_assoc, k]
  exact ⟨step h.1 k.1, step h.2.1 k.2.1, step h.2.2 k.2.2⟩

/-- A completed field is blown wherever one of the three fuses of a bit was. -/
theorem blown_completed {w : Nat} (x : Triple w) : blown x x.completed := by
  refine ⟨?_, ?_, ?_⟩ <;> ext i <;> simp +contextual [Triple.completed]

/-! ## The counter region -/

/-- Every fuse of the counter region that is blown stays blown. -/
def Burns (s t : State) : Prop :=
  blown s.fuses.svnMin t.fuses.svnMin ∧ blown s.fuses.keyRevoke t.fuses.keyRevoke ∧ blown s.fuses.kscOff t.fuses.kscOff

theorem Burns.trans {s t u : State} (h : Burns s t) (k : Burns t u) : Burns s u :=
  ⟨blown_trans h.1 k.1, blown_trans h.2.1 k.2.1, blown_trans h.2.2 k.2.2⟩

/-- What leaves the fuses as they are burns none. -/
theorem Same.burns {l : List Field} {s t : State} (h : Same l s t) (k : (!l.contains .fuseBits) = true) :
    Burns s t := by
  obtain ⟨svn, key, ksc⟩ := h .fuseBits (by simpa using k)
  rw [Burns, svn, key, ksc]
  exact ⟨blown_refl _, blown_refl _, blown_refl _⟩

theorem Burns.of_fuses {s t : State} (h : t.fuses = s.fuses) : Burns s t := by
  rw [Burns, h]
  exact ⟨blown_refl _, blown_refl _, blown_refl _⟩

theorem Burns.refl (s : State) : Burns s s := .of_fuses rfl

theorem Burns.ite {c : Prop} [Decidable c] {s t u : State} (h : Burns s t) (k : Burns s u) :
    Burns s (if c then t else u) := by
  split <;> assumption

/-- A record update that leaves the fuses. -/
theorem Burns.put {s t u : State} (h : Burns s t) (e : u.fuses = t.fuses) : Burns s u := h.trans (.of_fuses e)

/-- What an operation burns, from another state with the same fuses. -/
theorem Burns.start {s t u : State} (h : Burns t u) (e : t.fuses = s.fuses) : Burns s u := (of_fuses e).trans h

/-- An operation after others, the last one first. -/
theorem Burns.after {s t u : State} (k : Burns t u) (h : Burns s t) : Burns s u := h.trans k

theorem Burns.fold {α : Type} {g : State → α → State} (h : ∀ s a, Burns s (g s a)) :
    ∀ (x : List α) (s : State), Burns s (x.foldl g s)
  | [], s => .refl s
  | a :: x, s => (h s a).trans (fold h x (g s a))

theorem completeBurns_burns (s : State) : Burns s (completeBurns s) :=
  ⟨blown_completed _, blown_completed _, blown_completed _⟩

theorem raiseFloor_burns (n : Nat) (s : State) : Burns s (raiseFloor n s) := by
  unfold raiseFloor
  refine .ite (.refl s) (.after ((eventWith_same _ _ _ _ _).burns rfl) ?_)
  exact ⟨blown_or _ _ _ _, blown_refl _, blown_refl _⟩

/-! ## The two commands that burn -/

/-- Firmware completes cut burns first; the rest of its start touches no fuse. -/
theorem firmwareStart_burns (e : BootEnv) (s : State) : Burns s (firmwareStart e s) := by
  have first : Burns s (completeBurns { s with boot.watchdogFired := false }) :=
    .start (completeBurns_burns _) rfl
  have noted (c : Nat) (d0 d1 : Nat) (u : State) : Burns u (event c d0 d1 u) := (event_same c d0 d1 u).burns rfl
  have owed (l : List Owed) (u : State) : Burns u (l.foldl (fun s o => event o.code o.d0 o.d1 s) u) := by
    refine .fold ?_ l u
    exact fun s o => noted o.code o.d0 o.d1 s
  unfold firmwareStart
  refine .after ((kscFollow_same _).burns rfl) (.after ((trimStops_same _).burns rfl) ?_)
  refine .after (.ite (noted _ _ _ _) (.refl _)) (.after ((foundTear_same _ _ _).burns rfl) ?_)
  exact .after (owed _ _) (.put (.after (.ite (.refl _) (noted _ _ _ _)) first) rfl)

theorem bootImage_burns (e : BootEnv) (c : SlotId × BootAs) (fast : Bool) (refused : List (SlotId × Nat)) (s : State) :
    Burns s (bootImage e c fast refused s) := by
  refine .after (firmwareStart_burns e _) (.put (.after ((plinthRecord_same _ _ _ _).burns rfl) ?_) rfl)
  refine .after ((writeOut_same _ _ _).burns rfl) (.after ((formBootRecords_same _ _).burns rfl) ?_)
  exact .after ((foundTear_same _ _ _).burns rfl) (.start ((plinthP7_same _).burns rfl) rfl)

theorem plinth_burns (e : BootEnv) (s : State) : Burns s (plinth e s) := by
  have read : Burns s (plinthP3 e s) := (plinthP3_same e s).burns rfl
  unfold plinth
  refine .ite (.after ((enterRecovery_same _ _ _).burns rfl) read) ?_
  split
  · exact .after (bootImage_burns _ _ _ _ _) read
  · exact .after ((enterRecovery_same _ _ _).burns rfl) read

theorem confirmTrial_burns (prev : ImageEnv) (stored : Bool) (s : State) : Burns s (confirmTrial prev stored s) := by
  unfold confirmTrial
  split
  · exact .refl s
  · next i _ =>
    have kept : Burns s (storeRecord (.boot (confirmRec (bootRecBase s) i)) (stored && canStore .boot s) s) :=
      (storeRecord_same _ _ _).burns rfl
    refine .ite kept (.after (raiseFloor_burns _ _) (.after ((event_same _ _ _ _).burns rfl) ?_))
    exact .after ((evsSet_same _ _).burns rfl) (.put kept rfl)

/-! ## Every command -/

/-- The commands whose frame holds the fuses of the counter region. -/
theorem burner_cases (i : Instr) :
    (!(mayChange i).contains .fuseBits) = true ∨ (∃ e, i = .plinthBoot e) ∨ ∃ p b, i = .trialConfirm p b := by
  cases i
  case plinthBoot e => exact .inr (.inl ⟨e, rfl⟩)
  case trialConfirm p b => exact .inr (.inr ⟨p, b, rfl⟩)
  all_goals exact .inl rfl

theorem exec_burns {i : Instr} {s t : State} (done : exec i s = .next t) : Burns s t := by
  obtain keeps | ⟨e, rfl⟩ | ⟨p, b, rfl⟩ := burner_cases i
  · exact ((exec_frame i s).of_next done).burns keeps
  · cases done
    exact .ite (plinth_burns e s) (.refl s)
  · cases done
    exact .ite (confirmTrial_burns p b s) (.refl s)

/-- A request that was held on the path runs as its command. -/
theorem runHeld_burns (h : Held) {s t : State} (done : runHeld h s = .next t) : Burns s t := by
  cases h with
  | admin i => exact exec_burns done
  | vpdRead slot o n => exact ((execVpdRead_ends slot o n s).of_next done).burns rfl
  | vpdWrite slot o n d b => exact ((execVpdWrite_ends slot o n d b s).of_next done).burns rfl
  | unlisted slot op => cases done; exact (refusePathCode_same slot op s).burns rfl
  | reset slot => exact ((execMiReset_ends slot s).of_next done).burns rfl

theorem step_burns {s t : State} (done : step s = .next t) : Burns s t := by
  obtain ⟨c, r, ran⟩ | ⟨h, r, u, ran, rfl⟩ | rfl := step_cases done
  · exact (exec_burns ran).start rfl
  · exact ((runHeld_burns h ran).start rfl).put rfl
  · exact (idleTick_same s).burns rfl

end Sys2Proof.Machine

open Sys2Proof Sys2Proof.Machine

/-- Settles O60: of all commands two write the counter region, and both add to what is blown. -/
theorem fusesOnlyBurn : Obligations.FusesOnlyBurn := fun _ _ done => step_burns done
end

section
/-! SUPPORT. The operations that write the Image Array or hold a download session keep the array's invariant and the
bytes of permanently locked sectors (R142, R165, R254). -/
namespace Sys2Proof.Machine

/-- An operation after others, the last one first. -/
theorem Keeps.after {s t u : State} (k : Keeps t u) (h : Keeps s t) : Keeps s u := h.trans k

/-- A record update that leaves the array and the download session. -/
theorem Keeps.put {s t u : State} (h : Keeps s t) (nor : u.nor = t.nor) (upd : u.upd = t.upd) : Keeps s u := by
  refine h.trans fun i => ⟨?_, fun a _ => by simp only [cell, nor]⟩
  simpa only [Safety.Inv, nor, upd] using i

/-- What an operation keeps, from another state with the same array and download session. -/
theorem Keeps.start {s t u : State} (h : Keeps t u) (nor : t.nor = s.nor) (upd : t.upd = s.upd) : Keeps s u :=
  ((Keeps.refl s).put nor upd).trans h

/-- A download session replaced by none, or by one that does not hold slot G. -/
theorem Keeps.session {s t : State} (nor : t.nor = s.nor) (slot : t.upd.holder ≠ none → t.upd.slot ≠ some .g) :
    Keeps s t := by
  refine fun i => ⟨?_, fun a _ => by simp only [cell, nor]⟩
  obtain ⟨mem, programmed, bank0, bank1, -⟩ := i
  rw [← nor] at mem programmed bank0 bank1
  exact ⟨mem, programmed, bank0, bank1, slot⟩

/-- A change of the download session that keeps its holder and slot. -/
theorem Keeps.sameSession {s t : State} (nor : t.nor = s.nor) (holder : t.upd.holder = s.upd.holder)
    (slot : t.upd.slot = s.upd.slot) : Keeps s t := by
  intro i
  refine Keeps.session nor ?_ i
  rw [holder, slot]
  exact i.2.2.2.2

/-! ## The record logs and the stop log -/

theorem writeStop_keeps (bootIndex flushMs dumped : W32) (cause : W8) (ok : Bool) (s : State) :
    Keeps s (writeStop bootIndex flushMs dumped cause ok s) := by
  unfold writeStop
  dsimp only
  split
  · next room =>
    have stored (c : CfgStore) : Keeps s (bumpGen 1 { s with cfg := c }) :=
      (bumpGen_keeps 1 _).start rfl rfl
    refine .ite (stored _) (.after (undefineUnits_keeps (fun u lo hi => ?_) _) (stored _))
    have short : (s.cfg.part (stopTarget s)).stop.recs.length < 8192 := by
      simp only [StopLog.room, Bool.and_eq_true, decide_eq_true_eq] at room
      exact room.2
    have sector : u / 8192 = cfgFirst (stopTarget s) + 7 := by
      rw [sectorBytes] at lo hi
      omega
    rw [sector]
    cases stopTarget s <;> decide
  · exact .refl s

theorem programStop_keeps (cause : W8) (flushMs dumped : W32) (ok : Bool) (s : State) :
    Keeps s (programStop cause flushMs dumped ok s) := .ite (.refl s) (writeStop_keeps _ _ _ _ _ s)

theorem trimStops_keeps (s : State) : Keeps s (trimStops s) := by
  refine .ite (.refl s) (.after (bumpGen_keeps 1 _) (eraseContents_keeps ?_ s))
  cases newestStopIn1 s.cfg <;> decide

/-! ## The event recorder -/

theorem drainExcess_keeps : ∀ (n : Nat) (s : State), Keeps s (drainExcess n s)
  | 0, s => .refl s
  | n + 1, s => .ite (.after (drainExcess_keeps n _) (programPage_keeps .gen true s)) (.refl s)

theorem ledgerFirst_keeps (b : Pf) (s : State) : Keeps s (ledgerFirst b s) := by
  cases b <;> exact .ite (drainQueue_keeps _ _ s) (.refl s)

theorem placeRecords_keeps (boot gen : List EvrRec) (s : State) : Keeps s (placeRecords boot gen s) := by
  have restored : Keeps s (restoreRecs .gen gen (restoreRecs .boot boot s)) :=
    .after ((restoreRecs_same _ _ _).keeps rfl) ((restoreRecs_same _ _ _).keeps rfl)
  have traced (l : List EvrRec) (u : State) : Keeps u (l.foldl (fun s r => kscEvent r s) u) := by
    refine .fold ?_ l u
    exact fun s r => (kscEvent_same r s).keeps rfl
  unfold placeRecords
  dsimp only
  refine .after (drainExcess_keeps _ _) ?_
  split
  · refine .after ((signLedger_same _ _).keeps rfl) (.put (.after (traced _ _) ?_) rfl rfl)
    exact .put restored rfl rfl
  · refine .after (traced _ _) ?_
    exact .put restored rfl rfl

theorem applyClear_keeps (t : Tag) (p : EvrPart) (r : EvrRec) (ok : Bool) (s : State) :
    Keeps s (applyClear t p r ok s) := by
  have erased (l : List EvrSector) (u : State) : Keeps u (l.foldl (fun s x => eraseUnits (evrSectorAt p x.place) s)
      u) := by
    refine .fold ?_ l u
    exact fun s x => eraseUnits_keeps (evrSectorAt_unlocked p x.place) s
  have written : Keeps s (writeOut p ok (formRec p 0x0009 0
      (le32 r.seq.toNat ++ le32 (ownerEpoch s).toNat ++ digestBytes (chainHash r)) s)) :=
    .after (writeOut_keeps p ok _) ((formRec_same _ _ _ _ _).keeps rfl)
  refine .after ((finish_same _ _ _).keeps rfl)
      (.after (bumpGen_keeps _ _) (.after ((setLedger_same _ _ _).keeps rfl) ?_))
  exact .after (erased _ _) written

theorem evrClear_keeps (t : Tag) (p : EvrPart) (upto : W32) (length : W16) (data : Bytes) (sig : DualVerdict)
    (ok : Bool)
    (s : State) : Keeps s (evrClear t p upto length data sig ok s) := by
  have finished (st : Status) (u : State) : Keeps u (finish t st u) := (finish_same t st u).keeps rfl
  unfold evrClear
  split
  · exact .refl s
  · split
    · exact finished _ s
    · next q _ _ r _ =>
      have cleared : Keeps s (setNonce q none s) := (setNonce_same q none s).keeps rfl
      refine .ite (finished _ s) (.ite (.after (finished _ _) cleared)
          (.ite ?_ (.after (applyClear_keeps t p r ok _) cleared)))
      exact .after (finished _ _) (.after ((event_same _ _ _ _).keeps rfl) cleared)

theorem evrAck_keeps (t : Tag) (part : BitVec 2) (seq : W32) (hash : BitVec 128) (ok : Bool) (s : State) :
    Keeps s (evrAck t part seq hash ok s) := by
  have finished (st : Status) (u : State) : Keeps u (finish t st u) := (finish_same t st u).keeps rfl
  unfold evrAck
  split
  · exact finished _ s
  · next p _ =>
    refine .ite (finished _ s) (.ite (finished _ s) ?_)
    split
    · exact .after (finished _ _) ((event_same _ _ _ _).keeps rfl)
    · refine .ite (.after (finished _ _) (.after (writeOut_keeps p _ _)
        (.after ((formRec_same _ _ _ _ _).keeps rfl) ?_)))
        (.after (finished _ _) ((event_same _ _ _ _).keeps rfl))
      exact .after (.ite (writeOut_keeps p _ _) (.refl _)) ((setLedger_same _ _ _).keeps rfl)

/-! ## The owner record and the configuration record -/

theorem ownerCommit_keeps (t : Tag) (a : OwnerAct) (pub : Bytes) (stored : Bool) (s : State) :
    Keeps s (ownerCommit t a pub stored s) := by
  have kept (b : RecBody) (ok : Bool) : Keeps s (storeRecord b ok s) := storeRecord_keeps b ok s
  unfold ownerCommit
  refine .ite (.after ((finish_same _ _ _).keeps rfl) (.after ((kscFollow_same _).keeps rfl) ?_))
    (.after ((finish_same _ _ _).keeps rfl) (kept _ _))
  exact .ite (kept _ _) (.after ((event_same _ _ _ _).keeps rfl) (.after ((evsSet_same _ _).keeps rfl) (kept _ _)))

theorem ownerCheck_keeps (t : Tag) (r : Requester) (a : OwnerAct) (data : Bytes) (sig : DualVerdict) (stored : Bool)
    (s : State) : Keeps s (ownerCheck t r a data sig stored s) := by
  have finished (st : Status) (u : State) : Keeps u (finish t st u) := (finish_same t st u).keeps rfl
  have cleared : Keeps s (setNonce r none s) := (setNonce_same r none s).keeps rfl
  unfold ownerCheck
  refine .ite (finished _ s) (.ite (.after (finished _ _) cleared)
      (.ite ?_ (.after (ownerCommit_keeps t a _ stored _) cleared)))
  exact .after (finished _ _) (.after ((event_same _ _ _ _).keeps rfl) cleared)

theorem ownerCommand_keeps (t : Tag) (a : OwnerAct) (length : W16) (part : BitVec 2) (data : Bytes) (sig : DualVerdict)
    (stored : Bool) (s : State) : Keeps s (ownerCommand t a length part data sig stored s) := by
  have dropped : Keeps s (dropSplit t s) := (dropSplit_same t s).keeps rfl
  have finished (st : Status) : Keeps s (finish t st (dropSplit t s)) := .after ((finish_same t st _).keeps rfl) dropped
  have checked (r : Requester) (d : Bytes) : Keeps s (ownerCheck t r a d sig stored (dropSplit t s)) :=
    .after (ownerCheck_keeps t r a d sig stored _) dropped
  unfold ownerCommand
  split
  · exact .refl s
  · refine .ite (finished _) (.ite (.ite (finished _) (checked _ _)) (.ite ?_ (.ite ?_ (finished _))))
    · exact .after ((finish_same _ _ _).keeps rfl) (.put dropped rfl rfl)
    · split
      · exact .ite (checked _ _) (finished _)
      · exact finished _

theorem cfgStageCommit_keeps (stored : Bool) (s : State) : Keeps s (cfgStageCommit stored s) := by
  have noted (u : State) : Keeps u (evsSet 227 u) := (evsSet_same _ _).keeps rfl
  have stored (b : RecBody) (ok : Bool) : Keeps s (storeRecord b ok s) := storeRecord_keeps b ok s
  unfold cfgStageCommit
  generalize parseConf s.hold.stage = r
  refine .ite (.put (.refl s) rfl rfl) (.ite (.after (noted _) ?_) (.ite (.after (noted _) ?_) (.after (noted _) ?_)))
  · exact .put (.refl s) rfl rfl
  · exact .put (.refl s) rfl rfl
  · exact .put (stored _ _) rfl rfl

theorem configRecordUpdate_keeps (stored : Bool) {s t : State} (done : exec (.configRecordUpdate stored) s = .next t) :
    Keeps s t := by
  cases done
  refine .ite (.refl s) ?_
  split
  · exact .refl s
  · exact .put (storeRecord_keeps _ _ s) rfl rfl

theorem vpdWrite_keeps (slot off len : Nat) (data : Bytes) (stored : Bool) (s : State) :
    Keeps s (vpdWrite slot off len data stored s) := by
  have replied (st : W8) (b : Bytes) (u : State) : Keeps u (miReply slot st b u) := (miReply_same _ _ _ _).keeps rfl
  refine .ite (replied _ _ s) (.ite (replied _ _ s) (.ite (replied _ _ s) (.ite (replied _ _ s) ?_)))
  exact .after (replied _ _ _) (storeRecord_keeps _ _ s)

end Sys2Proof.Machine
end

section
/-! SUPPORT. Resets of functions and links, firmware updates, recovery and the wide resets keep the array's invariant
and
the bytes of permanently locked sectors (R165, R254, R271, R272). -/
namespace Sys2Proof.Machine

/-! ## Resets of functions and links -/

theorem endDownloadOf_keeps (f : Func) (s : State) : Keeps s (endDownloadOf f s) := by
  refine .ite (.after ((event_same _ _ _ _).keeps rfl) (.after ((evsSet_same _ _).keeps rfl) ?_)) (.refl s)
  exact .session rfl fun holder => absurd rfl holder

theorem resetCtrl_keeps (f : Func) (s : State) : Keeps s (resetCtrl f s) := by
  refine .after (endDownloadOf_keeps f _) (.after ((ustChange_same _ _).keeps rfl)
      (.after ((intxFollow_same _ _).keeps rfl) ?_))
  refine .after ((modFn_same _ _ _).keeps rfl) (.after ((endCommands_same _ _).keeps rfl) ?_)
  exact .ite ((hscMark_same _ _).keeps rfl) (.refl s)

theorem resetFn_keeps (f : Func) (keepOnline : Bool) (s : State) : Keeps s (resetFn f keepOnline s) := by
  have marked : Keeps s (if (fnOf s f).ctrl.rdy then hscMark 0 s else s) :=
    .ite ((hscMark_same _ _).keeps rfl) (.refl s)
  refine .after (endDownloadOf_keeps f _) (.after ((ustChange_same _ _).keeps rfl) ?_)
  refine .after (.ite ((setEvs_same _ _ _).keeps rfl) (.refl _)) (.after ((setFn_same _ _ _).keeps rfl) ?_)
  exact .after ((endCommands_same _ _).keeps rfl) (.after (.ite ((emit_same _ _).keeps rfl) (.refl _)) marked)

theorem resetFns_keeps (keepOnline : Bool) (l : List Func) (s : State) :
    Keeps s (l.foldl (fun s g => resetFn g keepOnline s) s) := by
  refine .fold ?_ l s
  exact fun s g => resetFn_keeps g keepOnline s

theorem flrOf_keeps (f : Func) (s : State) : Keeps s (flrOf f s) := by
  have restarted : Keeps s (resetFn f true ((fnsWhere (resetSessions (coveredBy f) s) fun g => coveredBy f g && decide
      (g ≠ f)).foldl
      (fun s g => resetFn g false s) (resetSessions (coveredBy f) s))) :=
    .after (resetFn_keeps f true _) (.after (resetFns_keeps false _ _) ((resetSessions_same _ _).keeps rfl))
  exact .ite (.after ((setSpdm_same _ _ _).keeps rfl) (.after ((ideClear_same _ _).keeps rfl) restarted)) restarted

theorem clearVfs_keeps (pf : Pf) (s : State) : Keeps s (clearVfs pf s) :=
  .after ((modFn_same _ _ _).keeps rfl) (.after (resetFns_keeps true _ _) ((resetSessions_same _ _).keeps rfl))

theorem linkResetOf_keeps (p : Pf) (s : State) : Keeps s (linkResetOf p s) := by
  have events (pf : Pf) (b : Bool) (u : State) : Keeps u (if b then setEvs pf Evs.reset u else u) :=
    .ite ((setEvs_same _ _ _).keeps rfl) (.refl u)
  refine .after ((portDown_same _ _).keeps rfl) (.after ((setSpdm_same _ _ _).keeps rfl)
      (.after ((ideClear_same _ _).keeps rfl) ?_))
  exact .after (events .p1 _ _) (.after (events .p0 _ _) (.after (resetFns_keeps false _ _)
      ((resetSessions_same _ _).keeps rfl)))

theorem linkDownOf_keeps (p : Pf) (s : State) : Keeps s (linkDownOf p s) :=
  .ite (.after (linkResetOf_keeps p _) ((countTimeouts_same _ _).keeps rfl)) (.refl s)

theorem subsystemResetOf_keeps (s : State) : Keeps s (subsystemResetOf s) := by
  refine .after ?_ ((resetSessions_same (fun _ => true) s).keeps rfl)
  refine .fold ?_ _ _
  exact fun s g => .after ((modFn_same _ _ _).keeps rfl) (resetCtrl_keeps g s)

theorem fnWrite_keeps {f : Func} {k : State → State} (inside : ∀ s, Keeps s (k s)) (s : State) : Keeps s
    (fnWrite f k s) :=
  .ite (.refl s) (.ite ((frozenWrite_same s).keeps rfl) (inside s))

theorem cfgWrite_keeps (f : Func) (fld : CfgField) (v : W32) (s : State) : Keeps s (cfgWrite f fld v s) := by
  have same : Keeps s s := .refl s
  have field (g : Fn → Fn) : Keeps s (modFn f g s) := (modFn_same f g s).keeps rfl
  have mode (msix msi dis : Bool) : Keeps s (modeChange f msix msi dis s) := (modeChange_same _ _ _ _ _).keeps rfl
  unfold cfgWrite
  dsimp only
  split
  · exact .ite (field _) same
  · exact .ite (.after ((intxFollow_same _ _).keeps rfl) (field _)) ((busMasterClear_same _ _).keeps rfl)
  · exact .ite (field _) same
  · exact .ite (field _) same
  · exact .ite (mode _ _ _) same
  · exact .ite (.ite (field _) same) same
  · exact .ite (field _) same
  · exact .ite (mode _ _ _) same
  · exact .ite (.ite (field _) same) same
  · exact .ite ((writeMsiMask_same _ _ _).keeps rfl) same
  · exact mode _ _ _
  · exact .ite (field _) ((unmaskFunction_same _ _).keeps rfl)
  · exact .ite (.ite (.after ((pmFollow_same _ _).keeps rfl) (field _)) same) same
  · exact .ite (field _) same
  · exact .ite (flrOf_keeps f s) same
  · exact (atsEnableTo_same _ _ _).keeps rfl
  · exact .ite (.ite (field _) (.ite (clearVfs_keeps f.pf s) same)) same
  · exact .ite (.ite (field _) same) same
  · exact .ite (field _) same
  · exact .ite (.ite (field _) same) same
  · exact .ite (.ite (field _) same) same
  · exact .ite (.ite (field _) same) same
  · exact .ite (field _) same
  · exact .ite (field _) same
  · exact .ite (field _) same
  · exact .ite (field _) same
  · exact field _
  · exact field _
  · exact field _
  · exact same

/-! ## Fetching a command -/

section
variable {k : State → State} (inside : ∀ s, Keeps s (k s))
include inside

theorem runFn_keeps (f : Func) (t : Tag) (op : W8) (nsid : W32) (s : State) : Keeps s (runFn f t op nsid k s) := by
  unfold runFn
  split
  · exact inside s
  · split
    · next fetched => exact .after (inside _) ((fetchCmd_same fetched).keeps rfl)
    · next fetched => exact (fetchCmd_same fetched).keeps rfl
    · exact .refl s

theorem mgtRequest_keeps (i : Held) (slot : Nat) {refused : State → State} (refusal : ∀ s,
    Keeps s (refused s)) (s : State) :
    Keeps s (mgtRequest i slot refused k s) := by
  refine .ite (inside s) (.ite (refusal s) (.ite (.after ((mgtRespond_same _ _).keeps rfl) ?_) (.refl s)))
  exact .put (.refl s) rfl rfl

theorem allowFrom_keeps (pf vf mgt : Bool) (t : Tag) (s : State) : Keeps s (allowFrom pf vf mgt t k s) := by
  have refused : Keeps s (finish t .invalidCommandOpcode s) := (finish_same _ _ _).keeps rfl
  unfold allowFrom
  split
  · exact .ite (inside s) refused
  · exact .ite (inside s) refused

theorem runAdmin_keeps (i : Instr) (t : Tag) (op : W8) (nsid : W32) (pf vf mgt : Bool) (s : State) :
    Keeps s (runAdmin i t op nsid pf vf mgt k s) := by
  have allowed := allowFrom_keeps inside pf vf mgt t
  unfold runAdmin
  split
  · exact mgtRequest_keeps allowed _ _ (fun u => (finish_same _ _ u).keeps rfl) s
  · exact runFn_keeps allowed _ _ _ _ s

end

/-! ## Firmware updates (R254 to R264) -/

theorem closeUpd_keeps (s : State) : Keeps s (closeUpd s) := by
  refine .ite (.after ((evsSet_same _ _).keeps rfl) ?_) (.refl s)
  exact .session rfl fun holder => absurd rfl holder

theorem refuseCommit_keeps (t : Tag) (st : Status) (root : Bytes) (s : State) : Keeps s (refuseCommit t st root s) :=
  (refuseCommit_same t st root s).keeps rfl

theorem commitRecord_keeps (t : Tag) (r : BootRec) (root : Bytes) (stored : Bool) (s : State) :
    Keeps s (commitRecord t r root stored s) := by
  have kept (ok : Bool) : Keeps s (storeRecord (.boot r) ok s) := storeRecord_keeps _ ok s
  refine .ite (.after ((finish_same _ _ _).keeps rfl) (.after ((updEvent_same _ _ _ _).keeps rfl) (kept _))) ?_
  exact .after (refuseCommit_keeps _ _ _ _) (kept _)

theorem commitSession_keeps (t : Tag) (env : ImageEnv) (stored pend : Bool) (r : Requester) (i : SlotId) (s : State) :
    Keeps s (commitSession t env stored pend r i s) := by
  have closed : Keeps s (closeUpd s) := closeUpd_keeps s
  unfold commitSession
  refine .ite (refuseCommit_keeps _ _ _ s) (.ite (.after (refuseCommit_keeps _ _ _ _) closed) ?_)
  refine .ite (.after (refuseCommit_keeps _ _ _ _) closed) (.ite ?_ ?_)
  · exact .after (commitRecord_keeps _ _ _ _ _) closed
  · exact .after (commitRecord_keeps _ _ _ _ _) closed

theorem commitStaged_keeps (t : Tag) (env : ImageEnv) (stored : Bool) (r : Requester) (i : SlotId) (s : State) :
    Keeps s (commitStaged t env stored r i s) := by
  unfold commitStaged
  refine .ite (refuseCommit_keeps _ _ _ s) (.ite (refuseCommit_keeps _ _ _ s) (.ite (commitRecord_keeps _ _ _ _ s) ?_))
  exact .after (refuseCommit_keeps _ _ _ _) (storeRecord_keeps _ _ s)

theorem commitOn_keeps {k : Requester → SlotId → State → State} (inside : ∀ r i s, Keeps s (k r i s)) (t : Tag)
    (fs : BitVec 3) (s : State) : Keeps s (commitOn t fs k s) := by
  unfold commitOn
  split
  · exact .refl s
  · refine .ite (refuseCommit_keeps _ _ _ s) (.ite (refuseCommit_keeps _ _ _ s) ?_)
    split
    · exact refuseCommit_keeps _ _ _ s
    · exact refuseCommit_keeps _ _ _ s
    · exact .ite (refuseCommit_keeps _ _ _ s) (inside _ _ s)

end Sys2Proof.Machine
end

section
/-! SUPPORT. Writes to slots A and B, by firmware and by recovery, keep the array's invariant (R129, R142, R168,
R255). -/
namespace Sys2Proof.Machine

/-- A choice, with what each branch may assume. -/
theorem Keeps.cases {c : Prop} [Decidable c] {s t u : State} (h : c → Keeps s t) (k : ¬c → Keeps s u) :
    Keeps s (if c then t else u) := by
  split
  · next holds => exact h holds
  · next fails => exact k fails

/-! ## Sectors and units of a slot -/

theorem unlockedUnits.narrow {lo hi hi' : Nat} (h : unlockedUnits lo hi) (k : hi' ≤ hi) : unlockedUnits lo hi' :=
  fun u p q => h u p (by omega)

theorem slotEraseFails_keeps {n : Nat} (h : permLocked n = false) (s : State) : Keeps s (slotEraseFails n s) := by
  refine .after (replaceBad_keeps n 0 _) (.ite (.after (undefineUnits_keeps (fun u lo hi => ?_) _) (bumpGen_keeps 1 s))
    (.after (eraseContents_keeps h _) (bumpGen_keeps 1 s)))
  rw [sectorBytes] at lo hi
  rwa [show u / 8192 = n by omega]

theorem slotProgramFails_keeps {a n : Nat} (h : unlockedUnits (a / 32) ((a + n) / 32)) (s : State) :
    Keeps s (slotProgramFails a n s) :=
  .ite (.after (retireSector_keeps _ _) (programFails_keeps h s)) (.after (replaceBad_keeps _ _ _) (bumpGen_keeps 1 s))

/-- The sectors that a range of slot A or B touches. -/
theorem newSectors_unlocked {i : SlotId} {off len : Nat} (h : i ≠ .g) (some : len ≠ 0) (k : off + len ≤ slotBytes)
    (s : State) :
    ∀ n ∈ newSectors s (slotBase i + off) len, permLocked n = false := by
  intro n hn
  simp only [newSectors, List.mem_filter, List.mem_map, List.mem_range] at hn
  obtain ⟨⟨j, hj, rfl⟩, -⟩ := hn
  refine permLocked_slot ?_
  cases i
  · exact absurd rfl h
  · simp only [slotBase, slotBytes, sectorBytes] at hj k ⊢
    omega
  · simp only [slotBase, slotBytes, sectorBytes] at hj k ⊢
    omega

theorem keepBytes_length_le (s : State) (i : SlotId) (off : Nat) (data : Bytes) :
    (keepBytes s i off data).length ≤ data.length := by
  unfold keepBytes
  generalize (if off = 0 then parseHeader (data.take 4096) else slotHeader s i) = h
  dsimp only
  split
  · exact List.length_take_le' _ _
  · exact Nat.le_refl _

/-- A download's range: aligned, not empty and inside a slot. -/
def InSlot (off len : Nat) : Prop := off % 32 = 0 ∧ len ≠ 0 ∧ off + len ≤ slotBytes

theorem inSlot_of_downloadFields {path : Bool} {off len : Nat} (h : downloadFields path off len = true) :
    InSlot off len := by
  simp only [downloadFields, Bool.and_eq_true, decide_eq_true_eq] at h
  obtain ⟨⟨aligned, -, nonempty, inside⟩, -⟩ := h
  refine ⟨?_, nonempty, inside⟩
  cases path
  · rw [if_neg (by decide)] at aligned
    omega
  · rw [if_pos rfl] at aligned
    omega

/-! ## Downloads -/

theorem touched_keeps (l : List Nat) (s : State) : Keeps s { s with upd.touched := l } := .sameSession rfl rfl rfl

theorem written_keeps (l : List Nat) (s : State) : Keeps s { s with upd.written := l } := .sameSession rfl rfl rfl

theorem opened_keeps {i : SlotId} (notG : i ≠ .g) (r : Requester) (b : W8) (s : State) : Keeps s { s with upd :=
    { holder := some r, slot := some i, touched := [], written := [], blockers := b } } :=
  .session rfl fun _ => by simpa using notG

section
variable {i : SlotId} {off : Nat} {data : Bytes} (notG : i ≠ .g) (range : InSlot off data.length)
include notG range

theorem programData_keeps (t : Tag) (ok : Bool) (s : State) : Keeps s (programData t i off data ok s) := by
  have short := keepBytes_length_le s i off data
  obtain ⟨aligned, -, inside⟩ := range
  have units := slot_units notG aligned (n := (keepBytes s i off data).length) (by omega)
  have programmed : Keeps s (programRange (slotBase i + off) (keepBytes s i off data) s) := programRange_keeps _ units s
  refine .ite (.after ((finish_same _ _ _).keeps rfl) programmed) (.ite (.after ((finish_same _ _ _).keeps rfl) ?_) ?_)
  · exact .after (written_keeps _ _) programmed
  · refine .after ((finish_same _ _ _).keeps rfl) (slotProgramFails_keeps (units.narrow ?_) s)
    cases i <;> simp only [slotBase, sectorBytes] <;> omega

theorem programDownload_keeps (t : Tag) (out : SlotWrite) (s : State) : Keeps s
    (programDownload t i off data out s) := by
  have unlocked := newSectors_unlocked notG range.2.1 range.2.2 s
  unfold programDownload
  dsimp only
  split
  · next n r listed =>
    have erased := slotEraseFails_keeps (unlocked n (listed ▸ List.mem_cons_self)) s
    exact .after ((finish_same _ _ _).keeps rfl) (.after (touched_keeps _ _) erased)
  · exact .after (programData_keeps notG range t _ _) (.after (touched_keeps _ _) (eraseSectors_keeps _ unlocked s))

end

theorem inactiveSlot_ne_g {s : State} {i : SlotId} (h : inactiveSlot s = some i) : i ≠ .g := by
  unfold inactiveSlot at h
  dsimp only at h
  split at h
  · split at h <;> cases h <;> exact SlotId.noConfusion
  · cases h; exact SlotId.noConfusion
  · cases h; exact SlotId.noConfusion
  · cases h

theorem openUpd_keeps (r : Requester) {i : SlotId} (notG : i ≠ .g) (stored : Bool) (s : State) :
    Keeps s (openUpd r i stored s) := by
  have kept (b : RecBody) : Keeps s (storeRecord b stored s) := storeRecord_keeps b stored s
  refine .ite (.after ((updEvent_same _ _ _ _).keeps rfl) (.after ((evsSet_same _ _).keeps rfl) ?_)) (kept _)
  exact .after (opened_keeps notG r _ _) (kept _)

theorem downloadInto_keeps (t : Tag) (r : Requester) {off : Nat} {data : Bytes} (range : InSlot off data.length)
    (out : SlotWrite) (stored : Bool) (s : State) : Keeps s (downloadInto t r off data out stored s) := by
  have refused (st : Status) : Keeps s (refuseDownload t st s) := (refuseDownload_same t st s).keeps rfl
  intro inv
  unfold downloadInto
  split
  · next h i holder slot =>
    have notG : i ≠ .g := by simpa [slot] using inv.2.2.2.2 (by simp [holder])
    exact Keeps.ite (refused _) (.ite (refused _) (.ite (refused _) (programDownload_keeps notG range t out s))) inv
  · split
    · exact refused _ inv
    · next i free =>
      have notG := inactiveSlot_ne_g free
      refine Keeps.ite ?_ ?_ inv
      · exact .after (programDownload_keeps notG range t out _) (openUpd_keeps r notG _ s)
      · exact .after ((finish_same _ _ _).keeps rfl) (openUpd_keeps r notG _ s)

theorem download_keeps (t : Tag) (off : Nat) (data : Bytes) (out : SlotWrite) (stored : Bool) (s : State) :
    Keeps s (download t off data out stored s) := by
  have refused (st : Status) : Keeps s (refuseDownload t st s) := (refuseDownload_same t st s).keeps rfl
  unfold download
  split
  · exact .refl s
  · refine .ite (refused _) ?_
    split
    · exact refused _
    · next fields =>
      have range : InSlot off data.length := inSlot_of_downloadFields (by simpa using fields)
      split
      · exact refused _
      · exact downloadInto_keeps t _ range out stored s

/-! ## Recovery (R128 to R130) -/

theorem rcvSlot_ne_g {a0 : W32} {i : SlotId} (h : rcvSlot a0 = some i) : i ≠ .g := by
  unfold rcvSlot at h
  split at h
  · cases h; exact SlotId.noConfusion
  · split at h <;> cases h
    exact SlotId.noConfusion

theorem rcvErase_keeps (p : RcvPath) (ok : Bool) {i : SlotId} (notG : i ≠ .g) (s : State) : Keeps s
    (rcvErase p ok i s) := by
  have done (code : Nat) (u : State) : Keeps u (rcvDone p code u) := rcvDone_keeps p code u
  have sector : permLocked (slotBase i / sectorBytes) = false := by
    cases i
    · exact absurd rfl notG
    · decide
    · decide
  unfold rcvErase
  refine .ite (.after (done _ _) ?_) (.ite (.after (done _ _) (.put (.after
    (eraseSectors_keeps _ (slotSectors_unlocked i) _) ?_) rfl rfl))
      (.after (done _ _) (.after (slotEraseFails_keeps sector _) ?_)))
  · exact .put (.refl s) rfl rfl
  · exact .put (.refl s) rfl rfl
  · exact .put (.refl s) rfl rfl

theorem rcvWrite_keeps (p : RcvPath) (off n : Nat) (data : Bytes) (ok : Bool) {i : SlotId} (notG : i ≠ .g) (s : State) :
    Keeps s (rcvWrite p off n data ok i s) := by
  have done (code : Nat) (u : State) : Keeps u (rcvDone p code u) := rcvDone_keeps p code u
  have size : (if p = .pcie then Sparse.readBytes 0 s.rcv.buffer 0 n else padTo n data).length = n := by
    split
    · simp [Sparse.readBytes]
    · simp only [padTo, List.length_take, List.length_append, List.length_replicate]
      omega
  unfold rcvWrite
  refine .cases (fun _ => done _ s) fun fields => ?_
  · have units := slot_units notG (off := off) (n := n) (by omega) (by omega)
    refine .ite (done _ s) (.ite (done _ s) (.ite (.after (done _ _) ?_) (.after (done _ _) ?_)))
    · refine .start (programRange_keeps _ ?_ _) rfl rfl
      rwa [size]
    · refine .start (slotProgramFails_keeps (units.narrow ?_) _) rfl rfl
      cases i <;> simp only [slotBase, sectorBytes] <;> omega

theorem rcvRefused_keeps (s : State) : Keeps s (rcvRefused s) := by
  have numbered : Keeps s { s with boot.bootIndex := stopIndex s } := .put (.refl s) rfl rfl
  have noted := numbered.trans ((event_same 0x0013 6 0 _).keeps rfl)
  have written := noted.trans (writeOut_keeps .gen true _)
  unfold rcvRefused
  generalize writeOut .gen true (event 0x0013 6 0 { s with boot.bootIndex := stopIndex s }) = u at written ⊢
  exact written.put rfl rfl

theorem rcvCommit_keeps (p : RcvPath) (sig : DualVerdict) (stored : Bool) (i : SlotId) (s : State) :
    Keeps s (rcvCommit p sig stored i s) := by
  have done (code : Nat) (u : State) : Keeps u (rcvDone p code u) := rcvDone_keeps p code u
  unfold rcvCommit
  refine .ite (done _ s) (.ite (.after (done _ _) (rcvRefused_keeps s)) (.ite (done _ s) ?_))
  exact .after (done _ _) (storeRecord_keeps _ _ s)

section
variable {k : State → State} (inside : ∀ s, Keeps s (k s))
include inside

theorem rcvCommand_keeps (p : RcvPath) (inFault : Bool) (a0 a1 a2 : W32) (s : State) :
    Keeps s (rcvCommand p inFault a0 a1 a2 k s) := by
  have taken : Keeps s (if p = .pcie then { s with rcv.arg0 := a0, rcv.arg1 := a1, rcv.arg2 := a2 } else s) :=
    .ite (.put (.refl s) rfl rfl) (.refl s)
  exact .ite (.refl s) (.ite (.after (rcvDone_keeps _ _ _) taken) (.after (inside _) taken))

theorem withSession_keeps (p : RcvPath) (s : State) : Keeps s (withSession p k s) :=
  .ite (inside s) (rcvDone_keeps _ _ s)

end

theorem onSlot_keeps {k : SlotId → State → State} (inside : ∀ i s, i ≠ .g → Keeps s (k i s)) (p : RcvPath) (a0 : W32)
    (s : State) : Keeps s (onSlot p a0 k s) := by
  unfold onSlot
  split
  · next listed => exact inside _ s (rcvSlot_ne_g listed)
  · exact rcvDone_keeps _ _ s

end Sys2Proof.Machine
end

section
/-! SUPPORT. The wide resets, Plinth, the restart and the commands of a bank keep the array's invariant (R98, R125,
R142,
R173, R525). -/
namespace Sys2Proof.Machine

/-! ## The wide resets -/

theorem wideReset_upd (kind : BootKind) (s : State) : (wideReset kind s).upd = Upd.reset := rfl
theorem evrReset_nor (s : State) : (evrReset s).nor = s.nor := rfl
/-- A wide reset leaves the die as a die reset does: it touches the array's bytes and banks nowhere else. -/
theorem wideReset_nor (kind : BootKind) (s : State) :
    ∃ tab, (wideReset kind s).nor = (dieReset { s with tab := tab }).nor := by
  unfold wideReset
  exact ⟨_, (evrReset_nor _)⟩

theorem wideReset_keeps (kind : BootKind) (s : State) : Keeps s (wideReset kind s) := by
  obtain ⟨tab, nor⟩ := wideReset_nor kind s
  have die : Keeps s (dieReset { s with tab := tab }) := .after (dieReset_keeps _) (.put (.refl s) rfl rfl)
  refine .after (.session nor fun holder => ?_) die
  rw [wideReset_upd] at holder
  exact absurd rfl holder

theorem restartLatch_keeps (s : State) : Keeps s { s with pwr.restartLatch := true } := .put (.refl s) rfl rfl

theorem flushComplete_keeps (high : Bool) (s : State) : Keeps s (flushComplete high s) := by
  unfold flushComplete
  split
  · exact .refl s
  · next f _ =>
    have level : Keeps s { s with pwr.pwrfailLvl := high } := .put (.refl s) rfl rfl
    have stopped (cause : W8) : Keeps s
        (stopAll (programStop cause f.flushMs f.dumped f.stopOk { s with pwr.pwrfailLvl := high })) :=
      .after ((stopAll_same _).keeps rfl) (.after (programStop_keeps _ _ _ _ _) level)
    exact .ite (.after (restartLatch_keeps _) (.after (wideReset_keeps _ _) (stopped _))) (stopped _)

theorem gateHeld_keeps (b : Bool) (s : State) : Keeps s { s with pwr.chgGateHeld := b } := .put (.refl s) rfl rfl

theorem fundamental_keeps (internal : Bool) (r : FlushResult) (s : State) : Keeps s (fundamental internal r s) := by
  have ended : Keeps s (endSession (endExports s)) :=
    .after ((endSession_same _).keeps rfl) ((endExports_same s).keeps rfl)
  have flushed : Keeps s (dumpAll r
      (channelsFlush (emit (.pins true true) (armPowerFail (endSession (endExports s)))))) :=
    .after ((dumpAll_same _ _).keeps rfl) (.after ((channelsFlush_same _).keeps rfl) (.after ((emit_same _ _).keeps rfl)
      (.after ((armPowerFail_same _).keeps rfl) ended)))
  refine .ite (.refl s) (.after ((emit_same _ _).keeps rfl) (.after (gateHeld_keeps _ _) ?_))
  exact .after (wideReset_keeps _ _) (.after (programStop_keeps _ _ _ _ _) flushed)

theorem fundamentalReset_keeps (cause : FundCause) (r : FlushResult) {s t : State}
    (done : exec (.fundamentalReset cause r) s = .next t) : Keeps s t := by
  cases done
  split
  · exact fundamental_keeps _ _ s
  · refine .ite (.ite (fundamental_keeps _ _ s) (.ite (.refl s) ?_)) (.ite (fundamental_keeps _ _ s) (.refl s))
    exact .ite (linkResetOf_keeps _ s) (.ite (linkResetOf_keeps _ s) (.refl s))

/-! ## Plinth and the trial boot -/

theorem plinthRecord_keeps (i : SlotId) (refused : List (SlotId × Nat)) (ok : Bool) (s : State) :
    Keeps s (plinthRecord i refused ok s) := by
  unfold plinthRecord
  split
  · exact .ite (storeRecord_keeps _ _ s) (.refl s)
  · exact .refl s

theorem firmwareStart_keeps (e : BootEnv) (s : State) : Keeps s (firmwareStart e s) := by
  have first : Keeps s (completeBurns { s with boot.watchdogFired := false }) :=
    .after ((completeBurns_same _).keeps rfl) (.put (.refl s) rfl rfl)
  have noted (c d0 d1 : Nat) (u : State) : Keeps u (event c d0 d1 u) := (event_same c d0 d1 u).keeps rfl
  have owed (l : List Owed) (u : State) : Keeps u (l.foldl (fun s o => event o.code o.d0 o.d1 s)
      { u with boot.owed := [] }) := by
    refine .after (.fold ?_ l _) (.put (.refl u) rfl rfl)
    exact fun s o => noted o.code o.d0 o.d1 s
  unfold firmwareStart
  refine .after ((kscFollow_same _).keeps rfl) (.after (trimStops_keeps _) ?_)
  refine .after (.ite (noted _ _ _ _) (.refl _)) (.after ((foundTear_same _ _ _).keeps rfl) ?_)
  exact .after (owed _ _) (.after (.ite (.refl _) (noted _ _ _ _)) first)

/-- Plinth's work on the chosen image, before its own operations: the boot state and the measurements. -/
theorem boot_keeps (b : Boot) (s : State) : Keeps s { s with boot := b } := .put (.refl s) rfl rfl

theorem bootImage_keeps (e : BootEnv) (c : SlotId × BootAs) (fast : Bool) (refused : List (SlotId × Nat)) (s : State) :
    Keeps s (bootImage e c fast refused s) := by
  refine .after (firmwareStart_keeps e _) (.after (boot_keeps _ _) (.after (plinthRecord_keeps _ _ _ _) ?_))
  refine .after (writeOut_keeps .boot _ _) (.after ((formBootRecords_same _ _).keeps rfl) ?_)
  refine .after ((foundTear_same _ _ _).keeps rfl) (.after ((plinthP7_same _).keeps rfl)
      (.after (boot_keeps _ _) (boot_keeps _ s)))

theorem plinth_keeps (e : BootEnv) (s : State) : Keeps s (plinth e s) := by
  have read : Keeps s (plinthP3 e s) := (plinthP3_same e s).keeps rfl
  unfold plinth
  refine .ite (.after ((enterRecovery_same _ _ _).keeps rfl) read) ?_
  split
  · exact .after (bootImage_keeps _ _ _ _ _) read
  · exact .after ((enterRecovery_same _ _ _).keeps rfl) read

theorem raiseFloor_keeps (n : Nat) (s : State) : Keeps s (raiseFloor n s) := (raiseFloor_same n s).keeps rfl

theorem confirmTrial_keeps (prev : ImageEnv) (stored : Bool) (s : State) : Keeps s (confirmTrial prev stored s) := by
  unfold confirmTrial
  split
  · exact .refl s
  · have kept (b : RecBody) (ok : Bool) : Keeps s (storeRecord b ok s) := storeRecord_keeps b ok s
    refine .ite (kept _ _) (.after (raiseFloor_keeps _ _) (.after ((event_same _ _ _ _).keeps rfl) ?_))
    exact .after ((evsSet_same _ _).keeps rfl) (.after (boot_keeps _ _) (kept _ _))

/-! ## The restart -/

theorem restoreDump_keeps (env : RestartEnv) (d : Dump) (s : State) : Keeps s (restoreDump env d s) := by
  have lines (l : List (Nat × Line)) (u : State) :
      Keeps u (l.foldl (fun s e => restoreLine (!d.manifestOk || env.dumpBad.contains e.1) e.1 e.2 s) u) := by
    refine .fold ?_ l u
    exact fun s e => (restoreLine_same _ _ _ s).keeps rfl
  refine .after ((replayJournal_same _ _).keeps rfl) (.put (.after (lines _ _) (placeRecords_keeps _ _ s)) rfl rfl)

theorem restart_keeps (env : RestartEnv) (s : State) : Keeps s (restart env s) := by
  have charged : Keeps s (loseShards env (restoreTables env (startCharger (loadConf s)))) :=
    .after ((loseShards_same _ _).keeps rfl) (.after ((restoreTables_same _ _).keeps rfl)
      (.after ((startCharger_same _).keeps rfl) ((loadConf_same s).keeps rfl)))
  have lost (u : State) : Keeps u (loseDump (placeRecords [] [] u)) :=
    .after ((loseDump_same _).keeps rfl) (placeRecords_keeps _ _ u)
  have cut (l : Sparse Ns) (u : State) : Keeps u (l.foldl (fun s e => finishCut e.1 e.2 s) u) := by
    refine .fold ?_ l u
    exact fun s e => (finishCut_same _ _ s).keeps rfl
  unfold restart
  refine .after ((finishRestart_same _ _).keeps rfl) (.after ((recheckReadOnly_same _).keeps rfl)
    (.after ((recheckPositions_same _).keeps rfl) (.after (.ite (.refl _) ((firstInit_same _).keeps rfl)) ?_)))
  refine .after ((restoreImports_same _).keeps rfl) (.after (cut _ _) (.after ?_ charged))
  split
  · exact .ite (restoreDump_keeps env _ _) (lost _)
  · exact lost _

/-! ## Register writes and the recovery window -/

theorem arm_keeps (a : Arm) (s : State) : Keeps s { s with arm := a } := .put (.refl s) rfl rfl

theorem hold_keeps (h : Hold) (s : State) : Keeps s { s with hold := h } := .put (.refl s) rfl rfl

theorem writeHold_keeps (o : Nat) (v : W32) (s : State) : Keeps s (writeHold o v s) := by
  refine .ite (arm_keeps _ s) (.ite (arm_keeps _ s)
      (.ite (hold_keeps _ s) (.ite (hold_keeps _ s) (.ite (hold_keeps _ s) ?_))))
  refine .ite ((policyWrite_same _ _ s).keeps rfl) (.ite (.ite ?_ (.refl s)) (.ite (hold_keeps _ s) (.refl s)))
  exact .after (cfgStageCommit_keeps _ _) ((drawn_same 1 s).keeps rfl)

theorem writeReg_keeps (pf : Pf) (o : Nat) (v : W32) (s : State) : Keeps s (writeReg pf o v s) := by
  refine .ite ((writePkg_same _ _ s).keeps rfl) (.ite ((writeTru_same _ _ _ s).keeps rfl)
      (.ite ((writePci_same _ _ s).keeps rfl)
    (.ite ((writeNvm_same _ _ _ s).keeps rfl) (.ite ((writeFch_same _ _ s).keeps rfl)
      (.ite ((writeFtl_same _ _ s).keeps rfl) ?_)))))
  refine .ite (writeHold_keeps _ _ s) (.ite ((writeMgt_same _ _ s).keeps rfl) ?_)
  exact .ite ((writeEvs_same _ _ _ s).keeps rfl) (.refl s)

theorem registerWrite_keeps (pf : Pf) (offset size : Nat) (value : W32) (reads : List RegRead) {s t : State}
    (done : exec (.registerWrite pf offset size value reads) s = .next t) : Keeps s t := by
  cases done
  have served (u : State) : Keeps u (reads.foldl (fun s r => readReg r s) u) := by
    refine .fold ?_ reads u
    exact fun s r => (readReg_same r s).keeps rfl
  refine .ite ((mailboxWrite_same _ _ _ s).keeps rfl) (.ite (.refl s) (.ite (served s) ?_))
  exact .after (writeReg_keeps _ _ _ _) (served s)

theorem windowHeld_keeps (l : List (Nat × Bool)) (s : State) : Keeps s { s with rcv.windowHeld := l } :=
  .put (.refl s) rfl rfl

theorem windowRead_keeps (a : Nat) (uncorrectable : Bool) (s : State) : Keeps s (windowRead a uncorrectable s) := by
  have broken (b : Pf) : Keeps s (if (bankOf s b).seq = .idle then s else seqError b s) :=
    .ite (.refl s) (seqError_keeps b s)
  refine .ite ((emit_same _ s).keeps rfl) ?_
  dsimp only
  split
  · exact .after (windowHeld_keeps _ _) (broken _)
  · exact .after ((emit_same _ _).keeps rfl) (broken _)

/-! ## The commands of a bank -/

theorem iaBankRead_keeps (offset : Nat) (uncorrectable : Bool) {s t : State}
    (done : exec (.iaBankRead offset uncorrectable) s = .next t) : Keeps s t := by
  have broken (b : Pf) : Keeps s (if (bankOf s b).seq = .idle then s else seqError b s) :=
    .ite (.refl s) (seqError_keeps b s)
  have sent (o : Output) (u : State) : Keeps u (emit o u) := (emit_same o u).keeps rfl
  change execIaBankRead offset uncorrectable s = _ at done
  unfold execIaBankRead at done
  split at done
  · cases done
  split at done
  · cases done
    exact .refl s
  · cases done
    refine .ite ?_ (.ite ?_ (.ite ?_ ?_)) <;> exact .after (sent _ _) (broken _)

theorem recoveryWindowRead_keeps (offset : Nat) (uncorrectable : Bool) {s t : State}
    (done : exec (.recoveryWindowRead offset uncorrectable) s = .next t) : Keeps s t := by
  change execRecoveryWindowRead offset uncorrectable s = _ at done
  unfold execRecoveryWindowRead at done
  split at done
  · cases done
  · cases done
    exact .ite (.refl s) (.ite (windowRead_keeps _ _ s) ((mailboxRead_same _ s).keeps rfl))

end Sys2Proof.Machine
end

section
/-! SUPPORT. Every command, and so every step, keeps the array's invariant and its permanently locked sectors (R142,
R165, R167); a step stops only at an access beyond the Image Array die. -/
namespace Sys2Proof.Machine

/-! ## The commands that reach the array or the download session -/

section
variable {s t : State}

theorem trialWatchdogExpiry_keeps (r : FlushResult) (done : exec (.trialWatchdogExpiry r) s = .next t) : Keeps s t := by
  cases done
  exact .ite (.after (fundamental_keeps true r _) (boot_keeps _ s)) (.refl s)

theorem fillBuffer_keeps (p : RcvPath) (data : Bytes) (s : State) : Keeps s (fillBuffer p data s) :=
  (fillBuffer_same p data s).keeps rfl

theorem rcvBuffer_keeps (b : Sparse Byte) (s : State) : Keeps s { s with rcv.buffer := b } := .put (.refl s) rfl rfl

theorem rcvEraseSlotCmd_keeps (path : RcvPath) (arg0 : W32) (ok : Bool)
    (done : exec (.rcvEraseSlot path arg0 ok) s = .next t) : Keeps s t := by
  cases done
  refine rcvCommand_keeps (fun u => withSession_keeps (fun v => ?_) _ u) _ _ _ _ _ s
  exact onSlot_keeps (fun i u notG => rcvErase_keeps path ok notG u) path arg0 v

theorem rcvWriteChunk_keeps (path : RcvPath) (arg0 arg1 arg2 : W32) (data : Bytes) (ok : Bool)
    (done : exec (.rcvWriteChunk path arg0 arg1 arg2 data ok) s = .next t) : Keeps s t := by
  cases done
  refine rcvCommand_keeps (fun u => .after (withSession_keeps (fun v => ?_) _ _) (fillBuffer_keeps path data u)) _ _ _
      _ _ s
  exact onSlot_keeps (fun i u notG => rcvWrite_keeps path _ _ data ok notG u) path arg0 v

theorem rcvCommitCmd_keeps (path : RcvPath) (arg0 : W32) (auth : Bytes) (sig : DualVerdict) (stored : Bool)
    (done : exec (.rcvCommit path arg0 auth sig stored) s = .next t) : Keeps s t := by
  have checked (u : State) : Keeps u (onSlot path arg0 (rcvCommit path sig stored) u) :=
    onSlot_keeps (fun i u _ => rcvCommit_keeps path sig stored i u) path arg0 u
  cases done
  refine rcvCommand_keeps (fun u => withSession_keeps (fun v => ?_) _ u) _ _ _ _ _ s
  exact .ite (rcvDone_keeps path 2 v) (.after (checked _) (rcvBuffer_keeps _ v))

theorem rcvReboot_keeps (path : RcvPath) (r : FlushResult) (done : exec (.rcvReboot path r) s = .next t) :
    Keeps s t := by
  cases done
  refine rcvCommand_keeps (fun u => withSession_keeps (fun v => ?_) _ u) _ _ _ _ _ s
  exact .after (fundamental_keeps true r _) (rcvDone_keeps path 0 v)

theorem whilePowered_keeps {k : State → State} (inside : Keeps s (k s)) : Keeps s (whilePowered k s) :=
  .ite inside (.refl s)

theorem setPort_keeps (p : Pf) (x : Port) (s : State) : Keeps s (setPort p x s) := (setPort_same p x s).keeps rfl

theorem laneFailure_keeps (port : Pf) (done : exec (.laneFailure port) s = .next t) : Keeps s t := by
  cases done
  exact .ite (.refl s) (.ite (linkDownOf_keeps port s) (setPort_keeps _ _ s))

theorem configRequest_keeps (f : Func) (req : CfgReq) (done : exec (.configRequest f req) s = .next t) : Keeps s t := by
  have answer (o : Output) (u : State) : Keeps u (emit o u) := (emit_same o u).keeps rfl
  have recovery (fld : CfgField) (v : W32) : Keeps s (recoveryCfgWrite fld v s) :=
      (recoveryCfgWrite_same fld v s).keeps rfl
  cases done
  refine .ite (.refl s) (.ite (.ite ?_ (answer _ s)) (.ite (answer _ s) (.ite (answer _ s) ?_)))
  · cases req with
    | read fld => exact answer _ s
    | write fld v => exact .after (answer _ _) (recovery fld v)
  · cases req with
    | read fld => exact answer _ s
    | write fld v => exact .after (answer _ _) (cfgWrite_keeps f fld v s)

theorem vfOffline_keeps (tag : Tag) (f : Func) (s : State) : Keeps s (vfOffline tag f s) := by
  have ended (st : Status) (u : State) : Keeps u (finish tag st u) := (finish_same tag st u).keeps rfl
  refine .ite (ended _ s) (.ite (ended _ s) (.after (ended _ _) (.after ((ustChange_same _ _).keeps rfl) ?_)))
  exact .after ((modFn_same _ _ _).keeps rfl) (resetCtrl_keeps f s)

theorem virtualizationManagement_keeps (tag : Tag) (act : VirtAct)
    (done : exec (.virtualizationManagement tag act) s = .next t) : Keeps s t := by
  cases done
  refine runAdmin_keeps (fun u => ?_) _ _ _ _ _ _ _ s
  cases act with
  | assignVq f n => exact (assignTo_same _ _ _ _ u).keeps rfl
  | assignVi f n => exact (assignTo_same _ _ _ _ u).keeps rfl
  | online f => exact (vfOnline_same _ _ u).keeps rfl
  | offline f => exact vfOffline_keeps tag f u
  | primaryFlexible rt n => exact (primaryFlex_same _ _ _ _ u).keeps rfl

theorem blockers_keeps (b : W8) (s : State) : Keeps s { s with upd.blockers := b } := .sameSession rfl rfl rfl

theorem updateGateRefresh_keeps (done : exec .updateGateRefresh s = .next t) : Keeps s t := by
  have noted (changed : Bool) (u : State) : Keeps u (evsSetIf changed 34 u) := (evsSetIf_same _ _ u).keeps rfl
  cases done
  exact .ite (.refl s) (.after (noted _ _) (blockers_keeps (blockers s) s))

theorem vpdWriteCmd_keeps (slot : Nat) (dofst dlen : W16) (data : Bytes) (stored : Bool)
    (done : execVpdWrite slot dofst dlen data stored s = .next t) : Keeps s t := by
  cases done
  refine mgtRequest_keeps (fun u => vpdWrite_keeps slot _ _ data stored u) _ _ (fun u => ?_) s
  exact (miReply_same _ _ _ u).keeps rfl

theorem miReset_keeps (slot : Nat) (done : execMiReset slot s = .next t) : Keeps s t := by
  have reply (code : W8) (u : State) : Keeps u (miReply slot code [] u) := (miReply_same _ _ _ u).keeps rfl
  cases done
  exact mgtRequest_keeps (fun u => .after (subsystemResetOf_keeps _) (reply _ u)) _ _ (fun u => reply _ u) s

theorem ownerCmd_keeps (i : Instr) (tag : Tag) (a : OwnerAct) (length : W16) (part : BitVec 2) (data : Bytes)
    (sig : DualVerdict) (stored : Bool) (s : State) :
    Keeps s (runAdmin i tag 0xC4 0 true false true (ownerCommand tag a length part data sig stored) s) :=
  runAdmin_keeps (fun u => ownerCommand_keeps tag a length part data sig stored u) _ _ _ _ _ _ _ s

/-! ## Every command and every step -/

/-- No command leaves the invariant or touches a permanently locked sector: those named below reach the array or the
download session, the frames of the others hold neither. -/
theorem exec_keeps {i : Instr} (done : exec i s = .next t) : Keeps s t := by
  cases i
  case coldReset => cases done; exact .after ((emit_same _ _).keeps rfl) (wideReset_keeps _ s)
  case powerOnReset => cases done; exact .after ((emit_same _ _).keeps rfl) (wideReset_keeps _ s)
  case fundamentalReset => exact fundamentalReset_keeps _ _ done
  case linkReset port => cases done; exact .ite (linkResetOf_keeps port s) (.refl s)
  case subsystemReset => cases done; exact .ite (subsystemResetOf_keeps s) (.refl s)
  case flr f => cases done; exact .ite (flrOf_keeps f s) (.refl s)
  case vfEnableClear pf => cases done; exact .ite (clearVfs_keeps pf s) (.refl s)
  case controllerReset f => cases done; exact fnWrite_keeps (fun u => .ite (resetCtrl_keeps f u) (.refl u)) s
  case flushComplete => cases done; exact flushComplete_keeps _ s
  case plinthBoot env => cases done; exact .ite (plinth_keeps env s) (.refl s)
  case trialWatchdogExpiry => exact trialWatchdogExpiry_keeps _ done
  case trialConfirm => cases done; exact .ite (confirmTrial_keeps _ _ s) (.refl s)
  case rcvEraseSlot => exact rcvEraseSlotCmd_keeps _ _ _ done
  case rcvWriteChunk => exact rcvWriteChunk_keeps _ _ _ _ _ _ done
  case rcvCommit => exact rcvCommitCmd_keeps _ _ _ _ _ done
  case rcvReboot => exact rcvReboot_keeps _ _ done
  case recoveryWindowRead => exact recoveryWindowRead_keeps _ _ done
  case iaProgram => cases done; exact .after (norCycles_keeps _ _ _) (ledgerFirst_keeps _ s)
  case iaSectorErase => cases done; exact norCycles_keeps _ _ s
  case iaRemap => cases done; exact norCycles_keeps _ _ s
  case iaLockClear => cases done; exact norCycles_keeps _ _ s
  case iaLockSet => cases done; exact norCycles_keeps _ _ s
  case iaInfo => cases done; exact norCycles_keeps _ _ s
  case iaSuspend => cases done; exact .ite (norWrite_keeps _ _ _ s) (.refl s)
  case iaSuspendTakesEffect => cases done; exact whilePowered_keeps (.ite (suspendNow_keeps _ s) (.refl s))
  case iaResume => cases done; exact .after (norCycles_keeps _ _ _) (ledgerFirst_keeps _ s)
  case iaClearStatus => cases done; exact norCycles_keeps _ _ s
  case iaReadArray => cases done; exact norCycles_keeps _ _ s
  case iaBankRead => exact iaBankRead_keeps _ _ done
  case iaOperationComplete => cases done; exact whilePowered_keeps (opComplete_keeps _ _ s)
  case ownerInstall => cases done; exact ownerCmd_keeps _ _ _ _ _ _ _ _ s
  case ownerLock => cases done; exact ownerCmd_keeps _ _ _ _ _ _ _ _ s
  case ownerUnlock => cases done; exact ownerCmd_keeps _ _ _ _ _ _ _ _ s
  case ownerReplace => cases done; exact ownerCmd_keeps _ _ _ _ _ _ _ _ s
  case ownerRelease => cases done; exact ownerCmd_keeps _ _ _ _ _ _ _ _ s
  case ownerKscDisable => cases done; exact ownerCmd_keeps _ _ _ _ _ _ _ _ s
  case ownerKscEnable => cases done; exact ownerCmd_keeps _ _ _ _ _ _ _ _ s
  case evrPageProgram => cases done; exact .ite (programPage_keeps _ _ s) (.refl s)
  case evrAck => cases done; exact runAdmin_keeps (fun u => evrAck_keeps _ _ _ _ _ u) _ _ _ _ _ _ _ s
  case evrClear => cases done; exact runAdmin_keeps (fun u => evrClear_keeps _ _ _ _ _ _ _ u) _ _ _ _ _ _ _ s
  case firmwareImageDownload => cases done; exact runAdmin_keeps (fun u => download_keeps _ _ _ _ _ u) _ _ _ _ _ _ _ s
  case commitActionStage =>
    cases done
    exact runAdmin_keeps (fun u => commitOn_keeps (fun _ _ v => commitSession_keeps _ _ _ _ _ _ v) _ _ u) _ _ _ _ _ _
        _ s
  case commitActionPending =>
    cases done
    exact runAdmin_keeps (fun u => commitOn_keeps (fun _ _ v => commitSession_keeps _ _ _ _ _ _ v) _ _ u) _ _ _ _ _ _
        _ s
  case commitActionActivateStaged =>
    cases done
    exact runAdmin_keeps (fun u => commitOn_keeps (fun _ _ v => commitStaged_keeps _ _ _ _ _ v) _ _ u) _ _ _ _ _ _ _ s
  case laneFailure => exact laneFailure_keeps _ done
  case configRequest => exact configRequest_keeps _ _ done
  case linkDown port => cases done; exact .ite (linkDownOf_keeps port s) (.refl s)
  case virtualizationManagement => exact virtualizationManagement_keeps _ _ done
  case cfgStageCommit => cases done; exact .ite (cfgStageCommit_keeps _ s) (.refl s)
  case configRecordUpdate => exact configRecordUpdate_keeps _ done
  case restart env => cases done; exact .ite (restart_keeps env s) (.refl s)
  case vpdWrite => exact vpdWriteCmd_keeps _ _ _ _ _ done
  case miReset => exact miReset_keeps _ done
  case registerWrite => exact registerWrite_keeps _ _ _ _ _ done
  case updateGateRefresh => exact updateGateRefresh_keeps done
  all_goals exact ((exec_frame _ s).of_next done).keeps rfl

/-- The outcome of a command: a next state, or an access that names no byte of the die. -/
def GoesOn (o : Host.Outcome State Fault Refusal) : Prop :=
  (∃ t, o = .next t) ∨ ∃ n, o = .fault (.noSuchOffset n) ∧ dieBytes ≤ n

theorem GoesOn.next (t : State) : GoesOn (.next t) := .inl ⟨t, rfl⟩

theorem iaBankRead_goesOn (offset : Nat) (uncorrectable : Bool) (s : State) :
    GoesOn (exec (.iaBankRead offset uncorrectable) s) := by
  change GoesOn (execIaBankRead offset uncorrectable s)
  unfold execIaBankRead
  split
  · next beyond => exact .inr ⟨offset, rfl, beyond⟩
  · split
    · exact .next s
    · exact .next _

theorem recoveryWindowRead_goesOn (offset : Nat) (uncorrectable : Bool) (s : State) :
    GoesOn (exec (.recoveryWindowRead offset uncorrectable) s) := by
  change GoesOn (execRecoveryWindowRead offset uncorrectable s)
  unfold execRecoveryWindowRead
  split
  · next beyond => exact .inr ⟨offset, rfl, Nat.le_trans (by decide : dieBytes ≤ rcvBarBytes) beyond⟩
  · exact .next _

theorem exec_goesOn (i : Instr) (s : State) : GoesOn (exec i s) := by
  cases i
  case iaBankRead => exact iaBankRead_goesOn _ _ s
  case recoveryWindowRead => exact recoveryWindowRead_goesOn _ _ s
  all_goals exact .next _

theorem runHeld_goesOn (h : Held) (s : State) : GoesOn (runHeld h s) := by
  cases h with
  | admin i => exact exec_goesOn i s
  | vpdRead slot o n => exact .next _
  | vpdWrite slot o n d b => exact .next _
  | unlisted slot op => exact .next _
  | reset slot => exact .next _

theorem step_goesOn (s : State) : GoesOn (step s) := by
  unfold step
  split
  · unfold idleStep
    split
    · next h r _ _ =>
      split
      · exact .next _
      · exact runHeld_goesOn h _
    · exact .next _
  · next c r _ => exact exec_goesOn c _

theorem runHeld_keeps (h : Held) (done : runHeld h s = .next t) : Keeps s t := by
  cases h with
  | admin i => exact exec_keeps done
  | vpdRead slot o n => exact ((execVpdRead_ends slot o n s).of_next done).keeps rfl
  | vpdWrite slot o n d b => exact vpdWriteCmd_keeps slot o n d b done
  | unlisted slot op => cases done; exact (refusePathCode_same slot op s).keeps rfl
  | reset slot => exact miReset_keeps slot done

theorem pending_keeps (r : List Instr) (s : State) : Keeps s { s with pending := r } := .put (.refl s) rfl rfl

theorem held_keeps (r : List Held) (s : State) : Keeps s { s with mgt.held := r } := .put (.refl s) rfl rfl

theorem step_keeps (done : step s = .next t) : Keeps s t := by
  obtain ⟨c, r, ran⟩ | ⟨h, r, u, ran, rfl⟩ | rfl := step_cases done
  · exact .after (exec_keeps ran) (pending_keeps r s)
  · exact .after (held_keeps _ u) (.after (runHeld_keeps h ran) (held_keeps [] s))
  · exact (idleTick_same s).keeps rfl

/-! ## The factory's fuses stay -/

/-- No command's frame holds the fuses that the factory set. -/
theorem fuseFixed_unlisted (i : Instr) : (!(mayChange i).contains .fuseFixed) = true := by
  cases i <;> rfl

theorem exec_fuseFixed {i : Instr} (done : exec i s = .next t) : Field.same s t .fuseFixed :=
  (exec_frame i s).of_next done .fuseFixed (by simpa using fuseFixed_unlisted i)

theorem step_fuseFixed (done : step s = .next t) : Field.same s t .fuseFixed := by
  obtain ⟨c, r, ran⟩ | ⟨h, r, u, ran, rfl⟩ | rfl := step_cases done
  · have kept := exec_fuseFixed ran
    exact kept
  · change Field.same { s with mgt.held := [] } u .fuseFixed
    cases h with
    | admin i => exact exec_fuseFixed ran
    | vpdRead slot o n => exact (execVpdRead_ends slot o n _).of_next ran .fuseFixed (by decide)
    | vpdWrite slot o n d b => exact (execVpdWrite_ends slot o n d b _).of_next ran .fuseFixed (by decide)
    | unlisted slot op => cases ran; exact refusePathCode_same slot op _ .fuseFixed (by decide)
    | reset slot => exact (execMiReset_ends slot _).of_next ran .fuseFixed (by decide)
  · exact idleTick_same s .fuseFixed (by decide)

end
end Sys2Proof.Machine

open Sys2Proof Sys2Proof.Machine

/-- Settles O58: a step goes on but for an access beyond the die, and every command keeps the invariant. -/
theorem stepsGoOnAndKeepTheInvariant : Obligations.StepsGoOnAndKeepTheInvariant := by
  intro s inv
  obtain ⟨t, done⟩ | beyond := step_goesOn s
  · exact .inl ⟨t, done, (step_keeps done inv).1⟩
  · exact .inr beyond

/-- Settles O59: every step leaves the array's cells of a permanently locked sector, and no step sets the fuses that
the factory's certificates there are formed from. -/
theorem permanentLocksHold : Obligations.PermanentLocksHold := by
  intro s t a inv locked done
  obtain ⟨-, cells⟩ := step_keeps done inv
  exact norByte_locked locked (step_fuseFixed done) (cells a locked)
end

section
/-! SUPPORT. How a command of a queue or of the path starts, and what a frame says of one field (R325, R343, R585). -/
namespace Sys2Proof.Machine

/-- A field that is not in the frame is as before. -/
theorem Same.field {l : List Field} {s t : State} (h : Same l s t) (f : Field) (k : (!l.contains f) = true) :
    Field.same s t f := h f (by simpa using k)

/-- The tables are as before when none of their parts is in the frame. -/
theorem Same.wholeTab {l : List Field} {s t : State} (h : Same l s t)
    (k : ([.tabMap, .tabNss, .tabKeys, .tabDies, .tab].all fun f => !l.contains f) = true) : t.tab = s.tab := by
  have each : ∀ f ∈ [Field.tabMap, .tabNss, .tabKeys, .tabDies, .tab], Field.same s t f := fun f mem =>
    h.field f (List.all_eq_true.mp k f mem)
  obtain ⟨map, seqs⟩ := each .tabMap (by decide)
  have nss := each .tabNss (by decide)
  obtain ⟨keys, ksplit⟩ := each .tabKeys (by decide)
  obtain ⟨bands, dies, groups⟩ := each .tabDies (by decide)
  obtain ⟨seq, no, cap, caps, tj, ro, off, events, last, seen, init⟩ := each .tab (by decide)
  cases s; cases t
  rw [Tables.mk.injEq]
  exact ⟨map, seqs, nss, bands, dies, groups, seq, no, cap, caps, tj, keys, ksplit, ro, off, events, last, seen, init⟩

/-- The Image Array is as before when none of its parts is in the frame. -/
theorem Same.wholeNor {l : List Field} {s t : State} (h : Same l s t)
    (k : ([.norMem, .norOps, .norBanks, .nor].all fun f => !l.contains f) = true) : t.nor = s.nor := by
  have each : ∀ f ∈ [Field.norMem, .norOps, .norBanks, .nor], Field.same s t f := fun f mem =>
    h.field f (List.all_eq_true.mp k f mem)
  obtain ⟨mem, prog, undef⟩ := each .norMem (by decide)
  obtain ⟨seq0, run0, erase0, susp0, seq1, run1, erase1, susp1⟩ := each .norOps (by decide)
  obtain ⟨unlocked, info0, held0, progFail0, eraseFail0, seqErr0, locked0, pend0, factory0, grown0, spare0, intr0,
      info1,
    held1, progFail1, eraseFail1, seqErr1, locked1, pend1, factory1, grown1, spare1,
      intr1⟩ := each .norBanks (by decide)
  obtain ⟨retired, gen⟩ := each .nor (by decide)
  have bank0 : t.nor.bank0 = s.nor.bank0 := by
    rw [Bank.mk.injEq]
    exact ⟨seq0, info0, held0, progFail0, eraseFail0, seqErr0, locked0, pend0, run0, erase0, susp0, factory0, grown0,
      spare0, intr0⟩
  have bank1 : t.nor.bank1 = s.nor.bank1 := by
    rw [Bank.mk.injEq]
    exact ⟨seq1, info1, held1, progFail1, eraseFail1, seqErr1, locked1, pend1, run1, erase1, susp1, factory1, grown1,
      spare1, intr1⟩
  rw [Nor.mk.injEq]
  exact ⟨mem, prog, undef, unlocked, retired, bank0, bank1, gen⟩

/-! ## Starting a command -/

/-- A command of a function that starts in `u` runs its meaning there. -/
theorem runFn_start {f : Func} {t : Tag} {op : W8} {nsid : W32} {s u : State} (k : State → State) (src : t.src = .fn f)
    (start : Safety.startOf t op nsid s = some u) : runFn f t op nsid k s = k u := by
  simp only [Safety.startOf, src] at start
  unfold runFn
  cases begun : inflightOf s t with
  | some e =>
    simp only [begun, Option.some.injEq] at start
    rw [start]
  | none =>
    simp only [begun] at start
    cases fetched : fetchCmd f t op nsid s with
    | none => simp only [fetched, reduceCtorEq] at start
    | some r =>
      obtain ⟨v, takes⟩ := r
      cases takes with
      | false => simp only [fetched, reduceCtorEq] at start
      | true =>
        simp only [fetched, Option.some.injEq] at start
        rw [start]

theorem allowFrom_allowed {pf vf mgt : Bool} {t : Tag} (k : State → State) (s : State)
    (may : Safety.allowed pf vf mgt t = true) : allowFrom pf vf mgt t k s = k s := by
  cases src : t.src with
  | mgt => simp only [Safety.allowed, src] at may; simp only [allowFrom, src, may, if_true]
  | fn f => simp only [Safety.allowed, src] at may; simp only [allowFrom, src, may, if_true]

theorem allowFrom_denied {pf vf mgt : Bool} {t : Tag} (k : State → State) (s : State)
    (mayNot : Safety.allowed pf vf mgt t = false) : allowFrom pf vf mgt t k s = finish t .invalidCommandOpcode s := by
  cases src : t.src with
  | mgt =>
    simp only [Safety.allowed, src] at mayNot
    simp only [allowFrom, src, mayNot, Bool.false_eq_true, if_false]
  | fn f =>
    simp only [Safety.allowed, src] at mayNot
    simp only [allowFrom, src, mayNot, Bool.false_eq_true, if_false]

/-- A request on the path that starts runs its meaning. -/
theorem mgtRequest_start {s : State} (i : Held) (slot : Nat) (refused k : State → State)
    (ready : (fullyUp s && s.mgt.held.isEmpty) = true) : mgtRequest i slot refused k s = k s := if_pos ready

theorem startOf_mgt {t : Tag} {op : W8} {nsid : W32} {s u : State} (src : t.src = .mgt)
    (start : Safety.startOf t op nsid s = some u) : (fullyUp s && s.mgt.held.isEmpty) = true ∧ u = s := by
  simp only [Safety.startOf, src] at start
  split at start
  · next ready => cases start; exact ⟨ready, rfl⟩
  · cases start

theorem startOf_of_mgt {t : Tag} {s : State} (op : W8) (nsid : W32) (src : t.src = .mgt)
    (ready : (fullyUp s && s.mgt.held.isEmpty) = true) : Safety.startOf t op nsid s = some s := by
  simp only [Safety.startOf, src, ready, if_true]

/-- An admin command that starts in `u` from an allowed source runs its meaning there. -/
theorem runAdmin_start {t : Tag} {op : W8} {nsid : W32} {pf vf mgt : Bool} {s u : State} (i : Instr) (k : State → State)
    (start : Safety.startOf t op nsid s = some u) (may : Safety.allowed pf vf mgt t = true) :
    runAdmin i t op nsid pf vf mgt k s = k u := by
  unfold runAdmin
  split
  · next src =>
    obtain ⟨ready, rfl⟩ := startOf_mgt src start
    rw [mgtRequest_start _ _ _ _ ready, allowFrom_allowed k u may]
  · next f src => rw [runFn_start _ src start, allowFrom_allowed k u may]

/-- An I/O command that starts on a namespace that no reservation bars runs its meaning there. -/
theorem runIo_ready {t : Tag} {f : Func} {op : W8} {nsid : W32} {write : Bool} {s u : State} {n : Ns} {e : Inflight}
    (k : Func → Ns → Option (Nat × W32) → State → State) (src : t.src = .fn f)
    (ready : Safety.ioReady t op nsid write s u n e) : runIo t op nsid write k s = k f n e.key u := by
  obtain ⟨-, io, start, found, entry, fetched, free⟩ := ready
  simp only [runIo, src, if_neg io]
  rw [runFn_start _ src start]
  rw [src] at free
  simp only [found, entry, fetched, ne_eq, not_true_eq_false, if_false, free, Bool.false_eq_true]

/-- The function that an I/O command comes from. -/
theorem ioReady_src {t : Tag} {op : W8} {nsid : W32} {write : Bool} {s u : State} {n : Ns} {e : Inflight}
    (ready : Safety.ioReady t op nsid write s u n e) : ∃ f, t.src = .fn f := by
  obtain ⟨notMgt, -⟩ := ready
  cases src : t.src with
  | mgt => exact absurd src notMgt
  | fn f => exact ⟨f, rfl⟩

end Sys2Proof.Machine
end

section
/-! SUPPORT. Writes that the cache takes: what the line of a unit holds afterwards, and how its blocks read (R33, R34,
R401, R509). -/
namespace Sys2Proof.Machine

/-! ## Units of a range -/

theorem perIu_pos (n : Ns) : 0 < n.perIu := by
  unfold Ns.perIu iuBlocks iuBytes lbaBytes
  split <;> split <;> try split
  all_goals decide

theorem iuKey_inj {nsid x y : Nat} : iuKey nsid x = iuKey nsid y ↔ x = y := by
  unfold iuKey
  omega

/-- The unit of each block of a range is among the units of the range. -/
theorem unit_mem_iusOf (n : Ns) {slba count j : Nat} (h : j < count) : (slba + j) / n.perIu ∈ iusOf n slba count := by
  have low : slba / n.perIu ≤ (slba + j) / n.perIu := Nat.div_le_div_right (by omega)
  have high : (slba + j) / n.perIu ≤ (slba + count - 1) / n.perIu := Nat.div_le_div_right (by omega)
  simp only [iusOf, if_neg (show count ≠ 0 by omega), List.mem_map, List.mem_range]
  exact ⟨(slba + j) / n.perIu - slba / n.perIu, by omega, by omega⟩

/-- Each block of a range is among the covered blocks of its unit. -/
theorem block_covered (n : Ns) {slba count j : Nat} (h : j < count) :
    (slba + j) % n.perIu ∈ coveredBlocks n slba count ((slba + j) / n.perIu) := by
  have place := Nat.div_add_mod' (slba + j) n.perIu
  have inside := Nat.mod_lt (slba + j) (perIu_pos n)
  simp only [coveredBlocks, List.mem_filter, List.mem_range, decide_eq_true_eq]
  exact ⟨inside, by omega, by omega⟩

/-! ## Blocks placed over a version -/

theorem look_set_fold (g : Nat → Blk) (i : Nat) : ∀ (l : List Nat) (m : Sparse Blk),
    Sparse.look (l.foldl (fun m j => Sparse.set m j (g j)) m) i = if i ∈ l then some (g i) else Sparse.look m i
  | [], m => by simp
  | a :: l, m => by
    rw [List.foldl_cons, look_set_fold g i l, Sparse.look_set]
    by_cases e : i = a
    · subst e; simp
    · simp [e]

theorem look_overlay (n : Ns) (slba count u : Nat) (mk : Nat → Blk) (base : Sparse Blk) (i : Nat) :
    Sparse.look (overlay n slba count u mk base) i =
      if i ∈ coveredBlocks n slba count u then some (mk (u * n.perIu + i - slba)) else Sparse.look base i :=
  look_set_fold (fun i => mk (u * n.perIu + i - slba)) i _ base

/-- Whatever the unit held, its new version holds the written blocks. -/
theorem look_newVersion (s : State) (nsid : Nat) (n : Ns) (slba count u : Nat) (mk : Nat →
    Blk) (bad : List Nat) {i : Nat}
    (h : i ∈ coveredBlocks n slba count u) :
    Sparse.look (newVersion s nsid n slba count u mk bad).1 i = some (mk (u * n.perIu + i - slba)) := by
  have placed (base : Sparse Blk) :
      Sparse.look (overlay n slba count u mk base) i = some (mk (u * n.perIu + i - slba)) := by
    rw [look_overlay, if_pos h]
  unfold newVersion
  dsimp only
  split
  · exact placed _
  · split
    · exact placed _
    · split <;> exact placed _

/-! ## One unit into the cache -/

/-- The line of unit `u` holds the written blocks of the range. -/
def Cached (n : Ns) (slba count : Nat) (mk : Nat → Blk) (k u : Nat) (s : State) : Prop :=
  ∃ l, lineOf s k = some l ∧ ∀ i ∈ coveredBlocks n slba count u,
    Sparse.look l.ver.blocks i = some (mk (u * n.perIu + i - slba))

theorem lineOf_setLine_at (k : Nat) (l : Line) (s : State) (i : Nat) :
    lineOf (setLine k l s) i = if i = k then some l else lineOf s i := by
  simp only [lineOf, setLine_ftl, Sparse.look_set]

theorem lineOf_event (c d0 d1 : Nat) (s : State) (k : Nat) : lineOf (event c d0 d1 s) k = lineOf s k := by
  obtain ⟨cache, -⟩ := (event_same c d0 d1 s).field .ftlData rfl
  simp only [lineOf, cache]

section
variable (t : Tag) (nsid : Nat) (n : Ns) (slba count : Nat) (mk : Nat → Blk) (bad : List Nat) (u : Nat) (s : State)

/-- What a unit's write to the cache leaves of the lines: the new version under the unit's key. -/
theorem lineOf_writeUnit (k : Nat) : lineOf (writeUnit t nsid n slba count mk bad none u s) k =
    if k = iuKey nsid u then
      some { state := if (newVersion s nsid n slba count u mk bad).2 then .merging else .dirty,
             ver := { seq := s.tab.writeSeq + 1, blocks := (newVersion s nsid n slba count u mk bad).1 } }
    else lineOf s k := by
  unfold writeUnit
  dsimp only
  split
  · rw [lineOf_event, lineOf_setLine_at]
    rfl
  · rw [lineOf_setLine_at]
    rfl

theorem writeUnit_cached_wt : (writeUnit t nsid n slba count mk bad none u s).ftl.wt = s.ftl.wt := by
  unfold writeUnit
  dsimp only
  split
  · exact ((event_same _ _ _ _).field .ftlData rfl).2.1
  · rfl

theorem cached_writeUnit : Cached n slba count mk (iuKey nsid u) u (writeUnit t nsid n slba count mk bad none u s) :=
  ⟨_, (lineOf_writeUnit ..).trans (if_pos rfl), fun _ h => look_newVersion s nsid n slba count u mk bad h⟩

end

section
variable {t : Tag} {nsid : Nat} {n : Ns} {slba count : Nat} {mk : Nat → Blk} {bad : List Nat}

theorem Cached.writeUnit {x : Nat} {s : State} (h : Cached n slba count mk (iuKey nsid x) x s) (u : Nat) :
    Cached n slba count mk (iuKey nsid x) x (writeUnit t nsid n slba count mk bad none u s) := by
  by_cases same : x = u
  · subst same
    exact cached_writeUnit ..
  · obtain ⟨l, line, blocks⟩ := h
    refine ⟨l, ?_, blocks⟩
    rw [lineOf_writeUnit, if_neg (by rwa [iuKey_inj]), line]

/-- Units written one after the other: each is in the cache afterwards. -/
theorem cached_writeUnits {x : Nat} : ∀ (us : List Nat) (s : State),
    x ∈ us ∨ Cached n slba count mk (iuKey nsid x) x s →
    Cached n slba count mk (iuKey nsid x) x (us.foldl (fun s u => writeUnit t nsid n slba count mk bad none u s) s)
  | [], s, h => h.resolve_left (List.not_mem_nil)
  | u :: us, s, h => by
    refine cached_writeUnits us _ ?_
    obtain here | cached := h
    · obtain rfl | later := List.mem_cons.mp here
      · exact .inr (cached_writeUnit ..)
      · exact .inl later
    · exact .inr (cached.writeUnit u)

theorem writeUnits_cached_wt : ∀ (us : List Nat) (s : State),
    (us.foldl (fun s u => writeUnit t nsid n slba count mk bad none u s) s).ftl.wt = s.ftl.wt
  | [], _ => rfl
  | _ :: us, _ => (writeUnits_cached_wt us _).trans (writeUnit_cached_wt ..)

end

/-! ## Reading what the cache holds -/

/-- With nothing of the unit waiting in write-through, the version in DRAM is that of the cache line. -/
theorem dramVer_of_line {s : State} {k : Nat} {l : Line} (line : lineOf s k = some l) (none : ∀ w ∈ s.ftl.wt,
    w.key ≠ k) :
    dramVer s k = some (l.ver, decide (l.state = .merging)) := by
  have empty : s.ftl.wt.filter (fun w => decide (w.key = k ∧ seqOf s k < w.ver.seq)) = [] := by
    rw [List.filter_eq_nil_iff]
    intro w mem
    simp [none w mem]
  simp only [dramVer, empty, line, List.foldl_nil, Option.map_some]

/-- A block that the line holds reads as itself. -/
theorem readBlk_of_line {s : State} {env : MediaEnv} {k i : Nat} {l : Line} {b : Blk} (lim : Bool)
    (line : lineOf s k = some l) (none : ∀ w ∈ s.ftl.wt, w.key ≠ k) (good : env.cacheBad = [])
    (held : Sparse.look l.ver.blocks i = some b) (clean : b.poison = false) : readBlk s env lim k i = .good b := by
  have block : l.ver.blk i = b := by simp only [IuVer.blk, Sparse.read, held, Option.getD_some]
  simp only [readBlk, dramVer_of_line line none, held, Option.isNone_some, Bool.and_false, good, List.contains_nil,
    Bool.false_eq_true, if_false, block, clean]

/-! ## The transfer before the write -/

theorem request_form (f : Func) (h : Bool) (s : State) (p : Nat) :
    ∃ fs o, request f h s p = { s with fns := fs, out := o } := by
  unfold request
  split <;> exact ⟨_, _, rfl⟩

/-- The requests of a transfer touch translations and the output only. -/
theorem requests_form (f : Func) (h : Bool) : ∀ (l : List Nat) (s : State),
    ∃ fs o, l.foldl (request f h) s = { s with fns := fs, out := o }
  | [], s => ⟨s.fns, s.out, rfl⟩
  | p :: l, s => by
    obtain ⟨fs, o, here⟩ := request_form f h s p
    obtain ⟨fs', o', rest⟩ := requests_form f h l { s with fns := fs, out := o }
    exact ⟨fs', o', by rw [List.foldl_cons, here, rest]⟩

theorem admitted_moves (f : Func) (h : Bool) (io : Io) (s : State) (ks : List Nat) :
    admitted (moves f h io s) ks = admitted s ks := by
  obtain ⟨fs, o, form⟩ := requests_form f h io.pages s
  rw [moves, form]
  rfl

theorem iusOf_ne_nil (n : Ns) {slba count : Nat} (h : 0 < count) : iusOf n slba count ≠ [] :=
  List.ne_nil_of_mem (unit_mem_iusOf n h)

/-- Units that the limit admits, of a command without FUA, go into the cache one after the other. -/
theorem writeUnits_admitted (t : Tag) (nsid : Nat) (n : Ns) (slba count : Nat) (mk : Nat → Blk) (bad : List Nat)
    {us : List Nat} {s : State} (some : us ≠ []) (fits : admitted s (us.map (iuKey nsid)) = true) :
    writeUnits t nsid n slba count mk bad false us s =
      us.foldl (fun s u => writeUnit t nsid n slba count mk bad none u s) s := by
  simp only [writeUnits, List.isEmpty_eq_false_iff.mpr some, fits, Bool.false_eq_true, if_false, Bool.not_false,
    Bool.and_true, if_true]

/-- A Write whose units the limit admits: the transfer, its units into the cache, and the completion. -/
theorem ioWrite_admitted {t : Tag} {f : Func} {io : Io} {sgl : List SglDesc} {s u : State} {n : Ns} {e : Inflight}
    (d h : Bytes) (bad : List Nat) (src : t.src = .fn f) (ready : Safety.ioReady t 0x01 io.nsid true s u n e)
    (passes : xferCheck n io sgl = none)
    (fits : admitted u ((iusOf n io.slba.toNat (ioBlocks io)).map (iuKey io.nsid.toNat)) = true) :
    exec (.ioWrite t io false sgl d h bad) s = .next (finishWrite t ((iusOf n io.slba.toNat (ioBlocks io)).foldl
      (fun s x => writeUnit t io.nsid.toNat n io.slba.toNat (ioBlocks io)
        (hostBlk e.key (lbaBytes n.lbaf) (metaBytes n.lbaf) d h) bad none x s) (moves f false io u))) := by
  have some : iusOf n io.slba.toNat (ioBlocks io) ≠ [] := iusOf_ne_nil n (Nat.succ_pos _)
  change execIoWrite t io false sgl d h bad s = _
  rw [execIoWrite, runIo_ready _ src ready]
  simp only [passes]
  rw [writeUnits_admitted _ _ _ _ _ _ _ some (by rw [admitted_moves, fits])]

end Sys2Proof.Machine

open Sys2Proof Sys2Proof.Machine

/-- Settles O31: each unit's line holds its written blocks through the units that follow, and a block that the line
holds
reads as itself. -/
theorem admittedWritesAreReadBack : Obligations.AdmittedWritesAreReadBack := by
  intro t io sgl d h bad s u n e ready passes fits free
  obtain ⟨f, src⟩ := ioReady_src ready
  have runs := ioWrite_admitted d h bad src ready passes fits
  generalize us_eq : iusOf n io.slba.toNat (ioBlocks io) = us at runs free
  generalize mk_eq : hostBlk e.key (lbaBytes n.lbaf) (metaBytes n.lbaf) d h = mk at runs
  have moved := moves_same f false io u
  have wrote := Same.fold (fun s x => writeUnit_same t io.nsid.toNat n io.slba.toNat (ioBlocks io) mk bad none x s) us
    (.refl _ (moves f false io u))
  have cached (x : Nat) (mem : x ∈ us) := cached_writeUnits (t := t) (nsid := io.nsid.toNat) (n := n)
    (slba := io.slba.toNat) (count := ioBlocks io) (mk := mk) (bad := bad) us (moves f false io u) (.inl mem)
  have waiting := writeUnits_cached_wt (t := t) (nsid := io.nsid.toNat) (n := n) (slba := io.slba.toNat)
    (count := ioBlocks io) (mk := mk) (bad := bad) us (moves f false io u)
  generalize us.foldl _ (moves f false io u) = written at runs wrote cached waiting
  have ended := finishWrite_same t written
  refine ⟨_, runs, ?map, ?media, ?blocks⟩
  case map =>
    exact (ended.field .tabMap rfl).1.trans ((wrote.field .tabMap rfl).1.trans (moved.field .tabMap rfl).1)
  case media =>
    exact (ended.field .media rfl).trans ((wrote.field .media rfl).trans (moved.field .media rfl))
  case blocks =>
    intro j env lim inside good
    have unit := unit_mem_iusOf n (slba := io.slba.toNat) inside
    rw [us_eq] at unit
    obtain ⟨l, line, held⟩ := cached _ unit
    obtain ⟨cache, wt, -⟩ := ended.field .ftlData rfl
    have block := held _ (block_covered n inside)
    rw [Nat.div_add_mod', Nat.add_sub_cancel_left] at block
    refine readBlk_of_line lim ?_ ?_ good block (by rw [← mk_eq]; rfl)
    · rw [lineOf, cache]
      exact line
    · rw [wt, waiting, (moved.field .ftlData rfl).2.1]
      exact free _ unit
end

section
/-! SUPPORT. The wide resets, release and straps, the losses of clocks and of VAUX (R19, R37, R48, R54, R81, R87, R472),
and what a record's store leaves of the boot state. -/
namespace Sys2Proof.Machine

/-! ## A Fundamental reset keeps the dies' suspend counts (R386) -/

/-- A released device with one die that has suspended once since power-on. -/
def suspendedOnce : State :=
  { State.reset with pwr.phase := .released, flash.dies := [(0, { Die.reset with maxSusp := 1 })] }

def quietFlush : FlushResult := { flushMs := 0, stopOk := true, journalOk := true, manifestOk := true }

theorem fundamental_keeps_maxSusp : (fundamental true quietFlush suspendedOnce).flash.dies =
    [(0, { Die.reset with maxSusp := 1 })] := by
  rw [fundamental_internal quietFlush rfl rfl]
  rfl

/-! ## Clocks -/

theorem limitMib_lost {s : State} (lost : s.pwr.armrefOk = false) : limitMib s = 0 := by
  unfold limitMib
  split
  · rfl
  · rw [lost]
    rfl

/-- What the fallbacks do to Power state: at most note that the hold-up reserve is short. -/
def ShortOnly (s t : State) : Prop := ∃ b, t.pwr = { s.pwr with holdShort := b }

theorem noteShort_short (s : State) : ShortOnly s (noteShort s) := by
  unfold noteShort
  split
  · exact ⟨true, rfl⟩
  · exact ⟨s.pwr.holdShort, rfl⟩

theorem ShortOnly.trans {s t u : State} (h : ShortOnly s t) (k : ShortOnly t u) : ShortOnly s u := by
  obtain ⟨a, ha⟩ := h
  obtain ⟨b, hb⟩ := k
  exact ⟨b, by rw [hb, ha]⟩

theorem ShortOnly.of_pwr {s t : State} (h : t.pwr = s.pwr) : ShortOnly s t := ⟨s.pwr.holdShort, h⟩

theorem ShortOnly.fold {α : Type} {g : State → α → State} (h : ∀ s a, ShortOnly s (g s a)) :
    ∀ (x : List α) (s : State), ShortOnly s (x.foldl g s)
  | [], _ => .of_pwr rfl
  | a :: x, s => (h s a).trans (fold h x (g s a))

theorem publish_short (a d : Int) (s : State) : ShortOnly s (publish a d s) := by
  refine .trans (.of_pwr ?_) (noteShort_short _)
  exact (evsSetIf_same _ _ _).field .pwr rfl

theorem applyFallbacks_short (s : State) : ShortOnly s (applyFallbacks s) := by
  unfold applyFallbacks
  refine .fold (fun u i => ?_) _ s
  have driven : ShortOnly u (driveOut i ((slotOf u i).cfg.fallback i)
      (setSlot i { slotOf u i with applied := (slotOf u i).cfg.fallback i, ran := false } u)) :=
    .of_pwr (((driveOut_same _ _ _).field .pwr rfl).trans ((setSlot_same _ _ _).field .pwr rfl))
  dsimp only
  split
  · exact driven.trans (publish_short _ _ _)
  · exact driven

/-! ## A record's store and the boot state -/

/-- With firmware up, what an operation leaves of the boot state: all of it. -/
def BootKept (s t : State) : Prop := t.pwr.phase = s.pwr.phase ∧ (firmwareUp s = true → t.boot = s.boot)

namespace BootKept

variable {l : List Field} {s t u : State}

theorem refl (s : State) : BootKept s s := ⟨rfl, fun _ => rfl⟩

theorem trans (h : BootKept s t) (k : BootKept t u) : BootKept s u := by
  obtain ⟨phase, boot⟩ := h
  obtain ⟨phase', boot'⟩ := k
  refine ⟨phase'.trans phase, fun up => ?_⟩
  have still : firmwareUp t = true := by simpa only [firmwareUp, phase, boot up] using up
  exact (boot' still).trans (boot up)

/-- An operation after another, the last one first. -/
theorem after (k : BootKept t u) (h : BootKept s t) : BootKept s u := h.trans k

theorem of_same (h : Same l s t) (k : (!l.contains .boot && !l.contains .pwr) = true) : BootKept s t := by
  rw [Bool.and_eq_true] at k
  exact ⟨congrArg Pwr.phase (h.field .pwr k.2), fun _ => h.field .boot k.1⟩

theorem ite {c : Prop} [Decidable c] (h : BootKept s t) (k : BootKept s u) : BootKept s (if c then t else u) := by
  split <;> assumption

end BootKept

theorem eventDue_bootKept (code d0 d1 : Nat) (s : State) : BootKept s (eventDue code d0 d1 s) := by
  unfold eventDue
  split
  · exact .of_same (event_same _ _ _ _) rfl
  · next down => exact ⟨rfl, fun up => absurd up down⟩

theorem retireSector_bootKept (n : Nat) (s : State) : BootKept s (retireSector n s) := by
  have copied (b : RecBody) (u : State) : BootKept u (storeCopy b true u) := .of_same (storeCopy_same _ _ _) rfl
  have plain {u v : State} (pwr : v.pwr = u.pwr) (boot : v.boot = u.boot) : BootKept u v :=
    ⟨congrArg Pwr.phase pwr, fun _ => boot⟩
  unfold retireSector
  refine .ite (.refl s) (.after (eventDue_bootKept _ _ _ _) (.after (.of_same (evsSet_same _ _) rfl) ?_))
  refine .trans (t := { s with nor.retired := insertNew n s.nor.retired }) (plain rfl rfl) ?_
  exact .ite (copied _ _) (.ite (copied _ _) (.ite (plain rfl rfl) (.ite (plain rfl rfl)
    (.ite (plain rfl rfl) (.ite (plain rfl rfl) (.refl _))))))

theorem replaceBad_bootKept (n pages : Nat) (s : State) : BootKept s (replaceBad n pages s) := by
  refine .ite (retireSector_bootKept n s) (.after (eventDue_bootKept _ _ _ _)
      (.after (.of_same (evsSet_same _ _) rfl) ?_))
  exact .after (.of_same (bumpGen_same _ _) rfl) (.of_same (modBank_same _ _ _) rfl)

theorem storeRecord_bootKept (b : RecBody) (ok : Bool) (s : State) : BootKept s (storeRecord b ok s) := by
  have copied : BootKept s (storeCopy b ok s) := .of_same (storeCopy_same _ _ _) rfl
  have undefined (c : Prop) [Decidable c] (lo hi : Nat) (u : State) : BootKept u
      (if c then undefineUnits lo hi u else u) :=
    .ite (.of_same (undefineUnits_same _ _ _) rfl) (.refl u)
  have moved (u : State) (c : CfgStore) : BootKept u { u with cfg := c } := ⟨rfl, fun _ => rfl⟩
  unfold storeRecord
  exact .ite copied (.ite copied (.after (replaceBad_bootKept _ _ _)
      (.after (moved _ _) (.after (undefined _ _ _ _) copied))))

theorem running_firmwareUp {s : State} (up : running s = true) : firmwareUp s = true := by
  simp only [running, Bool.and_eq_true] at up
  exact up.1

theorem running_released {s : State} (up : running s = true) : s.pwr.phase = .released := by
  simp only [running, firmwareUp, Bool.and_eq_true, decide_eq_true_eq] at up
  exact up.1.1

theorem running_calm {s : State} (up : running s = true) : s.pwr.flush = none := by
  simp only [running, Bool.and_eq_true, Option.isNone_iff_eq_none] at up
  exact up.2

/-- A frame without the fuses, of any kind. -/
theorem Same.allFuses {l : List Field} {s t : State} (h : Same l s t)
    (k : (!l.contains .fuseBits && !l.contains .fuseFixed && !l.contains .fuses) = true) : t.fuses = s.fuses := by
  rw [Bool.and_eq_true, Bool.and_eq_true] at k
  obtain ⟨svn, key, ksc⟩ := h.field .fuseBits k.1.1
  obtain ⟨grade, dsn, array⟩ := h.field .fuseFixed k.1.2
  obtain ⟨shadow, counters, attempts⟩ := h.field .fuses k.2
  cases s; cases t
  rw [Fuses.mk.injEq]
  exact ⟨grade, dsn, array, svn, key, ksc, shadow, counters, attempts⟩

/-! ## Straps and clocks -/

theorem busMode_addr (b : Bool) (s : State) : (busMode b s).mgt.addr = s.mgt.addr := by
  unfold busMode
  split
  · rfl
  · dsimp only
    rw [alertFollow_mgt]
    cases b <;> cases s.mgt.asm.isSome <;> rfl

theorem relatchAddress_spec (a : BitVec 3) (s : State) :
    (relatchAddress a s).mgt.addr = mgtAddress a ∧ (relatchAddress a s).pwr = s.pwr := by
  unfold relatchAddress
  split
  · next same => exact ⟨same, rfl⟩
  · exact ⟨busMode_addr _ _, (busMode_same _ _).field .pwr rfl⟩

theorem armrefLoss_spec {s : State} (up : s.pwr.armrefOk = true) : ∃ t, exec .armrefLoss s = .next t ∧
    t.pwr.armrefOk = false ∧ t.pwr.armrefLost = true ∧ t.pwr.chgGateHeld = true := by
  obtain ⟨b, fallen⟩ := applyFallbacks_short { s with pwr.armrefOk := false, pwr.chgGateHeld := true }
  have pwr (high gate : Bool) (old : Nat) (c : Bool) (u : State) :
      (eventDue 0x0003 1 0 (emit (.pins high gate) (noteLimit old (evsSetIf c 0 u)))).pwr = u.pwr :=
    ((eventDue_same _ _ _ _).field .pwr rfl).trans ((noteLimit_same _ _).field .pwr rfl |>.trans
      ((evsSetIf_same _ _ _).field .pwr rfl))
  refine ⟨_, congrArg Host.Outcome.next (if_neg (by simp [up])), ?_⟩
  dsimp only
  rw [pwr, fallen]
  exact ⟨rfl, rfl, rfl⟩

theorem xt32Loss_spec {s : State} (up : s.pwr.xt32Ok = true) : ∃ t, exec .xt32Loss s = .next t ∧
    t.pwr.xt32Ok = false ∧ t.pwr.xt32Lost = true ∧ t.vault.fpDisabled = true := by
  have runs : exec .xt32Loss s = .next (eventDue 0x0003 2 0 (evsSetIf (!s.pwr.xt32Lost) 1
      { s with pwr.xt32Ok := false, vault.fpDisabled := true, pwr.xt32Lost := true })) := by
    change execXt32Loss s = _
    simp [execXt32Loss, up]
  have frame (u : State) (c : Bool) : Same [.boot, .evr, .ksc, .evs0, .evs1, .free] u
      (eventDue 0x0003 2 0 (evsSetIf c 1 u)) := .call (eventDue_same _ _ _ _) rfl (.widen rfl (evsSetIf_same _ _ _))
  refine ⟨_, runs, ?_⟩
  rw [(frame _ _).field .pwr rfl, (frame _ _).field .vault rfl]
  exact ⟨rfl, rfl, rfl⟩

/-! ## The trial boot -/

theorem flushedFor_boot (r : FlushResult) (s : State) : (flushedFor r s).boot = s.boot := by
  have exports (u : State) : (endExports u).boot = u.boot := (endExports_same u).field .boot rfl
  have session (u : State) : (endSession u).boot = u.boot := (endSession_same u).field .boot rfl
  have arm (u : State) : (armPowerFail u).boot = u.boot := (armPowerFail_same u).field .boot rfl
  have channels (u : State) : (channelsFlush u).boot = u.boot := (channelsFlush_same u).field .boot rfl
  have dumped (u : State) : (dumpAll r u).boot = u.boot := (dumpAll_same r u).field .boot rfl
  have stop (c : W8) (a b : W32) (ok : Bool) (u : State) : (programStop c a b ok u).boot = u.boot :=
    (programStop_same c a b ok u).field .boot rfl
  simp only [flushedFor, stop, dumped, channels, emit_boot, arm, session, exports]

theorem wideReset_watchdogFired (s : State) :
    (wideReset .internalFundamental s).boot.watchdogFired = s.boot.watchdogFired := by
  have died (tab : Tables) : (evrReset (dieReset { s with tab := tab })).boot = s.boot :=
    ((evrReset_same _).field .boot rfl).trans ((dieReset_same _).field .boot rfl)
  unfold wideReset
  dsimp only
  rw [died]
  exact Bool.and_true _

theorem gateAfter_boot (s : State) : (gateAfter s).boot = s.boot := rfl

/-- What an internal Fundamental reset leaves of the boot (R37, R112): the option load ahead, the watchdog's latch
kept. -/
theorem fundamental_boot (r : FlushResult) {s : State} (h : s.pwr.phase = .released) (k : s.pwr.flush = none) :
    (fundamental true r s).boot.phase = .optionLoad ∧
    (fundamental true r s).boot.watchdogFired = s.boot.watchdogFired ∧
    (fundamental true r s).pwr.kind = .internalFundamental := by
  obtain ⟨phase, kind, -⟩ := fundamental_restarts r h k
  refine ⟨phase, ?_, kind⟩
  have kept := congrArg Boot.watchdogFired (flushedFor_boot r s)
  rw [← kept, fundamental_internal r h k, gateAfter_boot, wideReset_watchdogFired]

theorem trialConfirm_runs (e : ImageEnv) (stored : Bool) {s : State} (up : running s = true)
    (trial : s.boot.trial = true)
    (armed : s.boot.armed = true) (fresh : s.boot.confirmed = false) (may : mayConfirm s = true) :
    exec (.trialConfirm e stored) s = .next (confirmTrial e stored s) := by
  change execTrialConfirm e stored s = _
  simp [execTrialConfirm, up, trial, armed, fresh, may]

/-- The marks of a confirmed boot (R116, R117), on the state its record's store left. -/
def confirmed (e : ImageEnv) (i : SlotId) (s : State) : State :=
  raiseFloor (floorFor { s with boot.armed := false, boot.confirmed := true, boot.remainingS := 0 } e)
    (event 0x0034 1 (slotCode i) (evsSet 32 { s with boot.armed := false, boot.confirmed := true, boot.remainingS := 0 }))

theorem confirmed_spec (e : ImageEnv) (i : SlotId) (s : State) : (confirmed e i s).boot.armed = false ∧
    (confirmed e i s).boot.confirmed = true ∧ (confirmed e i s).boot.remainingS = 0 ∧
      (confirmed e i s).cfg = s.cfg := by
  have frame : Same [.fuseBits, .fuses, .evr, .ksc, .evs0, .evs1, .free]
      { s with boot.armed := false, boot.confirmed := true, boot.remainingS := 0 } (confirmed e i s) :=
    .call (raiseFloor_same _ _) rfl (.call (event_same _ _ _ _) rfl (.widen rfl (evsSet_same _ _)))
  have boot := frame.field .boot rfl
  refine ⟨?_, ?_, ?_, frame.field .cfg rfl⟩
  all_goals rw [boot]

theorem confirmTrial_stored (e : ImageEnv) {s : State} {i : SlotId} (slot : slotOfCode s.boot.slot.toNat = some i)
    (room : canStore .boot s = true) :
    confirmTrial e true s = confirmed e i (storeRecord (.boot (confirmRec (bootRecBase s) i)) true s) := by
  simp [confirmTrial, slot, room, confirmed]

theorem confirmTrial_fails (e : ImageEnv) {s : State} {i : SlotId} (slot : slotOfCode s.boot.slot.toNat = some i) :
    confirmTrial e false s = storeRecord (.boot (confirmRec (bootRecBase s) i)) false s := by
  simp [confirmTrial, slot]

theorem storeRecord_fuses (b : RecBody) (ok : Bool) (s : State) : (storeRecord b ok s).fuses = s.fuses :=
  (storeRecord_same b ok s).allFuses rfl

end Sys2Proof.Machine

open Sys2Proof Sys2Proof.Machine

/-- Refutes O1: a Fundamental reset keeps MAX_SUSPENDS of a die (R386), so the channels do not return to their reset
state when a die has suspended since power-on. -/
theorem not_wideResetsClearRegisters : ¬ Obligations.WideResetsClearRegisters := by
  rintro ⟨-, -, fundamentalReset⟩
  obtain ⟨t, done, -, -, -, -, -, -, -, restarted⟩ := fundamentalReset suspendedOnce quietFlush rfl rfl
  cases done
  obtain ⟨-, -, -, -, -, -, -, flash, -⟩ := restarted
  have dies := congrArg Flash.dies flash
  change (fundamental true quietFlush suspendedOnce).flash.dies = [] at dies
  rw [fundamental_keeps_maxSusp] at dies
  cases dies

/-- Settles O2: the release, the wait and the sample are one branch each of their commands. -/
theorem releaseSamplesStraps : Obligations.ReleaseSamplesStraps := by
  refine ⟨?high, ?low, ?wait, ?sample⟩
  case high =>
    intro s held
    have runs : exec (.internalResetRelease true) s = .next (release s) := by
      change execInternalResetRelease _ s = _
      simp [execInternalResetRelease, held]
    exact ⟨_, runs, rfl, rfl, rfl, .put (.refl _ s) rfl⟩
  case low =>
    intro s held
    have runs : exec (.internalResetRelease false) s =
        .next { s with pwr.phase := .heldByPwrfail, pwr.pwrfailLvl := false } := by
      change execInternalResetRelease _ s = _
      simp [execInternalResetRelease, held]
    exact ⟨_, runs, rfl, .put (.refl _ s) rfl⟩
  case wait =>
    intro s held
    have runs : exec .pwrfailReleaseWait s = .next (release s) := by
      change execPwrfailReleaseWait s = _
      simp [execPwrfailReleaseWait, held]
    exact ⟨_, runs, rfl, rfl, .put (.refl _ s) rfl⟩
  case sample =>
    intro s l due released
    have runs : exec (.strapSample l) s =
        .next (relatchAddress l.mgtAddr { s with pwr.straps := l, pwr.strapDue := false }) := by
      change execStrapSample l s = _
      simp [execStrapSample, due, released]
    obtain ⟨addr, pwr⟩ := relatchAddress_spec l.mgtAddr { s with pwr.straps := l, pwr.strapDue := false }
    exact ⟨_, runs, by rw [pwr], by rw [pwr], addr, (execStrapSample_ends l s).of_next runs⟩

/-- Settles O4: each loss and return by its own branch; the fallbacks that follow a loss of ARMREF touch of Power state
only the note that the reserve is short. -/
theorem clockLossesLatch : Obligations.ClockLossesLatch := by
  refine ⟨?loss, ?back, ?xtLoss, ?xtBack, ?vaux⟩
  case loss =>
    intro s up
    obtain ⟨t, runs, ok, lost, gate⟩ := armrefLoss_spec up
    exact ⟨t, runs, ok, lost, gate, limitMib_lost ok⟩
  case back =>
    intro s down
    have runs : exec .armrefReturn s = .next (emit (.pins s.pwr.holdEn (s.pwr.flush.isSome || !charging s.hold.chg))
        (noteLimit (limitMib s) { s with pwr.armrefOk := true,
                                         pwr.chgGateHeld := s.pwr.flush.isSome || !charging s.hold.chg })) := by
      change execArmrefReturn s = _
      simp [execArmrefReturn, down]
    have pwr (old : Nat) (u : State) : (noteLimit old u).pwr = u.pwr := (noteLimit_same old u).field .pwr rfl
    refine ⟨_, runs, ?_, ?_, (execArmrefReturn_ends s).of_next runs⟩
    · rw [emit_pwr, pwr]
    · rw [emit_pwr, pwr]
  case xtLoss =>
    intro s up
    obtain ⟨t, runs, spec⟩ := xt32Loss_spec up
    exact ⟨t, runs, spec⟩
  case xtBack => exact fun s => ⟨_, rfl, rfl, rfl, .put (.refl _ s) rfl⟩
  case vaux => exact fun s => ⟨_, rfl, rfl, rfl, .put (.refl _ s) rfl⟩

/-- Settles O7: the watchdog's restart is an internal Fundamental reset; a confirmation is its record's store, which
with
firmware up changes no boot state, and then the marks of the boot. -/
theorem trialBootIsConfirmedOrRestarted : Obligations.TrialBootIsConfirmedOrRestarted := by
  refine ⟨?watchdog, ?stored, ?fails, ?sleep⟩
  case watchdog =>
    intro s r up armed
    have runs : exec (.trialWatchdogExpiry r) s = .next (fundamental true r { s with boot.watchdogFired := true }) := by
      change execTrialWatchdogExpiry r s = _
      simp [execTrialWatchdogExpiry, up, armed]
    obtain ⟨phase, fired, kind⟩ := fundamental_boot r (s := { s with boot.watchdogFired := true })
      (running_released up) (running_calm up)
    exact ⟨_, runs, phase, fired, kind⟩
  case stored =>
    intro s e i up trial armed fresh may slot room
    have runs := trialConfirm_runs e true up trial armed fresh may
    rw [confirmTrial_stored e slot room] at runs
    exact ⟨_, runs, confirmed_spec e i _⟩
  case fails =>
    intro s e i up trial armed fresh may slot
    have runs := trialConfirm_runs e false up trial armed fresh may
    rw [confirmTrial_fails e slot] at runs
    obtain ⟨-, boot⟩ := storeRecord_bootKept (.boot (confirmRec (bootRecBase s) i)) false s
    exact ⟨_, runs, boot (running_firmwareUp up), storeRecord_fuses _ _ s⟩
  case sleep =>
    intro s w up shut clean crystal vaux
    change execDeepSleepArm w s = _
    simp [execDeepSleepArm, up, shut, clean, crystal, vaux, deepSleepRec]
end

section
/-! SUPPORT. A Link reset that ends a session of a tenant whose function number lies beyond the VFs of its PF. -/
namespace Sys2Proof.Machine

/-- An export session of VF 200 of PF0: its UNIT, 202, is that of VF 73 of PF1. -/
def strayExport : MqSess :=
  { id := 0, imp := false, pf := .p0, vf := 200, state := .openRound, delta := false, chainId := 0, chainSeq := 0,
    round := 0, ks := [], dirty := [], todo := [], stage := 0, nextIdx := 0, lastLen := 0, lastObj := none,
    exhausted := false, chain := 0, ctxs := [], xportId := 0, aliasId := 0, devidId := 0,
    svn := 0, shards := 0, nss := [], slots := [], control := [], manifest := 0 }

/-- A released device in x8+x8 mode with VF 73 of PF1 Frozen and the stray session open. -/
def strayState : State :=
  { State.reset with pwr.phase := .released, pwr.straps.bifurc := true, fns := [(202, { Fn.reset with frozen := true })],
                     mqt.sess := [strayExport] }

theorem linkReset_thaws : (fnOf (linkResetOf .p0 strayState) ⟨.p1, 73⟩).frozen = false := rfl

end Sys2Proof.Machine

open Sys2Proof Sys2Proof.Machine

/-- Refutes O5: a Link reset of port 0 ends the session of VF 200 of PF0, whose UNIT is that of VF 73 of PF1, and so
changes a function behind the other port. -/
theorem not_functionResetsClearControllers : ¬ Obligations.FunctionResetsClearControllers := by
  rintro ⟨-, -, -, -, linkReset, -⟩
  obtain ⟨t, done, -, -, -, -, -, others⟩ := linkReset strayState .p0 rfl
  have ran : exec (.linkReset .p0) strayState = .next (linkResetOf .p0 strayState) := rfl
  rw [ran] at done
  cases done
  have kept := congrArg Fn.frozen (others ⟨.p1, 73⟩ (by decide) (by decide))
  rw [linkReset_thaws] at kept
  cases kept
end

section
/-! SUPPORT. What a completed program or erase leaves of the array's bytes (R150, R154, R161, R172). -/
namespace Sys2Proof.Machine

/-! ## A byte of the array -/

/-- A byte reads as before where the array's cell and what the records put there are as before. -/
theorem norByte_congr {s t : State} {a : Nat} (cells : cell t a = cell s a) (stored : storedByte t a = storedByte s a) :
    norByte t a = norByte s a := by
  obtain ⟨seed, mem⟩ := Prod.mk.inj cells
  unfold norByte
  rw [stored, mem]
  generalize List.find? _ t.nor.undef = x at seed ⊢
  generalize List.find? _ s.nor.undef = y at seed ⊢
  cases x <;> cases y <;> simp_all

/-- A defined byte that no record put there reads as the array's memory. -/
theorem norByte_mem {s : State} {a : Nat} (defined : undefAt s.nor.undef (a / 32) = none)
    (free : storedByte s a = none) :
    norByte s a = Sparse.read 0xFF s.nor.mem a := by
  unfold undefAt at defined
  unfold norByte
  rw [defined, free]
  rfl

/-! ## Units programmed one after the other -/

/-- Programming touches the bytes and the marks of the array only. -/
theorem programUnits_form : ∀ (l : List (Nat × Bytes)) (s : State), ∃ m p,
    l.foldl (fun s u => programUnit u.1 u.2 s) s = { s with nor.mem := m, nor.programmed := p }
  | [], s => ⟨s.nor.mem, s.nor.programmed, rfl⟩
  | e :: l, s => by
    obtain ⟨m, p, rest⟩ := programUnits_form l (programUnit e.1 e.2 s)
    exact ⟨m, p, rest⟩

/-- The memory with the units of `l` programmed. -/
def programUnits (l : List (Nat × Bytes)) (s : State) : State := l.foldl (fun s u => programUnit u.1 u.2 s) s

section
variable (l : List (Nat × Bytes)) (s : State)

theorem bankOf_programUnits (b : Pf) : bankOf (programUnits l s) b = bankOf s b := by
  obtain ⟨m, p, form⟩ := programUnits_form l s
  rw [programUnits, form]
  cases b <;> rfl

theorem programUnits_undef : (programUnits l s).nor.undef = s.nor.undef := by
  obtain ⟨m, p, form⟩ := programUnits_form l s
  rw [programUnits, form]

theorem programUnits_unlocked : (programUnits l s).nor.unlocked = s.nor.unlocked := by
  obtain ⟨m, p, form⟩ := programUnits_form l s
  rw [programUnits, form]

theorem storedByte_programUnits : storedByte (programUnits l s) = storedByte s := by
  obtain ⟨m, p, form⟩ := programUnits_form l s
  rw [programUnits, form]
  exact storedByte_congr rfl rfl rfl

end

/-- What the memory reads as once the units are programmed, each with the bytes that `g` gives it. -/
theorem programUnits_mem (g : Nat → Bytes) (a : Nat) : ∀ (l : List (Nat × Bytes)) (s : State),
    (∀ e ∈ l, e.2 = g e.1 ∧ (g e.1).length = 32) →
    Sparse.read 0xFF (programUnits l s).nor.mem a =
      if a / 32 ∈ l.map (·.1) then (g (a / 32)).getD (a % 32) 0xFF else Sparse.read 0xFF s.nor.mem a
  | [], s, _ => by simp [programUnits]
  | e :: l, s, units => by
    obtain ⟨bytes, whole⟩ := units e List.mem_cons_self
    have here : Sparse.read 0xFF (programUnit e.1 e.2 s).nor.mem a =
        if a / 32 = e.1 then (g (a / 32)).getD (a % 32) 0xFF else Sparse.read 0xFF s.nor.mem a := by
      refine (Sparse.read_putBytes _ _ _ _ _).trans ?_
      rw [bytes, whole]
      by_cases inside : a / 32 = e.1
      · rw [if_pos (by omega), if_pos inside, inside, show a - 32 * e.1 = a % 32 by omega]
      · rw [if_neg (by omega), if_neg inside]
    rw [programUnits, List.foldl_cons, ← programUnits,
      programUnits_mem g a l _ fun x mem => units x (List.mem_cons_of_mem e mem), here, List.map_cons]
    by_cases later : a / 32 ∈ l.map (·.1)
    · rw [if_pos later, if_pos (List.mem_cons_of_mem _ later)]
    · by_cases inside : a / 32 = e.1
      · rw [if_neg later, if_pos inside, if_pos (inside ▸ List.mem_cons_self)]
      · rw [if_neg later, if_neg inside, if_neg (by simp [later, inside])]

theorem mem_freshUnits {first : Nat} {d : Bytes} {refused : List Nat} {e : Nat × Bytes} : e ∈ freshUnits first d
    refused ↔
    ∃ i < d.length / 32, first / 32 + i ∉ refused ∧ e = (first / 32 + i, slice d (32 * i) 32) := by
  simp only [freshUnits, List.mem_filterMap, List.mem_range]
  refine exists_congr fun i => and_congr_right fun _ => ?_
  by_cases bad : first / 32 + i ∈ refused
  · simp [bad]
  · simp [bad, eq_comm]

/-- The bytes of unit `u` in a PROGRAM from `first` on. -/
def programBytes (first : Nat) (d : Bytes) (u : Nat) : Bytes := slice d (32 * (u - first / 32)) 32

theorem freshUnits_bytes {first : Nat} {d : Bytes} {refused : List Nat} :
    ∀ e ∈ freshUnits first d refused, e.2 = programBytes first d e.1 ∧ (programBytes first d e.1).length = 32 := by
  intro e mem
  obtain ⟨i, inside, -, rfl⟩ := mem_freshUnits.mp mem
  simp only [programBytes, Nat.add_sub_cancel_left, slice, List.length_take, List.length_drop, true_and]
  omega

theorem programBytes_getD {first i : Nat} {d : Bytes} (aligned : first % 32 = 0) (inside : i < d.length) :
    (programBytes first d ((first + i) / 32)).getD ((first + i) % 32) 0xFF = d.getD i 0 := by
  rw [show (first + i) % 32 = i % 32 by omega, programBytes, show (first + i) / 32 - first / 32 = i / 32 by omega]
  have place : 32 * (i / 32) + i % 32 = i := by omega
  simp only [slice, List.getD_eq_getElem?_getD, List.getElem?_take, List.getElem?_drop, place,
    if_pos (show i % 32 < 32 by omega), List.getElem?_eq_getElem inside, Option.getD_some]

/-! ## A bank's registers and the array's bytes -/

theorem modBank_undef (b : Pf) (g : Bank → Bank) (s : State) : (modBank b g s).nor.undef =
    s.nor.undef := by cases b <;> rfl

theorem storedByte_modBank (b : Pf) (g : Bank → Bank) (s : State) : storedByte (modBank b g s) = storedByte s :=
  storedByte_congr (modBank_fuses b g s) (modBank_evr b g s) (modBank_cfg b g s)

theorem cell_modBank (b : Pf) (g : Bank → Bank) (s : State) (a : Nat) : cell (modBank b g s) a = cell s a := by
  unfold cell
  rw [modBank_undef, modBank_mem]

theorem norByte_modBank (b : Pf) (g : Bank → Bank) (s : State) (a : Nat) : norByte (modBank b g s) a = norByte s a :=
  norByte_congr (cell_modBank b g s a) (congrFun (storedByte_modBank b g s) a)

/-- The state with other locks: no byte changes and no bank. -/
def withLocks (l : List Nat) (s : State) : State := { s with nor.unlocked := l }

theorem norByte_withLocks (l : List Nat) (s : State) (a : Nat) : norByte (withLocks l s) a = norByte s a := by
  have stored : storedByte (withLocks l s) = storedByte s := storedByte_congr rfl rfl rfl
  exact norByte_congr rfl (congrFun stored a)

theorem bankOf_withLocks (l : List Nat) (s : State) (b : Pf) : bankOf (withLocks l s) b = bankOf s b := by
  cases b <;> rfl

/-! ## A completed program -/

section
variable {s : State} {b : Pf} {f : Nat} {d : Bytes} {r : List Nat}

theorem exec_completes (on : powered s = true) (ok : Bool) :
    exec (.iaOperationComplete b ok) s = .next (opComplete b ok s) := by
  change execIaOperationComplete b ok s = _
  rw [execIaOperationComplete, whilePowered, if_pos on]

/-- The bank's operation is over. -/
def Bank.ended (x : Bank) : Bank := { x with run := none, suspPend := false }

/-- The end of a program that the die verified: its units, the marks of the bank, and the sector's lock again (R154). -/
def programEnded (b : Pf) (f : Nat) (d : Bytes) (r : List Nat) (s : State) : State :=
  let t := modBank b (fun x => { x with progFail := x.progFail || !true || !r.isEmpty })
    (programUnits (freshUnits f d r) (modBank b Bank.ended s))
  withLocks (t.nor.unlocked.erase (sectorOf f)) t

theorem opComplete_program (run : (bankOf s b).run = some (.program f d r)) : opComplete b true s =
    programEnded b f d r s := by
  unfold opComplete
  rw [run]
  rfl

theorem bankOf_programEnded : bankOf (programEnded b f d r s) b =
    { (bankOf s b).ended with progFail := (bankOf s b).progFail || !r.isEmpty } := by
  simp [programEnded, bankOf_withLocks, bankOf_programUnits, Bank.ended]

theorem programEnded_unlocked : (programEnded b f d r s).nor.unlocked = s.nor.unlocked.erase (sectorOf f) := by
  simp only [programEnded, withLocks, modBank_unlocked, programUnits_unlocked]

theorem norByte_programEnded (a : Nat) : norByte (programEnded b f d r s) a =
    norByte (programUnits (freshUnits f d r) (modBank b Bank.ended s)) a :=
  (norByte_withLocks _ _ a).trans (norByte_modBank b _ _ a)

theorem programUnits_idle_mem (a : Nat) :
    Sparse.read 0xFF (programUnits (freshUnits f d r) (modBank b Bank.ended s)).nor.mem a =
      if a / 32 ∈ (freshUnits f d r).map (·.1) then (programBytes f d (a / 32)).getD (a % 32) 0xFF
      else Sparse.read 0xFF s.nor.mem a := by
  rw [programUnits_mem (programBytes f d) a _ _ freshUnits_bytes, modBank_mem]

/-- A byte of no programmed unit reads as before. -/
theorem norByte_unprogrammed {a : Nat} (out : a / 32 ∉ (freshUnits f d r).map (·.1)) :
    norByte (programEnded b f d r s) a = norByte s a := by
  rw [norByte_programEnded]
  refine norByte_congr ?_ ?_
  · unfold cell
    rw [programUnits_undef, modBank_undef, programUnits_idle_mem, if_neg out]
  · rw [storedByte_programUnits, storedByte_modBank]

/-- A byte of a programmed unit reads as programmed, where its content is defined and no record's. -/
theorem norByte_programmed {a : Nat} (inside : a / 32 ∈ (freshUnits f d r).map (·.1))
    (defined : undefAt s.nor.undef (a / 32) = none) (free : storedByte s a = none) :
    norByte (programEnded b f d r s) a = (programBytes f d (a / 32)).getD (a % 32) 0xFF := by
  rw [norByte_programEnded, norByte_mem, programUnits_idle_mem, if_pos inside]
  · rwa [programUnits_undef, modBank_undef]
  · rwa [storedByte_programUnits, storedByte_modBank]

theorem mem_freshUnits_all {u : Nat} : u ∈ (freshUnits f d []).map (·.1) ↔ f / 32 ≤ u ∧ u < f / 32 + d.length / 32 := by
  simp only [List.mem_map, mem_freshUnits]
  constructor
  · rintro ⟨e, ⟨i, inside, -, rfl⟩, rfl⟩
    exact ⟨Nat.le_add_right _ _, by omega⟩
  · rintro ⟨low, high⟩
    exact ⟨_, ⟨u - f / 32, by omega, by simp, rfl⟩, by dsimp only; omega⟩

theorem refused_not_fresh {u : Nat} (refused : u ∈ r) : u ∉ (freshUnits f d r).map (·.1) := by
  simp only [List.mem_map, mem_freshUnits]
  rintro ⟨e, ⟨i, -, fresh, rfl⟩, rfl⟩
  exact fresh refused

end

/-! ## A completed erase -/

section
variable {s : State} {b : Pf} {n : Nat}

theorem undefAt_define_inside (lo hi u : Nat) (inside : lo ≤ u ∧ u < hi) (l : List UndefRange) :
    undefAt (l.flatMap fun r => if hi ≤ r.first ∨ r.first + r.count ≤ lo then [r] else r.without lo hi) u = none := by
  refine List.find?_eq_none.mpr fun x mem => ?_
  obtain ⟨r, -, piece⟩ := List.mem_flatMap.mp mem
  simp only [decide_eq_true_eq]
  split at piece
  · obtain rfl := List.mem_singleton.mp piece
    omega
  · simp only [UndefRange.without, List.mem_append] at piece
    rcases piece with piece | piece <;> split at piece
    · obtain rfl := List.mem_singleton.mp piece
      dsimp only
      omega
    · cases piece
    · obtain rfl := List.mem_singleton.mp piece
      dsimp only
      omega
    · cases piece

theorem eraseUnits_undef (n : Nat) (s : State) : (eraseUnits n s).nor.undef =
    (defineUnits (n * sectorBytes / 32) ((n * sectorBytes + sectorBytes) / 32) s).nor.undef := modBank_undef _ _ _

theorem eraseUnits_mem (n : Nat) (s : State) : (eraseUnits n s).nor.mem =
    Sparse.clear s.nor.mem (n * sectorBytes) (n * sectorBytes + sectorBytes) := modBank_mem _ _ _

theorem read_clear (m : Sparse Byte) (lo hi a : Nat) :
    Sparse.read 0xFF (Sparse.clear m lo hi) a = if lo ≤ a ∧ a < hi then 0xFF else Sparse.read 0xFF m a := by
  unfold Sparse.read
  rw [Sparse.look_clear]
  split <;> rfl

theorem evrByte_filter (l : EvrLedger) (k j o : Nat) :
    evrByte { l with sectors := l.sectors.filter fun x => decide (x.place ≠ k) } j o = if j = k then none else evrByte
      l j o := by
  unfold evrByte
  dsimp only
  rw [List.find?_filter]
  by_cases same : j = k
  · subst same
    rw [if_pos rfl, List.find?_eq_none.mpr fun x _ => by simp]
    rfl
  · rw [if_neg same]
    have agree : (fun x : EvrSector => decide (decide (x.place ≠ k) = true ∧ decide (x.place = j) = true)) =
        fun x => decide (x.place = j) := by
      funext x
      by_cases here : x.place = j
      · simp [here, same]
      · simp [here]
    rw [agree]

theorem logByte_wiped (s : State) (x : LogSector) (o : Nat) : logByte s x.wiped o = none := rfl

theorem cfgByte_wiped (s : State) (p : CfgPart) {i j : Nat} (listed : i < 8) (other : j < 8) (factory : i ≠ 6)
    (o : Nat) :
    cfgByte s (p.onSector i LogSector.wiped fun l => { l with recs := [] }) j o = if j = i then none else cfgByte s p
      j o := by
  have cases : i = 0 ∨ i = 1 ∨ i = 2 ∨ i = 3 ∨ i = 4 ∨ i = 5 ∨ i = 7 := by omega
  have cases' : j = 0 ∨ j = 1 ∨ j = 2 ∨ j = 3 ∨ j = 4 ∨ j = 5 ∨ j = 6 ∨ j = 7 := by omega
  obtain rfl | rfl | rfl | rfl | rfl | rfl | rfl := cases <;>
    obtain rfl | rfl | rfl | rfl | rfl | rfl | rfl | rfl := cases' <;> rfl

/-- What the records put into a sector is gone once they are lost there, and stands elsewhere. -/
theorem storedByte_loseStores (s : State) (a : Nat) (unlocked : permLocked n = false) :
    storedByte (loseStores n s) a = if sectorOf a = n then none else storedByte s a := by
  simp only [permLocked, Bool.or_eq_false_iff, decide_eq_false_iff_not] at unlocked
  obtain ⟨⟨slot, cert0⟩, cert1⟩ := unlocked
  have fuses : (loseStores n s).fuses = s.fuses := (loseStores_same n s).allFuses rfl
  have congr : cfgByte (loseStores n s) = cfgByte s := cfgByte_congr fuses
  unfold storedByte
  rw [congr]
  generalize sectorOf a = m
  generalize a % sectorBytes = o
  dsimp only
  unfold loseStores
  by_cases boot : 384 ≤ n ∧ n < 424
  · have gone := evrByte_filter s.evr.boot (n - 384) (m - 384) o
    rw [if_pos boot]
    grind
  by_cases gen : 704 ≤ n ∧ n < 840
  · have gone := evrByte_filter s.evr.gen (n - 704) (m - 704) o
    rw [if_neg boot, if_pos gen]
    grind
  by_cases cfg0 : 424 ≤ n ∧ n < 432
  · have gone (j : Nat) (listed : j < 8) := cfgByte_wiped s s.cfg.cfg0 (i := n - 424) (j := j) (by omega) listed
      (by omega) o
    rw [if_neg boot, if_neg gen, if_pos cfg0]
    grind
  by_cases cfg1 : 840 ≤ n ∧ n < 848
  · have gone (j : Nat) (listed : j < 8) := cfgByte_wiped s s.cfg.cfg1 (i := n - 840) (j := j) (by omega) listed
      (by omega) o
    rw [if_neg boot, if_neg gen, if_neg cfg0, if_pos cfg1]
    grind
  · rw [if_neg boot, if_neg gen, if_neg cfg0, if_neg cfg1]
    grind

theorem loseStores_nor (n : Nat) (s : State) : (loseStores n s).nor = s.nor := by
  unfold loseStores
  split
  · rfl
  · split
    · rfl
    · split
      · rfl
      · split <;> rfl

theorem eraseContents_nor (n : Nat) (s : State) : (eraseContents n s).nor = (eraseUnits n s).nor :=
  loseStores_nor n (eraseUnits n s)

theorem bankOf_congr {s t : State} (h : t.nor = s.nor) (b : Pf) : bankOf t b = bankOf s b := by
  cases b
  · exact congrArg Nor.bank0 h
  · exact congrArg Nor.bank1 h

theorem bankOf_modBank_run (b c : Pf) {g : Bank → Bank} (kept : ∀ x, (g x).run = x.run) (s : State) :
    (bankOf (modBank b g s) c).run = (bankOf s c).run := by
  cases b <;> cases c <;> first | rfl | exact kept _

/-- An erased sector's bytes are all ones, and every byte outside is as it was (R161). -/
theorem norByte_eraseContents (s : State) (a : Nat) (unlocked : permLocked n = false) :
    norByte (eraseContents n s) a = if sectorOf a = n then 0xFF else norByte s a := by
  have stored := storedByte_loseStores (eraseUnits n s) a unlocked
  have kept : storedByte (eraseUnits n s) = storedByte s := storedByte_congr ((eraseUnits_same n s).allFuses rfl)
    ((eraseUnits_same n s).field .evr rfl) ((eraseUnits_same n s).field .cfg rfl)
  have unit : sectorOf a = n ↔ n * sectorBytes ≤ a ∧ a < n * sectorBytes + sectorBytes := by
    unfold sectorOf sectorBytes
    omega
  rw [kept] at stored
  by_cases inside : sectorOf a = n
  · rw [if_pos inside] at stored ⊢
    rw [norByte_mem (s := eraseContents n s) ?_ stored, eraseContents_nor, eraseUnits_mem, read_clear,
      if_pos (unit.mp inside)]
    rw [eraseContents_nor, eraseUnits_undef]
    refine undefAt_define_inside _ _ _ ?_ _
    have range := unit.mp inside
    unfold sectorBytes at range ⊢
    omega
  · rw [if_neg inside] at stored ⊢
    refine norByte_congr ?_ stored
    rw [← cell_define (n * sectorBytes / 32) ((n * sectorBytes + sectorBytes) / 32) s a ?_]
    · unfold cell
      rw [eraseContents_nor, eraseUnits_mem, eraseUnits_undef, read_clear, if_neg (unit.not.mp inside)]
      rfl
    · have range := unit.not.mp inside
      unfold sectorBytes at range ⊢
      omega

theorem bankOf_eraseContents_run (c : Pf) (s : State) : (bankOf (eraseContents n s) c).run = (bankOf s c).run := by
  rw [bankOf_congr (eraseContents_nor n s) c]
  refine (bankOf_modBank_run _ c (g := fun x => { x with intr := if x.intr = some n then none else x.intr })
      (fun x => rfl)
    _).trans ?_
  cases c <;> rfl

theorem opComplete_erase (run : (bankOf s b).run = some (.erase n)) : opComplete b true s =
    withLocks ((eraseContents n (modBank b Bank.ended s)).nor.unlocked.erase n)
      (eraseContents n (modBank b Bank.ended s)) := by
  unfold opComplete
  rw [run]
  rfl

theorem eraseContents_writeGen (b : Pf) (s : State) :
    (eraseContents n (modBank b Bank.ended s)).nor.writeGen = s.nor.writeGen := by
  rw [eraseContents_nor]
  exact (modBank_writeGen _ _ _).trans (modBank_writeGen _ _ _)

/-- A failed erase: what the sector held is lost and its units are undefined, and the bank says so (R161). -/
def eraseLost (b : Pf) (n : Nat) (s : State) : State :=
  undefineUnits (n * sectorBytes / 32) (n * sectorBytes / 32 + sectorBytes / 32) (loseStores n (modBank b Bank.ended s))

theorem opComplete_erase_fails (run : (bankOf s b).run = some (.erase n)) : ∃ l,
    opComplete b false s = withLocks l (modBank b (fun x => { x with eraseFail := true }) (eraseLost b n s)) := by
  unfold opComplete
  rw [run]
  exact ⟨_, rfl⟩

theorem bankOf_eraseLost : bankOf (eraseLost b n s) b = (bankOf s b).ended := by
  have undefined (lo hi : Nat) (u : State) : bankOf (undefineUnits lo hi u) b = bankOf u b := by cases b <;> rfl
  rw [eraseLost, undefined, bankOf_congr (loseStores_nor n _), bankOf_modBank]

end

end Sys2Proof.Machine

open Sys2Proof Sys2Proof.Machine

/-- Settles O11: a program reads back unit by unit and leaves every other unit; an erase clears its sector's memory,
undefined ranges and records, and no other byte. -/
theorem arrayOperationsWriteTheirUnits : Obligations.ArrayOperationsWriteTheirUnits := by
  refine ⟨?program, ?refused, ?erase, ?eraseFails⟩
  case program =>
    intro s b f d on run aligned whole defined free
    refine ⟨_, (exec_completes on true).trans (congrArg _ (opComplete_program run)), ?_, ?_, ?_, programEnded_unlocked⟩
    · rw [bankOf_programEnded]
      rfl
    · intro i inside
      rw [norByte_programmed (mem_freshUnits_all.mpr (by omega)) ?_ (free i inside), programBytes_getD aligned inside]
      refine List.find?_eq_none.mpr fun u mem => ?_
      have apart := defined u mem
      simp only [decide_eq_true_eq]
      omega
    · exact fun a out => norByte_unprogrammed (by rw [mem_freshUnits_all]; omega)
  case refused =>
    intro s b f d r on run some
    refine ⟨_, (exec_completes on true).trans (congrArg _ (opComplete_program run)), ?_, ?_⟩
    · rw [bankOf_programEnded]
      simp [some]
    · exact fun a bad => norByte_unprogrammed (refused_not_fresh bad)
  case erase =>
    intro s b n on run unlocked
    have bytes (a : Nat) : norByte (opComplete b true s) a = if sectorOf a = n then 0xFF else norByte s a := by
      rw [opComplete_erase run]
      refine (norByte_withLocks _ _ a).trans ?_
      rw [norByte_eraseContents _ a unlocked, norByte_modBank]
    refine ⟨_, exec_completes on true, ?_, ?_, ?_, ?_⟩
    · rw [opComplete_erase run, bankOf_withLocks, bankOf_eraseContents_run, bankOf_modBank]
      rfl
    · rw [opComplete_erase run]
      exact eraseContents_writeGen b s
    · intro i inside
      rw [bytes, if_pos]
      unfold sectorOf sectorBytes at *
      omega
    · intro a out
      rw [bytes, if_neg]
      unfold sectorOf sectorBytes at *
      omega
  case eraseFails =>
    intro s b n on run
    obtain ⟨l, ends⟩ := opComplete_erase_fails run
    refine ⟨_, (exec_completes on false).trans (congrArg _ ends), ?_, ?_⟩ <;>
      rw [bankOf_withLocks, bankOf_modBank, bankOf_eraseLost]
    rfl
end

section
/-! SUPPORT. The entropy source: what its commands leave of the trust state (R199 to R203). -/
namespace Sys2Proof.Machine

theorem setRng_trust (r : RngState) (s : State) : (setRng r s).trust = { s.trust with rng := r } := by
  unfold setRng
  split
  · next same => rw [← same]
  · rfl

theorem rngEvent_trust (code : Nat) (s : State) : (rngEvent code s).trust = s.trust :=
  (rngEvent_same code s).field .trust rfl

/-- Forty equal samples pass the Repetition Count Test, and one more fails it. -/
theorem repetition_spec (x : Nat) : (Health.over Health.reset (List.replicate 40 x)).2 = false ∧
    (Health.over Health.reset (List.replicate 41 x)).2 = true := by
  constructor <;> simp [Health.over, Health.step, Health.reset, List.replicate]

/-- With no request waiting there is nothing to serve. -/
theorem serveAll_none {s : State} (none : s.trust.waiting = []) : (serveAll s).trust = s.trust := by
  rw [serveAll, none]
  exact congrArg (fun w => { s.trust with waiting := w }) none.symm

theorem startedUp_trust (h : Health) (s : State) : (startedUp h s).trust =
    { s.trust with health := h, drbgCount := 0, reseedTries := 0, rng := .healthy } := setRng_trust _ _

theorem healthFail_trust (s : State) : (healthFail s).trust = { s.trust with
    healthFail := true, healthEvents := satAdd s.trust.healthEvents 1, reseedTries := 0, rng := .stalled } :=
  (rngEvent_trust 1 _).trans (setRng_trust _ _)

/-- The start-up test passed after a failure: output goes on. -/
theorem recovered_trust (h : Health) {s : State} (none : s.trust.waiting = []) :
    (serveAll (rngEvent 3 (startedUp h s))).trust =
      { s.trust with health := h, drbgCount := 0, reseedTries := 0, rng := .healthy } := by
  have trust : (rngEvent 3 (startedUp h s)).trust = _ := (rngEvent_trust 3 _).trans (startedUp_trust h s)
  rw [serveAll_none (by rw [trust]; exact none), trust]

theorem attemptFailed_again {s : State} (more : s.trust.reseedTries + 1 < 3) : attemptFailed s = reseedFailed s :=
  if_pos more

theorem attemptFailed_last {s : State} (last : 3 ≤ s.trust.reseedTries + 1) (none : s.trust.waiting = []) :
    (attemptFailed s).trust = { (reseedFailed s).trust with unavailSeen := true, rng := .unavailable } := by
  have ends : attemptFailed s =
      serveAll (rngEvent 2 (setRng .unavailable { reseedFailed s with trust.unavailSeen := true })) :=
    if_neg (Nat.not_lt.mpr last)
  have trust := (rngEvent_trust 2 _).trans (setRng_trust .unavailable { reseedFailed s with trust.unavailSeen := true })
  rw [ends, serveAll_none (by rw [trust]; exact none), trust]

section
variable {s : State} {l : List Nat} {h : Health}

theorem trngHealthFail_released (up : s.pwr.phase = .released)
    (inUse : s.trust.rng = .healthy ∨ s.trust.rng = .starting) :
    exec (.trngHealthFail l) s = .next (if (Health.over s.trust.health l).2 then
      healthFail { s with trust.health := (Health.over s.trust.health l).1 }
      else { s with trust.health := (Health.over s.trust.health l).1 }) :=
  congrArg Host.Outcome.next (if_pos ⟨up, inUse⟩)

theorem trngReseedAttempt_released (up : s.pwr.phase = .released) :
    exec (.trngReseedAttempt l) s = .next (match s.trust.rng, startUpTest l with
      | .starting, .pass h => serveAll (startedUp h s)
      | .starting, .fail h => healthFail { s with trust.health := h }
      | .stalled, .pass h => serveAll (rngEvent 3 (startedUp h s))
      | .stalled, .fail h => attemptFailed { s with trust.health := h }
      | _, _ => s) :=
  congrArg Host.Outcome.next (if_neg (not_not_intro up))

theorem trngPeriodicRestart_unavailable (up : s.pwr.phase = .released) (out : s.trust.rng = .unavailable) :
    exec (.trngPeriodicRestart l) s = .next (match startUpTest l with
      | .pass h => serveAll (rngEvent 3 (startedUp h s))
      | .fail h => { s with trust.health := h, trust.reseedFails := satAdd s.trust.reseedFails 1 }
      | .going => s) :=
  congrArg Host.Outcome.next (if_neg (by simp [up, out]))

end

end Sys2Proof.Machine

open Sys2Proof Sys2Proof.Machine

/-- Settles O13, branch by branch: each outcome of a test sets the source's state, and no request waits to be served. -/
theorem entropySourceChangesState : Obligations.EntropySourceChangesState := by
  refine ⟨?repetition, ?fails, ?passes, ?started, ?startFails, ?again, ?third, ?restarted, ?restartFails, ?reseed⟩
  case repetition => exact fun x => repetition_spec x
  case fails =>
    intro s l up inUse failed
    refine ⟨_, trngHealthFail_released up inUse, ?_⟩
    rw [if_pos failed, healthFail_trust]
    exact ⟨rfl, rfl, rfl, rfl⟩
  case passes =>
    intro s l up inUse passed
    rw [trngHealthFail_released up inUse, if_neg (by simp [passed])]
  case started =>
    intro s l h up none state passed
    refine ⟨_, trngReseedAttempt_released up, ?_⟩
    rw [passed]
    obtain starting | stalled := state
    · rw [starting]
      have trust := startedUp_trust h s
      rw [serveAll_none (by rw [trust]; exact none), trust]
      exact ⟨rfl, rfl, rfl⟩
    · rw [stalled]
      dsimp only
      rw [recovered_trust h none]
      exact ⟨rfl, rfl, rfl⟩
  case startFails =>
    intro s l h up starting failed
    refine ⟨_, trngReseedAttempt_released up, ?_⟩
    rw [starting, failed]
    dsimp only
    rw [healthFail_trust]
    exact ⟨rfl, rfl, rfl⟩
  case again =>
    intro s l h up stalled failed more
    refine ⟨_, trngReseedAttempt_released up, ?_⟩
    rw [stalled, failed]
    dsimp only
    rw [attemptFailed_again (s := { s with trust.health := h }) more]
    exact ⟨stalled, rfl, rfl⟩
  case third =>
    intro s l h up none stalled failed last
    refine ⟨_, trngReseedAttempt_released up, ?_⟩
    rw [stalled, failed]
    dsimp only
    rw [attemptFailed_last (s := { s with trust.health := h }) last none]
    exact ⟨rfl, rfl⟩
  case restarted =>
    intro s l h up none out passed
    refine ⟨_, trngPeriodicRestart_unavailable up out, ?_⟩
    rw [passed]
    dsimp only
    rw [recovered_trust h none]
    exact ⟨rfl, rfl⟩
  case restartFails =>
    intro s l h up out failed
    rw [trngPeriodicRestart_unavailable up out, failed]
  case reseed => exact fun s on healthy => congrArg Host.Outcome.next (if_pos ⟨on, healthy⟩)
end

section
/-! SUPPORT. Namespace key slots: what GENERATE, ERASE and the key table's store leave (R204 to R209, R217). -/
namespace Sys2Proof.Machine

/-- The commands of a PF while one runs on slot `i`. -/
def ksStarted (pf : Pf) (i : BitVec 11) (op : BitVec 3) (s : State) : State :=
  setKs pf { ksOf s pf with slot := i, op := op, runSlot := i, runOp := op, busy := true } s

section
variable (pf : Pf) (i : BitVec 11) (op : BitVec 3) (s : State)

theorem ksStarted_tab : (ksStarted pf i op s).tab = s.tab := setKs_tab pf _ s

theorem keySlot_ksStarted (j : Nat) : keySlot (ksStarted pf i op s) j = keySlot s j := by
  rw [keySlot, ksStarted_tab, ← keySlot]

theorem ksStarted_busy : (ksOf (ksStarted pf i op s) pf).busy = true := by
  rw [ksStarted, ksOf_setKs]

theorem ksStarted_stores : (ksStarted pf i op s).trust.stores = s.trust.stores := by cases pf <;> rfl

end

section
variable {pf : Pf} {i : BitVec 11} {s : State}

theorem ksGo_generate (idle0 : (ksOf s .p0).busy = false) (idle1 : (ksOf s .p1).busy = false)
    (owner : slotOwner s i.toNat = pf) (free : boundNs s i.toNat = none) (healthy : s.trust.rng = .healthy) :
    ksGo pf i 1 s = runGenerate pf i.toNat (drbgUse (ksStarted pf i 1 s)) := by
  cases pf
  · simp only [ksOf, slotOwner, boundNs] at idle0 idle1 owner free
    simp [ksGo, ksStarted, ksOf, setKs, slotOwner, boundNs, withEntropy, idle0, idle1, owner, free, healthy]
  · simp only [ksOf, slotOwner, boundNs] at idle0 idle1 owner free
    simp [ksGo, ksStarted, ksOf, setKs, slotOwner, boundNs, withEntropy, idle0, idle1, owner, free, healthy]

theorem ksGo_erase (idle0 : (ksOf s .p0).busy = false) (idle1 : (ksOf s .p1).busy = false)
    (owner : slotOwner s i.toNat = pf) (loaded : (keySlot s i.toNat).key ≠ none) :
    ksGo pf i 2 s = runErase pf i.toNat (ksStarted pf i 2 s) := by
  cases pf
  · simp only [ksOf, slotOwner, keySlot] at idle0 idle1 owner loaded
    simp at owner
    simp [ksGo, ksStarted, ksOf, setKs, slotOwner, keySlot, idle0, idle1, owner, loaded]
  · simp only [ksOf, slotOwner, keySlot] at idle0 idle1 owner loaded
    simp at owner
    simp [ksGo, ksStarted, ksOf, setKs, slotOwner, keySlot, idle0, idle1, Nat.not_lt.mpr owner, loaded]

theorem fullyUp_running (up : fullyUp s = true) : running s = true := by
  rw [fullyUp, Bool.and_eq_true] at up
  exact up.1

end

/-! ## The slots -/

theorem ustSlot_tab (i : Nat) (s : State) : (ustSlot i s).tab = s.tab := by
  unfold ustSlot
  split <;> rfl

theorem ustSlot_trust (i : Nat) (s : State) : (ustSlot i s).trust = s.trust := (ustSlot_same i s).field .trust rfl

theorem ustSlot_media (i : Nat) (s : State) : (ustSlot i s).media = s.media := (ustSlot_same i s).field .media rfl

theorem keySlot_of_tab {s t : State} (h : t.tab = s.tab) (i : Nat) : keySlot t i = keySlot s i := by
  rw [keySlot, h, ← keySlot]

theorem keySlot_loadKey (i : Nat) (s : State) : keySlot (loadKey i s) i = {
    gen := nextGen (keySlot s i).gen, key := some (draw 512 s),
    old := match (keySlot s i).key with | some x => some ((keySlot s i).gen, x) | none => (keySlot s i).old } := by
  unfold loadKey
  dsimp only
  split
  · exact (keySlot_of_tab (ustSlot_tab i _) _).trans (keySlot_setKey i _ s)
  · exact keySlot_setKey i _ s

theorem loadKey_trust (i : Nat) (s : State) : (loadKey i s).trust = s.trust := (loadKey_same i s).field .trust rfl

theorem runGenerate_load {pf : Pf} {i : Nat} {s : State} (drained : (keySlot s i).old = none) :
    runGenerate pf i s = storeKeys (.generate pf) i (keySlot s i) (loadKey i s) := by
  simp only [runGenerate, drained, Option.isSome_none, Bool.false_eq_true, if_false]

theorem ksOf_of_trust {s t : State} (h : t.trust = s.trust) (pf : Pf) : ksOf t pf = ksOf s pf := by
  cases pf
  · exact congrArg Trust.ks0 h
  · exact congrArg Trust.ks1 h

theorem ksOf_storeKeys (why : KeyWhy) (i : Nat) (prev : KeySlot) (s : State) (pf : Pf) :
    ksOf (storeKeys why i prev s) pf = ksOf s pf := by cases pf <;> rfl

theorem ksOf_drbgUse (s : State) (pf : Pf) : ksOf (drbgUse s) pf = ksOf s pf := by cases pf <;> rfl

theorem ksResult_tab (pf : Pf) (r : BitVec 3) (s : State) : (ksResult pf r s).tab = s.tab := by cases pf <;> rfl

theorem ksResult_media (pf : Pf) (r : BitVec 3) (s : State) : (ksResult pf r s).media = s.media := by cases pf <;> rfl

theorem ksResult_stores (pf : Pf) (r : BitVec 3) (s : State) : (ksResult pf r s).trust.stores = s.trust.stores := by
  cases pf <;> rfl

theorem ksOf_ksResult (pf : Pf) (r : BitVec 3) (s : State) :
    ksOf (ksResult pf r s) pf = { ksOf s pf with busy := false, result := r } := by cases pf <;> rfl

/-! ## The store of the key table -/

theorem keyStoreDone_tab (k : KeyStore) (s : State) : (keyStoreDone k s).tab = s.tab := by
  unfold keyStoreDone
  split
  · exact ksResult_tab _ _ s
  · exact ksResult_tab _ _ s
  · rfl

theorem keyStoreDone_stores (k : KeyStore) (s : State) : (keyStoreDone k s).trust.stores = s.trust.stores := by
  unfold keyStoreDone
  split
  · exact ksResult_stores _ _ s
  · exact ksResult_stores _ _ s
  · rfl

/-- The changes of a committed store: each PF learns of its own, and the table stands. -/
theorem keyStoresDone : ∀ (l : List KeyStore) (s : State),
    (l.foldl (fun s k => keyStoreDone k s) s).tab = s.tab ∧
    (l.foldl (fun s k => keyStoreDone k s) s).trust.stores = s.trust.stores ∧
    (l.foldl (fun s k => keyStoreDone k s) s).media = s.media
  | [], _ => ⟨rfl, rfl, rfl⟩
  | k :: l, s => by
    obtain ⟨tab, stores, media⟩ := keyStoresDone l (keyStoreDone k s)
    exact ⟨tab.trans (keyStoreDone_tab k s), stores.trans (keyStoreDone_stores k s),
      media.trans ((keyStoreDone_same k s).field .media rfl)⟩

section
variable {pf : Pf} {i : Nat} {p : KeySlot} {s : State}

/-- A generation whose store failed: the slot as it was, and RESULT 3. -/
theorem keyStoreFailed_generate : (keyStoreFailed { why := .generate pf, slot := i, prev := p } s) =
    ksResult pf 3 (event 0x0011 i 1 (ustSlot i (setKey i p s))) := rfl

theorem keyStoreFailed_spec : keySlot (keyStoreFailed { why := .generate pf, slot := i, prev := p } s) i = p ∧
    ksOf (keyStoreFailed { why := .generate pf, slot := i, prev := p } s) pf =
      { ksOf s pf with busy := false, result := 3 } ∧
    (keyStoreFailed { why := .generate pf, slot := i, prev := p } s).trust.stores = s.trust.stores ∧
    (keyStoreFailed { why := .generate pf, slot := i, prev := p } s).media = s.media := by
  have trust : (event 0x0011 i 1 (ustSlot i (setKey i p s))).trust = s.trust :=
    ((event_same _ _ _ _).field .trust rfl).trans (ustSlot_trust i _)
  have media : (event 0x0011 i 1 (ustSlot i (setKey i p s))).media = s.media :=
    ((event_same _ _ _ _).field .media rfl).trans (ustSlot_media i _)
  have keys : keySlot (event 0x0011 i 1 (ustSlot i (setKey i p s))) i = p := by
    rw [keySlot, ((event_same _ _ _ _).field .tabKeys rfl).1, ustSlot_tab, ← keySlot, keySlot_setKey]
  rw [keyStoreFailed_generate]
  refine ⟨?_, ?_, ?_, ?_⟩
  · rw [keySlot_of_tab (ksResult_tab _ _ _), keys]
  · rw [ksOf_ksResult, ksOf_of_trust trust]
  · rw [ksResult_stores, trust]
  · rw [ksResult_media, media]

end

/-! ## KSPLIT -/

theorem writeKsplit_ksplit {v : W32} {s : State} (fits : (fieldOf 0 12 v).toNat ≤ 2048)
    (unlocked : ksplitLocked s = false) :
    (writeKsplit .p0 v s).tab.ksplit = (fieldOf 0 12 v).toNat := by
  simp only [writeKsplit, Nat.not_lt.mpr fits, unlocked, if_false, reduceCtorEq, Bool.false_eq_true, and_false]
  split
  · next same => exact same.symm
  · rfl

end Sys2Proof.Machine

open Sys2Proof Sys2Proof.Machine

/-- Settles O14: each command of a slot by the checks it passes; the key table's store commits or fails change by
change. -/
theorem keySlotCommandsComplete : Obligations.KeySlotCommandsComplete := by
  refine ⟨?generate, ?erase, ?zeroise, ?commit, ?fails, ?ksplit, ?other⟩
  case generate =>
    intro s pf i up _ idle0 idle1 owner free healthy drained
    have runs : exec (.keySlotGenerate pf i) s = .next (ksGo pf i 1 s) := congrArg _ (if_pos (fullyUp_running up))
    have kept : keySlot (drbgUse (ksStarted pf i 1 s)) i.toNat = keySlot s i.toNat := keySlot_ksStarted pf i 1 s i.toNat
    have drawnKey : draw 512 (drbgUse (ksStarted pf i 1 s)) = draw 512 s := by cases pf <;> rfl
    rw [ksGo_generate idle0 idle1 owner free healthy, runGenerate_load (by rw [kept, drained]), kept] at runs
    have slot : keySlot (storeKeys (.generate pf) i.toNat (keySlot s i.toNat)
        (loadKey i.toNat (drbgUse (ksStarted pf i 1 s)))) i.toNat = _ := keySlot_loadKey _ _
    rw [kept, drawnKey, drained] at slot
    refine ⟨_, runs, ?_, ?_, ?_, ?_, ?_⟩
    · rw [slot]
    · rw [slot]
    · rw [slot]
      cases (keySlot s i.toNat).key <;> rfl
    · rw [ksOf_storeKeys, ksOf_of_trust (loadKey_trust _ _), ksOf_drbgUse, ksStarted_busy]
    · rw [storeKeys, loadKey_trust]
      exact congrArg (· ++ _) (ksStarted_stores pf i 1 s)
  case erase =>
    intro s pf i up idle0 idle1 owner loaded
    have runs : exec (.keySlotErase pf i) s = .next (ksGo pf i 2 s) := congrArg _ (if_pos (fullyUp_running up))
    rw [ksGo_erase idle0 idle1 owner loaded] at runs
    have trust (k : KeySlot) : (ustSlot i.toNat (setKey i.toNat k (abortBySlot i.toNat (ksStarted pf i 2 s)))).trust =
        (ksStarted pf i 2 s).trust := (ustSlot_trust _ _).trans ((abortBySlot_same _ _).field .trust rfl)
    refine ⟨_, runs, ?_, ?_, ?_⟩
    · refine (keySlot_of_tab (ustSlot_tab _ _) _).trans ?_
      rw [keySlot_setKey, keySlot_ksStarted]
    · rw [runErase, ksOf_storeKeys, ksOf_of_trust (trust _), ksStarted_busy]
    · rw [runErase, storeKeys, trust, keySlot_ksStarted]
      exact congrArg (· ++ _) (ksStarted_stores pf i 2 s)
  case zeroise =>
    intro s i g k on old unused idle0 idle1
    change execOldKeyZeroise i s = _
    simp only [ksOf] at idle0 idle1
    simp [execOldKeyZeroise, old, on, unused, resumeGenerate, ksOf, idle0, idle1]
  case commit =>
    intro s on some
    have runs : exec (.keyTableStoreCommit true) s = .next (s.trust.stores.foldl (fun s k => keyStoreDone k s)
        (replaceStores (fun x => decide (x.kind = 5)) [keyTableStore s]
          { s with trust.stores := [], media.keyTab := storedKeys s, media.keySplit := s.tab.ksplit })) := by
      change execKeyTableStoreCommit true s = _
      simp [execKeyTableStoreCommit, some, on]
    obtain ⟨tab, stores, media⟩ := keyStoresDone s.trust.stores (replaceStores (fun x => decide (x.kind = 5))
      [keyTableStore s] { s with trust.stores := [], media.keyTab := storedKeys s, media.keySplit := s.tab.ksplit })
    exact ⟨_, runs, stores, media, tab⟩
  case fails =>
    intro s pf i p on stores
    have runs : exec (.keyTableStoreCommit false) s = .next (keyStoreFailed { why := .generate pf, slot := i, prev := p }
        { s with trust.stores := [] }) := by
      change execKeyTableStoreCommit false s = _
      simp [execKeyTableStoreCommit, stores, on]
    obtain ⟨slot, regs, left, media⟩ := keyStoreFailed_spec (pf := pf) (i := i) (p := p)
        (s := { s with trust.stores := [] })
    exact ⟨_, runs, slot, by rw [regs], by rw [regs], left, media⟩
  case ksplit =>
    intro s v up fits unlocked
    exact ⟨_, congrArg Host.Outcome.next (if_pos up), writeKsplit_ksplit fits unlocked⟩
  case other =>
    intro s v
    change execKsplitWrite .p1 v s = _
    simp [execKsplitWrite, writeKsplit]
end

section
/-! SUPPORT. IDE keys: what the IDE_KM messages of a secured session leave of a port's keys and answer (R211, R212). -/
namespace Sys2Proof.Machine

/-! ## A port's IDE state -/

section
variable (p : Pf) (s t : State)

theorem ideOf_congr (h : t.trust = s.trust) : ideOf t p = ideOf s p := by
  cases p <;> simp only [ideOf, h]

theorem evsSetIf_trust (b : Bool) (n : Nat) : (evsSetIf b n s).trust = s.trust :=
  (evsSetIf_same b n s).field .trust rfl

theorem ideOf_setIde (x : Ide) : ideOf (setIde p x s) p = x := by
  unfold setIde
  rw [ideOf_congr _ _ _ (evsSetIf_trust _ _ _)]
  cases p <;> rfl

theorem setIde_out (x : Ide) : (setIde p x s).out = s.out := (setIde_same p x s).field .out rfl

theorem emitted_ideOf (o : Output) : ideOf (emit o s) p = ideOf s p := ideOf_congr p s _ rfl

end

/-! ## The messages -/

section
variable {p : Pf} {i : Nat} {s : State}

theorem ideKmIn_up (m : IdeKmMsg) (up : spdmUp s (.doe p) = true) (sess : sessionUp (spdmOf s (.doe p)) i = true) :
    ideKmIn p i m s = ideKmDo p m s := by
  simp only [ideKmIn, up, sess, Bool.not_true, Bool.false_eq_true, ↓reduceIte]

/-- A key set that is not active takes the key at its place. -/
theorem ideKeyProg_stored (k : IdeKeyRef) (v : BitVec 256) (stream : k.stream ≤ 4) (idle : k ∉ (ideOf s p).active) :
    ideKeyProg p k v s = emit (.ideKm p 0)
      (setIde p { ideOf s p with keys := (ideOf s p).dropKeys (fun a => decide (a = k)) ++ [(k, v)] } s) := by
  simp [ideKeyProg, ideStreamOk, stream, idle]

/-- An active key set keeps its key: the answer carries a status that is not 0. -/
theorem ideKeyProg_active (k : IdeKeyRef) (v : BitVec 256) (active : k ∈ (ideOf s p).active) :
    ideKeyProg p k v s = emit (.ideKm p ((draw 7 s).toNat + 1)) (drawn 1 s) := by
  simp [ideKeyProg, active]

theorem ideSetGo_held (k : IdeKeyRef) (held : (ideOf s p).holds k = true) :
    ideOf (ideSetGo p k s) p = ideFollow { ideOf s p with active :=
      ((ideOf s p).active.filter fun a => !decide (a.stream = k.stream ∧ a.sub = k.sub ∧ a.tx = k.tx)) ++ [k] }
      k.stream := by
  simp only [ideSetGo, held, ↓reduceIte, emitted_ideOf, ideOf_setIde]

theorem ideSetStop_ideOf (k : IdeKeyRef) :
    ideOf (ideSetStop p k s) p = ideFollow { ideOf s p with
      active := (ideOf s p).active.filter fun a => !decide (a = k),
      keys := (ideOf s p).dropKeys fun a => decide (a = k) } k.stream := by
  simp only [ideSetStop, emitted_ideOf, ideOf_setIde]

theorem dropKeys_holds (x : Ide) (k : IdeKeyRef) :
    ((x.dropKeys fun a => decide (a = k)).any fun e => decide (e.1 = k)) = false := by
  simp [Ide.dropKeys]

end

end Sys2Proof.Machine

open Sys2Proof Sys2Proof.Machine

/-- Settles O15, message by message: what the port's IDE state is after each, and what was answered. -/
theorem ideKeyManagementCompletes : Obligations.IdeKeyManagementCompletes := by
  unfold Obligations.IdeKeyManagementCompletes
  refine ⟨fun s p i up sess => congrArg Host.Outcome.next (ideKmIn_up _ up sess),
      fun s p i k v up sess stream idle => ?_,
    fun s p i k v up sess active => ?_, fun s p i k up sess held => ?_, fun s p i k up sess => ?_,
    fun s p i k v up sess stream idle => ?_, fun s p i up sess => congrArg Host.Outcome.next (ideKmIn_up _ up sess),
    fun s m up => congrArg Host.Outcome.next (if_pos up)⟩
  · refine ⟨_, congrArg Host.Outcome.next ((ideKmIn_up _ up sess).trans (ideKeyProg_stored k v stream idle)), ?_⟩
    rw [emitted_ideOf, ideOf_setIde]
    exact ⟨by simp, rfl, rfl, congrArg (· ++ [_]) (setIde_out p s _)⟩
  · exact ⟨_, congrArg Host.Outcome.next ((ideKmIn_up _ up sess).trans (ideKeyProg_active k v active)),
      ideOf_congr p s _ rfl, (draw 7 s).toNat + 1, by omega, rfl⟩
  · refine ⟨_, congrArg Host.Outcome.next (ideKmIn_up _ up sess), ?_⟩
    rw [ideKmDo, ideSetGo_held k held]
    refine ⟨by simp [ideFollow], rfl, fun a mem stream sub tx => ?_⟩
    simpa [ideFollow, stream, sub, tx] using mem
  · refine ⟨_, congrArg Host.Outcome.next (ideKmIn_up _ up sess), ?_⟩
    rw [ideKmDo, ideSetStop_ideOf]
    exact ⟨by simp [ideFollow], dropKeys_holds _ k⟩
  · have stored := congrArg (Host.Outcome.next (φ := Fault) (ρ := Refusal))
      ((ideKmIn_up (.keyProg k v) up sess).trans (ideKeyProg_stored k v stream idle))
    refine ⟨_, stored, stored, ?_⟩
    rw [emitted_ideOf, ideOf_setIde]
    simp

end

section
/-! SUPPORT. The SPDM responder: what each request of SPDM 1.3 leaves of the connection and answers (R213, R214). -/
namespace Sys2Proof.Machine

/-! ## Answers -/

section
variable (i j : SpdmInst) (s t : State)

theorem spdmOf_congr (h : t.trust = s.trust) : spdmOf t i = spdmOf s i := by
  unfold spdmOf
  rw [h]

theorem spdmEmit_spdmOf (ok : Bool) (b : Bytes) : spdmOf (spdmEmit j ok b s) i = spdmOf s i :=
  spdmOf_congr i s _ ((spdmEmit_same j ok b s).field .trust rfl)

theorem spdmError_spdmOf (code data : Nat) : spdmOf (spdmError j code data s) i = spdmOf s i :=
  spdmEmit_spdmOf i j s _ _

/-- An answer that is not large leaves the connection. -/
theorem spdmReply_short (b : Bytes) (short : b.length ≤ 4096) : spdmOf (spdmReply i b s) i = spdmOf s i := by
  rw [spdmReply, if_neg (fun h => absurd h.2 (by omega)), spdmEmit_spdmOf]

/-- An answer changes no more of the connection than the large response that waits. -/
theorem spdmReply_chunk (b : Bytes) : ∃ c, spdmOf (spdmReply i b s) i = { spdmOf s i with chunk := c } := by
  unfold spdmReply
  split
  · exact ⟨_, by rw [spdmEmit_spdmOf, spdmOf_setSpdm]⟩
  · exact ⟨_, spdmEmit_spdmOf i i s _ _⟩

theorem spdmReply_sessions (b : Bytes) : (spdmOf (spdmReply i b s) i).sessions = (spdmOf s i).sessions := by
  obtain ⟨c, h⟩ := spdmReply_chunk i s b
  rw [h]

theorem spdmReply_nextId (b : Bytes) : (spdmOf (spdmReply i b s) i).nextId = (spdmOf s i).nextId := by
  obtain ⟨c, h⟩ := spdmReply_chunk i s b
  rw [h]

theorem spdmOf_signedOnce : spdmOf (signedOnce s) i = spdmOf s i := by
  unfold signedOnce
  split
  · rcases i with (_ | _) | _ <;> rfl
  · rfl

theorem spdmOf_drbgUse : spdmOf (drbgUse s) i = spdmOf s i := by
  rcases i with (_ | _) | _ <;> rfl

theorem spdmMsg_length (code p1 p2 : Nat) (b : Bytes) : (spdmMsg code p1 p2 b).length = b.length + 4 := by
  simp [spdmMsg]

theorem spdmCaps_short : spdmCaps.length ≤ 4096 := by
  simp [spdmCaps, spdmMsg_length, le32]

theorem spdmAlg_length (type sel : Nat) : (spdmAlg type sel).length = 4 := by
  simp [spdmAlg, le16]

theorem spdmAlgorithms_short (kex : Bool) : (spdmAlgorithms kex).length ≤ 4096 := by
  cases kex <;> simp [spdmAlgorithms, spdmMsg_length, spdmAlg_length, le16, le32, padTo]

end

/-! ## A request in its order -/

section
variable {i : SpdmInst} {s : State}

theorem spdmDo_ready {ok : Spdm → Bool} (k : State → State) (up : spdmUp s i = true) (ready : ok (spdmOf s i) = true) :
    spdmDo i ok k s = .next (k s) := by
  simp only [spdmDo, up, ready, Bool.not_true, Bool.false_eq_true, ↓reduceIte]

theorem withEntropy_healthy (c : Instr) (served unavailable : State → State) (healthy : s.trust.rng = .healthy) :
    withEntropy c served unavailable s = served (drbgUse s) := by
  rw [withEntropy, healthy]

/-- An accepted request that changes its connection and answers shortly. -/
theorem spdmOf_answered (x : Spdm) (b : Bytes) (short : b.length ≤ 4096) :
    spdmOf (spdmReply i b (setSpdm i x s)) i = x := by
  rw [spdmReply_short _ _ _ short, spdmOf_setSpdm]

theorem challengeServed_form (m : W8) (b : Bytes) : ∃ sig, spdmChallengeServed i m b s =
    spdmReply i (spdmMsg 0x03 0 1 (digestBytes (sha (certChain s)) ++ beBytes 32 (draw 256 s).toNat
      ++ measSummary (drawn 1 s) m ++ le16 0 ++ slice b 32 8) ++ sig)
      (signedOnce (setSpdm i { spdmOf s i with certs := [] } (drawn 1 s))) := ⟨_, rfl⟩

theorem measServed_plain (k : Nat) (b : Bytes) {l : List Nat} (known : measIndices k = some l) :
    spdmMeasServed i k false b s =
      spdmReply i (spdmMsg 0x60 (if k = 0 then 9 else 0) 0 (leBytes 1 l.length
        ++ leBytes 3 (l.flatMap (measBytes s)).length ++ l.flatMap (measBytes s)
        ++ beBytes 32 (draw 256 s).toNat ++ le16 0 ++ slice b 0 8))
        (setSpdm i { spdmOf s i with meas := (spdmOf s i).meas ++ spdmMsg 0xE0 0 k b ++ spdmMsg 0x60 (if k = 0 then 9 else 0) 0 (leBytes 1 l.length
            ++ leBytes 3 (l.flatMap (measBytes s)).length ++ l.flatMap (measBytes s)
            ++ beBytes 32 (draw 256 s).toNat ++ le16 0 ++ slice b 0 8) } (drawn 1 s)) := by
  unfold spdmMeasServed
  rw [known]
  rfl

theorem measServed_signed (k : Nat) (b : Bytes) {l : List Nat} (known : measIndices k = some l) :
    ∃ r, spdmMeasServed i k true b s =
      spdmReply i r (signedOnce (setSpdm i { spdmOf s i with meas := [] } (drawn 1 s))) := by
  unfold spdmMeasServed
  rw [known]
  exact ⟨_, rfl⟩

/-- KEY_EXCHANGE within both limits adds one session that is not yet established. -/
theorem keyExchangeServed_opens (m : W8) (b : Bytes) (own : (spdmOf s i).sessions.length < 2)
    (device : spdmSessions s < 4) : ∃ e r u, spdmKeyExchangeServed i m b s = spdmReply i r (signedOnce (setSpdm i
      { spdmOf s i with nextId := (spdmOf s i).nextId + 1, sessions := (spdmOf s i).sessions ++ [e] } u)) ∧
      e.done = false ∧ e.id = leVal (slice b 0 2) + 65536 * ((spdmOf s i).nextId % 65536) := by
  unfold spdmKeyExchangeServed
  dsimp only
  rw [if_neg (by omega)]
  exact ⟨_, _, _, rfl, rfl, rfl⟩

end

/-! ## Sessions -/

section
variable {i : SpdmInst} {s : State} {n : Nat}

theorem dropSession_gone (x : Spdm) {e : SpdmSess} (mem : e ∈ (dropSession x n).sessions) : e.id ≠ n := by
  simpa [dropSession] using (List.mem_filter.mp mem).2

theorem modSession_established {e : SpdmSess} (g : SpdmSess → SpdmSess) (mem : e ∈ (spdmOf s i).sessions)
    (id : e.id = n) (kept : (g e).id = e.id) (up : (g e).done = true) :
    sessionUp (spdmOf (modSession i n g s) i) n = true := by
  rw [modSession, spdmOf_setSpdm]
  refine List.any_eq_true.mpr ⟨g e, List.mem_map.mpr ⟨e, mem, by simp [id]⟩, ?_⟩
  simp [kept, id, up]

theorem opening_any {e : SpdmSess} (found : ((spdmOf s i).sessions.find? fun x => decide (x.id = n)) = some e)
    (opening : e.done = false) : ((spdmOf s i).sessions.any fun x => decide (x.id = n) && !x.done) = true :=
  List.any_eq_true.mpr ⟨e, List.mem_of_find?_eq_some found, by
    simpa [opening] using List.find?_some found⟩

theorem finish_matched {e : SpdmSess} (found : ((spdmOf s i).sessions.find? fun x => decide (x.id = n)) = some e) :
    sessionUp (spdmOf (spdmFinish i n (verifyData e.reqSecret (e.transcript ++ spdmMsg 0xE5 0 0 [])) s) i) n =
      true := by
  unfold spdmFinish
  rw [found]
  dsimp only
  rw [if_pos rfl, spdmReply_short _ _ _ (by simp [spdmMsg_length])]
  exact modSession_established _ (List.mem_of_find?_eq_some found) (by simpa using List.find?_some found) rfl rfl

theorem finish_mismatched {e : SpdmSess} {m : Digest}
    (found : ((spdmOf s i).sessions.find? fun x => decide (x.id = n)) = some e)
    (wrong : m ≠ verifyData e.reqSecret (e.transcript ++ spdmMsg 0xE5 0 0 [])) :
    spdmOf (spdmFinish i n m s) i = dropSession (spdmOf s i) n := by
  unfold spdmFinish
  rw [found]
  dsimp only
  rw [if_neg wrong, spdmError_spdmOf, spdmOf_setSpdm]

end

end Sys2Proof.Machine

open Sys2Proof Sys2Proof.Machine

/-- Settles O16, request by request in the order of the connection. -/
theorem spdmRequestsComplete : Obligations.SpdmRequestsComplete := by
  unfold Obligations.SpdmRequestsComplete
  refine ⟨fun s i up => ?_, fun s i b up version => ?_,
    fun s i o b k up caps ecdsa hash kex => ?_, fun s i r up algs hr => ?_, fun s i o n b r up algs within hb hr => ?_,
    fun s u i m b up algs healthy hu => ?_, fun s u i k b l n r up algs healthy hu known hn hr => ?_,
    fun s u i k b l up algs healthy hu known => ?_, fun s i m b up algs kex healthy own device => ?_,
    fun s i n e up found opening => ?_, fun s i n m e up found opening wrong => ?_,
    fun s i n o m up sess op => ?_, fun s i n up sess => ?_, fun s i n up sess => ?_,
    fun s i h n b w up chunk => ?_⟩
  · exact ⟨_, show execSpdmGetVersion i s = _ from spdmDo_ready _ up rfl, spdmOf_answered _ _ (by decide)⟩
  · exact ⟨_, show execSpdmGetCapabilities i s b = _ from spdmDo_ready _ up version, spdmOf_answered _ _ spdmCaps_short⟩
  · subst kex
    refine ⟨_, show execSpdmNegotiateAlgorithms i o s b = _ from spdmDo_ready _ up caps, ?_⟩
    rw [ecdsa, hash]
    exact spdmOf_answered _ _ (spdmAlgorithms_short _)
  · subst hr
    exact show execSpdmGetDigests i s = _ from spdmDo_ready _ up algs
  · subst hb hr
    exact (show execSpdmGetCertificate i 0 o n s = _ from spdmDo_ready _ up algs).trans
      (congrArg Host.Outcome.next (if_neg (by omega)))
  · subst hu
    obtain ⟨sig, served⟩ := challengeServed_form (i := i) (s := drbgUse s) m b
    rw [spdmOf_drbgUse] at served
    exact ⟨_, sig, (show execSpdmChallenge i 0 s m b = _ from spdmDo_ready _ up algs).trans
      (congrArg Host.Outcome.next (withEntropy_healthy _ _ _ healthy)), served⟩
  · subst hu hn hr
    refine (show execSpdmGetMeasurements i k false s b = _ from spdmDo_ready _ up algs).trans
        (congrArg Host.Outcome.next ((withEntropy_healthy _ _ _ healthy).trans ?_))
    rw [measServed_plain _ _ known, spdmOf_drbgUse]
    rfl
  · subst hu
    obtain ⟨r, served⟩ := measServed_signed (i := i) (s := drbgUse s) k b known
    rw [spdmOf_drbgUse] at served
    exact ⟨r, (show execSpdmGetMeasurements i k true s b = _ from spdmDo_ready _ up algs).trans
      (congrArg Host.Outcome.next ((withEntropy_healthy _ _ _ healthy).trans served))⟩
  · obtain ⟨e, r, u, served, opening, id⟩ := keyExchangeServed_opens (i := i) (s := drbgUse s) m b
      (by rwa [spdmOf_drbgUse]) device
    rw [spdmOf_drbgUse] at served id
    refine ⟨_, e, (show execSpdmKeyExchange i 0 s m b = _ from spdmDo_ready _ up (by rw [algs, kex]; rfl)).trans
      (congrArg Host.Outcome.next ((withEntropy_healthy _ _ _ healthy).trans served)), ?_⟩
    rw [spdmReply_sessions, spdmReply_nextId, spdmOf_signedOnce, spdmOf_setSpdm]
    exact ⟨rfl, opening, id, rfl⟩
  · exact ⟨_, show execSpdmFinish i n _ s = _ from spdmDo_ready _ up (opening_any found opening), finish_matched found⟩
  · refine ⟨_, show execSpdmFinish i n m s = _ from spdmDo_ready _ up (opening_any found opening), fun x mem => ?_⟩
    rw [finish_mismatched found wrong] at mem
    exact dropSession_gone _ mem
  · exact (show execSpdmKeyUpdate i n s o m = _ from spdmDo_ready _ up sess).trans
      (congrArg Host.Outcome.next (if_pos op))
  · exact show execSpdmHeartbeat i n s = _ from spdmDo_ready _ up sess
  · refine ⟨_, show execSpdmEndSession i n s = _ from spdmDo_ready _ up sess, fun e mem => ?_⟩
    rw [spdmOf_answered _ _ (by decide)] at mem
    exact dropSession_gone _ mem
  · refine ⟨_, show execSpdmChunkGet i h n s = _ from spdmDo_ready _ up (by rw [chunk]; simp), ?_⟩
    rw [chunk, spdmEmit_spdmOf, spdmOf_setSpdm]

end

section
/-! SUPPORT. Owner Command: which checks a passing authorisation goes through, and what the stored record leaves (R190
to
R198). -/
namespace Sys2Proof.Machine

/-! ## Records -/

section
variable (b : RecBody) (ok : Bool) (s : State)

theorem putRecord_cfg : (putRecord b ok s).cfg = (s.cfg.write b ok).1 := rfl

theorem storeCopy_cfg : (storeCopy b ok s).cfg = (s.cfg.write b ok).1 := by
  have erased (n : Nat) (v : State) : (eraseUnits n v).cfg = v.cfg := (eraseUnits_same n v).field .cfg rfl
  have ready (n pages : Nat) (v : State) : (readySector n pages v).cfg = v.cfg :=
      (readySector_same n pages v).field .cfg rfl
  unfold storeCopy
  dsimp only
  split
  · rw [erased, putRecord_cfg, ready]
  · rw [putRecord_cfg, ready]

theorem storeRecord_cfg : (storeRecord b true s).cfg = (s.cfg.write b true).1 := by
  rw [storeRecord_stored, storeCopy_cfg]

end

/-! ## A requester's nonce -/

section
variable (t : Tag) (r : Requester) (s : State)

/-- The state in which an Owner Command is judged: its nonce is used up, and a held first part is gone. -/
def unnonced : State := setNonce r none (dropSplit t s)

theorem nonceOf_congr {u v : State} (h : v.trust = u.trust) : nonceOf v r = nonceOf u r := by
  unfold nonceOf
  rw [h]

theorem dropSplit_cfg : (dropSplit t s).cfg = s.cfg := (dropSplit_same t s).field .cfg rfl

theorem unnonced_cfg : (unnonced t r s).cfg = s.cfg :=
  ((setNonce_same r none _).field .cfg rfl).trans (dropSplit_cfg t s)

theorem unnonced_free : (unnonced t r s).free = s.free :=
  ((setNonce_same r none _).field .free rfl).trans ((dropSplit_same t s).field .free rfl)

theorem nonceOf_unnonced : nonceOf (unnonced t r s) r = none := by cases r <;> rfl

theorem nonceOf_dropSplit : nonceOf (dropSplit t s) r = nonceOf s r := by
  unfold dropSplit
  split
  · cases r <;> rfl
  · rfl

theorem unnonced_keyId : (unnonced t r s).trust.devidKeyId = s.trust.devidKeyId := by
  unfold unnonced dropSplit
  split <;> cases r <;> rfl

theorem unnonced_rng : (unnonced t r s).trust.rng = s.trust.rng := by
  unfold unnonced dropSplit
  split <;> cases r <;> rfl

theorem setNonce_unnonced (v : Option (BitVec 256)) :
    setNonce r v (drawn 1 (drbgUse (unnonced t r s))) = setNonce r v (drawn 1 (drbgUse (dropSplit t s))) := by
  cases r <;> rfl

/-- Owner Command and GET_NONCE take the requesters of R192. -/
theorem requester_allowed (h : requesterOf t.src = some r) : Safety.allowed true false true t = true := by
  unfold Safety.allowed
  split
  · rfl
  · next f src =>
    obtain ⟨pf, vf⟩ := f
    rw [src] at h
    unfold requesterOf at h
    split at h <;> simp_all

end

/-! ## Facts of the owner record -/

section
variable {u v : State} (h : v.cfg = u.cfg)
include h

theorem ownerRec?_of_cfg : ownerRec? v = ownerRec? u := by unfold ownerRec?; rw [h]

theorem ownerState_of_cfg : ownerState v = ownerState u := by unfold ownerState; rw [ownerRec?_of_cfg h]

theorem ownerEpoch_of_cfg : ownerEpoch v = ownerEpoch u := by unfold ownerEpoch; rw [ownerRec?_of_cfg h]

theorem ownerKey_of_cfg : ownerKey v = ownerKey u := by unfold ownerKey; rw [ownerRec?_of_cfg h]

theorem ownerRecBase_of_cfg : ownerRecBase v = ownerRecBase u := by unfold ownerRecBase; rw [ownerRec?_of_cfg h]

theorem canStore_of_cfg (k : RecKind) : canStore k v = canStore k u := by unfold canStore; rw [h]

theorem authBinds_of_cfg (id : v.trust.devidKeyId = u.trust.devidKeyId) (a : Bytes) (n : Option (BitVec 256))
    (target key : Bytes) : authBinds v a n target key = authBinds u a n target key := by
  unfold authBinds
  rw [ownerEpoch_of_cfg h, id]

end

/-! ## The command -/

section
variable {t : Tag} {r : Requester} {a : OwnerAct} {n : W16} {d : Bytes} {g : DualVerdict} {s u : State}

/-- An authorisation that passes its checks goes on to store the new record. -/
theorem ownerCheck_passed {v : State} (data : Bytes) (nonce : nonceOf v r = nonceOf u r)
    (cfg : (setNonce r none v).cfg = u.cfg) (id : (setNonce r none v).trust.devidKeyId = u.trust.devidKeyId)
    (head : authHead data a.code = true) (valid : a.validIn (ownerState u) = true)
    (binds : authBinds u data (nonceOf u r) noDigest
      (if a.appends then digestBytes (keyDigest (slice data 3664 2064)) else noDigest) = true)
    (signed : authSigned data g (if a = .install then keyDigest (slice data 3664 2064) else ownerKey u) = true) :
    ownerCheck t r a data g true v = ownerCommit t a (slice data 3664 2064) true (setNonce r none v) := by
  unfold ownerCheck
  simp only [head, nonce, ownerState_of_cfg cfg, valid, authBinds_of_cfg cfg id, binds, ownerKey_of_cfg cfg, signed,
    Bool.not_true, Bool.or_self, Bool.false_eq_true, ↓reduceIte]

/-- A command that passes its checks goes on to store the new record. -/
theorem ownerCommand_passed (pass : Safety.ownerPasses t r a n d g u) :
    ownerCommand t a n 0 d g true u =
      ownerCommit t a (slice (padTo a.length d) 3664 2064) true (unnonced t r u) := by
  obtain ⟨req, path, len, head, valid, binds, signed, -⟩ := pass
  have short : ¬ (t.src = .mgt ∧ 4096 < a.length) := by
    rintro ⟨src, long⟩
    simp [OwnerAct.length, path src] at long
  unfold ownerCommand
  simp only [req]
  rw [if_neg (not_not_intro len), if_pos trivial, if_neg short]
  exact ownerCheck_passed _ (nonceOf_dropSplit t r u) (unnonced_cfg t r u) (unnonced_keyId t r u) head valid binds
      signed

theorem ownerCommit_stored (pub : Bytes) (can : canStore .owner s = true) :
    (ownerCommit t a pub true s).cfg = (storeRecord (.owner (a.apply (ownerRecBase s) pub)) true s).cfg := by
  have done (v : State) : (finish t .success (kscFollow v)).cfg = v.cfg :=
    ((finish_same t _ _).field .cfg rfl).trans ((kscFollow_same v).field .cfg rfl)
  have noted (c d e : Nat) (v : State) : (event c d e (evsSet 68 v)).cfg = v.cfg := (event_same c d e _).field .cfg rfl
  unfold ownerCommit
  have failed (v : State) : (finish t .internalError v).cfg = v.cfg := (finish_same t _ _).field .cfg rfl
  simp only [can, Bool.and_self]
  split
  · rw [done]
    split
    · rfl
    · exact noted _ _ _ _
  · exact failed _

theorem ownerCommit_trust (pub : Bytes) (stored : Bool) : (ownerCommit t a pub stored s).trust = s.trust :=
  (ownerCommit_same t a pub stored s).field .trust rfl

theorem ownerCommand_done (pass : Safety.ownerPasses t r a n d g u) :
    Safety.ownerDone r a d u (ownerCommand t a n 0 d g true u) := by
  have cfg := unnonced_cfg t r u
  rw [ownerCommand_passed pass]
  obtain ⟨-, -, -, -, -, -, -, can⟩ := pass
  constructor
  · rw [ownerCommit_stored _ ((canStore_of_cfg cfg _).trans can), storeRecord_cfg, storeRecord_cfg, cfg,
      ownerRecBase_of_cfg cfg]
  · rw [nonceOf_congr r (ownerCommit_trust _ _), nonceOf_unnonced]

/-- An Owner Command that starts in `u` and passes there runs to its end. -/
theorem ownerAdmin_done (i : Instr) (start : Safety.startOf t 0xC4 0 s = some u)
    (pass : Safety.ownerPasses t r a n d g u) : ∃ v, (Host.Outcome.next
      (runAdmin i t 0xC4 0 true false true (ownerCommand t a n 0 d g true) s) : Host.Outcome State Fault
        Refusal) = .next v ∧
      Safety.ownerDone r a d u v := by
  refine ⟨_, rfl, ?_⟩
  rw [runAdmin_start i _ start (requester_allowed t r pass.1)]
  exact ownerCommand_done pass

theorem getNonce_healthy (req : requesterOf t.src = some r) (len : 40 ≤ n.toNat) (healthy : u.trust.rng = .healthy) :
    getNonce t n 0 u = finishData t
      (beBytes 32 (draw 256 u).toNat ++ le32 (ownerEpoch u).toNat ++ [BitVec.ofNat 8 (ownerState u), 0, 0, 0])
      (setNonce r (some (draw 256 u)) (drawn 1 (drbgUse (dropSplit t u)))) := by
  have cfg : (drbgUse (unnonced t r u)).cfg = u.cfg := unnonced_cfg t r u
  have sameDraw : draw 256 (drbgUse (unnonced t r u)) = draw 256 u :=
    congrArg (Config.freeBits 256) (unnonced_free t r u)
  unfold getNonce
  simp only [req]
  rw [if_neg (by simp; omega), ← unnonced, withEntropy_healthy _ _ _ ((unnonced_rng t r u).trans healthy)]
  unfold giveNonce
  dsimp only
  rw [sameDraw, ownerEpoch_of_cfg cfg, ownerState_of_cfg cfg, setNonce_unnonced]

end

end Sys2Proof.Machine

open Sys2Proof Sys2Proof.Machine

/-- Settles O12: every owner action is one command, told apart by the record it stores. -/
theorem ownerCommandsComplete : Obligations.OwnerCommandsComplete := by
  unfold Obligations.OwnerCommandsComplete
  refine ⟨fun t r s u length start req len healthy => ?_,
    fun t r s u n d g start pass => ownerAdmin_done _ start pass,
    fun t r s u n d g start pass => ownerAdmin_done _ start pass,
    fun t r s u n d g start pass => ownerAdmin_done _ start pass,
    fun t r s u n d g start pass => ownerAdmin_done _ start pass,
    fun t r s u n d g start pass => ownerAdmin_done _ start pass,
    fun t r s u n d g start pass => ownerAdmin_done _ start pass,
    fun t r s u n d g start pass => ownerAdmin_done _ start pass, fun s up => congrArg Host.Outcome.next (if_pos up)⟩
  exact congrArg Host.Outcome.next ((runAdmin_start _ _ start (requester_allowed t r req)).trans
    (getNonce_healthy req len healthy))

end

section
/-! SUPPORT. The ledger: what its operations keep of the queues and the marks, and what its commands answer (R225,
R234 to
R246). -/
namespace Sys2Proof.Machine

/-! ## What every operation keeps of the marks -/

/-- Acknowledgement and clearing marks of both partitions are as before. -/
def MarksKept (s t : State) : Prop :=
  ∀ q, (ledger t q).acked = (ledger s q).acked ∧ (ledger t q).cleared = (ledger s q).cleared

/-- Queues only grow, a torn record stays seen, and the marks are as before. -/
structure LedgerGrows (s t : State) : Prop where
  torn : s.evr.tornSeen = true → t.evr.tornSeen = true
  queue : ∀ q, (ledger s q).queue <+: (ledger t q).queue
  marks : MarksKept s t

theorem MarksKept.trans {s t u : State} (first : MarksKept s t) (second : MarksKept t u) : MarksKept s u := fun q =>
  ⟨(second q).1.trans (first q).1, (second q).2.trans (first q).2⟩

theorem ledger_congr {s t : State} (evr : t.evr = s.evr) (q : EvrPart) : ledger t q = ledger s q := by
  cases q <;> simp only [ledger, evr]

theorem MarksKept.of_evr {s t : State} (evr : t.evr = s.evr) : MarksKept s t := fun q => by
  rw [ledger_congr evr q]
  exact ⟨rfl, rfl⟩

theorem LedgerGrows.trans {s t u : State} (first : LedgerGrows s t) (second : LedgerGrows t u) : LedgerGrows s u :=
  ⟨second.torn ∘ first.torn, fun q => (first.queue q).trans (second.queue q), first.marks.trans second.marks⟩

theorem LedgerGrows.of_evr {s t : State} (evr : t.evr = s.evr) : LedgerGrows s t :=
  ⟨by rw [evr]; exact id, fun q => by rw [ledger_congr evr q], .of_evr evr⟩

theorem ledger_setLedger_other {p q : EvrPart} (l : EvrLedger) (s : State) (other : q ≠ p) :
    ledger (setLedger p l s) q = ledger s q := by
  cases p <;> cases q
  · exact absurd rfl other
  · rfl
  · rfl
  · exact absurd rfl other

theorem setLedger_marks (p : EvrPart) (l : EvrLedger) (s : State) (acked : l.acked = (ledger s p).acked)
    (cleared : l.cleared = (ledger s p).cleared) : MarksKept s (setLedger p l s) := fun q => by
  by_cases same : q = p
  · subst same
    rw [ledger_setLedger]
    exact ⟨acked, cleared⟩
  · rw [ledger_setLedger_other _ _ same]
    exact ⟨rfl, rfl⟩

/-- A change of a partition's ledger grows when its queue does and its marks stay. -/
theorem setLedger_grows (p : EvrPart) (l : EvrLedger) (s : State) (queue : (ledger s p).queue <+: l.queue)
    (acked : l.acked = (ledger s p).acked) (cleared : l.cleared = (ledger s p).cleared) :
    LedgerGrows s (setLedger p l s) := by
  refine ⟨by cases p <;> exact id, fun q => ?_, fun q => ?_⟩
  · by_cases same : q = p
    · subst same
      rwa [ledger_setLedger]
    · rw [ledger_setLedger_other _ _ same]
  · exact setLedger_marks p l s acked cleared q

/-! ## Records formed -/

theorem foldl_grows {α : Type} {f : State → α → State} (grows : ∀ s a, LedgerGrows s (f s a)) (l : List α) (s : State) :
    LedgerGrows s (l.foldl f s) := by
  induction l generalizing s with
  | nil => exact .of_evr rfl
  | cons a l ih => exact (grows s a).trans (ih _)

theorem formPlain_grows (p : EvrPart) (type aux : W16) (b : Bytes) (s : State) :
    LedgerGrows s (formPlain p type aux b s) := by
  unfold formPlain pushRec
  refine LedgerGrows.trans (.of_evr (t := drawn 1 s) rfl) (setLedger_grows p _ _ ?_ rfl rfl)
  exact List.prefix_append _ _

theorem formSummary_grows (p : EvrPart) (x : EvrSector) (s : State) : LedgerGrows s (formSummary p x s) := by
  unfold formSummary
  split
  · exact formPlain_grows _ _ _ _ _
  · exact .of_evr rfl

theorem formSummaries_grows (p : EvrPart) (s : State) : LedgerGrows s (formSummaries p s) :=
  (foldl_grows (fun s x => formSummary_grows p x s) _ s).trans
    (setLedger_grows p _ _ (List.prefix_refl _) rfl rfl)

theorem formRec_grows (p : EvrPart) (type aux : W16) (b : Bytes) (s : State) : LedgerGrows s
    (formRec p type aux b s) := by
  unfold formRec
  split
  · exact (formSummaries_grows p s).trans (formPlain_grows _ _ _ _ _)
  · exact formPlain_grows _ _ _ _ _

theorem event_grows (c d e : Nat) (s : State) : LedgerGrows s (event c d e s) := by
  unfold event eventWith
  split
  · exact ⟨id, fun q => by cases q <;> exact List.prefix_refl _, fun q => by cases q <;> exact ⟨rfl, rfl⟩⟩
  · dsimp only
    have formed := formRec_grows .gen 0x0100 (BitVec.ofNat 16 c) (eventPayload d e []) s
    split
    · exact formed.trans (.of_evr ((kscEvent_same _ _).field .evr rfl))
    · exact formed

theorem eventDue_grows (c d e : Nat) (s : State) : LedgerGrows s (eventDue c d e s) := by
  unfold eventDue
  split
  · exact event_grows c d e s
  · exact .of_evr rfl

/-! ## Pages -/

/-- A sector is lost without a change of what is queued. -/
theorem retireSector_grows (n : Nat) (s : State) : LedgerGrows s (retireSector n s) := by
  have copied (b : RecBody) (v : State) : (storeCopy b true v).evr = v.evr := (storeCopy_same b true v).field .evr rfl
  have lost (v w : State) (grows : LedgerGrows v w) : LedgerGrows v (eventDue 0x0020 n 2 (evsSet 33 w)) :=
    (grows.trans (.of_evr (t := evsSet 33 w) rfl)).trans (eventDue_grows _ _ _ _)
  unfold retireSector
  split
  · exact .of_evr rfl
  · refine LedgerGrows.trans (.of_evr (t := { s with nor.retired := insertNew n s.nor.retired }) rfl) (lost _ _ ?_)
    split
    · exact .of_evr (copied _ _)
    split
    · exact .of_evr (copied _ _)
    split
    · exact ⟨id, fun q => by cases q <;> exact List.prefix_refl _, fun q => by cases q <;> exact ⟨rfl, rfl⟩⟩
    split
    · exact ⟨id, fun q => by cases q <;> exact List.prefix_refl _, fun q => by cases q <;> exact ⟨rfl, rfl⟩⟩
    split
    · exact .of_evr rfl
    split <;> exact .of_evr rfl

theorem replaceBad_grows (n pages : Nat) (s : State) : LedgerGrows s (replaceBad n pages s) := by
  have marked (b : Pf) (g : Bank → Bank) (k : Nat) : (evsSet 33 (bumpGen k (modBank b g s))).evr = s.evr :=
    (modBank_same b g s).field .evr rfl
  unfold replaceBad
  dsimp only
  split
  · exact retireSector_grows n s
  · exact (LedgerGrows.of_evr (marked _ _ _)).trans (eventDue_grows _ _ _ _)

theorem tearSector_grows (p : EvrPart) (s : State) : LedgerGrows s (tearSector p s) := by
  have torn := setLedger_grows p ((ledger s p).modLast fun x => { x with torn := true }) s (List.prefix_refl _) rfl rfl
  have noted (v : State) : LedgerGrows v (evsSetIf (!v.evr.tornSeen) 97 { v with evr.tornSeen := true }) :=
    LedgerGrows.trans (t := { v with evr.tornSeen := true })
      ⟨fun _ => rfl, fun q => by cases q <;> exact List.prefix_refl _, fun q => by cases q <;> exact ⟨rfl, rfl⟩⟩
      (.of_evr ((evsSetIf_same _ _ _).field .evr rfl))
  exact (torn.trans (noted _)).trans (eventDue_grows _ _ _ _)

theorem tearSector_seen (p : EvrPart) (s : State) : (tearSector p s).evr.tornSeen = true := by
  have noted (v : State) : (evsSetIf (!v.evr.tornSeen) 97 { v with evr.tornSeen := true }).evr.tornSeen = true :=
    congrArg Evr.tornSeen ((evsSetIf_same _ _ _).field .evr rfl)
  exact (eventDue_grows _ _ _ _).torn (noted _)

/-- A failed page: its records stay queued, and the tear is seen. -/
theorem failPage_grows (p : EvrPart) (s : State) : LedgerGrows s (failPage p s) ∧
    (failPage p s).evr.tornSeen = true := by
  have undefined (lo hi : Nat) (v : State) : (undefineUnits lo hi v).evr = v.evr :=
    (undefineUnits_same lo hi v).field .evr rfl
  have replaced (n m : Nat) (v w : State) (evr : w.evr = v.evr) : LedgerGrows v (replaceBad n m (bumpGen 1 w)) :=
    LedgerGrows.trans (.of_evr (t := bumpGen 1 w) evr) (replaceBad_grows _ _ _)
  have torn := tearSector_grows p s
  have seen := tearSector_seen p s
  unfold failPage
  dsimp only
  split
  · exact ⟨torn, seen⟩
  · split
    · exact ⟨torn.trans (replaced _ _ _ _ (undefined _ _ _)), (replaced _ _ _ _ (undefined _ _ _)).torn seen⟩
    · exact ⟨torn.trans (replaced _ _ _ _ rfl), (replaced _ _ _ _ rfl).torn seen⟩

/-! ## Writing out -/

/-- An opened sector: the marks and the CFG partitions are as before. -/
theorem openSector_marks (p : EvrPart) (s : State) : MarksKept s (openSector p s) := by
  have dropped (x : EvrSector) (v : State) : MarksKept v (dropSector p x v) := by
    unfold dropSector
    dsimp only
    split
    · exact MarksKept.trans (t := evsSet 96 { v with evr.overflowWarn := true })
        (fun q => by cases q <;> exact ⟨rfl, rfl⟩) (event_grows _ _ _ _).marks
    · exact .of_evr rfl
  have erased (n : Nat) (v : State) : MarksKept v (eraseUnits n v) := .of_evr ((eraseUnits_same n v).field .evr rfl)
  have ready (n m : Nat) (v : State) : MarksKept v (readySector n m v) :=
    .of_evr ((readySector_same n m v).field .evr rfl)
  have all (l : List EvrSector) (v : State) :
      MarksKept v (l.foldl (fun s x => eraseUnits (evrSectorAt p x.place) (dropSector p x s)) v) := by
    induction l generalizing v with
    | nil => exact .of_evr rfl
    | cons x l ih => exact ((dropped x v).trans (erased _ _)).trans (ih _)
  have opened (k : Nat) (l : EvrLedger) (v : State) (acked : l.acked = (ledger v p).acked)
      (cleared : l.cleared = (ledger v p).cleared) : MarksKept v (bumpGen k (setLedger p l v)) :=
    (setLedger_marks p l v acked cleared).trans (.of_evr rfl)
  unfold openSector
  refine MarksKept.trans ?_ (ready _ _ _)
  refine MarksKept.trans ?_ (opened _ _ _ rfl rfl)
  exact (formSummaries_grows p s).marks.trans (all _ _)

theorem noteSigned_ledger (l : List EvrRec) (s : State) (q : EvrPart) : ledger (noteSigned l s) q = ledger s q := by
  have noted (b : Bool) (v : State) :
      ledger (if b then evsSet 98 { v with evr.signed := true } else v) q = ledger v q := by
    cases b <;> cases q <;> rfl
  unfold noteSigned
  dsimp only
  rw [noted]
  split
  · cases q <;> rfl
  · rfl

theorem failPage_retired_cfg (p : EvrPart) (s : State)
    (retired : s.nor.retired.contains (evrSectorNo p (ledger s p)) = true) : (failPage p s).cfg = s.cfg := by
  have torn : (tearSector p s).nor.retired = s.nor.retired := ((tearSector_same p s).field .nor rfl).1
  unfold failPage
  dsimp only
  rw [torn, if_pos retired]
  exact (tearSector_same p s).field .cfg rfl

/-- A page that is programmed, or whose sector is retired, changes neither the marks nor the CFG partitions. -/
theorem programPage_marks (p : EvrPart) (s : State) :
    MarksKept s (programPage p true s) ∧ (programPage p true s).cfg = s.cfg := by
  have opened (v : State) : MarksKept v (if (ledger v p).used = 2048 then openSector p v else v) ∧
      (if (ledger v p).used = 2048 then openSector p v else v).cfg = v.cfg := by
    split
    · exact ⟨openSector_marks p v, (openSector_same p v).field .cfg rfl⟩
    · exact ⟨.of_evr rfl, rfl⟩
  have programmed (l : EvrLedger) (rs : List EvrRec) (v : State) (acked : l.acked = (ledger v p).acked)
      (cleared : l.cleared = (ledger v p).cleared) : MarksKept v (noteSigned rs (bumpGen 1 (setLedger p l v))) ∧
      (noteSigned rs (bumpGen 1 (setLedger p l v))).cfg = v.cfg := by
    refine ⟨fun q => ?_, ((noteSigned_same rs _).field .cfg rfl).trans (setLedger_cfg p l v)⟩
    rw [noteSigned_ledger]
    exact setLedger_marks p l v acked cleared q
  unfold programPage
  split
  · exact ⟨.of_evr rfl, rfl⟩
  · dsimp only
    obtain ⟨marks, cfg⟩ := opened s
    generalize (if (ledger s p).used = 2048 then openSector p s else s) = v at marks cfg ⊢
    split
    · refine ⟨marks.trans (And.left (programmed _ _ _ ?_ ?_)), Eq.trans (And.right (programmed _ _ _ ?_ ?_)) cfg⟩
        <;> rfl
    · next bad =>
      exact ⟨marks.trans (failPage_grows p _).1.marks, (failPage_retired_cfg p _ (by simpa using bad)).trans cfg⟩

theorem drainQueue_marks (p : EvrPart) (n : Nat) (s : State) :
    MarksKept s (drainQueue p n s) ∧ (drainQueue p n s).cfg = s.cfg := by
  induction n generalizing s with
  | zero => exact ⟨.of_evr rfl, rfl⟩
  | succ n ih =>
    obtain ⟨page, pageCfg⟩ := programPage_marks p s
    obtain ⟨rest, restCfg⟩ := ih (programPage p true s)
    exact ⟨page.trans rest, restCfg.trans pageCfg⟩

theorem writeOut_marks (p : EvrPart) (s : State) :
    MarksKept s (writeOut p true s) ∧ (writeOut p true s).cfg = s.cfg := drainQueue_marks p _ s

end Sys2Proof.Machine
end

section
/-! SUPPORT. The ledger's commands: what each answers and leaves (R225 to R246). -/
namespace Sys2Proof.Machine

section
variable {s : State} {p : EvrPart}

/-- A good page appends the head of the queue to the sector being filled. -/
theorem programPage_good (waiting : (ledger s p).queue ≠ []) (room : (ledger s p).used ≠ 2048)
    (good : evrSectorNo p (ledger s p) ∉ s.nor.retired) :
    programPage p true s = noteSigned ((ledger s p).queue.take (pageCount (ledger s p))) (bumpGen 1 (setLedger p
      { (ledger s p).modLast fun x => { x with recs := x.recs ++ (ledger s p).queue.take (pageCount (ledger s p)) } with
        queue := (ledger s p).queue.drop (pageCount (ledger s p)) } s)) := by
  unfold programPage
  rw [if_neg (by simpa using waiting)]
  dsimp only
  rw [if_neg room, if_pos (by simpa using good)]

theorem programPage_failed (waiting : (ledger s p).queue ≠ []) (room : (ledger s p).used ≠ 2048) :
    programPage p false s = failPage p s := by
  unfold programPage
  rw [if_neg (by simpa using waiting)]
  dsimp only
  rw [if_neg room, if_neg (by simp)]

theorem evrPageProgram_runs (ok : Bool) (run : running s = true) (placed : s.evr.placed = true) :
    execEvrPageProgram p ok s = .next (programPage p ok s) :=
  congrArg Host.Outcome.next (if_pos (by rw [run, placed]; rfl))

theorem ledgerSign_placed (signs : Bool) (run : running s = true) (placed : s.evr.placed = true) :
    execLedgerSign signs s = .next (signLedger signs s) := by
  simp only [execLedgerSign, run, placed, Bool.not_true, Bool.false_eq_true, ↓reduceIte]

theorem ledgerSign_waits (signs : Bool) (run : running s = true) (unplaced : s.evr.placed = false) :
    execLedgerSign signs s = .next { s with evr.signWaiting := some signs } := by
  simp only [execLedgerSign, run, unplaced, Bool.not_true, Bool.false_eq_true, ↓reduceIte]

end

/-- Event Recorder Read is open to every source. -/
theorem every_allowed (t : Tag) : Safety.allowed true true true t = true := by
  unfold Safety.allowed
  split
  · rfl
  · split <;> rfl

section
variable {t : Tag} {part : BitVec 2} {p : EvrPart} {u : State}

theorem evrRead_window (q : W32) (n : BitVec 14) (known : partOf part.toNat = some p)
    (open' : isVf t.src = true → p = .boot) (few : n.toNat ≤ 8192) (path : t.src = .mgt → 128 + 128 * n.toNat ≤ 4096) :
    evrRead t part q n u = finishData t (ledgerHeader u p (readRecs (ledger u p) q n.toNat).length ++
      (readRecs (ledger u p) q n.toNat).flatMap recBytes) u := by
  unfold evrRead
  rw [known]
  dsimp only
  rw [if_neg (by simpa using open'), if_neg (by omega), if_neg (fun h => absurd (path h.1) (by omega))]

theorem evrAck_old (q : W32) (h : BitVec 128) (ok : Bool) (known : partOf part.toNat = some p)
    (notVf : isVf t.src = false) (old : seqFollows q (ledger u p).ackedSeq = false) :
    evrAck t part q h ok u = finish t .success u := by
  unfold evrAck
  rw [known]
  dsimp only
  rw [if_neg (by simp [notVf]), if_pos (by simp [old])]

/-- An acknowledgement that matches marks its record; the ACK record is written out after it. -/
theorem evrAck_matched {r : EvrRec} (h : BitVec 128) (known : partOf part.toNat = some p) (notVf : isVf t.src = false)
    (later : seqFollows r.seq (ledger u p).ackedSeq = true)
    (found : (ledger u p).held.find? (fun x => decide (x.seq = r.seq)) = some r)
    (hash : (digestBytes (chainHash r)).take 16 = beBytes 16 h.toNat) :
    ∃ w, evrAck t part r.seq h true u = finish t .success w ∧ (ledger w p).acked = some r.seq ∧ w.cfg = u.cfg := by
  have marked (v : State) : MarksKept (setLedger p { ledger u p with acked := some r.seq } u) v →
      (ledger v p).acked = some r.seq := fun kept => by rw [(kept p).1, ledger_setLedger]
  have ended (b : W16) (c d : W16) (m : Bytes) (v : State) :
      MarksKept v (writeOut p true (formRec p c d m v)) ∧ (writeOut p true (formRec p c d m v)).cfg = v.cfg := by
    obtain ⟨kept, cfg⟩ := writeOut_marks p (formRec p c d m v)
    exact ⟨(formRec_grows p c d m v).marks.trans kept, cfg.trans ((formRec_same p c d m v).field .cfg rfl)⟩
  have flushed (b : Bool) (v : State) :
      MarksKept v (if b then writeOut p true v else v) ∧ (if b then writeOut p true v else v).cfg = v.cfg := by
    cases b
    · exact ⟨.of_evr rfl, rfl⟩
    · exact writeOut_marks p v
  unfold evrAck
  rw [known]
  dsimp only
  rw [if_neg (by simp [notVf]), if_neg (by simp [later]), found]
  dsimp only
  rw [if_pos hash, Bool.true_or]
  refine ⟨_, rfl, marked _ ((flushed _ _).1.trans (ended 0 _ _ _ _).1), ?_⟩
  rw [(ended 0 _ _ _ _).2, (flushed _ _).2, setLedger_cfg]

theorem logReply_page (page : Bytes) (n o : Nat) (path : t.src = .mgt → n ≤ 4096) (within : o ≤ page.length) :
    logReply t page n o u = finishData t (window page o n) u := by
  unfold logReply
  rw [if_neg (fun h => absurd (path h.1) (by omega)), if_neg (by omega)]

/-- A clear whose authorisation passes records its mark. -/
theorem applyClear_cleared (q : EvrPart) (r : EvrRec) (ok : Bool) :
    (ledger (applyClear t q r ok u) q).cleared = some r.seq := by
  have done (v : State) : ledger (finish t .success v) q = ledger v q :=
    ledger_congr ((finish_same t _ v).field .evr rfl) q
  have bumped (n : Nat) (v : State) : ledger (bumpGen n v) q = ledger v q := ledger_congr rfl q
  unfold applyClear
  dsimp only
  rw [done, bumped, ledger_setLedger]

/-- EVR_CLEAR with every check passed. -/
theorem evrClear_passed {a : Requester} {d : Bytes} {g : DualVerdict} {r : EvrRec}
    (req : requesterOf t.src = some a) (found : (ledger u p).held.find? (fun x => decide (x.seq = r.seq)) = some r)
    (head : authHead (padTo 3664 d) 0x0011 = true) (owned : ownerState u ≠ 0)
    (signed : clearBeyond p (ledger u p) r.seq = false)
    (binds : authBinds u (padTo 3664 d) (nonceOf u a) (clearTarget p r) noDigest = true)
    (auth : authSigned (padTo 3664 d) g (ownerKey u) = true) :
    evrClear t p r.seq 3664 d g true u = applyClear t p r true (setNonce a none u) := by
  have cfg : (setNonce a none u).cfg = u.cfg := (setNonce_same a none u).field .cfg rfl
  have evr : ledger (setNonce a none u) p = ledger u p := ledger_congr ((setNonce_same a none u).field .evr rfl) p
  have id : (setNonce a none u).trust.devidKeyId = u.trust.devidKeyId := by cases a <;> rfl
  unfold evrClear
  rw [req]
  dsimp only
  rw [found]
  dsimp only
  rw [if_neg (by simp [head]), ownerState_of_cfg cfg, evr, if_neg (by simp [owned, signed]), authBinds_of_cfg cfg id,
    binds,
    ownerKey_of_cfg cfg, auth, if_neg (by simp)]

theorem evrClear_nonce {a : Requester} (q : EvrPart) (r : EvrRec) (ok : Bool) :
    nonceOf (applyClear t q r ok (setNonce a none u)) a = none := by
  rw [nonceOf_congr a ((applyClear_same t q r ok _).field .trust rfl)]
  cases a <;> rfl

end

end Sys2Proof.Machine

open Sys2Proof Sys2Proof.Machine

/-- Settles O17, command by command. -/
theorem ledgerCommandsComplete : Obligations.LedgerCommandsComplete := by
  unfold Obligations.LedgerCommandsComplete
  refine ⟨fun s p run placed waiting room sectors good => ?_, fun s p run placed waiting room => ?_,
    fun s run due space => ?_, fun s run placed => ledgerSign_placed true run placed, fun s run placed started => ?_,
    fun s b run unplaced => ledgerSign_waits b run unplaced, fun t s u part p q n start known open' few path => ?_,
    fun t s u part p q h start known notVf old ok => ?_, fun t s u part p r h start known notVf later found hash => ?_,
    fun t s u n o start path within => ?_, fun t s u q part r d g start req found head owned signed binds auth => ?_⟩
  · refine ⟨_, (ledger s p).sectors.getLast sectors,
      (evrPageProgram_runs true run placed).trans (congrArg Host.Outcome.next (programPage_good waiting room good)),
      List.getLast?_eq_some_getLast sectors, ?_⟩
    have gen (l : List EvrRec) (v : State) : (noteSigned l v).nor.writeGen = v.nor.writeGen :=
      ((noteSigned_same l v).field .nor rfl).2
    have bumped (v : State) : ledger (bumpGen 1 v) p = ledger v p := ledger_congr rfl p
    have next (l : EvrLedger) : (bumpGen 1 (setLedger p l s)).nor.writeGen = s.nor.writeGen + 1 := by cases p <;> rfl
    rw [noteSigned_ledger, bumped, ledger_setLedger, gen, next]
    exact ⟨by simp [EvrLedger.modLast, List.getLast?_eq_some_getLast sectors], rfl, rfl⟩
  · obtain ⟨grows, seen⟩ := failPage_grows p s
    exact ⟨_, (evrPageProgram_runs false run placed).trans
        (congrArg Host.Outcome.next (programPage_failed waiting room)),
      seen, grows.queue p⟩
  · exact congrArg Host.Outcome.next (if_pos (by simp only [run, decide_eq_true due, decide_eq_true space,
      Bool.and_self]))
  · refine (show execLedgerSign false s = _ from ledgerSign_placed false run placed).trans ?_
    rw [signLedger, if_pos started]
    rfl
  · exact congrArg Host.Outcome.next
      ((runAdmin_start _ _ start (every_allowed t)).trans (evrRead_window q n known open' few path))
  · exact congrArg Host.Outcome.next
      ((runAdmin_start _ _ start (every_allowed t)).trans (evrAck_old q h ok known notVf old))
  · obtain ⟨w, ended, acked, cfg⟩ := evrAck_matched h known notVf later found hash
    have frame := evrAck_same t part r.seq h true u
    refine ⟨_, w, congrArg Host.Outcome.next (runAdmin_start _ _ start (every_allowed t)), ended, ?_, ?_,
      frame.wholeTab rfl, frame.field .media rfl⟩
    · rw [ended, ledger_congr ((finish_same t _ w).field .evr rfl) p, acked]
    · rw [ended, (finish_same t _ w).field .cfg rfl, cfg]
  · exact congrArg Host.Outcome.next
      ((runAdmin_start _ _ start (every_allowed t)).trans (logReply_page _ n o path within))
  · refine ⟨_, congrArg Host.Outcome.next ((runAdmin_start _ _ start (requester_allowed t q req)).trans
      (evrClear_passed req found head owned signed binds auth)), applyClear_cleared _ r true, evrClear_nonce _ r true⟩

end

section
/-! SUPPORT. Firmware download, commit and the gate: what each command leaves of the session and the boot control record
(R252 to R265, R273). -/
namespace Sys2Proof.Machine

/-! ## What the slots' reads and writes do not look at -/

section
variable {s t : State} (fuses : t.fuses = s.fuses) (evr : t.evr = s.evr) (cfg : t.cfg = s.cfg) (nor : t.nor = s.nor)
include fuses evr cfg nor

theorem slotHeader_congr : slotHeader t = slotHeader s := by
  unfold slotHeader slotRead
  rw [norBytes_congr fuses evr cfg (congrArg Nor.mem nor) (congrArg Nor.undef nor)]

theorem slotRoot_congr : slotRoot t = slotRoot s := by
  unfold slotRoot
  rw [slotHeader_congr fuses evr cfg nor]

end

/-- The update session replaced. -/
def withUpd (x : Upd) (s : State) : State := { s with upd := x }

section
variable (x : Upd) (s : State)

theorem unitDone_withUpd : unitDone (withUpd x s) = unitDone s := by
  have stored : storedByte (withUpd x s) = storedByte s := storedByte_congr rfl rfl rfl
  unfold unitDone
  rw [stored]
  rfl

theorem rangeDone_withUpd : rangeDone (withUpd x s) = rangeDone s := by
  unfold rangeDone
  rw [unitDone_withUpd]

theorem programRange_withUpd (a : Nat) (d : Bytes) :
    programRange a d (withUpd x s) = withUpd x (programRange a d s) := by
  unfold programRange
  rw [List.foldl_hom (withUpd x) fun u i => ?_]
  · rfl
  · rw [unitDone_withUpd]
    split <;> rfl

theorem keepBytes_withUpd (written : x.written = s.upd.written) (i : SlotId) (off : Nat) (d : Bytes) :
    keepBytes (withUpd x s) i off d = keepBytes s i off d := by
  have header : slotHeader (withUpd x s) = slotHeader s := slotHeader_congr rfl rfl rfl rfl
  have units : (withUpd x s).upd.written = s.upd.written := written
  unfold keepBytes
  rw [header, units]

end

/-! ## Erasing the sectors of a slot -/

/-- A download stays within its slot's sectors. -/
theorem newSectors_slot {s : State} {path : Bool} {i : SlotId} {off len n : Nat}
    (fields : downloadFields path off len = true) (mem : n ∈ newSectors s (slotBase i + off) len) :
    n < 384 ∨ (512 ≤ n ∧ n < 704) := by
  obtain ⟨mem, -⟩ := List.mem_filter.mp mem
  obtain ⟨k, hk, rfl⟩ := List.mem_map.mp mem
  have hk := List.mem_range.mp hk
  obtain ⟨-, -, some', within⟩ := of_decide_eq_true (Bool.and_eq_true_iff.mp fields).1
  simp only [slotBytes] at within
  cases i <;> simp only [slotBase, sectorBytes] at hk ⊢ <;> omega

theorem loseStores_slot (s : State) {n : Nat} (slot : n < 384 ∨ (512 ≤ n ∧ n < 704)) : loseStores n s = s := by
  unfold loseStores
  rw [if_neg (by omega), if_neg (by omega), if_neg (by omega), if_neg (by omega)]

theorem eraseSectors_slot_cfg (l : List Nat) (s : State) (slot : ∀ n ∈ l, n < 384 ∨ (512 ≤ n ∧ n < 704)) :
    (eraseSectors l s).cfg = s.cfg := by
  have erased (n : Nat) (v : State) : (eraseUnits n v).cfg = v.cfg := (eraseUnits_same n v).field .cfg rfl
  unfold eraseSectors
  change (l.foldl (fun s n => eraseContents n s) s).cfg = s.cfg
  induction l generalizing s with
  | nil => rfl
  | cons n l ih =>
    rw [List.foldl_cons, ih _ fun k mem => slot k (List.mem_cons_of_mem n mem), eraseContents,
      loseStores_slot _ (slot n List.mem_cons_self), erased]

/-! ## Download -/

section
variable {t : Tag} {r : Requester} {off : Nat} {d : Bytes} {out : SlotWrite} {stored : Bool} {i : SlotId} {u : State}

/-- The checks of a download before its session (R253, R258, R260). -/
theorem download_checked (req : requesterOf t.src = some r) (calm : u.nvm.sanitize = none)
    (fields : downloadFields (decide (t.src = .mgt)) off d.length = true) (clear : gate u = none) :
    download t off d out stored u = downloadInto t r off d out stored u := by
  simp only [download, req, calm, Option.isSome_none, Bool.false_eq_true, ↓reduceIte, fields, Bool.not_true, clear]

theorem download_gated {st : Status} (req : requesterOf t.src = some r) (calm : u.nvm.sanitize = none)
    (fields : downloadFields (decide (t.src = .mgt)) off d.length = true) (closed : gate u = some st) :
    download t off d out stored u = refuseDownload t st u := by
  simp only [download, req, calm, Option.isSome_none, Bool.false_eq_true, ↓reduceIte, fields, Bool.not_true, closed]

/-- In the requester's own session the data goes to its slot. -/
theorem downloadInto_held (holder : u.upd.holder = some r) (slot : u.upd.slot = some i) (live : slotRetired u i = false)
    (fresh : ∀ k ∈ kib4Units off d.length, k ∉ u.upd.written) :
    downloadInto t r off d out stored u = programDownload t i off d out u := by
  have apart : ¬ ((kib4Units off d.length).any fun k => u.upd.written.contains k) = true := by
    simpa using fresh
  simp only [downloadInto, holder, slot, ne_eq, not_true_eq_false, ↓reduceIte, live, Bool.false_eq_true, if_neg apart]

/-- With no session open the inactive slot's opens. -/
theorem downloadInto_opens (none' : u.upd.holder = none) (inactive : inactiveSlot u = some i)
    (can : canStore .boot u = true) :
    downloadInto t r off d out true u = programDownload t i off d out (openUpd r i true u) := by
  simp only [downloadInto, none', inactive, can, Bool.and_self, ↓reduceIte]

/-- The session of a requester after a download into slot `i` at `off`. -/
def downloaded (i : SlotId) (off n : Nat) (u : State) : Upd :=
  { u.upd with touched := u.upd.touched ++ newSectors u (slotBase i + off) n,
               written := u.upd.written ++ kib4Units off n }

theorem programData_erased {w : State} (x : Upd) (written : x.written = w.upd.written)
    (erased : rangeDone w (slotBase i + off) (keepBytes w i off d).length = false) :
    programData t i off d true (withUpd x w) = finish t .success (withUpd { x with written := x.written ++ kib4Units off d.length }
      (programRange (slotBase i + off) (keepBytes w i off d) w)) := by
  unfold programData
  dsimp only
  rw [keepBytes_withUpd x w written, rangeDone_withUpd, erased, programRange_withUpd]
  rfl

/-- The data of a download whose units were all erased. -/
theorem programDownload_done {w : State} (hw : w = eraseSectors (newSectors u (slotBase i + off) d.length) u)
    (erased : rangeDone w (slotBase i + off) (keepBytes w i off d).length = false) :
    programDownload t i off d .done u = finish t .success (withUpd (downloaded i off d.length u)
      (programRange (slotBase i + off) (keepBytes w i off d) w)) := by
  have upd : w.upd = u.upd := by rw [hw]; exact (eraseSectors_same _ u).field .upd rfl
  have programmed := programData_erased (t := t)
    { w.upd with touched := w.upd.touched ++ newSectors u (slotBase i + off) d.length } rfl erased
  rw [downloaded, ← upd]
  subst hw
  exact programmed

/-- A SECTOR ERASE that fails leaves what is written of the session. -/
theorem programDownload_eraseFails (new : newSectors u (slotBase i + off) d.length ≠ []) :
    ∃ w, programDownload t i off d .eraseFails u = finish t .internalError w ∧ w.upd.written = u.upd.written := by
  obtain ⟨n, l, cons⟩ := List.exists_cons_of_ne_nil new
  have upd : (slotEraseFails n u).upd = u.upd := (slotEraseFails_same n u).field .upd rfl
  unfold programDownload
  dsimp only
  rw [cons]
  have kept (v : State) (l : List Nat) : ({ v with upd.touched := l } : State).upd.written = v.upd.written := rfl
  exact ⟨_, rfl, (kept _ _).trans (congrArg Upd.written upd)⟩

theorem finish_upd (st : Status) : (finish t st u).upd = u.upd := (finish_same t st u).field .upd rfl

theorem openUpd_upd : (openUpd r i true u).upd =
    { holder := some r, slot := some i, touched := [], written := [], blockers := u.upd.blockers } := by
  have told (v : State) : (updEvent 1 (nvmeSlot i) [] v).upd = v.upd := (updEvent_same 1 _ [] v).field .upd rfl
  have kept (b : RecBody) : (storeRecord b true u).upd = u.upd := (storeRecord_same b true u).field .upd rfl
  unfold openUpd
  dsimp only
  rw [if_pos rfl, told, ← kept]
  rfl

end

/-! ## Commit -/

section
variable {t : Tag} {r : Requester} {i : SlotId} {u : State} {root : Bytes}

theorem commitOn_checked (k : Requester → SlotId → State → State) (req : requesterOf t.src = some r)
    (calm : u.nvm.sanitize = none) (clear : gate u = none) (inactive : inactiveSlot u = some i) :
    commitOn t 0 k u = k r i u := by
  simp [commitOn, req, calm, clear, inactive]

theorem refuseCommit_kept (st : Status) : (refuseCommit t st root u).cfg = u.cfg ∧
    (refuseCommit t st root u).upd = u.upd :=
  ⟨(refuseCommit_same t st root u).field .cfg rfl, (refuseCommit_same t st root u).field .upd rfl⟩

theorem commitRecord_stored (b : BootRec) (can : canStore .boot u = true) :
    (commitRecord t b root true u).cfg = (storeRecord (.boot b) true u).cfg ∧
      (commitRecord t b root true u).upd = u.upd := by
  have told (v : State) : (finish t .success (updEvent 3 0 root v)).cfg = v.cfg ∧
      (finish t .success (updEvent 3 0 root v)).upd = v.upd :=
    ⟨((finish_same t _ _).field .cfg rfl).trans ((updEvent_same 3 0 root v).field .cfg rfl),
      ((finish_same t _ _).field .upd rfl).trans ((updEvent_same 3 0 root v).field .upd rfl)⟩
  unfold commitRecord
  rw [can]
  exact ⟨(told _).1, (told _).2.trans ((storeRecord_same _ true u).field .upd rfl)⟩

/-- A session's close: the holder is gone, and nothing that images or records depend on changes. -/
theorem closeUpd_kept : (closeUpd u).cfg = u.cfg ∧ (closeUpd u).boot = u.boot ∧ slotRoot (closeUpd u) = slotRoot u :=
  have frame := closeUpd_same u
  have nor : (closeUpd u).nor = u.nor := by unfold closeUpd; split <;> rfl
  ⟨frame.field .cfg rfl, frame.field .boot rfl, slotRoot_congr (frame.allFuses rfl)
    (frame.field .evr rfl) (frame.field .cfg rfl) nor⟩

theorem closeUpd_free (held : u.upd.holder = some r) : (closeUpd u).upd.holder = none := by
  unfold closeUpd
  rw [held]
  rfl

theorem bootRecBase_congr {v : State} (cfg : v.cfg = u.cfg) (boot : v.boot = u.boot) : bootRecBase v =
    bootRecBase u := by
  unfold bootRecBase bootRec?
  rw [cfg, boot]

/-- The record that a commit of the session's slot writes: the slot becomes Pending, or its image is staged (R263). -/
def sessionRec (pend : Bool) (i : SlotId) (u : State) : BootRec :=
  if pend then (bootRecBase u).pending i (slotRoot u i) else { bootRecBase u with
    staged := (bootRecBase u).staged ||| (match i with | .a => 1 | .b => 2 | .g => 0) }

theorem commitSession_verified {e : ImageEnv} (pend : Bool) (holder : u.upd.holder = some r)
    (slot : u.upd.slot = some i) :
    commitSession t e true pend r i u = if imageOk (closeUpd u) i e = true then
      commitRecord t (sessionRec pend i u) (slotHeader (closeUpd u) i).root true (closeUpd u)
      else refuseCommit t .invalidFirmwareImage (slotHeader (closeUpd u) i).root (closeUpd u) := by
  obtain ⟨cfg, boot, slotRoots⟩ := closeUpd_kept (u := u)
  have base : bootRecBase (closeUpd u) = bootRecBase u := bootRecBase_congr cfg boot
  unfold commitSession
  rw [if_neg (not_not_intro holder), if_neg (not_not_intro slot)]
  dsimp only
  rw [base, slotRoots]
  cases imageOk (closeUpd u) i e <;> cases pend <;> rfl

/-- A session whose holder commits its slot closes, and the record follows the verified image (R263). -/
theorem commitSession_held {e : ImageEnv} (pend : Bool) (holder : u.upd.holder = some r) (slot : u.upd.slot = some i)
    (can : canStore .boot (closeUpd u) = true) :
    (commitSession t e true pend r i u).upd.holder = none ∧
    (commitSession t e true pend r i u).cfg =
      if imageOk (closeUpd u) i e = true then (storeRecord (.boot (sessionRec pend i u)) true u).cfg else u.cfg := by
  obtain ⟨cfg, -, -⟩ := closeUpd_kept (u := u)
  rw [commitSession_verified pend holder slot]
  by_cases good : imageOk (closeUpd u) i e = true
  · obtain ⟨stored, kept⟩ := commitRecord_stored (t := t) (root := (slotHeader (closeUpd u) i).root)
      (sessionRec pend i u) can
    rw [if_pos good, if_pos good, kept, stored, storeRecord_cfg, storeRecord_cfg, cfg]
    exact ⟨closeUpd_free holder, rfl⟩
  · obtain ⟨stored, kept⟩ := refuseCommit_kept (t := t) (root := (slotHeader (closeUpd u) i).root) (u := closeUpd u)
      .invalidFirmwareImage
    rw [if_neg good, if_neg good, kept, stored, cfg]
    exact ⟨closeUpd_free holder, rfl⟩

/-- The record that activating the staged image writes: the slot becomes Pending, or a bad image is staged no more
(R264). -/
def stagedRec (i : SlotId) (e : ImageEnv) (u : State) : BootRec :=
  if imageOk u i e = true then (bootRecBase u).pending i (slotRoot u i) else { bootRecBase u with
    staged := (bootRecBase u).staged &&& ~~~(match i with | .a => 1 | .b => 2 | .g => 0) }

/-- The staged image of the Empty slot is activated, or found bad and no longer staged (R264). -/
theorem commitStaged_free {e : ImageEnv} (none' : u.upd.holder = none) (staged : stagedEmpty u i = true)
    (can : canStore .boot u = true) :
    (commitStaged t e true r i u).cfg = (storeRecord (.boot (stagedRec i e u)) true u).cfg := by
  have form : commitStaged t e true r i u = if imageOk u i e = true then
      commitRecord t (stagedRec i e u) (slotHeader u i).root true u
      else refuseCommit t .invalidFirmwareImage (slotHeader u i).root
        (storeRecord (.boot (stagedRec i e u)) true u) := by
    unfold commitStaged stagedRec
    rw [none', staged, if_neg (by simp), if_neg (by simp)]
    dsimp only
    rw [can]
    by_cases good : imageOk u i e = true
    · rw [if_pos good, if_pos good, if_pos good]
    · rw [if_neg good, if_neg good, if_neg good] <;> rfl
  rw [form]
  split
  · exact (commitRecord_stored _ can).1
  · exact (refuseCommit_kept _).1

theorem updateGate_refreshed (run : running u = true) : ∃ v, execUpdateGateRefresh u = .next v ∧
    v.upd.blockers = blockers u ∧ v.upd.holder = u.upd.holder := by
  have noted (v : State) (b : Bool) : (evsSetIf b 34 v).upd = v.upd := (evsSetIf_same b 34 v).field .upd rfl
  refine ⟨_, congrArg Host.Outcome.next (if_neg (by simp [run])), ?_⟩
  dsimp only
  rw [noted]
  exact ⟨rfl, rfl⟩

end

end Sys2Proof.Machine

open Sys2Proof Sys2Proof.Machine

/-- Settles O18: the checks of download and commit first, then what the session and the record are. -/
theorem updateCommandsComplete : Obligations.UpdateCommandsComplete := by
  unfold Obligations.UpdateCommandsComplete
  refine ⟨fun t s u w r off d i start req calm fields clear holder slot live fresh hw erased => ?_,
    fun t s u x w r off d i start req calm fields clear none' inactive can hx hw erased => ?_,
    fun t s u r off d i stored start req calm fields clear holder slot live fresh new => ?_,
    fun t s u r off d st start req calm fields closed o stored => congrArg Host.Outcome.next
      ((runAdmin_start _ _ start (requester_allowed t r req)).trans (download_gated req calm fields closed)),
    fun t s u r i e start req calm clear inactive holder slot can => ?_,
    fun t s u r i e start req calm clear inactive holder slot can => ?_,
    fun t s u r i e start req calm clear inactive none' staged can => ?_,
    fun t s u n start may long => congrArg Host.Outcome.next
      ((runAdmin_start _ _ start may).trans (if_neg (by omega))), fun s run => updateGate_refreshed run⟩
  · refine ⟨_, congrArg Host.Outcome.next ((runAdmin_start _ _ start (requester_allowed t r req)).trans
      ((download_checked req calm fields clear).trans ((downloadInto_held holder slot live fresh).trans
        (programDownload_done hw erased)))), ?_⟩
    have nor (v : State) : (finish t .success v).nor = v.nor := (finish_same t _ v).wholeNor rfl
    have erasedCfg : w.cfg = u.cfg := by
      rw [hw]
      exact eraseSectors_slot_cfg _ u fun n mem => newSectors_slot fields mem
    have programmed (v : State) : (finish t .success (withUpd (downloaded i off d.length u) v)).cfg = v.cfg :=
      (finish_same t _ _).field .cfg rfl
    have media (v : State) : (finish t .success (withUpd (downloaded i off d.length u) v)).media = v.media :=
      (finish_same t _ _).field .media rfl
    have rangeCfg (a : Nat) (b : Bytes) (v : State) : (programRange a b v).cfg = v.cfg :=
      (programRange_same a b v).field .cfg rfl
    have rangeMedia (a : Nat) (b : Bytes) (v : State) : (programRange a b v).media = v.media :=
      (programRange_same a b v).field .media rfl
    have erasedMedia : w.media = u.media := by rw [hw]; exact (eraseSectors_same _ u).field .media rfl
    rw [finish_upd, nor, programmed, media, rangeCfg, rangeMedia]
    exact ⟨holder, slot, rfl, rfl, erasedCfg, erasedMedia⟩
  · subst hx
    refine ⟨_, congrArg Host.Outcome.next ((runAdmin_start _ _ start (requester_allowed t r req)).trans
      ((download_checked req calm fields clear).trans ((downloadInto_opens none' inactive can).trans
        (programDownload_done hw erased)))), ?_⟩
    rw [finish_upd]
    change (downloaded i off d.length (openUpd r i true u)).holder = _ ∧ (downloaded i off d.length _).slot = _ ∧
      (downloaded i off d.length _).written = _
    rw [downloaded, openUpd_upd]
    exact ⟨rfl, rfl, rfl⟩
  · obtain ⟨w, ended, written⟩ := programDownload_eraseFails (t := t) (u := u) (i := i) (off := off) (d := d) new
    refine ⟨_, w, congrArg Host.Outcome.next ((runAdmin_start _ _ start (requester_allowed t r req)).trans
      ((download_checked req calm fields clear).trans (downloadInto_held holder slot live fresh))), ended, ?_⟩
    rw [ended, finish_upd, written]
  · exact ⟨_, congrArg Host.Outcome.next ((runAdmin_start _ _ start (requester_allowed t r req)).trans
      (commitOn_checked _ req calm clear inactive)), commitSession_held false holder slot can⟩
  · exact ⟨_, congrArg Host.Outcome.next ((runAdmin_start _ _ start (requester_allowed t r req)).trans
      (commitOn_checked _ req calm clear inactive)), commitSession_held true holder slot can⟩
  · exact ⟨_, congrArg Host.Outcome.next ((runAdmin_start _ _ start (requester_allowed t r req)).trans
      (commitOn_checked _ req calm clear inactive)), commitStaged_free none' staged can⟩

end

section
/-! SUPPORT. States in which a port trains in Option Fault with a Flit partner, and in which the function table lists a
unit out of order (R95, R274, R276, R298). -/
namespace Sys2Proof.Machine

/-- A released device in Option Fault. -/
def faultyOptions : State := { State.reset with pwr.phase := .released, boot.phase := .optionFault }

/-- A partner that offers Flit mode. -/
def flitPartner : LinkPartner := { present := true, rate := 1, width := 1, flit := true }

theorem faultyOptions_trains : ∃ t, exec (.linkTraining .p0 flitPartner) faultyOptions = .next t ∧
    (portState t .p0).flit = true := ⟨_, rfl, rfl⟩

/-- A translation with both permissions joins the cache. -/
theorem atsCompletion_joins {s : State} {f : Func} (g : Nat) (tag : Tag) (run : running s = true)
    (ats : (fnOf s f).cfg.atsEn = true) (bme : (fnOf s f).cfg.bme = true) :
    execAtsTranslationCompletion f g true true false tag s =
      .next (atsAdd f { page := g, read := true, write := true, user := some tag } s) := by
  simp [execAtsTranslationCompletion, run, ats, bme]

/-- A function with ATS enabled and no translation. -/
def atsIdle : Fn := { Fn.reset with cfg.atsEn := true }

/-- A function with ATS enabled that holds 90 translations of page 0, none in use. -/
def atsFull : Fn :=
  let kept : AtsEntry := { page := 0, read := true, write := true, user := none }
  { Fn.reset with cfg.atsEn := true, cfg.bme := true, ats.entries := List.replicate 90 kept }

/-- A running device whose table lists the unit of PF0 after a higher one, among 45 functions with ATS enabled. -/
def unsortedFns : State :=
  { State.reset with
    pwr.phase := .released, boot.phase := .firmware,
    fns := (5, atsIdle) :: (1, atsFull) :: List.replicate 43 (5, atsIdle) }

/-- PF0's entry is written in front of the old one, so that 46 functions then share the cache. -/
theorem unsortedFns_trims : (fnOf (atsAdd ⟨.p0, 0⟩ { page := 1, read := true, write := true, user := some ⟨.mgt, 0, 0⟩ }
    unsortedFns) ⟨.p0, 0⟩).ats.entries.length = 90 := by decide +kernel

end Sys2Proof.Machine

open Sys2Proof Sys2Proof.Machine

/-- Refutes O19: a port that trains in Option Fault with a Flit partner keeps FLIT of the partner. -/
theorem not_linkCommandsComplete : ¬ Obligations.LinkCommandsComplete := by
  unfold Obligations.LinkCommandsComplete
  rintro ⟨trains, -⟩
  obtain ⟨t, ran, port, -⟩ := trains faultyOptions .p0 flitPartner 1 rfl (by decide) (by decide) rfl (by decide)
    (by decide) (by decide)
  obtain ⟨u, ran', flit⟩ := faultyOptions_trains
  cases ran.symm.trans ran'
  rw [port] at flit
  exact absurd flit (by decide)

/-- Refutes O22: written into a table that is out of order, a function's entry stands twice, and the smaller share
drops a
translation that the statement keeps. -/
theorem not_translationCommandsComplete : ¬ Obligations.TranslationCommandsComplete := by
  unfold Obligations.TranslationCommandsComplete
  rintro ⟨-, -, joins, -⟩
  obtain ⟨t, ran, entries⟩ := joins unsortedFns ⟨.p0, 0⟩ 1 true true false ⟨.mgt, 0, 0⟩ rfl rfl rfl rfl
    (by decide +kernel) (by decide +kernel) (by decide +kernel) (by decide +kernel)
  have joined : atsAdd ⟨.p0, 0⟩ { page := 1, read := true, write := true, user := some ⟨.mgt, 0, 0⟩ } unsortedFns = t :=
    Host.Outcome.next.inj ((atsCompletion_joins 1 _ rfl rfl rfl).symm.trans ran)
  rw [← joined] at entries
  exact absurd (unsortedFns_trims.symm.trans (congrArg List.length entries)) (by decide +kernel)

end

section
/-! SUPPORT. A function's interrupts and controller: what signalling and the fatal state leave of the function (R293 to
R297, R303, R333). -/
namespace Sys2Proof.Machine

/-- Between two states a function signalled: nothing of it but its pending bits and its INTx level differs. -/
def Signalled (f : Func) (s t : State) : Prop := ∃ l b, fnOf t f = { fnOf s f with pba := l, intx := b }

section
variable {f : Func} {s t u : State}

theorem Signalled.refl (f : Func) (s : State) : Signalled f s s := ⟨_, _, rfl⟩

theorem Signalled.trans (first : Signalled f s t) (second : Signalled f t u) : Signalled f s u := by
  obtain ⟨l, b, first⟩ := first
  obtain ⟨l', b', second⟩ := second
  exact ⟨l', b', by rw [second, first]⟩

theorem Signalled.of_fns (h : t.fns = s.fns) : Signalled f s t := ⟨_, _, by rw [fnOf_congr h]⟩

theorem Signalled.cfg (h : Signalled f s t) : (fnOf t f).cfg = (fnOf s f).cfg := by
  obtain ⟨l, b, h⟩ := h
  rw [h]

theorem Signalled.ctrl (h : Signalled f s t) : (fnOf t f).ctrl = (fnOf s f).ctrl := by
  obtain ⟨l, b, h⟩ := h
  rw [h]

theorem Signalled.fatal (h : Signalled f s t) : (fnOf t f).fatal = (fnOf s f).fatal := by
  obtain ⟨l, b, h⟩ := h
  rw [h]

theorem Signalled.unmasked (h : Signalled f s t) : (fnOf t f).unmasked = (fnOf s f).unmasked := by
  obtain ⟨l, b, h⟩ := h
  rw [h]

theorem Signalled.fold {α : Type} {g : State → α → State} (each : ∀ s a, Signalled f s (g s a)) (l : List α)
    (s : State) :
    Signalled f s (l.foldl g s) := by
  induction l generalizing s with
  | nil => exact .refl f s
  | cons a l ih => exact (each s a).trans (ih _)

theorem setPba_signalled (l : List Nat) (s : State) : Signalled f s (setFn f { fnOf s f with pba := l } s) :=
  ⟨l, _, fnOf_setFn f _ s⟩

end

section
variable (f : Func) (s : State)

theorem intxFollow_signalled : Signalled f s (intxFollow f s) := by
  have emitted (o : Output) (b : Bool) : Signalled f s (emit o (setFn f { fnOf s f with intx := b } s)) :=
    ⟨_, b, fnOf_setFn f _ s⟩
  unfold intxFollow
  dsimp only
  split
  · exact .refl f s
  split
  · exact emitted _ _
  · exact emitted _ _

theorem signalVector_signalled (v : Nat) : Signalled f s (signalVector f v s) := by
  unfold signalVector
  dsimp only
  split
  · exact .refl f s
  split
  · split
    · exact .refl f s
    split
    · exact setPba_signalled _ s
    · exact .of_fns rfl
  · split
    · exact setPba_signalled _ s
    · exact .of_fns rfl
  · exact .refl f s

theorem signalCq_signalled (q : Cq) : Signalled f s (signalCq f q s) := by
  unfold signalCq
  split
  · exact .refl f s
  split
  · split
    · exact .refl f s
    · exact signalVector_signalled f s _
  · exact (signalVector_signalled f s _).trans (intxFollow_signalled f _)

theorem releaseVector_signalled (v : Nat) : Signalled f s (releaseVector f v s) := by
  unfold releaseVector
  dsimp only
  split
  · exact (setPba_signalled _ s).trans (signalVector_signalled f _ v)
  · exact .refl f s

/-! ## The fatal state -/

theorem endCommands_fnOf :
    fnOf (endCommands f s) f = { fnOf s f with ctrl := (fnOf s f).ctrl.dropCommands } := by
  have untagged : fnOf (untagWt f s) f = fnOf s f := fnOf_congr ((untagWt_same f s).field .fns rfl) f
  unfold endCommands
  rw [fnOf_modCtrl, untagged]

theorem enterFatal_fnOf (code : Nat) : fnOf (enterFatal f code s) f =
    { fnOf s f with fatal := true, ctrl := { (fnOf s f).ctrl.dropCommands with cfs := true } } := by
  have told (c d e n m : Nat) (v : State) : fnOf (event c d e (hscMark n (evsSet m (ustChange (unitOf f) v)))) f =
      fnOf v f :=
    (fnOf_congr ((event_same c d e _).field .fns rfl) f).trans ((fnOf_congr ((hscMark_same n _).field .fns rfl) f).trans
      ((fnOf_congr ((evsSet_same m _).field .fns rfl) f).trans (fnOf_congr ((ustChange_same _ v).field .fns rfl) f)))
  unfold enterFatal
  dsimp only
  rw [told, fnOf_modFn, endCommands_fnOf]

end

end Sys2Proof.Machine
end

section
/-! SUPPORT. Configuration requests, Bus Master Enable, interrupt registers and PCIe errors: what each leaves (R280 to
R297, R302 to R310, R316). -/
namespace Sys2Proof.Machine

/-! ## Configuration requests -/

section
variable {s : State} {f : Func}

/-- The configuration spaces answer in P1 (R280). -/
theorem configRequest_built (r : CfgReq) (released : s.pwr.phase = .released) (firmware : s.boot.phase = .firmware)
    (built : s.boot.cfgBuilt = true) (up : (fnOf s f).resetting = false) :
    execConfigRequest f r s = .next (if !fnPresent s f then emit (.access .unsupported) s
      else match r with
        | .read fld => emit (.access (cfgRead s f fld)) s
        | .write fld v => emit (.access (.value 0)) (cfgWrite f fld v s)) := by
  have normal : ¬ (s.boot.phase = .recovery ∨ s.boot.phase = .optionFault) := by rw [firmware]; decide
  have ready : ¬ (!s.boot.cfgBuilt || (fnOf s f).resetting) = true := by simp [built, up]
  exact congrArg Host.Outcome.next
    ((if_neg (not_not_intro released)).trans ((if_neg normal).trans (if_neg ready)))

theorem configRequest_unbuilt (r : CfgReq) (released : s.pwr.phase = .released) (firmware : s.boot.phase = .firmware)
    (unbuilt : s.boot.cfgBuilt = false) : execConfigRequest f r s = .next (emit (.access .retry) s) := by
  unfold execConfigRequest
  rw [if_neg (not_not_intro released), if_neg (by rw [firmware]; decide), if_pos (by simp [unbuilt])]

/-- In Recovery and Option Fault function 0 is the recovery function (R282). -/
theorem configRequest_recovery (r : CfgReq) (released : s.pwr.phase = .released)
    (phase : s.boot.phase = .recovery ∨ s.boot.phase = .optionFault) :
    execConfigRequest ⟨.p0, 0⟩ r s = .next (match r with
      | .read fld => emit (.access (recoveryRead s fld)) s
      | .write fld v => emit (.access (.value 0)) (recoveryCfgWrite fld v s)) :=
  congrArg Host.Outcome.next ((if_neg (not_not_intro released)).trans ((if_pos phase).trans (if_pos rfl)))

/-- The mask of a register's lower half. -/
theorem lowMask_getLsbD : ∀ i : Fin 64, (0xFFFFFFFF : W64).getLsbD i = decide (i.val < 32) := by decide

/-- The upper half of BAR0 replaced (R282). -/
theorem bar_upper (v : W32) (b : W64) :
    (b &&& (0xFFFFFFFF : W64)) ||| ((v.setWidth 64 : W64) <<< 32) = v ++ (b.setWidth 32 : W32) := by
  apply BitVec.eq_of_getLsbD_eq
  intro i hi
  have mask := lowMask_getLsbD ⟨i, hi⟩
  rw [BitVec.getLsbD_or, BitVec.getLsbD_and, mask, BitVec.getLsbD_append]
  by_cases low : i < 32
  · simp [low]
  · simp [low, hi]

/-- Bus Master Enable cleared: with the controller enabled, the fatal state and the log of the requester (R302, R312).
-/
theorem busMasterClear_fatal (bme : (fnOf s f).cfg.bme = true) (en : (fnOf s f).ctrl.en = true)
    (alive : (fnOf s f).fatal = false) : (fnOf (busMasterClear f s) f).cfg.bme = false ∧
    (fnOf (busMasterClear f s) f).fatal = true ∧ (fnOf (busMasterClear f s) f).ctrl.cfs = true ∧
    (fnOf (busMasterClear f s) f).ctrl.inflight = [] ∧
    (busMasterClear f s).bmlRid = BitVec.ofNat 8 (routingId (bifurc s) f) ∧
    (busMasterClear f s).bmlPort = decide (portOf (bifurc s) f = .p1) ∧
    (busMasterClear f s).bmlCount = satAdd s.bmlCount 1 := by
  have form : busMasterClear f s = enterFatal f 0x87 { intxFollow f (modFn f (fun x => { x with cfg.bme := false }) s)
      with
      bmlRid := BitVec.ofNat 8 (routingId (bifurc s) f), bmlPort := decide (portOf (bifurc s) f = .p1),
      bmlCount := satAdd s.bmlCount 1 } := by
    have quiet (v : State) : bifurc (intxFollow f v) = bifurc v ∧ (intxFollow f v).bmlCount = v.bmlCount :=
      ⟨congrArg (fun p : Pwr => p.straps.bifurc) ((intxFollow_same f v).field .pwr rfl),
        (intxFollow_same f v).field .bmlCount rfl⟩
    unfold busMasterClear
    dsimp only
    rw [if_neg (by simp [bme]), if_pos (by simp [en, alive]), (quiet _).1, (quiet _).2]
    rfl
  have cleared : (fnOf (intxFollow f (modFn f (fun x => { x with cfg.bme := false }) s)) f).cfg.bme = false := by
    rw [(intxFollow_signalled f _).cfg, fnOf_modFn]
  have logged (c : Nat) (v : State) : (enterFatal f c v).bmlRid = v.bmlRid ∧ (enterFatal f c v).bmlPort = v.bmlPort ∧
      (enterFatal f c v).bmlCount = v.bmlCount :=
    ⟨(enterFatal_same f c v).field .bmlRid rfl, (enterFatal_same f c v).field .bmlPort rfl,
      (enterFatal_same f c v).field .bmlCount rfl⟩
  have told (v : State) (a : BitVec 8) (b : Bool) (c : W16) :
      fnOf { v with bmlRid := a, bmlPort := b, bmlCount := c } f = fnOf v f := fnOf_congr rfl f
  rw [form, enterFatal_fnOf, told, (logged _ _).1, (logged _ _).2.1, (logged _ _).2.2]
  exact ⟨cleared, rfl, rfl, rfl, rfl, rfl, rfl⟩

theorem busMasterClear_disabled (bme : (fnOf s f).cfg.bme = true) (off : (fnOf s f).ctrl.en = false) :
    busMasterClear f s = intxFollow f (modFn f (fun x => { x with cfg.bme := false }) s) := by
  unfold busMasterClear
  dsimp only
  rw [if_neg (by simp [bme]), if_neg (by simp [off])]

end

end Sys2Proof.Machine

open Sys2Proof Sys2Proof.Machine

/-- Settles O20, request by request. -/
theorem configurationRequestsComplete : Obligations.ConfigurationRequestsComplete := by
  unfold Obligations.ConfigurationRequestsComplete
  refine ⟨fun s f fld released firmware built up here => ?_,
    fun s f r released firmware unbuilt => configRequest_unbuilt r released firmware unbuilt,
    fun s f r released firmware built up absent => ?_,
    fun s fld released phase => configRequest_recovery (.read fld) released phase,
    fun s v released phase => ⟨_, configRequest_recovery (.write (.bar 1) v) released phase, bar_upper v _, ?_⟩,
    fun s f v released firmware built pf up here => ?_, fun s f run here bme en alive => ?_,
    fun s f run here bme off => ?_⟩
  · exact (configRequest_built (.read fld) released firmware built up).trans
      (congrArg Host.Outcome.next (if_neg (by simp [here])))
  · exact (configRequest_built r released firmware built up).trans
      (congrArg Host.Outcome.next (if_pos (by simp [absent])))
  · exact .call (emit_same _ _) (by decide) (.put (.refl _ _) rfl)
  · refine ⟨_, (configRequest_built (.write .memorySpace v) released firmware built up).trans
      (congrArg Host.Outcome.next (if_neg (by simp [here]))), ?_, ?_⟩
    · have written : cfgWrite f .memorySpace v s = modFn f (fun x => { x with cfg.memSpace := v.getLsbD 0 }) s := by
        simp [cfgWrite, pf]
      have told (v : State) : fnOf (emit (.access (.value 0)) v) f = fnOf v f := fnOf_congr rfl f
      simp only [written, told, fnOf_modFn]
    · have written : cfgWrite f .memorySpace v s = modFn f (fun x => { x with cfg.memSpace := v.getLsbD 0 }) s := by
        simp [cfgWrite, pf]
      simp only [written]
      exact .call (emit_same _ _) (by decide) (.widen (by decide) (modFn_same _ _ _))
  · obtain ⟨cleared, fatal, cfs, idle, rid, port, count⟩ := busMasterClear_fatal bme en alive
    exact ⟨_, congrArg Host.Outcome.next (if_pos (by simp [run, here])), cleared, fatal, cfs, idle, rid, port, count,
      (busMasterClear_same f s).field .media rfl⟩
  · refine ⟨_, (congrArg Host.Outcome.next (if_pos (by simp [run, here]))).trans
      (congrArg Host.Outcome.next (busMasterClear_disabled bme off)), ?_, ?_, ?_⟩
    · rw [(intxFollow_signalled f _).cfg, fnOf_modFn]
    · exact (intxFollow_same f _).field .bmlCount rfl
    · exact .call (intxFollow_same f _) (by decide) (.widen (by decide) (modFn_same _ _ _))

end

section
/-! SUPPORT. Interrupt modes, vectors, masks and coalescing: what each register's change leaves (R293 to R297, R316). -/
namespace Sys2Proof.Machine

section
variable {f : Func} {s : State}

/-- A change of the interrupt inputs stores them; what is signalled leaves the configuration space. -/
theorem modeChange_cfg (msix msi dis : Bool) : (fnOf (modeChange f msix msi dis s) f).cfg =
    { (fnOf s f).cfg with msixEn := msix, msiEn := msi, intDis := dis } := by
  have stored : (fnOf (modFn f (fun x => { x with cfg.msixEn := msix, cfg.msiEn := msi, cfg.intDis := dis }) s) f).cfg =
      { (fnOf s f).cfg with msixEn := msix, msiEn := msi, intDis := dis } := by rw [fnOf_modFn]
  have cleared (v : State) : Signalled f v (modFn f (fun x => { x with pba := [] }) v) := setPba_signalled [] v
  have signalled (l : List Cq) (v : State) :
      Signalled f v (l.foldl (fun s q => if q.ien && q.unconsumed then signalCq f q s else s) v) := by
    refine Signalled.fold (fun v q => ?_) l v
    split
    · exact signalCq_signalled f v q
    · exact .refl f v
  unfold modeChange
  dsimp only
  split
  · exact stored
  · rw [(signalled _ _).cfg, (intxFollow_signalled f _).cfg, (cleared _).cfg]
    exact stored

theorem unmaskFunction_cfg : (fnOf (unmaskFunction f s) f).cfg.msixMask = false := by
  have released (l : List Nat) (v : State) : Signalled f v (l.foldl (fun s v => releaseVector f v s) v) :=
    .fold (fun v n => releaseVector_signalled f v n) l v
  unfold unmaskFunction
  rw [(released _ _).cfg, fnOf_modFn]

/-- A vector's mask is cleared. -/
def unmaskedVector (f : Func) (v : Nat) (s : State) : State :=
    modFn f (fun x => { x with unmasked := insertNew v x.unmasked }) s

theorem unmaskedVector_fnOf (v : Nat) :
    fnOf (unmaskedVector f v s) f = { fnOf s f with unmasked := insertNew v (fnOf s f).unmasked } := fnOf_modFn f _ s

theorem vectorUnmask_one {v : Nat} (run : running s = true) (here : fnPresent s f = true) (small : v < msixSize f) :
    execMsixVectorUnmask f (some v) s = .next (releaseVector f v (unmaskedVector f v s)) :=
  congrArg Host.Outcome.next ((if_neg (by simp [run, here])).trans (if_neg (by omega)))

theorem vectorUnmask_all (run : running s = true) (here : fnPresent s f = true) :
    execMsixVectorUnmask f none s = .next (unmaskFunction f s) :=
  congrArg Host.Outcome.next (if_neg (by simp [run, here]))

theorem releaseVector_idle {v : Nat} (idle : v ∉ (fnOf s f).pba) : releaseVector f v s = s := by
  simp [releaseVector, idle]

/-- A pending vector that is unmasked sends its message. -/
theorem releaseVector_pending {v : Nat} (pending : v ∈ (fnOf s f).pba) (unmasked : v ∈ (fnOf s f).unmasked)
    (msix : (fnOf s f).cfg.msixEn = true) (mask : (fnOf s f).cfg.msixMask = false) (bme : (fnOf s f).cfg.bme = true)
    (few : v < viCount s f) : releaseVector f v s = emit (.msix (unitOf f) v)
      (setFn f { fnOf s f with pba := (fnOf s f).pba.filter fun u => !decide (u = v) } s) := by
  have mode (b : Bool) (x y : Bool) : intModeOf b true x y = .msix := by cases b <;> rfl
  have count (l : List Nat) : viCount (setFn f { fnOf s f with pba := l } s) f = viCount s f := by
    unfold viCount
    rw [fnOf_setFn]
  unfold releaseVector
  dsimp only
  rw [if_pos (by simp [pending, mask, unmasked])]
  unfold signalVector
  dsimp only
  rw [fnOf_setFn, if_neg (by simp [bme])]
  unfold intMode
  dsimp only
  rw [fnOf_setFn]
  dsimp only
  rw [msix, mode]
  dsimp only
  rw [count, if_neg (by omega), if_neg (by simp [mask, unmasked])]

theorem writeIntMask_intms (set : Bool) (v : W32) : (fnOf (writeIntMask f set v s) f).ctrl.intms =
    if set then (fnOf s f).ctrl.intms ||| v else (fnOf s f).ctrl.intms &&& ~~~ v := by
  have signalled (l : List Cq) (old : W32) (v : State) : Signalled f v (l.foldl (fun s q =>
      if q.ien && q.unconsumed && old.getLsbD (min q.iv 31) then signalCq f q s else s) v) := by
    refine Signalled.fold (fun v q => ?_) l v
    split
    · exact signalCq_signalled f v q
    · exact .refl f v
  unfold writeIntMask
  dsimp only
  split
  · rw [(signalled _ _ _).ctrl, fnOf_modCtrl]
  · rw [(intxFollow_signalled f _).ctrl, fnOf_modCtrl]

theorem fnWrite_live (k : State → State) (ok : mmioOk s f = true) (live : (fnOf s f).frozen = false) :
    fnWrite f k s = k s := by
  simp [fnWrite, ok, live]

/-! ## Coalescing -/

/-- One completion queue signals what it held back. -/
def released (f : Func) (s : State) (q : Cq) : State :=
  if q.coalesced = 0 then s else signalCq f q (setCq f { q with coalesced := 0 } s)

theorem released_cqs (q : Cq) : (fnOf (released f s q) f).ctrl.cqs = if q.coalesced = 0 then (fnOf s f).ctrl.cqs
    else mapWhere (fun x => decide (x.qid = q.qid)) (fun _ => { q with coalesced := 0 }) (fnOf s f).ctrl.cqs := by
  unfold released
  split
  · rfl
  · rw [(signalCq_signalled f _ q).ctrl, setCq, fnOf_modCtrl]

/-- After the queues of `l` signalled, a queue that still holds something back is none of them. -/
theorem released_all (l : List Cq) (s : State)
    (others : ∀ x ∈ (fnOf s f).ctrl.cqs, x.coalesced = 0 ∨ x ∈ l) :
    ∀ x ∈ (fnOf (l.foldl (released f) s) f).ctrl.cqs, x.coalesced = 0 := by
  induction l generalizing s with
  | nil => exact fun x mem => (others x mem).resolve_right (List.not_mem_nil)
  | cons q l ih =>
    refine ih (released f s q) fun x mem => ?_
    rw [released_cqs] at mem
    split at mem
    · next none' =>
      rcases others x mem with zero | head
      · exact .inl zero
      · rcases List.mem_cons.mp head with rfl | tail
        · exact .inl none'
        · exact .inr tail
    · obtain ⟨y, old, rfl⟩ := List.mem_map.mp mem
      by_cases hit : y.qid = q.qid
      · exact .inl (by simp [hit])
      · rcases others y old with zero | head
        · exact .inl (by simpa [hit] using zero)
        · rcases List.mem_cons.mp head with rfl | tail
          · exact absurd rfl hit
          · exact .inr (by simpa [hit] using tail)

end

end Sys2Proof.Machine

open Sys2Proof Sys2Proof.Machine

/-- Settles O21, register by register. -/
theorem interruptCommandsComplete : Obligations.InterruptCommandsComplete := by
  unfold Obligations.InterruptCommandsComplete
  refine ⟨fun s f i run here => ?_, fun s f v run here small few pending msix mask bme => ?_,
    fun s f v run here small idle => ?_, fun s f run here => ?_, fun s f v ok live => ?_, fun s f v ok live => ?_,
    fun s f run => ?_⟩
  · refine ⟨_, congrArg Host.Outcome.next (if_pos (by simp [run, here])), ?_⟩
    rw [modeChange_cfg]
    exact ⟨rfl, rfl, rfl, modeChange_same f _ _ _ s⟩
  · have count : viCount (unmaskedVector f v s) f = viCount s f := by
      unfold viCount
      rw [unmaskedVector_fnOf]
    have told (o : Output) (x : Fn) (w : State) : fnOf (emit o (setFn f x w)) f = x := fnOf_setFn f x w
    have out (o : Output) (x : Fn) : (emit o (setFn f x (unmaskedVector f v s))).out = s.out ++ [o] := rfl
    have unmasked := unmaskedVector_fnOf (s := s) (f := f) v
    have sent := releaseVector_pending (f := f) (s := unmaskedVector f v s) (v := v) (by rw [unmasked]; exact pending)
      (by rw [unmasked]; exact mem_insertNew v _) (by rw [unmasked]; exact msix) (by rw [unmasked]; exact mask)
      (by rw [unmasked]; exact bme) (by rw [count]; exact few)
    refine ⟨_, (vectorUnmask_one run here small).trans (congrArg Host.Outcome.next sent), ?_, ?_, out _ _, ?_⟩
    · rw [told, unmasked]
      exact mem_insertNew v _
    · rw [told]
      simp
    · exact .call (emit_same _ _) (by decide) (.call (setFn_same _ _ _) (by decide)
        (.widen (by decide) (modFn_same _ _ _)))
  · have unmasked := unmaskedVector_fnOf (s := s) (f := f) v
    refine ⟨_, (vectorUnmask_one run here small).trans
      (congrArg Host.Outcome.next (releaseVector_idle (by rw [unmasked]; exact idle))), ?_, modFn_same _ _ _⟩
    rw [unmasked]
    exact mem_insertNew v _
  · exact ⟨_, vectorUnmask_all run here, unmaskFunction_cfg, unmaskFunction_same f s⟩
  · exact ⟨_, congrArg Host.Outcome.next (fnWrite_live _ ok live), writeIntMask_intms true v, writeIntMask_same f _ v s⟩
  · exact ⟨_, congrArg Host.Outcome.next (fnWrite_live _ ok live), writeIntMask_intms false v,
      writeIntMask_same f _ v s⟩
  · have frame (l : List Cq) (u : State) : Same [.fns, .out] u (l.foldl (released f) u) :=
      .fold (fun u q => .ite (.refl _ u) (.call (signalCq_same _ _ _) (by decide)
        (.widen (by decide) (setCq_same _ _ _)))) l
        (.refl _ u)
    exact ⟨_, congrArg Host.Outcome.next (if_neg (by simp [run])), released_all _ s fun x mem => .inr mem, frame _ s⟩

end

section
/-! SUPPORT. PCIe errors: what a failed transfer, a DOE object and a failed IDE check leave (R279, R287, R305 to
R310). -/
namespace Sys2Proof.Machine

section
variable {f : Func} {s : State}

theorem self_mem_insertNew {α : Type} [DecidableEq α] (x : α) (l : List α) : x ∈ insertNew x l := by
  unfold insertNew
  split
  · assumption
  · exact List.mem_append_right l List.mem_cons_self

theorem aerLog_fnOf (e : AerErr) : fnOf (aerLog f e s) f = { fnOf s f with aer := insertNew e (fnOf s f).aer } :=
  fnOf_modFn f _ s

theorem aerLog_inflight (e : AerErr) (q : Nat) (c : W16) : inflightOf (aerLog f e s) ⟨.fn f, q, c⟩ =
    inflightOf s ⟨.fn f, q, c⟩ := by
  unfold inflightOf
  dsimp only
  rw [aerLog_fnOf]

theorem markErr_inflight (n q : Nat) (c : W16) : inflightOf (markErr f n s) ⟨.fn f, q, c⟩ = inflightOf s ⟨.fn f, q,
    c⟩ := by
  unfold inflightOf markErr
  dsimp only
  rw [fnOf_modFn]

/-- A fetched command's transfer fails: it ends (R306, R310). -/
theorem transferFails_fetched {t : Tag} {e : Inflight} (found : inflightOf s t = some e)
    (fetched : e.phase = .fetched) :
    transferFails t s = finish t .dataTransferError s := by
  simp [transferFails, found, fetched]

/-! ## The DOE mailbox of port 0 -/

/-- A status bit of port 0's mailbox is written: no link parameter changes, so no event source is set. -/
theorem setPort0_mailbox (b c : Bool) :
    setPort .p0 { s.port0 with doeReady := b, doeError := c } s =
      { s with port0 := { s.port0 with doeReady := b, doeError := c } } := by
  simp [setPort, portState, evsSetIf]

/-- Port 0 with an object taken. -/
def doeTaken (s : State) : State :=
  emit (.doe .p0 true) { s with port0.doeReady := true }

theorem doeTaken_same : Same [.port0, .out] s (doeTaken s) :=
  .call (emit_same _ _) (by decide) (.put (.refl _ _) rfl)

/-- Port 0 with an object discarded as an error. -/
def doeFailed (s : State) : State :=
  emit (.doe .p0 false) { s with port0.doeError := true }

theorem doeFailed_same : Same [.port0, .out] s (doeFailed s) :=
  .call (emit_same _ _) (by decide) (.put (.refl _ _) rfl)

section
variable {pr : DoeProtocol} {n : Nat} (h : Bytes) (run : running s = true) (built : s.boot.cfgBuilt = true)
include run built

theorem doeObject_error (size : n = 0 ∨ 8192 < n) : execDoeObject .p0 pr n s h = .next (doeFailed s) := by
  have ready : ¬ (!running s || !s.boot.cfgBuilt || (decide (Pf.p0 = .p1) && !bifurc s)) = true := by simp [run, built]
  refine congrArg Host.Outcome.next ((if_neg ready).trans ((if_pos size).trans ?_))
  exact congrArg (emit _) (setPort0_mailbox s.port0.doeReady true)

variable (pos : 0 < n) (fits : n ≤ 8192)
include pos fits

theorem doeObject_refused : execDoeObject .p0 .unsupported n s h = .next (emit (.doe .p0 false) s) := by
  have ready : ¬ (!running s || !s.boot.cfgBuilt || (decide (Pf.p0 = .p1) && !bifurc s)) = true := by simp [run, built]
  exact congrArg Host.Outcome.next ((if_neg ready).trans ((if_neg (by omega)).trans (if_pos rfl)))

/-- An object of a protocol that the mailbox has is taken; Discovery and an unlisted SPDM request are answered at
once. -/
theorem doeObject_taken (known : pr ≠ .unsupported) : execDoeObject .p0 pr n s h = .next
    (if pr = .discovery then emit (.doeDiscovery .p0 (discoveryObject (h.getD 0 0).toNat)) (doeTaken s)
      else if h.length < 2 ∨ spdmListed (h.getD 1 0).toNat = true then doeTaken s
      else spdmUnsupported (.doe .p0) (h.getD 1 0).toNat (doeTaken s)) := by
  have ready : ¬ (!running s || !s.boot.cfgBuilt || (decide (Pf.p0 = .p1) && !bifurc s)) = true := by simp [run, built]
  have taken : emit (.doe .p0 true) (setPort .p0 { portState s .p0 with doeReady := true } s) = doeTaken s :=
    congrArg (emit _) (setPort0_mailbox true s.port0.doeError)
  refine congrArg Host.Outcome.next ((if_neg ready).trans ((if_neg (by omega)).trans ((if_neg known).trans ?_)))
  dsimp only
  rw [taken]
  by_cases discovery : pr = .discovery
  · rw [if_pos discovery, if_pos discovery, if_pos (.inl discovery)]
  · rw [if_neg discovery, if_neg discovery]
    by_cases listed : h.length < 2 ∨ spdmListed (h.getD 1 0).toNat = true
    · rw [if_pos listed, if_pos (.inr listed)]
    · rw [if_neg listed, if_neg (by simp only [discovery, false_or]; exact listed)]

end

/-! ## IDE -/

theorem ideFail_streams (p : Pf) (n : Nat) :
    Sparse.read IdeState.insecure (ideOf (ideFail p n s) p).streams n = .insecure := by
  rw [ideFail, ideOf_setIde]
  dsimp only
  rw [Sparse.read_put, if_pos rfl]

end

end Sys2Proof.Machine

open Sys2Proof Sys2Proof.Machine

/-- Settles O23, error by error. -/
theorem pcieErrorsComplete : Obligations.PcieErrorsComplete := by
  unfold Obligations.PcieErrorsComplete
  refine ⟨fun s f q c e run found fetched => ?_, fun s f run => ?_, fun s f q c e k run found fetched => ?_,
    fun s pr n h run built pos fits known plain listed => ?_, fun s n h run built pos fits => ?_,
    fun s pr n h run built pos fits known plain long unlisted => ?_, fun s n h run built pos fits => ?_,
    fun s pr n h run built size => ?_, fun s p n b run secure => ?_⟩
  · refine congrArg Host.Outcome.next ((if_pos run).trans (transferFails_fetched ?_ fetched))
    rw [aerLog_inflight]
    exact found
  · refine ⟨_, congrArg Host.Outcome.next (if_pos run), ?_⟩
    rw [aerLog_fnOf]
    exact ⟨(aerLog_same f _ _).field .unexpected rfl, self_mem_insertNew _ _, rfl,
      .call (aerLog_same _ _ _) (by decide) (.put (.refl _ _) rfl)⟩
  · refine congrArg Host.Outcome.next ((if_pos run).trans (transferFails_fetched ?_ fetched))
    rw [aerLog_inflight, markErr_inflight]
    exact found
  · exact ⟨_, (doeObject_taken h run built pos fits known).trans
      (congrArg Host.Outcome.next ((if_neg plain).trans (if_pos listed))), rfl, rfl, doeTaken_same⟩
  · exact ⟨_, (doeObject_taken h run built pos fits (by decide)).trans (congrArg Host.Outcome.next (if_pos rfl)), rfl,
      by simp [doeTaken, emit], .call (emit_same _ _) (by decide) doeTaken_same⟩
  · refine ⟨_, (doeObject_taken h run built pos fits known).trans (congrArg Host.Outcome.next
      ((if_neg plain).trans (if_neg ?_))), ?_, .call (spdmUnsupported_same _ _ _) (by decide) doeTaken_same⟩
    · rintro (short | listed)
      · omega
      · exact absurd (unlisted.symm.trans listed) (by decide)
    · simp [spdmUnsupported, spdmError, spdmEmit, doeTaken, emit]
  · exact ⟨_, doeObject_refused h run built pos fits, rfl, emit_same _ _⟩
  · exact ⟨_, doeObject_error h run built size, rfl, rfl, doeFailed_same⟩
  · have trust (a c d : Nat) (f : Func) (v : State) : (event a c d (aerLog f .ideCheckFailed v)).trust = v.trust :=
      ((event_same a c d _).field .trust rfl).trans ((aerLog_same f _ v).field .trust rfl)
    have fns (a c d : Nat) (v : State) : (event a c d v).fns = v.fns := (event_same a c d v).field .fns rfl
    refine ⟨_, congrArg Host.Outcome.next (if_pos (by simp [run, secure])), ?_, ?_⟩
    · rw [ideOf_congr p _ _ (trust _ _ _ _ _), ideFail_streams]
    · rw [fnOf_congr (fns _ _ _ _), aerLog_fnOf]
      exact self_mem_insertNew _ _

end

section
/-! SUPPORT. What a completion leaves of its function: commands in flight leave it, completion queues fill, everything
else
stays (R302, R316, R323, R328). -/
namespace Sys2Proof.Machine

/-- A completion queue without what posting changes. -/
def Cq.shape (q : Cq) : Cq := { q with tail := 0, waiting := [], coalesced := 0 }

/-- The completion queue of a list with an identifier. -/
def cqIn (l : List Cq) (n : Nat) : Option Cq := l.find? fun q => decide (q.qid = n)

/-- Two lists of completion queues show the same queues up to what posting changes. -/
def SameCqs (l k : List Cq) : Prop := ∀ n, (cqIn k n).map Cq.shape = (cqIn l n).map Cq.shape

/-- Between two states a function was given completions. -/
def Posted (f : Func) (s t : State) : Prop := ∃ p b i l, fnOf t f =
  { fnOf s f with pba := p, intx := b, ctrl := { (fnOf s f).ctrl with inflight := i, cqs := l } } ∧
  SameCqs (fnOf s f).ctrl.cqs l

theorem Cq.qid_of_shape {q p : Cq} (h : q.shape = p.shape) : q.qid = p.qid :=
  show q.shape.qid = p.shape.qid from congrArg Cq.qid h

theorem SameCqs.refl (l : List Cq) : SameCqs l l := fun _ => rfl

theorem SameCqs.trans {l k j : List Cq} (first : SameCqs l k) (second : SameCqs k j) : SameCqs l j := fun n =>
  (second n).trans (first n)

theorem cqIn_qid {l : List Cq} {n : Nat} {q : Cq} (found : cqIn l n = some q) : q.qid = n := by
  simpa [cqIn] using List.find?_some found

/-- What a queue looks up as after the queues of an identifier were changed. -/
theorem cqIn_mapWhere (l : List Cq) (m n : Nat) (g : Cq → Cq) (kept : ∀ q, q.qid = m → (g q).qid = m) :
    cqIn (mapWhere (fun x => decide (x.qid = m)) g l) n = (cqIn l n).map fun q => if q.qid = m then g q else q := by
  have same : ((fun q : Cq => decide (q.qid = n)) ∘ fun x => if decide (x.qid = m) = true then g x else x) =
      fun q => decide (q.qid = n) := by
    funext q
    by_cases hit : q.qid = m
    · simp [hit, kept q hit]
    · simp [hit]
  unfold cqIn mapWhere
  rw [List.find?_map, same]
  simp only [decide_eq_true_eq]

/-- Changes of the queues of an identifier that keep the shape of the first of them keep what all look like. -/
theorem SameCqs.changed {l : List Cq} {m : Nat} {g : Cq → Cq} (kept : ∀ q, q.qid = m → (g q).qid = m)
    (shape : ∀ q, cqIn l m = some q →
      (g q).shape = q.shape) : SameCqs l (mapWhere (fun x => decide (x.qid = m)) g l) := by
  intro n
  rw [cqIn_mapWhere l m n g kept]
  cases found : cqIn l n with
  | none => rfl
  | some q =>
    have id := cqIn_qid found
    by_cases same : q.qid = m
    · rw [id] at same
      subst same
      simp [id, shape q found]
    · simp [same]

namespace Posted

variable {f : Func} {s t u : State}

theorem refl (f : Func) (s : State) : Posted f s s := ⟨_, _, _, _, rfl, .refl _⟩

theorem trans (first : Posted f s t) (second : Posted f t u) : Posted f s u := by
  obtain ⟨p, b, i, l, first, cqs⟩ := first
  obtain ⟨p', b', i', l', second, cqs'⟩ := second
  rw [first] at second cqs'
  exact ⟨p', b', i', l', second, cqs.trans cqs'⟩

/-- An operation after others, the last one first. -/
theorem after (k : Posted f t u) (h : Posted f s t) : Posted f s u := h.trans k

theorem of_fns (h : t.fns = s.fns) : Posted f s t := ⟨_, _, _, _, by rw [fnOf_congr h], .refl _⟩

theorem of_same {l : List Field} (h : Same l s t) (k : (!l.contains .fns) = true) : Posted f s t :=
    .of_fns (h.field .fns k)

theorem of_signalled (h : Signalled f s t) : Posted f s t := by
  obtain ⟨p, b, h⟩ := h
  exact ⟨p, b, _, _, h, .refl _⟩

theorem ite {c : Prop} [Decidable c] (h : Posted f s t) (k : Posted f s u) : Posted f s (if c then t else u) := by
  split <;> assumption

theorem setInflight (g : List Inflight → List Inflight) (s : State) :
    Posted f s (modCtrl f (fun c => { c with inflight := g c.inflight }) s) :=
  ⟨_, _, _, _, fnOf_modCtrl f _ s, .refl _⟩

/-- The completion queues of an identifier are changed. -/
theorem setCqs {m : Nat} {g : Cq → Cq} (kept : ∀ q, q.qid = m → (g q).qid = m)
    (shape : ∀ q, cqOf s f m = some q → (g q).shape = q.shape) :
    Posted f s (modCtrl f (fun c => { c with cqs := mapWhere (fun x => decide (x.qid = m)) g c.cqs }) s) :=
  ⟨_, _, _, _, fnOf_modCtrl f _ s, .changed kept shape⟩

/-! What posting leaves -/

theorem cfg (h : Posted f s t) : (fnOf t f).cfg = (fnOf s f).cfg := by
  obtain ⟨p, b, i, l, h, -⟩ := h
  rw [h]

theorem sqs (h : Posted f s t) : (fnOf t f).ctrl.sqs = (fnOf s f).ctrl.sqs := by
  obtain ⟨p, b, i, l, h, -⟩ := h
  rw [h]

theorem shadow (h : Posted f s t) : (fnOf t f).ctrl.shadow = (fnOf s f).ctrl.shadow := by
  obtain ⟨p, b, i, l, h, -⟩ := h
  rw [h]

theorem feats (h : Posted f s t) : (fnOf t f).ctrl.feats = (fnOf s f).ctrl.feats := by
  obtain ⟨p, b, i, l, h, -⟩ := h
  rw [h]

theorem events (h : Posted f s t) : (fnOf t f).ctrl.events = (fnOf s f).ctrl.events := by
  obtain ⟨p, b, i, l, h, -⟩ := h
  rw [h]

theorem sqOf (h : Posted f s t) (n : Nat) : sqOf t f n = sqOf s f n := by
  unfold Sys2Proof.Machine.sqOf
  rw [h.sqs]

/-- A completion queue is found as before up to what posting changes. -/
theorem cqOf (h : Posted f s t) (n : Nat) : (cqOf t f n).map Cq.shape = (cqOf s f n).map Cq.shape := by
  obtain ⟨p, b, i, l, h, same⟩ := h
  have found : Sys2Proof.Machine.cqOf t f n = cqIn l n := by
    unfold Sys2Proof.Machine.cqOf cqIn
    rw [h]
  rw [found]
  exact same n

theorem cqOf_some (h : Posted f s t) {n : Nat} {q : Cq} (found : Sys2Proof.Machine.cqOf s f n = some q) :
    ∃ q', Sys2Proof.Machine.cqOf t f n = some q' ∧ q'.shape = q.shape := by
  have same := h.cqOf n
  rw [found] at same
  obtain ⟨q', found', shape⟩ := Option.map_eq_some_iff.mp same
  exact ⟨q', found', shape⟩

theorem cqOf_none (h : Posted f s t) {n : Nat} (absent : Sys2Proof.Machine.cqOf s f n = none) :
    Sys2Proof.Machine.cqOf t f n = none := by
  have same := h.cqOf n
  rw [absent] at same
  exact Option.map_eq_none_iff.mp same

end Posted

section
variable {f : Func} {t : Tag} (s : State)

theorem retire_posted (own : t.src = .fn f) : Posted f s (retire t s) := by
  unfold retire
  rw [own]
  exact .setInflight _ s

theorem postCqe_posted {m : Nat} {q : Cq} (e : Cqe) {p : Cq} (found : cqOf s f m = some p)
    (shape : q.shape = p.shape) : Posted f s (postCqe f q e s) := by
  have id : q.qid = m := (Cq.qid_of_shape shape).trans (cqIn_qid found)
  have stored (r : Cq) (like : r.shape = q.shape) : Posted f s (modCtrl f (fun c => { c with
      cqs := mapWhere (fun x => decide (x.qid = q.qid)) (fun _ => r) c.cqs }) s) := by
    rw [id]
    refine .setCqs (fun _ _ => (Cq.qid_of_shape like).trans id) fun p' found' => ?_
    rw [found] at found'
    cases found'
    exact like.trans shape
  have posted (r : Cq) (like : r.shape = q.shape) (o : Output) : Posted f s (emit o (modCtrl f (fun c => { c with
      cqs := mapWhere (fun x => decide (x.qid = q.qid)) (fun _ => r) c.cqs }) s)) := .after (.of_fns rfl)
        (stored r like)
  have signalled (r : Cq) (v : State) : Posted f v (signalCq f r v) := .of_signalled (signalCq_signalled f v r)
  unfold postCqe
  dsimp only
  split
  · refine posted _ ?_ _
    rfl
  · refine Posted.trans (posted _ ?_ _) (signalled _ _)
    rfl

theorem addWaiting_posted (n : Nat) (e : Cqe) : Posted f s (modCtrl f (Ctrl.addWaiting n e) s) :=
  .setCqs (fun _ id => id) fun _ _ => rfl

theorem deliverOne_posted (own : t.src = .fn f) (st : Status) (dw0 : W32) : Posted f s (deliverOne f t st dw0 s) := by
  have traced (e : Inflight) : (kscCommand f e 1 st s).fns = s.fns := (kscCommand_same f e 1 st s).field .fns rfl
  have retired (e : Inflight) : Posted f s (retire t (kscCommand f e 1 st s)) :=
    .after (retire_posted _ own) (.of_fns (traced e))
  unfold deliverOne
  split
  · exact .refl f s
  · refine .ite (retired _) ?_
    split
    · exact retired _
    · split
      · exact retired _
      · next e _ _ _ _ _ cq found =>
        have id := cqIn_qid found
        obtain ⟨p, there, shape⟩ := (retired e).cqOf_some (n := cq.qid) (q := cq) (by rw [id]; exact found)
        exact .ite (.refl f s) (.ite (.after (addWaiting_posted _ _ _) (.of_fns (traced e)))
          (.after (postCqe_posted _ _ there shape.symm) (retired e)))

theorem releaseFlushes_posted (sqid : Nat) : ∀ (n : Nat) (s : State), Posted f s (releaseFlushes f sqid n s)
  | 0, s => .refl f s
  | n + 1, s => by
    unfold releaseFlushes
    split
    · exact (deliverOne_posted s rfl _ _).trans (releaseFlushes_posted sqid n _)
    · exact .refl f s

theorem complete_posted (own : t.src = .fn f) (st : Status) (dw0 : W32) : Posted f s (complete t st dw0 s) := by
  have noted : Posted f s (if st = .stateConflict then evsSet 160 { s with nvm.conflicts := satAdd s.nvm.conflicts 1 }
      else s) :=
    .ite (.of_fns rfl) (.refl f s)
  have delivered (v : State) : Posted f v (deliver f t st dw0 v) :=
    (deliverOne_posted v own st dw0).trans (releaseFlushes_posted _ _ _)
  unfold complete
  rw [own]
  exact noted.trans (delivered _)

theorem finish_posted (own : t.src = .fn f) (st : Status) : Posted f s (finish t st s) := complete_posted s own st 0

/-- A queue's waiting completions are posted into it. -/
theorem postWaiting_posted (n : Nat) : ∀ (k : Nat) (s : State), Posted f s (postWaiting f n k s)
  | 0, s => .refl f s
  | k + 1, s => by
    unfold postWaiting
    split
    · exact .refl f s
    · next q found =>
      split
      · exact .refl f s
      · next e r _ =>
        have retired : Posted f s (retire ⟨.fn f, e.sqid, e.cid⟩ s) := retire_posted s rfl
        obtain ⟨p, there, shape⟩ := retired.cqOf_some found
        have posted := retired.trans (postCqe_posted (q := { q with waiting := r }) _ e there shape.symm)
        split
        · exact .refl f s
        · exact posted.trans ((releaseFlushes_posted _ _ _).trans (postWaiting_posted n k _))

end

end Sys2Proof.Machine
end

section
/-! SUPPORT. Doorbells and shadow doorbells: which queue takes which tail or head (R320 to R324, R545). -/
namespace Sys2Proof.Machine

section
variable {f : Func} {s : State} {n : Nat}

theorem sqOf_qid {q : Sq} (found : sqOf s f n = some q) : q.qid = n := by
  simpa [sqOf] using List.find?_some found

theorem cqOf_qid {q : Cq} (found : cqOf s f n = some q) : q.qid = n := cqIn_qid found

theorem sqOf_of_fns {t : State} (h : t.fns = s.fns) : sqOf t f n = sqOf s f n := by
  unfold sqOf
  rw [fnOf_congr h]

theorem cqOf_of_fns {t : State} (h : t.fns = s.fns) : cqOf t f n = cqOf s f n := by
  unfold cqOf
  rw [fnOf_congr h]

/-- A queue that exists is found as it was written. -/
theorem sqOf_setSq {q r : Sq} (found : sqOf s f n = some q) (kept : r.qid = q.qid) :
    sqOf (setSq f r s) f n = some r := by
  have id : r.qid = n := kept.trans (sqOf_qid found)
  have same : ((fun x : Sq => decide (x.qid = n)) ∘ fun x => if decide (x.qid = n) = true then r else x) =
      fun x => decide (x.qid = n) := by
    funext x
    by_cases hit : x.qid = n <;> simp [hit, id]
  have mem : (fnOf s f).ctrl.sqs.find? (fun x => decide (x.qid = n)) = some q := found
  unfold sqOf setSq
  rw [fnOf_modCtrl]
  unfold mapWhere
  rw [id, List.find?_map, same, mem, Option.map_some]
  simp [sqOf_qid found]

theorem cqOf_setCq {q r : Cq} (found : cqOf s f n = some q) (kept : r.qid = q.qid) :
    cqOf (setCq f r s) f n = some r := by
  have id : r.qid = n := kept.trans (cqOf_qid found)
  have mem : cqIn (fnOf s f).ctrl.cqs n = some q := found
  unfold cqOf setCq
  rw [fnOf_modCtrl]
  dsimp only
  rw [id]
  refine (cqIn_mapWhere _ n n (fun _ => r) fun _ _ => id).trans ?_
  rw [mem, Option.map_some, if_pos (cqOf_qid found)]

/-! ## Tails -/

theorem takeTail_plain {q : Sq} (v : Nat) (plain : q.watch = .plain) : takeTail f q v s =
    setSq f { q with tail := v } s :=
  if_pos plain

theorem takeTail_shadow {q : Sq} (v : Nat) (shadow : q.watch ≠ .plain) : takeTail f q v s =
    emit (.eventIdx (unitOf f) q.qid (ringPrev q.size v))
      (setSq f { q with tail := v, watch := .polled, eventIdx := ringPrev q.size v } s) := if_neg shadow

theorem takeTail_sqOf {q : Sq} (v : Nat) (found : sqOf s f n = some q) : ∃ q', sqOf (takeTail f q v s) f n = some q' ∧
    q'.tail = v ∧ q'.head = q.head ∧
    (q.watch ≠ .plain → q'.watch = .polled ∧ q'.eventIdx = ringPrev q.size v) := by
  by_cases plain : q.watch = .plain
  · rw [takeTail_plain v plain]
    exact ⟨_, sqOf_setSq found rfl, rfl, rfl, fun h => absurd plain h⟩
  · rw [takeTail_shadow v plain]
    exact ⟨_, (sqOf_of_fns rfl).trans (sqOf_setSq found rfl), rfl, rfl, fun _ => ⟨rfl, rfl⟩⟩

/-- A wake of a Parked queue is counted (R322). -/
def woken (q : Sq) (s : State) : State := if q.watch = .parked then { s with nvm.wakes := satAdd s.nvm.wakes 1 } else s

theorem woken_fns (q : Sq) : (woken q s).fns = s.fns := by
  unfold woken
  split <;> rfl

theorem woken_wakes (q : Sq) :
    (woken q s).nvm.wakes = if q.watch = .parked then satAdd s.nvm.wakes 1 else s.nvm.wakes := by
  unfold woken
  split <;> rfl

theorem woken_same (q : Sq) : Same [.nvm] s (woken q s) := .ite (.put (.refl _ s) rfl) (.refl _ s)

/-! ## Heads -/

theorem takeHead_cqOf {p q : Cq} (h : Nat) (found : cqOf s f n = some p) (id : q.qid = p.qid) :
    ∃ q', cqOf (takeHead f q h s) f n = some q' ∧ q'.head = h ∧ q'.eventIdx = q.eventIdx := by
  have rest (v : State) : Posted f v (intxFollow f (postWaiting f q.qid q.waiting.length v)) :=
    (postWaiting_posted _ _ v).trans (.of_signalled (intxFollow_signalled f _))
  obtain ⟨q', there, shape⟩ := (rest _).cqOf_some (cqOf_setCq (r := { q with head := h }) found id)
  have head : q'.shape.head = ({ q with head := h } : Cq).shape.head := congrArg Cq.head shape
  have idx : q'.shape.eventIdx = ({ q with head := h } : Cq).shape.eventIdx := congrArg Cq.eventIdx shape
  exact ⟨q', there, head, idx⟩

/-! ## The doorbell registers -/

section
variable {v : W32} (ok : mmioOk s f = true)
include ok

theorem doorbell_recorded (c : Bool) (frozen : (fnOf s f).frozen = true) :
    execMmioDoorbellWrite f n c v s = .next (recordDoorbell f (doorbellKey n c) (fieldOf 0 16 v).toNat s) := by
  have reached : ¬ (!mmioOk s f) = true := by simp [ok]
  exact congrArg Host.Outcome.next ((if_neg reached).trans (if_pos frozen))

variable (live : (fnOf s f).frozen = false) (en : (fnOf s f).ctrl.en = true)
include live en

theorem doorbell_live (c : Bool) : execMmioDoorbellWrite f n c v s =
    .next (if c then cqDoorbell f n (fieldOf 0 16 v).toNat s else sqDoorbell f n (fieldOf 0 16 v).toNat s) := by
  have reached : ¬ (!mmioOk s f) = true := by simp [ok]
  have here : ¬ (fnOf s f).frozen = true := by simp [live]
  have enabled : ¬ (!(fnOf s f).ctrl.en) = true := by simp [en]
  exact congrArg Host.Outcome.next ((if_neg reached).trans ((if_neg here).trans (if_neg enabled)))

end

theorem sqDoorbell_taken {v : Nat} {q : Sq} (found : sqOf s f n = some q) (small : v < q.size) :
    sqDoorbell f n v s = takeTail f q v (woken q s) := by
  unfold sqDoorbell
  rw [found]
  exact if_neg (by omega)

/-- A shadow head that a controller may read moves the queue's head (R323). -/
theorem cqHeadReread_seen {q : Cq} {h : Nat} (run : running s = true) (bme : (fnOf s f).cfg.bme = true)
    (en : (fnOf s f).ctrl.en = true) (alive : (fnOf s f).fatal = false) (up : (fnOf s f).resetting = false)
    (live : (fnOf s f).frozen = false) (shadow : (fnOf s f).ctrl.shadow ≠ none) (found : cqOf s f n = some q)
    (head : headOk q h = true) : execCqHeadReread f n h s = .next (emitEventIdx f (65536 + n) (ringPrev q.size h)
      (takeHead f { q with eventIdx := ringPrev q.size h } h s)) := by
  have ready : ¬ (!running s || !(fnOf s f).cfg.bme || !(fnOf s f).ctrl.en || (fnOf s f).fatal || (fnOf s f).resetting
      ||
      (fnOf s f).frozen || (fnOf s f).ctrl.shadow.isNone) = true := by
    simp [run, bme, en, alive, up, live, shadow]
  refine congrArg Host.Outcome.next ((if_neg ready).trans ?_)
  rw [found]
  exact if_neg (show ¬ (!headOk q h) = true by simp [head])

/-! ## Sweeps -/

section
variable {q : Sq} {v : Nat} (open' : fetchBlocked s f = false) (found : sqOf s f n = some q)
include open' found

theorem shadowSweep_moves (watched : q.watch = .polled ∨ q.watch = .parking) (small : v < q.size) (new : v ≠ q.tail) :
    execShadowSweep f n v s = .next (takeTail f q v s) := by
  unfold execShadowSweep
  rw [if_neg (by simp [open']), found]
  dsimp only
  rcases watched with watch | watch
  · rw [watch]
    dsimp only
    rw [if_neg (by omega), if_neg new]
  · rw [watch]
    dsimp only
    rw [if_neg (by omega), if_neg new]

theorem shadowSweep_parks (watch : q.watch = .parking) (small : q.tail < q.size) :
    execShadowSweep f n q.tail s = .next (setSq f { q with watch := .parked } s) := by
  unfold execShadowSweep
  rw [if_neg (by simp [open']), found]
  dsimp only
  rw [watch]
  dsimp only
  rw [if_neg (by omega), if_pos rfl]

theorem parkTimeout_polled (watch : q.watch = .polled) : execParkTimeout f n s =
    .next (emitEventIdx f n q.tail (setSq f { q with watch := .parking, eventIdx := q.tail } s)) := by
  unfold execParkTimeout
  rw [if_neg (by simp [open']), found]
  exact congrArg Host.Outcome.next (if_pos watch)

end

end

end Sys2Proof.Machine

open Sys2Proof Sys2Proof.Machine

/-- Settles O24, register by register. -/
theorem doorbellsMoveTails : Obligations.DoorbellsMoveTails := by
  unfold Obligations.DoorbellsMoveTails
  refine ⟨fun s f n v q ok live en found small => ?_, fun s f n v q ok live en found head => ?_,
    fun s f n v ok live en absent => ?_, fun s f n v q ok live en found large => ?_, fun s f n c v ok frozen => ?_,
    fun s f n v q open' found watched small new => ?_, fun s f n q open' found watch small => ?_,
    fun s f n q open' found watch => ?_, fun s f n h q run bme en alive up live shadow found head => ?_⟩
  · have woke : sqOf (woken q s) f n = some q := (sqOf_of_fns (woken_fns q)).trans found
    obtain ⟨q', there, tail, headKept, polled⟩ := takeTail_sqOf (fieldOf 0 16 v).toNat woke
    have kept : (takeTail f q (fieldOf 0 16 v).toNat (woken q s)).nvm.wakes = (woken q s).nvm.wakes :=
      congrArg Nvm.wakes ((takeTail_same f q _ _).field .nvm rfl)
    refine ⟨_, q', (doorbell_live ok live en false).trans (congrArg Host.Outcome.next (sqDoorbell_taken found small)),
        there,
      tail, headKept, polled, kept.trans (woken_wakes q), ?_⟩
    exact .call (takeTail_same f q _ _) (by decide) (.widen (by decide) (woken_same q))
  · obtain ⟨q', there, moved, -⟩ := takeHead_cqOf (fieldOf 0 16 v).toNat found rfl
    refine ⟨_, q', (doorbell_live ok live en true).trans (congrArg Host.Outcome.next ?_), there, moved⟩
    rw [if_pos rfl, cqDoorbell, found]
    exact if_pos head
  · refine (doorbell_live ok live en false).trans (congrArg Host.Outcome.next ?_)
    rw [if_neg (by decide), sqDoorbell, absent]
  · refine (doorbell_live ok live en false).trans (congrArg Host.Outcome.next ?_)
    rw [if_neg (by decide), sqDoorbell, found]
    exact if_pos large
  · exact ⟨_, doorbell_recorded ok c frozen, by simp [recordDoorbell], .put (.refl _ s) rfl⟩
  · have shown : q.watch ≠ .plain := by
      rcases watched with watch | watch <;> simp [watch]
    refine ⟨_, shadowSweep_moves open' found watched small new, ?_⟩
    rw [takeTail_shadow v shown]
    exact ⟨(sqOf_of_fns rfl).trans (sqOf_setSq found rfl), rfl,
      .call (emit_same _ _) (by decide) (.widen (by decide) (setSq_same _ _ _))⟩
  · exact ⟨_, shadowSweep_parks open' found watch small, sqOf_setSq found rfl, setSq_same _ _ _⟩
  · exact ⟨_, parkTimeout_polled open' found watch, (sqOf_of_fns rfl).trans (sqOf_setSq found rfl), rfl,
      .call (emit_same _ _) (by decide) (.widen (by decide) (setSq_same _ _ _))⟩
  · obtain ⟨q', there, moved, idx⟩ := takeHead_cqOf (q := { q with eventIdx := ringPrev q.size h }) h found rfl
    exact ⟨_, q', cqHeadReread_seen run bme en alive up live shadow found head, (cqOf_of_fns rfl).trans there, moved,
        idx⟩

end

section
/-! SUPPORT. Fetching: which entry is taken, and what stops it (R205, R325 to R328, R333, R343). -/
namespace Sys2Proof.Machine

section
variable {f : Func} {s : State} {n : Nat} {q : Sq}

theorem queue_shows (found : sqOf s f n = some q) (entry : q.head ≠ q.tail) :
    ((fnOf s f).ctrl.sqs.any fun q => decide (q.qid = n) && q.shows) = true :=
  List.any_eq_true.mpr ⟨q, List.mem_of_find?_eq_some found, by simp [sqOf_qid found, Sq.shows, entry]⟩

/-! ## Taking an entry -/

theorem takeEntry_fnOf (e : Inflight) : fnOf (takeEntry f e s) f = { fnOf s f with ctrl := { (fnOf s f).ctrl with
    inflight := (fnOf s f).ctrl.inflight ++ [e], arb := (fnOf s f).ctrl.taken e.sqid,
    sqs := mapWhere (fun q => decide (q.qid = e.sqid)) (fun q => { q with head := (q.head + 1) % q.size })
      (fnOf s f).ctrl.sqs } } := by
  have traced (v : State) : fnOf (kscCommand f e 0 .success v) f = fnOf v f :=
    fnOf_congr ((kscCommand_same f e 0 .success v).field .fns rfl) f
  unfold takeEntry
  rw [traced, fnOf_modCtrl]
  rfl

theorem takeEntry_sqOf (e : Inflight) (found : sqOf s f e.sqid = some q) :
    sqOf (takeEntry f e s) f e.sqid = some { q with head := (q.head + 1) % q.size } := by
  have same : ((fun x : Sq => decide (x.qid = e.sqid)) ∘ fun x =>
      if decide (x.qid = e.sqid) = true then { x with head := (x.head + 1) % x.size } else x) =
      fun x => decide (x.qid = e.sqid) := by
    funext x
    by_cases hit : x.qid = e.sqid <;> simp [hit]
  have mem : (fnOf s f).ctrl.sqs.find? (fun x => decide (x.qid = e.sqid)) = some q := found
  unfold sqOf
  rw [takeEntry_fnOf]
  unfold mapWhere
  rw [List.find?_map, same, mem, Option.map_some]
  simp [sqOf_qid found]

theorem takeEntry_turn (e : Inflight) : (takeEntry f e s).nvm.turn = turnAfter s f :=
  congrArg Nvm.turn ((kscCommand_same f e 0 .success _).field .nvm rfl)

/-! ## The fetch -/

section
variable {t : Tag} {op : W8} {nsid : W32} (shows :
  ((fnOf s f).ctrl.sqs.any fun q => decide (q.qid = t.sqid) && q.shows) = true)
  (open' : fetchBlocked s f = false)
include shows open'

theorem fetchCmd_stalls (running' : (fnOf s f).ctrl.stalled = false) (short : budgetAllows s f = false) :
    fetchCmd f t op nsid s = some (stall f s, false) := by
  simp [fetchCmd, shows, open', running', short]

variable (running' : (fnOf s f).ctrl.stalled = false) (budget : budgetAllows s f = true)
  (turn : turnOf s f = true) (may : (fnOf s f).ctrl.mayTake t.sqid = true)
include running' budget turn may

/-- An entry in its turn and within the budget is taken; the checks at fetch complete it or let it go on. -/
theorem fetchCmd_turn : fetchCmd f t op nsid s = if t.sqid = 0 then some (takeEntry f (newEntry s t op nsid) s, true)
    else match ioCheck s f op nsid with
      | none => some (takeEntry f (newEntry s t op nsid) s, true)
      | some st => some (finish t st (takeEntry f (newEntry s t op nsid) s), false) := by
  have here : ¬ (fetchBlocked s f || !((fnOf s f).ctrl.sqs.any fun q => decide (q.qid = t.sqid) && q.shows)) =
      true := by
    simp [open', shows]
  have room : ¬ ((fnOf s f).ctrl.stalled || !budgetAllows s f) = true := by simp [running', budget]
  have next : ¬ (!(turnOf s f && (fnOf s f).ctrl.mayTake t.sqid)) = true := by simp [turn, may]
  exact (if_neg here).trans ((if_neg room).trans (if_neg next))

theorem fetchCmd_passed (pass : t.sqid = 0 ∨ ioCheck s f op nsid = none) :
    fetchCmd f t op nsid s = some (takeEntry f (newEntry s t op nsid) s, true) := by
  rw [fetchCmd_turn shows open' running' budget turn may]
  by_cases admin : t.sqid = 0
  · exact if_pos admin
  · rw [if_neg admin, pass.resolve_left admin]

theorem fetchCmd_checked {st : Status} (io : t.sqid ≠ 0) (fails : ioCheck s f op nsid = some st) :
    fetchCmd f t op nsid s = some (finish t st (takeEntry f (newEntry s t op nsid) s), false) := by
  rw [fetchCmd_turn shows open' running' budget turn may, if_neg io, fails]

end

theorem fetchCmd_waits {t : Tag} {op : W8} {nsid : W32} (running' : (fnOf s f).ctrl.stalled = false)
    (budget : budgetAllows s f = true) (other : (turnOf s f && (fnOf s f).ctrl.mayTake t.sqid) = false) :
    fetchCmd f t op nsid s = none := by
  unfold fetchCmd
  split
  · rfl
  · rw [if_neg (by simp [running', budget]), if_pos (by simp [other])]

/-- A queue with an entry and a good context fetches. -/
theorem commandFetch_entry {e : Sqe} (found : sqOf s f e.sqid = some q) (entry : q.head ≠ q.tail)
    (ctx : e.ctxOk = true) :
    execCommandFetch f e s = .next (match fetchCmd f ⟨.fn f, e.sqid, e.cid⟩ e.opcode e.nsid s with
      | none => s
      | some (s', false) => s'
      | some (s', true) => refuseUnlisted f e s') := by
  have good : ¬ (!fetchBlocked s f && !e.ctxOk) = true := by simp [ctx]
  unfold execCommandFetch
  rw [found]
  exact congrArg Host.Outcome.next ((if_neg entry).trans (if_neg good))

theorem commandFetch_bad {e : Sqe} (found : sqOf s f e.sqid = some q) (entry : q.head ≠ q.tail)
    (open' : fetchBlocked s f = false) (ctx : e.ctxOk = false) : execCommandFetch f e s =
      .next (enterFatal f 0x06 s) := by
  have bad : (!fetchBlocked s f && !e.ctxOk) = true := by simp [open', ctx]
  unfold execCommandFetch
  rw [found]
  exact congrArg Host.Outcome.next ((if_neg entry).trans (if_pos bad))

theorem refuseUnlisted_listed {e : Sqe} (fuse : e.fuse = 0) (code : unlistedCode e.opcode e.cdw10 = false)
    (known : (if e.sqid = 0 then adminOpcode e.opcode else ioOpcode e.opcode) = true) : refuseUnlisted f e s = s := by
  unfold refuseUnlisted
  dsimp only
  rw [known, if_neg (by decide), if_neg (by simp [fuse]), if_neg (by simp [code])]

theorem refuseUnlisted_opcode {e : Sqe} (unknown :
    (if e.sqid = 0 then adminOpcode e.opcode else ioOpcode e.opcode) = false) :
    refuseUnlisted f e s = finish ⟨.fn f, e.sqid, e.cid⟩ .invalidCommandOpcode s := by
  unfold refuseUnlisted
  dsimp only
  rw [unknown, if_pos (by decide)]

theorem stall_first (running' : (fnOf s f).ctrl.stalled = false) : stall f s =
    modCtrl f (fun c => { c with stalled := true }) { s with nvm.stalls := satAdd s.nvm.stalls 1 } := by
  have free : ¬ (fnOf s f).ctrl.stalled = true := by simp [running']
  exact if_neg free

theorem stall_fnOf (running' : (fnOf s f).ctrl.stalled = false) :
    fnOf (stall f s) f = { fnOf s f with ctrl.stalled := true } := by
  rw [stall_first running', fnOf_modCtrl]
  rfl

end

end Sys2Proof.Machine

open Sys2Proof Sys2Proof.Machine

/-- Settles O25: the branches of a fetch in their order. -/
theorem fetchTakesTheNextEntry : Obligations.FetchTakesTheNextEntry := by
  unfold Obligations.FetchTakesTheNextEntry
  refine ⟨fun s f e q found entry open' ctx run budget turn may fuse code known pass => ?_,
    fun s f e q st found entry open' ctx run budget turn may io fails => ?_,
    fun s f e q found entry open' ctx run budget turn may pass unknown => ?_,
    fun s f e q found entry ctx run budget other => ?_, fun s f e q found entry open' ctx run short => ?_,
    fun s f run stalled budget => ?_, fun s f short => ?_, fun s f e q found entry open' ctx => ?_⟩
  · have fetched := fetchCmd_passed (t := ⟨.fn f, e.sqid, e.cid⟩) (op := e.opcode) (nsid := e.nsid)
      (queue_shows found entry) open' run budget turn may pass
    refine ⟨_, (commandFetch_entry found entry ctx).trans (congrArg Host.Outcome.next ?_), ?_, ?_,
      takeEntry_turn (newEntry s ⟨.fn f, e.sqid, e.cid⟩ e.opcode e.nsid), ?_, .widen (by decide) (takeEntry_same f _ s)⟩
    · rw [fetched]
      exact refuseUnlisted_listed fuse code known
    · rw [takeEntry_fnOf]
      rfl
    · exact ⟨_, takeEntry_sqOf (newEntry s ⟨.fn f, e.sqid, e.cid⟩ e.opcode e.nsid) found, rfl, rfl⟩
    · rw [takeEntry_fnOf]
      rfl
  · have fetched := fetchCmd_checked (t := ⟨.fn f, e.sqid, e.cid⟩) (op := e.opcode) (nsid := e.nsid)
      (queue_shows found entry) open' run budget turn may io fails
    refine (commandFetch_entry found entry ctx).trans (congrArg Host.Outcome.next ?_)
    rw [fetched]
  · have fetched := fetchCmd_passed (t := ⟨.fn f, e.sqid, e.cid⟩) (op := e.opcode) (nsid := e.nsid)
      (queue_shows found entry) open' run budget turn may pass
    refine (commandFetch_entry found entry ctx).trans (congrArg Host.Outcome.next ?_)
    rw [fetched]
    exact refuseUnlisted_opcode unknown
  · refine (commandFetch_entry found entry ctx).trans (congrArg Host.Outcome.next ?_)
    rw [fetchCmd_waits run budget other]
  · refine ⟨_, (commandFetch_entry found entry ctx).trans (congrArg Host.Outcome.next
      (a₂ := stall f s) ?_), ?_⟩
    · rw [fetchCmd_stalls (queue_shows found entry) open' run short]
    · have sqs : sqOf (stall f s) f e.sqid = sqOf s f e.sqid := by
        unfold sqOf
        rw [stall_fnOf run]
      have count : (stall f s).nvm.stalls = satAdd s.nvm.stalls 1 := by rw [stall_first run]; rfl
      rw [stall_fnOf run, sqs]
      exact ⟨rfl, rfl, found, count, stall_same f s⟩
  · refine ⟨_, congrArg Host.Outcome.next (if_pos (by simp [run, stalled, budget])), ?_, modCtrl_same _ _ _⟩
    rw [fnOf_modCtrl]
  · exact congrArg Host.Outcome.next (if_neg (by simp [short]))
  · refine ⟨_, commandFetch_bad found entry open' ctx, ?_⟩
    rw [enterFatal_fnOf]
    exact ⟨rfl, rfl, rfl, (enterFatal_same f 0x06 s).wholeTab rfl, (enterFatal_same f 0x06 s).field .media rfl⟩

end

section
/-! SUPPORT. Queue and controller commands: which queues exist after each, and what Abort and Asynchronous Event Request
leave (R313, R319 to R324). -/
namespace Sys2Proof.Machine

section
variable {f : Func} {q : Nat} {c : W16} {u : State} {n : Nat}

/-! ## Deletion -/

theorem sqIn_deleted (s : State) :
    sqOf (modCtrl f (fun c => { c with sqs := c.sqs.filter fun q => !decide (q.qid = n) }) s) f n = none := by
  unfold sqOf
  rw [fnOf_modCtrl]
  simp

theorem cqIn_deleted (s : State) :
    cqOf (modCtrl f (fun c => { c with cqs := c.cqs.filter fun q => !decide (q.qid = n) }) s) f n = none := by
  unfold cqOf
  rw [fnOf_modCtrl]
  simp

theorem deleteSq_gone (id : n ≠ 0) (there : sqOf u f n ≠ none) : sqOf (deleteSq ⟨.fn f, q, c⟩ n f u) f n = none := by
  have done (v : State) : sqOf (finish ⟨.fn f, q, c⟩ .success v) f n = sqOf v f n := (finish_posted v rfl _).sqOf n
  unfold deleteSq
  dsimp only
  rw [if_neg (by simp [id, there]), done]
  exact sqIn_deleted _

theorem deleteCq_gone (id : n ≠ 0) (there : cqOf u f n ≠ none) (unused : ∀ x ∈ (fnOf u f).ctrl.sqs, x.cqid ≠ n) :
    cqOf (deleteCq ⟨.fn f, q, c⟩ n f u) f n = none := by
  have done (v : State) (absent : cqOf v f n = none) :
      cqOf (finish ⟨.fn f, q, c⟩ .success (intxFollow f v)) f n = none :=
    ((Posted.of_signalled (intxFollow_signalled f v)).trans (finish_posted _ rfl _)).cqOf_none absent
  unfold deleteCq
  rw [if_neg (by simp [id, there]), if_neg (by simpa using unused)]
  exact done _ (cqIn_deleted u)

/-! ## Creation -/

theorem createSq_made (n : NewSq) (id : n.qid ≠ 0) (few : n.qid < vqCount u f) (new : sqOf u f n.qid = none)
    (least : 1 ≤ n.size) (most : n.size ≤ 0xFFFF) (contiguous : n.contiguous = true)
    (entries : fieldOf 16 4 (fnOf u f).ctrl.cc = 6) (page : n.base.toNat % 4096 = 0) (cq : n.cqid ≠ 0)
    (cqFew : n.cqid < vqCount u f) (there : cqOf u f n.cqid ≠ none) :
    sqOf (createSq ⟨.fn f, q, c⟩ n f u) f n.qid = some ⟨n.qid, n.size + 1, n.base, n.cqid, n.prio, 0, 0,
      if (fnOf u f).ctrl.shadow.isSome then .polled else .plain, n.size⟩ := by
  have done (v : State) : sqOf (finish ⟨.fn f, q, c⟩ .success v) f n.qid = sqOf v f n.qid :=
    (finish_posted v rfl _).sqOf _
  have absent : (fnOf u f).ctrl.sqs.find? (fun q => decide (q.qid = n.qid)) = none := new
  unfold createSq
  dsimp only
  rw [if_neg (by simp [id, new]; omega), if_neg (by simp [queueSizeOk, least, most]),
    if_neg (by simp [contiguous, entries, page]), if_neg (by omega), if_neg (by simp [there]), done]
  unfold sqOf
  rw [fnOf_modCtrl]
  simp [List.find?_append, absent]

theorem createCq_made (n : NewCq) (id : n.qid ≠ 0) (few : n.qid < vqCount u f) (new : cqOf u f n.qid = none)
    (least : 1 ≤ n.size) (most : n.size ≤ 0xFFFF) (contiguous : n.contiguous = true)
    (entries : fieldOf 20 4 (fnOf u f).ctrl.cc = 4) (page : n.base.toNat % 4096 = 0) (vector : n.iv < viCount u f)
    (table : n.iv < msixSize f) : ∃ x, cqOf (createCq ⟨.fn f, q, c⟩ n f u) f n.qid = some x ∧ x.size = n.size + 1 ∧
      x.base = n.base ∧ x.iv = n.iv ∧ x.ien = n.ien := by
  have absent : (fnOf u f).ctrl.cqs.find? (fun q => decide (q.qid = n.qid)) = none := new
  have done (v : State) (q' : Cq) (made : cqOf v f n.qid = some q') :
      ∃ x, cqOf (finish ⟨.fn f, q, c⟩ .success v) f n.qid = some x ∧ x.size = q'.size ∧ x.base = q'.base ∧
        x.iv = q'.iv ∧
        x.ien = q'.ien := by
    obtain ⟨x, found, shape⟩ := (finish_posted (f := f) (t := ⟨.fn f, q, c⟩) v rfl .success).cqOf_some made
    exact ⟨x, found, show x.shape.size = q'.shape.size from congrArg Cq.size shape,
      show x.shape.base = q'.shape.base from congrArg Cq.base shape,
      show x.shape.iv = q'.shape.iv from congrArg Cq.iv shape,
      show x.shape.ien = q'.shape.ien from congrArg Cq.ien shape⟩
  unfold createCq
  dsimp only
  rw [if_neg (by simp [id, new]; omega), if_neg (by simp [queueSizeOk, least, most]),
    if_neg (by simp [contiguous, entries, page]), if_neg (by omega)]
  refine done _ { qid := n.qid, size := n.size + 1, base := n.base, iv := n.iv, ien := n.ien, head := 0, tail := 0,
                  eventIdx := n.size, waiting := [], coalesced := 0 } ?_
  unfold cqOf
  rw [fnOf_modCtrl]
  simp [List.find?_append, absent]

/-! ## Enabling -/

/-- The controller that enabling makes. -/
def enabledCtrl (f : Func) (cc aqa : W32) (up : Bool) (s : State) : Ctrl :=
  { (fnOf s f).ctrl with cc := cc, en := true, rdy := up, sqs := [adminSq ((fieldOf 0 12 aqa).toNat + 1)],
                         cqs := [adminCq ((fieldOf 16 12 aqa).toNat + 1)] }

theorem enableController_ctrl {cc aqa : W32} (off : (fnOf u f).ctrl.en = false) (en : cc.getLsbD 0 = true)
    (valid : enableOk cc aqa = true) : (fnOf (enableController f cc aqa u) f).ctrl =
      enabledCtrl f cc aqa (u.hold.restartDone && (decide (f.vf = 0) || (fnOf u f).online)) u := by
  have told (b : Bool) (v : State) : fnOf (ustChange (unitOf f) (if b then hscMark 0 v else v)) f = fnOf v f := by
    refine (fnOf_congr ((ustChange_same _ _).field .fns rfl) f).trans ?_
    cases b
    · rfl
    · exact fnOf_congr ((hscMark_same 0 v).field .fns rfl) f
  unfold enableController
  dsimp only
  rw [if_neg (by simp [off, en]), if_neg (by simp [valid]), told, fnOf_modCtrl]
  rfl

/-! ## Shadow doorbells -/

/-- A queue becomes Polled with its EventIdx before its tail. -/
def polledAt (f : Func) (s : State) (q : Sq) : State :=
  emitEventIdx f q.qid (ringPrev q.size q.tail)
    (setSq f { q with watch := .polled, eventIdx := ringPrev q.size q.tail } s)

theorem polledAt_ctrl (s : State) (q : Sq) : (fnOf (polledAt f s q) f).ctrl = { (fnOf s f).ctrl with
    sqs := mapWhere (fun x => decide (x.qid = q.qid))
      (fun _ => { q with watch := .polled, eventIdx := ringPrev q.size q.tail }) (fnOf s f).ctrl.sqs } := by
  have told (o : Output) (v : State) : fnOf (emit o v) f = fnOf v f := fnOf_congr rfl f
  unfold polledAt emitEventIdx setSq
  rw [told, fnOf_modCtrl]

/-- After the queues of `l` a queue that is not Polled is none of them. -/
theorem polledAt_all (l : List Sq) (s : State)
    (others : ∀ x ∈ (fnOf s f).ctrl.sqs, x.watch = .polled ∨ x ∈ l) :
    (fnOf (l.foldl (polledAt f) s) f).ctrl.shadow = (fnOf s f).ctrl.shadow ∧
      ∀ x ∈ (fnOf (l.foldl (polledAt f) s) f).ctrl.sqs, x.watch = .polled := by
  induction l generalizing s with
  | nil => exact ⟨rfl, fun x mem => (others x mem).resolve_right List.not_mem_nil⟩
  | cons q l ih =>
    have next := ih (polledAt f s q) fun x mem => by
      rw [polledAt_ctrl] at mem
      obtain ⟨y, old, rfl⟩ := List.mem_map.mp mem
      by_cases hit : y.qid = q.qid
      · exact .inl (by simp [hit])
      · rcases others y old with polled | head
        · exact .inl (by simpa [hit] using polled)
        · rcases List.mem_cons.mp head with rfl | tail
          · exact absurd rfl hit
          · exact .inr (by simpa [hit] using tail)
    rw [polledAt_ctrl] at next
    exact next

theorem shadowConfig_set (a b : W64) (pageA : a.toNat % 4096 = 0) (pageB : b.toNat % 4096 = 0) :
    (fnOf (shadowConfig ⟨.fn f, q, c⟩ a b f u) f).ctrl.shadow = some (a, b) ∧
      ∀ x ∈ (fnOf (shadowConfig ⟨.fn f, q, c⟩ a b f u) f).ctrl.sqs, x.watch = .polled := by
  have done (v : State) := finish_posted (f := f) (t := ⟨.fn f, q, c⟩) v rfl .success
  have set := polledAt_all (f := f) (fnOf (modCtrl f (fun x => { x with shadow := some (a, b) }) u) f).ctrl.sqs
    (modCtrl f (fun x => { x with shadow := some (a, b) }) u) fun x mem => .inr mem
  unfold shadowConfig
  rw [if_neg (by omega), (done _).shadow, (done _).sqs]
  refine ⟨set.1.trans ?_, set.2⟩
  rw [fnOf_modCtrl]

/-! ## Abort and events -/

theorem abortCmd_free {i : W16} {e : Inflight} (other : (⟨.fn f, n, i⟩ : Tag) ≠ ⟨.fn f, q, c⟩)
    (found : inflightOf u ⟨.fn f, n, i⟩ = some e) (fresh : begun u f e = false) :
    abortCmd ⟨.fn f, q, c⟩ n i f u = complete ⟨.fn f, q, c⟩ .success 0 (finish ⟨.fn f, n, i⟩ .abortRequested
      (modCtrl f (fun x => { x with aers := x.aers.filter fun a => !decide (a = ⟨.fn f, n, i⟩) }) u)) := by
  have there : (fnOf u f).ctrl.inflight.find? (fun e => decide (e.sqid = n ∧ e.cid = i)) = some e := found
  unfold abortCmd
  simp only [ne_eq, other, not_false_eq_true, and_true, there, fresh, Bool.false_eq_true, if_false]

theorem abortCmd_gone {i : W16} (absent : inflightOf u ⟨.fn f, n, i⟩ = none) :
    abortCmd ⟨.fn f, q, c⟩ n i f u = complete ⟨.fn f, q, c⟩ .success 1 u := by
  have none' : ∀ e ∈ (fnOf u f).ctrl.inflight, ¬ (e.sqid = n ∧ e.cid = i) := by
    have unlisted : (fnOf u f).ctrl.inflight.find? (fun e => decide (e.sqid = n ∧ e.cid = i)) = none := absent
    simpa using unlisted
  have unlisted : (fnOf u f).ctrl.inflight.find?
      (fun e => decide (e.sqid = n ∧ e.cid = i ∧ (⟨.fn f, n, i⟩ : Tag) ≠ ⟨.fn f, q, c⟩)) = none := by
    rw [List.find?_eq_none]
    intro e mem hit
    obtain ⟨sq, cid, -⟩ := of_decide_eq_true hit
    exact none' e mem ⟨sq, cid⟩
  unfold abortCmd
  dsimp only
  rw [unlisted]

theorem requestEvent_held {t : Tag} (new : t ∉ (fnOf u f).ctrl.aers) (few : (fnOf u f).ctrl.aers.length < 16)
    (quiet : (fnOf u f).ctrl.events = []) :
    requestEvent t f u = modCtrl f (fun x => { x with aers := x.aers ++ [t] }) u := by
  unfold requestEvent
  dsimp only
  rw [if_neg (by simpa using new), if_neg (by omega), quiet]

theorem requestEvent_full {t : Tag} (new : t ∉ (fnOf u f).ctrl.aers) (full : 16 ≤ (fnOf u f).ctrl.aers.length) :
    requestEvent t f u = finish t .asyncEventLimitExceeded u := by
  unfold requestEvent
  dsimp only
  rw [if_neg (by simpa using new), if_pos full]

/-- Queue commands are open to every function. -/
theorem fnAdmin_start {op : W8} {nsid : W32} {s : State} (i : Instr) (k : Func → State → State)
    (start : Safety.startOf ⟨.fn f, q, c⟩ op nsid s = some u) :
    runAdmin i ⟨.fn f, q, c⟩ op nsid true true false (withFunc ⟨.fn f, q, c⟩ k) s = k f u :=
  runAdmin_start i _ start (by simp [Safety.allowed])

end

end Sys2Proof.Machine

open Sys2Proof Sys2Proof.Machine

/-- Settles O26, command by command. -/
theorem queueCommandsComplete : Obligations.QueueCommandsComplete := by
  unfold Obligations.QueueCommandsComplete
  refine ⟨fun s f q c u n start id there => ?_, fun s f q c u n start id there unused => ?_,
    fun s f q c u n start id few new least most contiguous entries page cq cqFew there => ⟨_,
      congrArg Host.Outcome.next (fnAdmin_start _ _ start),
      createSq_made n id few new least most contiguous entries page cq cqFew there⟩,
    fun s f q c u n start id few new least most contiguous entries page vector table => ?_,
    fun s f cc aqa ok live off en valid done scope => ?_, fun s f cc aqa ok live off en valid undone => ?_,
    fun s f q c u a b start pageA pageB => ⟨_, congrArg Host.Outcome.next (fnAdmin_start _ _ start),
      shadowConfig_set a b pageA pageB⟩,
    fun s f q c u n i e start other found fresh => congrArg Host.Outcome.next
      ((fnAdmin_start _ _ start).trans (abortCmd_free other found fresh)),
    fun s f q c u n i start absent => congrArg Host.Outcome.next
      ((fnAdmin_start _ _ start).trans (abortCmd_gone absent)),
    fun s f q c u start new few quiet => ?_,
    fun s f q c u start new full => congrArg Host.Outcome.next
      ((fnAdmin_start _ _ start).trans (requestEvent_full new full))⟩
  · have frame := deleteSq_same ⟨.fn f, q, c⟩ n f u
    exact ⟨_, congrArg Host.Outcome.next (fnAdmin_start _ _ start), deleteSq_gone id there, frame.wholeTab rfl,
      frame.field .media rfl⟩
  · have frame := deleteCq_same ⟨.fn f, q, c⟩ n f u
    exact ⟨_, congrArg Host.Outcome.next (fnAdmin_start _ _ start), deleteCq_gone id there unused, frame.wholeTab rfl,
      frame.field .media rfl⟩
  · obtain ⟨x, made⟩ := createCq_made (q := q) (c := c) n id few new least most contiguous entries page vector table
    exact ⟨_, x, congrArg Host.Outcome.next (fnAdmin_start _ _ start), made⟩
  · have up : (s.hold.restartDone && (decide (f.vf = 0) || (fnOf s f).online)) = true := by
      rcases scope with pf | online
      · simp [done, pf]
      · simp [done, online]
    refine ⟨_, congrArg Host.Outcome.next (fnWrite_live _ ok live), ?_⟩
    rw [enableController_ctrl off en valid, up]
    exact ⟨rfl, rfl, rfl, rfl, rfl⟩
  · refine ⟨_, congrArg Host.Outcome.next (fnWrite_live _ ok live), ?_⟩
    rw [enableController_ctrl off en valid, undone]
    exact ⟨rfl, rfl⟩
  · refine ⟨_, congrArg Host.Outcome.next ((fnAdmin_start _ _ start).trans (requestEvent_held new few quiet)), ?_,
      modCtrl_same _ _ _⟩
    rw [fnOf_modCtrl]

end

section
/-! SUPPORT. Log pages and Identify: a command of a controller that is named starts, and each page answers (R313,
R315, R319,
R574). -/
namespace Sys2Proof.Machine

section
variable {t : Tag} {s u : State}

theorem onCtrl_named (own : Bool) (k : State → State) (named : Safety.namesCtrl t u) : onCtrl own t k u = k u :=
  if_neg fun h => by simp [named h.1] at h

theorem onCtrl_device (k : State → State) : onCtrl false t k u = k u := if_neg fun h => Bool.false_ne_true h.2.1

/-- An admin command of every source whose controller is named runs its meaning. -/
theorem onCtrl_start {op : W8} {nsid : W32} (i : Instr) (own : Bool) (k : State → State)
    (start : Safety.startOf t op nsid s = some u) (named : Safety.namesCtrl t u) :
    runAdmin i t op nsid true true true (onCtrl own t k) s = k u :=
  (runAdmin_start i _ start (every_allowed t)).trans (onCtrl_named own k named)

/-- A page that a VF may not read answers another source with its window. -/
theorem devicePage_start {page : Bytes} {n o : Nat} {m : Nat} (i : Instr) (k : State → State)
    (body : k u = if isVf t.src then finish t .invalidLogPage u else logReply t page n o (drawn m u))
    (start : Safety.startOf t 0x02 0 s = some u) (notVf : isVf t.src = false) (path : t.src = .mgt → n ≤ 4096)
    (within : o ≤ page.length) :
    runAdmin i t 0x02 0 true true true k s = finishData t (window page o n) (drawn m u) := by
  rw [runAdmin_start i _ start (every_allowed t), body, notVf]
  exact logReply_page page n o path within

/-- A page that a VF may not read. -/
theorem devicePage_denied {v : State} (i : Instr) (k : State → State)
    (body : k u = if isVf t.src then finish t .invalidLogPage u else v)
    (start : Safety.startOf t 0x02 0 s = some u) (vf : isVf t.src = true) :
    runAdmin i t 0x02 0 true true true k s = finish t .invalidLogPage u := by
  rw [runAdmin_start i _ start (every_allowed t), body]
  exact if_pos vf

/-- The unit state table read with Retain Asynchronous Event. -/
theorem unitLog_retained {n o : Nat} (path : t.src = .mgt → n ≤ 4096) (within : o ≤ (unitPage u t.src).length) :
    unitLog t true n o u = finishData t (window (unitPage u t.src) o n) (drawn 1 u) :=
  logReply_page _ n o path within

end

end Sys2Proof.Machine

open Sys2Proof Sys2Proof.Machine

/-- Settles O27, page by page; the four pages with commands of their own share `devicePage_start`. -/
theorem logPagesAnswer : Obligations.LogPagesAnswer := by
  unfold Obligations.LogPagesAnswer
  refine ⟨?page, ?refused, ?die, ?trace, ?units, ?parity, ?vf, ?known, ?unknown⟩
  case page =>
    intro t s u i n o r start named known may path within
    refine congrArg Host.Outcome.next ((onCtrl_start _ _ _ start named).trans ?_)
    refine (if_neg (by simp [known, may])).trans ((if_neg (by omega)).trans ?_)
    exact logReply_page _ n o path within
  case refused =>
    intro t s u i n o r start named bad
    refine congrArg Host.Outcome.next ((onCtrl_start _ _ _ start named).trans (if_pos ?_))
    rcases bad with bad | bad <;> simp [bad]
  case die =>
    intro t s u n o start notVf path within
    exact congrArg Host.Outcome.next (devicePage_start _ _ rfl start notVf path within)
  case trace =>
    intro t s u k n o start notVf path within
    exact congrArg Host.Outcome.next (devicePage_start _ _ rfl start notVf path within)
  case units =>
    intro t s u n o start path within
    exact congrArg Host.Outcome.next
      ((runAdmin_start _ _ start (every_allowed t)).trans (unitLog_retained path within))
  case parity =>
    intro t s u n o start notVf path within
    exact congrArg Host.Outcome.next (devicePage_start _ _ rfl start notVf path within)
  case vf =>
    intro t s u n o start vf
    exact ⟨congrArg Host.Outcome.next (devicePage_denied _ _ rfl start vf),
      congrArg Host.Outcome.next (devicePage_denied _ _ rfl start vf)⟩
  case known =>
    intro t s u i k b start named known found
    refine congrArg Host.Outcome.next ((onCtrl_start _ _ _ start named).trans ((if_neg (by simp [known])).trans ?_))
    rw [found]
  case unknown =>
    intro t s u i k start named unknown
    exact congrArg Host.Outcome.next ((onCtrl_start _ _ _ start named).trans (if_pos (by simp [unknown])))

end

section
/-! SUPPORT. What namespaces and features read as after the operations on them (R316 to R318, R335 to R342). -/
namespace Sys2Proof.Machine

section
variable {t : Tag} {s u : State} {i : Nat} {n : Ns}

/-! ## Namespaces -/

theorem nsOf_congr {v : State} (h : v.tab.nss = u.tab.nss) (i : Nat) : nsOf v i = nsOf u i := by
  unfold nsOf
  rw [h]

theorem modNs_found (g : Ns → Ns) (found : nsOf u i = some n) :
    modNs i g u = markDelta { u with tab.nss := Sparse.set u.tab.nss i (g n) } := by
  unfold modNs
  rw [found]

theorem nsOf_set (m : Ns) (j : Nat) :
    nsOf { u with tab.nss := Sparse.set u.tab.nss i m } j = if j = i then some m else nsOf u j :=
  Sparse.look_set ..

theorem nsOf_modNs (g : Ns → Ns) (found : nsOf u i = some n) : nsOf (modNs i g u) i = some (g n) := by
  rw [modNs_found g found, nsOf_congr (congrArg Tables.nss ((markDelta_same _).wholeTab rfl)), nsOf_set, if_pos rfl]

theorem nsOf_visible (visible : visibleNs u i = some n) : nsOf u i = some n := by
  unfold visibleNs at visible
  cases found : nsOf u i with
  | none => simp [found] at visible
  | some m =>
    rw [found] at visible
    simp only at visible
    split at visible
    · cases visible
    · exact visible

theorem withNs_open (k : Ns → State → State) (visible : visibleNs u i = some n) (kept : n.state ≠ .deleting)
    (free : nsInExport u i = false) : withNs t i k u = k n u := by
  unfold withNs
  rw [visible]
  exact if_neg (by simp [kept, free])

theorem withNs_absent (k : Ns → State → State) (absent : visibleNs u i = none) :
    withNs t i k u = finish t .invalidNamespaceOrFormat u := by
  unfold withNs
  rw [absent]

/-! ## Features -/

/-- A completion for the management path leaves the functions. -/
theorem complete_mgt_fns (src : t.src = .mgt) (st : Status) (dw0 : W32) (v : State) :
    (complete t st dw0 v).fns = v.fns := by
  have told (w : State) : (mgtRespond (.completion t st dw0) w).fns = w.fns := (mgtRespond_same _ w).field .fns rfl
  unfold complete
  rw [src]
  dsimp only
  rw [told]
  split
  · rw [(evsSet_same _ _).field .fns rfl]
  · rfl

/-- A completion keeps the features of the controller it is for. -/
theorem complete_feats (st : Status) (dw0 : W32) (v : State) :
    (fnOf (complete t st dw0 v) (featFunc t)).ctrl.feats = (fnOf v (featFunc t)).ctrl.feats := by
  cases src : t.src with
  | fn f =>
    have named : featFunc t = f := by rw [featFunc, src]
    rw [named]
    exact (complete_posted v src st dw0).feats
  | mgt => rw [fnOf_congr (complete_mgt_fns src st dw0 v)]

/-- A completion with success leaves the counters of the device. -/
theorem finish_success_nvm (v : State) : (finish t .success v).nvm = v.nvm := by
  unfold finish complete
  rw [if_neg (by decide)]
  dsimp only
  split
  · exact (mgtRespond_same _ v).field .nvm rfl
  · exact (deliver_same _ _ _ _ v).field .nvm rfl

/-- A feature of the controller's own. -/
theorem putFeat_feats (g : Feats → Feats) :
    (fnOf (putFeat t g u) (featFunc t)).ctrl.feats = g (fnOf u (featFunc t)).ctrl.feats := by
  unfold putFeat finish
  rw [complete_feats, fnOf_modCtrl]

/-- Set Features of a feature that is listed and kept neither by key binding nor by the power limit. -/
theorem setFeatures_start {x : W8} {k : W32} (v : W32) (d : BitVec 128) (start : Safety.startOf t 0x09 k s = some u)
    (named : featCtrl x = true → Safety.namesCtrl t u) (known : featKnown x = true) (notKey : x ≠ 0xD0)
    (notPower : x ≠ 0xD2) (may : (featDevice x && isVf t.src) = false) :
    exec (.setFeatures t x false k v d) s = .next (setFeature t x k v d u) := by
  have passes (b : Bool) (f : State → State) (own : b = true → Safety.namesCtrl t u) : onCtrl b t f u = f u := by
    cases b
    · exact onCtrl_device f
    · exact onCtrl_named true f (own rfl)
  refine congrArg Host.Outcome.next ((runAdmin_start _ _ start (every_allowed t)).trans ((passes _ _ named).trans ?_))
  exact (if_neg (by simp [known])).trans ((if_neg notKey).trans ((if_neg notPower).trans
    ((if_neg Bool.false_ne_true).trans (if_neg (by simp [may])))))

/-- The low half replaced shows the new value there and the old one above. -/
theorem fieldOf_lowHalf (old v : W32) :
    fieldOf 0 16 ((old &&& 0xFFFF0000) ||| at32 0 (fieldOf 0 16 v)) = fieldOf 0 16 v ∧
    fieldOf 16 16 ((old &&& 0xFFFF0000) ||| at32 0 (fieldOf 0 16 v)) = fieldOf 16 16 old := by
  have low : (0xFFFF0000 : W32).setWidth 16 = 0#16 := by decide
  have high : ((0xFFFF0000 : W32) >>> 16).setWidth 16 = BitVec.allOnes 16 := by decide
  have above : at32 0 (fieldOf 0 16 v) >>> 16 = 0#32 := by
    apply BitVec.eq_of_toNat_eq
    simp only [at32, fieldOf, BitVec.toNat_ushiftRight, BitVec.toNat_shiftLeft, BitVec.toNat_setWidth]
    simp only [Nat.shiftRight_eq_div_pow, Nat.shiftLeft_zero, BitVec.toNat_ofNat]
    omega
  constructor
  · simp only [fieldOf, at32, BitVec.ushiftRight_zero, BitVec.setWidth_or, BitVec.setWidth_and, low]
    simp
  · rw [fieldOf, BitVec.ushiftRight_or_distrib, BitVec.ushiftRight_and_distrib, above, BitVec.setWidth_or,
      BitVec.setWidth_and, high, BitVec.and_allOnes]
    simp [fieldOf]

/-- Setting the over-temperature threshold keeps the under-temperature one. -/
theorem setTempThreshold_over {v : W32} (composite : fieldOf 16 4 v = 0) (high : fieldOf 20 2 v = 0) :
    fieldOf 0 16 (setTempThreshold t v u).nvm.tempThreshold = fieldOf 0 16 v ∧
    fieldOf 16 16 (setTempThreshold t v u).nvm.tempThreshold = fieldOf 16 16 u.nvm.tempThreshold := by
  unfold setTempThreshold
  dsimp only
  rw [if_neg (by simp [composite, high]), if_pos high, finish_success_nvm]
  exact fieldOf_lowHalf _ _

theorem setPowerLimit_checked {v : W32} (notVf : isVf t.src = false) : setPowerLimit t false v u =
    if (fieldOf 0 6 v).toNat < 12 ∨ 42 < (fieldOf 0 6 v).toNat then finish t .invalidField u
    else finish t .success { u with nvm.watts := (fieldOf 0 6 v).toNat } := if_neg (by simp [notVf])

theorem setKeyBinding_checked {k v : W32} (notVf : isVf t.src = false) :
    setKeyBinding t false k v u = withNs t k.toNat (bindKey t k.toNat v) u := by
  unfold setKeyBinding
  rw [if_neg Bool.false_ne_true, if_neg (by simp [notVf])]

theorem keyBinding_bound {v : W32} (visible : visibleNs u i = some n) (bind : v.getLsbD 31 = true)
    (slot : (fieldOf 0 12 v).toNat < 2048) (may : mayBind u t.src (fieldOf 0 12 v).toNat = true)
    (loaded : (keySlot u (fieldOf 0 12 v).toNat).gen ≠ 0)
    (unbound : ∀ e ∈ u.tab.nss, e.1 ≠ i → e.2.slot ≠ some (fieldOf 0 12 v).toNat)
    (empty : nsHoldsData u i = false) :
    (nsOf (bindKey t i v n u) i).map (·.slot) = some (some (fieldOf 0 12 v).toNat) ∧
      (bindKey t i v n u).media = u.media := by
  have others :
      (u.tab.nss.any fun e => decide (e.1 ≠ i) && decide (e.2.slot = some (fieldOf 0 12 v).toNat)) = false := by
    simpa using unbound
  have done (w : State) : (finish t .success w).tab = w.tab := (finish_same t .success w).wholeTab rfl
  have changed (w : State) : (ustChange (nsUnit i) w).tab = w.tab := (ustChange_same _ w).wholeTab rfl
  refine ⟨?_, ?_⟩
  · unfold bindKey
    dsimp only
    rw [if_pos bind, if_neg (by simpa [slot, may] using loaded), if_neg (by rw [others, empty]; simp),
      nsOf_congr (congrArg Tables.nss ((done _).trans (changed _))), nsOf_modNs _ (nsOf_visible visible)]
    rfl
  · exact (bindKey_same t i v n u).field .media rfl

end

end Sys2Proof.Machine

open Sys2Proof Sys2Proof.Machine

/-- Settles O28: each feature stored reads back in its scope, and each check answers its status. -/
theorem featuresAreSetAndRead : Obligations.FeaturesAreSetAndRead := by
  unfold Obligations.FeaturesAreSetAndRead
  have put {t : Tag} {s u : State} (x : W8) (v : W32) (d : BitVec 128) (g : Feats → Feats)
      (start : Safety.startOf t 0x09 0 s = some u) (named : Safety.namesCtrl t u) (known : featKnown x = true)
      (own : featDevice x = false) (notKey : x ≠ 0xD0) (notPower : x ≠ 0xD2)
      (body : setFeature t x 0 v d u = putFeat t g u) : ∃ w, exec (.setFeatures t x false 0 v d) s = .next w ∧
        (fnOf w (featFunc t)).ctrl.feats = g (fnOf u (featFunc t)).ctrl.feats :=
    ⟨_, (setFeatures_start v d start (fun _ => named) known notKey notPower (by simp [own])).trans
      (congrArg Host.Outcome.next body), putFeat_feats g⟩
  refine ⟨?arbitration, ?coalescing, ?hostId, ?threshold, ?saved, ?vf, ?getCoalescing, ?getPower, ?getTler, ?power,
    ?powerRange, ?binding⟩
  case arbitration =>
    intro t s u v d start named
    obtain ⟨w, run, feats⟩ := put 0x01 v d (fun x => { x with arbitration := v }) start named rfl rfl (by decide)
      (by decide) rfl
    exact ⟨w, run, by rw [feats]⟩
  case coalescing =>
    intro t s u v d start named
    obtain ⟨w, run, feats⟩ := put 0x08 v d (fun x => { x with coalesce := v }) start named rfl rfl (by decide)
      (by decide) rfl
    exact ⟨w, run, by rw [feats]⟩
  case hostId =>
    intro t s u v d start named extended
    obtain ⟨w, run, feats⟩ := put 0x81 v d (fun x => { x with hostId := d }) start named rfl rfl (by decide)
      (by decide) (if_pos extended)
    exact ⟨w, run, by rw [feats]⟩
  case threshold =>
    intro t s u v d start notVf composite high
    exact ⟨_, setFeatures_start v d start (fun own => absurd own (by decide)) rfl (by decide) (by decide)
      (by simp [notVf]),
      setTempThreshold_over composite high⟩
  case saved =>
    intro t s u x k v d start named known
    have powerSaved (v : W32) : setPowerLimit t true v u = finish t .featureNotSaveable u := rfl
    refine congrArg Host.Outcome.next ((onCtrl_start _ _ _ start named).trans ((if_neg (by simp [known])).trans ?_))
    by_cases key : x = 0xD0
    · exact (if_pos key).trans (if_pos rfl)
    · by_cases power : x = 0xD2
      · exact (if_neg key).trans ((if_pos power).trans (powerSaved v))
      · exact (if_neg key).trans ((if_neg power).trans (if_pos rfl))
  case vf =>
    intro t s u x k v d start named device vf
    have known : featKnown x = true := by
      have listed : ∀ y : W8, featDevice y = true → featKnown y = true := by decide
      exact listed x device
    have keyDenied : setKeyBinding t false k v u = finish t .featureNotChangeable u := if_pos vf
    have powerDenied : setPowerLimit t false v u = finish t .featureNotChangeable u := if_pos vf
    refine congrArg Host.Outcome.next ((onCtrl_start _ _ _ start named).trans ((if_neg (by simp [known])).trans ?_))
    by_cases key : x = 0xD0
    · exact (if_pos key).trans keyDenied
    · by_cases power : x = 0xD2
      · exact (if_neg key).trans ((if_pos power).trans powerDenied)
      · exact (if_neg key).trans ((if_neg power).trans
          ((if_neg Bool.false_ne_true).trans (if_pos (by simp [device, vf]))))
  case getCoalescing =>
    intro t s u v start named
    exact congrArg Host.Outcome.next (onCtrl_start _ _ _ start named)
  case getPower =>
    intro t s u v start
    exact congrArg Host.Outcome.next ((runAdmin_start _ _ start (every_allowed t)).trans (onCtrl_device _))
  case getTler =>
    intro t s u k v n start visible
    refine congrArg Host.Outcome.next ((runAdmin_start _ _ start (every_allowed t)).trans ((onCtrl_device _).trans ?_))
    show getNsFeat t k (fun n => n.tler) u = _
    unfold getNsFeat
    rw [visible]
  case power =>
    intro t s u v start notVf least most
    refine ⟨_, congrArg Host.Outcome.next ((runAdmin_start _ _ start (every_allowed t)).trans
      ((setPowerLimit_checked notVf).trans (if_neg (by omega)))), ?_, ?_, ?_⟩
    · rw [finish_success_nvm]
    · exact (finish_same t .success _).wholeTab rfl
    · exact (finish_same t .success _).field .media rfl
  case powerRange =>
    intro t s u v start notVf out
    exact congrArg Host.Outcome.next ((runAdmin_start _ _ start (every_allowed t)).trans
      ((setPowerLimit_checked notVf).trans (if_pos out)))
  case binding =>
    intro t s u k v n start notVf visible kept free bind slot may loaded unbound empty
    refine ⟨_, congrArg Host.Outcome.next ((runAdmin_start _ _ start (every_allowed t)).trans
      ((setKeyBinding_checked notVf).trans (withNs_open _ visible kept free))),
      keyBinding_bound visible bind slot may loaded unbound empty⟩

end

section
/-! SUPPORT. Namespace Management and Attachment: the table of namespaces and the map after each (R335 to R344). -/
namespace Sys2Proof.Machine

/-! ## Reading the tables after an operation that keeps them -/

theorem Same.nsOf {l : List Field} {s v : State} (h : Same l s v) (k : (!l.contains .tabNss) = true) (i : Nat) :
    nsOf v i = nsOf s i := nsOf_congr (h.field .tabNss k) i

theorem Same.mapOf {l : List Field} {s v : State} (h : Same l s v) (k : (!l.contains .tabMap) = true) (i : Nat) :
    mapOf v i = mapOf s i := by
  unfold Sys2Proof.Machine.mapOf
  rw [(h.field .tabMap k).1]

/-- Entries whose keys are kept are found as before, the others are gone. -/
theorem Sparse.look_filter {α : Type} (keep : Nat → Bool) (i : Nat) : ∀ t : Sparse α,
    Sparse.look (t.filter fun e => keep e.1) i = if keep i then Sparse.look t i else none
  | [] => by simp [Sparse.look]
  | (j, v) :: r => by
    by_cases here : j = i
    · subst here
      cases kept : keep j <;> simp [Sparse.look, kept, Sparse.look_filter keep j r]
    · cases kept : keep j <;> simp [Sparse.look, kept, here, Sparse.look_filter keep i r]

/-- Nothing of a namespace's data is mapped once it was dropped. -/
theorem mapOf_dropNsData (k : Nat) (s : State) {i : Nat} (own : iuNs i = k) : mapOf (dropNsData k s) i = mapNone := by
  have gone : Sparse.look (dropNsData k s).tab.map i = none :=
    (Sparse.look_filter (fun x => !decide (iuNs x = k)) i s.tab.map).trans (if_neg (by simp [own]))
  unfold mapOf Sparse.read
  rw [gone]
  rfl

theorem nsOf_erase (k i : Nat) (s : State) :
    nsOf { s with tab.nss := Sparse.erase s.tab.nss k } i = if i = k then none else nsOf s i := Sparse.look_erase ..

theorem nsOf_removeNs (k : Nat) (s : State) : nsOf (removeNs k s) k = none := by
  unfold removeNs
  rw [(ustChange_same _ _).nsOf rfl, (markDelta_same _).nsOf rfl, (dropNsData_same _ _).nsOf rfl, nsOf_erase,
    if_pos rfl]

theorem mapOf_removeNs (k : Nat) (s : State) {i : Nat} (own : iuNs i = k) : mapOf (removeNs k s) i = mapNone := by
  unfold removeNs
  rw [(ustChange_same _ _).mapOf rfl, (markDelta_same _).mapOf rfl, mapOf_dropNsData k _ own]

section
variable {t : Tag} {s u : State} {n : Ns}

/-! ## The commands -/

theorem notInSanitize_free (k : State → State) (free : u.nvm.sanitize = none) : notInSanitize t k u = k u :=
  if_neg (by simp [free])

/-- A command of the PFs and the path that starts while no sanitize operation runs. -/
theorem managed_start {op : W8} {nsid : W32} (i : Instr) (k : State → State)
    (start : Safety.startOf t op nsid s = some u)
    (may : Safety.allowed true false true t = true) (free : u.nvm.sanitize = none) :
    runAdmin i t op nsid true false true (notInSanitize t k) s = k u :=
  (runAdmin_start i _ start may).trans (notInSanitize_free k free)

/-- A namespace as Create makes it. -/
def newNs (c : NewNs) (x : Nat) : Ns :=
  { index := x, nsze := c.nsze, ncap := c.ncap, lbaf := c.lbaf.toNat, iu := c.iuCode.toNat, priv := c.priv,
    attached := [], state := .active, slot := none, rsv := Rsv.none, tler := 0, rsvMask := 0, job := none }

theorem createNs_made {c : NewNs} {i x : Nat} (iu : c.iuCode.toNat ≤ 2) (format : c.lbaf.toNat ≤ 3)
    (fits : lbaBytes c.lbaf.toNat ≤ iuBytes c.iuCode.toNat) (size : c.nsze ≠ 0) (cap : c.ncap.toNat ≤ c.nsze.toNat)
    (small : c.iuCode.toNat = 1 → cap4k u + c.nsze.toNat * lbaBytes c.lbaf.toNat ≤ 2 ^ 44)
    (room : (c.nsze.toNat * lbaBytes c.lbaf.toNat + iuBytes c.iuCode.toNat - 1) / iuBytes c.iuCode.toNat *
      iuBytes c.iuCode.toNat ≤ unallocated u)
    (id : lowestFree 1 1024 (u.tab.nss.map (·.1)) = some i)
    (index : lowestFree 0 1024 (u.tab.nss.map fun e => e.2.index) = some x) :
    createNs t c u = complete t .success (BitVec.ofNat 32 i) (ustChange (nsUnit i) (markDelta { u with
      tab.nss := Sparse.set u.tab.nss i (newNs c x) })) := by
  unfold createNs
  dsimp only
  rw [if_neg (by omega), if_neg (by omega), if_neg (by omega), if_neg (by simpa using And.intro size cap),
    if_neg (fun h => absurd (small h.1) (by omega)), if_neg (by exact Nat.not_lt.mpr room), id, index] <;> rfl

theorem nsOf_beginDelete {i : Nat} (found : nsOf u i = some n) :
    nsOf (beginDelete t i u) i = some { n with state := .deleting, job := some (.delete t) } := by
  unfold beginDelete
  rw [(ustChange_same _ _).nsOf rfl, nsOf_modNs _ found]

/-- Changing who a namespace is attached to and telling the controllers. -/
theorem nsOf_told {i : Nat} (g : Ns → Ns) (l : List Nat) (found : nsOf u i = some n) :
    nsOf (finish t .success (tellChanged i l (ustChange (nsUnit i) (modNs i g u)))) i = some (g n) := by
  rw [(finish_same _ _ _).nsOf rfl, (tellChanged_same _ _ _).nsOf rfl, (ustChange_same _ _).nsOf rfl,
    nsOf_modNs g found]

theorem attachNs_attached {i : Nat} {l : List Nat} (found : nsOf u i = some n) (new : ∀ c ∈ l, c ∉ n.attached)
    (shared : n.priv = false) :
    (nsOf (attachNs t i l n u) i).map (·.attached) = some (n.attached ++ l.eraseDups) := by
  unfold attachNs
  rw [if_neg (by simpa using new), if_neg (by simp [shared]), nsOf_told _ _ found]
  rfl

theorem detachNs_detached {i : Nat} {l : List Nat} (found : nsOf u i = some n) (there : ∀ c ∈ l, c ∈ n.attached) :
    (nsOf (detachNs t i l n u) i).map (·.attached) = some (n.attached.filter fun c => !l.contains c) := by
  unfold detachNs
  rw [if_neg (by simpa using there), nsOf_told _ _ found]
  rfl

/-- An attachment whose namespace and controllers exist. -/
theorem attachment_start {k : W32} {l : List Nat} (b : Bool) (start : Safety.startOf t 0x15 k s = some u)
    (may : Safety.allowed true false true t = true) (free : u.nvm.sanitize = none)
    (visible : visibleNs u k.toNat = some n)
    (kept : n.state ≠ .deleting) (unexported : nsInExport u k.toNat = false) (some' : l ≠ [])
    (exist : ∀ c ∈ l, 1 ≤ c ∧ c ≤ 256) : exec (.namespaceAttachment t k b l) s =
      .next (if b then attachNs t k.toNat l n u else detachNs t k.toNat l n u) := by
  have listed : (l.isEmpty || !(l.all ctrlExists)) = false := by
    simp only [Bool.or_eq_false_iff, List.isEmpty_eq_false_iff, ne_eq, some', not_false_eq_true, Bool.not_eq_false',
      List.all_eq_true, ctrlExists, decide_eq_true_eq, true_and]
    exact exist
  refine congrArg Host.Outcome.next ((managed_start _ _ start may free).trans
    ((withNs_open _ visible kept unexported).trans ?_))
  exact if_neg (by simp [listed])

end

end Sys2Proof.Machine

open Sys2Proof Sys2Proof.Machine

/-- Settles O29: the table of namespaces is read after each command through the operations that keep it. -/
theorem namespaceCommandsComplete : Obligations.NamespaceCommandsComplete := by
  unfold Obligations.NamespaceCommandsComplete
  refine ⟨?create, ?delete, ?absent, ?gone, ?busy, ?attach, ?detach⟩
  case create =>
    intro t s u c i x start may free iu format fits size cap small room id index
    refine ⟨_, newNs c x, congrArg Host.Outcome.next ((managed_start _ _ start may free).trans
      (createNs_made iu format fits size cap small room id index)), ?_, rfl, rfl, rfl, rfl, rfl, rfl, rfl, rfl, rfl,
      ?_, ?_⟩
    · rw [(complete_same _ _ _ _).nsOf rfl, (ustChange_same _ _).nsOf rfl, (markDelta_same _).nsOf rfl, nsOf_set,
        if_pos rfl]
    · intro j other
      rw [(complete_same _ _ _ _).nsOf rfl, (ustChange_same _ _).nsOf rfl, (markDelta_same _).nsOf rfl, nsOf_set,
        if_neg other]
    · exact (complete_same _ _ _ _).field .media rfl
  case delete =>
    intro t s u k n start may free single visible kept unexported
    refine ⟨_, congrArg Host.Outcome.next ((managed_start _ _ start may free).trans ((if_neg single).trans
      (withNs_open _ visible kept unexported))), nsOf_beginDelete (nsOf_visible visible), ?_⟩
    exact (beginDelete_same t k.toNat u).field .media rfl
  case absent =>
    intro t s u k start may free single absent
    exact congrArg Host.Outcome.next ((managed_start _ _ start may free).trans ((if_neg single).trans
      (withNs_absent _ absent)))
  case gone =>
    intro s k n t run found job idle
    have body : exec (.namespaceDeleteComplete k) s =
        .next (finishJob t .success (tellChanged k.toNat n.attached (removeNs k.toNat s))) := by
      show execNamespaceDeleteComplete k s = _
      unfold execNamespaceDeleteComplete
      dsimp only
      rw [found]
      dsimp only
      rw [job]
      dsimp only
      rw [if_neg (by simp [run, idle])]
    refine ⟨_, body, ?_, ?_, ?_⟩
    · rw [(finishJob_same _ _ _).nsOf rfl, (tellChanged_same _ _ _).nsOf rfl, nsOf_removeNs]
    · intro i own
      rw [(finishJob_same _ _ _).mapOf rfl, (tellChanged_same _ _ _).mapOf rfl, mapOf_removeNs _ _ own]
    · exact ((finishJob_same _ _ _).field .media rfl).trans
        (((tellChanged_same _ _ _).field .media rfl).trans ((removeNs_same _ _).field .media rfl))
  case busy =>
    intro s k n t found job busy
    show execNamespaceDeleteComplete k s = _
    unfold execNamespaceDeleteComplete
    dsimp only
    rw [found]
    dsimp only
    rw [job]
    dsimp only
    rw [if_pos (by simp [busy])]
  case attach =>
    intro t s u k n l start may free visible kept unexported some' new shared
    refine ⟨_, attachment_start true start may free visible kept unexported some'
      (fun c mem => ⟨(new c mem).1, (new c mem).2.1⟩),
      attachNs_attached (nsOf_visible visible) (fun c mem => (new c mem).2.2) shared, ?_⟩
    exact (attachNs_same t k.toNat l n u).field .media rfl
  case detach =>
    intro t s u k n l start may free visible kept unexported some' there
    refine ⟨_, attachment_start false start may free visible kept unexported some'
      (fun c mem => ⟨(there c mem).1, (there c mem).2.1⟩), detachNs_detached (nsOf_visible visible)
      (fun c mem => (there c mem).2.2), ?_⟩
    exact (detachNs_same t k.toNat l n u).field .media rfl

end

section
/-! SUPPORT. Tenants' resources, the self-test, Format and Sanitize (R313, R329, R330, R340 to R344, R446). -/
namespace Sys2Proof.Machine

/-! ## Completions and functions -/

/-- A completion of any source leaves of a function what posting leaves. -/
theorem complete_leaves (t : Tag) (st : Status) (dw0 : W32) (f : Func) (s : State) : Posted f s
    (complete t st dw0 s) := by
  cases src : t.src with
  | mgt => exact .of_fns (complete_mgt_fns src st dw0 s)
  | fn g =>
    by_cases same : unitOf f = unitOf g
    · have read (v : State) : fnOf v f = fnOf v g := by
        unfold fnOf
        rw [same]
      obtain ⟨p, b, i, l, posted, cqs⟩ := complete_posted s src st dw0
      exact ⟨p, b, i, l, by rw [read, read, posted], by rw [read]; exact cqs⟩
    · exact ⟨_, _, _, _, complete_beside src st dw0 s f same, .refl _⟩

/-- Resources of a function. -/
theorem Posted.resources {f : Func} {s t : State} (h : Posted f s t) :
    (fnOf t f).vq = (fnOf s f).vq ∧ (fnOf t f).vi = (fnOf s f).vi ∧ (fnOf t f).online = (fnOf s f).online ∧
    (fnOf t f).ctrl.en = (fnOf s f).ctrl.en := by
  obtain ⟨p, b, i, l, h, -⟩ := h
  rw [h]
  exact ⟨rfl, rfl, rfl, rfl⟩

section
variable {t : Tag} {f : Func} {s u : State} {n : Nat}

/-- A function changed, its unit marked and the command completed. -/
theorem changed_resources (g : Fn → Fn) (d : W32) :
    (fnOf (complete t .success d (ustChange (unitOf f) (modFn f g u))) f).vq = (g (fnOf u f)).vq ∧
    (fnOf (complete t .success d (ustChange (unitOf f) (modFn f g u))) f).vi = (g (fnOf u f)).vi ∧
    (fnOf (complete t .success d (ustChange (unitOf f) (modFn f g u))) f).online = (g (fnOf u f)).online ∧
    (fnOf (complete t .success d (ustChange (unitOf f) (modFn f g u))) f).ctrl.en = (g (fnOf u f)).ctrl.en := by
  have read : fnOf (ustChange (unitOf f) (modFn f g u)) f = g (fnOf u f) := by
    rw [fnOf_congr ((ustChange_same _ _).field .fns rfl), fnOf_modFn]
  rw [← read]
  exact (complete_leaves t .success d f _).resources

theorem assignTo_done (vq : Bool) (virtual : f.vf ≠ 0) (few : f.vf ≤ 127) (may : manages t.src f = true)
    (offline : (fnOf u f).online = false) (least : (if vq then 2 else 1) ≤ n) (most : n ≤ 64)
    (room : if vq then vqTaken u f + n ≤ 1792 else viTaken u f + n ≤ 2048) :
    assignTo t f vq n u = complete t .success (BitVec.ofNat 32 n)
      (ustChange (unitOf f) (modFn f (fun x => if vq then { x with vq := n } else { x with vi := n }) u)) := by
  unfold assignTo
  rw [if_neg (by simp [virtual, few, may]), if_neg (by simp [offline]), if_neg]
  cases vq
  · simp only [Bool.false_eq_true, if_false] at least room ⊢
    omega
  · simp only [if_true] at least room ⊢
    omega

theorem vfOnline_done (virtual : f.vf ≠ 0) (few : f.vf ≤ 127) (may : manages t.src f = true)
    (there : fnPresent u f = true) (vq : 2 ≤ (fnOf u f).vq) (vi : 1 ≤ (fnOf u f).vi)
    (kept : (fnOf u f).retired = false) : (fnOf (vfOnline t f u) f).online = true := by
  unfold vfOnline
  dsimp only
  rw [if_neg (by simp [virtual, few, may])]
  split
  · next online => exact ((complete_leaves t .success 0 f u).resources.2.2.1).trans online
  · rw [if_neg (by simp [there, kept]; omega)]
    exact (changed_resources (t := t) (f := f) (u := u) (fun x => { x with online := true }) 0).2.2.1

/-- What a controller reset does after it cleared the controller. -/
theorem resetEnd_en (f : Func) (v : State) :
    (fnOf (endDownloadOf f (ustChange (unitOf f) (intxFollow f v))) f).ctrl.en = (fnOf v f).ctrl.en := by
  rw [fnOf_congr ((endDownloadOf_same _ _).field .fns rfl), fnOf_congr ((ustChange_same _ _).field .fns rfl)]
  obtain ⟨-, -, -, en⟩ := (Posted.of_signalled (intxFollow_signalled f v)).resources
  exact en

/-- A controller that was reset is disabled. -/
theorem resetCtrl_disabled (f : Func) (s : State) : (fnOf (resetCtrl f s) f).ctrl.en = false := by
  unfold resetCtrl
  dsimp only
  rw [resetEnd_en, fnOf_modFn]
  exact (rfl : Ctrl.reset.en = false)

theorem vfOffline_done (virtual : f.vf ≠ 0) (few : f.vf ≤ 127) (may : manages t.src f = true) :
    (fnOf (vfOffline t f u) f).online = false ∧
    ((fnOf u f).online = true → (fnOf (vfOffline t f u) f).ctrl.en = false) := by
  unfold vfOffline
  rw [if_neg (by simp [virtual, few, may])]
  cases online : (fnOf u f).online with
  | false =>
    rw [if_pos (by rfl)]
    exact ⟨((complete_leaves t .success 0 f u).resources.2.2.1).trans online, fun h => absurd h Bool.false_ne_true⟩
  | true =>
    rw [if_neg (by simp)]
    obtain ⟨-, -, off, en⟩ := changed_resources (t := t) (u := resetCtrl f u) (f := f)
        (fun x => { x with online := false }) 0
    dsimp only at off en
    exact ⟨off, fun _ => en.trans (resetCtrl_disabled f u)⟩

/-! ## Self-test -/

theorem selfTest_started {c : BitVec 4} (code : c = 1 ∨ c = 2) (idle : u.nvm.selfTest = none) :
    (selfTest t c u).nvm.selfTest = some (t, c) := by
  unfold selfTest
  rw [idle]
  rcases code with rfl | rfl
  · exact congrArg Nvm.selfTest (finish_success_nvm _)
  · exact congrArg Nvm.selfTest (finish_success_nvm _)

/-! ## Format -/

theorem formatNvm_started {k : W32} {b : BitVec 4} {m : Ns} (start : Safety.startOf t 0x80 k s = some u)
    (free : u.nvm.sanitize = none) (single : k ≠ 0xFFFFFFFF) (visible : visibleNs u k.toNat = some m)
    (checked : formatCheck u t.src k.toNat b.toNat 1 m = none) : exec (.formatNvm t k b 1) s =
      .next (ustChange (nsUnit k.toNat)
        (modNs k.toNat (fun n => { n with state := .formatting, job := some (.format t b.toNat 1) }) u)) := by
  have targets : formatTargets u k = [(k.toNat, m)] := by
    unfold formatTargets
    rw [if_neg single, visible]
  refine congrArg Host.Outcome.next ((runAdmin_start _ _ start (every_allowed t)).trans
    ((notInSanitize_free _ free).trans ?_))
  dsimp only
  have one : (1 : BitVec 3).toNat = 1 := rfl
  have unrefused : [(k.toNat, m)].findSome? (fun e => formatCheck u t.src e.1 b.toNat 1 e.2) = none := by
    simp [checked]
  rw [targets, if_neg (by decide), if_neg (by simp), one, unrefused]
  exact if_neg (by decide)

/-- A format without a key change empties the namespace and gives it its format. -/
theorem formatComplete_done {k : W32} {b : Nat} {m : Ns} (run : running s = true) (found : nsOf s k.toNat = some m)
    (job : m.job = some (.format t b 1)) (idle : nsBusy s k.toNat = false) : ∃ v, exec (.formatNvmComplete k true) s =
      .next (finishJob t .success (tellChanged k.toNat m.attached (ustChange (nsUnit k.toNat) (dirtyAll k.toNat v)))) ∧
      nsOf v k.toNat = some (formatted b m) ∧ (∀ i, iuNs i = k.toNat → mapOf v i = mapNone) ∧ v.media = s.media := by
  have kept : nsOf (dropNsData k.toNat { s with
      hold.lostKeys := s.hold.lostKeys.filter fun x => !decide (iuNs x = k.toNat) }) k.toNat = some m :=
    ((dropNsData_same _ _).nsOf rfl _).trans found
  refine ⟨_, ?_, nsOf_modNs (formatted b) kept, ?_, ?_⟩
  · show execFormatNvmComplete k true s = _
    unfold execFormatNvmComplete
    dsimp only
    rw [found]
    dsimp only
    rw [job]
    exact congrArg Host.Outcome.next ((if_neg (by simp [formatDraws, run, idle])).trans
        (if_neg (by simp [formatDraws])))
  · intro i own
    rw [(modNs_same _ _ _).mapOf rfl, mapOf_dropNsData _ _ own]
  · exact ((modNs_same _ _ _).field .media rfl).trans ((dropNsData_same _ _).field .media rfl)

theorem formatComplete_waits {k : W32} {b i : Nat} {m : Ns} (found : nsOf s k.toNat = some m)
    (job : m.job = some (.format t b 2)) (keyed : m.slot = some i) (waits : entropyWaits s = true) :
    exec (.formatNvmComplete k true) s = .next s := by
  show execFormatNvmComplete k true s = _
  unfold execFormatNvmComplete
  dsimp only
  rw [found]
  dsimp only
  rw [job]
  exact congrArg Host.Outcome.next (if_pos (by simp [formatDraws, keyed, waits]))

/-! ## Sanitize -/

/-- What every step of a fold keeps, the fold keeps. -/
theorem foldl_keeps {α β : Type} (p : State → β) {g : State → α → State} (h : ∀ v a, p (g v a) = p v) :
    ∀ (l : List α) (v : State), p (l.foldl g v) = p v
  | [], _ => rfl
  | a :: l, v => (foldl_keeps p h l (g v a)).trans (h v a)

/-- An asynchronous event leaves the counters of the device. -/
theorem asyncEvent_nvm (e : AsyncEvt) (v : State) : (asyncEvent f e v).nvm = v.nvm := by
  have told (r : Tag) (d : W32) (w : State) : (complete r .success d w).nvm = w.nvm := by
    unfold complete
    rw [if_neg (by decide)]
    dsimp only
    split
    · exact (mgtRespond_same _ w).field .nvm rfl
    · exact (deliver_same _ _ _ _ w).field .nvm rfl
  unfold asyncEvent
  dsimp only
  split
  · rfl
  · split
    · rw [told, (noteAen_same _ _ _).field .nvm rfl]
      rfl
    · split
      · rfl
      · rfl

theorem beginSanitize_nvm (v : State) : (beginSanitize t false v).nvm.sanitize = some { crypto := false, tag := t } := by
  unfold beginSanitize
  rw [finish_success_nvm]

/-- No row, stripe or indirection unit is left. -/
def Emptied (v : State) : Prop := v.media.ius = [] ∧ v.media.stripes = [] ∧ v.ftl.rows = []

theorem Emptied.of_same {l : List Field} {v w : State} (h : Same l v w) (media : (!l.contains .media) = true)
    (rows : (!l.contains .ftlData) = true) (empty : Emptied v) : Emptied w := by
  obtain ⟨ius, stripes, none⟩ := empty
  have same := h.field .media media
  exact ⟨(congrArg Media.ius same).trans ius, (congrArg Media.stripes same).trans stripes,
    ((h.field .ftlData rows).2.2).trans none⟩

theorem freeBand_emptied (b : Nat) {v : State} (empty : Emptied v) : Emptied (freeBand b v) := by
  have erased (x : Band) {w : State} (empty : Emptied w) : Emptied (eraseBand b x w) := by
    have start : Emptied (dropStripes b w) := ⟨empty.1, by unfold dropStripes; rw [empty.2.1]; rfl, empty.2.2⟩
    unfold eraseBand
    exact start.of_same (Same.fold (l := [.tabDies, .flash]) (fun _ _ => (Same.call (queueOp_same _ _ _) (by decide)
      (Same.widen (by decide) (setDieTab_same _ _ _)))) _ (.refl _ _)) rfl rfl
  unfold freeBand
  split
  · exact empty
  · next x _ =>
    exact Emptied.of_same (noteFree_same _ _) rfl rfl (.of_same (markDelta_same _) rfl rfl (erased x empty))

theorem eraseAll_emptied (v : State) : Emptied (eraseAll v) := by
  have bands : ∀ (l : List Nat) {w : State}, Emptied w → Emptied (l.foldl (fun s b => freeBand b s) w) := fun l => by
    induction l with
    | nil => exact id
    | cons b l ih => exact fun empty => ih (freeBand_emptied b empty)
  unfold eraseAll
  exact bands _ ⟨rfl, rfl, rfl⟩

theorem leaveOffline_online (v : State) : (leaveOffline v).tab.offline = false := by
  have later (w : State) : (event 0x0040 39 0 (ustChange arrayUnit (markDelta w))).tab = w.tab :=
    ((event_same _ _ _ _).wholeTab rfl).trans (((ustChange_same _ _).wholeTab rfl).trans
      ((markDelta_same w).wholeTab rfl))
  unfold leaveOffline
  split
  · next online => simpa using online
  · dsimp only
    rw [later]

/-- The sanitize operation ends: its outcome is stored, the namespaces are Active again and the controller is told. -/
def sanitizeEnd (z : Sanitize) (ok : Bool) (v : State) : State :=
  let v := { v with nvm.sanitize := none, nvm.sanitized := v.nvm.sanitized || ok, nvm.sanitizeFailed := !ok }
  let v := (v.tab.nss.filter fun e => decide (e.2.state = .sanitizing)).foldl
    (fun s e => ustChange (nsUnit e.1) (modNs e.1 (fun n => { n with state := .active }) s)) v
  match funcOf? z.tag.src with
  | some f => asyncEvent f { etype := 6, info := 1, lid := 0x81 } v
  | none => v

theorem sanitizeEnd_nvm (z : Sanitize) (ok : Bool) (v : State) : (sanitizeEnd z ok v).nvm.sanitize = none ∧
    (sanitizeEnd z ok v).nvm.sanitized = (v.nvm.sanitized || ok) ∧ (sanitizeEnd z ok v).nvm.sanitizeFailed = !ok := by
  have marks (l : List (Nat × Ns)) (w : State) := foldl_keeps
    (fun w : State => (w.nvm.sanitize, w.nvm.sanitized, w.nvm.sanitizeFailed))
    (g := fun s (e : Nat × Ns) => ustChange (nsUnit e.1) (modNs e.1 (fun n => { n with state := .active }) s))
    (fun w e => by
      have kept := (modNs_same e.1 (fun n => { n with state := .active }) w).field .nvm rfl
      show ((modNs e.1 _ w).nvm.sanitize, (modNs e.1 _ w).nvm.sanitized, (modNs e.1 _ w).nvm.sanitizeFailed) = _
      rw [kept]) l w
  simp only [Prod.mk.injEq] at marks
  unfold sanitizeEnd
  dsimp only
  split
  · rw [asyncEvent_nvm]
    exact marks _ _
  · exact marks _ _

theorem sanitizeEnd_same (z : Sanitize) (ok : Bool) (v : State) :
    Same [.fns, .nvm, .tabNss, .hold, .ksc, .evs0, .evs1, .out] v (sanitizeEnd z ok v) := by
  have marks (l : List (Nat × Ns)) (w : State) : Same [.fns, .nvm, .tabNss, .hold, .ksc, .evs0, .evs1, .out] w
      (l.foldl (fun s (e : Nat × Ns) => ustChange (nsUnit e.1) (modNs e.1 (fun n => { n with state := .active }) s))
        w) :=
    Same.fold (fun _ _ => (Same.call (ustChange_same _ _) (by decide) (Same.widen (by decide) (modNs_same _ _ _)))) _
      (.refl _ _)
  unfold sanitizeEnd
  dsimp only
  split
  · exact Same.call (asyncEvent_same _ _ _) (by decide) (Same.call (marks _ _) (by decide) (.put (.refl _ _) rfl))
  · exact Same.call (marks _ _) (by decide) (.put (.refl _ _) rfl)

theorem regenerate_failed_media (l : List Nat) (v : State) : (regenerate l false v).media = v.media := by
  unfold regenerate
  split
  · rfl
  · rw [if_neg Bool.false_ne_true]
    exact (Same.fold (l := [.evr, .ksc, .evs0, .evs1, .free]) (fun _ _ => event_same _ _ _ _) _
      (Same.widen (by decide) (drawn_same _ _))).field .media rfl

/-- A Block Erase that succeeds empties the array and takes it out of Offline. -/
theorem sanitizeComplete_erased {z : Sanitize} (run : running s = true) (found : s.nvm.sanitize = some z)
    (block : z.crypto = false) :
    exec (.sanitizeComplete true) s = .next (sanitizeEnd z true (leaveOffline (eraseAll s))) := by
  have none' : sanitizeDraws s z = [] := if_neg (by simp [block])
  show execSanitizeComplete true s = _
  unfold execSanitizeComplete
  rw [found]
  dsimp only
  rw [none', if_neg (by simp [run])]
  have keyed : regenerate [] true s = s := rfl
  simp only [List.isEmpty_nil, Bool.true_or, Bool.and_self, if_true, block, Bool.not_false, keyed]
  exact congrArg Host.Outcome.next rfl

/-- A sanitize operation that fails leaves the array. -/
theorem sanitizeComplete_failed {z : Sanitize} (run : running s = true) (found : s.nvm.sanitize = some z)
    (ready : z.crypto = false ∨ entropyWaits s = false) : ∃ v,
    exec (.sanitizeComplete false) s = .next (sanitizeEnd z false v) ∧ v.media = s.media := by
  have goes : (!running s || (!(sanitizeDraws s z).isEmpty && entropyWaits s)) = false := by
    rcases ready with block | ready
    · simp [run, sanitizeDraws, block]
    · simp [run, ready]
  have kept (b : Bool) : (if b then regenerate (sanitizeDraws s z) false s else s).media = s.media := by
    cases b
    · rfl
    · exact regenerate_failed_media _ s
  refine ⟨_, ?_, kept ((sanitizeDraws s z).isEmpty || decide (s.trust.rng = .healthy))⟩
  show execSanitizeComplete false s = _
  unfold execSanitizeComplete
  rw [found]
  dsimp only
  rw [goes]
  simp only [Bool.false_and, Bool.false_eq_true, if_false]
  exact congrArg Host.Outcome.next rfl

end

end Sys2Proof.Machine

open Sys2Proof Sys2Proof.Machine

/-- Settles O30: resources, self-test, Format and Sanitize, each from the equation of its command. -/
theorem deviceOperationsComplete : Obligations.DeviceOperationsComplete := by
  unfold Obligations.DeviceOperationsComplete
  refine ⟨?assignVq, ?assignVi, ?online, ?offline, ?test, ?tested, ?format, ?formatted, ?formatWaits, ?sanitize,
      ?erased,
    ?failed, ?waits⟩
  case assignVq =>
    intro t s u f n start may virtual few manager offline least most room
    obtain ⟨vq, vi, -⟩ := changed_resources (t := t) (f := f) (u := u) (fun x => { x with vq := n }) (BitVec.ofNat 32 n)
    exact ⟨_, congrArg Host.Outcome.next ((runAdmin_start _ _ start may).trans
      (assignTo_done true virtual few manager offline least most room)), vq, vi⟩
  case assignVi =>
    intro t s u f n start may virtual few manager offline least most room
    obtain ⟨vq, vi, -⟩ := changed_resources (t := t) (f := f) (u := u) (fun x => { x with vi := n }) (BitVec.ofNat 32 n)
    exact ⟨_, congrArg Host.Outcome.next ((runAdmin_start _ _ start may).trans
      (assignTo_done false virtual few manager offline least most room)), vi, vq⟩
  case online =>
    intro t s u f start may virtual few manager there vq vi kept
    exact ⟨_, congrArg Host.Outcome.next (runAdmin_start _ _ start may),
      vfOnline_done virtual few manager there vq vi kept⟩
  case offline =>
    intro t s u f start may virtual few manager
    exact ⟨_, congrArg Host.Outcome.next (runAdmin_start _ _ start may), vfOffline_done virtual few manager⟩
  case test =>
    intro t s u c start may free code idle
    exact ⟨_, congrArg Host.Outcome.next (managed_start _ _ start may free), selfTest_started code idle⟩
  case tested =>
    intro s r t c run found
    refine ⟨logSelfTest r c s, ?_, rfl, rfl, logSelfTest_same r c s⟩
    show execDeviceSelfTestComplete r s = _
    unfold execDeviceSelfTestComplete
    rw [found]
    exact congrArg Host.Outcome.next (if_pos run)
  case format =>
    intro t s u k n b start free single visible checked
    refine ⟨_, formatNvm_started start free single visible checked, ?_, ?_⟩
    · rw [(ustChange_same _ _).nsOf rfl, nsOf_modNs _ (nsOf_visible visible)]
    · exact ((ustChange_same _ _).field .media rfl).trans ((modNs_same _ _ _).field .media rfl)
  case formatted =>
    intro s k n t b run found job idle
    obtain ⟨v, body, ns, map, media⟩ := formatComplete_done run found job idle
    have told : Same [.fns, .nvm, .mqt, .ksc, .evs0, .evs1, .out] v (finishJob t .success
        (tellChanged k.toNat n.attached (ustChange (nsUnit k.toNat) (dirtyAll k.toNat v)))) :=
      Same.call (finishJob_same _ _ _) (by decide) (Same.call (tellChanged_same _ _ _) (by decide)
        (Same.call (ustChange_same _ _) (by decide) (Same.widen (by decide) (dirtyAll_same _ _))))
    exact ⟨_, body, (told.nsOf rfl _).trans ns, fun i own => (told.mapOf rfl i).trans (map i own),
      (told.field .media rfl).trans media⟩
  case formatWaits =>
    intro s k n t b i found job keyed waits
    exact formatComplete_waits found job keyed waits
  case sanitize =>
    intro t s u start may free imports idle
    have open' : ((u.mqt.sess.any fun x => !x.imp) ∨ u.tab.nss.any fun e => e.2.job.isSome) ↔ False := by
      simp only [List.any_eq_true, Bool.not_eq_true', iff_false, not_or, not_exists, not_and]
      exact ⟨fun x mem => by simp [imports x mem], fun e mem => by simp [idle e mem]⟩
    refine ⟨beginSanitize t false u, congrArg Host.Outcome.next ((managed_start _ _ start may free).trans ?_),
      beginSanitize_nvm u, (beginSanitize_same t false u).field .media rfl⟩
    exact (if_neg (by decide)).trans ((if_neg (by simp)).trans ((if_neg open'.mp).trans (if_neg (by decide))))
  case erased =>
    intro s z run found block
    refine ⟨_, sanitizeComplete_erased run found block, ?_⟩
    obtain ⟨none', done, failed⟩ := sanitizeEnd_nvm z true (leaveOffline (eraseAll s))
    have empty := ((eraseAll_emptied s).of_same (leaveOffline_same _) rfl rfl).of_same (sanitizeEnd_same z true _)
        rfl rfl
    obtain ⟨ius, stripes, rows⟩ := empty
    obtain ⟨-, -, -, -, -, -, offline, -⟩ := (sanitizeEnd_same z true (leaveOffline (eraseAll s))).field .tab rfl
    exact ⟨none', done.trans (Bool.or_true _), failed, ius, stripes, rows, fun _ =>
      offline.trans (leaveOffline_online _)⟩
  case failed =>
    intro s z run found ready
    obtain ⟨v, body, media⟩ := sanitizeComplete_failed run found ready
    obtain ⟨none', -, failed⟩ := sanitizeEnd_nvm z false v
    exact ⟨_, body, none', failed, congrArg Media.ius (((sanitizeEnd_same z false v).field .media rfl).trans media)⟩
  case waits =>
    intro s z i r found crypto keyed waits
    obtain ⟨e, mem, slot⟩ := keyed
    have some' : sanitizeDraws s z ≠ [] := by
      intro empty
      have all : ∀ x ∈ s.tab.nss, x.2.slot = none := by simpa [sanitizeDraws, crypto] using empty
      simp [all e mem] at slot
    show execSanitizeComplete r s = _
    unfold execSanitizeComplete
    rw [found]
    exact congrArg Host.Outcome.next (if_pos (by simp [some', waits]))

end

section
/-! SUPPORT. Writes that wait for media, and Flush: the items of the write-through queue that a command leaves (R34,
R314,
R402, R509). -/
namespace Sys2Proof.Machine

/-! ## Write-through -/

/-- From `s` to `v` a command queued `k` write-through items and left the cache. -/
def QueuedThrough (t : Tag) (forced : Bool) (k : Nat) (s v : State) : Prop :=
  (∃ l : List WtItem, v.ftl.wt = s.ftl.wt ++ l ∧ l.length = k ∧ ∀ w ∈ l, w.tag = some t ∧ w.forced = forced) ∧
  v.ftl.cache = s.ftl.cache ∧ v.hold.wtWrites = s.hold.wtWrites ∧ v.fns = s.fns ∧ v.out = s.out

section
variable {t : Tag} {forced : Bool} {k j : Nat} {s u v : State}

theorem QueuedThrough.none (t : Tag) (forced : Bool) (s : State) : QueuedThrough t forced 0 s s :=
  ⟨⟨[], by simp⟩, rfl, rfl, rfl, rfl⟩

theorem QueuedThrough.trans (first : QueuedThrough t forced k s u) (second : QueuedThrough t forced j u v) :
    QueuedThrough t forced (k + j) s v := by
  obtain ⟨⟨l, wt, length, each⟩, cache, count, fns, out⟩ := first
  obtain ⟨⟨l', wt', length', each'⟩, cache', count', fns', out'⟩ := second
  refine ⟨⟨l ++ l', by rw [wt', wt, List.append_assoc], by simp [length, length'], ?_⟩, cache'.trans cache,
    count'.trans count, fns'.trans fns, out'.trans out⟩
  intro w mem
  exact (List.mem_append.mp mem).elim (each w) (each' w)

theorem writeUnit_through (t : Tag) (nsid : Nat) (n : Ns) (slba count : Nat) (mk : Nat → Blk) (bad : List Nat)
    (forced : Bool) (x : Nat) (s : State) :
    QueuedThrough t forced 1 s (writeUnit t nsid n slba count mk bad (some forced) x s) := by
  have event' (c d0 d1 : Nat) (v : State) (q : QueuedThrough t forced 1 s v) :
      QueuedThrough t forced 1 s (event c d0 d1 v) := by
    have same := event_same c d0 d1 v
    obtain ⟨cache, wt, -⟩ := same.field .ftlData rfl
    refine q.trans (j := 0) ⟨⟨[], by simp [wt]⟩, cache, ?_, same.field .fns rfl, same.field .out rfl⟩
    rw [same.field .hold rfl]
  have queued (w : WtItem) (tag : w.tag = some t) (how : w.forced = forced) :
      QueuedThrough t forced 1 s { markDelta (dirtyIu (iuKey nsid x) (nextSeq s)) with
        ftl.wt := s.ftl.wt ++ [w] } :=
    ⟨⟨[w], rfl, rfl, by simpa using ⟨tag, how⟩⟩, rfl, rfl, rfl, rfl⟩
  unfold writeUnit
  dsimp only
  split
  · exact event' _ _ _ _ (queued _ rfl rfl)
  · exact queued _ rfl rfl

theorem writeUnits_through (t : Tag) (nsid : Nat) (n : Ns) (slba count : Nat) (mk : Nat → Blk) (bad : List Nat)
    (forced : Bool) : ∀ (us : List Nat) (s : State), QueuedThrough t forced us.length s
      (us.foldl (fun s u => writeUnit t nsid n slba count mk bad (some forced) u s) s)
  | [], s => .none t forced s
  | x :: us, s => by
    have rest := (writeUnit_through t nsid n slba count mk bad forced x s).trans
      (writeUnits_through t nsid n slba count mk bad forced us _)
    rwa [Nat.add_comm] at rest

/-- What the items of a command that queued some look like from before. -/
theorem QueuedThrough.items (q : QueuedThrough t forced k s v) : v.ftl.wt.length = s.ftl.wt.length + k ∧
    ∀ w ∈ v.ftl.wt.drop s.ftl.wt.length, w.tag = some t ∧ w.forced = forced := by
  obtain ⟨⟨l, wt, length, each⟩, -⟩ := q
  rw [wt, List.drop_left]
  exact ⟨by simp [length], each⟩

/-- A command that queued items does not end. -/
theorem QueuedThrough.waits (q : QueuedThrough t forced (k + 1) s v) :
    (v.ftl.wt.any fun w => decide (w.tag = some t)) = true := by
  obtain ⟨⟨l, wt, length, each⟩, -⟩ := q
  obtain ⟨w, mem⟩ := List.exists_mem_of_length_eq_add_one length
  rw [List.any_eq_true]
  exact ⟨w, by rw [wt]; exact List.mem_append_right _ mem, by simp [(each w mem).1]⟩

theorem finishWrite_waits (wt : (v.ftl.wt.any fun w => decide (w.tag = some t)) = true) : finishWrite t v = v :=
    if_pos wt

/-- A command that is in flight shows the phase it was given. -/
theorem inflightOf_setPhase {e : Inflight} (p : CmdPhase) (found : inflightOf s t = some e) :
    (inflightOf (setPhase t p s) t).map (·.phase) = some p := by
  cases src : t.src with
  | mgt => simp [inflightOf, src] at found
  | fn f =>
    simp only [inflightOf, src] at found ⊢
    simp only [setPhase, src, fnOf_modCtrl]
    rw [mapWhere, List.find?_map]
    have same : ((fun e : Inflight => decide (e.sqid = t.sqid ∧ e.cid = t.cid)) ∘
        fun x => if decide (x.sqid = t.sqid ∧ x.cid = t.cid) = true then { x with phase := p } else x) =
        fun e => decide (e.sqid = t.sqid ∧ e.cid = t.cid) := by
      funext x
      dsimp only [Function.comp]
      split <;> rfl
    rw [same, found]
    have hit := List.find?_some found
    simp only [Option.map_some, hit, if_true]

end

section
variable {t : Tag} {f : Func} {io : Io} {sgl : List SglDesc} {s u : State} {n : Ns} {e : Inflight}

/-- A write whose checks pass runs on the units of its range, the requests of its transfer made. -/
theorem ioWrite_passed (fua : Bool) (d h : Bytes) (bad : List Nat) (src : t.src = .fn f)
    (ready : Safety.ioReady t 0x01 io.nsid true s u n e) (passes : xferCheck n io sgl = none) :
    exec (.ioWrite t io fua sgl d h bad) s =
      .next (finishWrite t (writeUnits t io.nsid.toNat n io.slba.toNat (ioBlocks io)
      (hostBlk e.key (lbaBytes n.lbaf) (metaBytes n.lbaf) d h) bad fua (iusOf n io.slba.toNat (ioBlocks io))
      (moves f false io u))) := by
  change execIoWrite t io fua sgl d h bad s = _
  rw [execIoWrite, runIo_ready _ src ready]
  simp only [passes]

theorem ioWrite_failed {st : Status} (fua : Bool) (d h : Bytes) (bad : List Nat)
    (ready : Safety.ioReady t 0x01 io.nsid true s u n e) (fails : xferCheck n io sgl = some st) :
    exec (.ioWrite t io fua sgl d h bad) s = .next (finish t st u) := by
  obtain ⟨f, src⟩ := ioReady_src ready
  change execIoWrite t io fua sgl d h bad s = _
  rw [execIoWrite, runIo_ready _ src ready]
  simp only [fails]

theorem moves_ftl (b : Bool) : (moves f b io u).ftl = u.ftl ∧ (moves f b io u).hold = u.hold := by
  obtain ⟨fs, o, form⟩ := requests_form f b io.pages u
  rw [moves, form]
  exact ⟨rfl, rfl⟩

theorem moves_inflight (b : Bool) (src : t.src = .fn f) : inflightOf (moves f b io u) t = inflightOf u t := by
  have one (v : State) (p : Nat) : (fnOf (request f b v p) f).ctrl = (fnOf v f).ctrl := by
    unfold request
    split
    · rw [fnOf_congr ((emit_same _ _).field .fns rfl), fnOf_modFn]
    · rw [fnOf_congr ((emit_same _ _).field .fns rfl)]
  have all : (fnOf (moves f b io u) f).ctrl = (fnOf u f).ctrl := foldl_keeps (fun v => (fnOf v f).ctrl) one io.pages u
  simp only [inflightOf, src, all]

/-- The units of a range as a command writes them in write-through. -/
def throughUnits (t : Tag) (io : Io) (n : Ns) (mk : Nat → Blk) (bad : List Nat) (forced : Bool) (s : State) : State :=
  (iusOf n io.slba.toNat (ioBlocks io)).foldl
    (fun s u => writeUnit t io.nsid.toNat n io.slba.toNat (ioBlocks io) mk bad (some forced) u s) s

/-- A write in write-through: units that the limit does not let in, or of a command with FUA. -/
theorem writeUnits_waiting {mk : Nat → Blk} {bad : List Nat} {fua fits : Bool} {v : State}
    (fit : admitted v ((iusOf n io.slba.toNat (ioBlocks io)).map (iuKey io.nsid.toNat)) = fits)
    (through : (fits && !fua) = false) :
    finishWrite t (writeUnits t io.nsid.toNat n io.slba.toNat (ioBlocks io) mk bad fua
      (iusOf n io.slba.toNat (ioBlocks io)) v) =
      if fits then setPhase t .dataIn (throughUnits t io n mk bad (!fits) v)
      else { setPhase t .dataIn (throughUnits t io n mk bad (!fits) v) with
        hold.wtWrites := satAdd (setPhase t .dataIn (throughUnits t io n mk bad (!fits) v)).hold.wtWrites 1 } := by
  have some' : iusOf n io.slba.toNat (ioBlocks io) ≠ [] := iusOf_ne_nil n (Nat.succ_pos _)
  have whole : writeUnits t io.nsid.toNat n io.slba.toNat (ioBlocks io) mk bad fua
      (iusOf n io.slba.toNat (ioBlocks io)) v =
      if fits then setPhase t .dataIn (throughUnits t io n mk bad (!fits) v)
      else { setPhase t .dataIn (throughUnits t io n mk bad (!fits) v) with
        hold.wtWrites := satAdd (setPhase t .dataIn (throughUnits t io n mk bad (!fits) v)).hold.wtWrites 1 } := by
    unfold writeUnits
    rw [if_neg (by simpa using some'), fit]
    exact if_neg (by simp [through])
  obtain ⟨k, length⟩ := Nat.exists_eq_succ_of_ne_zero (fun h => some' (List.length_eq_zero_iff.mp h))
  have queued : QueuedThrough t (!fits) (k + 1) v (throughUnits t io n mk bad (!fits) v) := by
    rw [← Nat.succ_eq_add_one, ← length]
    exact writeUnits_through ..
  have phased : (setPhase t .dataIn (throughUnits t io n mk bad (!fits) v)).ftl.wt =
      (throughUnits t io n mk bad (!fits) v).ftl.wt := ((setPhase_same _ _ _).field .ftlData rfl).2.1
  rw [whole]
  refine finishWrite_waits ?_
  split
  · rw [phased]
    exact queued.waits
  · show ((setPhase t .dataIn (throughUnits t io n mk bad (!fits) v)).ftl.wt.any _) = true
    rw [phased]
    exact queued.waits

/-- What a write in write-through leaves. -/
theorem throughUnits_left (mk : Nat → Blk) (bad : List Nat) (forced : Bool) (src : t.src = .fn f)
    (found : inflightOf u t = some e) {v : State}
    (left : v = setPhase t .dataIn (throughUnits t io n mk bad forced (moves f false io u))) :
    v.ftl.cache = u.ftl.cache ∧ v.out = (moves f false io u).out ∧
    v.ftl.wt.length = u.ftl.wt.length + (iusOf n io.slba.toNat (ioBlocks io)).length ∧
    (∀ w ∈ v.ftl.wt.drop u.ftl.wt.length, w.tag = some t ∧ w.forced = forced) ∧
    v.hold.wtWrites = u.hold.wtWrites ∧ (inflightOf v t).map (·.phase) = some .dataIn := by
  obtain ⟨ftl, hold⟩ := moves_ftl (f := f) (io := io) (u := u) false
  have queued : QueuedThrough t forced (iusOf n io.slba.toNat (ioBlocks io)).length (moves f false io u)
      (throughUnits t io n mk bad forced (moves f false io u)) := writeUnits_through ..
  have flying : inflightOf (throughUnits t io n mk bad forced (moves f false io u)) t = some e := by
    have moved := (moves_inflight (io := io) (u := u) false src).trans found
    simp only [inflightOf, src] at moved ⊢
    rwa [fnOf_congr queued.2.2.2.1]
  have phased := setPhase_same t .dataIn (throughUnits t io n mk bad forced (moves f false io u))
  obtain ⟨cache, wt, -⟩ := phased.field .ftlData rfl
  obtain ⟨length, each⟩ := queued.items
  obtain ⟨-, cached, count, -, out⟩ := queued
  rw [ftl] at length each cached
  rw [hold] at count
  rw [left]
  refine ⟨cache.trans cached, (phased.field .out rfl).trans out, by rw [wt, length], by rwa [wt], ?_,
    inflightOf_setPhase .dataIn flying⟩
  rw [phased.field .hold rfl, count]

/-! ## Flush -/

/-- A flush that no reservation bars waits for the commands ahead of it. -/
theorem flush_runs (k : W32) (src : t.src = .fn f) (queue : t.sqid ≠ 0) (start : Safety.startOf t 0x00 k s = some u)
    (free : ∀ n, nsOf u k.toNat = some n → rsvBars u n.rsv t.src true = false) :
    exec (.ioFlush t k) s = .next (if hasAhead u f t then setPhase t .held u else finish t .success u) := by
  show execIoFlush t k s = _
  unfold execIoFlush
  simp only [src, if_neg queue]
  refine congrArg Host.Outcome.next ((runFn_start _ src start).trans ?_)
  cases found : nsOf u k.toNat with
  | none => rfl
  | some n => exact if_neg (by rw [← src, free n found]; exact Bool.false_ne_true)

end

end Sys2Proof.Machine

open Sys2Proof Sys2Proof.Machine

/-- Settles O32: a write that is not cached leaves one item per unit and waits; Flush waits for what is ahead. -/
theorem writesCompleteOrWait : Obligations.WritesCompleteOrWait := by
  unfold Obligations.WritesCompleteOrWait
  refine ⟨?failed, ?refused, ?forced, ?flushed, ?held, ?idle⟩
  case failed =>
    intro t io sgl d h bad s u n e st ready fails fua
    exact ioWrite_failed fua d h bad ready fails
  case refused =>
    intro t f io sgl d h bad s u n e src ready passes full fua
    have fit := (admitted_moves f false io u _).trans full
    obtain ⟨cache, out, length, each, count, phase⟩ := throughUnits_left (t := t) (f := f) (io := io) (u := u) (n := n)
      (hostBlk e.key (lbaBytes n.lbaf) (metaBytes n.lbaf) d h) bad true src ready.2.2.2.2.1 rfl
    refine ⟨_, (ioWrite_passed fua d h bad src ready passes).trans
      (congrArg Host.Outcome.next (writeUnits_waiting fit (Bool.false_and _))), ?_⟩
    exact ⟨cache, out, length, each, congrArg (fun x => satAdd x 1) count, phase⟩
  case forced =>
    intro t io sgl d h bad s u n e ready passes fits
    obtain ⟨f, src⟩ := ioReady_src ready
    have fit := (admitted_moves f false io u _).trans fits
    obtain ⟨cache, -, -, each, count, -⟩ := throughUnits_left (t := t) (f := f) (io := io) (u := u) (n := n)
      (hostBlk e.key (lbaBytes n.lbaf) (metaBytes n.lbaf) d h) bad false src ready.2.2.2.2.1 rfl
    exact ⟨_, (ioWrite_passed true d h bad src ready passes).trans
      (congrArg Host.Outcome.next (writeUnits_waiting fit rfl)), cache, each, count⟩
  case flushed =>
    intro t s f u k src queue start absent idle
    exact (flush_runs k src queue start (by simp [absent])).trans (congrArg Host.Outcome.next (if_neg (by simp [idle])))
  case held =>
    intro t s f u k src queue start absent ahead
    exact (flush_runs k src queue start (by simp [absent])).trans (congrArg Host.Outcome.next (if_pos ahead))
  case idle =>
    intro t s u k n e ready idle
    obtain ⟨f, src⟩ := ioReady_src ready
    obtain ⟨-, queue, start, found, -, -, free⟩ := ready
    refine (flush_runs k src queue start fun m same => ?_).trans
      (congrArg Host.Outcome.next (if_neg (by simp [idle f src])))
    rwa [← Option.some.inj (found.symm.trans same)]

end

section
/-! SUPPORT. Write Uncorrectable, Write Zeroes and Dataset Management: whole units take their map entry at once and the
others are written (R314, R406, R430). -/
namespace Sys2Proof.Machine

theorem mapOf_setMap_at (k : Nat) (e : BitVec 40) (n : Nat) (s : State) (i : Nat) :
    mapOf (setMap k e n s) i = if i = k then e else mapOf s i := Sparse.read_put ..

/-- A unit is a special entry of the map, with no line in the cache. -/
def Special (k : Nat) (e : BitVec 40) (s : State) : Prop := mapOf s k = e ∧ lineOf s k = none

section
variable {k : Nat} {e : BitVec 40} {s v : State}

theorem lineOf_specialIu (j : Nat) (e : BitVec 40) (s : State) (k : Nat) :
    lineOf (specialIu j e s) k = if k = j then none else lineOf s k := Sparse.look_erase ..

theorem mapOf_specialIu (j : Nat) (e : BitVec 40) (s : State) (k : Nat) :
    mapOf (specialIu j e s) k = if k = j then e else mapOf s k := mapOf_setMap_at ..

/-- Units that take the special value have it, and keep it while others take it. -/
theorem specialIu_fold {l : List Nat} : ∀ {s : State}, k ∈ l ∨ Special k e s →
    Special k e (l.foldl (fun s j => specialIu j e s) s) := by
  induction l with
  | nil => exact fun h => h.resolve_left (List.not_mem_nil)
  | cons j l ih =>
    intro s h
    rw [List.foldl_cons]
    refine ih ?_
    by_cases here : k = j
    · right
      subst here
      exact ⟨by rw [mapOf_specialIu, if_pos rfl], by rw [lineOf_specialIu, if_pos rfl]⟩
    · obtain mem | ⟨map, line⟩ := h
      · exact .inl ((List.mem_cons.mp mem).resolve_left here)
      · exact .inr ⟨by rw [mapOf_specialIu, if_neg here, map], by rw [lineOf_specialIu, if_neg here, line]⟩

theorem Special.of_same {l : List Field} (h : Same l s v) (map : (!l.contains .tabMap) = true)
    (line : (!l.contains .ftlData) = true) (special : Special k e s) : Special k e v := by
  obtain ⟨cache, -⟩ := h.field .ftlData line
  exact ⟨(h.mapOf map k).trans special.1, (show lineOf v k = lineOf s k by unfold lineOf; rw [cache]).trans special.2⟩

end

section
variable {t : Tag} {nsid : Nat} {n : Ns} {slba count : Nat} {mk : Nat → Blk} {e : BitVec 40} {x : Nat}

/-- Lines of units that a command does not write stay as they are. -/
theorem lineOf_writeUnits_other (bad : List Nat) (fua : Bool) {us : List Nat} (other : x ∉ us) (s : State) :
    lineOf (writeUnits t nsid n slba count mk bad fua us s) (iuKey nsid x) = lineOf s (iuKey nsid x) := by
  have cached : ∀ (us : List Nat) (s : State), x ∉ us →
      lineOf (us.foldl (fun s u => writeUnit t nsid n slba count mk bad none u s) s) (iuKey nsid x) =
        lineOf s (iuKey nsid x) := fun us => by
    induction us with
    | nil => exact fun _ _ => rfl
    | cons u us ih =>
      intro s other
      simp only [List.mem_cons, not_or] at other
      obtain ⟨here, rest⟩ := other
      exact (ih _ rest).trans ((lineOf_writeUnit ..).trans (if_neg (fun h => here (iuKey_inj.mp h))))
  have waiting (forced : Bool) (k : Nat) : lineOf (setPhase t .dataIn
      (us.foldl (fun s u => writeUnit t nsid n slba count mk bad (some forced) u s) s)) k = lineOf s k := by
    unfold lineOf
    rw [((setPhase_same _ _ _).field .ftlData rfl).1, (writeUnits_through t nsid n slba count mk bad forced us s).2.1]
  unfold writeUnits
  dsimp only
  split
  · rfl
  · split
    · exact cached us s other
    · split
      · exact waiting _ _
      · exact waiting _ _

/-- Whole units of a range end special, whatever is written of the others. -/
theorem specialOrWrite_special (special : BitVec 40) (part : Blk) (s : State) (mem : x ∈ iusOf n slba count)
    (whole : coversIu n slba count x = true) :
    Special (iuKey nsid x) special (specialOrWrite t nsid n slba count special part s) := by
  have folded (l : List Nat) (v : State) : l.foldl (fun s u => specialIu (iuKey nsid u) special s) v =
      (l.map (iuKey nsid)).foldl (fun s j => specialIu j special s) v := by
    rw [List.foldl_map]
  have first : Special (iuKey nsid x) special (((iusOf n slba count).filter (coversIu n slba count)).foldl
      (fun s u => specialIu (iuKey nsid u) special s) s) := by
    rw [folded]
    exact specialIu_fold (.inl (List.mem_map_of_mem (List.mem_filter.mpr ⟨mem, whole⟩)))
  unfold specialOrWrite
  dsimp only
  refine ⟨((writeUnits_same t nsid n slba count _ _ _ _ _).mapOf rfl _).trans first.1, ?_⟩
  rw [lineOf_writeUnits_other _ _ (by simp [whole]), first.2]

theorem finishWrite_special (special : Special (iuKey nsid x) e s) : Special (iuKey nsid x) e (finishWrite t s) :=
  special.of_same (finishWrite_same t _) rfl rfl

end

end Sys2Proof.Machine

open Sys2Proof Sys2Proof.Machine

/-- Settles O33: the fold over the whole units leaves each special, and the writes of the other units keep them so. -/
theorem specialUnitsTakeEffectAtOnce : Obligations.SpecialUnitsTakeEffectAtOnce := by
  unfold Obligations.SpecialUnitsTakeEffectAtOnce
  refine ⟨?uncorrectable, ?deallocated, ?zeroes, ?hint, ?ranges, ?beyond⟩
  case uncorrectable =>
    intro t io s u n e ready within
    obtain ⟨f, src⟩ := ioReady_src ready
    refine ⟨_, congrArg Host.Outcome.next ((runIo_ready _ src ready).trans (if_neg (by simp [within]))), ?_⟩
    exact fun x mem whole => finishWrite_special (specialOrWrite_special _ _ _ mem whole)
  case deallocated =>
    intro t io s u n e ready within
    obtain ⟨f, src⟩ := ioReady_src ready
    refine ⟨_, congrArg Host.Outcome.next ((runIo_ready _ src ready).trans
      ((if_neg (by simp [within])).trans (if_pos rfl))), ?_⟩
    exact fun x mem whole => finishWrite_special (specialOrWrite_special _ _ _ mem whole)
  case zeroes =>
    intro t io s u n e ready within
    obtain ⟨f, src⟩ := ioReady_src ready
    exact congrArg Host.Outcome.next ((runIo_ready _ src ready).trans
      ((if_neg (by simp [within])).trans (if_neg Bool.false_ne_true)))
  case hint =>
    intro t k s u n e l ready
    obtain ⟨f, src⟩ := ioReady_src ready
    exact congrArg Host.Outcome.next ((runIo_ready _ src ready).trans (if_pos rfl))
  case ranges =>
    intro t k s u n e r ready within
    obtain ⟨f, src⟩ := ioReady_src ready
    refine ⟨_, congrArg Host.Outcome.next ((runIo_ready _ src ready).trans
      ((if_neg Bool.false_ne_true).trans (if_neg (by simp [within])))), ?_⟩
    exact fun x mem whole => finishWrite_special (specialOrWrite_special _ _ _ mem whole)
  case beyond =>
    intro t io s u n e ready beyond
    obtain ⟨f, src⟩ := ioReady_src ready
    exact congrArg Host.Outcome.next ((runIo_ready _ src ready).trans (if_pos (by simp [beyond])))

end

section
/-! SUPPORT. Reads: what a completion puts out, and what a quiet read of the media counts (R299, R314, R429, R452 to
R455). -/
namespace Sys2Proof.Machine

/-- The translation layer is as before when neither of its parts is in the frame. -/
theorem Same.wholeFtl {l : List Field} {s t : State} (h : Same l s t)
    (k : ([.ftlData, .ftl].all fun f => !l.contains f) = true) : t.ftl = s.ftl := by
  have each : ∀ f ∈ [Field.ftlData, .ftl], Field.same s t f := fun f mem => h.field f (List.all_eq_true.mp k f mem)
  obtain ⟨cache, wt, rows⟩ := each .ftlData (by decide)
  obtain ⟨pct, hi, lo, bad, direct, spread, wl, moves, refresh, dropped, stale, folding, stop, high, shares, share, par,
    degraded, total, reconstructed, lost, waits, resync, replay, done⟩ := each .ftl (by decide)
  cases s; cases t
  rw [Ftl.mk.injEq]
  exact ⟨cache, wt, rows, pct, hi, lo, bad, direct, spread, wl, moves, refresh, dropped, stale, folding, stop, high,
      shares,
    share, par, degraded, total, reconstructed, lost, waits, resync, replay, done⟩

/-! ## Outputs -/

/-- An output with data for the host. -/
def IsData : Output → Prop
  | .data _ _ => True
  | _ => False

/-- From `s` to `v` outputs were added, none of them with data. -/
def AddsNoData (s v : State) : Prop := ∃ l, v.out = s.out ++ l ∧ ∀ o ∈ l, ¬ IsData o

namespace AddsNoData
variable {s u v : State}

theorem refl (s : State) : AddsNoData s s := ⟨[], by simp⟩

theorem trans (first : AddsNoData s u) (second : AddsNoData u v) : AddsNoData s v := by
  obtain ⟨l, out, none⟩ := first
  obtain ⟨l', out', none'⟩ := second
  refine ⟨l ++ l', by rw [out', out, List.append_assoc], fun o mem => ?_⟩
  exact (List.mem_append.mp mem).elim (none o) (none' o)

/-- An operation after others, the last one first. -/
theorem after (second : AddsNoData u v) (first : AddsNoData s u) : AddsNoData s v := first.trans second

theorem of_out (h : v.out = s.out) : AddsNoData s v := ⟨[], by simp [h]⟩

theorem of_same {l : List Field} (h : Same l s v) (k : (!l.contains .out) = true) : AddsNoData s v :=
  .of_out (h.field .out k)

theorem emit {o : Output} (h : ¬ IsData o) (s : State) : AddsNoData s (emit o s) := ⟨[o], rfl, by simpa using h⟩

theorem ite {c : Prop} [Decidable c] (h : AddsNoData s u) (k : AddsNoData s v) : AddsNoData s (if c then u else v) := by
  split <;> assumption

/-- No data is among the outputs that were added. -/
theorem drop (h : AddsNoData s v) (t : Tag) (b : Bytes) : Output.data t b ∉ v.out.drop s.out.length := by
  obtain ⟨l, out, none⟩ := h
  rw [out, List.drop_left]
  exact fun mem => none _ mem trivial

end AddsNoData

theorem signalVector_noData (f : Func) (n : Nat) (s : State) : AddsNoData s (signalVector f n s) := by
  unfold signalVector
  refine .ite (.refl s) ?_
  split
  · exact .ite (.refl s) (.ite (.of_out rfl) (.emit id s))
  · exact .ite (.of_out rfl) (.emit id s)
  · exact .refl s

theorem intxFollow_noData (f : Func) (s : State) : AddsNoData s (intxFollow f s) :=
  .ite (.refl s) (.ite (.emit id _) (.emit id _))

theorem signalCq_noData (f : Func) (q : Cq) (s : State) : AddsNoData s (signalCq f q s) := by
  unfold signalCq
  refine .ite (.refl s) ?_
  split
  · exact .ite (.refl s) (signalVector_noData f _ s)
  · exact (intxFollow_noData f _).after (signalVector_noData f _ s)

theorem postCqe_noData (f : Func) (q : Cq) (e : Cqe) (s : State) : AddsNoData s (postCqe f q e s) := by
  have posted (g : Ctrl → Ctrl) (t : Tag) (st : Status) (d : W32) : AddsNoData s
      (emit (.completion t st d) (modCtrl f g s)) :=
    .emit id _
  unfold postCqe
  dsimp only
  split
  · exact posted _ _ _ _
  · exact (signalCq_noData f _ _).after (posted _ _ _ _)

theorem deliverOne_noData (f : Func) (t : Tag) (st : Status) (dw0 : W32) (s : State) :
    AddsNoData s (deliverOne f t st dw0 s) := by
  have traced (e : Inflight) : AddsNoData s (kscCommand f e 1 st s) := .of_same (kscCommand_same f e 1 st s) rfl
  have retired (e : Inflight) : AddsNoData s (retire t (kscCommand f e 1 st s)) :=
    (AddsNoData.of_same (retire_same t _) rfl).after (traced e)
  unfold deliverOne
  split
  · exact .refl s
  · refine .ite (retired _) ?_
    split
    · exact retired _
    · split
      · exact retired _
      · exact .ite (.refl s) (.ite ((AddsNoData.of_out rfl).after (traced _)) ((postCqe_noData f _ _ _).after
          (retired _)))

theorem releaseFlushes_noData (f : Func) (sqid : Nat) : ∀ (n : Nat) (s : State),
    AddsNoData s (releaseFlushes f sqid n s)
  | 0, s => .refl s
  | n + 1, s => by
    unfold releaseFlushes
    split
    · exact (releaseFlushes_noData f sqid n _).after (deliverOne_noData f _ _ _ s)
    · exact .refl s

/-- A completion of a function's command carries no data. -/
theorem finish_noData {f : Func} {t : Tag} (src : t.src = .fn f) (st : Status) (s : State) : AddsNoData s
    (finish t st s) := by
  have noted : AddsNoData s (if st = .stateConflict then evsSet 160 { s with nvm.conflicts := satAdd s.nvm.conflicts 1
      } else s) :=
    .ite (.of_out rfl) (.refl s)
  unfold finish complete
  rw [src]
  exact ((releaseFlushes_noData f _ _ _).after (deliverOne_noData f t st 0 _)).after noted

/-! ## Reads -/

/-- Statuses of a read that fails. -/
theorem readStatus_failed {l : List BlkSrc} {st : Status} (failed : readStatus l = some st) :
    st = .digestMismatch ∨ st = .unrecoveredReadError := by
  unfold readStatus at failed
  split at failed
  · exact .inl (Option.some.inj failed).symm
  · exact .inr (Option.some.inj failed).symm
  · cases failed

/-- A quiet read of the media queues no refresh and counts no salvaged loss. -/
theorem touchRange_quiet (env : MediaEnv) (limited : Bool) (nsid : Nat) (n : Ns) (slba count : Nat) (s : State) :
    (touchRange env limited true nsid n slba count s).ftl.salvageLost = s.ftl.salvageLost ∧
    (touchRange env limited true nsid n slba count s).ftl.refresh = s.ftl.refresh := by
  have queued (d : Nat) (o : DieOp) (v : State) : (queueOp d o v).ftl = v.ftl := (queueOp_same d o v).wholeFtl rfl
  have counted (e : BitVec 40) (v : State) : (countDegraded e v).ftl.salvageLost = v.ftl.salvageLost ∧
      (countDegraded e v).ftl.refresh = v.ftl.refresh := by
    have kept (c : Nat) (x : Chan) (w : State) : (setChan c x w).ftl = w.ftl := (setChan_same c x w).wholeFtl rfl
    unfold countDegraded
    dsimp only
    split
    · rw [kept]
      exact ⟨rfl, rfl⟩
    · exact ⟨rfl, rfl⟩
  have one (v : State) (k : Nat) : ((mediaRead env limited true k v).ftl.salvageLost,
      (mediaRead env limited true k v).ftl.refresh) =
      (v.ftl.salvageLost, v.ftl.refresh) := by
    have rebuilt (d : DieOp) (g : Nat → Nat) (l : List Nat) (w : State) :
        (l.foldl (fun s c => queueOp (g c) d s) w).ftl = w.ftl := foldl_keeps State.ftl (fun _ _ => queued _ _ _) l w
    unfold mediaRead
    dsimp only
    split
    · rfl
    · rw [if_pos rfl]
      split
      · rw [(counted _ _).1, (counted _ _).2]
        split
        · rw [rebuilt, queued]
        · rw [queued]
      · rw [queued]
  have all := foldl_keeps (fun v => (v.ftl.salvageLost, v.ftl.refresh)) one (mediaUnits s nsid n slba count) s
  exact Prod.mk.inj all

/-- What a salvage read answers. -/
def salvageAnswer (t : Tag) (k : W32) (n : Ns) (a : W64) (c : W16) (m : Bool) (env : MediaEnv)
    (cap : Option (Nat × W32))
    (s : State) : State :=
  let l := readRange s env false k.toNat n a.toNat c.toNat
  let v := touchRange env false true k.toNat n a.toNat c.toNat s
  match firstLost l with
  | none => complete t .success (salvageDw0 0 none) (emit (.data t (readBytes cap n l)) v)
  | some i =>
    let m' := if m then lostCount l else 1
    let v := { v with ftl.salvageLost := satAdd v.ftl.salvageLost m' }
    if m then complete t .success (salvageDw0 m' (some i)) (emit (.data t (readBytes cap n l)) v)
    else complete t .unrecoveredReadError (salvageDw0 1 (some i)) v

section
variable {t : Tag} {k : W32} {n : Ns} {a : W64} {c : W16} {env : MediaEnv} {cap : Option (Nat × W32)} {u : State}

theorem salvageAnswer_whole {m : Bool} (whole : firstLost (readRange u env false k.toNat n a.toNat c.toNat) = none) :
    (salvageAnswer t k n a c m env cap u).ftl.salvageLost = u.ftl.salvageLost ∧
    (salvageAnswer t k n a c m env cap u).ftl.refresh = u.ftl.refresh ∧
    (salvageAnswer t k n a c m env cap u).tab.map = u.tab.map ∧
    (salvageAnswer t k n a c m env cap u).ftl.cache = u.ftl.cache := by
  have touched := touchRange_same env false true k.toNat n a.toNat c.toNat u
  obtain ⟨lost, refresh⟩ := touchRange_quiet env false k.toNat n a.toNat c.toNat u
  have told (d : W32) (o : Output) (v : State) : (complete t .success d (emit o v)).ftl = v.ftl :=
    (complete_same t .success d _).wholeFtl rfl
  have map (d : W32) (o : Output) (v : State) : (complete t .success d (emit o v)).tab.map = v.tab.map :=
    ((complete_same t .success d _).field .tabMap rfl).1
  unfold salvageAnswer
  dsimp only
  rw [whole]
  dsimp only
  rw [told, map]
  exact ⟨lost, refresh, (touched.field .tabMap rfl).1, (touched.field .ftlData rfl).1⟩

theorem salvageAnswer_lost {i : Nat} (first : firstLost (readRange u env false k.toNat n a.toNat c.toNat) = some i) :
    (salvageAnswer t k n a c false env cap u).ftl.salvageLost = satAdd u.ftl.salvageLost 1 ∧
    (salvageAnswer t k n a c false env cap u).ftl.refresh = u.ftl.refresh ∧
    (salvageAnswer t k n a c false env cap u).tab.map = u.tab.map := by
  have touched := touchRange_same env false true k.toNat n a.toNat c.toNat u
  obtain ⟨lost, refresh⟩ := touchRange_quiet env false k.toNat n a.toNat c.toNat u
  have told (d : W32) (v : State) : (complete t .unrecoveredReadError d v).ftl = v.ftl :=
    (complete_same t .unrecoveredReadError d v).wholeFtl rfl
  have map (d : W32) (v : State) : (complete t .unrecoveredReadError d v).tab.map = v.tab.map :=
    ((complete_same t .unrecoveredReadError d v).field .tabMap rfl).1
  unfold salvageAnswer
  dsimp only
  rw [first]
  dsimp only
  rw [if_neg Bool.false_ne_true, if_neg Bool.false_ne_true, told, map]
  exact ⟨congrArg (fun x => satAdd x 1) lost, refresh, (touched.field .tabMap rfl).1⟩

end

/-- What a salvage read runs once its range is checked and its rows are synchronised. -/
theorem salvageRead_runs {t : Tag} {k : W32} {a : W64} {c : W16} {b : Bool} {env : MediaEnv} {s u : State} {n : Ns}
    {e : Inflight} (m : Bool) (ready : Safety.ioReady t 0x84 k false s u n e) (some' : c ≠ 0)
    (mdts : inMdts n c.toNat = true) (within : inRange n a.toNat c.toNat = true) :
    exec (.salvageRead t k a c m b env) s = .next (if readWaits u k.toNat n a.toNat c.toNat then u
      else salvageAnswer t k n a c m { env with answering := if b then env.answering else [] } e.key u) := by
  obtain ⟨f, src⟩ := ioReady_src ready
  have count : c.toNat ≠ 0 := fun h => some' (BitVec.eq_of_toNat_eq h)
  refine congrArg Host.Outcome.next ((runIo_ready _ src ready).trans
    ((if_neg (by simp [count, mdts])).trans ((if_neg (by simp [within])).trans ?_)))
  rfl

end Sys2Proof.Machine

open Sys2Proof Sys2Proof.Machine

/-- Settles O34: each command runs on the blocks of its range; a failing read completes without data. -/
theorem readsAnswerWithTheBlocks : Obligations.ReadsAnswerWithTheBlocks := by
  unfold Obligations.ReadsAnswerWithTheBlocks
  refine ⟨?read, ?failed, ?compare, ?verify, ?salvaged, ?lost, ?readWaits, ?compareWaits, ?verifyWaits, ?salvageWaits⟩
  case read =>
    intro t f io lim sgl env s u n e src ready passes synced good
    show execIoRead t io lim sgl env s = _
    rw [execIoRead, runIo_ready _ src ready]
    simp only [passes, synced, good, Bool.false_eq_true, if_false]
  case failed =>
    intro t io lim sgl env s u n e st ready passes synced bad
    obtain ⟨f, src⟩ := ioReady_src ready
    have touched := touchRange_same env lim false io.nsid.toNat n io.slba.toNat (ioBlocks io) u
    refine ⟨finish t st (touchRange env lim false io.nsid.toNat n io.slba.toNat (ioBlocks io) u), ?_,
        readStatus_failed bad,
      ((finish_noData src st _).after (.of_same touched rfl)).drop t,
      ((finish_same t st _).field .tabMap rfl).1.trans (touched.field .tabMap rfl).1⟩
    show execIoRead t io lim sgl env s = _
    rw [execIoRead, runIo_ready _ src ready]
    simp only [passes, synced, bad, Bool.false_eq_true, if_false]
  case compare =>
    intro t f io d env s u n e src ready passes synced good
    show execIoCompare t io d env s = _
    rw [execIoCompare, runIo_ready _ src ready]
    simp only [passes, synced, good, Bool.false_eq_true, if_false]
  case verify =>
    intro t io env s u n e ready within synced
    obtain ⟨f, src⟩ := ioReady_src ready
    exact congrArg Host.Outcome.next ((runIo_ready _ src ready).trans
      ((if_neg (by simp [within])).trans (if_neg (by simp [synced]))))
  case salvaged =>
    intro t k a c m b env s u n e ready some' mdts within synced whole
    exact ⟨_, (salvageRead_runs m ready some' mdts within).trans
        (congrArg Host.Outcome.next (if_neg (by simp [synced]))),
      salvageAnswer_whole whole⟩
  case lost =>
    intro t k a c b env s u n e i ready some' mdts within synced first
    exact ⟨_, (salvageRead_runs false ready some' mdts within).trans
      (congrArg Host.Outcome.next (if_neg (by simp [synced]))), salvageAnswer_lost first⟩
  case readWaits =>
    intro t io lim sgl env s u n e ready passes waits
    obtain ⟨f, src⟩ := ioReady_src ready
    show execIoRead t io lim sgl env s = _
    rw [execIoRead, runIo_ready _ src ready]
    simp only [passes, waits, if_true]
  case compareWaits =>
    intro t io d env s u n e ready passes waits
    obtain ⟨f, src⟩ := ioReady_src ready
    show execIoCompare t io d env s = _
    rw [execIoCompare, runIo_ready _ src ready]
    simp only [passes, waits, if_true]
  case verifyWaits =>
    intro t io env s u n e ready within waits
    obtain ⟨f, src⟩ := ioReady_src ready
    exact congrArg Host.Outcome.next ((runIo_ready _ src ready).trans
      ((if_neg (by simp [within])).trans (if_pos waits)))
  case salvageWaits =>
    intro t k a c m b env s u n e ready some' mdts within waits
    exact (salvageRead_runs m ready some' mdts within).trans (congrArg Host.Outcome.next (if_pos waits))

end

section
/-! SUPPORT. Reservations: the entry of the namespace after each command (R314, log 39). -/
namespace Sys2Proof.Machine

section
variable {t : Tag} {s u : State} {i : Nat} {n : Ns}

/-- The entry of a namespace after its reservation was replaced and the command ended. -/
theorem nsOf_finish_setRsv (r : Rsv) (st : Status) (found : nsOf u i = some n) :
    nsOf (finish t st (setRsv i r u)) i = some { n with rsv := r } := by
  rw [(finish_same t st _).nsOf rfl]
  exact nsOf_modNs _ found

theorem finish_setRsv_media (r : Rsv) (st : Status) : (finish t st (setRsv i r u)).media = u.media :=
  ((finish_same t st _).field .media rfl).trans ((modNs_same _ _ _).field .media rfl)

theorem runRsv_ready {op : W8} {k : W32} {e : Inflight} {f : Func} (g : Func → Ns → State → State) (src : t.src = .fn f)
    (ready : Safety.ioReady t op k false s u n e) : runRsv t op k g s = g f n u := runIo_ready _ src ready

/-- A first registration. -/
theorem rsvRegister_first {c : RsvRegister} (action : c.action = 0) (new : rsvKey u n.rsv t.src = none) :
    rsvRegister t i c n u = finish t .success (setRsv i { n.rsv with
      regs := n.rsv.regs ++ [(t.src, c.newKey)], ptpl := ptplAfter n.rsv.ptpl c.ptpl, gen := n.rsv.gen + 1 } u) := by
  have zero : c.action.toNat = 0 := by simp [action]
  unfold rsvRegister
  dsimp only
  rw [zero, new] <;> rfl

theorem rsvRegister_absent {c : RsvRegister} (action : c.action = 1) (new : rsvKey u n.rsv t.src = none) :
    rsvRegister t i c n u = finish t .reservationConflict u := by
  have one : c.action.toNat = 1 := by simp [action]
  unfold rsvRegister
  dsimp only
  rw [one, new] <;> rfl

theorem rsvAcquire_free {c : RsvAcquire} (strict : c.ignoreKey = false) (least : 1 ≤ c.rtype.toNat)
    (most : c.rtype.toNat ≤ 6) (action : c.action = 0) (key : rsvKey u n.rsv t.src = some c.curKey)
    (free : n.rsv.holder = none) : rsvAcquire t i c n u =
      finish t .success (setRsv i { n.rsv with holder := some t.src, rtype := c.rtype } u) := by
  have zero : c.action.toNat = 0 := by simp [action]
  unfold rsvAcquire
  dsimp only
  rw [if_neg (by simp [strict, zero]; omega), if_neg (by simp [key]), if_pos action, free]

theorem rsvAcquire_denied {c : RsvAcquire} (strict : c.ignoreKey = false) (least : 1 ≤ c.rtype.toNat)
    (most : c.rtype.toNat ≤ 6) (action : c.action.toNat ≤ 2) (key : rsvKey u n.rsv t.src ≠ some c.curKey) :
    rsvAcquire t i c n u = finish t .reservationConflict u := by
  unfold rsvAcquire
  dsimp only
  rw [if_neg (by simp [strict]; omega), if_pos key]

/-- The holder releases the reservation and stays registered. -/
theorem rsvRelease_held {c : RsvRelease} (strict : c.ignoreKey = false) (action : c.action = 0)
    (key : rsvKey u n.rsv t.src = some c.curKey) (held : holds u n.rsv t.src = true) (rtype : c.rtype = n.rsv.rtype)
    (found : nsOf u i = some n) :
    nsOf (rsvRelease t i c n u) i = some { n with rsv := { n.rsv with holder := none, rtype := 0 } } := by
  have told (b : Prop) [Decidable b] (v : State) :
      nsOf (finish t .success (if b then notifyAll n 2 t.src (fun _ => true) v else v)) i = nsOf v i := by
    rw [(finish_same t .success _).nsOf rfl]
    split
    · exact (notifyAll_same _ _ _ _ _).nsOf rfl i
    · rfl
  unfold rsvRelease
  dsimp only
  rw [if_neg (by simp [strict, action]), if_neg (by simp [key]), if_pos action, if_neg (by simp [held]),
    if_neg (by simp [rtype]), told]
  exact nsOf_modNs _ found

end

end Sys2Proof.Machine

open Sys2Proof Sys2Proof.Machine

/-- Settles O35: each command's branch, and the namespace's entry after it. -/
theorem reservationCommandsComplete : Obligations.ReservationCommandsComplete := by
  unfold Obligations.ReservationCommandsComplete
  refine ⟨?first, ?absent, ?report, ?acquire, ?denied, ?release⟩
  case first =>
    intro t k c s u n e ready action new
    obtain ⟨f, src⟩ := ioReady_src ready
    have found := ready.2.2.2.1
    refine ⟨_, congrArg Host.Outcome.next ((runRsv_ready _ src ready).trans (rsvRegister_first action new)), ?_, ?_,
      finish_setRsv_media _ _⟩
    · rw [nsOf_finish_setRsv _ _ found]
      rfl
    · rw [nsOf_finish_setRsv _ _ found]
      rfl
  case absent =>
    intro t k c s u n e ready action new
    obtain ⟨f, src⟩ := ioReady_src ready
    exact congrArg Host.Outcome.next ((runRsv_ready _ src ready).trans (rsvRegister_absent action new))
  case report =>
    intro t k s u n e ready
    obtain ⟨f, src⟩ := ioReady_src ready
    exact congrArg Host.Outcome.next (runRsv_ready _ src ready)
  case acquire =>
    intro t k c s u n e ready strict least most action key free
    obtain ⟨f, src⟩ := ioReady_src ready
    have found := ready.2.2.2.1
    refine ⟨_, congrArg Host.Outcome.next ((runRsv_ready _ src ready).trans
      (rsvAcquire_free strict least most action key free)), ?_, ?_⟩
    · rw [nsOf_finish_setRsv _ _ found]
      rfl
    · rw [nsOf_finish_setRsv _ _ found]
      rfl
  case denied =>
    intro t k c s u n e ready strict least most action key
    obtain ⟨f, src⟩ := ioReady_src ready
    exact congrArg Host.Outcome.next ((runRsv_ready _ src ready).trans (rsvAcquire_denied strict least most action key))
  case release =>
    intro t k c s u n e ready strict action key held rtype
    obtain ⟨f, src⟩ := ioReady_src ready
    have found := ready.2.2.2.1
    refine ⟨_, congrArg Host.Outcome.next (runRsv_ready _ src ready), ?_, ?_⟩
    · rw [rsvRelease_held strict action key held rtype found]
      rfl
    · rw [rsvRelease_held strict action key held rtype found]
      rfl

end

section
/-! SUPPORT. Channels: what a channel shows after training, retraining and failing (R359 to R366, R383, R387). -/
namespace Sys2Proof.Machine

theorem evsSetIf_flash (b : Bool) (n : Nat) (s : State) : (evsSetIf b n s).flash = s.flash := by cases b <;> rfl

section
variable {s u : State} {c : Nat} {x : Chan}

theorem chanOf_congr {v : State} (h : v.flash.chans = s.flash.chans) (c : Nat) : chanOf v c = chanOf s c := by
  unfold chanOf
  rw [h]

theorem chanOf_setChan (c : Nat) (x : Chan) (s : State) (i : Nat) :
    chanOf (setChan c x s) i = if i = c then x else chanOf s i := by
  unfold setChan
  rw [chanOf_congr (congrArg Flash.chans (evsSetIf_flash _ _ _))]
  exact Sparse.read_put ..

theorem chanOf_setChan_self (c : Nat) (x : Chan) (s : State) : chanOf (setChan c x s) c = x :=
  (chanOf_setChan c x s c).trans (if_pos rfl)

theorem topMode_setChan (x : Chan) (kept : x.accepted = (chanOf s c).accepted) : topMode (setChan c x s) c =
    topMode s c := by
  have tab (d : Nat) : dieTab (setChan c x s) d = dieTab s d := by
    unfold dieTab
    rw [(setChan_same c x s).wholeTab rfl]
  have flash : (setChan c x s).flash.maxMode = s.flash.maxMode := by
    unfold setChan
    rw [evsSetIf_flash]
  unfold topMode
  rw [chanOf_setChan_self, kept, flash]
  simp only [tab]

/-! ## Training -/

/-- A channel after a training that reaches a mode. -/
def trained (x : Chan) (m fails : Nat) (tj : Int) : Chan :=
  { x with trainFails := satAdd x.trainFails fails, mode := m, dllLock := true, state := .online, tjAtTraining := tj }

theorem trainChannel_reached {ok : List Bool} {n top m k : Nat} (reached : trainModes ok n top = (some m, k)) :
    trainChannel c top ok n s = setChan c (trained (chanOf s c) m k s.arm.meas.tj) s := by
  unfold trainChannel
  rw [reached]
  rfl

theorem trainChannel_failed {ok : List Bool} {n top k : Nat} (failed : trainModes ok n top = (none, k)) :
    trainChannel c top ok n s =
      failChannel c (setChan c { chanOf s c with trainFails := satAdd (chanOf s c).trainFails k } s) := by
  unfold trainChannel
  rw [failed]

/-- A channel that fails. -/
theorem failChannel_state (c : Nat) (s : State) : (chanOf (failChannel c s) c).state = .failed ∧
    (chanOf (failChannel c s) c).mode = 0 := by
  have down (d : Nat) (v : State) : (setDieTab d { dieTab v d with failed := true, reason := 8 }
      (setDie d (dieOf (setDieState d .failed v) d).cleared (setDieState d .failed v))).flash.chans = v.flash.chans
        := by
    show (setDieState d .failed v).flash.chans = _
    unfold setDieState
    rw [evsSetIf_flash]
    rfl
  have downs (l : List Nat) (v : State) := foldl_keeps (fun v : State => v.flash.chans) (fun v d => down d v) l v
  have lost (l : List Nat) (v : State) : (failureEvent l (markDelta v)).flash = v.flash :=
    ((failureEvent_same _ _).field .flash rfl).trans ((markDelta_same v).field .flash rfl)
  have told (a b d : Nat) (v : State) : (event a b d v).flash = v.flash := (event_same a b d v).field .flash rfl
  unfold failChannel
  dsimp only
  rw [chanOf_congr ((congrArg Flash.chans (lost _ _)).trans ((downs _ _).trans (congrArg Flash.chans (told _ _ _ _)))),
    chanOf_setChan_self]
  exact ⟨rfl, rfl⟩

/-- A retrain that reaches a mode: what the channel shows then. -/
def retrained (s : State) (c : Nat) (forced : Bool) (us : W16) : Chan :=
  { chanOf s c with retrains := satAdd (chanOf s c).retrains 1, forced := (chanOf s c).forced || forced, pending := false,
                    state := .retraining, trainTop := topMode s c, lastUs := if 2000 < us.toNat then 2000 else us }

theorem startRetrain_chan (forced : Bool) (us : W16) :
    startRetrain c forced us s = setChan c (retrained s c forced us) s := rfl

theorem retrain_reached {ok : List Bool} {us : W16} {m k : Nat}
    (reached : trainModes ok (if ok.getD 1 false then 0 else 3) (topMode s c) = (some m, k)) :
    retrain c ok us s = setChan c (trained (retrained s c false us) m k s.arm.meas.tj)
      (setChan c (retrained s c false us) s) := by
  have arm : (setChan c (retrained s c false us) s).arm = s.arm := (setChan_same _ _ _).field .arm rfl
  unfold retrain
  rw [trainChannel_reached reached, startRetrain_chan, chanOf_setChan_self, arm]

/-- Changing a channel twice leaves the rest alone. -/
theorem setChan_twice_same (y : Chan) : Same [.flash, .evs0, .evs1] s (setChan c x (setChan c y s)) :=
  Same.call (setChan_same _ _ _) (by decide) (setChan_same _ _ _)

/-! ## Identification -/

theorem identifyDie_chans (ch : Nat) (p : DieProbe) (s : State) : (identifyDie ch p s).flash.chans = s.flash.chans := by
  have state (d : Nat) (st : DieState) (v : State) : (setDieState d st v).flash.chans = v.flash.chans := by
    unfold setDieState
    rw [evsSetIf_flash]
    rfl
  have lost (d : Nat) (v : State) : (positionLost d v).flash = v.flash := (positionLost_same d v).field .flash rfl
  have told (a b d : Nat) (v : State) : (event a b d v).flash = v.flash := (event_same a b d v).field .flash rfl
  have tab (d : Nat) (y : DieTab) (v : State) : (setDieTab d y v).flash = v.flash := rfl
  have replaced (b : Bool) (d : Nat) : (if b then setDieTab d DieTab.reset s else s).flash.chans = s.flash.chans := by
    cases b <;> rfl
  have noted (p : Prop) [Decidable p] (v : State) : (if p then v else markDelta v).flash.chans = v.flash.chans := by
    split <;> rfl
  unfold identifyDie
  dsimp only
  split
  · rw [lost, state, replaced]
  · split
    · rw [lost, told, tab, state, replaced]
    · rw [state, tab, noted, replaced]

end

end Sys2Proof.Machine

open Sys2Proof Sys2Proof.Machine

/-- Settles O36: each command's branch, and what its channel shows then. -/
theorem channelsTrainAndRetrain : Obligations.ChannelsTrainAndRetrain := by
  unfold Obligations.ChannelsTrainAndRetrain
  refine ⟨?online, ?empty, ?fault, ?ends, ?drift, ?errors, ?request, ?idle, ?force, ?rebuilding, ?loss, ?failed⟩
  case online =>
    intro s c l ok n w u m k power phase state hw hu some' reached
    have notForced : (chanOf s c).state ≠ .retraining := by rcases state with h | h <;> simp [h]
    have due : ¬((chanOf s c).state ≠ .unpopulated ∧ (chanOf s c).state ≠ .training) := by rcases state with h | h <;>
        simp [h]
    have accepted : (chanOf u c).accepted =
        ((allProbes l).filter fun p => p.answers && decide (probeReason p = 0)).map (·.die) := by
      rw [hu, chanOf_setChan_self]
    have ran : exec (.channelTraining c l ok n) s = .next (trainChannel c (topMode u c) (modesPass ok) n u) := by
      refine congrArg Host.Outcome.next ((if_neg (by simp [power, phase])).trans ((if_neg notForced).trans
        ((if_neg due).trans ?_)))
      rw [accepted] at some'
      rw [hu, hw]
      exact if_neg (by simpa using some')
    rw [trainChannel_reached reached] at ran
    refine ⟨_, ran, ?_⟩
    rw [chanOf_setChan_self]
    exact ⟨rfl, rfl, rfl, rfl⟩
  case empty =>
    intro s c ok n power phase state
    have probes : ((allProbes []).filter fun p => p.answers && decide (probeReason p = 0)) = [] := by decide
    have chans : chanOf ((allProbes []).foldl (fun s p => identifyDie c p s) s) c = chanOf s c :=
      chanOf_congr (foldl_keeps (fun v => v.flash.chans) (fun v p => identifyDie_chans c p v) (allProbes []) s) c
    have ran : exec (.channelTraining c [] ok n) s = .next (setChan c
        { chanOf ((allProbes []).foldl (fun s p => identifyDie c p s) s) c with accepted := [], tried := true }
        ((allProbes []).foldl (fun s p => identifyDie c p s) s)) := by
      refine congrArg Host.Outcome.next ((if_neg (by simp [power, phase])).trans ((if_neg (by simp [state])).trans
        ((if_neg (by simp [state])).trans ?_)))
      dsimp only
      rw [probes]
      exact if_pos rfl
    refine ⟨_, ran, ?_⟩
    rw [chanOf_setChan_self, chans]
    exact ⟨state, rfl, rfl⟩
  case fault =>
    intro s c l ok n phase
    exact congrArg Host.Outcome.next (if_pos (.inr phase))
  case ends =>
    intro s c l ok n m k power phase state reached
    refine ⟨_, congrArg Host.Outcome.next ((if_neg (by simp [power, phase])).trans ((if_pos state).trans
      (trainChannel_reached reached))), ?_⟩
    rw [chanOf_setChan_self]
    exact ⟨rfl, rfl, rfl, rfl, setChan_same _ _ _⟩
  case drift =>
    intro s c power online
    exact ⟨_, congrArg Host.Outcome.next (if_pos (by simp [power, retrainable, online])), chanOf_setChan_self _ _ _,
      setChan_same _ _ _⟩
  case errors =>
    intro s c n k power online
    by_cases due : 8 ≤ n ∧ 2 ≤ k
    · refine ⟨_, congrArg Host.Outcome.next (if_pos (by simp [power, retrainable, online, due])), ?_,
        setChan_same _ _ _⟩
      rw [chanOf_setChan_self]
      simp [due]
    · refine ⟨_, congrArg Host.Outcome.next (if_neg (by simp [due])), ?_, .refl _ s⟩
      simp [due]
  case request =>
    intro s c v run
    refine ⟨_, congrArg Host.Outcome.next (if_pos run), ?_, ?_, setChan_same _ _ _⟩
    · rw [writeRetrain, chanOf_setChan_self]
      rfl
    · rw [writeRetrain, chanOf_setChan_self]
  case idle =>
    intro s c ok us m k power pending online quiet reached
    refine ⟨_, congrArg Host.Outcome.next ((if_pos (by simp [power, pending, online, quiet])).trans
      (retrain_reached reached)), ?_⟩
    rw [chanOf_setChan_self]
    exact ⟨rfl, rfl, rfl, Bool.or_false _, setChan_twice_same _⟩
  case force =>
    intro s c us power pending online whole
    refine ⟨_, congrArg Host.Outcome.next ((if_pos (by simp [power, pending, online, whole])).trans
      (startRetrain_chan true us)), ?_⟩
    rw [chanOf_setChan_self]
    exact ⟨rfl, Bool.or_true _, rfl, rfl, rfl, setChan_same _ _ _⟩
  case rebuilding =>
    intro s c us rebuilding
    exact congrArg Host.Outcome.next (if_neg (by simp [rebuilding]))
  case loss =>
    intro s c ok us m k power online reached
    rw [← topMode_setChan (s := s) { chanOf s c with dllLock := false } rfl] at reached
    refine ⟨_, congrArg Host.Outcome.next ((if_pos ⟨power, online⟩).trans (retrain_reached reached)), ?_⟩
    rw [chanOf_setChan_self]
    exact ⟨rfl, rfl, rfl, Same.call (setChan_twice_same _) (by decide) (setChan_same _ _ _)⟩
  case failed =>
    intro s c ok us k power online failed
    rw [← topMode_setChan (s := s) { chanOf s c with dllLock := false } rfl] at failed
    exact ⟨_, congrArg Host.Outcome.next ((if_pos ⟨power, online⟩).trans (trainChannel_failed failed)),
      failChannel_state c _⟩

end

section
/-! SUPPORT. A program whose row is being written: its issue marks the row (R442). -/
namespace Sys2Proof.Machine

/-- A program of a row of band 0. -/
def rowProgram : DieOp := { cls := .program, band := 0, page := 0, cost := 0 }

/-- A row of band 0 with nothing programmed yet. -/
def freshRow : Row :=
  { group := 0, band := 0, row := 0, items := [], src := none, programmed := 0, committed := 0, paired := none,
    pages := [],
    done := false }

/-- A powered device whose die 0 waits to program its position of the row. -/
def programWaits : State :=
  { State.reset with
    pwr.phase := .released, ftl.rows := [freshRow],
    flash.chans := [(0, { Chan.reset with state := .online })],
    flash.dies := [(0, { Die.reset with state := .online, queue := [rowProgram] })] }

theorem programWaits_issues : issueOp programWaits 0 = some rowProgram := by decide +kernel

/-- A program that is issued marks its position of the row. -/
theorem dieOpIssue_marks {s : State} {d : Nat} {o : DieOp} (power : powered s = true) (issues : issueOp s d = some o)
    (program : o.cls = .program) : ∃ t, exec (.dieOpIssue d) s = .next t ∧
      t.ftl.rows = (programIssued o.band o.page (dieChan d) s).ftl.rows := by
  have write : isRead o.cls = false := by rw [program]; rfl
  have ran : ∃ y, exec (.dieOpIssue d) s =
      .next (setDie d y (programIssued o.band o.page (dieChan d) (spend d o s))) := by
    show ∃ y, execDieOpIssue d s = _
    unfold execDieOpIssue
    rw [if_neg (by simp [power]), issues]
    dsimp only
    rw [if_neg (by simp [write]), if_pos program]
    exact ⟨_, rfl⟩
  obtain ⟨y, ran⟩ := ran
  exact ⟨_, ran, rfl⟩

end Sys2Proof.Machine

open Sys2Proof Sys2Proof.Machine

/-- Refutes O37: the issue of a program also marks its row in `ftl.rows`, which the statement's frame leaves out. -/
theorem not_dieOperationsComplete : ¬ Obligations.DieOperationsComplete := by
  unfold Obligations.DieOperationsComplete
  rintro ⟨issues, -⟩
  obtain ⟨t, ran, -, -, -, -, same⟩ := issues programWaits 0 rowProgram rfl programWaits_issues
  obtain ⟨u, ran', rows⟩ := dieOpIssue_marks (s := programWaits) rfl programWaits_issues rfl
  cases ran.symm.trans ran'
  obtain ⟨-, -, kept⟩ := same.field .ftlData rfl
  rw [rows] at kept
  exact absurd kept (by decide)

end

section
/-! SUPPORT. Stripe rows: packing adds a row, committing one moves its item to media (R401, R403, R410, R442). -/
namespace Sys2Proof.Machine

section
variable {s u : State}

/-! ## Packing -/

/-- A row that is packed joins the rows; the write-through queue stays. -/
theorem packRow_rows {g gen : Nat} {src : Option Nat} {kind : ProgSrc} {items rest : List (Nat × IuVer)}
    (packed : packRow g gen src kind items s = some (u, rest)) :
    u.ftl.rows.length = s.ftl.rows.length + 1 ∧ u.ftl.wt = s.ftl.wt := by
  have queued (l : List Nat) (o : DieOp) (v : State) : (l.foldl (fun s c => queueOp (dieAt g c) o s) v).ftl = v.ftl :=
    (Same.fold (l := [.flash]) (fun _ _ => queueOp_same _ _ _) _ (.refl _ _)).wholeFtl rfl
  have closed (n m b : Nat) (v : State) : (if n ≤ m then closeBand b v else v).ftl = v.ftl := by
    split
    · exact (closeBand_same b v).wholeFtl rfl
    · rfl
  have drew (o : Option Nat) (v : State) : (if o.isSome then drawn 1 v else v).ftl = v.ftl := by
    split <;> rfl
  unfold packRow at packed
  split at packed
  · cases packed
  · split at packed
    · cases packed
    · next b w opened =>
      obtain ⟨-, wt, rows⟩ := (bandFor_same opened).field .ftlData rfl
      split at packed
      · cases packed
      · next x _ =>
        dsimp only at packed
        obtain ⟨rfl, -⟩ := Prod.mk.inj (Option.some.inj packed)
        rw [queued, closed]
        generalize (if gen = 0 ∨ x.rows = 0 then none else some ((draw 16 w).toNat % x.rows)) = o
        have kept := drew o w
        refine ⟨?_, (congrArg Ftl.wt kept).trans wt⟩
        show ((if o.isSome then drawn 1 w else w).ftl.rows ++ [_]).length = _
        rw [kept, List.length_append, show w.ftl.rows = s.ftl.rows from rows]
        rfl

/-! ## Committing -/

/-- What a commit reads as of one unit: the map, its WRITE_SEQ and the media. -/
theorem commitItem_newer {k : Nat} {e : BitVec 40} {v : IuVer} (newer : seqOf s k < v.seq) :
    mapOf (commitItem none (k, e, v) s) k = (if v.poisoned = true then e ||| mapPoison else e) ∧
    seqOf (commitItem none (k, e, v) s) k = v.seq ∧
    Sparse.look (commitItem none (k, e, v) s).media.ius (locKey e) = some (k, v) ∧
    (commitItem none (k, e, v) s).media.stripes = s.media.stripes := by
  have taken : commitItem none (k, e, v) s =
      markDelta (setMap k (if v.poisoned then e ||| mapPoison else e) v.seq { s with
        media.ius := Sparse.set s.media.ius (locKey e) (k, v),
        hold.lostKeys := s.hold.lostKeys.filter fun j => !decide (j = k) }) := if_pos (by simpa using newer)
  rw [taken]
  refine ⟨?_, ?_, ?_, rfl⟩
  · rw [(markDelta_same _).mapOf rfl, mapOf_setMap]
  · exact (Sparse.read_put ..).trans (if_pos rfl)
  · exact (Sparse.look_set ..).trans (if_pos rfl)

theorem commitItem_older {k : Nat} {e : BitVec 40} {v : IuVer} (older : v.seq ≤ seqOf s k) :
    commitItem none (k, e, v) s = { s with ftl.staleCopies := satAdd s.ftl.staleCopies 1 } :=
  if_neg (by simpa using older)

/-- What is changed after the items of a row of host data were committed. -/
theorem commitRow_ends {b r : Nat} {q : Row} {x : Band} (row : rowAt s b r = some q) (band : bandOf s b = some x)
    (src : q.src = none) : ∃ w, (commitRow b r s).tab.map = (q.items.foldl (fun s i => commitItem none i s) w).tab.map ∧
      (commitRow b r s).tab.seqs = (q.items.foldl (fun s i => commitItem none i s) w).tab.seqs ∧
      (commitRow b r s).media = (q.items.foldl (fun s i => commitItem none i s) w).media ∧
      w.tab = s.tab ∧ w.media = { s.media with stripes := Sparse.set s.media.stripes (stripeKey b r) q.pages } := by
  have released (l : List (Nat × BitVec 40 × IuVer)) (v : State) : Same [.fns, .nvm, .ftlData, .ksc, .evs0, .evs1,
      .out] v
      (l.foldl (fun s i => releaseWt i.1 i.2.2.seq (releaseLine i.1 i.2.2.seq s)) v) :=
    Same.fold (fun _ _ => Same.call (releaseWt_same _ _ _) (by decide)
      (Same.widen (by decide) (releaseLine_same _ _ _))) _
      (.refl _ _)
  have ended (v : State) : Same [.fns, .nvm, .ftlData, .ksc, .evs0, .evs1, .out] v
      (retireRows (q.items.foldl (fun s i => releaseWt i.1 i.2.2.seq (releaseLine i.1 i.2.2.seq s)) v)) :=
    Same.call (retireRows_same _) (by decide) (released _ v)
  have whole : ∃ w, commitRow b r s = retireRows ((q.items.foldl (fun s i => commitItem none i s) w) |> fun v =>
      q.items.foldl (fun s i => releaseWt i.1 i.2.2.seq (releaseLine i.1 i.2.2.seq s)) v) ∧ w.tab = s.tab ∧
      w.media = { s.media with stripes := Sparse.set s.media.stripes (stripeKey b r) q.pages } := by
    unfold commitRow
    rw [row, band]
    dsimp only
    rw [src]
    dsimp only
    rw [if_neg (by decide)]
    exact ⟨_, rfl, (clearOps_same _ _ _ _).wholeTab rfl, (clearOps_same _ _ _ _).field .media rfl⟩
  obtain ⟨w, body, tab, media⟩ := whole
  refine ⟨w, ?_, ?_, ?_, tab, media⟩
  · rw [body]
    exact ((ended _).field .tabMap rfl).1
  · rw [body]
    exact ((ended _).field .tabMap rfl).2
  · rw [body]
    exact (ended _).field .media rfl

end

end Sys2Proof.Machine
end

section
/-! SUPPORT. A failed program: the row is abandoned and the die's failure is counted, whatever follows of it (R381 to
R383,
R401, R445, R446). -/
namespace Sys2Proof.Machine

/-- From `s` to `v` the tables of the dies stay and no row comes or goes. -/
def Steady (s v : State) : Prop := v.tab.dies = s.tab.dies ∧ v.ftl.rows.length = s.ftl.rows.length

namespace Steady
variable {s u v : State}

theorem refl (s : State) : Steady s s := ⟨rfl, rfl⟩

theorem trans (first : Steady s u) (second : Steady u v) : Steady s v :=
  ⟨second.1.trans first.1, second.2.trans first.2⟩

/-- An operation after others, the last one first. -/
theorem after (second : Steady u v) (first : Steady s u) : Steady s v := first.trans second

theorem of_same {l : List Field} (h : Same l s v) (dies : (!l.contains .tabDies) = true)
    (rows : (!l.contains .ftlData) = true) : Steady s v := by
  obtain ⟨-, kept, -⟩ := h.field .tabDies dies
  obtain ⟨-, -, same⟩ := h.field .ftlData rows
  exact ⟨kept, congrArg List.length same⟩

theorem ite {c : Prop} [Decidable c] (h : Steady s u) (k : Steady s v) : Steady s (if c then u else v) := by
  split <;> assumption

theorem fold {α : Type} {g : State → α → State} (h : ∀ s a, Steady s (g s a)) : ∀ (l : List α) (s : State),
    Steady s (l.foldl g s)
  | [], s => refl s
  | a :: l, s => (h s a).trans (fold h l (g s a))

end Steady

theorem setGrp_steady (g : Nat) (x : Grp) (s : State) : Steady s (setGrp g x s) := by
  have marked (b : Bool) (n : Nat) (v : State) : Steady v (evsSetIf b n v) := by cases b <;> exact ⟨rfl, rfl⟩
  exact (marked _ _ _).after ⟨rfl, rfl⟩

theorem closeBand_steady (b : Nat) (s : State) : Steady s (closeBand b s) := by
  unfold closeBand
  split
  · exact .refl s
  · exact .ite (.refl s) ⟨rfl, rfl⟩

theorem removeNs_steady (n : Nat) (s : State) : Steady s (removeNs n s) :=
  ⟨rfl, List.length_map ..⟩

theorem offlineImports_steady (s : State) : Steady s (offlineImports s) := by
  have discarded (x : MqSess) (v : State) : Steady v (discardImport x v) := by
    unfold discardImport
    exact (Steady.of_same (dropSess_same _ _) rfl rfl).after
        ((Steady.fold (fun w i => .of_same (eraseSlotOf_same i w) rfl rfl)
      _ _).after (.fold (fun w n => removeNs_steady n w) _ _))
  unfold offlineImports
  exact .fold (fun v x => (Steady.of_same (mqEvent_same _ _ _ _) rfl rfl).after (discarded x v)) _ s

theorem goOffline_steady (d : Nat) (s : State) : Steady s (goOffline d s) := by
  have marked (v : State) : Steady v (ustChange arrayUnit (markDelta { v with
      tab.offline := true, tab.offlineSeen := true, ftl.folding := [], ftl.refresh := [] })) := ⟨rfl, rfl⟩
  unfold goOffline
  refine .ite (.refl s) ?_
  exact (offlineImports_steady _).after ((Steady.of_same (event_same _ _ _ _) rfl rfl).after
    ((marked _).after (.fold (fun v g => setGrp_steady g _ v) _ s)))

theorem rebuildEnd_steady (g : Nat) (s : State) : Steady s (rebuildEnd g s) := by
  have noted (p : Prop) [Decidable p] (v : State) :
      Steady v (if p then event 0x0040 37 g (enterReadOnly g v) else v) :=
    .ite ((Steady.of_same (event_same _ _ _ _) rfl rfl).after (.of_same (enterReadOnly_same _ _) rfl rfl)) (.refl v)
  have marked (v : State) : Steady v (event 0x0040 33 g (ustChange arrayUnit (markDelta v))) :=
    (Steady.of_same (event_same _ _ _ _) rfl rfl).after ⟨rfl, rfl⟩
  unfold rebuildEnd
  refine .ite (.refl s) ?_
  exact (Steady.of_same (spareCheck_same _) rfl rfl).after ((noted _ _).after ((marked _).after (setGrp_steady _ _ _)))

theorem startRebuild_steady (g d : Nat) (s : State) : Steady s (startRebuild g d s) := by
  have marked (v : State) : Steady v (event 0x0040 32 d (ustChange arrayUnit (markDelta v))) :=
    (Steady.of_same (event_same _ _ _ _) rfl rfl).after ⟨rfl, rfl⟩
  unfold startRebuild
  exact (rebuildEnd_steady _ _).after ((marked _).after ((setGrp_steady _ _ _).after
    (.fold (fun v (e : Nat × Band) => closeBand_steady e.1 v) _ s)))

theorem failureEvent_steady (l : List Nat) (s : State) : Steady s (failureEvent l s) := by
  have lost (d : Nat) (v : State) : Steady v (losePosition d v) := .ite (.refl v) (setGrp_steady _ _ v)
  have counted (d : Nat) : Steady s (l.foldl (fun s e => losePosition e s) (countFailure d s)) :=
    (Steady.fold (fun v e => lost e v) l _).after ⟨rfl, rfl⟩
  unfold failureEvent
  split
  · exact .refl s
  · refine .ite (counted _) (.ite ((goOffline_steady _ _).after (counted _)) ?_)
    exact (Steady.fold (fun v e => startRebuild_steady (dieGroup e) e v) _ _).after (counted _)

/-! ## The tables of one die -/

/-- From `s` to `v` no row comes or goes and the program failures of a die stay as they were counted. -/
def Counted (d : Nat) (s v : State) : Prop :=
  (dieTab v d).progFails = (dieTab s d).progFails ∧ v.ftl.rows.length = s.ftl.rows.length

section
variable {d : Nat} {s u v : State}

theorem dieTab_setDieTab (e : Nat) (x : DieTab) (s : State) (i : Nat) :
    dieTab (setDieTab e x s) i = if i = e then x else dieTab s i := Sparse.read_put ..

theorem Steady.counted (h : Steady s v) (d : Nat) : Counted d s v := by
  obtain ⟨dies, rows⟩ := h
  exact ⟨by unfold dieTab; rw [dies], rows⟩

theorem Counted.trans (first : Counted d s u) (second : Counted d u v) : Counted d s v :=
  ⟨second.1.trans first.1, second.2.trans first.2⟩

theorem Counted.after (second : Counted d u v) (first : Counted d s u) : Counted d s v := first.trans second

theorem Counted.of_same {l : List Field} (h : Same l s v) (dies : (!l.contains .tabDies) = true)
    (rows : (!l.contains .ftlData) = true) : Counted d s v := (Steady.of_same h dies rows).counted d

theorem Counted.ite {c : Prop} [Decidable c] (h : Counted d s u) (k : Counted d s v) : Counted d s
    (if c then u else v) := by
  split <;> assumption

theorem setDieTab_counted {x : DieTab} (kept : x.progFails = (dieTab s d).progFails) : Counted d s (setDieTab d x s) :=
  ⟨by rw [dieTab_setDieTab, if_pos rfl, kept], rfl⟩

theorem failDie_counted (reason : W32) : Counted d s (failDie d reason s) := by
  have state (v : State) : Counted d v (setDieState d .failed v) := .of_same (setDieState_same _ _ _) rfl rfl
  have cleared (x : Die) (v : State) : Counted d v (setDie d x v) := .of_same (setDie_same _ _ _) rfl rfl
  have told (v : State) : Counted d v (failureEvent [d] (event 0x0040 2 d (markDelta v))) :=
    ((failureEvent_steady _ _).counted d).after (.after (.of_same (event_same _ _ _ _) rfl rfl)
      (.of_same (markDelta_same v) rfl rfl))
  have tabled (v : State) : Counted d v (setDieTab d { dieTab v d with failed := true, reason := reason } v) :=
    setDieTab_counted rfl
  unfold failDie
  refine .ite ((Steady.refl s).counted d) ?_
  refine Counted.trans ?_ (told _)
  refine Counted.trans ?_ (tabled _)
  exact (state s).trans (cleared _ _)

theorem suspectDie_counted (reason : W32) : Counted d s (suspectDie d reason s) := by
  have state (v : State) : Counted d v (setDieState d .suspect v) := .of_same (setDieState_same _ _ _) rfl rfl
  have told (x : Die) (v : State) : Counted d v (event 0x0040 1 d (setDie d x v)) :=
    Counted.after (.of_same (event_same _ _ _ _) rfl rfl) (.of_same (setDie_same _ _ _) rfl rfl)
  have tabled : Counted d s (setDieTab d { dieTab s d with reason := reason } (setDieState d .suspect s)) := by
    refine (state s).trans (setDieTab_counted ?_)
    exact (state s).1.symm
  unfold suspectDie
  split
  · exact (told _ _).after tabled
  · exact failDie_counted reason
  · exact (Steady.refl s).counted d

theorem growBad_counted (p b : Nat) : Counted d s (growBad d p b s) := by
  have told (x : DieTab) (kept : x.progFails = (dieTab s d).progFails) :
      Counted d s (spareCheck (markDelta (setDieTab d x s))) :=
    .after (.of_same (spareCheck_same _) rfl rfl) (.after (.of_same (markDelta_same _) rfl rfl)
      (setDieTab_counted kept))
  unfold growBad
  exact .ite ((Steady.refl s).counted d) (.ite (failDie_counted 7) (told _ rfl))

/-- A failed program counts once for its die. -/
theorem opFailed_counts (d p b : Nat) (s : State) :
    (dieTab (opFailed d p b false s) d).progFails = satAdd (dieTab s d).progFails 1 ∧
    (opFailed d p b false s).ftl.rows.length = s.ftl.rows.length := by
  have counted (v : State) (y : DieTab) (one : y.progFails = satAdd (dieTab s d).progFails 1)
      (rest : Counted d (setDieTab d y s) v) :
      (dieTab v d).progFails = satAdd (dieTab s d).progFails 1 ∧ v.ftl.rows.length = s.ftl.rows.length := by
    obtain ⟨fails, rows⟩ := rest
    rw [dieTab_setDieTab, if_pos rfl] at fails
    exact ⟨fails.trans one, rows⟩
  have set (x : Die) (v : State) : Counted d v (setDie d x v) := .of_same (setDie_same _ _ _) rfl rfl
  unfold opFailed
  dsimp only
  rw [if_neg Bool.false_ne_true]
  refine counted _ { dieTab s d with progFails := satAdd (dieTab s d).progFails 1 } rfl ?_
  have grown := growBad_counted (d := d)
    (s := setDieTab d { dieTab s d with progFails := satAdd (dieTab s d).progFails 1 } s) p b
  generalize growBad d p b _ = w at grown ⊢
  split
  · exact grown.trans (failDie_counted 6)
  · exact .ite (grown.trans (suspectDie_counted 6)) (grown.trans (set _ _))
  · exact grown

end

end Sys2Proof.Machine
end

section
/-! SUPPORT. Abandoned rows, merges and the shadow units that a row carries (R396, R401, R426 to R428, R443). -/
namespace Sys2Proof.Machine

/-! ## Abandoned rows -/

/-- From `s` to `v` rows may go; the tables of the dies and the media stay. -/
def Shrinks (s v : State) : Prop :=
  v.tab.dies = s.tab.dies ∧ v.ftl.rows.length ≤ s.ftl.rows.length ∧ v.media = s.media

namespace Shrinks
variable {s u v : State}

theorem refl (s : State) : Shrinks s s := ⟨rfl, Nat.le_refl _, rfl⟩

theorem trans (first : Shrinks s u) (second : Shrinks u v) : Shrinks s v :=
  ⟨second.1.trans first.1, Nat.le_trans second.2.1 first.2.1, second.2.2.trans first.2.2⟩

theorem ite {c : Prop} [Decidable c] (h : Shrinks s u) (k : Shrinks s v) : Shrinks s (if c then u else v) := by
  split <;> assumption

theorem fold {α : Type} {g : State → α → State} (h : ∀ s a, Shrinks s (g s a)) :
    ∀ (l : List α) (s : State), Shrinks s (l.foldl g s)
  | [], s => refl s
  | a :: l, s => (h s a).trans (fold h l (g s a))

end Shrinks

section
variable {s : State}

theorem closeBand_shrinks (b : Nat) (s : State) : Shrinks s (closeBand b s) :=
  ⟨(closeBand_steady b s).1, Nat.le_of_eq (closeBand_steady b s).2, (closeBand_same b s).field .media rfl⟩

/-- An abandoned row is gone, whatever its band and lines then become. -/
theorem abandonRow_drops {b r : Nat} {q : Row} {x : Band} (row : rowAt s b r = some q) (band : bandOf s b = some x) :
    (abandonRow b r s).ftl.rows.length < s.ftl.rows.length ∧ (abandonRow b r s).tab.dies = s.tab.dies ∧
    (abandonRow b r s).media = s.media := by
  have fewer : (s.ftl.rows.filter fun y => !decide (y = q)).length < s.ftl.rows.length :=
    List.length_filter_lt_length_iff_exists.mpr ⟨q, List.mem_of_find?_eq_some row, by simp⟩
  have after {v : State} (rest : Shrinks { s with ftl.rows := s.ftl.rows.filter fun y => !decide (y = q) } v) :
      v.ftl.rows.length < s.ftl.rows.length ∧ v.tab.dies = s.tab.dies ∧ v.media = s.media :=
    ⟨Nat.lt_of_le_of_lt rest.2.1 fewer, rest.1, rest.2.2⟩
  have cleared (v : State) : Shrinks v (clearOps b r x v) := by
    obtain ⟨-, -, rows⟩ := (clearOps_same b r x v).field .ftlData rfl
    exact ⟨congrArg Tables.dies ((clearOps_same b r x v).wholeTab rfl), Nat.le_of_eq (congrArg List.length rows),
      (clearOps_same b r x v).field .media rfl⟩
  have retired (v : State) : Shrinks v (retireRows v) := ⟨rfl, List.length_filter_le _ _, rfl⟩
  have lined (k : Nat) (l : Line) (v : State) : Shrinks v (setLine k l v) := ⟨rfl, Nat.le_refl _, rfl⟩
  unfold abandonRow
  rw [row, band]
  refine after ((Shrinks.trans ?_ (closeBand_shrinks b _)).trans (retired _))
  refine (cleared _).trans (.ite (.refl _) (.fold (fun v i => ?_) _ _))
  split
  · exact .ite (lined _ _ v) (.refl v)
  · exact .refl v

/-- The failure of a program drops its row and counts for its die. -/
theorem programFail_counts {g b r d : Nat} {q : Row} {x : Band} (power : powered s = true)
    (row : rowAt s (bandKey g b) r = some q) (band : bandOf s (bandKey g b) = some x) (chan : dieChan d ∈ x.chans)
    (group : dieGroup d = g) : ∃ t, exec (.stripeRowProgramFail g b r d) s = .next t ∧
      t.ftl.rows.length < s.ftl.rows.length ∧ (dieTab t d).progFails = satAdd (dieTab s d).progFails 1 ∧
      t.media = s.media := by
  obtain ⟨fewer, dies, media⟩ := abandonRow_drops (s := drawn 1 s) row band
  have ran : ∃ p k, exec (.stripeRowProgramFail g b r d) s =
      .next (opFailed d p k false (abandonRow (bandKey g b) r (drawn 1 s))) := by
    show ∃ p k, execStripeRowProgramFail g b r d s = _
    unfold execStripeRowProgramFail
    dsimp only
    rw [row, band]
    dsimp only
    rw [if_neg (by simp [power, chan, group])]
    exact ⟨_, _, rfl⟩
  obtain ⟨p, k, ran⟩ := ran
  obtain ⟨counted, rows⟩ := opFailed_counts d p k (abandonRow (bandKey g b) r (drawn 1 s))
  refine ⟨_, ran, by rw [rows]; exact fewer, ?_, ((opFailed_same _ _ _ _ _).field .media rfl).trans media⟩
  rw [counted, dieTab, dies]
  rfl

/-! ## Merges -/

/-- A line that waits for its merge is Dirty with the merged version. -/
theorem mergeReadDone_line {k : Nat} {env : MediaEnv} {l : Line} (line : lineOf s k = some l)
    (merging : l.state = .merging) :
    lineOf (mergeReadDone k env s) k = some { state := .dirty, ver := merged s env k l.ver } ∧
    (mergeReadDone k env s).tab.map = s.tab.map ∧ (mergeReadDone k env s).media = s.media := by
  have same := mergeReadDone_same k env s
  refine ⟨?_, congrArg Tables.map (same.wholeTab rfl), same.field .media rfl⟩
  have told (c d0 d1 : Nat) (b : Bool) (v : State) : lineOf (if b then event c d0 d1 v else v) k = lineOf v k := by
    cases b
    · rfl
    · exact lineOf_event c d0 d1 v k
  have reported (p : Prop) [Decidable p] (b : Bool) (e : BitVec 40) (v : State) :
      lineOf (if p then v else reportRead s env b e v) k = lineOf v k := by
    split
    · rfl
    · unfold lineOf
      rw [((reportRead_same s env b e v).field .ftlData rfl).1]
  have filled (v : State) : lineOf (if env.cacheBad.contains k then event 0x0040 16 0xFFFF v else v) k = lineOf v k :=
    told _ _ _ _ v
  unfold mergeReadDone
  simp only [line, merging, reduceIte]
  rw [if_neg (by simp), filled, told, reported, lineOf_setLine]

/-! ## Shadow units -/

/-- The place of the host metadata of a block is among the shadow units of its unit. -/
theorem shadowSlot_mem {n : Ns} {k j : Nat} (found : nsOf s (iuNs k) = some n) (hasMeta : metaBytes n.lbaf ≠ 0)
    (plain : iuShadow k = false) (inside : j < n.perIu) : (shadowSlot n k j).1 ∈ shadowsOf s k := by
  have low : iuNum k * n.perIu / perShadow n ≤ (iuNum k * n.perIu + j) / perShadow n := Nat.div_le_div_right (by omega)
  have high : (iuNum k * n.perIu + j) / perShadow n ≤ (iuNum k * n.perIu + n.perIu - 1) / perShadow n :=
    Nat.div_le_div_right (by omega)
  unfold shadowsOf shadowSlot
  rw [found]
  dsimp only
  rw [if_neg (by simp [hasMeta, plain])]
  refine List.mem_map.mpr ⟨(iuNum k * n.perIu + j) / perShadow n - iuNum k * n.perIu / perShadow n, ?_, ?_⟩
  · exact List.mem_range.mpr (by omega)
  · congr 2
    omega

end

/-- A unit of blocks with host metadata holds at most 16, and a shadow unit the metadata of at least 256 blocks. -/
theorem metaSizes {n : Ns} (hasMeta : metaBytes n.lbaf ≠ 0) : n.perIu ≤ 16 ∧ 256 ≤ perShadow n := by
  have format : n.lbaf = 2 ∨ n.lbaf = 3 := by
    unfold metaBytes at hasMeta
    split at hasMeta
    · exact .inl ‹_›
    · split at hasMeta
      · exact .inr ‹_›
      · exact absurd rfl hasMeta
  have bytes : iuBytes n.iu ≤ 65536 := by
    unfold iuBytes
    split
    · decide
    · split <;> decide
  have block : lbaBytes n.lbaf = 4096 := by rcases format with h | h <;> rw [h] <;> rfl
  have blocks : n.perIu ≤ 16 := by
    unfold Ns.perIu iuBlocks
    rw [block]
    omega
  refine ⟨blocks, ?_⟩
  unfold perShadow
  rcases format with h | h <;> rw [h] <;> decide

/-- The shadow unit of a block is of the namespace of the block. -/
theorem shadowSlot_ns {n : Ns} {k j : Nat} (hasMeta : metaBytes n.lbaf ≠ 0) (inside : j < n.perIu) :
    iuNs (shadowSlot n k j).1 = iuNs k := by
  obtain ⟨blocks, per⟩ := metaSizes hasMeta
  have num : iuNum k < 2 ^ 39 := Nat.mod_lt _ (by decide)
  have lba : iuNum k * n.perIu + j < 2 ^ 39 * 16 := by
    have := Nat.mul_le_mul (Nat.le_of_lt_succ num) blocks
    omega
  have unit : (iuNum k * n.perIu + j) / perShadow n < 2 ^ 39 := by
    have := Nat.div_le_self (iuNum k * n.perIu + j) (perShadow n)
    have := Nat.div_le_div_left (a := iuNum k * n.perIu + j) per (by decide)
    omega
  unfold shadowSlot
  dsimp only
  generalize (iuNum k * n.perIu + j) / perShadow n = y at unit
  unfold iuNs shadowKey iuKey
  omega

/-- Two blocks of a unit have two places among the shadow units. -/
theorem shadowSlot_inj {n : Ns} {k i j : Nat} (hasMeta : metaBytes n.lbaf ≠ 0)
    (same : shadowSlot n k i = shadowSlot n k j) : i = j := by
  have per := (metaSizes hasMeta).2
  have unit : (iuNum k * n.perIu + i) / perShadow n = (iuNum k * n.perIu + j) / perShadow n := by
    have := congrArg Prod.fst same
    unfold shadowSlot shadowKey iuKey at this
    dsimp only at this
    omega
  have place : (iuNum k * n.perIu + i) % perShadow n = (iuNum k * n.perIu + j) % perShadow n := congrArg Prod.snd same
  have := Nat.div_add_mod (iuNum k * n.perIu + i) (perShadow n)
  have := Nat.div_add_mod (iuNum k * n.perIu + j) (perShadow n)
  rw [unit, place] at *
  omega

/-- The host metadata of a version put at the places of a shadow unit, block by block. -/
theorem putHosts_fold {n : Ns} {sk k j : Nat} {v : IuVer} (hasMeta : metaBytes n.lbaf ≠ 0)
    (unit : (shadowSlot n k j).1 = sk) : ∀ (l : List Nat) (m : Sparse Blk),
    j ∈ l ∨ (Sparse.read Blk.zero m (shadowSlot n k j).2).data = (v.blk j).host →
    (Sparse.read Blk.zero (l.foldl (fun m i =>
      if (shadowSlot n k i).1 = sk then
        Sparse.put Blk.zero m (shadowSlot n k i).2 { Blk.zero with data := (v.blk i).host } else m) m)
      (shadowSlot n k j).2).data = (v.blk j).host
  | [], m, held => held.resolve_left (List.not_mem_nil)
  | i :: l, m, held => by
    rw [List.foldl_cons]
    refine putHosts_fold hasMeta unit l _ ?_
    by_cases this : j = i
    · subst this
      rw [if_pos unit, Sparse.read_put, if_pos rfl]
      exact .inr rfl
    · refine held.imp (fun h => (List.mem_cons.mp h).resolve_left this) fun h => ?_
      split
      · rw [Sparse.read_put, if_neg fun place => this
          (shadowSlot_inj hasMeta (Prod.ext (unit.trans ‹_ = sk›.symm) place))]
        exact h
      · exact h

/-- The shadow units of a row with one newer item hold the host metadata of the item's blocks. -/
theorem shadowItems_host {s : State} {n : Ns} {k j : Nat} {v : IuVer} (found : nsOf s (iuNs k) = some n)
    (hasMeta : metaBytes n.lbaf ≠ 0) (plain : iuShadow k = false) (newer : seqOf s k < v.seq) (inside : j < n.perIu) :
    ∃ w, ((shadowSlot n k j).1, w) ∈ shadowItems s [(k, v)] ∧
      (w.blk (shadowSlot n k j).2).data = (v.blk j).host := by
  have ns := shadowSlot_ns (k := k) hasMeta inside
  have listed : (shadowSlot n k j).1 ∈ ([(k, v)].flatMap fun i => shadowsOf s i.1).eraseDups := by
    rw [List.mem_eraseDups, List.flatMap_cons, List.flatMap_nil, List.append_nil]
    exact shadowSlot_mem found hasMeta plain inside
  obtain ⟨p, short, placed⟩ := List.mem_iff_getElem.mp listed
  have fresh : [(k, v)].filter (fun i => decide (seqOf s i.1 < i.2.seq)) = [(k, v)] :=
    List.filter_eq_self.mpr fun i hi => by
      rw [List.mem_singleton.mp hi]
      exact decide_eq_true newer
  have mine : [(k, v)].filter (fun i => decide (iuNs i.1 = iuNs (shadowSlot n k j).1)) = [(k, v)] :=
    List.filter_eq_self.mpr fun i hi => by
      rw [List.mem_singleton.mp hi]
      exact decide_eq_true ns.symm
  refine ⟨⟨s.tab.writeSeq + 1 + p, putHosts n (shadowSlot n k j).1 (k, v) (shadowBase s n (shadowSlot n k j).1)⟩, ?_,
      ?_⟩
  · unfold shadowItems
    dsimp only
    rw [fresh]
    refine List.mem_filterMap.mpr ⟨p, List.mem_range.mpr short, ?_⟩
    rw [List.getD_eq_getElem _ _ short, placed, ns, found, ← ns, mine]
    rfl
  · exact putHosts_fold hasMeta rfl _ _ (.inl (List.mem_range.mpr inside))

/-! ## Packing and committing -/

section
variable {s u : State} {g : Nat} {l : List Nat} {items rest : List (Nat × IuVer)}

/-- Marking lines Packing keeps the rows and what waits for a write-through. -/
theorem markPacking_keeps : ∀ (l : List (Nat × IuVer)) (s : State),
    (markPacking l s).ftl.rows = s.ftl.rows ∧ (markPacking l s).ftl.wt = s.ftl.wt
  | [], _ => ⟨rfl, rfl⟩
  | i :: l, s => by
    have one (v : State) (c : Prop) [Decidable c] (x : Line) :
        (if c then setLine i.1 x v else v).ftl.rows = v.ftl.rows ∧
          (if c then setLine i.1 x v else v).ftl.wt = v.ftl.wt := by
      split <;> exact ⟨rfl, rfl⟩
    unfold markPacking
    rw [List.foldl_cons]
    refine (show _ ∧ _ from markPacking_keeps l _).imp (fun h => h.trans ?_) fun h => h.trans ?_ <;> split
    · exact (one _ _ _).1
    · rfl
    · exact (one _ _ _).2
    · rfl

/-- A pack into the open SLC band of a group adds one row. -/
theorem stripeRowPack_adds (used : (grpOf s g).state ≠ .unused) (slc : slcOpen s g = true)
    (nonempty : l.eraseDups.filterMap (fun k => (packable s k).map fun v => (k, v)) ≠ [])
    (packed : packRow g 0 none .other (l.eraseDups.filterMap fun k => (packable s k).map fun v => (k, v)) s = some (u,
      rest)) :
    (stripeRowPack g l s).ftl.rows.length = s.ftl.rows.length + 1 ∧ (stripeRowPack g l s).ftl.wt = s.ftl.wt ∧
    (stripeRowPack g l s).tab.map = s.tab.map ∧ (stripeRowPack g l s).media = s.media := by
  obtain ⟨rows, wt⟩ := packRow_rows packed
  have same := packRow_same packed
  have packs : packHost g 0 (l.eraseDups.filterMap fun k => (packable s k).map fun v => (k, v)) s =
      markPacking ((l.eraseDups.filterMap fun k => (packable s k).map fun v => (k, v)).take
        ((l.eraseDups.filterMap fun k => (packable s k).map fun v => (k, v)).length - rest.length)) u := by
    unfold packHost
    rw [if_pos rfl, packed]
    exact if_pos rfl
  unfold stripeRowPack
  dsimp only
  rw [if_neg (by simpa [used] using nonempty), if_pos slc, packs]
  obtain ⟨rows', wt'⟩ := markPacking_keeps ((l.eraseDups.filterMap fun k => (packable s k).map fun v => (k, v)).take
    ((l.eraseDups.filterMap fun k => (packable s k).map fun v => (k, v)).length - rest.length)) u
  have marked := markPacking_same ((l.eraseDups.filterMap fun k => (packable s k).map fun v => (k, v)).take
    ((l.eraseDups.filterMap fun k => (packable s k).map fun v => (k, v)).length - rest.length)) u
  exact ⟨by rw [rows', rows], wt'.trans wt, (marked.field .tabMap rfl).1.trans (same.field .tabMap rfl).1,
    (marked.field .media rfl).trans (same.field .media rfl)⟩

/-- With native programs stopped and no open SLC band nothing is packed. -/
theorem stripeRowPack_stopped (slc : slcOpen s g = false) (stop : g ∈ s.ftl.nativeStop) : stripeRowPack g l s = s := by
  unfold stripeRowPack
  dsimp only
  split
  · rfl
  · rw [if_neg (by simp [slc]), if_pos (by simpa using stop)]

/-- The end of a rebuild keeps the map and the media. -/
theorem rebuildEnd_map (g : Nat) (s : State) : (rebuildEnd g s).tab.map = s.tab.map ∧
    (rebuildEnd g s).tab.seqs = s.tab.seqs ∧ (rebuildEnd g s).media = s.media :=
  ⟨((rebuildEnd_same g s).field .tabMap rfl).1, ((rebuildEnd_same g s).field .tabMap rfl).2,
    (rebuildEnd_same g s).field .media rfl⟩

/-- A committed row of one item: the item is committed after the row's pages are on media. -/
theorem stripeRowCommit_one {b r k : Nat} {q : Row} {x : Band} {e : BitVec 40} {v : IuVer}
    (row : rowAt s (bandKey g b) r = some q) (band : bandOf s (bandKey g b) = some x) (src : q.src = none)
    (one : q.items = [(k, e, v)]) (runs : running s = true) : ∃ t w, exec (.stripeRowCommit g b r) s = .next t ∧
    t.tab.map = (commitItem none (k, e, v) w).tab.map ∧ t.tab.seqs = (commitItem none (k, e, v) w).tab.seqs ∧
    t.media = (commitItem none (k, e, v) w).media ∧ w.tab = s.tab ∧
    w.media = { s.media with stripes := Sparse.set s.media.stripes (stripeKey (bandKey g b) r) q.pages } := by
  obtain ⟨w, map, seqs, media, tab, stripes⟩ := commitRow_ends row band src
  rw [one, List.foldl_cons, List.foldl_nil] at map seqs media
  obtain ⟨map', seqs', media'⟩ := rebuildEnd_map g (commitRow (bandKey g b) r s)
  exact ⟨_, w, congrArg Host.Outcome.next (if_pos runs), map'.trans map, seqs'.trans seqs, media'.trans media, tab,
      stripes⟩

end

end Sys2Proof.Machine

open Sys2Proof Sys2Proof.Machine

/-- Settles O38, clause by clause: `packRow` adds one row and the marking of lines moves no table; the commit of a row
with
one item is that item's, newer or older than the map's; an abandoned row is gone; two blocks of a unit never share a
  place of
a shadow unit, so each keeps its own metadata there. -/
theorem rowsMoveUnitsToMedia : Obligations.RowsMoveUnitsToMedia := by
  refine ⟨?_, ?_, ?_, ?_, ?_, ?_, ?_⟩
  · rintro s g l u rest items runs used slc rfl nonempty packed
    exact ⟨_, congrArg Host.Outcome.next (if_pos runs), stripeRowPack_adds used slc nonempty packed⟩
  · intro s g l runs slc stop
    exact congrArg Host.Outcome.next ((if_pos runs).trans (stripeRowPack_stopped slc stop))
  · intro s g b r q x k e v runs row band src one newer
    obtain ⟨t, w, ran, map, seqs, media, tab, stripes⟩ := stripeRowCommit_one row band src one runs
    have newer' : seqOf w k < v.seq := by
      unfold seqOf at newer ⊢
      rw [tab]
      exact newer
    obtain ⟨map', seq', ius, kept⟩ := commitItem_newer (e := e) newer'
    refine ⟨t, ran, ?_, ?_, by rw [media, ius], ?_⟩
    · rw [← map', mapOf, mapOf, map]
    · rw [← seq', seqOf, seqOf, seqs]
    · rw [media, kept, stripes, Sparse.look_set, if_pos rfl]
  · intro s g b r q x k e v runs row band src one older
    obtain ⟨t, w, ran, map, seqs, media, tab, stripes⟩ := stripeRowCommit_one row band src one runs
    have older' : v.seq ≤ seqOf w k := by
      unfold seqOf at older ⊢
      rw [tab]
      exact older
    rw [commitItem_older older'] at map media
    have media : t.media = w.media := media
    refine ⟨t, ran, ?_, ?_, ?_⟩
    · rw [mapOf, mapOf, map]
      exact congrArg (fun x : Tables => Sparse.read mapNone x.map k) tab
    · rw [media, stripes]
    · rw [media, stripes]
      exact (Sparse.look_set _ _ _).trans (if_pos rfl)
  · intro s g b r d q x power row band chan group
    exact programFail_counts power row band chan group
  · intro s k env l runs line merging
    exact ⟨_, congrArg Host.Outcome.next (if_pos runs), mergeReadDone_line line merging⟩
  · intro s n k v j found hasMeta plain newer inside
    exact shadowItems_host found hasMeta plain newer inside
end

section
/-! SUPPORT. What a relocation of units leaves: the units on media, the cache, the groups that fold and the count of
wear
moves (R408, R411, R416, R418). -/
namespace Sys2Proof.Machine

/-- From `s` to `v` the units on media, the cache, the groups that fold and the count of wear moves stay, and so does
whether the restart ran. -/
def Settled (s v : State) : Prop :=
  v.media.ius = s.media.ius ∧ v.ftl.cache = s.ftl.cache ∧ v.ftl.folding = s.ftl.folding ∧ v.ftl.moves = s.ftl.moves ∧
  v.hold.restarted = s.hold.restarted

namespace Settled
variable {s u v : State}

theorem refl (s : State) : Settled s s := ⟨rfl, rfl, rfl, rfl, rfl⟩

/-- An operation after others, the last one first. -/
theorem after (second : Settled u v) (first : Settled s u) : Settled s v := by
  obtain ⟨ius, cache, folding, moves, restarted⟩ := second
  obtain ⟨ius', cache', folding', moves', restarted'⟩ := first
  exact ⟨ius.trans ius', cache.trans cache', folding.trans folding', moves.trans moves', restarted.trans restarted'⟩

theorem of_same {l : List Field} (h : Same l s v)
    (untouched : ([.media, .ftlData, .ftl, .hold].all fun f => !l.contains f) = true) : Settled s v := by
  have each : ∀ f ∈ [Field.media, .ftlData, .ftl, .hold], (!l.contains f) = true := List.all_eq_true.mp untouched
  have media : v.media = s.media := h.field .media (each _ (by decide))
  have hold : v.hold = s.hold := h.field .hold (each _ (by decide))
  have ftl : v.ftl = s.ftl := h.wholeFtl (by
    rw [List.all_cons, List.all_cons, each .ftlData (by decide), each .ftl (by decide)]
    rfl)
  exact ⟨congrArg Media.ius media, congrArg Ftl.cache ftl, congrArg Ftl.folding ftl, congrArg Ftl.moves ftl,
    congrArg Hold.restarted hold⟩

theorem ite {c : Prop} [Decidable c] (h : Settled s u) (k : Settled s v) : Settled s (if c then u else v) := by
  split <;> assumption

theorem fold {α : Type} {g : State → α → State} (h : ∀ s a, Settled s (g s a)) :
    ∀ (l : List α) (s : State), Settled s (l.foldl g s)
  | [], s => refl s
  | a :: l, s => (fold h l (g s a)).after (h s a)

end Settled

section
variable {s v : State}

theorem closeBand_settled (b : Nat) (s : State) : Settled s (closeBand b s) := by
  unfold closeBand
  split
  · exact .refl s
  · exact .ite (.refl s) (.refl s)

theorem noteFree_settled (g : Nat) (s : State) : Settled s (noteFree g s) := by
  have stopped (l : List Nat) : Settled s (event 0x0040 20 g (evsSet (1192 + g) { s with ftl.nativeStop := l })) :=
    (Settled.of_same (event_same _ _ _ _) rfl).after ((Settled.of_same (evsSet_same _ _) rfl).after (.refl s))
  unfold noteFree
  exact .ite (.ite (.refl s) (stopped _)) (.ite (.refl s) (.refl s))

theorem spareCheck_settled (s : State) : Settled s (spareCheck s) := by
  have marked (v : State) : Settled v (ustChange arrayUnit (markDelta { v with tab.readOnly := true })) := .refl v
  unfold spareCheck
  split
  · unfold enterReadOnly
    exact .ite (.refl s) ((Settled.of_same (event_same _ _ _ _) rfl).after
        ((Settled.of_same (hscMark_same _ _) rfl).after
      ((Settled.of_same (evsSet_same _ _) rfl).after (marked s))))
  · exact .refl s

theorem bandFor_settled {g gen : Nat} {x : Nat × State} (opened : bandFor g gen s = some x) : Settled s x.2 := by
  have grown (i : Nat) (b : Band) : Settled s (markDelta (setBand i b s)) := .refl s
  unfold bandFor at opened
  split at opened
  · cases opened
    exact .refl s
  · unfold newBand at opened
    split at opened
    · cases opened
    · split at opened
      · cases opened
      · have made := Option.some.inj opened
        subst made
        exact (spareCheck_settled _).after ((noteFree_settled _ _).after (grown _ _))

theorem packRow_settled {g gen : Nat} {src : Option Nat} {kind : ProgSrc} {items rest : List (Nat × IuVer)}
    (packed : packRow g gen src kind items s = some (v, rest)) : Settled s v := by
  have queued (l : List Nat) (o : DieOp) (w : State) : Settled w (l.foldl (fun s c => queueOp (dieAt g c) o s) w) :=
    .fold (fun _ _ => .of_same (queueOp_same _ _ _) rfl) l w
  have closed (n m b : Nat) (w : State) : Settled w (if n ≤ m then closeBand b w else w) :=
    .ite (closeBand_settled b w) (.refl w)
  have drew (o : Option Nat) (w : State) : Settled w (if o.isSome then drawn 1 w else w) := by
    split <;> exact .refl w
  unfold packRow at packed
  split at packed
  · cases packed
  · split at packed
    · cases packed
    · next b w opened =>
      split at packed
      · cases packed
      · next x _ =>
        dsimp only at packed
        obtain ⟨rfl, -⟩ := Prod.mk.inj (Option.some.inj packed)
        refine (queued _ _ _).after ((closed _ _ _ _).after ?_)
        generalize (if gen = 0 ∨ x.rows = 0 then none else some ((draw 16 w).toNat % x.rows)) = o
        have kept := (drew o w).after (bandFor_settled opened)
        generalize (if o.isSome then drawn 1 w else w) = y at kept ⊢
        exact Settled.after (.refl y) kept

theorem packAll_settled (g gen : Nat) (src : Option Nat) (kind : ProgSrc) :
    ∀ (n : Nat) (items : List (Nat × IuVer)) (s : State), Settled s (packAll g gen src kind n items s)
  | 0, _, s => .refl s
  | _ + 1, [], s => .refl s
  | n + 1, i :: items, s => by
    rw [packAll]
    split
    · next u rest packed =>
      exact .ite ((packAll_settled g gen src kind n rest u).after (packRow_settled packed)) (packRow_settled packed)
    · exact .refl s
    · simp

theorem moveItems_settled (b g gen : Nat) (kind : ProgSrc) (env : MediaEnv) (l : List (Nat × BitVec 40)) (s : State) :
    Settled s (moveItems b g gen kind env l s) := packAll_settled _ _ _ _ _ _ _

theorem freeBand_settled (b : Nat) (s : State) : Settled s (freeBand b s) := by
  unfold freeBand
  split
  · exact .refl s
  · unfold eraseBand
    refine (noteFree_settled _ _).after (Settled.after ?_ (Settled.refl s))
    refine Settled.after (.refl _) (Settled.fold (fun v e => ?_) _ _)
    exact (Settled.of_same (queueOp_same _ _ _) rfl).after (.refl v)

theorem relocate_settled (b gen : Nat) (kind : ProgSrc) (env : MediaEnv) (s : State) :
    Settled s (relocate b gen kind env s) := by
  have drained (v : State) (o : Option Band) :
      Settled v (match o with | some y => setBand b { y with drain := true } v | none => v) := by
    cases o <;> exact .refl v
  unfold relocate
  split
  · exact .refl s
  · exact .ite ((freeBand_settled _ _).after ((drained _ _).after (closeBand_settled b s)))
      ((moveItems_settled _ _ _ _ _ _ _).after ((drained _ _).after (closeBand_settled b s)))

theorem foldOne_settled (g : Nat) (s : State) : Settled s (foldOne g s) := by
  unfold foldOne
  split
  · exact relocate_settled _ _ _ _ s
  · split
    · exact .ite (.refl s) (closeBand_settled _ s)
    · exact .refl s

end

end Sys2Proof.Machine

open Sys2Proof Sys2Proof.Machine

/-- Settles O39: each command runs exactly when its guard says so, and what runs is a relocation, which moves no map
entry
and no unit on media before its rows commit. -/
theorem maintenanceKeepsItsThresholds : Obligations.MaintenanceKeepsItsThresholds := by
  have goes {s : State} {g : Nat} (up : maintains s = true) (free : g ∉ s.ftl.nativeStop) :
      ¬ ((!maintains s) = true ∨ s.ftl.nativeStop.contains g = true) := by simp [up, free]
  have ready {s : State} {p : Prop} (up : maintains s = true) (h : ¬ p) : ¬ ((!maintains s) = true ∨ p) := by simp
      [up, h]
  refine ⟨?_, ?_, ?_, ?_, ?_, ?_, ?_, ?_, ?_, ?_, ?_, ?_, ?_⟩
  · intro s g up free runs
    have same := foldOne_same g { s with ftl.folding := insertNew g s.ftl.folding }
    obtain ⟨ius, cache, folding, -, -⟩ := foldOne_settled g { s with ftl.folding := insertNew g s.ftl.folding }
    refine ⟨_, congrArg Host.Outcome.next ((if_neg (goes up free)).trans (if_pos runs)), ?_,
      (same.field .tabMap rfl).1, ius, cache⟩
    rw [folding]
    exact mem_insertNew _ _
  · intro s g up free rests
    refine ⟨_, congrArg Host.Outcome.next ((if_neg (goes up free)).trans (if_neg (by rw [rests]; decide))), ?_,
      Same.put (Same.refl _ _) rfl⟩
    exact fun mem => absurd (List.mem_filter.mp mem).2 (by simp)
  · intro s g up free above
    exact ⟨_, congrArg Host.Outcome.next ((if_neg (goes up free)).trans (if_pos above)), rfl,
      ((foldOne_same g s).field .tabMap rfl).1, (foldOne_settled g s).1⟩
  · intro s g low
    refine congrArg Host.Outcome.next ?_
    split
    · rfl
    · exact if_neg (Nat.not_lt.mpr low)
  · intro s g b x up few victim
    have runs : exec (.garbageCollection g) s =
        .next (relocate b (if x.gen = 1 then 2 else 3) .collect MediaEnv.clean s) := by
      show execGarbageCollection g s = _
      unfold execGarbageCollection
      rw [if_neg (ready up (Nat.not_le.mpr few)), victim]
    exact ⟨_, runs, rfl, ((relocate_same _ _ _ _ s).field .tabMap rfl).1, (relocate_settled _ _ _ _ s).1⟩
  · intro s g enough
    exact congrArg Host.Outcome.next (if_pos (.inr enough))
  · intro s d n b up idle wide least fresh quiet
    have runs : exec (.staticWearMove d) s =
        .next (relocate b 3 .move MediaEnv.clean { s with ftl.moves := satAdd s.ftl.moves 1 }) := by
      show execStaticWearMove d s = _
      unfold execStaticWearMove
      rw [if_neg (by simp [up, idle, wide]), least]
      exact congrArg Host.Outcome.next (if_neg (by simp [fresh, quiet]))
    obtain ⟨ius, -, -, moves, -⟩ := relocate_settled b 3 .move MediaEnv.clean { s with ftl.moves := satAdd s.ftl.moves 1 }
    exact ⟨_, runs, moves, ((relocate_same b 3 .move MediaEnv.clean _).field .tabMap rfl).1, ius⟩
  · intro s d narrow
    exact congrArg Host.Outcome.next (if_pos (.inr (.inr narrow)))
  · intro s d b c l x up band closed chan reported fresh room
    show execPatrolScan d b c l s = _
    unfold execPatrolScan
    dsimp only
    rw [band]
    dsimp only
    rw [if_pos (by simp [up, closed, chan, reported])]
    exact congrArg Host.Outcome.next ((if_neg (by simpa using fresh)).trans (if_neg (Nat.not_le.mpr room)))
  · intro s
    simp [refreshMark]
  · intro s d b c l quiet
    show execPatrolScan d b c l s = _
    unfold execPatrolScan
    dsimp only
    split
    · exact congrArg Host.Outcome.next (if_neg (by simp [quiet]))
    · rfl
  · intro s env up
    have same := refreshHead_same env s
    exact ⟨_, congrArg Host.Outcome.next (if_pos up), rfl, (same.field .tabMap rfl).1, same.field .media rfl⟩
  · intro s env off
    exact congrArg Host.Outcome.next (if_neg (by simp [maintains, off]))
end

section
/-! SUPPORT. Rebuilding a band and the end of resynchronisation (R443, R444, R446, R447, R529). -/
namespace Sys2Proof.Machine

section
variable {s v : State}

/-! ## Rebuilding -/

theorem grpOf_congr (same : v.tab.groups = s.tab.groups) (g : Nat) : grpOf v g = grpOf s g := by
  rw [grpOf, grpOf, same]

theorem grpOf_setGrp (g : Nat) (x : Grp) (s : State) : grpOf (setGrp g x s) g = x := by
  have marked (b : Bool) (n : Nat) (v : State) : (evsSetIf b n v).tab = v.tab := by cases b <;> rfl
  refine (grpOf_congr (congrArg Tables.groups (marked _ _ _)) g).trans ?_
  exact (Sparse.read_put ..).trans (if_pos rfl)

/-- The end of a rebuild keeps the queue of the group. -/
theorem rebuildEnd_queue (g : Nat) (s : State) : (grpOf (rebuildEnd g s) g).queue = (grpOf s g).queue := by
  have told (c d0 d1 : Nat) (v : State) : grpOf (event c d0 d1 v) g = grpOf v g :=
    grpOf_congr (((event_same c d0 d1 v).field .tabDies rfl).2.2) g
  have closed (h : Nat) (v : State) : grpOf (enterReadOnly h v) g = grpOf v g :=
    grpOf_congr (((enterReadOnly_same h v).field .tabDies rfl).2.2) g
  have checked (v : State) : grpOf (spareCheck v) g = grpOf v g :=
    grpOf_congr (((spareCheck_same v).field .tabDies rfl).2.2) g
  have narrowed (n c d0 d1 h : Nat) (v : State) :
      grpOf (if n < 20 then event c d0 d1 (enterReadOnly h v) else v) g = grpOf v g := by
    split
    · rw [told, closed]
    · rfl
  have marked (u : Nat) (v : State) : grpOf (ustChange u (markDelta v)) g = grpOf v g := rfl
  unfold rebuildEnd
  split
  · rfl
  · dsimp only
    rw [checked, narrowed, told, marked, grpOf_setGrp]

/-- The generation that a rebuild writes a band's units in: R403 rebuilds an SLC band into generation 1. -/
def rebuildGen (s : State) (b : Nat) : Nat :=
  match bandOf s b with
  | some x => if x.gen = 0 then 1 else x.gen
  | none => 1

/-- A rebuild step that leaves nothing of the band takes it off the queue. -/
theorem rebuildBand_takes {env : MediaEnv} {g b : Nat} {l : List Nat}
    (group : (List.range 16).find? (fun g => decide ((grpOf s g).state = .rebuilding)) = some g)
    (queue : (grpOf s g).queue = b :: l) (quiet : bandBusy s b = false)
    (empty : movesLeft (relocate b (rebuildGen s b) .rebuild env s) b = []) : ∃ x : Grp, x.queue = l ∧
    rebuildBand env s = rebuildEnd g (markDelta (setGrp g x (relocate b (rebuildGen s b) .rebuild env s))) := by
  have left : ¬ (!(movesLeft (relocate b (rebuildGen s b) .rebuild env s) b).isEmpty) = true := by rw [empty]; decide
  refine ⟨{ grpOf (relocate b (rebuildGen s b) .rebuild env s) g with
    queue := l, left := (grpOf (relocate b (rebuildGen s b) .rebuild env s) g).left - 1,
    moved := satAdd (grpOf (relocate b (rebuildGen s b) .rebuild env s) g).moved
      (listSum ((validIus s b).map fun e => keyBytes s e.1)) }, rfl, ?_⟩
  unfold rebuildBand
  rw [group]
  dsimp only
  rw [queue]
  dsimp only
  rw [if_neg (by rw [quiet]; decide)]
  exact if_neg left

/-! ## Closing bands -/

theorem Sparse.mem_of_look {α : Type} {k : Nat} {x : α} : ∀ {t : Sparse α}, Sparse.look t k = some x → (k, x) ∈ t
  | [], found => by cases found
  | (j, w) :: r, found => by
    rw [Sparse.look] at found
    split at found
    · next e =>
      cases found
      exact e ▸ List.mem_cons_self
    · exact List.mem_cons_of_mem _ (Sparse.mem_of_look found)

/-- Two entries of the band table with the same key, group and sets. -/
def SameBand (x y : Nat × Band) : Prop := y.1 = x.1 ∧ y.2.group = x.2.group ∧ y.2.sets = x.2.sets

theorem SameBand.refl (x : Nat × Band) : SameBand x x := ⟨rfl, rfl, rfl⟩

theorem sameBands_refl (t : Sparse Band) : List.Forall₂ SameBand t t := List.forall₂_same.mpr fun x _ => .refl x

/-- In a rising table an entry is replaced in its place. -/
theorem sameBands_set {k : Nat} {x y : Band} (like : SameBand (k, x) (k, y)) : ∀ {t : Sparse Band},
    Sparse.rising t = true → Sparse.look t k = some x → List.Forall₂ SameBand t (Sparse.set t k y)
  | [], _, found => by cases found
  | (j, w) :: r, rising, found => by
    obtain ⟨above, rest⟩ := Sparse.rising_cons.mp rising
    rw [Sparse.look] at found
    rw [Sparse.set]
    split at found
    · next e =>
      cases found
      subst e
      rw [if_neg (Nat.lt_irrefl _), if_pos rfl]
      exact .cons like (sameBands_refl r)
    · next e =>
      have below : j < k := above _ (Sparse.mem_of_look found)
      rw [if_neg (by omega), if_neg e]
      exact .cons (.refl _) (sameBands_set like rest found)

/-- From `s` to `v` bands may close; the map, what the restart had restored and the places of the bands stay. -/
def Closes (s v : State) : Prop :=
  v.tab.map = s.tab.map ∧ v.tab.seqs = s.tab.seqs ∧ v.hold.sync = s.hold.sync ∧
  List.Forall₂ SameBand s.tab.bands v.tab.bands ∧ Sparse.rising v.tab.bands = true

theorem SameBand.trans {x y z : Nat × Band} (first : SameBand x y) (second : SameBand y z) : SameBand x z := by
  obtain ⟨key, group, sets⟩ := first
  obtain ⟨key', group', sets'⟩ := second
  exact ⟨key'.trans key, group'.trans group, sets'.trans sets⟩

theorem sameBands_trans {t u w : Sparse Band} (first : List.Forall₂ SameBand t u) (second : List.Forall₂ SameBand u w) :
    List.Forall₂ SameBand t w := by
  induction first generalizing w with
  | nil => exact second
  | cons h _ ih =>
    cases second with
    | cons k rest => exact .cons (h.trans k) (ih rest)

theorem closeBand_closes (b : Nat) (rising : Sparse.rising s.tab.bands = true) : Closes s (closeBand b s) := by
  unfold closeBand
  split
  · exact ⟨rfl, rfl, rfl, sameBands_refl _, rising⟩
  · next x found =>
    split
    · exact ⟨rfl, rfl, rfl, sameBands_refl _, rising⟩
    · refine ⟨rfl, rfl, rfl, ?_, Sparse.rising_set rising _ _⟩
      exact sameBands_set (x := x) (y := { x with closed := true, order := s.tab.closeNo }) ⟨rfl, rfl, rfl⟩ rising found

theorem closeBands_closes : ∀ (l : List SyncBand) (s : State), Sparse.rising s.tab.bands = true →
    Closes s (l.foldl (fun s y => closeBand y.band s) s)
  | [], s, rising => ⟨rfl, rfl, rfl, sameBands_refl _, rising⟩
  | y :: l, s, rising => by
    obtain ⟨map, seqs, sync, bands, rising'⟩ := closeBand_closes (s := s) y.band rising
    obtain ⟨map', seqs', sync', bands', rising''⟩ := closeBands_closes l (closeBand y.band s) rising'
    exact ⟨map'.trans map, seqs'.trans seqs, sync'.trans sync, sameBands_trans bands bands', rising''⟩

/-- Tables with the same places find the same band for a location. -/
theorem sameBands_find {p : Nat × Band → Bool} (resp : ∀ x y, SameBand x y → p y = p x) {t u : Sparse Band}
    (same : List.Forall₂ SameBand t u) : (u.find? p).map Prod.fst = (t.find? p).map Prod.fst := by
  induction same with
  | nil => rfl
  | @cons x y _ _ like _ ih =>
    rw [List.find?_cons, List.find?_cons, resp x y like]
    split
    · exact congrArg some like.1
    · exact ih

theorem sameBands_filter {p : Nat × Band → Bool} (resp : ∀ x y, SameBand x y → p y = p x) {t u : Sparse Band}
    (same : List.Forall₂ SameBand t u) : List.Forall₂ SameBand (t.filter p) (u.filter p) := by
  induction same with
  | nil => exact .nil
  | @cons x y _ _ like _ ih =>
    rw [List.filter_cons, List.filter_cons, resp x y like]
    split
    · exact .cons like ih
    · exact ih

theorem bandAt_closes (closes : Closes s v) (e : BitVec 40) : (bandAt v e).map Prod.fst =
    (bandAt s e).map Prod.fst := by
  obtain ⟨-, -, -, bands, -⟩ := closes
  unfold bandAt groupBands
  refine sameBands_find (fun x y like => ?_) (sameBands_filter (fun x y like => ?_) bands)
  · rw [like.2.2]
  · rw [like.2.1]

/-- Whether the band found for a location is `b`, by its number alone. -/
theorem validIus_eq (s : State) (b : Nat) : validIus s b =
    s.tab.map.filter fun e => !isSpecial e.2 && decide ((bandAt s e.2).map Prod.fst = some b) := by
  unfold validIus
  refine List.filter_congr fun e _ => ?_
  cases bandAt s e.2 with
  | none => rfl
  | some x => simp

theorem validIus_closes (closes : Closes s v) (b : Nat) : validIus v b = validIus s b := by
  rw [validIus_eq, validIus_eq, closes.1]
  exact List.filter_congr fun e _ => by rw [bandAt_closes closes]

theorem Sparse.not_mem_of_look {α : Type} {k : Nat} {x : α} :
    ∀ {t : Sparse α}, Sparse.look t k = none → (k, x) ∉ t
  | [], _, mem => by cases mem
  | (j, w) :: r, gone, mem => by
    rw [Sparse.look] at gone
    split at gone
    · cases gone
    · next other =>
      rcases List.mem_cons.mp mem with same | rest
      · exact other (congrArg Prod.fst same).symm
      · exact Sparse.not_mem_of_look gone rest

/-- A band that is not listed holds no unit. -/
theorem validIus_absent {b : Nat} (absent : bandOf s b = none) : validIus s b = [] := by
  rw [validIus_eq]
  refine List.filter_eq_nil_iff.mpr fun e _ named => ?_
  obtain ⟨-, x, found⟩ : _ ∧ ∃ x, bandAt s e.2 = some (b, x) := by simpa using named
  have mem := List.mem_of_find?_eq_some found
  exact Sparse.not_mem_of_look absent (List.mem_filter.mp mem).1

/-! ## Discarded rows -/

/-- Units put back to what the restart had restored. -/
theorem restored_map (k : Nat) : ∀ (l : List (Nat × BitVec 40)) (s : State),
    mapOf (l.foldl (fun s e => setMap e.1 (Sparse.read mapNone s.hold.sync.map e.1)
      (Sparse.read 0 s.hold.sync.seqs e.1) s) s) k =
    if (l.map Prod.fst).contains k then Sparse.read mapNone s.hold.sync.map k else mapOf s k
  | [], s => rfl
  | e :: l, s => by
    rw [List.foldl_cons, restored_map k l, mapOf_setMap_at, setMap_hold, List.map_cons, List.contains_cons]
    by_cases here : k = e.1
    · subst here
      simp
    · simp [here]

/-- A discarded row leaves its units as the restart had restored them. -/
theorem discardRow_map (q : ResyncRow) (k : Nat) : mapOf (discardRow s q) k =
    if ((rowIus q.row (validIus s (bandKey q.group q.band))).map Prod.fst).contains k
      then Sparse.read mapNone s.hold.sync.map k else mapOf s k := by
  unfold discardRow
  dsimp only
  split
  · next absent =>
    rw [validIus_absent absent]
    rfl
  · exact restored_map k _ s

/-! ## The end of resynchronisation -/

/-- A band that is closed stays closed when bands close. -/
theorem closeBand_closed {b c : Nat} {x : Band} (was : ∀ y, bandOf s c = some y → y.closed = true)
    (now : bandOf (closeBand b s) c = some x) : x.closed = true := by
  unfold closeBand at now
  split at now
  · exact was x now
  · split at now
    · exact was x now
    · have looked : bandOf (setBand b { (_ : Band) with closed := true, order := s.tab.closeNo } s) c = some x := now
      rw [bandOf, setBand, Sparse.look_set] at looked
      split at looked
      · cases looked
        rfl
      · exact was x looked

/-- A band that was closed just now is closed. -/
theorem closeBand_self {b : Nat} {x : Band} (now : bandOf (closeBand b s) b = some x) : x.closed = true := by
  unfold closeBand at now
  split at now
  · next absent =>
    rw [absent] at now
    cases now
  · next y found =>
    split at now
    · next closed =>
      rw [found] at now
      cases now
      exact closed
    · have looked : bandOf (setBand b { y with closed := true, order := s.tab.closeNo } s) b = some x := now
      rw [bandOf, setBand, Sparse.look_set, if_pos rfl] at looked
      cases looked
      rfl

/-- After every band of a list was closed each of them is. -/
theorem closeBands_closed {c : Nat} {x : Band} : ∀ (l : List SyncBand) (s : State),
    (∃ y ∈ l, y.band = c) ∨ (∀ y, bandOf s c = some y → y.closed = true) →
    bandOf (l.foldl (fun s y => closeBand y.band s) s) c = some x → x.closed = true
  | [], s, held, now => (held.resolve_left fun ⟨_, mem, _⟩ => by cases mem) x now
  | z :: l, s, held, now => by
    refine closeBands_closed l (closeBand z.band s) ?_ now
    rcases held with ⟨y, mem, rfl⟩ | was
    · rcases List.mem_cons.mp mem with rfl | rest
      · exact .inr fun w => closeBand_self
      · exact .inl ⟨y, rest, rfl⟩
    · exact .inr fun w => closeBand_closed was

/-- The state after the bands of the resynchronisation were closed and its broken rows discarded or mended. -/
def resynced (s : State) (q : List ResyncRow) : State :=
  ((q.eraseDups.filter (rowBroken s)).filter (rowMends s)).foldl mendRow
    (((q.eraseDups.filter (rowBroken s)).filter fun r => !rowMends s r).foldl discardRow
      (s.hold.sync.bands.foldl (fun s y => closeBand y.band s) s))

/-- What follows the rows of a resynchronisation: it is over, and RESTART_DONE may follow. -/
theorem resyncEnd_facts (c d0 d1 n : Nat) {u : State} (resync : u.ftl.resync = false)
    (restartDone : u.hold.sync = Sync.reset) :
    (noteRestartDone (event c d0 d1 (evsSet n u))).tab = u.tab ∧
    (noteRestartDone (event c d0 d1 (evsSet n u))).media = u.media ∧
    (noteRestartDone (event c d0 d1 (evsSet n u))).ftl = u.ftl ∧
    (noteRestartDone (event c d0 d1 (evsSet n u))).hold.sync = Sync.reset ∧
    (u.hold.restarted = true → (noteRestartDone (event c d0 d1 (evsSet n u))).hold.restartDone = true) := by
  have told := event_same c d0 d1 (evsSet n u)
  have hold : (event c d0 d1 (evsSet n u)).hold = u.hold := told.field .hold rfl
  have ftl : (event c d0 d1 (evsSet n u)).ftl = u.ftl := told.wholeFtl rfl
  have noted := noteRestartDone_same (event c d0 d1 (evsSet n u))
  refine ⟨(noted.wholeTab rfl).trans (told.wholeTab rfl), (noted.field .media rfl).trans (told.field .media rfl),
    (noted.wholeFtl rfl).trans ftl, ?_, fun restarted => ?_⟩
  · rw [← restartDone, ← hold]
    unfold noteRestartDone
    split <;> rfl
  · generalize event c d0 d1 (evsSet n u) = w at hold ftl
    unfold noteRestartDone
    split
    · rfl
    · next held => simpa [hold, ftl, resync, restarted] using held

/-- The end of a resynchronisation. -/
theorem resyncComplete_ends {q : List ResyncRow} (runs : running s = true) (resync : s.ftl.resync = true) :
    ∃ t, exec (.resyncComplete q) s = .next t ∧ t.tab = (resynced s q).tab ∧ t.media = (resynced s q).media ∧
      t.ftl.resync = false ∧ t.ftl.resyncDone = true ∧ t.hold.sync = Sync.reset ∧
      ((resynced s q).hold.restarted = true → t.hold.restartDone = true) := by
  have ran : exec (.resyncComplete q) s = .next (noteRestartDone (event 0x0040 36
      ((q.eraseDups.filter (rowBroken s)).filter fun r => !rowMends s r).length (evsSet 1225 { resynced s q with
        ftl.resync := false, ftl.resyncDone := true, hold.sync := Sync.reset }))) :=
    congrArg Host.Outcome.next (if_neg (by simp [runs, resync]))
  rw [ran]
  generalize resynced s q = w
  obtain ⟨tab, media, ftl, sync, done⟩ := resyncEnd_facts 0x0040 36
    ((q.eraseDups.filter (rowBroken s)).filter fun r => !rowMends s r).length 1225
    (u := { w with ftl.resync := false, ftl.resyncDone := true, hold.sync := Sync.reset }) rfl rfl
  exact ⟨_, rfl, tab, media, congrArg Ftl.resync ftl, congrArg Ftl.resyncDone ftl, sync, done⟩

/-- Whether the restart ran stays when rows are discarded. -/
theorem discardRow_restarted (q : ResyncRow) (s : State) : (discardRow s q).hold.restarted = s.hold.restarted := by
  have restored : ∀ (l : List (Nat × BitVec 40)) (s : State),
      (l.foldl (fun s e => setMap e.1 (Sparse.read mapNone s.hold.sync.map e.1)
        (Sparse.read 0 s.hold.sync.seqs e.1) s) s).hold = s.hold := by
    intro l
    induction l with
    | nil => exact fun s => rfl
    | cons e l ih =>
      intro s
      rw [List.foldl_cons, ih, setMap_hold]
  have marked (v : State) (m : Media) : (markDelta { v with media := m }).hold.restarted = v.hold.restarted := rfl
  unfold discardRow
  dsimp only
  split
  · rfl
  · exact (marked _ _).trans (congrArg Hold.restarted (restored _ s))

theorem resynced_restarted (s : State) (q : List ResyncRow) : (resynced s q).hold.restarted = s.hold.restarted := by
  have mended (v : State) (r : ResyncRow) : Settled v (mendRow v r) := by
    unfold mendRow
    dsimp only
    split
    · exact .refl v
    · exact moveItems_settled _ _ _ _ _ _ v
  have discarded : ∀ (l : List ResyncRow) (s : State), (l.foldl discardRow s).hold.restarted = s.hold.restarted := by
    intro l
    induction l with
    | nil => exact fun s => rfl
    | cons r l ih => exact fun s => (ih _).trans (discardRow_restarted r s)
  have closed : Settled s (s.hold.sync.bands.foldl (fun s y => closeBand y.band s) s) :=
    .fold (fun v (y : SyncBand) => closeBand_settled y.band v) _ s
  exact (Settled.fold mended _ _).2.2.2.2.trans ((discarded _ _).trans closed.2.2.2.2)

/-- Closing bands keeps the map and the media. -/
theorem closeBands_map (l : List SyncBand) (s : State) :
    (l.foldl (fun s y => closeBand y.band s) s).tab.map = s.tab.map ∧
    (l.foldl (fun s y => closeBand y.band s) s).media = s.media := by
  have same : Same [.tabDies, .tab, .hold] s (l.foldl (fun s y => closeBand y.band s) s) :=
    Same.fold (fun v (y : SyncBand) => closeBand_same y.band v) l (.refl _ _)
  exact ⟨(same.field .tabMap rfl).1, same.field .media rfl⟩

end

end Sys2Proof.Machine

open Sys2Proof Sys2Proof.Machine

/-- Settles O40: a rebuild step is a relocation that takes an empty band off the queue; at the end of a
resynchronisation the
closing of bands moves none of them, so the units of a discarded row are those the restart had put there. -/
theorem rebuildAndResyncComplete : Obligations.RebuildAndResyncComplete := by
  refine ⟨?_, ?_, ?_, ?_, ?_, ?_, ?_⟩
  · intro s env g b l runs online idle group queue quiet empty
    obtain ⟨x, taken, step⟩ := rebuildBand_takes group queue quiet empty
    have same := rebuildBand_same env s
    refine ⟨rebuildBand env s, congrArg Host.Outcome.next (if_pos (by simp [runs, online, idle])), ?_,
      (same.field .tabMap rfl).1, ?_⟩
    · rw [step, rebuildEnd_queue]
      exact (congrArg Grp.queue (grpOf_setGrp g x _)).trans taken
    · rw [step, (rebuildEnd_map g _).2.2]
      have grouped (v : State) : (setGrp g x v).media = v.media := (setGrp_same g x v).field .media rfl
      exact (congrArg Media.ius (grouped _)).trans (relocate_settled _ _ _ _ s).1
  · intro s env off
    refine congrArg Host.Outcome.next (if_neg ?_)
    rcases off with off | off <;> simp [off]
  · intro s q runs resync
    obtain ⟨t, ran, -, -, ended, done, sync, restart⟩ := resyncComplete_ends (q := q) runs resync
    exact ⟨t, ran, ended, done, sync, fun h => restart ((resynced_restarted s q).trans h)⟩
  · intro s q runs resync whole
    obtain ⟨t, ran, tab, media, -⟩ := resyncComplete_ends (q := q) runs resync
    have unbroken : q.eraseDups.filter (rowBroken s) = [] :=
      List.filter_eq_nil_iff.mpr fun r mem => by simp [whole r (List.mem_eraseDups.mp mem)]
    have state : resynced s q = s.hold.sync.bands.foldl (fun s y => closeBand y.band s) s := by
      unfold resynced
      rw [unbroken]
      rfl
    obtain ⟨map', media'⟩ := closeBands_map s.hold.sync.bands s
    rw [state] at tab media
    refine ⟨t, ran, (congrArg Tables.map tab).trans map', media.trans media', fun y mem x found => ?_⟩
    refine closeBands_closed s.hold.sync.bands s (.inl ⟨y, mem, rfl⟩) ?_
    rw [← found, bandOf, bandOf, tab]
  · intro s r runs resync broken lost rising
    obtain ⟨t, ran, tab, -⟩ := resyncComplete_ends (q := [r]) runs resync
    have only : [r].eraseDups = [r] := rfl
    have state : resynced s [r] = discardRow (s.hold.sync.bands.foldl (fun s y => closeBand y.band s) s) r := by
      simp [resynced, only, broken, lost]
    have closes := closeBands_closes s.hold.sync.bands s rising
    refine ⟨t, ran, fun k => ?_⟩
    rw [mapOf, tab, state]
    refine (discardRow_map r k).trans ?_
    rw [validIus_closes closes, closes.2.2.1, mapOf, closes.1]
    rfl
  · intro s r runs resync broken mends
    obtain ⟨t, ran, tab, media, -⟩ := resyncComplete_ends (q := [r]) runs resync
    have only : [r].eraseDups = [r] := rfl
    have state : resynced s [r] = mendRow (s.hold.sync.bands.foldl (fun s y => closeBand y.band s) s) r := by
      simp [resynced, only, broken, mends]
    obtain ⟨map', media'⟩ := closeBands_map s.hold.sync.bands s
    have same := mendRow_same (s.hold.sync.bands.foldl (fun s y => closeBand y.band s) s) r
    rw [state] at tab media
    exact ⟨t, ran, (congrArg Tables.map tab).trans ((same.field .tabMap rfl).1.trans map'),
      media.trans ((same.field .media rfl).trans media')⟩
  · intro s q ended
    exact congrArg Host.Outcome.next (if_pos (by simp [ended]))
end

section
/-! SUPPORT. Frames of the Armature: what a frame leaves in its slot (R462, R465 to R467, R472). -/
namespace Sys2Proof.Machine

/-- From `s` to `v` the slots, the measurements, the slips and the sensor faults stay. -/
def ArmKept (s v : State) : Prop :=
  v.arm.slots = s.arm.slots ∧ v.arm.meas = s.arm.meas ∧ v.arm.slips = s.arm.slips ∧
    v.arm.sensorFault = s.arm.sensorFault

namespace ArmKept
variable {s u v : State}

theorem refl (s : State) : ArmKept s s := ⟨rfl, rfl, rfl, rfl⟩

/-- An operation after others, the last one first. -/
theorem after (second : ArmKept u v) (first : ArmKept s u) : ArmKept s v := by
  obtain ⟨slots, meas, slips, fault⟩ := second
  obtain ⟨slots', meas', slips', fault'⟩ := first
  exact ⟨slots.trans slots', meas.trans meas', slips.trans slips', fault.trans fault'⟩

theorem of_arm (same : v.arm = s.arm) : ArmKept s v :=
  ⟨congrArg Arm.slots same, congrArg Arm.meas same, congrArg Arm.slips same, congrArg Arm.sensorFault same⟩

theorem of_same {l : List Field} (h : Same l s v) (arm : (!l.contains .arm) = true) : ArmKept s v :=
  of_arm (h.field .arm arm)

theorem ite {c : Prop} [Decidable c] (h : ArmKept s u) (k : ArmKept s v) : ArmKept s (if c then u else v) := by
  split <;> assumption

end ArmKept

section
variable {s v : State}

theorem slotOf_congr (same : v.arm.slots = s.arm.slots) (i : Nat) : slotOf v i = slotOf s i := by
  rw [slotOf, slotOf, same]

theorem slotOf_setSlot (i j : Nat) (x : ArmSlot) (s : State) : slotOf (setSlot i x s) j = if j = i then x else slotOf
    s j := by
  unfold slotOf setSlot Sparse.read
  rw [Sparse.look_set]
  split <;> rfl

theorem slotOf_setSlot_self (i : Nat) (x : ArmSlot) (s : State) : slotOf (setSlot i x s) i = x :=
  (slotOf_setSlot i i x s).trans (if_pos rfl)

/-! ## What a frame does beside its slot -/

theorem throttleFollow_kept (out umax : Int) (s : State) : ArmKept s (throttleFollow out umax s) := by
  have changed (b : Bool) (d0 d1 : Nat) (v : State) : ArmKept v
      (event 0x0002 d0 d1 (evsSet 3 { v with arm.throttled := b })) :=
    (ArmKept.of_same (event_same _ _ _ _) rfl).after ((ArmKept.of_same (evsSet_same _ _) rfl).after (.refl v))
  have counted (m n : Nat) : ArmKept s { s with arm.below := m, arm.within := n } := .refl s
  unfold throttleFollow
  exact .ite ((changed _ _ _ _).after (counted _ _)) (.ite ((changed _ _ _ _).after (counted _ _)) (counted _ _))

theorem publish_kept (ea d : Int) (s : State) : ArmKept s (publish ea d s) := by
  have shorted (v : State) : ArmKept v (noteShort v) := .of_same (noteShort_same v) rfl
  have noted (n : Nat) (v : State) : ArmKept v (noteLimit n v) := .of_same (noteLimit_same n v) rfl
  exact (shorted _).after ((noted _ _).after (.refl s))

theorem driveOut_kept (i : Nat) (v : Int) (s : State) : ArmKept s (driveOut i v s) := by
  unfold driveOut
  exact .ite (.refl s) (.refl s)

/-- A slot after a frame with this output. -/
def framed (x : ArmSlot) (o : FrameOut) (applied : Int) (fault : Bool) (cap : Capture) : ArmSlot :=
  { x with integ := o.integ, output := o.out, applied := applied, frames := x.frames + 1, faulted := fault, ran := true,
           cap := cap }

/-- The measurement of a slot's source is faulted. -/
def frameFaults (s : State) (i : Nat) : Bool := s.arm.meas.faulted.contains (effCfg s i (slotOf s i).cfg).measSrc

/-- A frame: the slot takes its output; a fault puts the fallback in effect and keeps the integrator, and a Normal
slot that
is not the estimator's follows the control law otherwise. -/
theorem runFrame_ends (i : Nat) (pulse slip : Bool) (s : State) : ∃ o applied cap,
    ArmKept (if frameFaults s i then sensorFaultSet i (setSlot i (framed (slotOf s i) o applied (frameFaults s i) cap)
      s)
      else setSlot i (framed (slotOf s i) o applied (frameFaults s i) cap) s) (runFrame i pulse slip s) ∧
    (frameFaults s i = true → o.integ = (slotOf s i).integ ∧ o.out = (effCfg s i (slotOf s i).cfg).fallback i ∧
      applied = (effCfg s i (slotOf s i).cfg).fallback i) ∧
    (frameFaults s i = false → (effCfg s i (slotOf s i).cfg).role ≠ 3 → (slotOf s i).mode = .normal →
      o = law (effCfg s i (slotOf s i).cfg) (if (slotOf s i).faulted = true then 0 else (slotOf s i).integ)
        (measOf s (effCfg s i (slotOf s i).cfg).measSrc) (setPointOf s i (effCfg s i (slotOf s i).cfg)) 0 false) := by
  have traced (e : TraceEntry) (v : State) : ArmKept v (kscFrame i e v) := .of_same (kscFrame_same i e v) rfl
  unfold runFrame
  dsimp only
  refine ⟨_, _, _, ArmKept.after (.ite ((publish_kept _ _ _).after (.ite (throttleFollow_kept _ _ _) (.refl _)))
    (.ite (throttleFollow_kept _ _ _) (.refl _))) ((traced _ _).after (driveOut_kept _ _ _)), ?_, ?_⟩
  · intro fault
    have fault' : s.arm.meas.faulted.contains (effCfg s i (slotOf s i).cfg).measSrc = true := fault
    rw [if_pos fault', if_pos (Or.inl fault')]
    exact ⟨rfl, rfl, rfl⟩
  · intro sound plain normal
    have sound' : ¬ s.arm.meas.faulted.contains (effCfg s i (slotOf s i).cfg).measSrc = true := by
      rw [← Bool.not_eq_true] at sound
      exact sound
    rw [if_neg sound', if_neg plain, normal]
    simp

end

end Sys2Proof.Machine
end

section
/-! SUPPORT. A frame of a slot that no outer slot drives (R42, R462, R466, R467, R471). -/
namespace Sys2Proof.Machine

section
variable {s : State} {i : Nat} {m : Meas}

/-- What FLUSH_W asks for touches the power and the free words only. -/
theorem holdFlushPower_shape (s : State) : ∃ p f, holdFlushPower s = { s with pwr := p, free := f } := by
  unfold holdFlushPower
  split
  · exact ⟨_, _, rfl⟩
  · exact ⟨_, _, rfl⟩

/-- A frame with no outer slot and no written configuration is one `runFrame` on the new measurements. -/
theorem slotFrame_plain (runs : armRuns s i = true) (mode : (slotOf s i).mode ≠ .disabled) (role :
    (slotOf s i).cfg.role ≠ 2)
    (alone : outerOf { s with arm := { s.arm with meas := m } } i = none) (next : (slotOf s i).next = none) :
    exec (.slotFrame i m) s = .next
      (runFrame i false false (holdFlushPower { s with arm := { s.arm with meas := m } })) := by
  have settled (v : State) (none' : (slotOf v i).next = none) : applyNext i v = v := by
    unfold applyNext
    dsimp only
    rw [none']
  obtain ⟨p, f, shape⟩ := holdFlushPower_shape { s with arm := { s.arm with meas := m } }
  have alone' : outerOf (holdFlushPower { s with arm := { s.arm with meas := m } }) i = none := by
    rw [shape]
    exact alone
  have next' : (slotOf (holdFlushPower { s with arm := { s.arm with meas := m } }) i).next = none := by
    rw [shape]
    exact next
  show Host.Outcome.next (slotFrame i m s) = _
  unfold slotFrame
  dsimp only
  rw [if_neg (by simp [runs, mode, role]), alone']
  dsimp only
  rw [settled _ next']

theorem effCfg_role (s : State) (i : Nat) (c : ArmCfg) : (effCfg s i c).role = c.role := by
  unfold effCfg
  split
  · rfl
  · split <;> rfl

theorem effCfg_measSrc (s : State) (i : Nat) (c : ArmCfg) : (effCfg s i c).measSrc = c.measSrc := by
  unfold effCfg
  split
  · rfl
  · split <;> rfl

/-- The slot after a sound frame. -/
theorem runFrame_sound {w : State} (sound : frameFaults w i = false) : ∃ o applied cap,
    slotOf (runFrame i false false w) i = framed (slotOf w i) o applied false cap ∧
    (runFrame i false false w).arm.meas = w.arm.meas ∧
    ((effCfg w i (slotOf w i).cfg).role ≠ 3 → (slotOf w i).mode = .normal →
      o = law (effCfg w i (slotOf w i).cfg) (if (slotOf w i).faulted = true then 0 else (slotOf w i).integ)
        (measOf w (effCfg w i (slotOf w i).cfg).measSrc) (setPointOf w i (effCfg w i (slotOf w i).cfg)) 0 false) := by
  obtain ⟨o, applied, cap, kept, -, plain⟩ := runFrame_ends i false false w
  rw [sound, if_neg (by decide)] at kept
  obtain ⟨slots, meas, -, -⟩ := kept
  exact ⟨o, applied, cap, (slotOf_congr slots i).trans (slotOf_setSlot_self i _ w), meas, plain sound⟩

/-- SENSOR_FAULT of a slot, once set. -/
theorem sensorFaultSet_bit (inside : i < 8) (s : State) : (sensorFaultSet i s).arm.sensorFault.getLsbD i = true ∧
    (sensorFaultSet i s).arm.slots = s.arm.slots := by
  have marked (b : Bool) (n : Nat) (v : State) : (evsSetIf b n v).arm = v.arm := by cases b <;> rfl
  unfold sensorFaultSet
  rw [marked]
  refine ⟨?_, rfl⟩
  show (bitSet s.arm.sensorFault i).getLsbD i = true
  simp [bitSet, inside]

/-- The slot after a frame with a faulted measurement: the fallback, the integrator as it was. -/
theorem runFrame_faulted {w : State} (fault : frameFaults w i = true) (inside : i < 8) :
    (slotOf (runFrame i false false w) i).faulted = true ∧
    (slotOf (runFrame i false false w) i).output = (effCfg w i (slotOf w i).cfg).fallback i ∧
    (slotOf (runFrame i false false w) i).applied = (effCfg w i (slotOf w i).cfg).fallback i ∧
    (slotOf (runFrame i false false w) i).integ = (slotOf w i).integ ∧
    (runFrame i false false w).arm.sensorFault.getLsbD i = true := by
  obtain ⟨o, applied, cap, kept, back, -⟩ := runFrame_ends i false false w
  obtain ⟨integ, out, applied'⟩ := back fault
  rw [fault, if_pos rfl] at kept
  obtain ⟨slots, -, -, flag⟩ := kept
  obtain ⟨bit, same⟩ := sensorFaultSet_bit inside (setSlot i (framed (slotOf w i) o applied true cap) w)
  have slot : slotOf (runFrame i false false w) i = framed (slotOf w i) o applied true cap :=
    (slotOf_congr (slots.trans same) i).trans (slotOf_setSlot_self i _ w)
  rw [slot, flag]
  exact ⟨rfl, out, applied', integ, bit⟩

/-- A clamp between ordered bounds. -/
theorem clampInt_between {lo hi : Int} (ordered : lo ≤ hi) (v : Int) : lo ≤ clampInt lo hi v ∧
    clampInt lo hi v ≤ hi := by
  unfold clampInt
  split
  · exact ⟨Int.le_refl lo, ordered⟩
  · split <;> omega

end

end Sys2Proof.Machine

open Sys2Proof Sys2Proof.Machine

/-- Settles O41: a frame that no outer slot drives is one `runFrame`, whose output is the law's or, on a faulted
measurement, the fallback; the law ends in two clamps. -/
theorem slotFramesFollowTheLaw : Obligations.SlotFramesFollowTheLaw := by
  refine ⟨?_, ?_, ?_, ?_, ?_⟩
  · rintro s i m x u c rfl rfl rfl runs mode role alone next sound
    have role2 : (slotOf s i).cfg.role ≠ 2 := by omega
    obtain ⟨p, f, shape⟩ := holdFlushPower_shape { s with arm := { s.arm with meas := m } }
    have ran := slotFrame_plain runs (by rw [mode]; decide) role2 alone next
    rw [shape] at ran
    have sound' : frameFaults { s with arm := { s.arm with meas := m }, pwr := p, free := f } i = false := by
      unfold frameFaults
      rw [effCfg_measSrc]
      show m.faulted.contains (slotOf s i).cfg.measSrc = false
      simpa using sound
    obtain ⟨o, applied, cap, slot, meas, plain⟩ := runFrame_sound sound'
    have law' := plain (by rw [effCfg_role]; show (slotOf s i).cfg.role ≠ 3; omega) mode
    refine ⟨_, ran, meas, ?_, ?_, ?_, ?_⟩
    · rw [slot]
      rfl
    · rw [slot]
      rfl
    · rw [slot, law']
      rfl
    · rw [slot, law']
      rfl
  · rintro s i m x u rfl rfl runs mode role alone next fault inside
    obtain ⟨p, f, shape⟩ := holdFlushPower_shape { s with arm := { s.arm with meas := m } }
    have ran := slotFrame_plain runs (by rw [mode]; decide) role alone next
    rw [shape] at ran
    have fault' : frameFaults { s with arm := { s.arm with meas := m }, pwr := p, free := f } i = true := by
      unfold frameFaults
      rw [effCfg_measSrc]
      show m.faulted.contains (slotOf s i).cfg.measSrc = true
      simpa using fault
    exact ⟨_, ran, runFrame_faulted fault' inside⟩
  · intro c integ meas sp inj p out int
    obtain ⟨low, high⟩ := clampInt_between out (sar (sar (c.kp * (law c integ meas sp inj p).e) 16 *
      (law c integ meas sp inj p).g) 12 + (law c integ meas sp inj p).integ + c.offset + (if p then inj else 0))
    obtain ⟨low', high'⟩ := clampInt_between int (integ + sar (sar (c.ki * (law c integ meas sp inj p).e) 16 *
      (law c integ meas sp inj p).g) 12)
    exact ⟨low, high, low', high'⟩
  · intro s i m off
    exact congrArg Host.Outcome.next (if_pos (.inr (.inl off)))
  · intro s i m stopped
    exact congrArg Host.Outcome.next (if_pos (.inl (by rw [stopped]; rfl)))
end

section
/-! SUPPORT. Index pulses, injections and windows: what each leaves in the slots and the Armature's registers (R474,
R479 to
R481, R488, R490). -/
namespace Sys2Proof.Machine

section
variable {s v : State}

/-! ## Index pulses -/

theorem evsSetIf_arm (b : Bool) (n : Nat) (s : State) : (evsSetIf b n s).arm = s.arm := by cases b <;> rfl

/-- A slip is counted; the measurements stay. -/
theorem countSlip_counts (o : Nat) (s : State) :
    (countSlip o s).arm.slips = satAdd s.arm.slips 1 ∧ (countSlip o s).arm.meas = s.arm.meas := by
  have told (c d0 d1 : Nat) (v : State) : (event c d0 d1 v).arm = v.arm := (event_same c d0 d1 v).field .arm rfl
  have marked (b : Bool) (n o : Nat) (x : ArmSlot) (f : W8) (v : State) :
      (evsSetIf b n { setSlot o x v with arm.fallback := f }).arm.slips = v.arm.slips ∧
      (evsSetIf b n { setSlot o x v with arm.fallback := f }).arm.meas = v.arm.meas := by
    rw [evsSetIf_arm]
    exact ⟨rfl, rfl⟩
  unfold countSlip
  dsimp only
  split
  · exact ⟨rfl, rfl⟩
  · rw [told]
    exact marked _ _ _ _ _ { s with arm.slips := satAdd s.arm.slips 1 }

/-- A frame keeps the slips and the measurements, and the counter of every slot. -/
theorem runFrame_counter (i : Nat) (pulse slip : Bool) (s : State) : (runFrame i pulse slip s).arm.slips = s.arm.slips ∧
    (runFrame i pulse slip s).arm.meas = s.arm.meas ∧
    ∀ j, (slotOf (runFrame i pulse slip s) j).counter = (slotOf s j).counter := by
  obtain ⟨o, applied, cap, ⟨slots, meas, slips, -⟩, -⟩ := runFrame_ends i pulse slip s
  have flagged (v : State) : (sensorFaultSet i v).arm.slots = v.arm.slots ∧ (sensorFaultSet i v).arm.meas = v.arm.meas ∧
      (sensorFaultSet i v).arm.slips = v.arm.slips := by
    unfold sensorFaultSet
    rw [evsSetIf_arm]
    exact ⟨rfl, rfl, rfl⟩
  have chosen (b : Bool) (v : State) : (if b then sensorFaultSet i v else v).arm.slots = v.arm.slots ∧
      (if b then sensorFaultSet i v else v).arm.meas = v.arm.meas ∧
      (if b then sensorFaultSet i v else v).arm.slips = v.arm.slips := by
    cases b
    · exact ⟨rfl, rfl, rfl⟩
    · exact flagged v
  obtain ⟨slots', meas', slips'⟩ :=
      chosen (frameFaults s i) (setSlot i (framed (slotOf s i) o applied (frameFaults s i) cap) s)
  refine ⟨slips.trans slips', meas.trans meas', fun j => ?_⟩
  rw [slotOf_congr (slots.trans slots'), slotOf_setSlot]
  split
  · next here => rw [here]; rfl
  · rfl

/-- A configuration that takes effect keeps slips and measurements. -/
theorem applyNext_slips (i : Nat) (s : State) : (applyNext i s).arm.slips = s.arm.slips ∧
    (applyNext i s).arm.meas = s.arm.meas := by
  unfold applyNext
  dsimp only
  split <;> exact ⟨rfl, rfl⟩

/-- An outer slot's frame restarts its counter. -/
theorem outerFrame_restarts (o : Nat) (pulse slip : Bool) (s : State) :
    (outerFrame o pulse slip s).arm.slips = s.arm.slips ∧ (outerFrame o pulse slip s).arm.meas = s.arm.meas ∧
    (slotOf (outerFrame o pulse slip s) o).counter = 0 := by
  obtain ⟨slips, meas, counter⟩ := runFrame_counter o pulse slip (setSlot o { slotOf s o with counter := 0 } s)
  exact ⟨slips, meas, (counter o).trans (congrArg ArmSlot.counter (slotOf_setSlot_self o _ s))⟩

/-- A pulse keeps the measurements. -/
theorem syncPulse_meas (o : Nat) (s : State) : (syncPulse o s).arm.meas = s.arm.meas := by
  have framed (b : Bool) (p : Nat) (v : State) :
      (outerFrame o true b (applyNext p (applyNext o v))).arm.meas = v.arm.meas := by
    rw [(outerFrame_restarts o true b _).2.1, (applyNext_slips p _).2, (applyNext_slips o v).2]
  unfold syncPulse
  dsimp only
  split
  · rfl
  · split
    · exact (countSlip_counts o s).2
    · rw [framed]
      split
      · exact (countSlip_counts o s).2
      · rfl

/-- A slot that is not an outer slot takes no pulse. -/
theorem syncPulse_inner {o : Nat} (inner : (slotOf s o).cfg.role ≠ 2) : syncPulse o s = s :=
  if_pos (.inr (.inr (.inl inner)))

theorem syncPulses_inner : ∀ (l : List Nat) (s : State), (∀ o ∈ l, (slotOf s o).cfg.role ≠ 2) →
    l.foldl (fun s o => syncPulse o s) s = s
  | [], _, _ => rfl
  | o :: l, s, inner => by
    rw [List.foldl_cons, syncPulse_inner (inner o List.mem_cons_self)]
    exact syncPulses_inner l s fun p mem => inner p (List.mem_cons_of_mem _ mem)

/-! ## Injections and windows -/

/-- The slot of an injection that ends, and the limit no longer held. -/
def injectOver (i : Nat) (s : State) : State :=
  { setSlot i { slotOf s i with mode := .normal, cap.running := false } s with arm.heldLimit := none }

/-- The flag of an ended injection. -/
def injectFlag (i : Nat) (done : Bool) (s : State) : State :=
  if done then evsSetIf (!s.arm.injDone.getLsbD i) (200 + i) { s with arm.injDone := bitSet s.arm.injDone i }
  else evsSetIf (!s.arm.injAborted.getLsbD i) (208 + i) { s with arm.injAborted := bitSet s.arm.injAborted i }

theorem endInject_eq (i : Nat) (done : Bool) (s : State) :
    endInject i done s = injectFlag i done (noteLimit (limitMib s) (injectOver i s)) := rfl

theorem injectFlag_arm (i : Nat) (done : Bool) (s : State) :
    (injectFlag i done s).arm.slots = s.arm.slots ∧ (injectFlag i done s).arm.heldLimit = s.arm.heldLimit ∧
    (injectFlag i done s).arm.windows = s.arm.windows ∧ (injectFlag i done s).arm.remaining = s.arm.remaining ∧
    (done = true → (injectFlag i done s).arm.injAborted = s.arm.injAborted ∧
      (injectFlag i done s).arm.injDone = bitSet s.arm.injDone i) := by
  cases done
  · have flagged : (injectFlag i false s).arm = { s.arm with injAborted := bitSet s.arm.injAborted i } :=
      evsSetIf_arm _ _ _
    rw [flagged]
    exact ⟨rfl, rfl, rfl, rfl, fun h => nomatch h⟩
  · have flagged : (injectFlag i true s).arm = { s.arm with injDone := bitSet s.arm.injDone i } := evsSetIf_arm _ _ _
    rw [flagged]
    exact ⟨rfl, rfl, rfl, rfl, fun _ => ⟨rfl, rfl⟩⟩

/-- An injection that ends: its slot is Normal, every other slot stays. -/
theorem endInject_ends (i : Nat) (done : Bool) (s : State) :
    slotOf (endInject i done s) i = { slotOf s i with mode := .normal, cap.running := false } ∧
    (∀ j, j ≠ i → slotOf (endInject i done s) j = slotOf s j) ∧ (endInject i done s).arm.heldLimit = none ∧
    (endInject i done s).arm.windows = s.arm.windows ∧ (endInject i done s).arm.remaining = s.arm.remaining ∧
    (done = true → (endInject i done s).arm.injAborted = s.arm.injAborted ∧
      (i < 8 → (endInject i done s).arm.injDone.getLsbD i = true)) := by
  have noted : (noteLimit (limitMib s) (injectOver i s)).arm = (injectOver i s).arm :=
      (noteLimit_same _ _).field .arm rfl
  obtain ⟨slots, held, windows, remaining, flags⟩ := injectFlag_arm i done (noteLimit (limitMib s) (injectOver i s))
  rw [noted] at slots held windows remaining flags
  rw [endInject_eq]
  refine ⟨(slotOf_congr slots i).trans (slotOf_setSlot_self i _ s), fun j other => ?_, held, windows, remaining,
      fun h => ?_⟩
  · exact (slotOf_congr slots j).trans ((slotOf_setSlot i j _ s).trans (if_neg other))
  · obtain ⟨aborted, flag⟩ := flags h
    refine ⟨aborted, fun inside => ?_⟩
    rw [flag]
    show (bitSet s.arm.injDone i).getLsbD i = true
    simp [bitSet, inside]

/-- What one slot does when windows close. -/
def closeWindow (mask : W8) (s : State) (i : Nat) : State :=
  if mask.getLsbD i && decide ((slotOf s i).mode = .inject) then
    endInject i (decide ((slotOf s i).cap.samples ≤ (slotOf s i).cap.frame)) s
  else s

theorem closeWindow_keeps (mask : W8) (s : State) (i : Nat) : (closeWindow mask s i).arm.windows = s.arm.windows ∧
    (closeWindow mask s i).arm.remaining = s.arm.remaining ∧
    ∀ j, (slotOf s j).mode ≠ .inject → (slotOf (closeWindow mask s i) j).mode ≠ .inject := by
  unfold closeWindow
  split
  · obtain ⟨self, others, -, windows, remaining, -⟩ :=
      endInject_ends i (decide ((slotOf s i).cap.samples ≤ (slotOf s i).cap.frame)) s
    refine ⟨windows, remaining, fun j quiet => ?_⟩
    by_cases here : j = i
    · subst here
      rw [self]
      exact SlotMode.noConfusion
    · rw [others j here]
      exact quiet
  · exact ⟨rfl, rfl, fun _ quiet => quiet⟩

theorem closeWindow_ends {mask : W8} {i : Nat} (closes : mask.getLsbD i = true) (s : State) :
    (slotOf (closeWindow mask s i) i).mode ≠ .inject := by
  unfold closeWindow
  split
  · rw [(endInject_ends i _ s).1]
    exact SlotMode.noConfusion
  · next held => simpa [closes] using held

theorem closeWindows_fold (mask : W8) : ∀ (l : List Nat) (s : State),
    (l.foldl (closeWindow mask) s).arm.windows = s.arm.windows ∧
    (l.foldl (closeWindow mask) s).arm.remaining = s.arm.remaining ∧
    ∀ j, (slotOf s j).mode ≠ .inject ∨ (j ∈ l ∧ mask.getLsbD j = true) →
      (slotOf (l.foldl (closeWindow mask) s) j).mode ≠ .inject
  | [], _ => ⟨rfl, rfl, fun _ held => held.resolve_right fun h => by cases h.1⟩
  | i :: l, s => by
    obtain ⟨windows, remaining, quiet⟩ := closeWindow_keeps mask s i
    obtain ⟨windows', remaining', quiet'⟩ := closeWindows_fold mask l (closeWindow mask s i)
    refine ⟨windows'.trans windows, remaining'.trans remaining, fun j held => quiet' j ?_⟩
    rcases held with held | ⟨mem, closes⟩
    · exact .inl (quiet j held)
    · rcases List.mem_cons.mp mem with rfl | rest
      · exact .inl (closeWindow_ends closes s)
      · exact .inr ⟨rest, closes⟩

/-- All windows close: no window and no time is left, and no slot of an open window injects. -/
theorem closeWindows_all (s : State) : (closeWindows s.arm.windows s).arm.windows = 0 ∧
    (closeWindows s.arm.windows s).arm.remaining = 0 ∧
    ∀ i, i < 5 → s.arm.windows.getLsbD i = true → (slotOf (closeWindows s.arm.windows s) i).mode ≠ .inject := by
  have zero : s.arm.windows &&& ~~~s.arm.windows = 0 := BitVec.and_not_self _
  obtain ⟨windows, remaining, quiet⟩ := closeWindows_fold s.arm.windows (List.range 5)
    { s with arm.windows := s.arm.windows &&& ~~~s.arm.windows,
             arm.remaining := if s.arm.windows &&& ~~~s.arm.windows = 0 then 0 else s.arm.remaining }
  refine ⟨windows.trans zero, remaining.trans (if_pos zero), fun i low closes => ?_⟩
  exact quiet i (.inr ⟨List.mem_range.mpr low, closes⟩)

end

end Sys2Proof.Machine

open Sys2Proof Sys2Proof.Machine

/-- Settles O42: a pulse keeps the measurements it samples, a missing one counts a slip and ends in the frame that
restarts
the counter; a refill is the model's own sum; the windows close one slot after the other, and an ended injection stays
ended. -/
theorem armatureEventsComplete : Obligations.ArmatureEventsComplete := by
  refine ⟨?_, ?_, ?_, ?_, ?_, ?_, ?_, ?_, ?_⟩
  · intro s m runs
    have kept := foldl_keeps (fun v : State => v.arm.meas) (fun v o => syncPulse_meas o v) (List.range 8)
      { s with arm := { s.arm with meas := m } }
    exact ⟨_, congrArg Host.Outcome.next (if_pos runs), kept⟩
  · intro s m runs inner
    refine congrArg Host.Outcome.next ((if_pos runs).trans ?_)
    exact syncPulses_inner _ _ fun o mem => inner o (List.mem_range.mp mem)
  · intro s i m runs mode role src late
    refine ⟨_, congrArg Host.Outcome.next (if_neg ?_), ?_, ?_⟩
    · simp [runs, mode, role, src]
      omega
    · rw [(outerFrame_restarts i false true _).1, (applyNext_slips _ _).1, (applyNext_slips i _).1]
      exact (countSlip_counts i _).1
    · exact (outerFrame_restarts i false true _).2.2
  · intro s i m early
    exact congrArg Host.Outcome.next (if_pos (.inr (.inr (.inr (.inr early)))))
  · intro s power
    exact ⟨_, congrArg Host.Outcome.next (if_pos power), rfl, rfl, rfl, Same.put (Same.refl _ _) rfl⟩
  · intro s i power inside mode done
    obtain ⟨self, -, held, -, -, ended⟩ := endInject_ends i true s
    obtain ⟨aborted, flag⟩ := ended rfl
    refine ⟨_, congrArg Host.Outcome.next (if_pos ⟨power, mode, done⟩), ?_, flag inside, held, aborted,
      endInject_same i true s⟩
    rw [self]
  · intro s i mode
    exact congrArg Host.Outcome.next (if_neg fun h => mode h.2.1)
  · intro s dark
    have off : ¬ powered s = true := by rw [dark]; decide
    exact ⟨congrArg Host.Outcome.next (if_neg off), congrArg Host.Outcome.next (if_neg off)⟩
  · intro s power
    obtain ⟨windows, remaining, quiet⟩ := closeWindows_all s
    exact ⟨_, congrArg Host.Outcome.next (if_pos power), windows, remaining, quiet, closeWindows_same _ s⟩
end

section
/-! SUPPORT. Armature Access: a command that starts and passes its checks leaves its slot as it says (R477, R483 to
R493,
R502). -/
namespace Sys2Proof.Machine

section
variable {s u v : State} {t : Tag}

/-- An Armature Access command runs in the state in which it starts. -/
theorem armature_start (i : Instr) {k : State → State} (start : Safety.startOf t 0xCA 0 s = some u)
    (may : Safety.allowed true false true t = true) {w : State} (body : k u = w) :
    Host.Outcome.next (runAdmin i t 0xCA 0 true false true k s) = (.next w : Host.Outcome State Fault Refusal) :=
  congrArg Host.Outcome.next ((runAdmin_start i k start may).trans body)

theorem finish_arm (t : Tag) (st : Status) (s : State) : (finish t st s).arm = s.arm :=
    (finish_same t st s).field .arm rfl

theorem slotOf_finish (t : Tag) (st : Status) (s : State) (i : Nat) : slotOf (finish t st s) i = slotOf s i :=
  slotOf_congr (congrArg Arm.slots (finish_arm t st s)) i

/-- A disabled slot is Disabled. -/
theorem disableSlot_mode (i : Nat) (s : State) : (slotOf (disableSlot i s) i).mode = .disabled := by
  have driven (v : Int) (x : ArmSlot) (w : State) : slotOf (driveOut i v (setSlot i x w)) i = x :=
    (slotOf_congr (driveOut_kept i v _).1 i).trans (slotOf_setSlot_self i x w)
  have published (ea : Int) (w : State) : slotOf (publish ea 0 w) i = slotOf w i :=
      slotOf_congr (publish_kept ea 0 w).1 i
  unfold disableSlot
  dsimp only
  split
  · rw [published, driven]
  · rw [driven]

/-- A configuration that is taken: at once by a Disabled slot, else with the next frame. -/
theorem takeCfg_takes (i : Nat) (c : ArmCfg) (s : State) :
    if (slotOf s i).mode = .disabled then (slotOf (takeCfg i c s) i).cfg = c
    else (slotOf (takeCfg i c s) i).next = some c ∧ (slotOf (takeCfg i c s) i).cfg = (slotOf s i).cfg := by
  unfold takeCfg
  dsimp only
  split
  · rw [slotOf_setSlot_self]
    rfl
  · rw [slotOf_setSlot_self]
    exact ⟨rfl, rfl⟩

/-- A block with a good CRC, a configuration the slot takes and an open window: the command succeeds. -/
theorem writeConfig_taken {i : Nat} {b : Bytes}
    (crc : crc32c ((padTo 256 b).take 252) = BitVec.ofNat 32 (leVal (slice (padTo 256 b) 252 4)))
    (good : (parseCfg (padTo 256 b)).points ≠ 0 → cfgOk u i (parseCfg (padTo 256 b)) = true)
    (window : windowOk u i = true) : writeConfig t i 256 b u = finish t .success
      (if (parseCfg (padTo 256 b)).points = 0 then disableSlot i u else takeCfg i (parseCfg (padTo 256 b)) u) := by
  unfold writeConfig
  dsimp only
  rw [if_neg (not_not_intro rfl), if_neg (not_not_intro crc), if_neg (fun h => by simp [good h.1] at h),
    if_neg (by rw [window]; decide)]

/-- A block with a bad CRC is refused. -/
theorem writeConfig_mismatch {i : Nat} {b : Bytes}
    (crc : crc32c ((padTo 256 b).take 252) ≠ BitVec.ofNat 32 (leVal (slice (padTo 256 b) 252 4))) :
    writeConfig t i 256 b u = finish t .digestMismatch u := by
  unfold writeConfig
  dsimp only
  rw [if_neg (not_not_intro rfl), if_pos crc]

/-- SET_MODE Normal of a slot that is not Disabled leaves it Normal. -/
theorem setModeNormal_normal {i : Nat} {d : BitVec 9} (div : divOk d = true) (mode : (slotOf u i).mode ≠ .disabled) :
    (slotOf (setModeNormal t i d u) i).mode = .normal := by
  unfold setModeNormal
  dsimp only
  rw [if_neg (by rw [div]; decide)]
  split
  · next off => exact absurd off mode
  · next normal => rw [slotOf_finish, normal]
  · rw [slotOf_finish, slotOf_setSlot_self]
  · rw [slotOf_finish, (endInject_ends i false u).1]

end

end Sys2Proof.Machine

open Sys2Proof Sys2Proof.Machine

/-- Settles O43: each command that starts and passes its checks ends in `finish`, which keeps the Armature, after its
own
change of the slot, the windows or THROTTLE. -/
theorem armatureAccessCompletes : Obligations.ArmatureAccessCompletes := by
  have divides {d : BitVec 9} (low : 1 ≤ d.toNat) (high : d.toNat ≤ 256) : divOk d = true := decide_eq_true ⟨low, high⟩
  refine ⟨?_, ?_, ?_, ?_, ?_, ?_, ?_, ?_, ?_, ?_⟩
  · intro t s u i start may
    exact armature_start _ start may (if_neg (not_not_intro rfl))
  · intro t s u i b start may crc nonzero good window
    refine ⟨_, armature_start _ start may (writeConfig_taken crc (fun _ => good) window), ?_⟩
    rw [if_neg nonzero, slotOf_finish]
    exact takeCfg_takes i.toNat _ u
  · intro t s u i b start may crc zero window
    refine ⟨_, armature_start _ start may (writeConfig_taken crc (fun h => absurd zero h) window), ?_⟩
    rw [if_pos zero, slotOf_finish]
    exact disableSlot_mode i.toNat u
  · intro t s u i b start may crc
    exact armature_start _ start may (writeConfig_mismatch crc)
  · intro t s u i d start may low high mode
    exact ⟨_, armature_start _ start may rfl, setModeNormal_normal (divides low high) mode⟩
  · intro t s u i b d start may low high mode
    have on : ¬ ((slotOf u i.toNat).mode = .disabled ∨ (slotOf u i.toNat).mode = .inject) := by
      rcases mode with h | h <;> simp [h]
    refine ⟨_, armature_start _ start may
      ((if_neg (by rw [divides low high]; decide)).trans (if_neg on)), ?_⟩
    rw [slotOf_finish, slotOf_setSlot_self]
    exact ⟨rfl, rfl, rfl, rfl, rfl⟩
  · intro t s u i d a b c start may ok mode quiet window
    refine ⟨_, armature_start _ start may
      ((if_neg (by rw [ok]; decide)).trans (if_neg (by simp [mode, quiet, window]))), ?_⟩
    have slot (x : ArmSlot) (h : Option Nat) (w : State) :
        slotOf { setSlot i.toNat x w with arm.heldLimit := h } i.toNat = x := slotOf_setSlot_self i.toNat x w
    rw [slotOf_finish, slot, finish_arm]
    exact ⟨rfl, rfl, rfl, rfl, rfl⟩
  · intro t s u m n start may nonzero low high
    refine ⟨_, armature_start _ start may ((if_neg (by omega)).trans (if_neg nonzero)), ?_⟩
    rw [finish_arm]
    exact ⟨rfl, rfl⟩
  · intro t s u n start may low high
    obtain ⟨windows, remaining, -⟩ := closeWindows_all u
    refine ⟨_, armature_start _ start may ((if_neg (by omega)).trans (if_pos rfl)), ?_⟩
    rw [finish_arm]
    exact ⟨windows, remaining⟩
  · intro t s u k start may low high
    refine ⟨_, armature_start _ start may (if_neg (by omega)), ?_⟩
    rw [finish_arm]
    exact ⟨rfl, (congrArg Hold.policyDue ((finish_same t .success _).field .hold rfl)).trans rfl,
      (finish_same t .success _).field .cfg rfl⟩
end

section
/-! SUPPORT. Maquette sessions, and what the commands of a tenant that resumes leave: whether a function is Frozen or
Retired
(R533 to R536, R543 to R545). -/
namespace Sys2Proof.Machine

/-! ## Sessions -/

section
variable {s u : State} {t : Tag}

/-- A Maquette command of a PF runs in the state in which it starts. -/
theorem maquette_start {p : Pf} {q : Nat} {c : W16} {op : W8} (i : Instr) {k : State → State} {w : State}
    (start : Safety.startOf ⟨.fn ⟨p, 0⟩, q, c⟩ op 0 s = some u) (body : k u = w) :
    Host.Outcome.next (runMaquette i ⟨.fn ⟨p, 0⟩, q, c⟩ op k s) = (.next w : Host.Outcome State Fault Refusal) :=
  congrArg Host.Outcome.next ((runAdmin_start i k start (by simp [Safety.allowed])).trans body)

/-- The session a command names. -/
theorem withSess_found {imp : Bool} {id : Nat} {x : MqSess} (k : MqSess → State → State)
    (found : u.mqt.sess.find? (fun x => decide (x.id = id ∧ x.imp = imp ∧ x.pf = mqPf t)) = some x) :
    withSess t imp id k u = k x u := by
  unfold withSess
  rw [found]

/-- A session replaced by one with its number and tenant is there. -/
theorem setSess_mem {x y : MqSess} (there : x ∈ s.mqt.sess) (id : y.id = x.id) (pf : y.pf = x.pf) (vf : y.vf = x.vf) :
    y ∈ (setSess y s).mqt.sess :=
  List.mem_map.mpr ⟨x, there, if_pos (decide_eq_true ⟨id.symm, pf.symm, vf.symm⟩)⟩

theorem mqChanged_mqt (id : Nat) (s : State) : (mqChanged id s).mqt = s.mqt := (mqChanged_same id s).field .mqt rfl

theorem mqEvent_mqt (step unit : Nat) (d : Digest) (s : State) : (mqEvent step unit d s).mqt = s.mqt :=
  (mqEvent_same step unit d s).field .mqt rfl

theorem complete_mqt (t : Tag) (st : Status) (d : W32) (s : State) : (complete t st d s).mqt = s.mqt :=
  (complete_same t st d s).field .mqt rfl

theorem finish_mqt (t : Tag) (st : Status) (s : State) : (finish t st s).mqt = s.mqt := complete_mqt t st 0 s

/-- A session that is dropped is gone. -/
theorem dropSess_gone (x : MqSess) (s : State) : x ∉ (dropSess x s).mqt.sess := by
  unfold dropSess
  rw [mqChanged_mqt]
  exact fun mem => absurd (List.mem_filter.mp mem).2 (by simp)

end

/-! ## Frozen and Retired -/

/-- From `s` to `v` no function's Frozen and Retired change. -/
def FreezeKept (s v : State) : Prop := ∀ g, (fnOf v g).frozen = (fnOf s g).frozen ∧
    (fnOf v g).retired = (fnOf s g).retired

namespace FreezeKept
variable {s u v : State} {f : Func}

theorem refl (s : State) : FreezeKept s s := fun _ => ⟨rfl, rfl⟩

/-- An operation after others, the last one first. -/
theorem after (second : FreezeKept u v) (first : FreezeKept s u) : FreezeKept s v := fun g =>
  ⟨(second g).1.trans (first g).1, (second g).2.trans (first g).2⟩

theorem of_fns (h : v.fns = s.fns) : FreezeKept s v := fun g => by
  rw [fnOf_congr h]
  exact ⟨rfl, rfl⟩

theorem of_same {l : List Field} (h : Same l s v) (fns : (!l.contains .fns) = true) : FreezeKept s v :=
  of_fns (h.field .fns fns)

theorem ite {c : Prop} [Decidable c] (h : FreezeKept s u) (k : FreezeKept s v) : FreezeKept s (if c then u else v) := by
  split <;> assumption

theorem fold {α : Type} {g : State → α → State} (h : ∀ s a, FreezeKept s (g s a)) :
    ∀ (l : List α) (s : State), FreezeKept s (l.foldl g s)
  | [], s => refl s
  | a :: l, s => (fold h l (g s a)).after (h s a)

theorem setFn {x : Fn} (frozen : x.frozen = (fnOf s f).frozen) (retired : x.retired = (fnOf s f).retired) :
    FreezeKept s (setFn f x s) := fun g => by
  by_cases same : unitOf g = unitOf f
  · have read (v : State) : fnOf v g = fnOf v f := by
      unfold fnOf
      rw [same]
    rw [read, read, fnOf_setFn]
    exact ⟨frozen, retired⟩
  · rw [fnOf_setFn_other same]
    exact ⟨rfl, rfl⟩

theorem modCtrl (f : Func) (g : Ctrl → Ctrl) (s : State) : FreezeKept s (modCtrl f g s) := setFn rfl rfl

/-- What posts to one function and leaves the others alone. -/
theorem of_posted (posted : Posted f s v) (others : Beside f s v) : FreezeKept s v := fun g => by
  by_cases same : unitOf g = unitOf f
  · have read (w : State) : fnOf w g = fnOf w f := by
      unfold fnOf
      rw [same]
    obtain ⟨p, b, i, l, h, -⟩ := posted
    rw [read, read, h]
    exact ⟨rfl, rfl⟩
  · rw [others g same]
    exact ⟨rfl, rfl⟩

end FreezeKept

section
variable {s : State}

theorem complete_freeze (t : Tag) (st : Status) (d : W32) (s : State) : FreezeKept s (complete t st d s) := fun g => by
  obtain ⟨p, b, i, l, h, -⟩ := complete_leaves t st d g s
  rw [h]
  exact ⟨rfl, rfl⟩

theorem deliver_freeze (f : Func) (t : Tag) (own : t.src = .fn f) (st : Status) (d : W32) (s : State) :
    FreezeKept s (deliver f t st d s) :=
  .of_posted ((releaseFlushes_posted _ _ _).after (deliverOne_posted s own st d))
    ((releaseFlushes_beside f _ _ _).after (deliverOne_beside own st d s))

theorem asyncEvent_freeze (f : Func) (e : AsyncEvt) (s : State) : FreezeKept s (asyncEvent f e s) := by
  have noted (v : State) : FreezeKept v (noteAen f e v) := by
    unfold noteAen
    exact .ite (.of_same (setEvs_same _ _ v) rfl) (.refl v)
  have sent (o : Output) (v : State) : FreezeKept v (emit o v) := .of_fns rfl
  unfold asyncEvent
  refine .ite (.refl s) ?_
  split
  · exact (complete_freeze _ _ _ _).after ((noted _).after ((sent _ _).after (.modCtrl f _ s)))
  · exact .ite (.refl s) (.modCtrl f _ s)

theorem sqDoorbell_freeze (f : Func) (n v : Nat) (s : State) : FreezeKept s (sqDoorbell f n v s) := by
  have stored (q : Sq) (w : State) : FreezeKept w (setSq f q w) := .modCtrl f _ w
  have sent (o : Output) (w : State) : FreezeKept w (emit o w) := .of_fns rfl
  have moved (q : Sq) (w : State) : FreezeKept w (takeTail f q v w) := by
    unfold takeTail
    exact .ite (stored _ w) ((sent _ _).after (stored _ w))
  unfold sqDoorbell
  split
  · exact asyncEvent_freeze f _ s
  · exact .ite (asyncEvent_freeze f _ s) ((moved _ _).after (.ite (.of_fns rfl) (.refl s)))

theorem cqDoorbell_freeze (f : Func) (n v : Nat) (s : State) : FreezeKept s (cqDoorbell f n v s) := by
  have moved (q : Cq) (w : State) : FreezeKept w (takeHead f q v w) :=
    (FreezeKept.of_posted (.of_signalled (intxFollow_signalled f _)) (intxFollow_beside f _)).after
      ((FreezeKept.of_posted (postWaiting_posted _ _ _) (postWaiting_beside f _ _ _)).after (.modCtrl f _ w))
  unfold cqDoorbell
  split
  · exact asyncEvent_freeze f _ s
  · exact .ite (moved _ s) (asyncEvent_freeze f _ s)

theorem applyTails_freeze (f : Func) (l : List (Nat × Nat × Nat)) (s : State) : FreezeKept s (applyTails f l s) := by
  unfold applyTails
  exact .fold (fun v e => .ite (.refl v) (.ite (cqDoorbell_freeze f _ _ v) (sqDoorbell_freeze f _ _ v))) l s

theorem restoreContexts_freeze (f : Func) (l : List MqCtx) (s : State) : FreezeKept s (restoreContexts f l s) := by
  unfold restoreContexts
  refine (FreezeKept.fold (fun v c => ?_) l _).after (.modCtrl f _ s)
  split
  · exact .ite (deliver_freeze f _ rfl _ _ v) (.refl v)
  · exact .refl v

/-- A tenant that resumes is no longer Frozen. -/
theorem resumeTenant_thaws (x : MqSess) (s : State) : (fnOf (resumeTenant x s) x.tenant).frozen = false ∧
    (resumeTenant x s).mqt.sess = s.mqt.sess := by
  have thawed : (fnOf (unfreeze x.tenant s) x.tenant).frozen = false := by
    unfold unfreeze
    rw [fnOf_congr ((ustChange_same _ _).field .fns rfl), fnOf_modFn]
  have sess : (unfreeze x.tenant s).mqt.sess = s.mqt.sess := by
    unfold unfreeze
    rw [(ustChange_same _ _).field .mqt rfl]
    rfl
  have kept := (applyTails_freeze x.tenant s.mqt.tails _).after (restoreContexts_freeze x.tenant x.ctxs
      (unfreeze x.tenant s))
  have mqt : (resumeTenant x s).mqt = (unfreeze x.tenant s).mqt :=
    ((applyTails_same _ _ _).field .mqt rfl).trans ((restoreContexts_same _ _ _).field .mqt rfl)
  exact ⟨(kept x.tenant).1.trans thawed, (congrArg Mqt.sess mqt).trans sess⟩

end

end Sys2Proof.Machine
end

section
/-! SUPPORT. Maquette Export: what each command leaves of its session and its tenant (R533 to R547, R565). -/
namespace Sys2Proof.Machine

section
variable {s u : State} {t : Tag} {x : MqSess}

/-- A completion leaves a function with no command in flight as it is. -/
theorem complete_idle {f : Func} (idle : (fnOf s f).ctrl.inflight = []) (st : Status) (d : W32) :
    fnOf (complete t st d s) f = fnOf s f := by
  cases src : t.src with
  | mgt => exact fnOf_congr (complete_mgt_fns src st d s) f
  | fn g =>
    by_cases same : unitOf f = unitOf g
    · have read (v : State) : fnOf v f = fnOf v g := by
        unfold fnOf
        rw [same]
      rw [read] at idle
      have noted : (if st = .stateConflict then evsSet 160 { s with nvm.conflicts := satAdd s.nvm.conflicts 1 } else
          s).fns =
          s.fns := by split <;> rfl
      have still (v : State) (idle : (fnOf v g).ctrl.inflight = []) : deliver g t st d v = v := by
        have nothing : deliverOne g t st d v = v := by
          unfold deliverOne inflightOf
          rw [src]
          dsimp only
          rw [idle]
          rfl
        unfold deliver
        dsimp only
        rw [nothing, idle]
        rfl
      rw [read, read]
      unfold complete
      rw [src]
      dsimp only
      rw [still _ (by rw [fnOf_congr noted]; exact idle), fnOf_congr noted]
    · exact complete_beside src st d s f same

/-- START opens a session of round 0 with nothing dirty. -/
theorem startExport_opens {f : Func} {delta : Bool} {certs : TargetCerts} {id : Nat} (free : freeSession u = some id) :
    ∃ x : MqSess, (startExport t f delta certs u).mqt.sess = u.mqt.sess ++ [x] ∧ x.id = id ∧ x.imp = false ∧
      x.pf = f.pf ∧
      x.vf = f.vf ∧ x.state = .openRound ∧ x.round = 0 ∧ x.delta = delta ∧ x.xportId = xportIdOf certs.xport ∧
      x.nextIdx = 0 ∧ x.dirty = [] := by
  unfold startExport
  rw [free]
  dsimp only
  rw [complete_mqt, mqEvent_mqt, mqChanged_mqt]
  exact ⟨_, rfl, rfl, rfl, rfl, rfl, rfl, rfl, rfl, rfl, rfl, rfl⟩

/-- The final stop: the tenant is Frozen with its commands captured. -/
theorem finalStop_stops (there : x ∈ s.mqt.sess) :
    (∃ y ∈ (finalStop x s).mqt.sess, y.id = x.id ∧ y.state = .final ∧ y.round = x.round + 1 ∧
      y.ctxs = captureAll s x.tenant) ∧
    (fnOf (finalStop x s) x.tenant).frozen = true ∧ (fnOf (finalStop x s) x.tenant).ctrl.inflight = [] := by
  have mqt (n i : Nat) (v : State) : (ustChange n (mqChanged i v)).mqt = v.mqt :=
    ((ustChange_same n _).field .mqt rfl).trans (mqChanged_mqt i v)
  have fns (n i : Nat) (y : MqSess) (v : State) : (ustChange n (mqChanged i (setSess y v))).fns = v.fns :=
    ((ustChange_same n _).field .fns rfl).trans (((mqChanged_same i _).field .fns rfl).trans
      ((setSess_same y v).field .fns rfl))
  unfold finalStop
  dsimp only
  rw [mqt, fnOf_congr (fns _ _ _ _), fnOf_modFn]
  refine ⟨⟨_, setSess_mem (x := x) there rfl rfl rfl, rfl, rfl, rfl, rfl⟩, rfl, rfl⟩

/-- The session that goes with the next object keeps its number, tenant and index. -/
theorem nextObject_keeps {env : MediaEnv} {b : Bytes} {y : MqSess} {l : List Nat}
    (object : nextObject s env x = some (b, y, l)) : y.id = x.id ∧ y.pf = x.pf ∧ y.vf = x.vf ∧
      y.nextIdx = x.nextIdx := by
  unfold nextObject at object
  split at object
  · cases object
    exact ⟨rfl, rfl, rfl, rfl⟩
  · cases object
    exact ⟨rfl, rfl, rfl, rfl⟩
  · split at object
    · cases object
      exact ⟨rfl, rfl, rfl, rfl⟩
    · split at object
      · cases object
        exact ⟨rfl, rfl, rfl, rfl⟩
      · cases object
  · cases object
    exact ⟨rfl, rfl, rfl, rfl⟩
  · cases object
    exact ⟨rfl, rfl, rfl, rfl⟩
  · cases object
    exact ⟨rfl, rfl, rfl, rfl⟩

/-- The last object read is not the one asked for. -/
theorem lastObj_other {n : Nat} (other : ∀ o, x.lastObj = some o → o.1 ≠ n) :
    (x.lastObj.filter fun o => decide (o.1 = n)) = none := by
  cases last : x.lastObj with
  | none => rfl
  | some o => simp [Option.filter, other o last]

theorem complete_noData {f : Func} (src : t.src = .fn f) (st : Status) (d : W32) (s : State) :
    AddsNoData s (complete t st d s) := by
  have noted : AddsNoData s (if st = .stateConflict then evsSet 160 { s with nvm.conflicts := satAdd s.nvm.conflicts 1
      } else s) :=
    .ite (.of_out rfl) (.refl s)
  unfold complete
  rw [src]
  exact ((releaseFlushes_noData f _ _ _).after (deliverOne_noData f t st d _)).after noted

/-- An object handed over is among the outputs, and the session holds it. -/
theorem giveObject_gives {f : Func} (src : t.src = .fn f) (i : Nat) (b : Bytes) {y : MqSess} (there : x ∈ s.mqt.sess)
    (id : y.id = x.id) (pf : y.pf = x.pf) (vf : y.vf = x.vf) : Output.data t b ∈ (giveObject t i b y s).out ∧
    ∃ z ∈ (giveObject t i b y s).mqt.sess, z.id = y.id ∧ z.lastObj = some (i, b) ∧
      z.nextIdx = max y.nextIdx (i + 1) := by
  have given (v : State) : Output.data t b ∈ (complete t .success (BitVec.ofNat 32 b.length)
      (emit (.data t b) v)).out := by
    obtain ⟨l, out, -⟩ := complete_noData src .success (BitVec.ofNat 32 b.length) (emit (.data t b) v)
    rw [out]
    exact List.mem_append_left _ (List.mem_append_right _ (List.mem_singleton.mpr rfl))
  refine ⟨given _, { y with lastObj := some (i, b), lastLen := b.length, nextIdx := max y.nextIdx (i + 1) }, ?_, rfl,
      rfl,
    rfl⟩
  unfold giveObject
  dsimp only
  rw [complete_mqt]
  exact setSess_mem (x := x) there id pf vf

/-- A READ of the next object. -/
theorem exportRead_gives {f : Func} (src : t.src = .fn f) {n m : Nat} {env : MediaEnv} {b : Bytes} {y : MqSess}
    {l : List Nat} (there : x ∈ u.mqt.sess) (unsealed : x.state ≠ .sealed) (other : ∀ o, x.lastObj = some o → o.1 ≠ n)
    (next : n = x.nextIdx) (object : nextObject u env x = some (b, y, l)) (room : b.length ≤ m) :
    Output.data t b ∈ (exportRead t m n env x u).out ∧
    ∃ z ∈ (exportRead t m n env x u).mqt.sess, z.id = y.id ∧ z.lastObj = some (n, b) ∧ z.nextIdx = n + 1 := by
  obtain ⟨id, pf, vf, idx⟩ := nextObject_keeps object
  have read (l : List Nat) (v : State) : (l.foldl (fun s k => mediaRead env false true k s) v).mqt = v.mqt :=
    (Same.fold (fun w k => mediaRead_same env false true k w) l (.refl _ v)).field .mqt rfl
  have signed (v : State) : (if y.state = .sealed then signedOnce v else v).mqt = v.mqt := by
    split
    · exact (signedOnce_same v).field .mqt rfl
    · rfl
  have told (v : State) : (if y.state = x.state then v else mqChanged x.id v).mqt = v.mqt ∧
      (if y.state = x.state then v else mqChanged x.id v).out = v.out := by
    split
    · exact ⟨rfl, rfl⟩
    · exact ⟨mqChanged_mqt _ v, (mqChanged_same _ v).field .out rfl⟩
  have there' : x ∈ (if y.state = .sealed then signedOnce (l.foldl (fun s k => mediaRead env false true k s) u)
      else l.foldl (fun s k => mediaRead env false true k s) u).mqt.sess := by
    rw [signed, read]
    exact there
  obtain ⟨out, z, mem, zid, last, zidx⟩ := giveObject_gives src n b there' id pf vf
  unfold exportRead
  dsimp only
  rw [lastObj_other other]
  dsimp only
  rw [if_neg (by simp [next, unsealed]), object]
  dsimp only
  rw [if_neg (Nat.not_lt.mpr room), (told _).1, (told _).2]
  refine ⟨out, z, mem, zid, last, zidx.trans ?_⟩
  omega

/-- A READ at the end of a round. -/
theorem exportRead_none {n m : Nat} {env : MediaEnv} (unsealed : x.state ≠ .sealed)
    (other : ∀ o, x.lastObj = some o → o.1 ≠ n) (next : n = x.nextIdx) (object : nextObject u env x = none) :
    exportRead t m n env x u = complete t .success 0 (setSess { x with exhausted := true } u) := by
  unfold exportRead
  dsimp only
  rw [lastObj_other other]
  dsimp only
  rw [if_neg (by simp [next, unsealed]), object]

/-- CLOSE RESUME: the session is gone, and a tenant that was Frozen is not any more. -/
theorem closeResume_ends (keep : Bool) : ∃ v,
    (if x.state = .openRound then finish t .success (keepChain x keep (dropSess x u))
      else finish t .success (mqEvent 3 (unitOf x.tenant) (if x.state = .sealed then x.manifest else 0)
        (resumeTenant x (keepChain x keep (dropSess x u))))) = v ∧ x ∉ v.mqt.sess ∧
    (x.state ≠ .openRound → (fnOf v x.tenant).frozen = false) ∧ v.media = u.media := by
  have gone : x ∉ (keepChain x keep (dropSess x u)).mqt.sess := by
    unfold keepChain
    split
    · exact dropSess_gone x u
    · exact dropSess_gone x u
  have media : (keepChain x keep (dropSess x u)).media = u.media :=
    ((keepChain_same x keep _).field .media rfl).trans ((dropSess_same x u).field .media rfl)
  refine ⟨_, rfl, ?_⟩
  split
  · next opened =>
    rw [finish_mqt]
    exact ⟨gone, fun h => absurd opened h, ((finish_same t .success _).field .media rfl).trans media⟩
  · obtain ⟨thawed, sess⟩ := resumeTenant_thaws x (keepChain x keep (dropSess x u))
    rw [finish_mqt, mqEvent_mqt, sess]
    refine ⟨gone, fun _ => ?_, ?_⟩
    · exact ((complete_freeze t .success 0 _ x.tenant).1.trans
        ((FreezeKept.of_same (mqEvent_same _ _ _ _) rfl) x.tenant).1).trans thawed
    · exact ((finish_same t .success _).field .media rfl).trans (((mqEvent_same _ _ _ _).field .media rfl).trans
        (((resumeTenant_same x _).field .media rfl).trans media))

/-- CLOSE RETIRE of a sealed session. -/
theorem closeRetire_ends (sealed' : x.state = .sealed) : ∃ v, (if x.state = .sealed then
      finish t .success (mqEvent 4 (unitOf x.tenant) x.manifest (modFn x.tenant (fun y => { y with retired := true })
        (dropSess x { untagWt x.tenant u with mqt.tails := u.mqt.tails.filter fun e => !decide (e.1 = unitOf x.tenant)
          })))
      else finish t .stateConflict u) = v ∧ x ∉ v.mqt.sess ∧ (fnOf v x.tenant).retired = true ∧ v.media = u.media := by
  have marked (v : State) : (modFn x.tenant (fun y => { y with retired := true }) v).mqt = v.mqt ∧
      (modFn x.tenant (fun y => { y with retired := true }) v).media = v.media := ⟨rfl, rfl⟩
  refine ⟨_, rfl, ?_⟩
  rw [if_pos sealed', finish_mqt, mqEvent_mqt, (marked _).1]
  refine ⟨dropSess_gone x _, ?_, ?_⟩
  · refine ((complete_freeze t .success 0 _ x.tenant).2.trans
      ((FreezeKept.of_same (mqEvent_same _ _ _ _) rfl) x.tenant).2).trans ?_
    rw [fnOf_modFn]
  · refine ((finish_same t .success _).field .media rfl).trans (((mqEvent_same _ _ _ _).field .media rfl).trans ?_)
    exact (marked _).2.trans ((dropSess_same x _).field .media rfl)

end

end Sys2Proof.Machine

open Sys2Proof Sys2Proof.Machine

/-- Settles O47: each command acts on the session it names; a completion leaves the tenant Frozen and without
commands, and
what a resumed tenant is given back never freezes it again. -/
theorem exportCommandsComplete : Obligations.ExportCommandsComplete := by
  refine ⟨?_, ?_, ?_, ?_, ?_, ?_, ?_, ?_⟩
  · intro p q c s u vf b n k id start virtual length online may certs answer rng free
    have runs : withEntropy (.exportStart ⟨.fn ⟨p, 0⟩, q, c⟩ vf b n k) (startExport ⟨.fn ⟨p, 0⟩, q, c⟩ ⟨p,
        vf.toNat⟩ b k)
        (finish ⟨.fn ⟨p, 0⟩, q, c⟩ .entropyUnavailable) u =
        startExport ⟨.fn ⟨p, 0⟩, q, c⟩ ⟨p, vf.toNat⟩ b k (drbgUse u) := withEntropy_healthy _ _ _ rng
    obtain ⟨x, sess, opened⟩ := startExport_opens (t := ⟨.fn ⟨p, 0⟩, q, c⟩) (f := ⟨p, vf.toNat⟩) (delta := b)
        (certs := k)
      (u := drbgUse u) free
    refine ⟨_, x, maquette_start _ start ((if_neg fun h => h.elim virtual length).trans
        ((if_neg (by simp [online])).trans
      ((if_neg (by rw [show mqPf ⟨.fn ⟨p, 0⟩, q, c⟩ = p from rfl, may]; decide)).trans
        ((if_neg (by rw [certs, answer]; decide)).trans runs)))), sess, ?_⟩
    obtain ⟨hid, imp, pf, vf', state, round, delta, xport, idx, dirty⟩ := opened
    exact ⟨hid, imp, pf, vf', state, round, delta, xport, idx, dirty, (startExport_same _ _ _ _ _).field .media rfl⟩
  · intro p q c s u i x start found state exhausted rounds
    refine ⟨_, maquette_start _ start ((withSess_found _ found).trans (if_pos ⟨state, exhausted, rounds⟩)), ?_⟩
    rw [finish_mqt]
    exact setSess_mem (x := x) (List.mem_of_find?_eq_some found) rfl rfl rfl
  · intro p q c s u i x start found state
    obtain ⟨⟨y, mem, id, final, round, ctxs⟩, frozen, idle⟩ := finalStop_stops (List.mem_of_find?_eq_some found)
    refine ⟨_, y, maquette_start _ start ((withSess_found _ found).trans (if_pos state)), ?_, id, final, round, ctxs,
        ?_⟩
    · rw [finish_mqt]
      exact mem
    · have still := complete_idle (t := ⟨.fn ⟨p, 0⟩, q, c⟩) idle .success 0
      exact ⟨(congrArg Fn.frozen still).trans frozen, (congrArg (fun f => f.ctrl.inflight) still).trans idle⟩
  · intro p q c s u i x m n env b y l start found state other next length object room
    obtain ⟨out, z, mem, id, last, idx⟩ := exportRead_gives (t := ⟨.fn ⟨p, 0⟩, q, c⟩) rfl
        (List.mem_of_find?_eq_some found)
      state other next object room
    exact ⟨_, z, maquette_start _ start ((if_neg length).trans (withSess_found _ found)), out, mem, id, last, idx⟩
  · intro p q c s u i x m n env start found state other next length object
    exact maquette_start _ start ((if_neg length).trans ((withSess_found _ found).trans
      (exportRead_none state other next object)))
  · intro p q c s u i x b start found
    obtain ⟨v, ends, gone, thawed, media⟩ := closeResume_ends (t := ⟨.fn ⟨p, 0⟩, q, c⟩) (x := x) (u := u) b
    exact ⟨v, maquette_start _ start ((withSess_found _ found).trans ends), gone, thawed, media⟩
  · intro p q c s u i x start found state
    obtain ⟨v, ends, gone, retired, media⟩ := closeRetire_ends (t := ⟨.fn ⟨p, 0⟩, q, c⟩) (u := u) state
    exact ⟨v, maquette_start _ start ((withSess_found _ found).trans ends), gone, retired, media⟩
  · intro p q c s u i x start found state
    exact maquette_start _ start ((withSess_found _ found).trans (if_neg state))
end

section
/-! SUPPORT. Maquette Import: what each command leaves of its session and its namespaces (R554 to R559). -/
namespace Sys2Proof.Machine

section
variable {s u : State} {t : Tag} {x : MqSess}

/-! ## Namespaces changed one after the other -/

theorem nsOf_modNs_at (i k : Nat) (g : Ns → Ns) (s : State) :
    nsOf (modNs i g s) k = if k = i then (nsOf s k).map g else nsOf s k := by
  cases found : nsOf s i with
  | none =>
    have still : modNs i g s = s := by
      unfold modNs
      rw [found]
    rw [still]
    split
    · next here => rw [here, found]; rfl
    · rfl
  | some n =>
    rw [modNs_found g found, nsOf_congr (congrArg Tables.nss ((markDelta_same _).wholeTab rfl)), nsOf_set]
    split
    · next here => rw [here, found]; rfl
    · rfl

/-- A namespace is active and attached to one controller. -/
def ActiveOn (a k : Nat) (s : State) : Prop :=
  (nsOf s k).map (·.state) = some .active ∧ (nsOf s k).map (·.attached) = some [a]

theorem ActiveOn.congr {a k : Nat} (same : nsOf u k = nsOf s k) (active : ActiveOn a k s) : ActiveOn a k u := by
  unfold ActiveOn
  rw [same]
  exact active

/-- A namespace activated and attached. -/
def activateNs (a : Nat) (s : State) (i : Nat) : State :=
  ustChange (nsUnit i) (modNs i (fun n => { n with state := .active, attached := [a] }) s)

theorem nsOf_activateNs (a i k : Nat) (s : State) : nsOf (activateNs a s i) k =
    if k = i then (nsOf s k).map fun n => { n with state := .active, attached := [a] } else nsOf s k := by
  unfold activateNs
  rw [(ustChange_same _ _).nsOf rfl, nsOf_modNs_at]

theorem activateNs_fold {a k : Nat} : ∀ (l : List Nat) (s : State), (nsOf s k).isSome = true → k ∈ l ∨ ActiveOn a k s →
    ActiveOn a k (l.foldl (activateNs a) s)
  | [], _, _, held => held.resolve_left List.not_mem_nil
  | i :: l, s, there, held => by
    rw [List.foldl_cons]
    obtain ⟨n, found⟩ := Option.isSome_iff_exists.mp there
    have at' := nsOf_activateNs a i k s
    refine activateNs_fold l _ ?_ ?_
    · rw [at', found]
      split <;> rfl
    · by_cases here : k = i
      · refine .inr ⟨?_, ?_⟩ <;> rw [at', if_pos here, found] <;> rfl
      · rw [if_neg here] at at'
        exact held.imp (fun mem => (List.mem_cons.mp mem).resolve_left here) (ActiveOn.congr at')

/-- A restored CONTROL entry leaves every namespace in its state, attached as it is. -/
theorem restoreEntry_active {a k : Nat} (f : Func) (e : Nat × Bytes) (active : ActiveOn a k s) :
    ActiveOn a k (restoreEntry f e s) := by
  have controlled (g : Ctrl → Ctrl) : ActiveOn a k (modCtrl f g s) := active.congr ((modCtrl_same f g s).nsOf rfl k)
  unfold restoreEntry
  dsimp only
  split
  · exact controlled _
  · exact controlled _
  · exact controlled _
  · exact active.congr ((modFn_same f _ s).nsOf rfl k)
  · exact controlled _
  · obtain ⟨state, attached⟩ := active
    unfold ActiveOn restoreRsv
    rw [nsOf_modNs_at]
    split
    · rw [Option.map_map, Option.map_map]
      exact ⟨state, attached⟩
    · exact ⟨state, attached⟩
  · exact controlled _
  · exact controlled _

theorem restoreEntries_active {a k : Nat} (f : Func) : ∀ (l : List (Nat × Bytes)) (s : State), ActiveOn a k s →
    ActiveOn a k (l.foldl (fun s e => restoreEntry f e s) s)
  | [], _, active => active
  | e :: l, _, active => restoreEntries_active f l _ (restoreEntry_active f e active)

/-- What ACTIVATE does after the controller was restored. -/
theorem activate_tail (t : Tag) (x : MqSess) (w : State) (k : Nat) :
    x ∉ (finish t .success (mqEvent 7 (unitOf x.tenant) x.manifest (ustChange (unitOf x.tenant)
      (startSweeping x.tenant (markDelta (dropSess x w)))))).mqt.sess ∧
    nsOf (finish t .success (mqEvent 7 (unitOf x.tenant) x.manifest (ustChange (unitOf x.tenant)
      (startSweeping x.tenant (markDelta (dropSess x w)))))) k = nsOf w k := by
  constructor
  · rw [finish_mqt, mqEvent_mqt, (ustChange_same _ _).field .mqt rfl, (startSweeping_same _ _).field .mqt rfl,
      (markDelta_same _).field .mqt rfl]
    exact dropSess_gone x w
  · rw [(finish_same _ _ _).nsOf rfl, (mqEvent_same _ _ _ _).nsOf rfl, (ustChange_same _ _).nsOf rfl,
      (startSweeping_same _ _).nsOf rfl, (markDelta_same _).nsOf rfl, (dropSess_same _ _).nsOf rfl]

/-- ACTIVATE ends the session, and its namespaces are active and attached to the tenant. -/
theorem activate_ends (t : Tag) (x : MqSess) (u : State) : x ∉ (activate t x u).mqt.sess ∧
    ∀ k n, k ∈ x.nss → nsOf u k = some n → ActiveOn (unitOf x.tenant) k (activate t x u) := by
  have shape : ∃ w, activate t x u = finish t .success (mqEvent 7 (unitOf x.tenant) x.manifest
      (ustChange (unitOf x.tenant) (startSweeping x.tenant (markDelta (dropSess x w))))) ∧
      ∀ k n, k ∈ x.nss → nsOf u k = some n → ActiveOn (unitOf x.tenant) k w := by
    refine ⟨_, rfl, fun k n mem found => ?_⟩
    have restored (l : List MqCtx) (v : State) : nsOf (restoreContexts x.tenant l v) k = nsOf v k :=
      (restoreContexts_same x.tenant l v).nsOf rfl k
    have signalled (l : List Cq) (v : State) :
        nsOf (l.foldl (fun s q => if q.ien && q.unconsumed then signalCq x.tenant q s else s) v) k = nsOf v k :=
      (Same.fold (fun v q => .ite (signalCq_same x.tenant q v) (.refl _ v)) l (.refl _ v)).nsOf rfl k
    have reset (v : State) : nsOf (modCtrl x.tenant (fun _ => Ctrl.reset) v) k = nsOf v k :=
      (modCtrl_same x.tenant _ v).nsOf rfl k
    refine ActiveOn.congr (signalled _ _) (ActiveOn.congr (restored _ _) ?_)
    exact restoreEntries_active x.tenant x.control _ (ActiveOn.congr (reset _)
      (activateNs_fold x.nss u (by rw [found]; rfl) (.inl mem)))
  obtain ⟨w, ended, active⟩ := shape
  rw [ended]
  exact ⟨(activate_tail t x w 0).1, fun k n mem found => (active k n mem found).congr (activate_tail t x w k).2⟩

/-! ## Namespaces removed one after the other -/

/-- A namespace that is gone, its units with it. -/
def NsGone (k : Nat) (s : State) : Prop := nsOf s k = none ∧ ∀ j, iuNs j = k → mapOf s j = mapNone

theorem NsGone.of_same {k : Nat} {l : List Field} (h : Same l s u)
    (kept : ([.tabNss, .tabMap].all fun f => !l.contains f) = true) (gone : NsGone k s) : NsGone k u := by
  have each := List.all_eq_true.mp kept
  exact ⟨(h.nsOf (each _ (by decide)) k).trans gone.1,
      fun j own => (h.mapOf (each _ (by decide)) j).trans (gone.2 j own)⟩

theorem removeNs_gone (i k : Nat) (s : State) (held : k = i ∨ NsGone k s) : NsGone k (removeNs i s) := by
  rcases held with rfl | ⟨absent, unmapped⟩
  · exact ⟨nsOf_removeNs k s, fun j own => mapOf_removeNs k s own⟩
  · by_cases here : k = i
    · rw [here]
      exact ⟨nsOf_removeNs i s, fun j own => mapOf_removeNs i s own⟩
    · refine ⟨?_, fun j own => ?_⟩
      · unfold removeNs
        rw [(ustChange_same _ _).nsOf rfl, (markDelta_same _).nsOf rfl, (dropNsData_same _ _).nsOf rfl, nsOf_erase,
          if_neg here]
        exact absent
      · have other : Sparse.look (removeNs i s).tab.map j = Sparse.look s.tab.map j :=
          (Sparse.look_filter (fun x => !decide (iuNs x = i)) j s.tab.map).trans (if_pos (by simp [own, here]))
        rw [← unmapped j own]
        unfold mapOf Sparse.read
        rw [other]

theorem removeNss_gone {k : Nat} : ∀ (l : List Nat) (s : State), k ∈ l ∨ NsGone k s →
    NsGone k (l.foldl (fun s n => removeNs n s) s)
  | [], _, held => held.resolve_left List.not_mem_nil
  | i :: l, s, held => by
    refine removeNss_gone l (removeNs i s) ?_
    rcases held with mem | gone
    · exact (List.mem_cons.mp mem).elim (fun here => .inr (removeNs_gone i k s (.inl here))) .inl
    · exact .inr (removeNs_gone i k s (.inr gone))

/-- Removing namespaces keeps the sessions and the media. -/
theorem removeNss_kept (l : List Nat) (s : State) : (l.foldl (fun s n => removeNs n s) s).mqt = s.mqt ∧
    (l.foldl (fun s n => removeNs n s) s).media = s.media := by
  have same := Same.fold (fun v n => removeNs_same n v) l (.refl _ s)
  exact ⟨same.field .mqt rfl, same.field .media rfl⟩

/-- A discarded import is gone with its namespaces. -/
theorem discardImport_ends (x : MqSess) (s : State) : x ∉ (discardImport x s).mqt.sess ∧
    (∀ k ∈ x.nss, NsGone k (discardImport x s)) ∧ (discardImport x s).media = s.media := by
  refine ⟨dropSess_gone x _, fun k mem => ?_, (discardImport_same x s).field .media rfl⟩
  have erased (v : State) : Same [.trust, .tabKeys] v (x.slots.foldl (fun s i => eraseSlotOf i s) v) :=
    Same.fold (fun v i => eraseSlotOf_same i v) x.slots (.refl _ v)
  exact NsGone.of_same (dropSess_same x _) rfl (NsGone.of_same (erased _) rfl (removeNss_gone x.nss s (.inl mem)))

/-! ## BEGIN, WRITE and FINISH -/

/-- BEGIN of a Full import opens a receiving session. -/
theorem beginImport_opens {f : Func} {h : SessionHeader} {id : Nat} (full : h.delta = false)
    (free : freeSession u = some id) :
    (beginImport t f h u).mqt.sess = u.mqt.sess ++ [newImport u id f h [] [] 0] := by
  unfold beginImport
  rw [full, if_neg (by decide), free]
  dsimp only
  rw [complete_mqt, mqEvent_mqt, mqChanged_mqt]

/-- WRITE of a shard whose fields are allowed and whose body applies. -/
theorem importWrite_applied {d : Shard} {y : MqSess} {w : State} (state : x.state = .receiving)
    (index : d.index = x.nextIdx)
    (intact : d.intact = true) (round : d.round ≤ 32) (kind : kindAllowed x.stage d.kind = true)
    (nsid : d.kind = 2 ∨ d.nsid = 0) (applied : applyShard t x d u = .inl (y, w)) :
    importWrite t d x u = finishWrite t (setSess { y with
      stage := stageAfter d.kind, nextIdx := x.nextIdx + 1, round := d.round, shards := x.shards + 1,
      chain := chainNext x.chain d.digest } w) := by
  unfold importWrite
  have allowed : ¬ (32 < d.round ∨ kindAllowed x.stage d.kind = false ∨ (d.kind ≠ 2 ∧ d.nsid ≠ 0)) := by
    rintro (late | other | ⟨plain, named⟩)
    · exact absurd round (Nat.not_le.mpr late)
    · exact absurd (kind.symm.trans other) (by decide)
    · exact nsid.elim plain named
  rw [if_neg (by simp [state, index]), if_neg (by simp [intact]), if_neg allowed, applied]

/-- FINISH with a manifest that matches stages the tenant. -/
theorem finishImport_stages {m : Manifest} (there : x ∈ u.mqt.sess) (state : x.state = .receiving)
    (fields : manifestFields m = true) (fits : manifestMatches u x m = true) :
    (∃ y ∈ (finishImport t m x u).mqt.sess, y.id = x.id ∧ y.state = .staged ∧ y.manifest = sha m.bytes ∧
      y.svn = m.sourceSvn) ∧ (finishImport t m x u).media = u.media := by
  obtain ⟨mqt, media⟩ := removeNss_kept (x.nss.filter fun n => !x.todo.contains n) u
  unfold finishImport
  rw [if_neg (not_not_intro state), if_neg (by rw [fields]; decide), if_neg (by rw [fits]; decide)]
  dsimp only
  rw [finish_mqt, mqEvent_mqt, (markDelta_same _).field .mqt rfl, mqChanged_mqt]
  refine ⟨⟨_, setSess_mem (x := x) (by rw [mqt]; exact there) rfl rfl rfl, rfl, rfl, rfl, rfl⟩, ?_⟩
  rw [(finish_same _ _ _).field .media rfl, (mqEvent_same _ _ _ _).field .media rfl,
    (markDelta_same _).field .media rfl,
    (mqChanged_same _ _).field .media rfl, (setSess_same _ _).field .media rfl, media]

end

end Sys2Proof.Machine

open Sys2Proof Sys2Proof.Machine

/-- Settles O48: BEGIN, WRITE and FINISH change the session they name; the namespaces of an activated tenant stay active
while its controller is restored; those of a discarded one are gone with their map entries. -/
theorem importCommandsComplete : Obligations.ImportCommandsComplete := by
  refine ⟨?_, ?_, ?_, ?_, ?_, ?_⟩
  · intro p q c s u vf n h id start virtual length cert short sized' online writable holder sanitize full target xport
      certs free
    have checks : ¬ (vf = 0 ∨ n = 0 ∨ h.devidCertLen = 0 ∨ 8192 < h.devidCertLen ∨ n.toNat ≠ 0x1CF0 + h.devidCertLen)
        := by
      rintro (h | h | h | h | h)
      · exact virtual h
      · exact length h
      · exact cert h
      · exact absurd short (Nat.not_le.mpr h)
      · exact h sized'
    refine ⟨_, maquette_start _ start ((if_neg checks).trans ((if_neg (by rw [online]; decide)).trans
      ((if_neg ?_).trans (if_neg ?_)))), beginImport_opens full free, ?_⟩
    · rw [writable, holder, sanitize, full, if_neg (by decide), show mqPf ⟨.fn ⟨p, 0⟩, q, c⟩ = p from rfl, target]
      decide
    · rw [certs]
      simp [xport]
    · exact (beginImport_same _ _ _ _).field .media rfl
  · intro p q c s u i x n d y w start length short found state index intact round kind nsid applied
    have sized : ¬ (n = 0 ∨ 1048688 < n.toNat) := fun h => h.elim length (Nat.not_lt.mpr short)
    exact maquette_start _ start ((if_neg sized).trans ((withSess_found _ found).trans
      (importWrite_applied state index intact round kind nsid applied)))
  · intro p q c s u i x n d start length short found state index damaged
    have sized : ¬ (n = 0 ∨ 1048688 < n.toNat) := fun h => h.elim length (Nat.not_lt.mpr short)
    exact maquette_start _ start ((if_neg sized).trans ((withSess_found _ found).trans
      ((if_neg (by simp [state, index])).trans (if_pos (by rw [damaged]; rfl)))))
  · intro p q c s u i x m start found state fields fits
    obtain ⟨⟨y, mem, id, staged, manifest, svn⟩, media⟩ := finishImport_stages (t := ⟨.fn ⟨p, 0⟩, q, c⟩)
      (List.mem_of_find?_eq_some found) state fields fits
    exact ⟨_, y, maquette_start _ start ((if_neg (not_not_intro rfl)).trans (withSess_found _ found)), mem, id, staged,
      manifest, svn, media⟩
  · intro p q c s u i x start found state online bme mode vf disabled
    obtain ⟨gone, active⟩ := activate_ends ⟨.fn ⟨p, 0⟩, q, c⟩ x u
    refine ⟨_, maquette_start _ start ((withSess_found _ found).trans ((if_neg (not_not_intro state)).trans
      ((if_neg (by rw [online]; decide)).trans (if_neg ?_)))), gone, active, (activate_same _ _ _).field .media rfl⟩
    simp [bme, mode, vf, disabled]
  · intro p q c s u i x start found
    obtain ⟨gone, removed, media⟩ := discardImport_ends x u
    refine ⟨_, maquette_start _ start (withSess_found _ found), ?_, fun k mem => ?_, ?_⟩
    · rw [finish_mqt]
      exact gone
    · exact NsGone.of_same (finish_same _ .success _) rfl (removed k mem)
    · exact ((finish_same _ .success _).field .media rfl).trans media
end

section
/-! SUPPORT. The management path: responses, MCTP packets and NVMe-MI requests (R570 to R573, R578, R579, R585). -/
namespace Sys2Proof.Machine

section
variable {s u : State}

/-- A response of the path is among the outputs. -/
theorem mgtRespond_out (o : Output) (s : State) : o ∈ (mgtRespond o s).out := by
  unfold mgtRespond
  split
  · exact List.mem_append_right _ (List.mem_singleton.mpr rfl)
  · exact List.mem_append_left _ (List.mem_append_right _ (List.mem_singleton.mpr rfl))

theorem mgtRespond_mgt (o : Output) (s : State) : (mgtRespond o s).mgt = s.mgt := (mgtRespond_same o s).field .mgt rfl

/-- Following the alert adds outputs only. -/
theorem alertFollow_out {o : Output} (was : Bool) (there : o ∈ s.out) : o ∈ (alertFollow was s).out := by
  unfold alertFollow
  split
  · exact there
  · exact List.mem_append_left _ there

/-- While firmware is fully up the recovery interface is not presented. -/
theorem fullyUp_unpresented (up : fullyUp s = true) : rcvPresented s = false := by
  have phase : s.boot.phase = .firmware := by
    unfold fullyUp running firmwareUp at up
    simp only [Bool.and_eq_true, decide_eq_true_eq] at up
    exact up.1.1.2
  unfold rcvPresented
  simp [phase]

theorem presented_unready (rcv : rcvPresented s = true) : fullyUp s = false := by
  cases up : fullyUp s with
  | false => rfl
  | true => exact absurd (rcv.symm.trans (fullyUp_unpresented up)) (by decide)

/-! ## NVMe-MI -/

/-- A request that needs no firmware, outside Recovery and Option Fault. -/
theorem miPlain_runs {slot : Nat} (k : State → State) (up : mgtUp s = true) (rcv : rcvPresented s = false) :
    miPlain slot k s = k s := by
  unfold miPlain
  rw [if_neg (by rw [up]; decide), if_neg (by rw [rcv]; decide)]

/-- A request that waits for firmware runs when nothing is held. -/
theorem mgtRequest_ready (i : Held) (slot : Nat) (refused k : State → State) (up : fullyUp s = true)
    (held : s.mgt.held = []) :
    mgtRequest i slot refused k s = k s := mgtRequest_start i slot refused k (by rw [up, held]; rfl)

/-- The bytes of a health poll's answer (R585). -/
def healthBytes (s : State) : Bytes :=
  leBytes 1 (miSubsystemStatus s).toNat ++ leBytes 1 s.mgt.snapWarn.toNat ++ leBytes 1 (draw 8 s).toNat
    ++ leBytes 1 (Config.freeBits 8 (s.free + 1)).toNat ++ le16 (fieldOf 0 16 s.mgt.hscSet).toNat ++ le16 0

theorem healthBytes_length (s : State) : (healthBytes s).length = 8 := by simp [healthBytes, le16]

/-- A health poll answers its bytes and, with Clear Status, clears the change bits. -/
theorem healthPoll_answers (n : Nat) (clear : Bool) (up : mgtUp s = true) : exec (.miSubsystemHealthPoll n clear) s =
    .next (if clear then alertFollow (hscAlert (mgtRespond (.mi n 0x00 (healthBytes s)) (drawn 2 s)))
        { mgtRespond (.mi n 0x00 (healthBytes s)) (drawn 2 s) with mgt.hscSet := 0 }
      else mgtRespond (.mi n 0x00 (healthBytes s)) (drawn 2 s)) :=
  congrArg Host.Outcome.next (if_neg (by rw [up]; decide))

/-- What Clear Status does to a state: the response stays among the outputs, the change bits are gone. -/
theorem clearStatus_clears {o : Output} (was : Bool) (there : o ∈ s.out) :
    o ∈ (alertFollow was { s with mgt.hscSet := 0 }).out ∧ (alertFollow was { s with mgt.hscSet := 0 }).mgt.hscSet = 0 ∧
    Same [.mgt, .out] s (alertFollow was { s with mgt.hscSet := 0 }) := by
  refine ⟨alertFollow_out was there, by rw [alertFollow_mgt], ?_⟩
  exact Same.call (alertFollow_same _ _) (by decide) (Same.put (Same.refl _ _) rfl)

theorem responded_same (o : Output) (n : Nat) (s : State) : Same [.out, .free] s (mgtRespond o (drawn n s)) :=
  Same.call (mgtRespond_same _ _) (by decide) (Same.widen (by decide) (drawn_same n s))

/-- The bytes of a controller health poll's answer (R585). -/
def controllerBytes (s : State) (start n : Nat) : Bytes :=
  leBytes 1 ((snapControllers s start).take n).length ++ leBytes 3 0 ++
    ((snapControllers s start).take n).flatMap (miHealthEntry s)

theorem controllerBytes_head (s : State) (start n : Nat) :
    (controllerBytes s start n).head? = some (BitVec.ofNat 8 (min n (snapControllers s start).length)) := by
  unfold controllerBytes
  rw [List.length_take]
  rfl

/-- Configuration Set of the health status: the named bits go, the others are enabled. -/
theorem configSet_health (n : Nat) (v : W32) (s : State) : (configSet n 2 v s).mgt.hscEnable = v >>> 16 ∧
    (configSet n 2 v s).mgt.hscSet = s.mgt.hscSet &&& ~~~(v &&& 0xFFFF) := by
  have taken : configSet n 2 v s = mgtRespond (.mi n 0x00 []) (alertFollow (hscAlert s) { s with
      mgt.hscSet := s.mgt.hscSet &&& ~~~(v &&& 0xFFFF), mgt.hscEnable := v >>> 16 }) :=
    (if_neg (by decide)).trans (if_pos rfl)
  rw [taken, mgtRespond_mgt, alertFollow_mgt]
  exact ⟨rfl, rfl⟩

/-- The snapshot of the unit states and its generation stay while mismatches are reported. -/
theorem noteMismatches_snap : ∀ (l : List Nat) (s : State), (l.foldl (fun s u => noteMismatch u s) s).mgt.snap =
    s.mgt.snap ∧
    (l.foldl (fun s u => noteMismatch u s) s).mgt.snapGen = s.mgt.snapGen
  | [], _ => ⟨rfl, rfl⟩
  | u :: l, s => by
    have told : (noteMismatch u s).mgt = { s.mgt with mismatches := satAdd s.mgt.mismatches 1 } :=
      ((event_same _ _ _ _).field .mgt rfl).trans ((evsSet_same _ _).field .mgt rfl)
    obtain ⟨snap, gen⟩ := noteMismatches_snap l (noteMismatch u s)
    have snap' : (noteMismatch u s).mgt.snap = s.mgt.snap := by rw [told]
    have gen' : (noteMismatch u s).mgt.snapGen = s.mgt.snapGen := by rw [told]
    exact ⟨snap.trans snap', gen.trans gen'⟩

end

end Sys2Proof.Machine

open Sys2Proof Sys2Proof.Machine

/-- Settles O51: each request passes its guard and ends in one response, after the change that its row names. -/
theorem miCommandsComplete : Obligations.MiCommandsComplete := by
  have nonzero {k : W16} (h : k ≠ 0) : k.toNat ≠ 0 := fun z => h (BitVec.eq_of_toNat_eq z)
  refine ⟨?_, ?_, ?_, ?_, ?_, ?_, ?_, ?_, ?_, ?_, ?_, ?_, ?_, ?_, ?_, ?_⟩
  · intro s n d p c b up found
    show execMiReadDataStructure n d p c s = _
    unfold execMiReadDataStructure
    rw [if_neg (by rw [up]; decide), found]
    rfl
  · intro s n up
    obtain ⟨out, cleared, same⟩ := clearStatus_clears (hscAlert (mgtRespond (.mi n 0x00 (healthBytes s)) (drawn 2 s)))
      (mgtRespond_out (.mi n 0x00 (healthBytes s)) (drawn 2 s))
    refine ⟨_, healthBytes s, (healthPoll_answers n true up).trans (congrArg Host.Outcome.next (if_pos rfl)), out,
      healthBytes_length s, rfl, cleared, ?_⟩
    exact Same.call same (by decide) (Same.widen (by decide) (responded_same _ 2 s))
  · intro s n up
    exact ⟨_, healthBytes s, (healthPoll_answers n false up).trans (congrArg Host.Outcome.next (if_neg (by decide))),
      mgtRespond_out _ _, mgtRespond_mgt _ _, responded_same _ 2 s⟩
  · intro s n a m up rcv
    exact ⟨mgtRespond (.mi n 0x00 (controllerBytes s a.toNat (min m 256))) (drawn 257 s), _,
      congrArg Host.Outcome.next (miPlain_runs _ up rcv), mgtRespond_out _ _,
        controllerBytes_head s a.toNat (min m 256),
      responded_same _ 257 s⟩
  · intro s n v k up rcv freq
    have set : configSet n 1 v s = mgtRespond (.mi n 0x00 []) { s with mgt.freqKhz := k } := by
      unfold configSet
      rw [if_pos rfl, freq]
      rfl
    refine ⟨_, congrArg Host.Outcome.next ((miPlain_runs _ up rcv).trans set), ?_, mgtRespond_out _ _⟩
    rw [mgtRespond_mgt]
  · intro s n v up rcv
    exact ⟨_, congrArg Host.Outcome.next (miPlain_runs _ up rcv), configSet_health n v s⟩
  · intro s n v up rcv allowed
    have set : configSet n 3 v s = mgtRespond (.mi n 0x00 []) { s with mgt.mtu := v.toNat } :=
      (if_neg (by decide)).trans ((if_neg (by decide)).trans ((if_pos rfl).trans (if_pos allowed)))
    refine ⟨_, congrArg Host.Outcome.next ((miPlain_runs _ up rcv).trans set), ?_⟩
    rw [mgtRespond_mgt]
  · intro s n i v up rcv found
    show execMiConfigurationGet n i s = _
    unfold execMiConfigurationGet
    rw [miPlain_runs _ up rcv, found]
    rfl
  · intro s n o k up held nonempty inside
    exact congrArg Host.Outcome.next ((mgtRequest_ready _ _ _ _ up held).trans
      ((if_neg (nonzero nonempty)).trans (if_neg (Nat.not_lt.mpr inside))))
  · intro s n o k d up held unlocked nonempty inside sized store
    have stored : vpdWrite n o.toNat k.toNat d true s =
        mgtRespond (.mi n 0x00 []) (storeRecord (.vpd (patch o.toNat d (vpdBytes s))) true s) := by
      unfold vpdWrite
      rw [if_neg (by rw [unlocked]; decide), if_neg (Nat.not_lt.mpr inside), if_neg (nonzero nonempty),
        if_neg (not_not_intro sized)]
      dsimp only
      rw [store]
      rfl
    refine ⟨_, congrArg Host.Outcome.next ((mgtRequest_ready _ _ _ _ up held).trans stored), ?_, mgtRespond_out _ _⟩
    exact (mgtRespond_same _ _).field .cfg rfl
  · intro s n o k d b up held locked
    exact ⟨_, congrArg Host.Outcome.next ((mgtRequest_ready _ _ _ _ up held).trans (if_pos locked)),
      (mgtRespond_same _ _).field .cfg rfl, mgtRespond_out _ _⟩
  · intro s n up held
    exact congrArg Host.Outcome.next (mgtRequest_ready _ _ _ _ up held)
  · intro s n o k waits
    have parts : rcvPresented s = false ∧ fullyUp s = false := by
      unfold restarting at waits
      simp only [Bool.and_eq_true, Bool.not_eq_true'] at waits
      exact ⟨waits.1.2, waits.2⟩
    obtain ⟨rcv, up⟩ := parts
    refine ⟨_, congrArg Host.Outcome.next ((if_neg (by simp [up])).trans ((if_neg (by rw [rcv]; decide)).trans
      (if_pos (by rw [waits]; rfl)))), ?_, mgtRespond_out _ _⟩
    rw [mgtRespond_mgt]
  · intro s n o k rcv
    exact congrArg Host.Outcome.next ((if_neg (by simp [presented_unready rcv])).trans (if_pos rcv))
  · intro s up first
    show execSnapshotCopy s = _
    unfold execSnapshotCopy
    dsimp only
    rw [if_neg (by rw [up]; decide), first]
    rfl
  · intro s up
    exact ⟨_, congrArg Host.Outcome.next (if_neg (by rw [up]; decide)), noteMismatches_snap _ _⟩
end

section
/-! SUPPORT. MCTP packets and control messages (R570 to R572). -/
namespace Sys2Proof.Machine

section
variable {s : State} {k : MctpPkt}

/-- A packet that passed its check and is addressed to the endpoint is taken. -/
theorem mctpPacket_taken (up : mgtUp s = true) (intact : k.integrityOk = true) (addr : addressed s k = true) :
    exec (.mctpPacket k) s = .next (takePacket k s) :=
  congrArg Host.Outcome.next ((if_neg (by rw [up]; decide)).trans ((if_neg (by rw [intact]; decide)).trans
    (if_neg (by rw [addr]; decide))))

/-- With nothing to assemble, nothing to forget. -/
theorem noAsm_same (idle : s.mgt.asm = none) : { s with mgt.asm := none } = s := by
  rw [← idle]

/-- A first packet with no message half received. -/
theorem takePacket_first (first : k.som = true) (short : k.length ≤ 4224) (idle : s.mgt.asm = none) :
    takePacket k s = if k.eom then answerMsg k.mtype k.head s
      else { s with mgt.asm := some { seq := k.seq, length := k.length, mtype := k.mtype, head := k.head, broken := false } } := by
  have kept : dropUnfinished s = s := by
    unfold dropUnfinished
    rw [idle]
  unfold takePacket
  rw [if_pos first, kept]
  unfold joinMsg
  rw [if_neg (Nat.not_lt.mpr short), noAsm_same idle]

/-- A message without a request code is not answered. -/
theorem answerMsg_short (t : MctpType) {head : Bytes} (short : head.length < 2) (s : State) : answerMsg t head s =
    s := by
  cases t with
  | control => exact if_pos (.inl short)
  | nvmeMi => exact if_pos (by omega)
  | spdm => exact if_pos (.inl short)
  | securedSpdm => exact if_pos (.inl short)
  | vendorPci => exact if_neg (by omega)
  | other => rfl

/-- A message that breaks while it is assembled counts once. -/
theorem breakMsg_counts {a : MctpAsm} (asm : s.mgt.asm = some a) (whole : a.broken = false) :
    (breakMsg k s).mgt.droppedMsgs = satAdd s.mgt.droppedMsgs 1 := by
  unfold breakMsg
  rw [asm]
  dsimp only
  rw [if_neg (by rw [whole]; decide)]
  rfl

/-- Whatever breaks, the count of failed checks stays. -/
theorem breakMsg_pec (k : MctpPkt) (s : State) : (breakMsg k s).mgt.pecErrors = s.mgt.pecErrors := by
  unfold breakMsg
  split
  · split <;> rfl
  · rfl

/-- A control message is answered. -/
theorem control_answers (b : State → Bytes) (up : mgtUp s = true) : control b s = mgtRespond (.mctp (b s)) s :=
    if_pos up

end

end Sys2Proof.Machine

open Sys2Proof Sys2Proof.Machine

/-- Settles O49: a packet is dropped with its count, joins its message or completes it, and a control message is one
response. -/
theorem mctpCommandsComplete : Obligations.MctpCommandsComplete := by
  refine ⟨?_, ?_, ?_, ?_, ?_, ?_, ?_, ?_, ?_, ?_, ?_, ?_, ?_⟩
  · intro s k up intact addr som eom short idle bare
    rw [mctpPacket_taken up intact addr, takePacket_first som short idle, if_pos eom, answerMsg_short _ bare]
  · intro s k up intact addr som eom short idle type code unlisted
    rw [mctpPacket_taken up intact addr, takePacket_first som short idle, if_pos eom, type]
    exact congrArg Host.Outcome.next (if_neg (by omega))
  · intro s k up intact addr som eom short idle type code ready unlisted
    rw [mctpPacket_taken up intact addr, takePacket_first som short idle, if_pos eom, type]
    refine congrArg Host.Outcome.next (if_neg ?_)
    rw [ready, unlisted]
    simp only [Bool.true_eq_false, Bool.false_eq_true, or_false, Nat.not_lt]
    exact code
  · intro s k up intact addr som eom short idle
    refine ⟨_, mctpPacket_taken up intact addr, ?_⟩
    rw [takePacket_first som short idle, if_neg (by rw [eom]; decide)]
    exact ⟨rfl, Same.put (Same.refl _ _) rfl⟩
  · intro s k a up intact addr som asm whole out
    have broken : takePacket k s = breakMsg k s := by
      unfold takePacket
      rw [if_neg (by rw [som]; decide), asm]
      exact if_pos (by rw [whole, decide_eq_false out]; rfl)
    refine ⟨_, mctpPacket_taken up intact addr, ?_⟩
    rw [broken]
    exact ⟨breakMsg_counts asm whole, breakMsg_same k s⟩
  · intro s k up bad
    refine ⟨_, congrArg Host.Outcome.next ((if_neg (by rw [up]; decide)).trans (if_pos (by rw [bad]; rfl))), ?_, ?_⟩
    · rw [breakMsg_pec]
      rfl
    · exact Same.call (breakMsg_same k _) (by decide) (Same.call (evsSet_same _ _) (by decide)
        (Same.put (Same.refl _ _) rfl))
  · intro s o e up op low high
    have set : exec (.mctpSetEndpointId o e) s =
        .next (mgtRespond (.mctp [0x00, 0x00, e, 0x00]) { s with mgt.eid := e }) :=
      congrArg Host.Outcome.next ((if_neg (by rw [up]; decide)).trans ((if_pos ⟨op, low, high⟩).trans (if_pos up)))
    refine ⟨_, set, ?_, mgtRespond_out _ _, Same.call (mgtRespond_same _ _) (by decide) (Same.put (Same.refl _ _) rfl)⟩
    rw [mgtRespond_mgt]
  · intro s up
    exact congrArg Host.Outcome.next (control_answers _ up)
  · intro s up
    refine ⟨_, _, congrArg Host.Outcome.next (control_answers _ up), mgtRespond_out _ _, ?_, mgtRespond_same _ s⟩
    simp [padTo]
    omega
  · intro s y up
    exact congrArg Host.Outcome.next (control_answers _ up)
  · intro s up
    exact congrArg Host.Outcome.next (control_answers _ up)
  · intro s up
    simp [mctpTypes, up, fullyUp_unpresented up]
  · intro s rcv
    simp [mctpTypes, rcv, presented_unready rcv]
end

section
/-! SUPPORT. The trace port: its enable, SYNC packets and snapshots (R589, R590, R592, R594, R595). -/
namespace Sys2Proof.Machine

section
variable {s : State}

/-- A SYNC packet joins the FIFO of an active port that has lost nothing. -/
theorem kscSyncPacket_joins (active : s.ksc.active = true) (kept : s.ksc.lostRun = 0) :
    ∃ p, (kscSyncPacket s).ksc = { s.ksc with fifo := s.ksc.fifo ++ [p] } ∧ p.type = 0x01 ∧ p.payload.length = 12 ∧
      p.payload.drop 8 = leBytes 4 s.boot.bootIndex.toNat ∧ Same [.ksc, .free] s (kscSyncPacket s) := by
  have joined : kscPut ⟨0x01, leBytes 8 (draw 64 s).toNat ++ leBytes 4 s.boot.bootIndex.toNat⟩ s =
      { s with ksc.fifo := s.ksc.fifo ++ [⟨0x01, leBytes 8 (draw 64 s).toNat ++ leBytes 4 s.boot.bootIndex.toNat⟩] } :=
    (if_neg (by rw [active]; decide)).trans ((if_neg (by simp [kscReserved])).trans (if_pos kept))
  refine ⟨⟨0x01, leBytes 8 (draw 64 s).toNat ++ leBytes 4 s.boot.bootIndex.toNat⟩, ?_, rfl, by simp, ?_, ?_⟩
  · unfold kscSyncPacket
    rw [joined]
    rfl
  · exact List.drop_left' (leBytes_length 8 _)
  · unfold kscSyncPacket
    rw [joined]
    exact Same.call (drawn_same _ _) (by decide) (Same.put (Same.refl _ _) rfl)

/-- A port that may not run stops and empties. -/
theorem kscFollow_stops (barred : kscAllowed s = false) :
    kscFollow s = { s with ksc.active := false, ksc.fifo := [], ksc.lostRun := 0 } := if_neg (by rw [barred]; decide)

/-- A packet keeps the snapshot. -/
theorem kscPut_snap (p : KscPkt) (s : State) : (kscPut p s).ksc.snap = s.ksc.snap ∧
    (kscPut p s).ksc.snapIndex = s.ksc.snapIndex := by
  unfold kscPut
  split
  · exact ⟨rfl, rfl⟩
  · split
    · exact ⟨rfl, rfl⟩
    · split <;> exact ⟨rfl, rfl⟩

/-- A snapshot holds the values it took. -/
theorem takeSnap_takes (s : State) : (takeSnap s).ksc.snap = snapValues s ∧
    (takeSnap s).ksc.snapIndex = s.ksc.snapIndex + 1 := by
  have put (c : Nat) (p : KscPkt) (v : State) : (kscPutClass c p v).ksc.snap = v.ksc.snap ∧
      (kscPutClass c p v).ksc.snapIndex = v.ksc.snapIndex := by
    unfold kscPutClass
    split
    · exact kscPut_snap p v
    · exact ⟨rfl, rfl⟩
  exact put _ _ _

end

end Sys2Proof.Machine

open Sys2Proof Sys2Proof.Machine

/-- Settles O52: the port follows its enable, and what it sends leaves the snapshot as it was taken. -/
theorem kaleidoscopeCommandsComplete : Obligations.KaleidoscopeCommandsComplete := by
  refine ⟨?_, ?_, ?_, ?_, ?_, ?_, ?_⟩
  · intro s runs
    have stopped := kscFollow_stops (s := { s with ksc := { s.ksc with enable := false } }) (Bool.and_false _)
    refine ⟨_, congrArg Host.Outcome.next ((if_pos runs).trans stopped), rfl, rfl, rfl,
      Same.put (Same.put (Same.refl _ _) rfl) rfl⟩
  · intro s runs allowed idle lost empty
    obtain ⟨p, ksc, type, -, -, same⟩ := kscSyncPacket_joins (s := { s with ksc := { s.ksc with
      enable := true, active := true } }) rfl lost
    have started : setKscEnable true s = kscSyncPacket { s with ksc := { s.ksc with enable := true, active := true } } :=
      (if_pos allowed).trans (if_neg (by rw [idle]; decide))
    refine ⟨_, p, congrArg Host.Outcome.next ((if_pos runs).trans started), ?_, ?_, ?_, type,
      Same.call same (by decide) (Same.put (Same.refl _ _) rfl)⟩
    · rw [ksc]
    · rw [ksc]
    · rw [ksc]
      show s.ksc.fifo ++ [p] = [p]
      rw [empty]
      rfl
  · intro s runs strap
    have barred : kscAllowed { s with ksc := { s.ksc with enable := true } } = false := by
      unfold kscAllowed
      rw [strap]
      rfl
    exact ⟨_, congrArg Host.Outcome.next ((if_pos runs).trans (kscFollow_stops barred)), rfl, rfl,
      Same.put (Same.put (Same.refl _ _) rfl) rfl⟩
  · intro s runs
    obtain ⟨snap, index⟩ := takeSnap_takes s
    exact ⟨_, congrArg Host.Outcome.next (if_pos runs), snap, index, takeSnap_same s⟩
  · intro s runs
    obtain ⟨snap, index⟩ := takeSnap_takes s
    exact ⟨_, congrArg Host.Outcome.next (if_neg (by rw [runs]; decide)), snap, index, takeSnap_same s⟩
  · intro s active lost
    obtain ⟨p, ksc, type, length, boot, same⟩ := kscSyncPacket_joins active lost
    exact ⟨_, p, congrArg Host.Outcome.next (if_pos active), by rw [ksc], type, length, boot, same⟩
  · intro s idle
    exact congrArg Host.Outcome.next (if_neg (by rw [idle]; decide))
end

section
/-! SUPPORT. Checkpoints, journal segments and the end of the restart (R517 to R525, R529). -/
namespace Sys2Proof.Machine

section
variable {s : State}

/-- A trigger starts a checkpoint when none runs. -/
theorem triggerCkpt_starts (idle : s.hold.ckptRun = none) : triggerCkpt s = startCkpt s := if_neg (by rw [idle]; decide)

/-- A checkpoint that runs keeps a trigger for the next one. -/
theorem triggerCkpt_queues (runs : s.hold.ckptRun ≠ none) :
    triggerCkpt s = { s with hold := { s.hold with ckptNext := true } } :=
  if_pos (Option.isSome_iff_ne_none.mpr runs)

/-- What a started checkpoint holds. -/
theorem startCkpt_holds (s : State) : (startCkpt s).hold = { s.hold with
    ckptRun := some { epoch := s.hold.epochMax + 1, tab := s.tab, stores := ckptStores s (s.hold.epochMax + 1) },
    epochMax := s.hold.epochMax + 1, segNew := 0, ckptNext := false } := rfl

/-- The checkpoints kept and the segments after a checkpoint commits. -/
def ckptKept (c : Ckpt) (s : State) : State :=
  { s with hold.ckpts := (c :: s.hold.ckpts).take 2, hold.ckptRun := none, hold.segments := s.hold.segNew,
           hold.segTab := if s.hold.segNew = 0 then some c.tab else s.hold.segTab }

/-- A checkpoint that commits with no trigger waiting. -/
theorem commitCkpt_ends (c : Ckpt) (next : s.hold.ckptNext = false) : commitCkpt c s =
    replaceStores (Store.before ((s.hold.ckpts.head?.map (·.epoch)).getD c.epoch)) c.stores (ckptKept c s) := by
  have last (e : W32) : (if (replaceStores (Store.before e) c.stores (ckptKept c s)).hold.ckptNext then
      startCkpt (replaceStores (Store.before e) c.stores (ckptKept c s))
      else replaceStores (Store.before e) c.stores (ckptKept c s)) = replaceStores (Store.before e) c.stores
        (ckptKept c s) :=
    if_neg (by
      show ¬ s.hold.ckptNext = true
      rw [next]
      decide)
  unfold commitCkpt
  cases kept : s.hold.ckpts with
  | nil =>
    have shape := last c.epoch
    unfold ckptKept at shape ⊢
    rw [kept] at shape ⊢
    exact shape
  | cons p l =>
    have shape := last p.epoch
    unfold ckptKept at shape ⊢
    rw [kept] at shape ⊢
    exact shape

/-- Every segment that commits joins the stores. -/
theorem keepStores (l : List Store) (s : State) :
    replaceStores (fun _ => false) l s = { s with media.stores := s.media.stores ++ l } := by
  have all : (s.media.stores.filter fun x => !(fun _ => false) x) = s.media.stores :=
    List.filter_eq_self.mpr fun _ _ => rfl
  unfold replaceStores
  rw [all]

/-- The dump is used up and the controllers are ready. -/
def dumpUsedUp (e : RestartEnv) (s : State) : State :=
  controllersReady { noteLimit (limitMib s) (markDelta (replaceStores Store.dumped [] { s with
    hold.dump := none, hold.dumpCapMib := dumpCap s })) with hold.restarted := true, hold.restartMs := e.restartMs }

theorem dumpUsedUp_hold (e : RestartEnv) (s : State) : (dumpUsedUp e s).hold.restarted = true ∧
    (dumpUsedUp e s).hold.dump = none ∧ (dumpUsedUp e s).hold.restartMs = e.restartMs := by
  have ready (v : State) : (controllersReady v).hold = v.hold := (controllersReady_same v).field .hold rfl
  have limit (n : Nat) (v : State) : (noteLimit n v).hold = v.hold := (noteLimit_same n v).field .hold rfl
  unfold dumpUsedUp
  rw [ready]
  exact ⟨rfl, congrArg Hold.dump (limit _ _), rfl⟩

theorem finishRestart_shape (e : RestartEnv) (s : State) : finishRestart e s = noteRestartDone (startCkpt (dumpUsedUp e
    (packRestored (s.ftl.cache.length + 1) (commitOpen (eraseMarked s))))) := rfl

theorem restart_finishes (e : RestartEnv) (s : State) : ∃ v, restart e s = finishRestart e v := by
  unfold restart
  exact ⟨_, rfl⟩

/-- What RESTART_DONE leaves. -/
theorem noteRestartDone_ends (restarted : s.hold.restarted = true) : (noteRestartDone s).hold.restarted = true ∧
    (noteRestartDone s).hold.dump = s.hold.dump ∧ (noteRestartDone s).hold.ckptRun = s.hold.ckptRun ∧
    (noteRestartDone s).hold.restartMs = s.hold.restartMs ∧
    ((noteRestartDone s).ftl.resync = false → (noteRestartDone s).hold.restartDone = true) := by
  unfold noteRestartDone
  split
  · exact ⟨restarted, rfl, rfl, rfl, fun _ => rfl⟩
  · next held => exact ⟨restarted, rfl, rfl, rfl, fun idle => by simpa [restarted, idle] using held⟩

/-- The last step of the restart: the dump is used up, a checkpoint runs, and RESTART_DONE follows unless a
resynchronisation
is left. -/
theorem finishRestart_ends (e : RestartEnv) (s : State) : (finishRestart e s).hold.restarted = true ∧
    (finishRestart e s).hold.dump = none ∧ (finishRestart e s).hold.ckptRun ≠ none ∧
    (finishRestart e s).hold.restartMs = e.restartMs ∧
    ((finishRestart e s).ftl.resync = false → (finishRestart e s).hold.restartDone = true) := by
  rw [finishRestart_shape]
  generalize packRestored (s.ftl.cache.length + 1) (commitOpen (eraseMarked s)) = v
  obtain ⟨restarted, dump, ms⟩ := dumpUsedUp_hold e v
  obtain ⟨restarted', dump', run, ms', done⟩ := noteRestartDone_ends (s := startCkpt (dumpUsedUp e v)) restarted
  refine ⟨restarted', dump'.trans dump, ?_, ms'.trans ms, done⟩
  rw [run]
  exact Option.some_ne_none _

end

end Sys2Proof.Machine

open Sys2Proof Sys2Proof.Machine

/-- Settles O46: a started checkpoint holds the tables of its state; what commits joins the stores on media; the
restart ends
with `finishRestart`, whatever it restored before. -/
theorem checkpointsAndRestartComplete : Obligations.CheckpointsAndRestartComplete := by
  refine ⟨?_, ?_, ?_, ?_, ?_, ?_, ?_, ?_, ?_, ?_⟩
  · intro s w runs restarted idle
    exact ⟨startCkpt s, congrArg Host.Outcome.next ((if_pos (by rw [runs, restarted]; rfl)).trans
        (triggerCkpt_starts idle)),
      rfl, rfl, rfl, startCkpt_same s⟩
  · intro s w runs restarted busy
    exact congrArg Host.Outcome.next ((if_pos (by rw [runs, restarted]; rfl)).trans (triggerCkpt_queues busy))
  · intro s c runs running' next
    refine ⟨replaceStores (Store.before ((s.hold.ckpts.head?.map (·.epoch)).getD c.epoch)) c.stores (ckptKept c s), ?_,
      rfl, rfl, rfl, rfl, Same.call (replaceStores_same _ _ _) (by decide) (Same.put (Same.refl _ _) rfl)⟩
    show execCheckpointCommit true s = _
    unfold execCheckpointCommit
    rw [running']
    dsimp only
    rw [if_neg (by rw [runs]; decide), if_pos rfl, commitCkpt_ends c next]
  · intro s c runs running'
    refine ⟨evsSet 226 { s with hold.ckptFails := satAdd s.hold.ckptFails 1 }, ?_, rfl, running', rfl, rfl⟩
    show execCheckpointCommit false s = _
    unfold execCheckpointCommit
    rw [running']
    dsimp only
    rw [if_neg (by rw [runs]; decide), if_neg (by decide)]
  · intro s w runs restarted idle dirty
    exact congrArg Host.Outcome.next ((if_pos (by rw [runs, restarted]; rfl)).trans
      (if_neg (by rw [idle, dirty]; decide)))
  · intro s w clean
    refine congrArg Host.Outcome.next ?_
    split
    · exact if_pos (by rw [clean]; exact Bool.or_true _)
    · rfl
  · intro s x runs writing
    refine ⟨drawn 1 { s with
      hold.segTab := some x, hold.segRun := none, hold.segments := satAdd s.hold.segments 1,
      hold.segNew := satAdd s.hold.segNew 1, media.stores := s.media.stores ++ [segmentStore s] }, ?_, rfl, rfl, rfl,
        rfl,
      Same.call (drawn_same _ _) (by decide) (Same.put (Same.put (Same.refl _ _) rfl) rfl)⟩
    show execSegmentCommit true s = _
    unfold execSegmentCommit
    rw [writing]
    dsimp only
    rw [if_neg (by rw [runs]; decide), if_pos rfl, keepStores]
  · intro s x runs writing
    show execSegmentCommit false s = _
    unfold execSegmentCommit
    rw [writing]
    dsimp only
    rw [if_neg (by rw [runs]; decide), if_neg (by decide)]
  · intro s e runs first
    obtain ⟨v, ends⟩ := restart_finishes e s
    exact ⟨_, congrArg Host.Outcome.next ((if_pos (by rw [runs, first]; rfl)).trans ends), finishRestart_ends e v⟩
  · intro s e restarted
    exact congrArg Host.Outcome.next (if_neg (by rw [restarted]; simp))
end

section
/-! SUPPORT. Writes of the register block by offset (R126, R389, R601, R602, R605 to R607). -/
namespace Sys2Proof.Machine

section
variable {s : State}

/-- While firmware runs the recovery interface is not presented. -/
theorem running_unpresented (up : running s = true) : rcvPresented s = false := by
  have phase : s.boot.phase = .firmware := by
    unfold running firmwareUp at up
    simp only [Bool.and_eq_true, decide_eq_true_eq] at up
    exact up.1.2
  unfold rcvPresented
  simp [phase]

/-! ## What a write by offset does -/

/-- A write that is no aligned word of the block, or that comes while firmware does not run, does nothing (R601,
R602). -/
theorem registerWrite_ignored (p : Pf) {o n : Nat} (v : W32) (rcv : rcvPresented s = false)
    (unfit : n ≠ 4 ∨ o % 4 ≠ 0 ∨ o < 0x01000000 ∨ running s = false) : exec (.registerWrite p o n v) s = .next s := by
  show execRegisterWrite p o n v s = _
  unfold execRegisterWrite
  rw [if_neg (by rw [rcv]; decide)]
  cases up : running s with
  | false => rfl
  | true =>
    have shape : (!decide (n = 4) || !decide (o % 4 = 0) || !decide (0x01000000 ≤ o)) = true := by
      simp only [up, Bool.true_eq_false, or_false] at unfit
      simp only [Bool.or_eq_true, Bool.not_eq_true', decide_eq_false_iff_not]
      omega
    rw [if_neg (by decide), List.foldl_nil, if_pos shape]

/-- While firmware runs an aligned word of the block is written as `writeReg` says. -/
theorem registerWrite_writes (p : Pf) (v : W32) (up : running s = true) {o : Nat} (aligned : o % 4 = 0) :
    exec (.registerWrite p (0x01000000 + o) 4 v) s = .next (writeReg p o v s) := by
  have word : (0x01000000 + o) % 4 = 0 := by omega
  show execRegisterWrite p (0x01000000 + o) 4 v s = _
  unfold execRegisterWrite
  rw [if_neg (by rw [running_unpresented up]; decide), if_neg (by rw [up]; decide), List.foldl_nil,
    Nat.add_sub_cancel_left]
  simp [word]

/-- A read in the cycle of a write leaves open who may write. -/
theorem readReg_running (v : State) (r : RegRead) :
    (running (readReg r v), rcvPresented (readReg r v)) = (running v, rcvPresented v) := by
  have kept := readReg_same r v
  unfold running firmwareUp rcvPresented
  rw [kept.field .pwr rfl, kept.field .boot rfl]

/-- A read in the cycle of a write is served before it (R607). -/
theorem registerWrite_readsFirst (p : Pf) (o n : Nat) (v : W32) (l : List RegRead) (up : running s = true) :
    exec (.registerWrite p o n v l) s = exec (.registerWrite p o n v) (l.foldl (fun s x => readReg x s) s) := by
  have both := foldl_keeps (fun w => (running w, rcvPresented w)) readReg_running l s
  obtain ⟨runs, shown⟩ := Prod.mk.inj both
  exact congrArg Host.Outcome.next
    ((if_neg (by rw [running_unpresented up]; decide)).trans ((if_neg (by rw [up]; decide)).trans
      ((if_neg (by rw [shown, running_unpresented up]; decide)).trans (if_neg (by rw [runs, up]; decide))).symm))

/-! ## Single registers -/

/-- The staging buffer after a write of its first word. -/
theorem stageWord_first (v : W32) (b : Bytes) :
    slice (stageWord 0 v b) 0 4 = le32 v.toNat ∧ (stageWord 0 v b).drop 4 = b.drop 4 := by
  have four : (leBytes 4 v.toNat).length = 4 := leBytes_length 4 _
  constructor
  · exact List.take_left' four
  · exact List.drop_left' four

/-- A timeout in range is taken, with its override (R312). -/
theorem writePci_ctoInRange (v : W32) (low : 1 ≤ (fieldOf 0 12 v : BitVec 12).toNat)
    (high : (fieldOf 0 12 v : BitVec 12).toNat ≤ 4000) : writePci 0x708 v s =
      { s with ctoMs := fieldOf 0 12 v, ctoBad := s.ctoBad && !v.getLsbD 12, ctoOverride := v.getLsbD 31 } := by
  unfold writePci
  simp only [Nat.reduceEqDiff, if_false, if_true]
  rw [if_pos ⟨low, high⟩]

theorem writePci_ctoOutOfRange (v : W32)
    (out : (fieldOf 0 12 v : BitVec 12).toNat = 0 ∨ 4000 < (fieldOf 0 12 v : BitVec 12).toNat) :
    writePci 0x708 v s = { s with ctoBad := true } := by
  have unfit : ¬(1 ≤ (fieldOf 0 12 v : BitVec 12).toNat ∧ (fieldOf 0 12 v : BitVec 12).toNat ≤ 4000) := by omega
  unfold writePci
  simp only [Nat.reduceEqDiff, if_false, if_true]
  rw [if_neg unfit]

theorem writeFtl_share (v : W32) (low : 1 ≤ (fieldOf 0 3 v : BitVec 3).toNat)
    (high : (fieldOf 0 3 v : BitVec 3).toNat ≤ 4) : writeFtl 0xC08 v s =
      { s with
        ftl.rebuildShare := (fieldOf 0 3 v : BitVec 3).toNat
        ftl.parBad := s.ftl.parBad && !v.getLsbD 3 } := by
  unfold writeFtl
  simp only [Nat.reduceEqDiff, if_false, if_true]
  rw [if_pos ⟨low, high⟩]

/-- An argument of the recovery mailbox takes its value while the recovery interface is presented (R126). -/
theorem mailboxArgument_taken (p : Pf) (v : W32) (rcv : rcvPresented s = true) :
    exec (.registerWrite p 0x10000008 4 v) s = .next { s with rcv := { s.rcv with arg1 := v } } :=
  congrArg Host.Outcome.next (if_pos rcv)

end

end Sys2Proof.Machine

open Sys2Proof Sys2Proof.Machine

/-- Settles O54, offset by offset: `registerWrite_writes` gives `writeReg` of the offset, which names the register. -/
theorem registerWritesFollowTheirCodes : Obligations.RegisterWritesFollowTheirCodes := by
  refine ⟨fun s p o n v rcv unfit => registerWrite_ignored p v rcv unfit,
    fun s p v up => registerWrite_writes p v up (o := 0) rfl, fun s p v up => ?_, fun s p v up low high => ?_,
    fun s p v up out => ?_, fun s p v up => registerWrite_writes p v up (o := 0x808) rfl, fun s p v up => ?_,
    fun s p v up low high => ?_, fun s p v up => ?_, fun s p v up => ?_, fun s p v up => ?_,
    fun s p o n v l up => registerWrite_readsFirst p o n v l up, fun s p v rcv => mailboxArgument_taken p v rcv⟩
  · refine ⟨_, registerWrite_writes p v up (o := 0x404) rfl, rfl, ?_⟩
    exact Same.put (Same.refl _ _) rfl
  · refine ⟨_, (registerWrite_writes p v up (o := 0x708) rfl).trans
      (congrArg Host.Outcome.next (writePci_ctoInRange v low high)), rfl, rfl, rfl, ?_⟩
    exact Same.put (Same.put (Same.put (Same.refl _ _) rfl) rfl) rfl
  · exact (registerWrite_writes p v up (o := 0x708) rfl).trans
      (congrArg Host.Outcome.next (writePci_ctoOutOfRange v out))
  · refine ⟨_, registerWrite_writes p v up (o := 0x600) rfl, rfl, rfl, rfl, ?_⟩
    exact Same.put (Same.refl _ _) rfl
  · refine ⟨_, (registerWrite_writes p v up (o := 0xC08) rfl).trans
      (congrArg Host.Outcome.next (writeFtl_share v low high)), rfl, ?_⟩
    exact Same.put (Same.refl _ _) rfl
  · obtain ⟨first, rest⟩ := stageWord_first v s.hold.stage
    exact ⟨_, registerWrite_writes p v up (o := 0xE80) rfl, first, rest, Same.put (Same.refl _ _) rfl⟩
  · exact ⟨_, registerWrite_writes p v up (o := 0x2000) rfl, congrArg Host.Outcome.next (if_pos up)⟩
  · exact ⟨_, registerWrite_writes p v up (o := 0xB00) rfl, congrArg Host.Outcome.next (if_pos up)⟩
end
